-- ==== Sys2Proof/Word.lean ====
section
/-! DEFINITION. The word and byte of the block and the plain data its commands carry: what a sender of commands hands in where the spec's event
brings a measurement, bytes read from host memory, or a message of another die or module. -/

namespace Sys2Proof

abbrev Word := BitVec 32
abbrev Byte := BitVec 8

abbrev Tier := Fin 16
/-- Cell n as n - 1 (R4 numbers cells from 1). -/
abbrev Cell := Fin 192
abbrev HopNo := Fin 17

/-- The access paths of Window A (R432, R380): PCIe, SPI, an access forwarded over the Causeway, and a CFG_READ's or CFG_WRITE's own. Two more name the other requests that
reach the endpoint: one to Window B (R388, R500), and one to Window A that is not 32 bits wide (R387). -/
inductive Path where
  | pcie | spi | fwd | cmd | pcieB | pcieWide
deriving DecidableEq, Repr

/-- A message the block sends on the Causeway or by radio, other than a CHAIN record. -/
inductive CwMessage where
  | token | identifier | sync | heartbeat | tag | wakeTone | breakNotice | forwardRequest | forwardResponse | radioPacket
deriving DecidableEq, Repr

/-- What suspends DMA (R414): loss of the data link without PERST_N, Bus Master Enable = 0, D3hot. -/
inductive SuspendCause where
  | linkDown | busMaster | d3hot
deriving DecidableEq, Repr

/-- A submission descriptor (R397) but for its opcode. `wfail` is no field of it: whether the writes of the command's data to host memory fail (R400). -/
structure Desc where
  tag   : BitVec 16
  resvd : Byte
  p0    : Word
  addr  : BitVec 64
  p1    : Word
  p2    : Word
  p3    : Word
  p4    : Word
  wfail : Bool := false
deriving DecidableEq, Repr

/-- A configuration-space request (R83, R385): a read of a dword, or a write of one of the controls the spec names, BAR0 to BAR3 among them. -/
inductive CfgRequest where
  | read (offset : BitVec 12)
  | busMaster (on : Bool)
  | msix (enable mask : Bool)
  | power (d3hot : Bool)
  | ptm (on : Bool)
  | aspmL1 (enter : Bool)
  | bar (i : Fin 4) (v : Word)
deriving DecidableEq, Repr

/-- What enumeration of the Boardwalk found (R317): how many tiers the foot token numbered, and the head token, and the identifier every tier reported. -/
structure EnumResult where
  foot : Fin 17
  head : Fin 17
  ids  : List Word
deriving DecidableEq, Repr

/-- The outcome of a self-test of one target whose counter reached its terminal count (R485, R486): whether anything failed, the failing rows (macro, row), what the
failure registers show, and whether the write of the repair record failed its read-back. -/
structure TestResult where
  target  : Byte
  engine  : BitVec 4
  fail    : Bool
  rows    : List (Nat × Nat)
  addr    : Word
  row     : BitVec 16
  bit     : BitVec 6
  count   : Word
  sig     : Word
  recFail : Bool
deriving DecidableEq, Repr

/-- What an alignment finds for a tier: its path delays in 100 ps (R114, R146) and its die temperature in 1/128 degree (R117). -/
structure PathDelay where
  tier : Tier
  foot : BitVec 16
  head : BitVec 16
  die  : Int
deriving DecidableEq, Repr

/-- What an enumeration of the Causeway finds at the root (R354): followers numbered from the north port, whether the token came back to the south port and the
UNAS it then carried, followers numbered from the south port where it did not, the identifiers of addresses 1 to 31, and the rate code at which each hop of the
ring trained (R353). -/
structure CwEnum where
  north : Fin 32
  whole : Bool
  unas  : BitVec 6
  south : Fin 32
  ids   : List Word
  rates : List (BitVec 2) := []
deriving DecidableEq, Repr

/-- The four bytes of the tag that a Causeway message carries (R374), and how many frames ago its sending began as the receiver reckons. -/
structure Tagged where
  tag : List Byte
  ago : Nat
deriving DecidableEq, Repr

/-- A token as a module receives it (R354): the next address, the count of unassigned modules, its tag. -/
structure EnumToken where
  next   : BitVec 6
  unas   : BitVec 6
  tagged : Tagged
deriving DecidableEq, Repr

/-- What a follower that locks hears of the root (R358, R359): the frame number of the tick, and the PTM master time. -/
structure RootFrame where
  frame : BitVec 55
  ptmNs : BitVec 64
deriving DecidableEq, Repr

/-- A forward request as a module receives it (R380): the address it is for, operations (write, offset, value) and its tag. -/
structure ForwardMessage where
  target : Fin 32
  ops    : List (Bool × BitVec 20 × Word)
  tagged : Tagged
deriving DecidableEq, Repr

/-- What a forward response says (R380): whether the request was refused, the operations executed, and the values read. -/
structure ForwardAnswer where
  refused  : Bool
  executed : BitVec 5
  vals     : List Word
deriving DecidableEq, Repr

/-- A hop that trains again (R317, R323): the hop, and the factory identifiers of the tiers as the enumeration of the restored ring reads them. -/
structure HopReturn where
  hop : HopNo
  ids : List Word
deriving DecidableEq, Repr

/-- A sync block as it reaches a module (R358, R362): whether another root sent it, its frame number bits, acknowledgements and unassigned count, and what the
follower's clock makes of it: tick error in 10 ns and trim in 0.1 ppm; at the root, code violations of hops since its last one (R383). -/
structure SyncBlock where
  foreign : Bool
  frame   : Word
  acks    : Word
  unas    : BitVec 6
  phase   : Int
  trim    : Int
  viol    : List (BitVec 6 × Nat) := []
deriving DecidableEq, Repr

/-- A follower's CHAIN record as a module receives it (R363, R364): NODE, header word 1, payload, whether it was resent after a break, and its tag. -/
structure ChainRecord where
  node    : Fin 32
  frame   : Word
  payload : List Word
  resent  : Bool
  tagged  : Tagged
deriving DecidableEq, Repr

/-- How far a boot goes (R82): the reset ends and the straps are sampled; the firmware is verified and loaded; time passes; all the rest, up to the first measurement
frame. -/
inductive BootStage where
  | start | firmware | wait | finish
deriving DecidableEq, Repr

/-- What the boot of R82 finds: how far it goes, the device frame it reaches, counted from the lock of the sample master clock, whether the mask ROM's boot path check fails,
the startup self-tests that fail or repair, the enumerations of Boardwalk and Causeway, the delays the alignment measures, the level of SAFE_IN, the straps, and how many
microseconds after the end of the reset the sample master clock locks, which starts the timestamp (R77; any moment up to the 2 ms of R82: DESIGN CHOICE, log entry 48). -/
structure BootInput where
  stage   : BootStage := .finish
  frames  : Nat
  rom     : Bool
  tests   : List TestResult
  enum    : EnumResult
  delays  : List PathDelay
  cw      : CwEnum
  safeIn  : Bool
  bootsel : Fin 4
  lock    : Nat := 0
deriving DecidableEq, Repr

/-- An operation over JTAG (R53): boundary scan captures the lands, drives the output lands among the LV signal lands, or releases them; a register read. -/
inductive JtagOp where
  | sample
  | extest (lands : List Bool)
  | release
  | read (a : BitVec 20)
deriving DecidableEq, Repr

/-- What a wake finds (R92 to R96): the time in PARK in frames as the wake timer measured it, the frames from the wake event to RUN, the other wake sources that
arrived before RUN, the enumerations of Boardwalk and Causeway, the delays the alignment measures. -/
structure WakeInput where
  parked : Nat
  frames : Nat
  others : List (Fin 4)
  enum   : EnumResult
  delays : List PathDelay
  cw     : CwEnum
deriving DecidableEq, Repr

/-- Code violations seen on one direction of a hop in a frame (R318). -/
structure HopErrs where
  hop  : HopNo
  up   : Bool
  errs : BitVec 16
deriving DecidableEq, Repr

/-- A tier's result block for one frame (R314): which way it came, the hop at which its CRC failed if one did, whether a break cut it before it reached the supervisor,
code violations on its way, and eight first-stage outputs of each channel in codes (cells in local order, then on tier 0 the two current channels). -/
structure TierBlock where
  fromFoot : Bool
  crcFail  : Option HopNo
  cut      : Bool := false
  viol     : List HopErrs := []
  samples  : List (List Int)
deriving DecidableEq, Repr

/-- A tier's auxiliary conversions of one chain tick (R131): ratios in 1/65536, the die temperature in 1/128 degree, the tier
voltage in mV, the divider lands in microvolts. -/
structure AuxInput where
  tier   : Tier
  ratioA : Nat
  ratioB : Nat
  die    : Int
  vt     : Nat
  vdiv1  : Nat
  vdiv2  : Nat
deriving DecidableEq, Repr

/-- One check conversion of a tier (R140, R141): eight conversions of its cell in 100 µV and the eight first-stage outputs of the same raw samples in
codes, aligned for their group delay. -/
structure CheckInput where
  tier : Tier
  sar  : List Nat
  sd   : List Int
deriving DecidableEq, Repr

/-- A reference cross-check of a tier (R143): the disagreement in 100 µV, positive where the check path reads higher. -/
structure RefCross where
  tier : Tier
  diff : Int
deriving DecidableEq, Repr

/-- What one chain tick brings (R154, R292): the internal first-stage mean of every position over the tick in microvolts (cells 1 to 192, then the two
current channels in codes of 10 nV), and V_DS of each cell's FET in microvolts. -/
structure ChainInput where
  avg : List Int
  vds : List Nat
deriving DecidableEq, Repr

/-- The spectra of one cell over the measured segments of its pass (R183): amplitude-scaled single-bin transforms of its voltage (nV) and of its bleed
estimate as passed through the nominal sense network (microamperes), each as real and imaginary part; whether a segment accumulator saturated (R197). -/
structure PointCell where
  cell      : Cell
  volt      : List (Int × Int)
  bleed     : List (Int × Int)
  saturated : Bool
deriving DecidableEq, Repr

/-- The words of the three shared and per-cell tables an adaptation rebuild produced for one cell (R224). -/
structure RefitCell where
  cell : Cell
  words : List (Nat × Word)
deriving DecidableEq, Repr

/-- One Reedline tag as a walk reads it (R336, R339): the seven bytes READ_ID brought and the two of QUERY_SPEED. -/
structure TagWalk where
  id    : List Byte
  speed : List Byte
deriving DecidableEq, Repr

/-- One tag in a Reedline cycle (R336, R343): what each READ_SCRATCH brought, a slot error (none) or eight bytes. -/
structure TagRead where
  attempts : List (Option (List Byte))
deriving DecidableEq, Repr

/-- What a string's line shows when its master runs (R328, R331, R339, R341, R342, R343): for a walk, the tags that acknowledged in order and the longest rise from 0.8 V to 3.0 V in
ns; for a cycle, the tags that acknowledged in order, whether the acknowledge after them had a slot error, and whether one more tag acknowledged; for either, how many attempts at
its CONVERT or WRITE_CONFIG failed (`convert`), and the slot errors besides (`slotErrs`): those of a walk's slots, of presence pulses, and of falls of the line that the master did
not drive, since the run before. -/
structure StringRun where
  tier     : Tier
  tags     : List TagWalk
  rise     : Nat
  slotErrs : Nat
  convert  : Nat
  reads    : List TagRead
  ackErr   : Bool
  more     : Bool
deriving DecidableEq, Repr

/-- A block-reset domain (R465). -/
inductive Domain where
  | fe (t : Nat) | imp | fen | cw | hst | rl (t : Nat) | bw | radio
deriving DecidableEq, Repr

end Sys2Proof
end

