-- ==== Sys2Proof/Syntax.lean ====
section
/-! DEFINITION. The commands: one constructor per row of the table of operations and events, with the row's operands. What a command takes as operands is what its sender
or the outside world decides: a written word, a descriptor and the data read for it, a measurement, what an enumeration finds. -/

namespace Sys2Proof

/-- A command or an event of the block. -/
inductive Instr where
  /-- POWER_ON_RESET (R71): An LV rail below its minimum for more than 2 µs resets the module until 1 ms after all rails are back within limits. -/
  | powerOnReset
  /-- EXTERNAL_RESET (R76): RESET_N held low for at least 10 µs resets the supervisor and every tier and restarts the timestamp at 0. -/
  | externalReset
  /-- CHIP_RESET (R463): A CHIP reaction resets the module 20 µs after detection, recording PWR_CAUSE.CHIP. -/
  | chipReset
  /-- WATCHDOG_EXPIRY (R470): Four frame ticks without a restart expire the watchdog; FAULT_N goes low, HBT goes static, and the module resets with PWR_CAUSE.WDOG. -/
  | watchdogExpiry
  /-- BOOT (R82): At the end of any reset the device runs the timed boot sequence up to the first measurement frame in RUN or SAFE. -/
  | boot (x : BootInput)
  /-- PERST_N_RESET (R413): PERST_N resets the endpoint, returns HST registers to reset, disables the rings, discards the spill and ends PTM. -/
  | perstNReset
  /-- FUNCTION_LEVEL_RESET (R413): A Function Level Reset acts on the endpoint as PERST_N does. -/
  | functionLevelReset
  /-- PCIE_CONFIG_REQUEST (R83): A PCIe configuration request is answered with retry status until firmware verification is complete, and normally after it. -/
  | pcieConfigRequest (r : CfgRequest)
  /-- DMA_SUSPEND (R414): Link loss, Bus Master Enable = 0 or D3hot suspends fetches, completions and messages, and streams behave as full. -/
  | dmaSuspend (c : SuspendCause)
  /-- DMA_RESUME (R414): When the suspending condition ends, work resumes at the next frame and pending vectors are sent. -/
  | dmaResume (c : SuspendCause)
  /-- SAFE_IN_ASSERT (R87): SAFE_IN high for at least 2 µs makes the device enter SAFE within one frame. -/
  | safeInAssert
  /-- PWR_REQUEST_RUN (R88): A RUN request moves the device from STANDBY or SAFE to RUN at the next frame tick, or is refused under R87. -/
  | pwrRequestRun (v : Word)
  /-- PWR_REQUEST_STANDBY (R88): A STANDBY request enters STANDBY at the next frame tick after any step in progress, or is refused from SAFE. -/
  | pwrRequestStandby (v : Word)
  /-- PWR_REQUEST_PARK (R89): A PARK request is refused unless a wake source is effective, and is otherwise accepted at the next frame tick. -/
  | pwrRequestPark (v : Word)
  /-- PARK_ENTRY (R90): The PARK entry sequence completes a commit, flushes the ledger, runs a last frame, switches tiers off or to continuation, and puts the DRAM into self-refresh. -/
  | parkEntry (fail : Option (BitVec 21)) (w : WakeInput)
  /-- WAKE_IN_WAKE (R92): WAKE_IN high for at least 1 ms in PARK wakes the device. -/
  | wakeInWake (w : WakeInput)
  /-- WAKE_TIMER_EXPIRY (R92): PWR_WAKE_TIMER seconds after PARK entry completed, the timer wakes the device. -/
  | wakeTimerExpiry (w : WakeInput)
  /-- CAUSEWAY_WAKE_TONE (R381): At least 2 ms of wake tone on a Causeway port wakes a module in PARK. -/
  | causewayWakeTone (w : WakeInput)
  /-- HOST_WAKE (R92): A rising edge of PERST_N, or CS_N low with SCK toggling, wakes the device from PARK. -/
  | hostWake (perst : Bool) (w : WakeInput)
  /-- TIER_SUPPLY_LOSS (R74): A tier whose VTt falls below 10.5 V stops; its cells carry NODATA and its loss is handled as a Boardwalk break. -/
  | tierSupplyLoss (t : Tier)
  /-- TIER_SUPPLY_RETURN (R74): A tier whose VTt rises above 11.0 V again is re-enumerated and aligned, and then carries SETL. -/
  | tierSupplyReturn (t : Tier)
  /-- LC_TRANSITION (R98): A write of LC_CTL.TARGET with CONFIRM = 0xA5 performs a permitted life-cycle transition, with authentication where required. -/
  | lcTransition (target : BitVec 4)
  /-- LC_NEW_CHALLENGE (R99): LC_CTL.NEW_CHALLENGE places a fresh 128-bit random challenge in LC_CHALLENGE. -/
  | lcNewChallenge
  /-- LC_STORE_SERVICE_KEY (R101): KEY_OP 1 with CONFIRM stores the service public key from LC_KEY and clears LC_KEY. -/
  | lcStoreServiceKey
  /-- LC_STORE_CAUSEWAY_KEY (R101): KEY_OP 2 with CONFIRM stores the Causeway key from LC_KEY and clears LC_KEY. -/
  | lcStoreCausewayKey
  /-- CFG_COMMIT (R105): A write of CFG_CTL.COMMIT = 1 requests a commit of the configuration copy. -/
  | cfgCommit
  /-- NV_COMMIT (R403): The NV_COMMIT command requests a configuration commit and completes when the commit ends. -/
  | nvCommit (q : Fin 16) (d : Desc)
  /-- CONFIG_COMMIT_CAPTURE (R105): At the next frame tick the active values are captured, and the inactive copy is invalidated and written. -/
  | configCommitCapture
  /-- CONFIG_COMMIT_DONE (R105): After read-back and CRC, MARKER is written and the copy becomes active, or the commit ends with VERIFY. -/
  | configCommitDone (ok : Bool)
  /-- FRAME_TICK (R26): The frame tick advances the frame number and performs the coinciding boundary actions in their fixed order. -/
  | frameTick (ptmNs : BitVec 64)
  /-- CHAIN_TICK (R24): Every frame whose number is a multiple of 20 starts chain-tick work. -/
  | chainTick (x : ChainInput)
  /-- MODEL_STEP_BOUNDARY (R214): At a step boundary any pending swap takes effect and the full-layer step begins over its interval. -/
  | modelStepBoundary
  /-- STEP_LENGTH_CHANGE (R25): An accepted new step length takes effect at the first old boundary that is a multiple of the new length. -/
  | stepLengthChange
  /-- DOORBELL_FETCH (R394): A due fetch reads line 0 of the doorbell page, and lines 1 to 3 when required, and checks the values read. -/
  | doorbellFetch (lines : Option (List Word)) (bad : List (Fin 16))
  /-- TIER_RESULT_BLOCK (R314): A tier's result block for frame F arrives at the supervisor during COLLECT. -/
  | tierResultBlock (t : Tier) (k : TierBlock)
  /-- COLLECT_DEADLINE (R30): At 10.0 µs tiers whose data have not arrived are marked NODATA for the frame. -/
  | collectDeadline
  /-- SLUICE_EVAL (R27): Threshold and plausibility checks on frame results update sticky and live bits and start reactions. -/
  | sluiceEval
  /-- EMIT (R27): The frame's records are placed in stream rings, spill, SPI FIFOs, capture rings and snapshot windows, in order. -/
  | emit (n : Nat)
  /-- STATUS_PAGE_WRITE (R396): The status page is written to host memory and pending MSI-X vectors are sent. -/
  | statusPageWrite
  /-- STAGE_OVERRUN (R31): A stage not done by the end of its interval overruns; it sets GEN_OVR_STATUS, counts, issues EVENT 0x10 and raises FRAME_OVR. -/
  | stageOverrun (stage : Fin 6)
  /-- AUX_CONVERSION_DONE (R131): A tier's auxiliary conversions complete within the first two frames of the chain tick. -/
  | auxConversionDone (xs : List AuxInput)
  /-- FILTER_OUTPUT (R151): At the end of each k-frame window the second stage produces one output per channel, with its words and flags. -/
  | filterOutput (codes : List Int)
  /-- OPEN_WIRE_TEST (R136): In a diagnostic frame each enabled tier applies a test current to one tap of its rotation. -/
  | openWireTest
  /-- CHECK_CONVERSION (R140): In chain tick i of a 20 ms cycle each tier's check converter takes eight conversions of local cell i + 1. -/
  | checkConversion (ks : List CheckInput)
  /-- CHECK_REF_CROSS (R143): In chain tick 12 of the cycle the converters cross-check their references and may raise FE_CHK_REF. -/
  | checkRefCross (ks : List RefCross)
  /-- FE_COMMIT (R162): A write of FE_COMMIT.COMMIT = 1 requests that the measurement shadow set be applied at the next frame tick. -/
  | feCommit (v : Word)
  /-- MEASUREMENT_COMMIT_APPLY (R163): At the commit tick the sampled shadow set is checked and applied, or is rejected whole. -/
  | measurementCommitApply
  /-- QUIET_INTERVAL_START (R172): At the tick of frame F − L + 1 every bleed FET of every tier is switched off for a QUIET output. -/
  | quietIntervalStart
  /-- QUIET_INTERVAL_END (R172): At the tick of frame F + 1 bleeding resumes after the QUIET output. -/
  | quietIntervalEnd
  /-- FE_ALIGN_RUN (R120): A write of FE_ALIGN_CTL.RUN = 1 records a fine-alignment request. -/
  | feAlignRun
  /-- FINE_ALIGNMENT_START (R120): At the first chain tick after the request, ALIGN_BUSY sets and markers are measured on every hop. -/
  | fineAlignmentStart
  /-- FINE_ALIGNMENT_APPLY (R120): At tick C + 20 the new delays take effect, ALIGN_VALID sets and DRIFT clears. -/
  | fineAlignmentApply (ds : List PathDelay)
  /-- TIER_ALIGNMENT (R523): After enumeration the tiers concerned are aligned coarse then fine and deliver results from C + 40. -/
  | tierAlignment (ds : List PathDelay)
  /-- POLICY_NOTCH_PLACEMENT (R168): A policy notch placement or withdrawal applies at a frame tick and sets SETL. -/
  | policyNotchPlacement
  /-- RIPPLE_CAPTURE_DONE (R275): Once per step in AUTO, 4,096 current samples are analysed and the notches with SRC = 1 are placed. -/
  | rippleCaptureDone (lines : List (Nat × Nat))
  /-- IMP_START (R194): A write of IMP_CTL.START = 1 requests a sweep of slot SLOT. -/
  | impStart (v : Word)
  /-- IMP_SWEEP (R403): The IMP_SWEEP command requests a sweep of a slot and completes at acceptance or at the sweep's end. -/
  | impSweep (q : Fin 16) (d : Desc)
  /-- SWEEP_ACCEPT (R195): At the next frame tick a sweep request is checked and accepted or refused. -/
  | sweepAccept
  /-- IMP_ABORT (R196): A write of IMP_CTL.ABORT = 1 ends the running sweep at the next frame tick with RESULT 3. -/
  | impAbort (v : Word)
  /-- IMP_HOST_GO (R181): A write of IMP_CTL.HOST_GO = 1 begins the waiting HOST point at the next frame tick. -/
  | impHostGo (v : Word)
  /-- IMP_PASS_START (R181): A pass begins at the first frame tick after the previous pass ends. -/
  | impPassStart
  /-- IMP_POINT_END (R184): At the end of a point the impedance and coherence are computed and an IMP record is produced. -/
  | impPointEnd (refs : List (List (Int × Int))) (cells : List PointCell)
  /-- FEN_STEP_COMPLETE (R214): A completed full-layer step toggles HALF, increments FEN_STEP_NUM and records its time. -/
  | fenStepComplete
  /-- STEP_OVERRUN (R215): A step not complete by S + T is abandoned, counted and raises FEN_STEP_OVR. -/
  | stepOverrun
  /-- FEN_HALT (R216): CONSEC reaching 8 sets HALTED, raises FEN_HALT and stops the full layer. -/
  | fenHalt
  /-- FEN_RESUME (R216): A write of FEN_CTL.RESUME = 1 leaves HALTED at the next step boundary. -/
  | fenResume (v : Word)
  /-- FEN_STEP_WRITE (R221): A write of FEN_CTL.STEP is fit-tested and accepted as pending, or refused. -/
  | fenStepWrite (v : Word)
  /-- FEN_THROTTLE_CHANGE (R218): The supervisor junction crossing 118 °C or 112 °C changes the engine clock and raises FEN_THROTTLE. -/
  | fenThrottleChange (temp : Int)
  /-- CURRENT_HOLD_LIMIT (R201): After 1,000 consecutive held chain ticks the integrator takes I_pack as 0 and sets NOCUR. -/
  | currentHoldLimit
  /-- ADAPT_REBUILD_START (R224): With ADAPT_EN, an active image and RUN, adaptation starts rebuilding the inactive copy. -/
  | adaptRebuildStart
  /-- ADAPT_REBUILD_DONE (R225): A finished rebuild is checked and sets a pending swap, or counts a failure. -/
  | adaptRebuildDone (cells : List RefitCell) (crcOk : Bool)
  /-- LAYOUT_STEP_DONE (R259): On completion of the layout step IMG_VALID sets, FEN_IMG_ID is updated and STATE returns to VALID. -/
  | layoutStepDone
  /-- FEN_NODE_SEL (R232): A write of FEN_NODE_SEL.INDEX loads the selected node's values and sets VALID within 2 µs. -/
  | fenNodeSel (v : Word)
  /-- FEN_IMG_WADDR (R256): A write of FEN_IMG_WADDR sets the staging offset and moves STATE to LOADING. -/
  | fenImgWaddr (v : Word)
  /-- FEN_IMG_WDATA (R256): A write of FEN_IMG_WDATA stores one word at WADDR and advances it by 4, or is ignored with WR_IGN. -/
  | fenImgWdata (v : Word)
  /-- IMG_VALIDATE (R254): FEN_IMG_CTL.VALIDATE starts validation of the staged bytes. -/
  | imgValidate (v : Word)
  /-- IMG_VALIDATION_DONE (R254): Validation ends with STATE VALID or REJECTED with a code and an offset. -/
  | imgValidationDone
  /-- IMG_SWAP_REQUEST (R257): A write of FEN_IMG_CTL.SWAP = 1 requests a swap, repeating checks 11 and 15 to 17. -/
  | imgSwapRequest (v : Word)
  /-- IMG_SWAP (R403): The IMG_SWAP command requests a swap and completes at acceptance. -/
  | imgSwap (q : Fin 16) (d : Desc)
  /-- IMG_CLEAR (R234): FEN_IMG_CTL.CLEAR moves STATE to EMPTY where permitted, and is otherwise ignored with WR_IGN. -/
  | imgClear (v : Word)
  /-- IMG_LOAD (R255): The IMG_LOAD command copies bytes from host memory into staging and may validate and swap. -/
  | imgLoad (q : Fin 16) (d : Desc) (data : Option (List Word))
  /-- IMAGE_BUILD_START (R257): After an accepted swap, building of the inactive copy begins at the next frame tick. -/
  | imageBuildStart
  /-- IMAGE_BUILD_DONE (R258): The built copy is read back and checked, and then sets SWAP_PEND or returns STATE to VALID. -/
  | imageBuildDone (crcOk : Bool)
  /-- POLICY_MODE_CHANGE (R271): A new POL_CTL.MODE takes effect at the next step boundary with the effects of R272. -/
  | policyModeChange
  /-- POL_OVR_GO (R279): POL_OVR_CTL.GO = 1 submits an override request, refused at once when 16 are waiting. -/
  | polOvrGo (v : Word)
  /-- POL_OVR_CLEAR (R279): GO with CLEAR = 1 requests removal of the override of that KIND and TARGET. -/
  | polOvrClear (v : Word)
  /-- POL_OVERRIDE (R402): The POL_OVERRIDE command submits an override request with the POL_OVR_CTL fields. -/
  | polOverride (q : Fin 16) (d : Desc)
  /-- OVERRIDE_TAKEUP (R279): Waiting override requests are accepted, replaced, cleared or refused at the next step boundary. -/
  | overrideTakeup
  /-- OVERRIDE_EXPIRY (R279): An override ends after DURATION completed steps and is journalled. -/
  | overrideExpiry
  /-- HISTOGRAM_SECOND (R284): Once per second each present cell's histogram counter is incremented. -/
  | histogramSecond
  /-- LEDGER_PERIODIC_FLUSH (R286): Every 12,000,000 frames after the previous flush, the ledger mirror is flushed. -/
  | ledgerPeriodicFlush
  /-- LED_FLUSH (R286): A write of LED_CTL.FLUSH = 1 flushes the mirror, merged into a flush in progress. -/
  | ledFlush (v : Word)
  /-- LED_ERASE (R287): LED_CTL.ERASE with CONFIRM erases the ledger in FACTORY or SERVICE, or sets ERASE_REFUSED. -/
  | ledErase (v : Word)
  /-- LEDGER_FLUSH_DONE (R286): A finished flush updates the header copy, or sets FLUSH_FAIL and journals KIND 0x0A. -/
  | ledgerFlushDone (fail : Option (BitVec 21))
  /-- LED_RD_CTL (R288): A write of LED_RD_CTL selects a ledger item and restarts the read. -/
  | ledRdCtl (v : Word)
  /-- LED_RD_DATA (R288): A read of LED_RD_DATA returns the next word of the selected ledger item. -/
  | ledRdData (p : Path)
  /-- LEDGER_READ (R403): The LEDGER_READ command writes words of a ledger region from the mirror to host memory. -/
  | ledgerRead (q : Fin 16) (d : Desc)
  /-- BAL_SETREG (R300): A write of BAL_SETREG adds one entry to the frame's register set, applied at the next tick. -/
  | balSetreg (v : Word)
  /-- BAL_SET (R403): The BAL_SET command reads up to 192 timer entries that apply together at one tick. -/
  | balSet (q : Fin 16) (d : Desc) (data : Option (List Word))
  /-- BAL_SET_APPLY (R300): At the tick, BAL_SET and BAL_SETREG sets are checked and applied or refused, in order. -/
  | balSetApply
  /-- BAL_MODE_CHANGE (R298): A new BAL_CTL.MODE takes effect at the next frame tick and zeroes every timer, target and charge. -/
  | balModeChange
  /-- AUTO_TARGET_APPLY (R301): An AUTO target or BAL override is converted to a timer at a frame tick. -/
  | autoTargetApply
  /-- BAL_PERIOD_BOUNDARY (R294): Every 20,000 frames the active timers decrement. -/
  | balPeriodBoundary
  /-- BAL_SLOT_BOUNDARY (R293): Every 1,250 frames each cell's gate is set from its applied duty and its slot window. -/
  | balSlotBoundary
  /-- BAL_TIMER_EXPIRY (R294): A timer that reaches 0 ends the cell's bleeding at that boundary. -/
  | balTimerExpiry (c : Cell)
  /-- CHARGE_TARGET_MET (R301): Bleeding stops at the first tick at which BAL_CHARGE reaches the AUTO target. -/
  | chargeTargetMet
  /-- TIER_MARKER_LOSS (R306): A tier without markers for four frames beyond holdover switches its FETs off, clears its timers and sets LOST. -/
  | tierMarkerLoss (t : Tier)
  /-- BW_REENUM (R317): A write of BW_CTL.REENUM = 1 enumerates the Boardwalk again. -/
  | bwReenum (v : Word) (e : EnumResult)
  /-- BW_CLR_CNT (R325): A write of BW_CTL.CLR_CNT = 1 clears the Boardwalk event and error counters. -/
  | bwClrCnt (v : Word)
  /-- HOP_BREAK (R318): Loss of lock, a late marker or repeated errors declare a hop broken in both directions. -/
  | hopBreak (h : HopNo) (up : Bool) (errs : BitVec 16)
  /-- HOP_RESTORE (R323): A broken hop that has trained and carried RESTORE error-free frames is restored at a chain tick. -/
  | hopRestore (x : HopReturn)
  /-- CONTROL_BLOCK (R315): A tier applies the frame's control block of settings and gate commands, or delivers NODATA if it missed it. -/
  | controlBlock (t : Tier) (missed : Bool)
  /-- RL_WALK (R339): A write of RL_CTL.WALK = 1 requests a full walk of every string. -/
  | rlWalk (v : Word)
  /-- RL_LEARN (R340): A write of RL_CTL.LEARN = 1 copies every tier's COUNT into EXPECT. -/
  | rlLearn (v : Word)
  /-- REEDLINE_CYCLE (R342): At a cycle boundary each string converts all tags and reads each scratchpad in chain order. -/
  | reedlineCycle (xs : List StringRun)
  /-- RL_LINE_SHORT (R346): The line held low for 2 ms without the master driving it raises RL_SHORT and stops the string. -/
  | rlLineShort (t : Tier)
  /-- RL_SHORT_RECOVERY (R346): After the line has stayed high for 10 ms the string restarts with a full walk. -/
  | rlShortRecovery (t : Tier)
  /-- RL_TAG_SEL (R349): A write of RL_TAG_SEL copies the selected tag's data into the tag registers. -/
  | rlTagSel (v : Word)
  /-- CW_REENUM (R354): A write of CW_CTL.REENUM = 1 makes the root enumerate the Causeway again. -/
  | cwReenum (v : Word) (e : CwEnum)
  /-- CW_ENUM_TOKEN (R354): A follower receiving an enumeration token takes an address or becomes UNASSIGNED and passes the token on. -/
  | cwEnumToken (south : Bool) (node : Fin 32) (x : EnumToken)
  /-- CW_LEARN (R354): A write of CW_CTL.LEARN = 1 copies the found topology into the expected values. -/
  | cwLearn (v : Word)
  /-- CW_RENEG (R353): A write of CW_CTL.RENEG = 1 retrains every hop at the next chain tick. -/
  | cwReneg (v : Word)
  /-- CW_HOP_TRAINING (R353): A hop with both ends powered trains from the slower advertised rate downward. -/
  | cwHopTraining (h : BitVec 7) (peer : BitVec 2) (fails : Fin 5)
  /-- CW_WAKE_TX (R381): A write of CW_CTL.WAKE_TX = 1 sends a 10 ms wake tone from a running module. -/
  | cwWakeTx (v : Word)
  /-- SYNC_BLOCK (R358): A follower receiving a sync block trims its clock toward the root's tick and locks after 20 frames. -/
  | syncBlock (x : SyncBlock)
  /-- FRAME_NUMBER_JUMP (R359): At the first tick after first lock the follower sets CW_FRAME_OFS so that its frame number equals the root's. -/
  | frameNumberJump (x : RootFrame)
  /-- SYNC_LOSS (R361): After 20 frames without sync the follower clears LOCKED, holds its trim and raises CW_SYNC. -/
  | syncLoss
  /-- HEARTBEAT_RECEIVE (R373): The root records a follower's heartbeat severity and FAULT bit. -/
  | heartbeatReceive (node : Fin 32) (fault : Bool) (sev : BitVec 2)
  /-- CW_HB_LOST (R372): WIRE_MISS missing frames or RADIO_MISS missing superframes raise CW_HB_LOST[a]. -/
  | cwHbLost (node : Fin 32)
  /-- CHAIN_RECORD_RECEIVE (R364): The root completes a follower's CHAIN record, acknowledges it and discards duplicates. -/
  | chainRecordReceive (r : ChainRecord)
  /-- CW_TAG_RECEIVE (R375): A message tag is verified, and failures discard the message and may raise CW_AUTH. -/
  | cwTagReceive (node : Fin 32) (kind : Byte) (content : List Byte) (tag : List Byte)
  /-- CW_HOP_BREAK (R369): A Causeway hop direction is declared broken, and the modules next to it reverse and resend. -/
  | cwHopBreak (h : BitVec 7) (fwd : Bool)
  /-- CW_ROUTE_RESTORE (R371): Forward routing is restored once every hop is trained, error-free and every follower is reachable. -/
  | cwRouteRestore
  /-- CW_PROFILE_CHANGE (R365): The CHAIN profile set by the slowest hop takes effect at a chain tick that is a multiple of 10. -/
  | cwProfileChange (slow : BitVec 2)
  /-- RADIO_SUPERFRAME (R377): Every 200 frames each addressed module transmits its radio packet in its slot. -/
  | radioSuperframe
  /-- RADIO_PACKET_RECEIVE (R377): A received radio packet gives heartbeat, sync or report segments. -/
  | radioPacketReceive (bytes : List Byte)
  /-- RADIO_LOSS (R379): Ten consecutive superframes without a packet raise CW_RADIO. -/
  | radioLoss
  /-- CW_FWD_GO (R380): A write of CW_FWD_CTL.GO = 1 forwards one register access to a follower. -/
  | cwFwdGo (v : Word)
  /-- CW_FORWARD (R403): The CW_FORWARD command forwards up to 16 register operations to a follower. -/
  | cwForward (q : Fin 16) (d : Desc) (data : Option (List Word))
  /-- FORWARD_REQUEST (R380): A target performs the operations of a forward request between two of its frame ticks. -/
  | forwardRequest (m : ForwardMessage)
  /-- FORWARD_RESPONSE (R380): The root receives a forward response and completes the forwarding. -/
  | forwardResponse (node : Fin 32) (q : Option (Fin 16)) (x : ForwardAnswer) (t : Tagged)
  /-- FORWARD_TIMEOUT (R380): No response within 40 frames ends the forwarding with result 2. -/
  | forwardTimeout
  /-- HST_DBB_FETCH (R388): A write fetches line 0 of the doorbell page at the next DOORBELL stage. -/
  | hstDbbFetch
  /-- HST_DBB_FETCH_ALL (R388): A write fetches lines 0 to 3 of the doorbell page at the next DOORBELL stage. -/
  | hstDbbFetchAll
  /-- HST_DBB_TIME (R412): A write latches the device timestamp at its arrival into HST_TIME[0] and HST_TIME[1]. -/
  | hstDbbTime
  /-- HST_DBB_SQ (R388): A write gives a candidate SQ_PI[q], taken at the next DOORBELL stage if it is later. -/
  | hstDbbSq (q : Fin 16) (v : Word)
  /-- CFG_WRITE (R404): The CFG_WRITE command writes a batch of registers between two ticks and commits RWS fields at one tick. -/
  | cfgWrite (q : Fin 16) (d : Desc) (data : Option (List Word))
  /-- CFG_READ (R404): The CFG_READ command reads listed registers between two ticks into host memory. -/
  | cfgRead (q : Fin 16) (d : Desc) (data : Option (List Word))
  /-- CAP_PULL (R444): The CAP_PULL command copies a range of a capture ring to host memory. -/
  | capPull (q : Fin 16) (d : Desc) (pace : Option (BitVec 27))
  /-- BIST_RUN (R483): The BIST_RUN command requests a host-started self-test run. -/
  | bistRun (q : Fin 16) (d : Desc)
  /-- FW_UPDATE (R405): The FW_UPDATE command writes the non-running firmware copy and, with FINAL, verifies it. -/
  | fwUpdate (q : Fin 16) (d : Desc) (data : Option (List Word)) (readback : Bool)
  /-- TIME_SYNC (R412): The TIME_SYNC command captures the timestamp and PTM time at the next frame tick. -/
  | timeSync (q : Fin 16) (d : Desc)
  /-- COMPLETION_POST (R401): A completion is written to its CQ when there is room, and waits otherwise. -/
  | completionPost (c : Fin 16)
  /-- HST_RING_ENABLE (R392): At the next frame tick a ring is enabled with indices reset, or disabled. -/
  | hstRingEnable
  /-- HST_QUOTA_WRITE (R409): A write of HST_SR_QUOTA is ignored with QUOTA_REJ if the sum would exceed 512. -/
  | hstQuotaWrite (r : Fin 32) (v : Word)
  /-- SPI_READ (R420): An SPI READ frame returns N words from Window A with a status byte and CRC. -/
  | spiRead (h : BitVec 30) (ch : Byte) (cycles : Nat)
  /-- SPI_WRITE (R424): An SPI WRITE frame writes N words at ascending addresses after C_W is checked. -/
  | spiWrite (h : BitVec 30) (ch : Byte) (ws : List Word) (cw : Byte) (cycles : Nat)
  /-- SPI_WRITE_FIXED (R419): An SPI WRITE_FIXED frame writes all N words to one address. -/
  | spiWriteFixed (h : BitVec 30) (ch : Byte) (ws : List Word) (cw : Byte) (cycles : Nat)
  /-- SPI_POP (R428): An SPI POP frame removes N words from the head of a result FIFO. -/
  | spiPop (h : BitVec 30) (ch : Byte) (cycles : Nat)
  /-- SPI_FIFO_SKIP (R430): SPI_FIFO_CTL.SKIP discards the rest of a partly popped record. -/
  | spiFifoSkip (f : Fin 4) (v : Word)
  /-- SPI_FIFO_FLUSH (R430): SPI_FIFO_CTL.FLUSH discards every stored word at the next frame tick. -/
  | spiFifoFlush (f : Fin 4) (v : Word)
  /-- LOW_HALF_READ (R432): A read of the low half of a 64-bit value latches the whole value for the path. -/
  | lowHalfRead (p : Path) (a : BitVec 20)
  /-- HIGH_HALF_READ (R432): A read of the high half returns the latched copy, or the live value with TORN set. -/
  | highHalfRead (p : Path) (a : BitVec 20)
  /-- CAP_RING_ENABLE (R437): At the next tick a capture ring enable takes effect, or is refused with CFG_BAD. -/
  | capRingEnable
  /-- CAP_TRIG (R441): A write of CAP_CTL.TRIG = 1 triggers an armed one-shot ring. -/
  | capTrig (r : Fin 8) (v : Word)
  /-- CAP_ARM (R441): A write of CAP_CTL.ARM = 1 returns a DONE ring to ARMED at the next frame tick. -/
  | capArm (r : Fin 8) (v : Word)
  /-- CAPTURE_DONE (R440): A one-shot ring enters DONE after the RAW record of T + POST and raises CAP_DONE. -/
  | captureDone
  /-- CAP_MARK_WRITE (R443): A write of CAP_MARK sets a rewind mark in the valid span, or sets MARK_REJ. -/
  | capMarkWrite (r : Fin 8) (v : Word)
  /-- CAP_RD_DATA (R445): A read of CAP_RD_DATA returns the word at CAP_RD_POS and advances it by 4. -/
  | capRdData (p : Path)
  /-- CNT_MODE_WRITE (R448): A write of CNT_CFG.MODE starts or stops a counter at the next frame tick. -/
  | cntModeWrite (i : Fin 32) (v : Word)
  /-- CNT_CLEAR (R448): CLEAR, or a change of EVENT or the qualifier, zeroes the counter at the next frame tick. -/
  | cntClear (i : Fin 32) (v : Word)
  /-- CNT_UNFREEZE (R450): A write of CNT_CTL.UNFREEZE = 1 resumes frozen counters at the next frame tick. -/
  | cntUnfreeze (v : Word)
  /-- SUPERVISOR_DETECTOR (R456): A supervisor hardware detector fires and makes its source sticky at once. -/
  | supervisorDetector (src : Fin 8) (detail : Word)
  /-- BLOCK_RESET (R465): A BLK reaction resets the source's domain, beginning at the next frame tick. -/
  | blockReset (d : Domain) (crcBad : Bool)
  /-- SL_STICKY_CLEAR (R471): Writing 1 to a sticky bit clears it if the source is not live, and is otherwise refused. -/
  | slStickyClear (w : Fin 16) (v : Word)
  /-- SL_INJ_SET (R473): In FACTORY a write of SL_INJ_SET injects a condition into the slot at the next frame tick. -/
  | slInjSet (w : Fin 16) (v : Word)
  /-- SL_INJ_CLR (R473): A write of SL_INJ_CLR removes the slot's injection at the next frame tick. -/
  | slInjClr (w : Fin 16) (v : Word)
  /-- BIST_CTL_RUN (R483): A write of BIST_CTL.RUN = 1 requests a host-started run. -/
  | bistCtlRun (v : Word)
  /-- BIST_CTL_ABORT (R485): A write of BIST_CTL.ABORT = 1 ends the host-started run at the next frame tick as ABORTED. -/
  | bistCtlAbort (v : Word)
  /-- BIST_RUN_START (R483): An accepted run starts at the next frame tick and isolates its target. -/
  | bistRunStart
  /-- BIST_RUN_END (R485): A run ends COMPLETE or ABORTED with its result, and the block is re-initialised. -/
  | bistRunEnd (x : TestResult)
  /-- ROLLING_ABIST_START (R481): A due rolling tier ABIST starts at the first chain tick at which its conditions hold. -/
  | rollingAbistStart
  /-- REGISTER_WRITE (R12): A write of a register with no behaviour of its own follows the access code of each field. -/
  | registerWrite (p : Path) (a : BitVec 20) (v : Word)
  /-- SAFE_IN_RELEASE (R466): SAFE_IN going low ends the SL_SAFE_IN live condition and the SAFE_IN hold of the safe state, so that a later RUN request can be accepted. -/
  | safeInRelease
  /-- DETECTOR_CONDITION_END (R457): The condition of a kind-H supervisor detector ends, such as SL_OT below 120 °C or a rail back within limits, and its live bit clears at once. -/
  | detectorConditionEnd (src : Fin 8)
  /-- JTAG_ACCESS (R53): A JTAG operation on TCK, TMS, TDI and TRST_N performs boundary scan of the LV lands, and register reads in FACTORY. -/
  | jtagAccess (o : JtagOp)
  /-- PERST_N_RELEASE (R83): The rising edge of PERST_N outside PARK releases the endpoint from reset, starts link training and starts the 100 ms before configuration requests are answered. -/
  | perstNRelease
  /-- PCIE_LINK_UP (R384): Link training completes at the highest common speed and width, HST_LINK.UP sets and a WAKE_N assertion from wake is released. -/
  | pcieLinkUp (speed : BitVec 2) (x2 : Bool)
  /-- ASPM_L1_ENTRY (R386): In STANDBY, after 10 µs without traffic in either direction, the device initiates ASPM L1 entry. -/
  | aspmL1Entry
  /-- UNKNOWN_OPCODE_DESCRIPTOR (R397): A submission descriptor with an OPCODE that is not listed completes with UNKNOWN_OPCODE and has no effect. -/
  | unknownOpcodeDescriptor (q : Fin 16) (op : Byte) (d : Desc)
deriving DecidableEq, Repr

end Sys2Proof
end

