-- ==== Sys2Proof/WellFormed.lean ====
section
/-! DEFINITION. Which commands a sender can send: operands the spec can bring about. A meaning answers for every operand; a command that is not well-formed stands for
nothing outside. -/

namespace Sys2Proof

/-- A list names nothing twice. -/
def noRepeat {α : Type} [BEq α] : List α → Bool
  | [] => true
  | x :: l => !l.contains x && noRepeat l

/-- A word address of Window A (R493). -/
def aligned (a : BitVec 20) : Bool := a.toNat % 4 == 0

/-- The two tokens number each tier at most once, and sixteen identifiers stand (R317). -/
def EnumResult.wf (e : EnumResult) : Bool := decide (e.foot.val + e.head.val ≤ 16) && e.ids.length == 16

/-- Addresses 1 to 31 cover both directions, and 31 identifiers stand (R354). -/
def CwEnum.wf (e : CwEnum) : Bool := decide (e.north.val + e.south.val ≤ 31) && e.ids.length == 31

/-- A target and an engine of R478, a bit of a 32-bit word or of its check bits. -/
def TestResult.wf (r : TestResult) : Bool := decide (r.target.toNat ≤ 0x15) && decide (1 ≤ r.engine.toNat ∧ r.engine.toNat ≤ 3)

/-- The sample master clock locks at most 2 ms after the reset ends, the boot of R82 takes at most 200 ms from that end, and FAULT_N stays low for at least 200 ms (R51): the
evaluation in the frame after the first measurement frame begins 10 µs into it (R27). The stages of one boot name the same lock. -/
def BootInput.wf (x : BootInput) : Bool := decide (x.lock ≤ 2000 ∧ x.lock + 50 * x.frames ≤ 200000) && (x.stage != .finish || decide (200000 ≤ x.lock + 50 * (x.frames + 1) + 10)) && x.tests.all TestResult.wf && x.enum.wf && noRepeat (x.delays.map PathDelay.tier) && x.cw.wf

/-- A wake reaches RUN or SAFE within 50 ms (R94): 1,000 frames. -/
def WakeInput.wf (x : WakeInput) : Bool := decide (x.frames ≤ 1000) && x.enum.wf && noRepeat (x.delays.map PathDelay.tier) && x.cw.wf

/-- Eight first-stage outputs of every channel of the tier (R314). -/
def TierBlock.wf (t : Tier) (k : TierBlock) : Bool :=
  (k.samples.length == (if t.val = 0 then 14 else 12) && k.samples.all fun xs => xs.length == 8)

/-- Ratios of 16 bits (R131). -/
def AuxInput.wf (x : AuxInput) : Bool := decide (x.ratioA ≤ 65536 ∧ x.ratioB ≤ 65536)

/-- Eight conversions and eight first-stage outputs (R140). -/
def CheckInput.wf (x : CheckInput) : Bool := x.sar.length == 8 && x.sd.length == 8

/-- One or two attempts of eight bytes each (R336, R343). -/
def TagRead.wf (x : TagRead) : Bool :=
  decide (1 ≤ x.attempts.length ∧ x.attempts.length ≤ 2) && x.attempts.all fun a => match a with
    | some bs => bs.length == 8
    | none => true

/-- At most two attempts at CONVERT (R343). -/
def StringRun.wf (x : StringRun) : Bool := decide (x.convert ≤ 2) && x.reads.all TagRead.wf && x.tags.all fun g => g.id.length == 7 && g.speed.length == 2

/-- A tag has four bytes (R374). -/
def Tagged.wf (t : Tagged) : Bool := t.tag.length == 4

/-- Domains of the sixteen tiers (R465). -/
def Domain.wf : Domain → Bool
  | .fe t => decide (t < 16)
  | .rl t => decide (t < 16)
  | .imp => true
  | .fen => true
  | .cw => true
  | .hst => true
  | .bw => true
  | .radio => true

/-- A command that its sender can send. -/
def Instr.wf : Instr → Bool
  | .powerOnReset => true
  | .externalReset => true
  | .chipReset => true
  | .watchdogExpiry => true
  | .boot x => x.wf
  | .perstNReset => true
  | .functionLevelReset => true
  | .pcieConfigRequest _ => true
  | .dmaSuspend _ => true
  | .dmaResume _ => true
  | .safeInAssert => true
  | .pwrRequestRun _ => true
  | .pwrRequestStandby _ => true
  | .pwrRequestPark _ => true
  | .parkEntry _ w => w.wf
  | .wakeInWake w => w.wf
  | .wakeTimerExpiry w => w.wf
  | .causewayWakeTone w => w.wf
  | .hostWake _ w => w.wf
  | .tierSupplyLoss _ => true
  | .tierSupplyReturn _ => true
  | .lcTransition _ => true
  | .lcNewChallenge => true
  | .lcStoreServiceKey => true
  | .lcStoreCausewayKey => true
  | .cfgCommit => true
  | .nvCommit _ _ => true
  | .configCommitCapture => true
  | .configCommitDone _ => true
  | .frameTick _ => true
  | .chainTick x => x.avg.length == 194 && x.vds.length == 192
  | .modelStepBoundary => true
  | .stepLengthChange => true
  | .doorbellFetch lines bad => (match lines with | some ws => ws.length == 64 | none => true) && noRepeat bad
  | .tierResultBlock t k => k.wf t
  | .collectDeadline => true
  | .sluiceEval => true
  | .emit _ => true
  | .statusPageWrite => true
  | .stageOverrun _ => true
  | .auxConversionDone xs => xs.all AuxInput.wf && noRepeat (xs.map AuxInput.tier)
  | .filterOutput codes => codes.length == 194
  | .openWireTest => true
  | .checkConversion ks => ks.all CheckInput.wf && noRepeat (ks.map CheckInput.tier)
  | .checkRefCross ks => noRepeat (ks.map RefCross.tier)
  | .feCommit _ => true
  | .measurementCommitApply => true
  | .quietIntervalStart => true
  | .quietIntervalEnd => true
  | .feAlignRun => true
  | .fineAlignmentStart => true
  | .fineAlignmentApply ds => noRepeat (ds.map PathDelay.tier)
  | .tierAlignment ds => noRepeat (ds.map PathDelay.tier)
  | .policyNotchPlacement => true
  | .rippleCaptureDone _ => true
  | .impStart _ => true
  | .impSweep _ _ => true
  | .sweepAccept => true
  | .impAbort _ => true
  | .impHostGo _ => true
  | .impPassStart => true
  | .impPointEnd refs cells => decide (refs.length ≤ 16) && noRepeat (cells.map PointCell.cell)
  | .fenStepComplete => true
  | .stepOverrun => true
  | .fenHalt => true
  | .fenResume _ => true
  | .fenStepWrite _ => true
  | .fenThrottleChange _ => true
  | .currentHoldLimit => true
  | .adaptRebuildStart => true
  | .adaptRebuildDone cells _ => noRepeat (cells.map RefitCell.cell)
  | .layoutStepDone => true
  | .fenNodeSel _ => true
  | .fenImgWaddr _ => true
  | .fenImgWdata _ => true
  | .imgValidate _ => true
  | .imgValidationDone => true
  | .imgSwapRequest _ => true
  | .imgSwap _ _ => true
  | .imgClear _ => true
  | .imgLoad _ _ _ => true
  | .imageBuildStart => true
  | .imageBuildDone _ => true
  | .policyModeChange => true
  | .polOvrGo _ => true
  | .polOvrClear _ => true
  | .polOverride _ _ => true
  | .overrideTakeup => true
  | .overrideExpiry => true
  | .histogramSecond => true
  | .ledgerPeriodicFlush => true
  | .ledFlush _ => true
  | .ledErase _ => true
  | .ledgerFlushDone _ => true
  | .ledRdCtl _ => true
  | .ledRdData _ => true
  | .ledgerRead _ _ => true
  | .balSetreg _ => true
  | .balSet _ _ _ => true
  | .balSetApply => true
  | .balModeChange => true
  | .autoTargetApply => true
  | .balPeriodBoundary => true
  | .balSlotBoundary => true
  | .balTimerExpiry _ => true
  | .chargeTargetMet => true
  | .tierMarkerLoss _ => true
  | .bwReenum _ e => e.wf
  | .bwClrCnt _ => true
  | .hopBreak _ _ _ => true
  | .hopRestore _ => true
  | .controlBlock _ _ => true
  | .rlWalk _ => true
  | .rlLearn _ => true
  | .reedlineCycle xs => xs.all StringRun.wf && noRepeat (xs.map StringRun.tier)
  | .rlLineShort _ => true
  | .rlShortRecovery _ => true
  | .rlTagSel _ => true
  | .cwReenum _ e => e.wf
  | .cwEnumToken _ _ x => x.tagged.wf
  | .cwLearn _ => true
  | .cwReneg _ => true
  | .cwHopTraining h _ _ => decide (h.toNat ≤ 63)
  | .cwWakeTx _ => true
  | .syncBlock _ => true
  | .frameNumberJump _ => true
  | .syncLoss => true
  | .heartbeatReceive _ _ _ => true
  | .cwHbLost _ => true
  | .chainRecordReceive r => r.tagged.wf
  | .cwTagReceive _ _ _ tag => tag.length == 4
  | .cwHopBreak h _ => decide (h.toNat ≤ 63)
  | .cwRouteRestore => true
  | .cwProfileChange _ => true
  | .radioSuperframe => true
  | .radioPacketReceive bytes => bytes.length == 20 || bytes.length == 52
  | .radioLoss => true
  | .cwFwdGo _ => true
  | .cwForward _ _ _ => true
  | .forwardRequest m => decide (1 ≤ m.ops.length ∧ m.ops.length ≤ 16) && m.tagged.wf && m.ops.all fun o => aligned o.2.1
  | .forwardResponse _ _ x t => decide (x.executed.toNat ≤ 16 ∧ x.vals.length ≤ x.executed.toNat) && t.wf
  | .forwardTimeout => true
  | .hstDbbFetch => true
  | .hstDbbFetchAll => true
  | .hstDbbTime => true
  | .hstDbbSq _ _ => true
  | .cfgWrite _ _ _ => true
  | .cfgRead _ _ _ => true
  | .capPull _ _ _ => true
  | .bistRun _ _ => true
  | .fwUpdate _ _ _ _ => true
  | .timeSync _ _ => true
  | .completionPost _ => true
  | .hstRingEnable => true
  | .hstQuotaWrite _ _ => true
  | .spiRead _ _ _ => true
  | .spiWrite h _ ws _ _ => ws.length == h.toNat / 2 ^ 24 + 1
  | .spiWriteFixed h _ ws _ _ => ws.length == h.toNat / 2 ^ 24 + 1
  | .spiPop _ _ _ => true
  | .spiFifoSkip _ _ => true
  | .spiFifoFlush _ _ => true
  | .lowHalfRead p a => p == .pcie || p == .pcieB || p == .pcieWide || aligned a
  | .highHalfRead p a => p == .pcie || p == .pcieB || p == .pcieWide || aligned a
  | .capRingEnable => true
  | .capTrig _ _ => true
  | .capArm _ _ => true
  | .captureDone => true
  | .capMarkWrite _ _ => true
  | .capRdData _ => true
  | .cntModeWrite _ _ => true
  | .cntClear _ _ => true
  | .cntUnfreeze _ => true
  | .supervisorDetector _ _ => true
  | .blockReset d _ => d.wf
  | .slStickyClear _ _ => true
  | .slInjSet _ _ => true
  | .slInjClr _ _ => true
  | .bistCtlRun _ => true
  | .bistCtlAbort _ => true
  | .bistRunStart => true
  | .bistRunEnd x => x.wf
  | .rollingAbistStart => true
  | .registerWrite p a _ => p == .pcie || p == .pcieB || p == .pcieWide || aligned a
  | .safeInRelease => true
  | .detectorConditionEnd _ => true
  | .jtagAccess o => match o with | .read a => aligned a | .extest l => l.length == 32 | .sample => true | .release => true
  | .perstNRelease => true
  | .pcieLinkUp speed _ => decide (1 ≤ speed.toNat)
  | .aspmL1Entry => true
  | .unknownOpcodeDescriptor _ op _ => decide (op.toNat = 0 ∨ 0x0E < op.toNat)

end Sys2Proof
end

