-- ==== Sys2Proof/Decode.lean ====
section
/-! DEFINITION. Words that spell a command. The table of operations and events gives its rows no bits, so no word spells one: a command reaches the block as itself. -/

namespace Sys2Proof

/-- The command that a word of `nbits` bits spells by the table's bits: none, since no row of the table has bits. -/
def decodeTableWord (_nbits _w : Nat) : Option Instr := none

end Sys2Proof
end

