-- ==== Sys2Proof/Config.lean ====
section
/-! DEFINITION. What the spec leaves open and one part decides: free values. Each is a constant with no body, applied to a counter of the state
(State.freeCtr, the model's own field) or to the operands it depends on; a claim holds whatever it is. Every one is named in the assumption log. -/

namespace Sys2Proof

/-- A free number, drawn afresh with every value of the counter. Log entry 2. -/
opaque Config.free : Nat → Nat

/-- A number the spec states no value for, by place (the log entry's list) and operands. Log entry 6. -/
opaque Config.unstated : (place : Nat) → (args : List Int) → Nat

/-- Which neighbour a fractional value is published as where the spec gives no rounding, by place. Log entry 7. -/
opaque Config.roundUp : (place : Nat) → Rat → Bool

/-- The supply current that the factory calibration gives every tier in RUN, STANDBY and SAFE (R39, R200), in mA, from the calibration constants of the store; it counts
within 2.82 mA ±5 % (R509). Log entry 8. -/
opaque Config.iCommon : (calib : List (Nat × Word)) → Rat

/-- How far a tier's supply current lies from the common value, as a part of it (R39); it counts within ±0.5 %. Log entry 8. -/
opaque Config.iSpread : (calib : List (Nat × Word)) → (tier : Nat) → Rat

/-- The factory-calibrated on-resistance of a cell's bleed FET at a die temperature (1/128 degree), in micro-ohms less one, modulo one ohm (R61, R291). Log entry 8. -/
opaque Config.rOn : (calib : List (Nat × Word)) → (cell : Nat) → (temp : Int) → Nat

/-- Whether the first half period of a BLEED square wave has the FET on (R178). Log entry 9. -/
opaque Config.waveOn : Bool

/-- How the reduction of a tier's regulated current by the charge of an open-wire test's step is spread over frames of its chain tick (R136): the share of a frame, less
one, by tier, test frame and frame. Log entry 10. -/
opaque Config.stepShare : (tier testDev dev : Nat) → Nat

/-- What the mask ROM's checks find in a firmware copy of these bytes (word offset, word) (R79, R405): whether its signature verifies, whether its length fits,
its version, its security version. Log entry 5. -/
opaque Config.firmware : (content : List (Nat × Nat)) → Bool × Bool × Nat × Nat

end Sys2Proof
end

