-- ==== Sys2Proof/Machine/Operands.lean ====
section
/-! DEFINITION. Operand forms: bit fields of a register word, bytes and words in the order of R11, two's complement readings, sign extension,
the two checksums the spec gives (CRC-32 of R103, CRC-8 of R421) and a map in one canonical form. -/

namespace Sys2Proof.Machine

/-- A field of a register: the register's offset in Window A, the field's lowest bit and its length in bits. -/
structure Fld where
  reg : Nat
  lo  : Nat
  len : Nat
deriving DecidableEq, Repr

/-- Bits `[lo + len - 1 : lo]` of `n`. -/
def bitsOf (n lo len : Nat) : Nat := n / 2 ^ lo % 2 ^ len

/-- `n` with bits `[lo + len - 1 : lo]` replaced by the low bits of `v`. -/
def setBitsOf (n lo len v : Nat) : Nat :=
  n % 2 ^ lo + v % 2 ^ len * 2 ^ lo + n / 2 ^ (lo + len) * 2 ^ (lo + len)

/-- Bit `i` of `n`. -/
def bitOf (n i : Nat) : Bool := n / 2 ^ i % 2 == 1

/-- 1 for true, 0 for false. -/
def nat01 (c : Bool) : Nat := if c then 1 else 0

/-- The word with value `n` modulo 2^32. -/
def w32 (n : Nat) : Word := BitVec.ofNat 32 n

/-- Two's complement reading of the low `len` bits of `n`. -/
def signed (len n : Nat) : Int :=
  if n % 2 ^ len < 2 ^ (len - 1) then (n % 2 ^ len : Nat) else (n % 2 ^ len : Nat) - (2 ^ len : Nat)

/-- The low `len` bits of the two's complement form of `i`. -/
def unsigned (len : Nat) (i : Int) : Nat := (i % (2 ^ len : Nat)).toNat

/-- `i` held between `lo` and `hi`. -/
def clampInt (lo hi i : Int) : Int := if i < lo then lo else if hi < i then hi else i

/-- Rounding of `a / d` to nearest with ties away from zero (`d` is not 0). -/
def roundDiv (a d : Int) : Int :=
  let q := (2 * a.natAbs + d.natAbs) / (2 * d.natAbs)
  if (a < 0) = (d < 0) then (q : Nat) else - ((q : Nat) : Int)

/-- The word formed of up to four bytes, low byte first (R11). -/
def wordOfBytes : List Nat → Word
  | a :: b :: c :: d :: _ => w32 (a % 256 + b % 256 * 256 + c % 256 * 65536 + d % 256 * 16777216)
  | a :: b :: c :: [] => w32 (a % 256 + b % 256 * 256 + c % 256 * 65536)
  | a :: b :: [] => w32 (a % 256 + b % 256 * 256)
  | a :: [] => w32 (a % 256)
  | [] => 0

/-- The four bytes of a word, low byte first (R11). -/
def bytesOfWord (w : Word) : List Nat :=
  [w.toNat % 256, w.toNat / 256 % 256, w.toNat / 65536 % 256, w.toNat / 16777216]

/-- One bit of CRC-32 (reflected polynomial 0x04C1_1DB7, R103). -/
def crc32Bit (c : Nat) : Nat := if c % 2 = 1 then (c / 2) ^^^ 0xEDB88320 else c / 2

/-- One byte of CRC-32 (R103). -/
def crc32Byte (c byte : Nat) : Nat :=
  let c := c ^^^ (byte % 256)
  crc32Bit (crc32Bit (crc32Bit (crc32Bit (crc32Bit (crc32Bit (crc32Bit (crc32Bit c)))))))

/-- CRC-32 over bytes: initial value and final XOR 0xFFFF_FFFF (R103). -/
def crc32 (bytes : List Nat) : Nat := bytes.foldl crc32Byte 0xFFFFFFFF ^^^ 0xFFFFFFFF

/-- One bit of the SPI CRC-8: polynomial 0x2F, not reflected (R421). -/
def crc8Bit (c : Nat) : Nat := if c / 128 % 2 = 1 then (c * 2 % 256) ^^^ 0x2F else c * 2 % 256

/-- One byte of the SPI CRC-8, most significant bit first (R421). -/
def crc8Byte (c byte : Nat) : Nat :=
  let c := c ^^^ (byte % 256)
  crc8Bit (crc8Bit (crc8Bit (crc8Bit (crc8Bit (crc8Bit (crc8Bit (crc8Bit c)))))))

/-- SPI CRC-8: initial value and final XOR 0xFF (R421). -/
def crc8 (bytes : List Nat) : Nat := bytes.foldl crc8Byte 0xFF ^^^ 0xFF

/-- One bit of the Reedline CRC-8: polynomial 0x07, not reflected (R338). -/
def crcRlBit (c : Nat) : Nat := if c / 128 % 2 = 1 then (c * 2 % 256) ^^^ 0x07 else c * 2 % 256

/-- Reedline CRC-8 over bytes: initial value and final XOR 0 (R338). -/
def crcRl (bytes : List Nat) : Nat :=
  bytes.foldl (fun c byte => crcRlBit (crcRlBit (crcRlBit (crcRlBit (crcRlBit (crcRlBit (crcRlBit (crcRlBit (c ^^^ (byte % 256)))))))))) 0

/-- The bytes of words sent most significant bit first (R418). -/
def wireBytes (ws : List Word) : List Nat :=
  ws.flatMap fun w => [w.toNat / 16777216, w.toNat / 65536 % 256, w.toNat / 256 % 256, w.toNat % 256]

/-! A map from keys to values in one canonical form: keys strictly rising, no entry equal to the default of its key. -/

/-- The value at key `k`; `d k` where the map lists none. -/
def mapGet {α : Type} (d : Nat → α) : List (Nat × α) → Nat → α
  | [], k => d k
  | (k', v) :: m, k => if k = k' then v else mapGet d m k

/-- The map without key `k`. -/
def mapErase {α : Type} (m : List (Nat × α)) (k : Nat) : List (Nat × α) := m.filter fun x => x.1 != k

/-- The map with `v` at key `k`; a value equal to the default leaves no entry. -/
def mapPut {α : Type} [DecidableEq α] (d : Nat → α) : List (Nat × α) → Nat → α → List (Nat × α)
  | [], k, v => if v = d k then [] else [(k, v)]
  | (k', v') :: m, k, v =>
    if k < k' then (if v = d k then (k', v') :: mapErase m k else (k, v) :: (k', v') :: m)
    else if k = k' then (if v = d k then mapErase m k else (k, v) :: m)
    else (k', v') :: mapPut d m k v

/-- Every key of the map lies above `lo`, keys rise strictly, and no entry equals its default. -/
def mapWfFrom {α : Type} [DecidableEq α] (d : Nat → α) : List (Nat × α) → Nat → Bool
  | [], _ => true
  | (k, v) :: m, lo => decide (lo ≤ k) && decide (v ≠ d k) && mapWfFrom d m (k + 1)

/-- The canonical form of a map. -/
def mapWf {α : Type} [DecidableEq α] (d : Nat → α) (m : List (Nat × α)) : Bool := mapWfFrom d m 0

/-- Numbers `lo` to `hi`, both included. -/
def span (lo hi : Nat) : List Nat := (List.range (hi + 1 - lo)).map (lo + ·)

/-- Which of two sequence numbers is the newer, as R104 judges it. -/
def seqNewer (x y : Nat) : Bool := decide (1 ≤ (x + 2 ^ 32 - y) % 2 ^ 32 ∧ (x + 2 ^ 32 - y) % 2 ^ 32 < 2 ^ 31)

end Sys2Proof.Machine
end

