-- ==== Sys2Proof/Machine/Regs.lean ====
section
/-! DEFINITION. The register map of Window A (spec/19_register_map.md R491 to R494 and the register tables of every chapter): the offset of
each register, the place of each field a meaning names, and per register the access code of every bit (R12) and its reset value. -/

namespace Sys2Proof.Machine

def R.GEN_DEVID : Nat := 0x0
def R.GEN_TIME_LO : Nat := 0x10
def R.GEN_FRAME : Nat := 0x18
def R.GEN_OVR_STATUS : Nat := 0x20
def R.GEN_OVR_CNT : Nat := 0x24
def R.PWR_STATE : Nat := 0x800
def R.PWR_CTL : Nat := 0x804
def R.PWR_WAKE_CTL : Nat := 0x808
def R.PWR_WAKE_TIMER : Nat := 0x80C
def R.PWR_CAUSE : Nat := 0x810
def R.PWR_PARK_TIME : Nat := 0x814
def R.LC_STATE : Nat := 0xC00
def R.LC_CTL : Nat := 0xC04
def R.LC_CHALLENGE (i0 : Nat) : Nat := 0xC10 + 0x4 * i0
def R.CFG_STATUS : Nat := 0x1000
def R.CFG_CTL : Nat := 0x1004
def R.CFG_SEQ (i0 : Nat) : Nat := 0x1008 + 0x4 * i0
def R.FE_COMMIT : Nat := 0x8000
def R.FE_STATUS : Nat := 0x8004
def R.FE_ALIGN_CTL : Nat := 0x8008
def R.FE_OW_CTL : Nat := 0x800C
def R.FE_CHK_CTL : Nat := 0x8010
def R.FE_ISENSE_CTL : Nat := 0x8014
def R.FE_IPL_GAIN : Nat := 0x8018
def R.FE_IPL_OFS : Nat := 0x801C
def R.FE_IDLY : Nat := 0x8020
def R.FE_SHUNT (i0 : Nat) : Nat := 0x8024 + 0x4 * (i0 - 1)
def R.FE_DIV_RATIO (i0 : Nat) : Nat := 0x802C + 0x4 * (i0 - 1)
def R.FE_THR_CTL : Nat := 0x8034
def R.FE_LIMIT_CTL : Nat := 0x8038
def R.FE_HRES_C0 : Nat := 0x803C
def R.FE_HRES_MEAS_C0 : Nat := 0x8040
def R.FE_VDIV (i0 : Nat) : Nat := 0x8044 + 0x4 * (i0 - 1)
def R.FE_STACK_SUM : Nat := 0x804C
def R.FE_TIER_CTL (i0 : Nat) : Nat := 0x8100 + 0x100 * i0
def R.FE_NTC_BETA (i0 : Nat) : Nat := 0x8104 + 0x100 * i0
def R.FE_TIER_STATUS (i0 : Nat) : Nat := 0x8108 + 0x100 * i0
def R.FE_OW_STATUS (i0 : Nat) : Nat := 0x810C + 0x100 * i0
def R.FE_TIER_DLY (i0 : Nat) : Nat := 0x8110 + 0x100 * i0
def R.FE_AUX_T (i0 : Nat) : Nat := 0x8114 + 0x100 * i0
def R.FE_AUX_NTC (i0 : Nat) : Nat := 0x8118 + 0x100 * i0
def R.FE_CHK_REF_LAST (i0 : Nat) : Nat := 0x811C + 0x100 * i0
def R.FE_HRES (i0 : Nat) : Nat := 0x9100 + 0x10 * (i0 - 1)
def R.FE_HRES_MEAS (i0 : Nat) : Nat := 0x9104 + 0x10 * (i0 - 1)
def R.FE_CHK_LAST (i0 : Nat) : Nat := 0x9108 + 0x10 * (i0 - 1)
def R.FLT_CTL : Nat := 0xA000
def R.FLT_NOTCH (i0 : Nat) : Nat := 0xA004 + 0x4 * (i0 - 1)
def R.FLT_NOTCH_POL (i0 : Nat) : Nat := 0xA00C + 0x4 * (i0 - 1)
def R.FLT_BAL_CTL : Nat := 0xA014
def R.FLT_ACTIVE : Nat := 0xA018
def R.FLT_SETTLE : Nat := 0xA01C
def R.FLT_QUIET_LEN : Nat := 0xA020
def R.FLT_REJ : Nat := 0xA024
def R.IMP_CTL : Nat := 0xB000
def R.IMP_STATUS : Nat := 0xB004
def R.IMP_DEF (i0 : Nat) : Nat := 0xB100 + 0x80 * i0
def R.IMP_CELLS (i0 : Nat) (i1 : Nat) : Nat := 0xB104 + 0x80 * i0 + 0x4 * i1
def R.IMP_FREQ (i0 : Nat) (i1 : Nat) : Nat := 0xB140 + 0x80 * i0 + 0x4 * i1
def R.FEN_CTL : Nat := 0x10000
def R.FEN_STATUS : Nat := 0x10004
def R.FEN_STEP_NUM : Nat := 0x10008
def R.FEN_OVR_CNT : Nat := 0x1000C
def R.FEN_NODES : Nat := 0x10010
def R.FEN_COST : Nat := 0x10014
def R.FEN_UTIL : Nat := 0x10018
def R.FEN_STEP_TIME : Nat := 0x1001C
def R.FEN_STEP_TMAX : Nat := 0x10020
def R.FEN_PARAM : Nat := 0x10024
def R.FEN_REBUILD : Nat := 0x10028
def R.FEN_HOLD : Nat := 0x1002C
def R.FEN_PACK_BASE : Nat := 0x10030
def R.FEN_PACK_CNT : Nat := 0x10034
def R.FEN_NODE_SEL : Nat := 0x10040
def R.FEN_NODE_V0 : Nat := 0x10044
def R.FEN_NODE_V1 : Nat := 0x10048
def R.FEN_CELL_STATUS (i0 : Nat) : Nat := 0x11000 + 0x10 * (i0 - 1)
def R.FEN_CELL_BASE (i0 : Nat) : Nat := 0x11004 + 0x10 * (i0 - 1)
def R.FEN_FAST_SOC (i0 : Nat) : Nat := 0x11008 + 0x10 * (i0 - 1)
def R.FEN_FAST_RSER (i0 : Nat) : Nat := 0x1100C + 0x10 * (i0 - 1)
def R.FEN_IMG_CTL : Nat := 0x10100
def R.FEN_IMG_STATUS : Nat := 0x10104
def R.FEN_IMG_DETAIL : Nat := 0x10108
def R.FEN_IMG_WADDR : Nat := 0x1010C
def R.FEN_IMG_WDATA : Nat := 0x10110
def R.FEN_IMG_LEN : Nat := 0x10114
def R.FEN_IMG_STAGED_ID : Nat := 0x10118
def R.FEN_IMG_ID : Nat := 0x1011C
def R.FEN_IMG_NCALC : Nat := 0x10120
def R.FEN_IMG_PCALC : Nat := 0x10124
def R.FEN_IMG_SWAP_FRAME : Nat := 0x10128
def R.POL_CTL : Nat := 0x20000
def R.POL_STATUS : Nat := 0x20004
def R.POL_VLIM : Nat := 0x20008
def R.POL_ILIM : Nat := 0x2000C
def R.POL_FALLBACK : Nat := 0x20010
def R.POL_THR : Nat := 0x20014
def R.POL_CAP_NOM : Nat := 0x20018
def R.POL_AUTO_CTL : Nat := 0x2001C
def R.POL_NOTCH_CTL : Nat := 0x20020
def R.POL_AGE_CTL : Nat := 0x20024
def R.POL_OVR_CTL : Nat := 0x20030
def R.POL_OVR_ARG : Nat := 0x20034
def R.POL_OVR_STATUS : Nat := 0x20038
def R.LED_CTL : Nat := 0x20800
def R.LED_STATUS : Nat := 0x20804
def R.LED_VBIN : Nat := 0x20808
def R.LED_TBIN : Nat := 0x2080C
def R.LED_RD_CTL : Nat := 0x20810
def R.LED_RD_DATA : Nat := 0x20814
def R.BAL_CTL : Nat := 0xC000
def R.BAL_STATUS : Nat := 0xC004
def R.BAL_SETREG : Nat := 0xC008
def R.BAL_RBAL (i0 : Nat) : Nat := 0xC204 + 0x10 * (i0 - 1)
def R.BW_CTL : Nat := 0xD000
def R.BW_STATUS : Nat := 0xD004
def R.BW_BREAK_MAP : Nat := 0xD008
def R.BW_ROUTE : Nat := 0xD00C
def R.BW_EVT_CNT : Nat := 0xD010
def R.BW_LAST_BREAK : Nat := 0xD014
def R.BW_TIER_ID (i0 : Nat) : Nat := 0xD100 + 0x10 * i0
def R.BW_TIER_ENUM (i0 : Nat) : Nat := 0xD104 + 0x10 * i0
def R.BW_HOP_ERR (i0 : Nat) : Nat := 0xD204 + 0x10 * i0
def R.BW_HOP_CRC (i0 : Nat) : Nat := 0xD208 + 0x10 * i0
def R.RL_CTL : Nat := 0xD800
def R.RL_STATUS : Nat := 0xD804
def R.RL_TAG_SEL : Nat := 0xD808
def R.RL_TAG_ID_LO : Nat := 0xD80C
def R.RL_TAG_ID_HI : Nat := 0xD810
def R.RL_TAG_DATA : Nat := 0xD814
def R.RL_TIER_CTL (i0 : Nat) : Nat := 0xD900 + 0x40 * i0
def R.RL_TIER_STATUS (i0 : Nat) : Nat := 0xD904 + 0x40 * i0
def R.RL_TOPO (i0 : Nat) : Nat := 0xD908 + 0x40 * i0
def R.RL_ERR_CNT (i0 : Nat) : Nat := 0xD90C + 0x40 * i0
def R.RL_MAP (i0 : Nat) (i1 : Nat) : Nat := 0xD910 + 0x40 * i0 + 0x4 * i1
def R.CW_CTL : Nat := 0xE000
def R.CW_STATUS : Nat := 0xE004
def R.CW_TOPO : Nat := 0xE008
def R.CW_HB_CTL : Nat := 0xE00C
def R.CW_EVT_CNT : Nat := 0xE010
def R.CW_SYNC : Nat := 0xE014
def R.CW_FRAME_OFS_LO : Nat := 0xE018
def R.CW_FRAME_OFS_HI : Nat := 0xE01C
def R.CW_FWD_CTL : Nat := 0xE020
def R.CW_FWD_DATA : Nat := 0xE024
def R.CW_RF_CTL : Nat := 0xE030
def R.CW_RF_AA : Nat := 0xE034
def R.CW_RF_CHMAP (i0 : Nat) : Nat := 0xE038 + 0x4 * i0
def R.CW_RF_STATUS : Nat := 0xE040
def R.CW_NODE_STATUS (i0 : Nat) : Nat := 0xE100 + 0x4 * i0
def R.CW_NODE_ID (i0 : Nat) : Nat := 0xE180 + 0x4 * i0
def R.CW_EXPECT_ID (i0 : Nat) : Nat := 0xE204 + 0x4 * (i0 - 1)
def R.CW_HOP_STATUS (i0 : Nat) : Nat := 0xE280 + 0x4 * i0
def R.HST_CTL : Nat := 0x2000
def R.HST_STATUS : Nat := 0x2004
def R.HST_LINK : Nat := 0x2008
def R.HST_SPILL_STATUS : Nat := 0x200C
def R.HST_DB_BASE_LO : Nat := 0x2010
def R.HST_DB_BASE_HI : Nat := 0x2014
def R.HST_SP_BASE_LO : Nat := 0x2018
def R.HST_SP_BASE_HI : Nat := 0x201C
def R.HST_TIME (i0 : Nat) : Nat := 0x2020 + 0x4 * i0
def R.HST_VEC_MOD (i0 : Nat) : Nat := 0x2084 + 0x4 * (i0 - 1)
def R.HST_SQ_BASE_LO (i0 : Nat) : Nat := 0x2100 + 0x10 * i0
def R.HST_SQ_BASE_HI (i0 : Nat) : Nat := 0x2104 + 0x10 * i0
def R.HST_SQ_CTL (i0 : Nat) : Nat := 0x2108 + 0x10 * i0
def R.HST_SQ_STATUS (i0 : Nat) : Nat := 0x210C + 0x10 * i0
def R.HST_CQ_BASE_LO (i0 : Nat) : Nat := 0x2200 + 0x10 * i0
def R.HST_CQ_BASE_HI (i0 : Nat) : Nat := 0x2204 + 0x10 * i0
def R.HST_CQ_CTL (i0 : Nat) : Nat := 0x2208 + 0x10 * i0
def R.HST_CQ_STATUS (i0 : Nat) : Nat := 0x220C + 0x10 * i0
def R.HST_SR_BASE_LO (i0 : Nat) : Nat := 0x2300 + 0x10 * i0
def R.HST_SR_BASE_HI (i0 : Nat) : Nat := 0x2304 + 0x10 * i0
def R.HST_SR_CTL (i0 : Nat) : Nat := 0x2308 + 0x10 * i0
def R.HST_SR_STATUS (i0 : Nat) : Nat := 0x230C + 0x10 * i0
def R.HST_SR_QUOTA (i0 : Nat) : Nat := 0x2500 + 0x8 * i0
def R.HST_DROP (i0 : Nat) : Nat := 0x2504 + 0x8 * i0
def R.SPI_STATUS : Nat := 0x3000
def R.SPI_INT_EN : Nat := 0x3004
def R.SPI_INT_STATUS : Nat := 0x3008
def R.SPI_LATCH_STATUS : Nat := 0x300C
def R.SPI_FIFO_CTL (i0 : Nat) : Nat := 0x3100 + 0x10 * i0
def R.SPI_FIFO_DROP (i0 : Nat) : Nat := 0x310C + 0x10 * i0
def R.CAP_RD_CTL : Nat := 0xF000
def R.CAP_RD_POS : Nat := 0xF004
def R.CAP_RD_DATA : Nat := 0xF008
def R.CAP_CTL (i0 : Nat) : Nat := 0xF100 + 0x80 * i0
def R.CAP_GEOM (i0 : Nat) : Nat := 0xF104 + 0x80 * i0
def R.CAP_WIN (i0 : Nat) : Nat := 0xF108 + 0x80 * i0
def R.CAP_CHAN (i0 : Nat) (i1 : Nat) : Nat := 0xF10C + 0x80 * i0 + 0x4 * i1
def R.CAP_WR (i0 : Nat) : Nat := 0xF128 + 0x80 * i0
def R.CAP_OLDEST (i0 : Nat) : Nat := 0xF12C + 0x80 * i0
def R.CAP_MARK (i0 : Nat) : Nat := 0xF130 + 0x80 * i0
def R.CAP_RSTAT (i0 : Nat) : Nat := 0xF134 + 0x80 * i0
def R.CAP_TRIG_FRAME (i0 : Nat) : Nat := 0xF138 + 0x80 * i0
def R.CAP_PRE_POS (i0 : Nat) : Nat := 0xF13C + 0x80 * i0
def R.CAP_DROP (i0 : Nat) : Nat := 0xF140 + 0x80 * i0
def R.CNT_CTL : Nat := 0x7000
def R.CNT_SNAP_FRAME : Nat := 0x7004
def R.CNT_CFG (i0 : Nat) : Nat := 0x7100 + 0x20 * i0
def R.CNT_FIRST (i0 : Nat) : Nat := 0x7104 + 0x20 * i0
def R.CNT_VAL_LO (i0 : Nat) : Nat := 0x7108 + 0x20 * i0
def R.CNT_VAL_HI (i0 : Nat) : Nat := 0x710C + 0x20 * i0
def R.CNT_SNAP_LO (i0 : Nat) : Nat := 0x7110 + 0x20 * i0
def R.CNT_SNAP_HI (i0 : Nat) : Nat := 0x7114 + 0x20 * i0
def R.SL_SUMMARY : Nat := 0x4000
def R.SL_CTL : Nat := 0x4004
def R.SL_STATUS : Nat := 0x4008
def R.SL_CLR_CNT : Nat := 0x400C
def R.SL_STICKY (i0 : Nat) : Nat := 0x4100 + 0x4 * i0
def R.SL_LIVE (i0 : Nat) : Nat := 0x4140 + 0x4 * i0
def R.SL_INJ_ACT (i0 : Nat) : Nat := 0x4200 + 0x4 * i0
def R.SL_INJ_SEEN (i0 : Nat) : Nat := 0x4240 + 0x4 * i0
def R.SL_CFG (i0 : Nat) : Nat := 0x4800 + 0x4 * i0
def R.SL_DETAIL (i0 : Nat) : Nat := 0x5000 + 0x4 * i0
def R.BIST_CTL : Nat := 0x6000
def R.BIST_STATUS : Nat := 0x6004
def R.BIST_FAIL_ADDR : Nat := 0x6008
def R.BIST_FAIL_BIT : Nat := 0x600C
def R.BIST_FAIL_COUNT : Nat := 0x6010
def R.BIST_SIG : Nat := 0x6014
def R.BIST_FAILED : Nat := 0x6018
def R.BIST_ROLL : Nat := 0x601C
def R.BIST_REPAIR : Nat := 0x6020
def R.RES_FRAME (i0 : Nat) : Nat := 0x40000 + 0x4 * i0
def R.RES_FRAME_UPD : Nat := 0x40400
def R.RES_TIME (i0 : Nat) : Nat := 0x40408 + 0x4 * i0
def R.RES_AUX (i0 : Nat) : Nat := 0x40800 + 0x4 * i0
def R.RES_AUX_UPD : Nat := 0x40C00
def R.RES_AUX_TIME (i0 : Nat) : Nat := 0x40C08 + 0x4 * i0
def R.EST_REC (i0 : Nat) : Nat := 0x50000 + 0x4 * i0
def R.EST_UPD : Nat := 0x51000
def R.EST_TIME (i0 : Nat) : Nat := 0x51008 + 0x4 * i0
def R.EST_CELL (i0 : Nat) (i1 : Nat) : Nat := 0x52000 + 0x20 * (i0 - 1) + 0x4 * i1

def F.PWR_CTL_RETAIN : Fld := ⟨R.PWR_CTL, 12, 4⟩
def F.PWR_CTL_BAL_CONT : Fld := ⟨R.PWR_CTL, 11, 1⟩
def F.PWR_CTL_REFUSED : Fld := ⟨R.PWR_CTL, 7, 1⟩
def F.PWR_WAKE_CTL_EN_HOST : Fld := ⟨R.PWR_WAKE_CTL, 3, 1⟩
def F.PWR_WAKE_CTL_EN_CW : Fld := ⟨R.PWR_WAKE_CTL, 2, 1⟩
def F.PWR_WAKE_CTL_EN_TIMER : Fld := ⟨R.PWR_WAKE_CTL, 1, 1⟩
def F.PWR_WAKE_CTL_EN_WAKE_IN : Fld := ⟨R.PWR_WAKE_CTL, 0, 1⟩
def F.PWR_CAUSE_WDOG : Fld := ⟨R.PWR_CAUSE, 11, 1⟩
def F.PWR_CAUSE_CHIP : Fld := ⟨R.PWR_CAUSE, 10, 1⟩
def F.PWR_CAUSE_EXT : Fld := ⟨R.PWR_CAUSE, 9, 1⟩
def F.PWR_CAUSE_POR : Fld := ⟨R.PWR_CAUSE, 8, 1⟩
def F.PWR_CAUSE_WK_HOST : Fld := ⟨R.PWR_CAUSE, 3, 1⟩
def F.PWR_CAUSE_WK_CW : Fld := ⟨R.PWR_CAUSE, 2, 1⟩
def F.PWR_CAUSE_WK_TIMER : Fld := ⟨R.PWR_CAUSE, 1, 1⟩
def F.PWR_CAUSE_WK_IN : Fld := ⟨R.PWR_CAUSE, 0, 1⟩
def F.LC_STATE_LOCKED : Fld := ⟨R.LC_STATE, 24, 1⟩
def F.LC_STATE_AUTH_FAIL : Fld := ⟨R.LC_STATE, 16, 8⟩
def F.LC_STATE_RESULT : Fld := ⟨R.LC_STATE, 12, 4⟩
def F.LC_STATE_KEY_SVC : Fld := ⟨R.LC_STATE, 9, 1⟩
def F.LC_STATE_KEY_CW : Fld := ⟨R.LC_STATE, 8, 1⟩
def F.LC_STATE_STATE : Fld := ⟨R.LC_STATE, 0, 4⟩
def F.CFG_STATUS_VALID1 : Fld := ⟨R.CFG_STATUS, 14, 1⟩
def F.CFG_STATUS_VALID0 : Fld := ⟨R.CFG_STATUS, 13, 1⟩
def F.CFG_STATUS_SKIP : Fld := ⟨R.CFG_STATUS, 12, 1⟩
def F.CFG_STATUS_NONE : Fld := ⟨R.CFG_STATUS, 10, 1⟩
def F.CFG_STATUS_BUSY : Fld := ⟨R.CFG_STATUS, 9, 1⟩
def F.CFG_STATUS_ACTIVE : Fld := ⟨R.CFG_STATUS, 8, 1⟩
def F.CFG_STATUS_RESULT : Fld := ⟨R.CFG_STATUS, 0, 4⟩
def F.FE_COMMIT_AUTOCOMMIT : Fld := ⟨R.FE_COMMIT, 8, 1⟩
def F.FE_COMMIT_CFG_REJ : Fld := ⟨R.FE_COMMIT, 2, 1⟩
def F.FE_COMMIT_PENDING : Fld := ⟨R.FE_COMMIT, 1, 1⟩
def F.FE_STATUS_CONTACTOR : Fld := ⟨R.FE_STATUS, 7, 1⟩
def F.FE_STATUS_ALIGN_ABORT : Fld := ⟨R.FE_STATUS, 3, 1⟩
def F.FE_STATUS_DRIFT : Fld := ⟨R.FE_STATUS, 2, 1⟩
def F.FE_STATUS_ALIGN_VALID : Fld := ⟨R.FE_STATUS, 0, 1⟩
def F.FE_ALIGN_CTL_DRIFT_K : Fld := ⟨R.FE_ALIGN_CTL, 16, 8⟩
def F.FE_ALIGN_CTL_AUTO : Fld := ⟨R.FE_ALIGN_CTL, 1, 1⟩
def F.FE_OW_CTL_AVG : Fld := ⟨R.FE_OW_CTL, 28, 4⟩
def F.FE_OW_CTL_PERIOD : Fld := ⟨R.FE_OW_CTL, 16, 12⟩
def F.FE_OW_CTL_THR : Fld := ⟨R.FE_OW_CTL, 0, 16⟩
def F.FE_CHK_CTL_REF_THR : Fld := ⟨R.FE_CHK_CTL, 16, 16⟩
def F.FE_CHK_CTL_CHK_THR : Fld := ⟨R.FE_CHK_CTL, 0, 16⟩
def F.FE_ISENSE_CTL_PL_THR : Fld := ⟨R.FE_ISENSE_CTL, 16, 16⟩
def F.FE_ISENSE_CTL_PL_N : Fld := ⟨R.FE_ISENSE_CTL, 8, 8⟩
def F.FE_ISENSE_CTL_PL_EN : Fld := ⟨R.FE_ISENSE_CTL, 2, 1⟩
def F.FE_ISENSE_CTL_FEN_SRC : Fld := ⟨R.FE_ISENSE_CTL, 0, 2⟩
def F.FE_IPL_GAIN_GAIN : Fld := ⟨R.FE_IPL_GAIN, 0, 32⟩
def F.FE_IPL_OFS_OFS : Fld := ⟨R.FE_IPL_OFS, 0, 32⟩
def F.FE_IDLY_DLY2 : Fld := ⟨R.FE_IDLY, 16, 16⟩
def F.FE_IDLY_DLY1 : Fld := ⟨R.FE_IDLY, 0, 16⟩
def F.FE_DIV_RATIO_RATIO (i0 : Nat) : Fld := ⟨(R.FE_DIV_RATIO i0), 0, 32⟩
def F.FE_THR_CTL_STACK_THR : Fld := ⟨R.FE_THR_CTL, 16, 16⟩
def F.FE_THR_CTL_TIER_THR : Fld := ⟨R.FE_THR_CTL, 0, 16⟩
def F.FE_LIMIT_CTL_DIE_OT : Fld := ⟨R.FE_LIMIT_CTL, 16, 16⟩
def F.FE_LIMIT_CTL_CONT_THR : Fld := ⟨R.FE_LIMIT_CTL, 0, 16⟩
def F.FE_HRES_C0_SRC : Fld := ⟨R.FE_HRES_C0, 31, 1⟩
def F.FE_HRES_C0_RES : Fld := ⟨R.FE_HRES_C0, 0, 16⟩
def F.FE_HRES_MEAS_C0_VALID : Fld := ⟨R.FE_HRES_MEAS_C0, 31, 1⟩
def F.FE_HRES_MEAS_C0_RES : Fld := ⟨R.FE_HRES_MEAS_C0, 0, 16⟩
def F.FE_TIER_CTL_OW_EN (i0 : Nat) : Fld := ⟨(R.FE_TIER_CTL i0), 19, 1⟩
def F.FE_TIER_CTL_CHK_EN (i0 : Nat) : Fld := ⟨(R.FE_TIER_CTL i0), 18, 1⟩
def F.FE_TIER_CTL_NTCB_EN (i0 : Nat) : Fld := ⟨(R.FE_TIER_CTL i0), 17, 1⟩
def F.FE_TIER_CTL_NTCA_EN (i0 : Nat) : Fld := ⟨(R.FE_TIER_CTL i0), 16, 1⟩
def F.FE_TIER_CTL_CELL_EN (i0 : Nat) : Fld := ⟨(R.FE_TIER_CTL i0), 0, 12⟩
def F.FE_NTC_BETA_BETA_B (i0 : Nat) : Fld := ⟨(R.FE_NTC_BETA i0), 16, 16⟩
def F.FE_NTC_BETA_BETA_A (i0 : Nat) : Fld := ⟨(R.FE_NTC_BETA i0), 0, 16⟩
def F.FE_OW_STATUS_POSTPONE_CNT (i0 : Nat) : Fld := ⟨(R.FE_OW_STATUS i0), 16, 16⟩
def F.FE_OW_STATUS_NEXT (i0 : Nat) : Fld := ⟨(R.FE_OW_STATUS i0), 0, 4⟩
def F.FE_TIER_DLY_HEAD (i0 : Nat) : Fld := ⟨(R.FE_TIER_DLY i0), 16, 16⟩
def F.FE_TIER_DLY_FOOT (i0 : Nat) : Fld := ⟨(R.FE_TIER_DLY i0), 0, 16⟩
def F.FE_AUX_T_DIE (i0 : Nat) : Fld := ⟨(R.FE_AUX_T i0), 16, 16⟩
def F.FE_AUX_T_VT (i0 : Nat) : Fld := ⟨(R.FE_AUX_T i0), 0, 16⟩
def F.FE_AUX_NTC_TB (i0 : Nat) : Fld := ⟨(R.FE_AUX_NTC i0), 16, 16⟩
def F.FE_AUX_NTC_TA (i0 : Nat) : Fld := ⟨(R.FE_AUX_NTC i0), 0, 16⟩
def F.FE_CHK_REF_LAST_DIFF (i0 : Nat) : Fld := ⟨(R.FE_CHK_REF_LAST i0), 16, 16⟩
def F.FE_CHK_REF_LAST_VALID (i0 : Nat) : Fld := ⟨(R.FE_CHK_REF_LAST i0), 0, 1⟩
def F.FE_HRES_SRC (i0 : Nat) : Fld := ⟨(R.FE_HRES i0), 31, 1⟩
def F.FE_HRES_RES (i0 : Nat) : Fld := ⟨(R.FE_HRES i0), 0, 16⟩
def F.FE_HRES_MEAS_VALID (i0 : Nat) : Fld := ⟨(R.FE_HRES_MEAS i0), 31, 1⟩
def F.FE_HRES_MEAS_RES (i0 : Nat) : Fld := ⟨(R.FE_HRES_MEAS i0), 0, 16⟩
def F.FE_CHK_LAST_DIFF (i0 : Nat) : Fld := ⟨(R.FE_CHK_LAST i0), 16, 16⟩
def F.FE_CHK_LAST_SAR (i0 : Nat) : Fld := ⟨(R.FE_CHK_LAST i0), 0, 16⟩
def F.FLT_CTL_ORDER : Fld := ⟨R.FLT_CTL, 8, 3⟩
def F.FLT_CTL_RATE : Fld := ⟨R.FLT_CTL, 0, 4⟩
def F.FLT_NOTCH_EN (i0 : Nat) : Fld := ⟨(R.FLT_NOTCH i0), 31, 1⟩
def F.FLT_NOTCH_SRC (i0 : Nat) : Fld := ⟨(R.FLT_NOTCH i0), 30, 1⟩
def F.FLT_NOTCH_Q (i0 : Nat) : Fld := ⟨(R.FLT_NOTCH i0), 16, 8⟩
def F.FLT_NOTCH_F0 (i0 : Nat) : Fld := ⟨(R.FLT_NOTCH i0), 0, 16⟩
def F.FLT_NOTCH_POL_ACTIVE (i0 : Nat) : Fld := ⟨(R.FLT_NOTCH_POL i0), 31, 1⟩
def F.FLT_NOTCH_POL_Q (i0 : Nat) : Fld := ⟨(R.FLT_NOTCH_POL i0), 16, 8⟩
def F.FLT_NOTCH_POL_F0 (i0 : Nat) : Fld := ⟨(R.FLT_NOTCH_POL i0), 0, 16⟩
def F.FLT_BAL_CTL_QUIET_EN : Fld := ⟨R.FLT_BAL_CTL, 17, 1⟩
def F.FLT_BAL_CTL_CMP_EN : Fld := ⟨R.FLT_BAL_CTL, 16, 1⟩
def F.FLT_BAL_CTL_QUIET_N : Fld := ⟨R.FLT_BAL_CTL, 0, 13⟩
def F.FLT_ACTIVE_COMMIT_CNT : Fld := ⟨R.FLT_ACTIVE, 24, 8⟩
def F.FLT_ACTIVE_N2_POL : Fld := ⟨R.FLT_ACTIVE, 19, 1⟩
def F.FLT_ACTIVE_N1_POL : Fld := ⟨R.FLT_ACTIVE, 18, 1⟩
def F.FLT_ACTIVE_N2_ON : Fld := ⟨R.FLT_ACTIVE, 17, 1⟩
def F.FLT_ACTIVE_N1_ON : Fld := ⟨R.FLT_ACTIVE, 16, 1⟩
def F.FLT_ACTIVE_ORDER : Fld := ⟨R.FLT_ACTIVE, 8, 3⟩
def F.FLT_ACTIVE_RATE : Fld := ⟨R.FLT_ACTIVE, 0, 4⟩
def F.IMP_CTL_MIN_EXC : Fld := ⟨R.IMP_CTL, 24, 8⟩
def F.IMP_CTL_COH_MIN : Fld := ⟨R.IMP_CTL, 16, 8⟩
def F.IMP_CTL_HOST_CH : Fld := ⟨R.IMP_CTL, 8, 1⟩
def F.IMP_CTL_POL_EN : Fld := ⟨R.IMP_CTL, 7, 1⟩
def F.IMP_CTL_SLOT : Fld := ⟨R.IMP_CTL, 0, 2⟩
def F.IMP_DEF_SRC (i0 : Nat) : Fld := ⟨(R.IMP_DEF i0), 30, 2⟩
def F.IMP_DEF_N_CYC (i0 : Nat) : Fld := ⟨(R.IMP_DEF i0), 16, 8⟩
def F.IMP_DEF_NPTS (i0 : Nat) : Fld := ⟨(R.IMP_DEF i0), 8, 5⟩
def F.FEN_CTL_REINIT_STEPS : Fld := ⟨R.FEN_CTL, 16, 8⟩
def F.FEN_CTL_ADAPT_EN : Fld := ⟨R.FEN_CTL, 5, 1⟩
def F.FEN_CTL_FULL_EN : Fld := ⟨R.FEN_CTL, 4, 1⟩
def F.FEN_CTL_STEP : Fld := ⟨R.FEN_CTL, 0, 2⟩
def F.FEN_STATUS_STEP_ACT : Fld := ⟨R.FEN_STATUS, 30, 2⟩
def F.FEN_STATUS_STEP_PEND : Fld := ⟨R.FEN_STATUS, 29, 1⟩
def F.FEN_STATUS_STEP_REFUSED : Fld := ⟨R.FEN_STATUS, 28, 1⟩
def F.FEN_STATUS_HALTED : Fld := ⟨R.FEN_STATUS, 15, 1⟩
def F.FEN_STATUS_THROTTLE : Fld := ⟨R.FEN_STATUS, 14, 1⟩
def F.FEN_STATUS_SWAP_PEND : Fld := ⟨R.FEN_STATUS, 12, 1⟩
def F.FEN_STATUS_SWAP_SRC : Fld := ⟨R.FEN_STATUS, 11, 1⟩
def F.FEN_STATUS_REBUILD_BUSY : Fld := ⟨R.FEN_STATUS, 10, 1⟩
def F.FEN_STATUS_LAYOUT : Fld := ⟨R.FEN_STATUS, 9, 1⟩
def F.FEN_STATUS_ACTIVE_COPY : Fld := ⟨R.FEN_STATUS, 8, 1⟩
def F.FEN_STATUS_HALF : Fld := ⟨R.FEN_STATUS, 7, 1⟩
def F.FEN_STATUS_IMG_VALID : Fld := ⟨R.FEN_STATUS, 6, 1⟩
def F.FEN_STATUS_NOCUR : Fld := ⟨R.FEN_STATUS, 3, 1⟩
def F.FEN_OVR_CNT_OVR : Fld := ⟨R.FEN_OVR_CNT, 16, 16⟩
def F.FEN_OVR_CNT_SKIP : Fld := ⟨R.FEN_OVR_CNT, 8, 8⟩
def F.FEN_OVR_CNT_CONSEC : Fld := ⟨R.FEN_OVR_CNT, 0, 8⟩
def F.FEN_UTIL_LAST : Fld := ⟨R.FEN_UTIL, 16, 16⟩
def F.FEN_UTIL_PRED : Fld := ⟨R.FEN_UTIL, 0, 16⟩
def F.FEN_REBUILD_SWAPS : Fld := ⟨R.FEN_REBUILD, 16, 16⟩
def F.FEN_REBUILD_FAIL : Fld := ⟨R.FEN_REBUILD, 8, 8⟩
def F.FEN_REBUILD_ABANDON : Fld := ⟨R.FEN_REBUILD, 0, 8⟩
def F.FEN_HOLD_TOTAL : Fld := ⟨R.FEN_HOLD, 16, 16⟩
def F.FEN_HOLD_CONSEC : Fld := ⟨R.FEN_HOLD, 0, 16⟩
def F.FEN_NODE_SEL_VALID : Fld := ⟨R.FEN_NODE_SEL, 31, 1⟩
def F.FEN_NODE_SEL_KIND : Fld := ⟨R.FEN_NODE_SEL, 28, 3⟩
def F.FEN_NODE_SEL_INDEX : Fld := ⟨R.FEN_NODE_SEL, 0, 23⟩
def F.FEN_CELL_STATUS_CLASS (i0 : Nat) : Fld := ⟨(R.FEN_CELL_STATUS i0), 28, 4⟩
def F.FEN_CELL_STATUS_REINIT (i0 : Nat) : Fld := ⟨(R.FEN_CELL_STATUS i0), 20, 8⟩
def F.FEN_CELL_STATUS_ABSENT (i0 : Nat) : Fld := ⟨(R.FEN_CELL_STATUS i0), 19, 1⟩
def F.FEN_CELL_STATUS_NOCUR (i0 : Nat) : Fld := ⟨(R.FEN_CELL_STATUS i0), 18, 1⟩
def F.FEN_CELL_STATUS_OPENLOOP (i0 : Nat) : Fld := ⟨(R.FEN_CELL_STATUS i0), 17, 1⟩
def F.FEN_CELL_STATUS_FAST_OL (i0 : Nat) : Fld := ⟨(R.FEN_CELL_STATUS i0), 16, 1⟩
def F.FEN_CELL_STATUS_NODES (i0 : Nat) : Fld := ⟨(R.FEN_CELL_STATUS i0), 0, 15⟩
def F.FEN_FAST_SOC_SOC (i0 : Nat) : Fld := ⟨(R.FEN_FAST_SOC i0), 16, 16⟩
def F.FEN_FAST_SOC_UPOL (i0 : Nat) : Fld := ⟨(R.FEN_FAST_SOC i0), 0, 16⟩
def F.FEN_IMG_CTL_KEEP_ADAPT : Fld := ⟨R.FEN_IMG_CTL, 9, 1⟩
def F.FEN_IMG_CTL_SIG_REQ : Fld := ⟨R.FEN_IMG_CTL, 8, 1⟩
def F.FEN_IMG_CTL_POL_APPLY : Fld := ⟨R.FEN_IMG_CTL, 4, 1⟩
def F.FEN_IMG_STATUS_REJECT : Fld := ⟨R.FEN_IMG_STATUS, 16, 8⟩
def F.FEN_IMG_STATUS_SIGNED : Fld := ⟨R.FEN_IMG_STATUS, 9, 1⟩
def F.FEN_IMG_STATUS_WR_IGN : Fld := ⟨R.FEN_IMG_STATUS, 8, 1⟩
def F.FEN_IMG_STATUS_SWAP_RESULT : Fld := ⟨R.FEN_IMG_STATUS, 4, 4⟩
def F.FEN_IMG_STATUS_STATE : Fld := ⟨R.FEN_IMG_STATUS, 0, 4⟩
def F.FEN_IMG_WADDR_ADDR : Fld := ⟨R.FEN_IMG_WADDR, 2, 22⟩
def F.POL_CTL_EST_EN : Fld := ⟨R.POL_CTL, 4, 1⟩
def F.POL_CTL_MODE : Fld := ⟨R.POL_CTL, 0, 2⟩
def F.POL_STATUS_N_INVALID : Fld := ⟨R.POL_STATUS, 24, 8⟩
def F.POL_STATUS_N_OVR : Fld := ⟨R.POL_STATUS, 16, 5⟩
def F.POL_STATUS_LIM_FALLBACK : Fld := ⟨R.POL_STATUS, 3, 1⟩
def F.POL_STATUS_LIM_VALID : Fld := ⟨R.POL_STATUS, 2, 1⟩
def F.POL_STATUS_MODE_ACT : Fld := ⟨R.POL_STATUS, 0, 2⟩
def F.POL_VLIM_V_MAX : Fld := ⟨R.POL_VLIM, 16, 16⟩
def F.POL_VLIM_V_MIN : Fld := ⟨R.POL_VLIM, 0, 16⟩
def F.POL_ILIM_IMAX_CHG : Fld := ⟨R.POL_ILIM, 16, 16⟩
def F.POL_ILIM_IMAX_DIS : Fld := ⟨R.POL_ILIM, 0, 16⟩
def F.POL_FALLBACK_FB_CHG : Fld := ⟨R.POL_FALLBACK, 16, 16⟩
def F.POL_FALLBACK_FB_DIS : Fld := ⟨R.POL_FALLBACK, 0, 16⟩
def F.POL_THR_PLATE_MIN : Fld := ⟨R.POL_THR, 16, 16⟩
def F.POL_THR_TCORE_MAX : Fld := ⟨R.POL_THR, 0, 16⟩
def F.POL_AUTO_CTL_SWEEP_H : Fld := ⟨R.POL_AUTO_CTL, 24, 8⟩
def F.POL_AUTO_CTL_REST_A : Fld := ⟨R.POL_AUTO_CTL, 16, 8⟩
def F.POL_AUTO_CTL_BAL_DB : Fld := ⟨R.POL_AUTO_CTL, 0, 16⟩
def F.POL_NOTCH_CTL_HOLD : Fld := ⟨R.POL_NOTCH_CTL, 24, 8⟩
def F.POL_NOTCH_CTL_Q : Fld := ⟨R.POL_NOTCH_CTL, 16, 8⟩
def F.POL_NOTCH_CTL_MIN_AMP : Fld := ⟨R.POL_NOTCH_CTL, 0, 16⟩
def F.POL_AGE_CTL_ZRISE_PCT : Fld := ⟨R.POL_AGE_CTL, 24, 8⟩
def F.POL_AGE_CTL_SD_H : Fld := ⟨R.POL_AGE_CTL, 16, 8⟩
def F.POL_AGE_CTL_SD_THR : Fld := ⟨R.POL_AGE_CTL, 0, 16⟩
def F.POL_OVR_STATUS_CNT : Fld := ⟨R.POL_OVR_STATUS, 16, 16⟩
def F.POL_OVR_STATUS_REFUSED : Fld := ⟨R.POL_OVR_STATUS, 8, 8⟩
def F.POL_OVR_STATUS_RESULT : Fld := ⟨R.POL_OVR_STATUS, 0, 4⟩
def F.LED_CTL_SEV_MIN : Fld := ⟨R.LED_CTL, 16, 2⟩
def F.LED_STATUS_ERASE_REFUSED : Fld := ⟨R.LED_STATUS, 4, 1⟩
def F.LED_STATUS_FLUSH_FAIL : Fld := ⟨R.LED_STATUS, 3, 1⟩
def F.LED_VBIN_V_STEP : Fld := ⟨R.LED_VBIN, 16, 16⟩
def F.LED_VBIN_V_LO : Fld := ⟨R.LED_VBIN, 0, 16⟩
def F.LED_TBIN_T_STEP : Fld := ⟨R.LED_TBIN, 16, 16⟩
def F.LED_TBIN_T_LO : Fld := ⟨R.LED_TBIN, 0, 16⟩
def F.LED_RD_CTL_REGION : Fld := ⟨R.LED_RD_CTL, 30, 2⟩
def F.LED_RD_CTL_INDEX : Fld := ⟨R.LED_RD_CTL, 0, 16⟩
def F.BAL_CTL_MIS_PCT : Fld := ⟨R.BAL_CTL, 24, 8⟩
def F.BAL_CTL_GOV_MW : Fld := ⟨R.BAL_CTL, 12, 10⟩
def F.BAL_CTL_AUTO_DUTY_M1 : Fld := ⟨R.BAL_CTL, 8, 4⟩
def F.BAL_CTL_MODE : Fld := ⟨R.BAL_CTL, 0, 2⟩
def F.BAL_RBAL_RES (i0 : Nat) : Fld := ⟨(R.BAL_RBAL i0), 0, 16⟩
def F.BW_CTL_RESTORE : Fld := ⟨R.BW_CTL, 16, 16⟩
def F.BW_CTL_ERR_N : Fld := ⟨R.BW_CTL, 8, 8⟩
def F.BW_EVT_CNT_BREAKS : Fld := ⟨R.BW_EVT_CNT, 16, 16⟩
def F.BW_EVT_CNT_RESTORES : Fld := ⟨R.BW_EVT_CNT, 0, 16⟩
def F.BW_TIER_ENUM_NUMBERED (i0 : Nat) : Fld := ⟨(R.BW_TIER_ENUM i0), 31, 1⟩
def F.BW_TIER_ENUM_FROM_HEAD (i0 : Nat) : Fld := ⟨(R.BW_TIER_ENUM i0), 30, 1⟩
def F.BW_TIER_ENUM_ID_OK (i0 : Nat) : Fld := ⟨(R.BW_TIER_ENUM i0), 29, 1⟩
def F.BW_HOP_ERR_UP (i0 : Nat) : Fld := ⟨(R.BW_HOP_ERR i0), 16, 16⟩
def F.BW_HOP_ERR_DOWN (i0 : Nat) : Fld := ⟨(R.BW_HOP_ERR i0), 0, 16⟩
def F.BW_HOP_CRC_UP (i0 : Nat) : Fld := ⟨(R.BW_HOP_CRC i0), 16, 16⟩
def F.BW_HOP_CRC_DOWN (i0 : Nat) : Fld := ⟨(R.BW_HOP_CRC i0), 0, 16⟩
def F.RL_CTL_PERIOD : Fld := ⟨R.RL_CTL, 16, 16⟩
def F.RL_CTL_HOLD_MM : Fld := ⟨R.RL_CTL, 1, 1⟩
def F.RL_CTL_EN : Fld := ⟨R.RL_CTL, 0, 1⟩
def F.RL_TAG_SEL_TIER : Fld := ⟨R.RL_TAG_SEL, 8, 4⟩
def F.RL_TAG_SEL_POS_M1 : Fld := ⟨R.RL_TAG_SEL, 0, 5⟩
def F.RL_TIER_CTL_FAST_EN (i0 : Nat) : Fld := ⟨(R.RL_TIER_CTL i0), 31, 1⟩
def F.RL_TIER_CTL_AVG (i0 : Nat) : Fld := ⟨(R.RL_TIER_CTL i0), 24, 2⟩
def F.RL_TIER_CTL_EN (i0 : Nat) : Fld := ⟨(R.RL_TIER_CTL i0), 0, 1⟩
def F.RL_TIER_STATUS_RISE_SLOW (i0 : Nat) : Fld := ⟨(R.RL_TIER_STATUS i0), 29, 1⟩
def F.RL_TIER_STATUS_OVER (i0 : Nat) : Fld := ⟨(R.RL_TIER_STATUS i0), 28, 1⟩
def F.RL_TIER_STATUS_COUNT (i0 : Nat) : Fld := ⟨(R.RL_TIER_STATUS i0), 16, 6⟩
def F.RL_TIER_STATUS_CYCLE (i0 : Nat) : Fld := ⟨(R.RL_TIER_STATUS i0), 0, 16⟩
def F.RL_TOPO_EXPECT (i0 : Nat) : Fld := ⟨(R.RL_TOPO i0), 0, 6⟩
def F.RL_ERR_CNT_SLOT (i0 : Nat) : Fld := ⟨(R.RL_ERR_CNT i0), 16, 16⟩
def F.RL_ERR_CNT_CRC (i0 : Nat) : Fld := ⟨(R.RL_ERR_CNT i0), 8, 8⟩
def F.RL_ERR_CNT_SKIP (i0 : Nat) : Fld := ⟨(R.RL_ERR_CNT i0), 0, 8⟩
def F.CW_CTL_RESTORE : Fld := ⟨R.CW_CTL, 16, 16⟩
def F.CW_CTL_WAKE_FWD : Fld := ⟨R.CW_CTL, 8, 1⟩
def F.CW_CTL_MAX_RATE : Fld := ⟨R.CW_CTL, 4, 2⟩
def F.CW_CTL_ROLE : Fld := ⟨R.CW_CTL, 2, 1⟩
def F.CW_CTL_MODE : Fld := ⟨R.CW_CTL, 0, 2⟩
def F.CW_STATUS_OVERFLOW : Fld := ⟨R.CW_STATUS, 31, 1⟩
def F.CW_STATUS_CONFLICT : Fld := ⟨R.CW_STATUS, 29, 1⟩
def F.CW_STATUS_LOCKED : Fld := ⟨R.CW_STATUS, 28, 1⟩
def F.CW_STATUS_SYNC_RADIO : Fld := ⟨R.CW_STATUS, 27, 1⟩
def F.CW_STATUS_REVERSED : Fld := ⟨R.CW_STATUS, 26, 1⟩
def F.CW_STATUS_ENUM_BUSY : Fld := ⟨R.CW_STATUS, 25, 1⟩
def F.CW_STATUS_PROFILE : Fld := ⟨R.CW_STATUS, 22, 2⟩
def F.CW_STATUS_SLOW_RATE : Fld := ⟨R.CW_STATUS, 20, 2⟩
def F.CW_STATUS_ROLE_ACT : Fld := ⟨R.CW_STATUS, 18, 2⟩
def F.CW_STATUS_ADDR : Fld := ⟨R.CW_STATUS, 8, 5⟩
def F.CW_STATUS_N_FOLLOW : Fld := ⟨R.CW_STATUS, 0, 6⟩
def F.CW_TOPO_N_UNASSIGNED : Fld := ⟨R.CW_TOPO, 16, 6⟩
def F.CW_TOPO_N_EXPECT : Fld := ⟨R.CW_TOPO, 0, 6⟩
def F.CW_HB_CTL_RADIO_MISS : Fld := ⟨R.CW_HB_CTL, 16, 8⟩
def F.CW_HB_CTL_WIRE_MISS : Fld := ⟨R.CW_HB_CTL, 0, 16⟩
def F.CW_EVT_CNT_BREAKS : Fld := ⟨R.CW_EVT_CNT, 16, 16⟩
def F.CW_EVT_CNT_RESTORES : Fld := ⟨R.CW_EVT_CNT, 0, 16⟩
def F.CW_SYNC_PHASE : Fld := ⟨R.CW_SYNC, 16, 16⟩
def F.CW_SYNC_TRIM : Fld := ⟨R.CW_SYNC, 0, 16⟩
def F.CW_FRAME_OFS_HI_OFS_HI : Fld := ⟨R.CW_FRAME_OFS_HI, 0, 23⟩
def F.CW_FWD_CTL_WR : Fld := ⟨R.CW_FWD_CTL, 30, 1⟩
def F.CW_FWD_CTL_BUSY : Fld := ⟨R.CW_FWD_CTL, 29, 1⟩
def F.CW_FWD_CTL_ADDR : Fld := ⟨R.CW_FWD_CTL, 24, 5⟩
def F.CW_FWD_CTL_RESULT : Fld := ⟨R.CW_FWD_CTL, 21, 3⟩
def F.CW_FWD_CTL_OFFSET : Fld := ⟨R.CW_FWD_CTL, 0, 20⟩
def F.CW_RF_CTL_HOP : Fld := ⟨R.CW_RF_CTL, 16, 6⟩
def F.CW_RF_CTL_TXPWR : Fld := ⟨R.CW_RF_CTL, 8, 8⟩
def F.CW_RF_CTL_PHY : Fld := ⟨R.CW_RF_CTL, 0, 1⟩
def F.CW_RF_STATUS_RX_MISS : Fld := ⟨R.CW_RF_STATUS, 16, 16⟩
def F.CW_RF_STATUS_CH : Fld := ⟨R.CW_RF_STATUS, 8, 8⟩
def F.CW_RF_STATUS_CHMAP_BAD : Fld := ⟨R.CW_RF_STATUS, 1, 1⟩
def F.CW_RF_STATUS_ACTIVE : Fld := ⟨R.CW_RF_STATUS, 0, 1⟩
def F.CW_NODE_STATUS_PRESENT (i0 : Nat) : Fld := ⟨(R.CW_NODE_STATUS i0), 31, 1⟩
def F.CW_NODE_STATUS_HB_OK (i0 : Nat) : Fld := ⟨(R.CW_NODE_STATUS i0), 30, 1⟩
def F.CW_NODE_STATUS_RADIO (i0 : Nat) : Fld := ⟨(R.CW_NODE_STATUS i0), 29, 1⟩
def F.CW_NODE_STATUS_FAULT (i0 : Nat) : Fld := ⟨(R.CW_NODE_STATUS i0), 28, 1⟩
def F.CW_NODE_STATUS_SEV (i0 : Nat) : Fld := ⟨(R.CW_NODE_STATUS i0), 25, 3⟩
def F.CW_NODE_STATUS_ID_OK (i0 : Nat) : Fld := ⟨(R.CW_NODE_STATUS i0), 24, 1⟩
def F.CW_NODE_STATUS_HB_SEV (i0 : Nat) : Fld := ⟨(R.CW_NODE_STATUS i0), 16, 2⟩
def F.CW_NODE_STATUS_HB_MISS (i0 : Nat) : Fld := ⟨(R.CW_NODE_STATUS i0), 0, 16⟩
def F.CW_HOP_STATUS_CV (i0 : Nat) : Fld := ⟨(R.CW_HOP_STATUS i0), 16, 16⟩
def F.CW_HOP_STATUS_RATE (i0 : Nat) : Fld := ⟨(R.CW_HOP_STATUS i0), 4, 2⟩
def F.CW_HOP_STATUS_TRAINED (i0 : Nat) : Fld := ⟨(R.CW_HOP_STATUS i0), 3, 1⟩
def F.CW_HOP_STATUS_FWD_BROKEN (i0 : Nat) : Fld := ⟨(R.CW_HOP_STATUS i0), 2, 1⟩
def F.CW_HOP_STATUS_RET_BROKEN (i0 : Nat) : Fld := ⟨(R.CW_HOP_STATUS i0), 1, 1⟩
def F.HST_CTL_SL_VEC : Fld := ⟨R.HST_CTL, 16, 5⟩
def F.HST_CTL_CRIT_SEV : Fld := ⟨R.HST_CTL, 12, 2⟩
def F.HST_CTL_PTM_AUTO : Fld := ⟨R.HST_CTL, 9, 1⟩
def F.HST_CTL_FULL_FETCH : Fld := ⟨R.HST_CTL, 8, 1⟩
def F.HST_CTL_DB_DIV : Fld := ⟨R.HST_CTL, 0, 5⟩
def F.HST_STATUS_QUOTA_REJ : Fld := ⟨R.HST_STATUS, 4, 1⟩
def F.HST_STATUS_DMA_ERR : Fld := ⟨R.HST_STATUS, 3, 1⟩
def F.HST_STATUS_DB_ERR : Fld := ⟨R.HST_STATUS, 2, 1⟩
def F.HST_LINK_SPEED : Fld := ⟨R.HST_LINK, 8, 4⟩
def F.HST_LINK_WIDTH : Fld := ⟨R.HST_LINK, 4, 4⟩
def F.HST_LINK_L1 : Fld := ⟨R.HST_LINK, 1, 1⟩
def F.HST_DB_BASE_LO_EN : Fld := ⟨R.HST_DB_BASE_LO, 0, 1⟩
def F.HST_SP_BASE_LO_EN : Fld := ⟨R.HST_SP_BASE_LO, 0, 1⟩
def F.HST_VEC_MOD_FRAMES (i0 : Nat) : Fld := ⟨(R.HST_VEC_MOD i0), 0, 8⟩
def F.HST_SQ_CTL_EN (i0 : Nat) : Fld := ⟨(R.HST_SQ_CTL i0), 31, 1⟩
def F.HST_SQ_CTL_CQ (i0 : Nat) : Fld := ⟨(R.HST_SQ_CTL i0), 16, 4⟩
def F.HST_SQ_CTL_SIZE (i0 : Nat) : Fld := ⟨(R.HST_SQ_CTL i0), 0, 4⟩
def F.HST_CQ_CTL_EN (i0 : Nat) : Fld := ⟨(R.HST_CQ_CTL i0), 31, 1⟩
def F.HST_CQ_CTL_VEC (i0 : Nat) : Fld := ⟨(R.HST_CQ_CTL i0), 16, 5⟩
def F.HST_CQ_CTL_SIZE (i0 : Nat) : Fld := ⟨(R.HST_CQ_CTL i0), 0, 4⟩
def F.HST_SR_CTL_EN (i0 : Nat) : Fld := ⟨(R.HST_SR_CTL i0), 31, 1⟩
def F.HST_SR_CTL_WRAP (i0 : Nat) : Fld := ⟨(R.HST_SR_CTL i0), 30, 1⟩
def F.HST_SR_CTL_SIZE (i0 : Nat) : Fld := ⟨(R.HST_SR_CTL i0), 26, 4⟩
def F.HST_SR_CTL_VEC (i0 : Nat) : Fld := ⟨(R.HST_SR_CTL i0), 21, 5⟩
def F.HST_SR_CTL_TYPES (i0 : Nat) : Fld := ⟨(R.HST_SR_CTL i0), 15, 6⟩
def F.HST_SR_CTL_DECIM (i0 : Nat) : Fld := ⟨(R.HST_SR_CTL i0), 0, 8⟩
def F.HST_SR_STATUS_BAD_RD (i0 : Nat) : Fld := ⟨(R.HST_SR_STATUS i0), 31, 1⟩
def F.HST_SR_STATUS_BLOCKED (i0 : Nat) : Fld := ⟨(R.HST_SR_STATUS i0), 30, 1⟩
def F.HST_SR_STATUS_WR (i0 : Nat) : Fld := ⟨(R.HST_SR_STATUS i0), 0, 26⟩
def F.HST_SR_QUOTA_QUOTA (i0 : Nat) : Fld := ⟨(R.HST_SR_QUOTA i0), 0, 10⟩
def F.SPI_STATUS_CRC_ERR_CNT : Fld := ⟨R.SPI_STATUS, 16, 16⟩
def F.SPI_STATUS_DROP : Fld := ⟨R.SPI_STATUS, 3, 1⟩
def F.SPI_STATUS_ERR : Fld := ⟨R.SPI_STATUS, 2, 1⟩
def F.SPI_STATUS_CRC_ERR : Fld := ⟨R.SPI_STATUS, 1, 1⟩
def F.SPI_STATUS_TORN : Fld := ⟨R.SPI_STATUS, 0, 1⟩
def F.SPI_INT_STATUS_READY : Fld := ⟨R.SPI_INT_STATUS, 7, 1⟩
def F.SPI_INT_STATUS_SL : Fld := ⟨R.SPI_INT_STATUS, 6, 1⟩
def F.SPI_LATCH_STATUS_PCIE_TORN : Fld := ⟨R.SPI_LATCH_STATUS, 0, 1⟩
def F.SPI_FIFO_CTL_EN (i0 : Nat) : Fld := ⟨(R.SPI_FIFO_CTL i0), 31, 1⟩
def F.SPI_FIFO_CTL_MODE (i0 : Nat) : Fld := ⟨(R.SPI_FIFO_CTL i0), 30, 1⟩
def F.SPI_FIFO_CTL_ALT_EN (i0 : Nat) : Fld := ⟨(R.SPI_FIFO_CTL i0), 29, 1⟩
def F.SPI_FIFO_CTL_DECIM (i0 : Nat) : Fld := ⟨(R.SPI_FIFO_CTL i0), 16, 8⟩
def F.SPI_FIFO_CTL_LEVEL (i0 : Nat) : Fld := ⟨(R.SPI_FIFO_CTL i0), 0, 15⟩
def F.SPI_FIFO_DROP_DROPPED (i0 : Nat) : Fld := ⟨(R.SPI_FIFO_DROP i0), 16, 16⟩
def F.SPI_FIFO_DROP_UFL (i0 : Nat) : Fld := ⟨(R.SPI_FIFO_DROP i0), 0, 16⟩
def F.CAP_RD_CTL_LOST : Fld := ⟨R.CAP_RD_CTL, 31, 1⟩
def F.CAP_RD_CTL_RING : Fld := ⟨R.CAP_RD_CTL, 0, 3⟩
def F.CAP_CTL_EN (i0 : Nat) : Fld := ⟨(R.CAP_CTL i0), 31, 1⟩
def F.CAP_CTL_MODE (i0 : Nat) : Fld := ⟨(R.CAP_CTL i0), 30, 1⟩
def F.CAP_CTL_KEEP (i0 : Nat) : Fld := ⟨(R.CAP_CTL i0), 29, 1⟩
def F.CAP_CTL_TYPES (i0 : Nat) : Fld := ⟨(R.CAP_CTL i0), 16, 4⟩
def F.CAP_CTL_STRIG_EN (i0 : Nat) : Fld := ⟨(R.CAP_CTL i0), 15, 1⟩
def F.CAP_CTL_SEV_MIN (i0 : Nat) : Fld := ⟨(R.CAP_CTL i0), 12, 2⟩
def F.CAP_CTL_ANY (i0 : Nat) : Fld := ⟨(R.CAP_CTL i0), 9, 1⟩
def F.CAP_CTL_SLOT (i0 : Nat) : Fld := ⟨(R.CAP_CTL i0), 0, 9⟩
def F.CAP_GEOM_BASE (i0 : Nat) : Fld := ⟨(R.CAP_GEOM i0), 16, 10⟩
def F.CAP_GEOM_SIZE (i0 : Nat) : Fld := ⟨(R.CAP_GEOM i0), 0, 4⟩
def F.CAP_WIN_PRE (i0 : Nat) : Fld := ⟨(R.CAP_WIN i0), 16, 16⟩
def F.CAP_WIN_POST (i0 : Nat) : Fld := ⟨(R.CAP_WIN i0), 0, 16⟩
def F.CAP_RSTAT_STATE (i0 : Nat) : Fld := ⟨(R.CAP_RSTAT i0), 30, 2⟩
def F.CAP_RSTAT_STALL (i0 : Nat) : Fld := ⟨(R.CAP_RSTAT i0), 29, 1⟩
def F.CAP_RSTAT_MARK_VALID (i0 : Nat) : Fld := ⟨(R.CAP_RSTAT i0), 28, 1⟩
def F.CAP_RSTAT_MARK_LOST (i0 : Nat) : Fld := ⟨(R.CAP_RSTAT i0), 27, 1⟩
def F.CAP_RSTAT_MARK_REJ (i0 : Nat) : Fld := ⟨(R.CAP_RSTAT i0), 26, 1⟩
def F.CAP_RSTAT_PRE_SHORT (i0 : Nat) : Fld := ⟨(R.CAP_RSTAT i0), 25, 1⟩
def F.CAP_RSTAT_CFG_BAD (i0 : Nat) : Fld := ⟨(R.CAP_RSTAT i0), 24, 1⟩
def F.CAP_RSTAT_CAUSE_HOST (i0 : Nat) : Fld := ⟨(R.CAP_RSTAT i0), 23, 1⟩
def F.CAP_RSTAT_CAUSE_SL (i0 : Nat) : Fld := ⟨(R.CAP_RSTAT i0), 22, 1⟩
def F.CAP_RSTAT_EXTRA (i0 : Nat) : Fld := ⟨(R.CAP_RSTAT i0), 10, 8⟩
def F.CAP_RSTAT_TSLOT (i0 : Nat) : Fld := ⟨(R.CAP_RSTAT i0), 0, 9⟩
def F.CNT_CFG_MODE (i0 : Nat) : Fld := ⟨(R.CNT_CFG i0), 31, 1⟩
def F.CNT_CFG_FREEZE (i0 : Nat) : Fld := ⟨(R.CNT_CFG i0), 30, 1⟩
def F.CNT_CFG_FROZEN (i0 : Nat) : Fld := ⟨(R.CNT_CFG i0), 28, 1⟩
def F.CNT_CFG_SAT (i0 : Nat) : Fld := ⟨(R.CNT_CFG i0), 27, 1⟩
def F.CNT_CFG_QTYPE (i0 : Nat) : Fld := ⟨(R.CNT_CFG i0), 24, 2⟩
def F.CNT_CFG_QVAL (i0 : Nat) : Fld := ⟨(R.CNT_CFG i0), 16, 8⟩
def F.CNT_CFG_EVENT (i0 : Nat) : Fld := ⟨(R.CNT_CFG i0), 0, 8⟩
def F.CNT_VAL_LO_VAL_LO (i0 : Nat) : Fld := ⟨(R.CNT_VAL_LO i0), 0, 32⟩
def F.CNT_VAL_HI_FIRST_VALID (i0 : Nat) : Fld := ⟨(R.CNT_VAL_HI i0), 31, 1⟩
def F.CNT_VAL_HI_VAL_HI (i0 : Nat) : Fld := ⟨(R.CNT_VAL_HI i0), 0, 16⟩
def F.CNT_SNAP_HI_SNAP_HI (i0 : Nat) : Fld := ⟨(R.CNT_SNAP_HI i0), 0, 16⟩
def F.SL_CTL_EVT_CLR : Fld := ⟨R.SL_CTL, 16, 1⟩
def F.SL_CTL_EVT_MAX : Fld := ⟨R.SL_CTL, 0, 8⟩
def F.SL_STATUS_EVT_LOST : Fld := ⟨R.SL_STATUS, 16, 16⟩
def F.SL_STATUS_INJ_REFUSED : Fld := ⟨R.SL_STATUS, 2, 1⟩
def F.SL_STATUS_INJ_ACTIVE : Fld := ⟨R.SL_STATUS, 1, 1⟩
def F.SL_STATUS_EVALUATED : Fld := ⟨R.SL_STATUS, 0, 1⟩
def F.BIST_STATUS_STATE : Fld := ⟨R.BIST_STATUS, 30, 2⟩
def F.BIST_STATUS_TARGET : Fld := ⟨R.BIST_STATUS, 16, 8⟩
def F.BIST_STATUS_ENGINE : Fld := ⟨R.BIST_STATUS, 12, 4⟩
def F.BIST_STATUS_RESULT : Fld := ⟨R.BIST_STATUS, 0, 4⟩
def F.BIST_FAIL_BIT_ROW : Fld := ⟨R.BIST_FAIL_BIT, 16, 16⟩
def F.BIST_FAIL_BIT_BIT : Fld := ⟨R.BIST_FAIL_BIT, 0, 6⟩
def F.BIST_FAILED_TIERS : Fld := ⟨R.BIST_FAILED, 16, 16⟩
def F.BIST_FAILED_APP : Fld := ⟨R.BIST_FAILED, 3, 1⟩
def F.BIST_FAILED_MEM : Fld := ⟨R.BIST_FAILED, 2, 1⟩
def F.BIST_FAILED_DMA : Fld := ⟨R.BIST_FAILED, 1, 1⟩
def F.BIST_FAILED_FEN : Fld := ⟨R.BIST_FAILED, 0, 1⟩
def F.BIST_ROLL_EN : Fld := ⟨R.BIST_ROLL, 31, 1⟩
def F.BIST_ROLL_PERIOD : Fld := ⟨R.BIST_ROLL, 0, 16⟩

/-- One row of a register table: first offset, two index counts with their strides, reset value, and one mask per access code of R12
(read only, RW, RWS, W1C, WO, RWL). Bits in no mask are reserved. -/
structure RegRow where
  base : Nat
  n1 : Nat
  s1 : Nat
  n2 : Nat
  s2 : Nat
  reset : Nat
  ro : Nat
  rw : Nat
  rws : Nat
  w1c : Nat
  wo : Nat
  rwl : Nat
deriving DecidableEq, Repr

/-- Registers of spec/01_organisation_and_timing.md R40. -/
def regs01 : List RegRow := [
  ⟨0, 1, 4, 1, 4, 0x5A531916, 0xFFFFFFFF, 0, 0, 0, 0, 0⟩,  -- GEN_DEVID
  ⟨0x10, 1, 4, 1, 4, 0, 0xFFFFFFFF, 0, 0, 0, 0, 0⟩,  -- GEN_TIME_LO
  ⟨0x14, 1, 4, 1, 4, 0, 0xFFFFFFFF, 0, 0, 0, 0, 0⟩,  -- GEN_TIME_HI
  ⟨0x18, 1, 4, 1, 4, 0, 0xFFFFFFFF, 0, 0, 0, 0, 0⟩,  -- GEN_FRAME
  ⟨0x20, 1, 4, 1, 4, 0, 0, 0, 0, 0x3F, 0, 0⟩,  -- GEN_OVR_STATUS
  ⟨0x24, 1, 4, 1, 4, 0, 0xFFFFFFFF, 0, 0, 0, 0, 0⟩]  -- GEN_OVR_CNT

/-- Registers of spec/03_supplies_power_states_lifecycle.md R107. -/
def regs03 : List RegRow := [
  ⟨0x800, 1, 4, 1, 4, 1, 0xF0F, 0, 0, 0, 0, 0⟩,  -- PWR_STATE
  ⟨0x804, 1, 4, 1, 4, 0, 0, 0xF800, 0, 0x80, 7, 0⟩,  -- PWR_CTL
  ⟨0x808, 1, 4, 1, 4, 0xF, 0, 0xF, 0, 0, 0, 0⟩,  -- PWR_WAKE_CTL
  ⟨0x80C, 1, 4, 1, 4, 0, 0, 0xFFFFFFFF, 0, 0, 0, 0⟩,  -- PWR_WAKE_TIMER
  ⟨0x810, 1, 4, 1, 4, 0, 0xF00, 0, 0, 0xF, 0, 0⟩,  -- PWR_CAUSE
  ⟨0x814, 1, 4, 1, 4, 0, 0xFFFFFFFF, 0, 0, 0, 0, 0⟩,  -- PWR_PARK_TIME
  ⟨0xC00, 1, 4, 1, 4, 0, 0x1FFF30F, 0, 0, 0, 0, 0⟩,  -- LC_STATE
  ⟨0xC04, 1, 4, 1, 4, 0, 0, 0, 0, 0, 0xFF00070F, 0⟩,  -- LC_CTL
  ⟨0xC10, 4, 4, 1, 4, 0, 0xFFFFFFFF, 0, 0, 0, 0, 0⟩,  -- LC_CHALLENGE[i]
  ⟨0xC40, 0x10, 4, 1, 4, 0, 0, 0, 0, 0, 0xFFFFFFFF, 0⟩,  -- LC_RESPONSE[i]
  ⟨0xC80, 0x10, 4, 1, 4, 0, 0, 0, 0, 0, 0xFFFFFFFF, 0⟩,  -- LC_KEY[i]
  ⟨0x1000, 1, 4, 1, 4, 0, 0x770F, 0, 0, 0, 0, 0⟩,  -- CFG_STATUS
  ⟨0x1004, 1, 4, 1, 4, 0, 0, 0, 0, 0, 1, 0⟩,  -- CFG_CTL
  ⟨0x1008, 2, 4, 1, 4, 0, 0xFFFFFFFF, 0, 0, 0, 0, 0⟩]  -- CFG_SEQ[c]

/-- Registers of spec/04_cell_and_current_front_end.md R146. -/
def regs04a : List RegRow := [
  ⟨0x8000, 1, 4, 1, 4, 0, 2, 0x100, 0, 4, 1, 0⟩,  -- FE_COMMIT
  ⟨0x8004, 1, 4, 1, 4, 0, 0xFFFF0087, 0, 0, 8, 0, 0⟩,  -- FE_STATUS
  ⟨0x8008, 1, 4, 1, 4, 0x140000, 0, 0xFF0002, 0, 0, 1, 0⟩,  -- FE_ALIGN_CTL
  ⟨0x800C, 1, 4, 1, 4, 0x806403E8, 0, 0, 0xFFFFFFFF, 0, 0, 0⟩,  -- FE_OW_CTL
  ⟨0x8010, 1, 4, 1, 4, 0x320064, 0, 0, 0xFFFFFFFF, 0, 0, 0⟩,  -- FE_CHK_CTL
  ⟨0x8014, 1, 4, 1, 4, 0x640404, 0, 0, 0xFFFFFF07, 0, 0, 0⟩,  -- FE_ISENSE_CTL
  ⟨0x8018, 1, 4, 1, 4, 0x40000000, 0, 0, 0xFFFFFFFF, 0, 0, 0⟩,  -- FE_IPL_GAIN
  ⟨0x801C, 1, 4, 1, 4, 0, 0, 0, 0xFFFFFFFF, 0, 0, 0⟩,  -- FE_IPL_OFS
  ⟨0x8020, 1, 4, 1, 4, 0, 0, 0, 0xFFFFFFFF, 0, 0, 0⟩,  -- FE_IDLY
  ⟨0x8024, 2, 4, 1, 4, 0x186A0, 0, 0, 0xFFFFFFFF, 0, 0, 0⟩,  -- FE_SHUNT[k]
  ⟨0x802C, 2, 4, 1, 4, 0x3E90000, 0, 0, 0xFFFFFFFF, 0, 0, 0⟩,  -- FE_DIV_RATIO[k]
  ⟨0x8034, 1, 4, 1, 4, 0x12C0096, 0, 0, 0xFFFFFFFF, 0, 0, 0⟩,  -- FE_THR_CTL
  ⟨0x8038, 1, 4, 1, 4, 0x3C000064, 0, 0, 0xFFFFFFFF, 0, 0, 0⟩,  -- FE_LIMIT_CTL
  ⟨0x803C, 1, 4, 1, 4, 0, 0, 0, 0x8000FFFF, 0, 0, 0⟩,  -- FE_HRES_C0
  ⟨0x8040, 1, 4, 1, 4, 0, 0x8000FFFF, 0, 0, 0, 0, 0⟩,  -- FE_HRES_MEAS_C0
  ⟨0x8044, 2, 4, 1, 4, 0, 0xFFFFFFFF, 0, 0, 0, 0, 0⟩,  -- FE_VDIV[k]
  ⟨0x804C, 1, 4, 1, 4, 0, 0xFFFFFFFF, 0, 0, 0, 0, 0⟩,  -- FE_STACK_SUM
  ⟨0x8100, 0x10, 0x100, 1, 4, 0xF0FFF, 0, 0, 0xF0FFF, 0, 0, 0⟩,  -- FE_TIER_CTL[t]
  ⟨0x8104, 0x10, 0x100, 1, 4, 0xD6B0D6B, 0, 0, 0xFFFFFFFF, 0, 0, 0⟩,  -- FE_NTC_BETA[t]
  ⟨0x8108, 0x10, 0x100, 1, 4, 0, 0xEFFF1FFF, 0, 0, 0, 0, 0⟩]  -- FE_TIER_STATUS[t]

/-- Registers of spec/04_cell_and_current_front_end.md R146. -/
def regs04b : List RegRow := [
  ⟨0x810C, 0x10, 0x100, 1, 4, 0, 0xFFFF000F, 0, 0, 0, 0, 0⟩,  -- FE_OW_STATUS[t]
  ⟨0x8110, 0x10, 0x100, 1, 4, 0, 0xFFFFFFFF, 0, 0, 0, 0, 0⟩,  -- FE_TIER_DLY[t]
  ⟨0x8114, 0x10, 0x100, 1, 4, 0x80000000, 0xFFFFFFFF, 0, 0, 0, 0, 0⟩,  -- FE_AUX_T[t]
  ⟨0x8118, 0x10, 0x100, 1, 4, 0x80008000, 0xFFFFFFFF, 0, 0, 0, 0, 0⟩,  -- FE_AUX_NTC[t]
  ⟨0x811C, 0x10, 0x100, 1, 4, 0, 0xFFFF0001, 0, 0, 0, 0, 0⟩,  -- FE_CHK_REF_LAST[t]
  ⟨0x9100, 0xC0, 0x10, 1, 4, 0, 0, 0, 0x8000FFFF, 0, 0, 0⟩,  -- FE_HRES[n]
  ⟨0x9104, 0xC0, 0x10, 1, 4, 0, 0x8000FFFF, 0, 0, 0, 0, 0⟩,  -- FE_HRES_MEAS[n]
  ⟨0x9108, 0xC0, 0x10, 1, 4, 0, 0xFFFFFFFF, 0, 0, 0, 0, 0⟩]  -- FE_CHK_LAST[n]

/-- Registers of spec/05_filters_codes_and_frame_records.md R177. -/
def regs05 : List RegRow := [
  ⟨0xA000, 1, 4, 1, 4, 0x304, 0, 0, 0x70F, 0, 0, 0⟩,  -- FLT_CTL
  ⟨0xA004, 2, 4, 1, 4, 0x282710, 0, 0, 0xC0FFFFFF, 0, 0, 0⟩,  -- FLT_NOTCH[k]
  ⟨0xA00C, 2, 4, 1, 4, 0, 0x80FFFFFF, 0, 0, 0, 0, 0⟩,  -- FLT_NOTCH_POL[k]
  ⟨0xA014, 1, 4, 1, 4, 0x10064, 0, 0, 0x31FFF, 0, 0, 0⟩,  -- FLT_BAL_CTL
  ⟨0xA018, 1, 4, 1, 4, 0x304, 0xFF0F070F, 0, 0, 0, 0, 0⟩,  -- FLT_ACTIVE
  ⟨0xA01C, 1, 4, 1, 4, 0x2E40D2, 0xFFFFFFFF, 0, 0, 0, 0, 0⟩,  -- FLT_SETTLE
  ⟨0xA020, 1, 4, 1, 4, 0x51, 0xFFFF, 0, 0, 0, 0, 0⟩,  -- FLT_QUIET_LEN
  ⟨0xA024, 1, 4, 1, 4, 0, 0x13F, 0, 0, 0, 0, 0⟩]  -- FLT_REJ

/-- Registers of spec/06_impedance_spectroscopy.md R198. -/
def regs06 : List RegRow := [
  ⟨0xB000, 1, 4, 1, 4, 0xAE60080, 0, 0xFFFF0183, 0, 0, 0x1C, 0⟩,  -- IMP_CTL
  ⟨0xB004, 1, 4, 1, 4, 0, 0xFFFF001F, 0, 0, 0, 0, 0⟩,  -- IMP_STATUS
  ⟨0xB100, 4, 0x80, 1, 4, 0x100000, 0, 0xC0FF1F00, 0, 0, 0, 0⟩,  -- IMP_DEF[s]
  ⟨0xB104, 4, 0x80, 6, 4, 0, 0, 0xFFFFFFFF, 0, 0, 0, 0⟩,  -- IMP_CELLS[s][w]
  ⟨0xB140, 4, 0x80, 0x10, 4, 0x3E8, 0, 0xFFFFFFFF, 0, 0, 0, 0⟩]  -- IMP_FREQ[s][i]

/-- Registers of spec/07_fen_engine.md R232. -/
def regs07a : List RegRow := [
  ⟨0x10000, 1, 4, 1, 4, 0x321431, 0, 0xFF1F33, 0, 0, 0x40, 0⟩,  -- FEN_CTL
  ⟨0x10004, 1, 4, 1, 4, 0x40000000, 0xE000FFC8, 0, 0, 0x10000000, 0, 0⟩,  -- FEN_STATUS
  ⟨0x10008, 1, 4, 1, 4, 0, 0xFFFFFFFF, 0, 0, 0, 0, 0⟩,  -- FEN_STEP_NUM
  ⟨0x1000C, 1, 4, 1, 4, 0, 0xFFFFFFFF, 0, 0, 0, 0, 0⟩,  -- FEN_OVR_CNT
  ⟨0x10010, 1, 4, 1, 4, 0, 0x7FFFFF, 0, 0, 0, 0, 0⟩,  -- FEN_NODES
  ⟨0x10014, 1, 4, 1, 4, 0, 0xFFFFFFFF, 0, 0, 0, 0, 0⟩,  -- FEN_COST
  ⟨0x10018, 1, 4, 1, 4, 0, 0xFFFFFFFF, 0, 0, 0, 0, 0⟩,  -- FEN_UTIL
  ⟨0x1001C, 1, 4, 1, 4, 0, 0xFFFFFFFF, 0, 0, 0, 0, 0⟩,  -- FEN_STEP_TIME
  ⟨0x10020, 1, 4, 1, 4, 0, 0, 0xFFFFFFFF, 0, 0, 0, 0⟩,  -- FEN_STEP_TMAX
  ⟨0x10024, 1, 4, 1, 4, 0, 0xFFFFFFFF, 0, 0, 0, 0, 0⟩,  -- FEN_PARAM
  ⟨0x10028, 1, 4, 1, 4, 0, 0xFFFFFFFF, 0, 0, 0, 0, 0⟩,  -- FEN_REBUILD
  ⟨0x1002C, 1, 4, 1, 4, 0, 0xFFFFFFFF, 0, 0, 0, 0, 0⟩,  -- FEN_HOLD
  ⟨0x10030, 1, 4, 1, 4, 0, 0x7FFFFF, 0, 0, 0, 0, 0⟩,  -- FEN_PACK_BASE
  ⟨0x10034, 1, 4, 1, 4, 0, 0x7FFFFF, 0, 0, 0, 0, 0⟩,  -- FEN_PACK_CNT
  ⟨0x10040, 1, 4, 1, 4, 0, 0xF0000000, 0x7FFFFF, 0, 0, 0, 0⟩,  -- FEN_NODE_SEL
  ⟨0x10044, 1, 4, 1, 4, 0, 0xFFFFFFFF, 0, 0, 0, 0, 0⟩,  -- FEN_NODE_V0
  ⟨0x10048, 1, 4, 1, 4, 0, 0xFFFFFFFF, 0, 0, 0, 0, 0⟩,  -- FEN_NODE_V1
  ⟨0x11000, 0xC0, 0x10, 1, 4, 0, 0xFFFF7FFF, 0, 0, 0, 0, 0⟩,  -- FEN_CELL_STATUS[n]
  ⟨0x11004, 0xC0, 0x10, 1, 4, 0, 0x7FFFFF, 0, 0, 0, 0, 0⟩,  -- FEN_CELL_BASE[n]
  ⟨0x11008, 0xC0, 0x10, 1, 4, 0, 0xFFFFFFFF, 0, 0, 0, 0, 0⟩]  -- FEN_FAST_SOC[n]

/-- Registers of spec/07_fen_engine.md R232. -/
def regs07b : List RegRow := [
  ⟨0x1100C, 0xC0, 0x10, 1, 4, 0, 0xFFFFFFFF, 0, 0, 0, 0, 0⟩]  -- FEN_FAST_RSER[n]

/-- Registers of spec/08_model_images.md R264. -/
def regs08 : List RegRow := [
  ⟨0x10100, 1, 4, 1, 4, 0x210, 0, 0x210, 0, 0, 7, 0x100⟩,  -- FEN_IMG_CTL
  ⟨0x10104, 1, 4, 1, 4, 0, 0xFF02FF, 0, 0, 0x100, 0, 0⟩,  -- FEN_IMG_STATUS
  ⟨0x10108, 1, 4, 1, 4, 0, 0xFFFFFFFF, 0, 0, 0, 0, 0⟩,  -- FEN_IMG_DETAIL
  ⟨0x1010C, 1, 4, 1, 4, 0, 0, 0xFFFFFC, 0, 0, 0, 0⟩,  -- FEN_IMG_WADDR
  ⟨0x10110, 1, 4, 1, 4, 0, 0, 0, 0, 0, 0xFFFFFFFF, 0⟩,  -- FEN_IMG_WDATA
  ⟨0x10114, 1, 4, 1, 4, 0, 0xFFFFFFFF, 0, 0, 0, 0, 0⟩,  -- FEN_IMG_LEN
  ⟨0x10118, 1, 4, 1, 4, 0, 0xFFFFFFFF, 0, 0, 0, 0, 0⟩,  -- FEN_IMG_STAGED_ID
  ⟨0x1011C, 1, 4, 1, 4, 0, 0xFFFFFFFF, 0, 0, 0, 0, 0⟩,  -- FEN_IMG_ID
  ⟨0x10120, 1, 4, 1, 4, 0, 0x7FFFFF, 0, 0, 0, 0, 0⟩,  -- FEN_IMG_NCALC
  ⟨0x10124, 1, 4, 1, 4, 0, 0xFFFFFFFF, 0, 0, 0, 0, 0⟩,  -- FEN_IMG_PCALC
  ⟨0x10128, 1, 4, 1, 4, 0, 0xFFFFFFFF, 0, 0, 0, 0, 0⟩]  -- FEN_IMG_SWAP_FRAME

/-- Registers of spec/09_estimates_policy_and_ledger.md R289. -/
def regs09 : List RegRow := [
  ⟨0x20000, 1, 4, 1, 4, 0, 0, 0x13, 0, 0, 0, 0⟩,  -- POL_CTL
  ⟨0x20004, 1, 4, 1, 4, 0, 0xFF1F000F, 0, 0, 0, 0, 0⟩,  -- POL_STATUS
  ⟨0x20008, 1, 4, 1, 4, 0x10680AF0, 0, 0xFFFFFFFF, 0, 0, 0, 0⟩,  -- POL_VLIM
  ⟨0x2000C, 1, 4, 1, 4, 0x640064, 0, 0xFFFFFFFF, 0, 0, 0, 0⟩,  -- POL_ILIM
  ⟨0x20010, 1, 4, 1, 4, 0xA000A, 0, 0xFFFFFFFF, 0, 0, 0, 0⟩,  -- POL_FALLBACK
  ⟨0x20014, 1, 4, 1, 4, 0x321E00, 0, 0xFFFFFFFF, 0, 0, 0, 0⟩,  -- POL_THR
  ⟨0x20018, 1, 4, 1, 4, 0, 0, 0xFFFFFFFF, 0, 0, 0, 0⟩,  -- POL_CAP_NOM
  ⟨0x2001C, 1, 4, 1, 4, 0x18050032, 0, 0xFFFFFFFF, 0, 0, 0, 0⟩,  -- POL_AUTO_CTL
  ⟨0x20020, 1, 4, 1, 4, 0xA2801F4, 0, 0xFFFFFFFF, 0, 0, 0, 0⟩,  -- POL_NOTCH_CTL
  ⟨0x20024, 1, 4, 1, 4, 0x32180032, 0, 0xFFFFFFFF, 0, 0, 0, 0⟩,  -- POL_AGE_CTL
  ⟨0x20030, 1, 4, 1, 4, 0, 0, 0xF0FFFFFF, 0, 0, 0x3000000, 0⟩,  -- POL_OVR_CTL
  ⟨0x20034, 1, 4, 1, 4, 0, 0, 0xFFFFFFFF, 0, 0, 0, 0⟩,  -- POL_OVR_ARG
  ⟨0x20038, 1, 4, 1, 4, 0, 0xFFFFFF0F, 0, 0, 0, 0, 0⟩,  -- POL_OVR_STATUS
  ⟨0x20800, 1, 4, 1, 4, 0x20000, 0, 0x30000, 0, 0, 0xFF000006, 0⟩,  -- LED_CTL
  ⟨0x20804, 1, 4, 1, 4, 0, 0xFFFF0007, 0, 0, 0x18, 0, 0⟩,  -- LED_STATUS
  ⟨0x20808, 1, 4, 1, 4, 0x7D09C4, 0, 0xFFFFFFFF, 0, 0, 0, 0⟩,  -- LED_VBIN
  ⟨0x2080C, 1, 4, 1, 4, 0x500F100, 0, 0xFFFFFFFF, 0, 0, 0, 0⟩,  -- LED_TBIN
  ⟨0x20810, 1, 4, 1, 4, 0, 0, 0xC000FFFF, 0, 0, 0, 0⟩,  -- LED_RD_CTL
  ⟨0x20814, 1, 4, 1, 4, 0, 0xFFFFFFFF, 0, 0, 0, 0, 0⟩]  -- LED_RD_DATA

/-- Registers of spec/10_balancing.md R311. -/
def regs10 : List RegRow := [
  ⟨0xC000, 1, 4, 1, 4, 0x191F4F00, 0, 0xFF3FFF03, 0, 0, 0, 0⟩,  -- BAL_CTL
  ⟨0xC004, 1, 4, 1, 4, 0, 0xFFFF00FB, 0, 0, 0, 0, 0⟩,  -- BAL_STATUS
  ⟨0xC008, 1, 4, 1, 4, 0, 0, 0, 0, 0, 0xFFFFFFFF, 0⟩,  -- BAL_SETREG
  ⟨0xC010, 6, 4, 1, 4, 0, 0xFFFFFFFF, 0, 0, 0, 0, 0⟩,  -- BAL_ACTIVE[w]
  ⟨0xC100, 0x10, 0x10, 1, 4, 0x6400, 0xF000FF00, 0, 0, 0, 0, 0⟩,  -- BAL_TIER_STATUS[t]
  ⟨0xC104, 0x10, 0x10, 1, 4, 0, 0xFFFFFFFF, 0, 0, 0, 0, 0⟩,  -- BAL_TIER_PWR[t]
  ⟨0xC200, 0xC0, 0x10, 1, 4, 0, 0x1FFFFF, 0, 0, 0, 0, 0⟩,  -- BAL_TIMER[n]
  ⟨0xC204, 0xC0, 0x10, 1, 4, 0x708, 0, 0xFFFF, 0, 0, 0, 0⟩,  -- BAL_RBAL[n]
  ⟨0xC208, 0xC0, 0x10, 1, 4, 0, 0xFFFFFFFC, 0, 0, 0, 0, 0⟩,  -- BAL_CELL_STATUS[n]
  ⟨0xC20C, 0xC0, 0x10, 1, 4, 0, 0xFFFFFFFF, 0, 0, 0, 0, 0⟩]  -- BAL_CHARGE[n]

/-- Registers of spec/11_boardwalk_tier_ring.md R325. -/
def regs11 : List RegRow := [
  ⟨0xD000, 1, 4, 1, 4, 0x3E80400, 0, 0xFFFFFF00, 0, 0, 3, 0⟩,  -- BW_CTL
  ⟨0xD004, 1, 4, 1, 4, 0, 0xFFFFE01F, 0, 0, 0, 0, 0⟩,  -- BW_STATUS
  ⟨0xD008, 1, 4, 1, 4, 0, 0x1FFFF, 0, 0, 0, 0, 0⟩,  -- BW_BREAK_MAP
  ⟨0xD00C, 1, 4, 1, 4, 0, 0xFFFFFFFF, 0, 0, 0, 0, 0⟩,  -- BW_ROUTE
  ⟨0xD010, 1, 4, 1, 4, 0, 0xFFFFFFFF, 0, 0, 0, 0, 0⟩,  -- BW_EVT_CNT
  ⟨0xD014, 1, 4, 1, 4, 0, 0xFFFFFFFF, 0, 0, 0, 0, 0⟩,  -- BW_LAST_BREAK
  ⟨0xD100, 0x10, 0x10, 1, 4, 0, 0xFFFFFFFF, 0, 0, 0, 0, 0⟩,  -- BW_TIER_ID[t]
  ⟨0xD104, 0x10, 0x10, 1, 4, 0, 0xE0000000, 0, 0, 0, 0, 0⟩,  -- BW_TIER_ENUM[t]
  ⟨0xD200, 0x11, 0x10, 1, 4, 0, 0xF, 0, 0, 0, 0, 0⟩,  -- BW_HOP_STATUS[h]
  ⟨0xD204, 0x11, 0x10, 1, 4, 0, 0xFFFFFFFF, 0, 0, 0, 0, 0⟩,  -- BW_HOP_ERR[h]
  ⟨0xD208, 0x11, 0x10, 1, 4, 0, 0xFFFFFFFF, 0, 0, 0, 0, 0⟩]  -- BW_HOP_CRC[h]

/-- Registers of spec/12_reedline_sensor_strings.md R349. -/
def regs12 : List RegRow := [
  ⟨0xD800, 1, 4, 1, 4, 0x640003, 0, 0xFFFF0003, 0, 0, 0xC, 0⟩,  -- RL_CTL
  ⟨0xD804, 1, 4, 1, 4, 0, 0xFFFFFFFF, 0, 0, 0, 0, 0⟩,  -- RL_STATUS
  ⟨0xD808, 1, 4, 1, 4, 0, 0, 0xF1F, 0, 0, 0, 0⟩,  -- RL_TAG_SEL
  ⟨0xD80C, 1, 4, 1, 4, 0, 0xFFFFFFFF, 0, 0, 0, 0, 0⟩,  -- RL_TAG_ID_LO
  ⟨0xD810, 1, 4, 1, 4, 0, 0xC000FFFF, 0, 0, 0, 0, 0⟩,  -- RL_TAG_ID_HI
  ⟨0xD814, 1, 4, 1, 4, 0x80000000, 0xFFFFFF0F, 0, 0, 0, 0, 0⟩,  -- RL_TAG_DATA
  ⟨0xD900, 0x10, 0x40, 1, 4, 0x81000001, 0, 0x83000001, 0, 0, 0, 0⟩,  -- RL_TIER_CTL[t]
  ⟨0xD904, 0x10, 0x40, 1, 4, 0, 0xF83FFFFF, 0, 0, 0, 0, 0⟩,  -- RL_TIER_STATUS[t]
  ⟨0xD908, 0x10, 0x40, 1, 4, 0, 0, 0x3F, 0, 0, 0, 0⟩,  -- RL_TOPO[t]
  ⟨0xD90C, 0x10, 0x40, 1, 4, 0, 0xFFFFFFFF, 0, 0, 0, 0, 0⟩,  -- RL_ERR_CNT[t]
  ⟨0xD910, 0x10, 0x40, 8, 4, 0, 0, 0xFFFFFFFF, 0, 0, 0, 0⟩]  -- RL_MAP[t][i]

/-- Registers of spec/13_causeway_chain_and_radio.md R383. -/
def regs13 : List RegRow := [
  ⟨0xE000, 1, 4, 1, 4, 0x3E80104, 0, 0xFFFF0137, 0, 0, 0xF000, 0⟩,  -- CW_CTL
  ⟨0xE004, 1, 4, 1, 4, 0xC00000, 0xFEFC1F3F, 0, 0, 0, 0, 0⟩,  -- CW_STATUS
  ⟨0xE008, 1, 4, 1, 4, 0, 0x3F0000, 0x3F, 0, 0, 0, 0⟩,  -- CW_TOPO
  ⟨0xE00C, 1, 4, 1, 4, 0x30014, 0, 0xFFFFFF, 0, 0, 0, 0⟩,  -- CW_HB_CTL
  ⟨0xE010, 1, 4, 1, 4, 0, 0xFFFFFFFF, 0, 0, 0, 0, 0⟩,  -- CW_EVT_CNT
  ⟨0xE014, 1, 4, 1, 4, 0, 0xFFFFFFFF, 0, 0, 0, 0, 0⟩,  -- CW_SYNC
  ⟨0xE018, 1, 4, 1, 4, 0, 0xFFFFFFFF, 0, 0, 0, 0, 0⟩,  -- CW_FRAME_OFS_LO
  ⟨0xE01C, 1, 4, 1, 4, 0, 0x7FFFFF, 0, 0, 0, 0, 0⟩,  -- CW_FRAME_OFS_HI
  ⟨0xE020, 1, 4, 1, 4, 0, 0x20E00000, 0x5F0FFFFF, 0, 0, 0x80000000, 0⟩,  -- CW_FWD_CTL
  ⟨0xE024, 1, 4, 1, 4, 0, 0, 0xFFFFFFFF, 0, 0, 0, 0⟩,  -- CW_FWD_DATA
  ⟨0xE030, 1, 4, 1, 4, 0x70400, 0, 0x3FFF01, 0, 0, 0, 0⟩,  -- CW_RF_CTL
  ⟨0xE034, 1, 4, 1, 4, 0x71C46A39, 0, 0xFFFFFFFF, 0, 0, 0, 0⟩,  -- CW_RF_AA
  ⟨0xE038, 1, 4, 1, 4, 0xFFFFEFFE, 0, 0xFFFFFFFF, 0, 0, 0, 0⟩,  -- CW_RF_CHMAP[0]
  ⟨0xE03C, 1, 4, 1, 4, 0x7F, 0, 0xFFFFFFFF, 0, 0, 0, 0⟩,  -- CW_RF_CHMAP[1]
  ⟨0xE040, 1, 4, 1, 4, 0, 0xFFFFFF03, 0, 0, 0, 0, 0⟩,  -- CW_RF_STATUS
  ⟨0xE100, 0x20, 4, 1, 4, 0, 0xFF03FFFF, 0, 0, 0, 0, 0⟩,  -- CW_NODE_STATUS[a]
  ⟨0xE180, 0x20, 4, 1, 4, 0, 0xFFFFFFFF, 0, 0, 0, 0, 0⟩,  -- CW_NODE_ID[a]
  ⟨0xE204, 0x1F, 4, 1, 4, 0, 0, 0xFFFFFFFF, 0, 0, 0, 0⟩,  -- CW_EXPECT_ID[a]
  ⟨0xE280, 0x20, 4, 1, 4, 0, 0xFFFF003E, 0, 0, 0, 0, 0⟩]  -- CW_HOP_STATUS[h]

/-- Registers of spec/14_pcie_rings_and_doorbells.md R417. -/
def regs14a : List RegRow := [
  ⟨0x2000, 1, 4, 1, 4, 0x13001, 0, 0x1F331F, 0, 0, 0, 0⟩,  -- HST_CTL
  ⟨0x2004, 1, 4, 1, 4, 0, 0xFFFF0003, 0, 0, 0x1C, 0, 0⟩,  -- HST_STATUS
  ⟨0x2008, 1, 4, 1, 4, 0, 0xFF7, 0, 0, 0, 0, 0⟩,  -- HST_LINK
  ⟨0x200C, 1, 4, 1, 4, 0, 0x3FF03FF, 0, 0, 0, 0, 0⟩,  -- HST_SPILL_STATUS
  ⟨0x2010, 1, 4, 1, 4, 0, 0, 0xFFFFF001, 0, 0, 0, 0⟩,  -- HST_DB_BASE_LO
  ⟨0x2014, 1, 4, 1, 4, 0, 0, 0xFFFFFFFF, 0, 0, 0, 0⟩,  -- HST_DB_BASE_HI
  ⟨0x2018, 1, 4, 1, 4, 0, 0, 0xFFFFF001, 0, 0, 0, 0⟩,  -- HST_SP_BASE_LO
  ⟨0x201C, 1, 4, 1, 4, 0, 0, 0xFFFFFFFF, 0, 0, 0, 0⟩,  -- HST_SP_BASE_HI
  ⟨0x2020, 6, 4, 1, 4, 0, 0xFFFFFFFF, 0, 0, 0, 0, 0⟩,  -- HST_TIME[i]
  ⟨0x2084, 0x1F, 4, 1, 4, 0, 0, 0xFF, 0, 0, 0, 0⟩,  -- HST_VEC_MOD[v]
  ⟨0x2100, 0x10, 0x10, 1, 4, 0, 0, 0xFFFFF000, 0, 0, 0, 0⟩,  -- HST_SQ_BASE_LO[q]
  ⟨0x2104, 0x10, 0x10, 1, 4, 0, 0, 0xFFFFFFFF, 0, 0, 0, 0⟩,  -- HST_SQ_BASE_HI[q]
  ⟨0x2108, 0x10, 0x10, 1, 4, 0, 0, 0x800F000F, 0, 0, 0, 0⟩,  -- HST_SQ_CTL[q]
  ⟨0x210C, 0x10, 0x10, 1, 4, 0, 0xFFFFFFFF, 0, 0, 0, 0, 0⟩,  -- HST_SQ_STATUS[q]
  ⟨0x2200, 0x10, 0x10, 1, 4, 0, 0, 0xFFFFF000, 0, 0, 0, 0⟩,  -- HST_CQ_BASE_LO[q]
  ⟨0x2204, 0x10, 0x10, 1, 4, 0, 0, 0xFFFFFFFF, 0, 0, 0, 0⟩,  -- HST_CQ_BASE_HI[q]
  ⟨0x2208, 0x10, 0x10, 1, 4, 0, 0, 0x801F000F, 0, 0, 0, 0⟩,  -- HST_CQ_CTL[q]
  ⟨0x220C, 0x10, 0x10, 1, 4, 0, 0xFFFFFFFF, 0, 0, 0, 0, 0⟩,  -- HST_CQ_STATUS[q]
  ⟨0x2300, 0x20, 0x10, 1, 4, 0, 0, 0xFFFFF000, 0, 0, 0, 0⟩,  -- HST_SR_BASE_LO[s]
  ⟨0x2304, 0x20, 0x10, 1, 4, 0, 0, 0xFFFFFFFF, 0, 0, 0, 0⟩]  -- HST_SR_BASE_HI[s]

/-- Registers of spec/14_pcie_rings_and_doorbells.md R417. -/
def regs14b : List RegRow := [
  ⟨0x2308, 0x20, 0x10, 1, 4, 0, 0, 0xFFFF80FF, 0, 0, 0, 0⟩,  -- HST_SR_CTL[s]
  ⟨0x230C, 0x20, 0x10, 1, 4, 0, 0xE3FFFFFF, 0, 0, 0, 0, 0⟩,  -- HST_SR_STATUS[s]
  ⟨0x2500, 0x20, 8, 1, 4, 0, 0x3FF0000, 0x3FF, 0, 0, 0, 0⟩,  -- HST_SR_QUOTA[s]
  ⟨0x2504, 0x20, 8, 1, 4, 0, 0xFFFFFFFF, 0, 0, 0, 0, 0⟩]  -- HST_DROP[s]

/-- Registers of spec/15_spi_port_and_result_fifos.md R435. -/
def regs15 : List RegRow := [
  ⟨0x3000, 1, 4, 1, 4, 0, 0xFFFF00C0, 0, 0, 0xF, 0, 0⟩,  -- SPI_STATUS
  ⟨0x3004, 1, 4, 1, 4, 0xC0, 0, 0xCF, 0, 0, 0, 0⟩,  -- SPI_INT_EN
  ⟨0x3008, 1, 4, 1, 4, 0, 0, 0, 0, 0xCF, 0, 0⟩,  -- SPI_INT_STATUS
  ⟨0x300C, 1, 4, 1, 4, 0, 0, 0, 0, 1, 0, 0⟩,  -- SPI_LATCH_STATUS
  ⟨0x3100, 4, 0x10, 1, 4, 1, 0, 0xE0FF7FFF, 0, 0, 0x18000000, 0⟩,  -- SPI_FIFO_CTL[f]
  ⟨0x3104, 4, 0x10, 1, 4, 0, 0xFFFF7FFF, 0, 0, 0, 0, 0⟩,  -- SPI_FIFO_CNT[f]
  ⟨0x3108, 4, 0x10, 1, 4, 0, 0x80FFFFFF, 0, 0, 0, 0, 0⟩,  -- SPI_FIFO_HEAD[f]
  ⟨0x310C, 4, 0x10, 1, 4, 0, 0xFFFFFFFF, 0, 0, 0, 0, 0⟩]  -- SPI_FIFO_DROP[f]

/-- Registers of spec/16_capture_rings_and_counters.md R452. -/
def regs16a : List RegRow := [
  ⟨0xF000, 1, 4, 1, 4, 0, 0, 7, 0, 0x80000000, 0, 0⟩,  -- CAP_RD_CTL
  ⟨0xF004, 1, 4, 1, 4, 0, 0, 0xFFFFFFFF, 0, 0, 0, 0⟩,  -- CAP_RD_POS
  ⟨0xF008, 1, 4, 1, 4, 0, 0xFFFFFFFF, 0, 0, 0, 0, 0⟩,  -- CAP_RD_DATA
  ⟨0xF100, 8, 0x80, 1, 4, 0, 0, 0xE00FB3FF, 0, 0, 0xC000000, 0⟩,  -- CAP_CTL[r]
  ⟨0xF104, 8, 0x80, 1, 4, 0, 0, 0x3FF000F, 0, 0, 0, 0⟩,  -- CAP_GEOM[r]
  ⟨0xF108, 8, 0x80, 1, 4, 0, 0, 0xFFFFFFFF, 0, 0, 0, 0⟩,  -- CAP_WIN[r]
  ⟨0xF10C, 8, 0x80, 7, 4, 0, 0, 0xFFFFFFFF, 0, 0, 0, 0⟩,  -- CAP_CHAN[r][w]
  ⟨0xF128, 8, 0x80, 1, 4, 0, 0xFFFFFFFF, 0, 0, 0, 0, 0⟩,  -- CAP_WR[r]
  ⟨0xF12C, 8, 0x80, 1, 4, 0, 0xFFFFFFFF, 0, 0, 0, 0, 0⟩,  -- CAP_OLDEST[r]
  ⟨0xF130, 8, 0x80, 1, 4, 0, 0, 0xFFFFFFFF, 0, 0, 0, 0⟩,  -- CAP_MARK[r]
  ⟨0xF134, 8, 0x80, 1, 4, 0, 0xF2C3FDFF, 0, 0, 0xD000000, 0, 0⟩,  -- CAP_RSTAT[r]
  ⟨0xF138, 8, 0x80, 1, 4, 0, 0xFFFFFFFF, 0, 0, 0, 0, 0⟩,  -- CAP_TRIG_FRAME[r]
  ⟨0xF13C, 8, 0x80, 1, 4, 0, 0xFFFFFFFF, 0, 0, 0, 0, 0⟩,  -- CAP_PRE_POS[r]
  ⟨0xF140, 8, 0x80, 1, 4, 0, 0xFFFFFFFF, 0, 0, 0, 0, 0⟩,  -- CAP_DROP[r]
  ⟨0x7000, 1, 4, 1, 4, 0, 0, 0, 0, 0, 1, 0⟩,  -- CNT_CTL
  ⟨0x7004, 1, 4, 1, 4, 0, 0xFFFFFFFF, 0, 0, 0, 0, 0⟩,  -- CNT_SNAP_FRAME
  ⟨0x7100, 0x20, 0x20, 1, 4, 0, 0x1C000000, 0xC3FF00FF, 0, 0, 0x20000000, 0⟩,  -- CNT_CFG[i]
  ⟨0x7104, 0x20, 0x20, 1, 4, 0, 0xFFFFFFFF, 0, 0, 0, 0, 0⟩,  -- CNT_FIRST[i]
  ⟨0x7108, 0x20, 0x20, 1, 4, 0, 0xFFFFFFFF, 0, 0, 0, 0, 0⟩,  -- CNT_VAL_LO[i]
  ⟨0x710C, 0x20, 0x20, 1, 4, 0, 0x8000FFFF, 0, 0, 0, 0, 0⟩]  -- CNT_VAL_HI[i]

/-- Registers of spec/16_capture_rings_and_counters.md R452. -/
def regs16b : List RegRow := [
  ⟨0x7110, 0x20, 0x20, 1, 4, 0, 0xFFFFFFFF, 0, 0, 0, 0, 0⟩,  -- CNT_SNAP_LO[i]
  ⟨0x7114, 0x20, 0x20, 1, 4, 0, 0xFFFF, 0, 0, 0, 0, 0⟩]  -- CNT_SNAP_HI[i]

/-- Registers of spec/17_sluice_fault_handling.md R477. -/
def regs17 : List RegRow := [
  ⟨0x4000, 1, 4, 1, 4, 0x80000000, 0xE3FF00FB, 0, 0, 0, 0, 0⟩,  -- SL_SUMMARY
  ⟨0x4004, 1, 4, 1, 4, 0x10040, 0, 0x100FF, 0, 0, 0, 0⟩,  -- SL_CTL
  ⟨0x4008, 1, 4, 1, 4, 0, 0xFFFF0003, 0, 0, 4, 0, 0⟩,  -- SL_STATUS
  ⟨0x400C, 1, 4, 1, 4, 0, 0xFFFFFFFF, 0, 0, 0, 0, 0⟩,  -- SL_CLR_CNT
  ⟨0x4100, 0x10, 4, 1, 4, 0, 0, 0, 0, 0xFFFFFFFF, 0, 0⟩,  -- SL_STICKY[w]
  ⟨0x4140, 0x10, 4, 1, 4, 0, 0xFFFFFFFF, 0, 0, 0, 0, 0⟩,  -- SL_LIVE[w]
  ⟨0x4180, 0x10, 4, 1, 4, 0, 0, 0, 0, 0, 0xFFFFFFFF, 0⟩,  -- SL_INJ_SET[w]
  ⟨0x41C0, 0x10, 4, 1, 4, 0, 0, 0, 0, 0, 0xFFFFFFFF, 0⟩,  -- SL_INJ_CLR[w]
  ⟨0x4200, 0x10, 4, 1, 4, 0, 0xFFFFFFFF, 0, 0, 0, 0, 0⟩,  -- SL_INJ_ACT[w]
  ⟨0x4240, 0x10, 4, 1, 4, 0, 0, 0, 0, 0xFFFFFFFF, 0, 0⟩,  -- SL_INJ_SEEN[w]
  ⟨0x4800, 0x200, 4, 1, 4, 0, 0x60000000, 0x31F, 0, 0, 0, 0⟩,  -- SL_CFG[i]
  ⟨0x5000, 0x200, 4, 1, 4, 0, 0xFFFFFFFF, 0, 0, 0, 0, 0⟩]  -- SL_DETAIL[i]

/-- Registers of spec/18_self_test_and_repair.md R490. -/
def regs18 : List RegRow := [
  ⟨0x6000, 1, 4, 1, 4, 0, 0, 0xF0FF0000, 0, 0, 3, 0⟩,  -- BIST_CTL
  ⟨0x6004, 1, 4, 1, 4, 0, 0xEFFFF00F, 0, 0, 0, 0, 0⟩,  -- BIST_STATUS
  ⟨0x6008, 1, 4, 1, 4, 0, 0xFFFFFFFF, 0, 0, 0, 0, 0⟩,  -- BIST_FAIL_ADDR
  ⟨0x600C, 1, 4, 1, 4, 0, 0xFFFF003F, 0, 0, 0, 0, 0⟩,  -- BIST_FAIL_BIT
  ⟨0x6010, 1, 4, 1, 4, 0, 0xFFFFFFFF, 0, 0, 0, 0, 0⟩,  -- BIST_FAIL_COUNT
  ⟨0x6014, 1, 4, 1, 4, 0, 0xFFFFFFFF, 0, 0, 0, 0, 0⟩,  -- BIST_SIG
  ⟨0x6018, 1, 4, 1, 4, 0, 0xFFFF000F, 0, 0, 0, 0, 0⟩,  -- BIST_FAILED
  ⟨0x601C, 1, 4, 1, 4, 0x8000003C, 0, 0x8000FFFF, 0, 0, 0, 0⟩,  -- BIST_ROLL
  ⟨0x6020, 1, 4, 1, 4, 0, 0xFFFFFF01, 0, 0, 0, 0, 0⟩]  -- BIST_REPAIR

/-- Registers of spec/19_register_map.md R495, R498. -/
def regs19 : List RegRow := [
  ⟨0x40000, 0xC6, 4, 1, 4, 0, 0xFFFFFFFF, 0, 0, 0, 0, 0⟩,  -- RES_FRAME[w]
  ⟨0x40400, 1, 4, 1, 4, 0, 0xFFFFFFFF, 0, 0, 0, 0, 0⟩,  -- RES_FRAME_UPD
  ⟨0x40408, 4, 4, 1, 4, 0, 0xFFFFFFFF, 0, 0, 0, 0, 0⟩,  -- RES_TIME[i]
  ⟨0x40800, 0x26, 4, 1, 4, 0, 0xFFFFFFFF, 0, 0, 0, 0, 0⟩,  -- RES_AUX[w]
  ⟨0x40C00, 1, 4, 1, 4, 0, 0xFFFFFFFF, 0, 0, 0, 0, 0⟩,  -- RES_AUX_UPD
  ⟨0x40C08, 2, 4, 1, 4, 0, 0xFFFFFFFF, 0, 0, 0, 0, 0⟩,  -- RES_AUX_TIME[i]
  ⟨0x50000, 0x3CC, 4, 1, 4, 0, 0xFFFFFFFF, 0, 0, 0, 0, 0⟩,  -- EST_REC[w]
  ⟨0x51000, 1, 4, 1, 4, 0, 0xFFFFFFFF, 0, 0, 0, 0, 0⟩,  -- EST_UPD
  ⟨0x51008, 2, 4, 1, 4, 0, 0xFFFFFFFF, 0, 0, 0, 0, 0⟩,  -- EST_TIME[i]
  ⟨0x52000, 0xC0, 0x20, 5, 4, 0, 0xFFFFFFFF, 0, 0, 0, 0, 0⟩]  -- EST_CELL[n][j]

/-- The rows that can hold the offset `a`, chosen by its 4 KiB page. -/
def regsAt (a : Nat) : List RegRow :=
  match a / 0x1000 with
  | 0 | 1 => regs01 ++ regs03
  | 2 => regs14a ++ regs14b
  | 3 => regs15
  | 4 | 5 => regs17
  | 6 => regs18
  | 7 | 15 => regs16a ++ regs16b
  | 8 | 9 => regs04a ++ regs04b
  | 10 => regs05
  | 11 => regs06
  | 12 => regs10
  | 13 => regs11 ++ regs12
  | 14 => regs13
  | 16 | 17 => regs07a ++ regs07b ++ regs08
  | 32 => regs09
  | p => if 64 ≤ p then regs19 else []

/-- The row of offset `a`, if a register stands there. -/
def regRow (a : Nat) : Option RegRow := (regsAt a).find? fun r =>
  decide (r.base ≤ a) && decide ((a - r.base) / r.s1 < r.n1) && decide ((a - r.base) % r.s1 / r.s2 < r.n2) && (a - r.base) % r.s1 % r.s2 == 0

end Sys2Proof.Machine
end

