-- ==== Sys2Proof/Machine/Sources.lean ====
section
/-! DEFINITION. The 512 source slots of the Sluice (R453 to R455) with each source's detection kind, default severity, default reactions and
block-reset domain, as the chapter that defines the source gives them (R144, R197, R231, R263, R276, R310, R324, R348, R382, R416, R434, R451, R489). -/

namespace Sys2Proof.Machine

/-- How a source is detected (R456). -/
inductive Detection where
  | hardware | tier | frame
deriving DecidableEq, Repr

/-- Which block a BLK reaction resets (R465); `none` where BLK has no effect. -/
inductive DomainKind where
  | none | feTier | feTier0 | imp | fen | cw | hst | rl | bw | radio
deriving DecidableEq, Repr

/-- A run of slots that hold the instances of one source. -/
structure SrcRow where
  base : Nat
  count : Nat
  kind : Detection
  sev  : Nat
  mask : Nat
  dom  : DomainKind
deriving DecidableEq, Repr

/-- R454: the assigned slots. The mask is laid out as SL_CFG[4:0]. -/
def srcTable : List SrcRow := [
  ⟨0x000, 2, .hardware, 3, 0x13, .none⟩,   -- SL_LOCKSTEP, SL_ECC_UE
  ⟨0x002, 1, .hardware, 0, 0x01, .none⟩,   -- SL_ECC_CE
  ⟨0x003, 1, .hardware, 3, 0x13, .none⟩,   -- SL_CLOCK
  ⟨0x004, 2, .hardware, 2, 0x11, .none⟩,   -- SL_SUPPLY, SL_OT
  ⟨0x006, 2, .hardware, 1, 0x01, .none⟩,   -- SL_SAFE_IN, SL_NVSTORE
  ⟨0x008, 2, .frame, 1, 0x01, .none⟩,      -- FRAME_OVR, CFG_NONE
  ⟨0x010, 16, .frame, 2, 0x11, .feTier⟩,   -- FE_OW
  ⟨0x020, 16, .frame, 1, 0x01, .feTier⟩,   -- FE_OW_STARVED
  ⟨0x030, 32, .frame, 2, 0x11, .feTier⟩,   -- FE_CHK, FE_CHK_REF
  ⟨0x050, 32, .frame, 2, 0x01, .feTier⟩,   -- FE_TOPO, FE_TIER_SUM
  ⟨0x070, 16, .frame, 1, 0x01, .feTier⟩,   -- FE_NTC
  ⟨0x080, 16, .frame, 2, 0x11, .feTier⟩,   -- FE_DIE_OT
  ⟨0x090, 1, .frame, 2, 0x11, .feTier0⟩,   -- FE_IPL
  ⟨0x091, 1, .frame, 2, 0x01, .none⟩,      -- FE_STACK_SUM
  ⟨0x092, 1, .frame, 1, 0x01, .none⟩,      -- FE_SKEW
  ⟨0x0A0, 16, .tier, 3, 0x11, .feTier⟩,    -- BAL_FET
  ⟨0x0B0, 16, .frame, 1, 0x01, .feTier⟩,   -- BAL_MISMATCH
  ⟨0x0C0, 16, .frame, 0, 0x01, .feTier⟩,   -- BAL_GOV
  ⟨0x0D0, 16, .frame, 1, 0x01, .imp⟩,      -- IMP_SAT
  ⟨0x0E0, 1, .frame, 0, 0x01, .imp⟩]       -- IMP_ABORT
  ++ [
  ⟨0x0E1, 3, .frame, 2, 0x01, .fen⟩,       -- FEN_STEP_OVR, FEN_HALT, FEN_NOCUR
  ⟨0x0E4, 1, .frame, 0, 0x01, .fen⟩,       -- FEN_REBUILD
  ⟨0x0E5, 1, .frame, 1, 0x01, .fen⟩,       -- FEN_THROTTLE
  ⟨0x0E6, 1, .frame, 2, 0x01, .fen⟩,       -- FEN_IMG
  ⟨0x0F0, 16, .frame, 2, 0x01, .fen⟩,      -- POL_PLATE
  ⟨0x100, 16, .frame, 2, 0x11, .fen⟩,      -- POL_TCORE
  ⟨0x110, 16, .frame, 2, 0x01, .fen⟩,      -- POL_SELFDIS
  ⟨0x120, 16, .frame, 1, 0x01, .fen⟩,      -- POL_ZRISE
  ⟨0x130, 32, .frame, 1, 0x01, .rl⟩,       -- RL_COUNT_MISMATCH, RL_TAG
  ⟨0x150, 16, .frame, 2, 0x01, .rl⟩,       -- RL_SHORT
  ⟨0x160, 1, .frame, 1, 0x01, .bw⟩,        -- BW_BREAK
  ⟨0x161, 2, .frame, 2, 0x11, .bw⟩,        -- BW_SPLIT, BW_ENUM
  ⟨0x163, 1, .frame, 0, 0x01, .bw⟩,        -- BW_LINKERR
  ⟨0x171, 31, .frame, 2, 0x11, .cw⟩,       -- CW_HB_LOST, addresses 1 to 31
  ⟨0x190, 1, .frame, 1, 0x01, .cw⟩,        -- CW_BREAK
  ⟨0x191, 4, .frame, 2, 0x01, .cw⟩,        -- CW_NODE_FAULT, CW_OVERFLOW, CW_TOPO, CW_CONFLICT
  ⟨0x195, 2, .frame, 1, 0x01, .cw⟩,        -- CW_AUTH, CW_SYNC
  ⟨0x197, 1, .frame, 1, 0x01, .radio⟩]     -- CW_RADIO
  ++ [
  ⟨0x1A0, 2, .frame, 1, 0x01, .hst⟩,       -- HST_LINK, HST_DMA
  ⟨0x1A2, 1, .frame, 0, 0x01, .hst⟩,       -- HST_DROP
  ⟨0x1A3, 1, .frame, 0, 0x01, .none⟩,      -- SPI_DROP
  ⟨0x1A4, 1, .frame, 1, 0x01, .none⟩,      -- SPI_CRC
  ⟨0x1A5, 3, .frame, 0, 0x01, .none⟩,      -- CAP_STALL, CAP_MARK_LOST, CAP_DONE
  ⟨0x1B0, 17, .frame, 3, 0x13, .none⟩,     -- BIST_TIER, BIST_BLOCK
  ⟨0x1C1, 1, .frame, 1, 0x01, .none⟩]      -- BIST_ABORT

/-- The row of slot `i`; `none` for a reserved slot (R453). -/
def srcOf (i : Nat) : Option SrcRow := srcTable.find? fun r => decide (r.base ≤ i) && decide (i < r.base + r.count)

/-- R477: the reset value of SL_CFG[i]. -/
def slCfgReset (i : Nat) : Nat :=
  match srcOf i with
  | some r => 0x20000000 + 0x100 * r.sev + r.mask + (if i = 0 then 0x40000000 else 0)
  | none => 0

/-- R454: the tier of a tier-indexed source. -/
def slotTier (i : Nat) : Option Nat :=
  if (0x010 ≤ i ∧ i < 0x090) ∨ (0x0A0 ≤ i ∧ i < 0x0E0) ∨ (0x0F0 ≤ i ∧ i < 0x160) ∨ (0x1B0 ≤ i ∧ i < 0x1C0)
  then some (i % 16) else none

/-! Slots by source name (R454); a tier-indexed source takes its tier. -/
def Slot.lockstep : Nat := 0x000
def Slot.eccUe : Nat := 0x001
def Slot.eccCe : Nat := 0x002
def Slot.clock : Nat := 0x003
def Slot.supply : Nat := 0x004
def Slot.ot : Nat := 0x005
def Slot.safeIn : Nat := 0x006
def Slot.nvstore : Nat := 0x007
def Slot.frameOvr : Nat := 0x008
def Slot.cfgNone : Nat := 0x009
def Slot.feOw (t : Nat) : Nat := 0x010 + t
def Slot.feOwStarved (t : Nat) : Nat := 0x020 + t
def Slot.feChk (t : Nat) : Nat := 0x030 + t
def Slot.feChkRef (t : Nat) : Nat := 0x040 + t
def Slot.feTopo (t : Nat) : Nat := 0x050 + t
def Slot.feTierSum (t : Nat) : Nat := 0x060 + t
def Slot.feNtc (t : Nat) : Nat := 0x070 + t
def Slot.feDieOt (t : Nat) : Nat := 0x080 + t
def Slot.feIpl : Nat := 0x090
def Slot.feStackSum : Nat := 0x091
def Slot.feSkew : Nat := 0x092
def Slot.balFet (t : Nat) : Nat := 0x0A0 + t
def Slot.balMismatch (t : Nat) : Nat := 0x0B0 + t
def Slot.balGov (t : Nat) : Nat := 0x0C0 + t
def Slot.impSat (t : Nat) : Nat := 0x0D0 + t
def Slot.impAbort : Nat := 0x0E0
def Slot.fenStepOvr : Nat := 0x0E1
def Slot.fenHalt : Nat := 0x0E2
def Slot.fenNocur : Nat := 0x0E3
def Slot.fenRebuild : Nat := 0x0E4
def Slot.fenThrottle : Nat := 0x0E5
def Slot.fenImg : Nat := 0x0E6
def Slot.polPlate (t : Nat) : Nat := 0x0F0 + t
def Slot.polTcore (t : Nat) : Nat := 0x100 + t
def Slot.polSelfdis (t : Nat) : Nat := 0x110 + t
def Slot.polZrise (t : Nat) : Nat := 0x120 + t
def Slot.rlCount (t : Nat) : Nat := 0x130 + t
def Slot.rlTag (t : Nat) : Nat := 0x140 + t
def Slot.rlShort (t : Nat) : Nat := 0x150 + t
def Slot.bwBreak : Nat := 0x160
def Slot.bwSplit : Nat := 0x161
def Slot.bwEnum : Nat := 0x162
def Slot.bwLinkErr : Nat := 0x163
def Slot.cwHbLost (a : Nat) : Nat := 0x170 + a
def Slot.cwBreak : Nat := 0x190
def Slot.cwNodeFault : Nat := 0x191
def Slot.cwOverflow : Nat := 0x192
def Slot.cwTopo : Nat := 0x193
def Slot.cwConflict : Nat := 0x194
def Slot.cwAuth : Nat := 0x195
def Slot.cwSync : Nat := 0x196
def Slot.cwRadio : Nat := 0x197
def Slot.hstLink : Nat := 0x1A0
def Slot.hstDma : Nat := 0x1A1
def Slot.hstDrop : Nat := 0x1A2
def Slot.spiDrop : Nat := 0x1A3
def Slot.spiCrc : Nat := 0x1A4
def Slot.capStall : Nat := 0x1A5
def Slot.capMarkLost : Nat := 0x1A6
def Slot.capDone : Nat := 0x1A7
def Slot.bistTier (t : Nat) : Nat := 0x1B0 + t
def Slot.bistBlock : Nat := 0x1C0
def Slot.bistAbort : Nat := 0x1C1

end Sys2Proof.Machine
end

