-- ==== Sys2Proof/Machine/State.lean ====
section
/-! DEFINITION. The block's state as plain data. A register that software sees has one home, `Block.regs` (a canonical map from offset to word,
unlisted offsets at their reset value); the structures below hold what the spec gives the machine and no register shows. `State` adds the queue of
commands that wait, first in, first out. -/

namespace Sys2Proof.Machine

/-- What stops the machine for good. The spec names no such end: whatever it describes goes on, so no meaning ever raises a fault. -/
inductive Fault where
deriving DecidableEq, Repr

/-- Why a command has no meaning. `notModelled`: raised by the dispatcher alone, for a command the model has no meaning for; safe, since the run
stops there. -/
inductive Refusal where
  | notModelled (mnemonic : String)
deriving DecidableEq, Repr

/-- The power states of R85. -/
inductive PowerState where
  | off | boot | run | standby | park | safe
deriving DecidableEq, Repr

/-- The life-cycle states of R97. -/
inductive Life where
  | factory | provisioned | field | service | retired
deriving DecidableEq, Repr

/-- A record (R14 to R16): the fields of its header and its payload; LEN is the payload's length plus 2. `dev` is the device frame of the frame in its header, by which windows and
capture place it in time whatever a frame-number jump did to its number (R359, R360). -/
structure Rec where
  typ      : Nat
  node     : Nat := 0
  spilled  : Bool := false
  rerouted : Bool := false
  loss     : Bool := false
  frame    : Nat
  dev      : Nat := 0
  payload  : List Word
deriving DecidableEq, Repr

/-- What the block has sent to the outside, oldest first: the log against which claims about its outputs are stated. -/
inductive Output where
  /-- Words written to host memory from a byte address on. -/
  | dma (addr : Nat) (words : List Word)
  /-- One MSI-X message (R389, R390). -/
  | msix (vector : Nat)
  /-- The answer to a PCIe configuration request (R83): retry status, or the dword read. -/
  | pcieConfig (retry : Bool) (value : Word)
  /-- Unsupported Request, the answer to a request to Window A that is not an aligned 32-bit one (R387), or to one to Window B (R388). -/
  | pcieUnsupported
  /-- The words and the closing bytes of one SPI frame (R420). -/
  | spi (words : List Word) (closing : List Nat)
  /-- The value a register read returned. -/
  | read (path : Path) (addr : Nat) (value : Word)
  /-- A register read over JTAG (R53). -/
  | jtag (value : Word)
  /-- What boundary scan captured at the LV signal lands (R53), in the order of R49. -/
  | scan (lands : List Bool)
  /-- A CHAIN record sent on the Causeway with its tag (R363, R374), or one passed on with the tag it came with. -/
  | chainRecord (r : Rec) (tag : List Nat)
  /-- A Causeway message other than a CHAIN record: its kind and its values. -/
  | causeway (kind : CwMessage) (args : List Nat)
  /-- The bytes a Reedline master wrote in a walk or a cycle, resets and read slots left out (R335, R339, R342). -/
  | reedline (tier : Nat) (bytes : List Nat)
deriving DecidableEq, Repr

/-- An event that waits for its EVENT record (R474, R475), with its frame number and its device frame. -/
structure EventRec where
  code  : Nat
  sub   : Nat
  index : Nat
  v0    : Nat
  v1    : Nat
  frame : Nat
  dev   : Nat := 0
deriving DecidableEq, Repr

/-- The work of an EMIT that a frame tick overtook (R30): its records and its events. -/
structure EmitWork where
  recs   : List Rec
  events : List EventRec
deriving DecidableEq, Repr

/-- Time (R10, R95): the timestamp at the last frame tick, which boundary work of the present frame is still owed, the device frame, plus 1, of the last EMIT, the work
of EMIT stages that ticks overtook, oldest first (R30), the device frame, plus 1, in which spill drained last and the bytes it moved (R409), and the frame number, plus
1, of the last frame with an overrun; `lockUs`: the microseconds from the end of the last reset to the lock of the sample master clock (R77, R82). -/
structure Clock where
  ticks     : Nat := 0
  running   : Bool := false
  ptmNs     : Nat := 0
  periodOwed : Bool := false
  slotOwed  : Bool := false
  stepOwed  : Bool := false
  emitAt    : Nat := 0
  emitLate  : List EmitWork := []
  drainAt   : Nat := 0
  drained   : Nat := 0
  ovrFrame  : Nat := 0
  lockUs    : Nat := 0
deriving DecidableEq, Repr

/-- Levels at the lands that outlast the event that set them, and the BOOTSEL straps as sampled (R50, R52). WAKE_N is the one output not derived from other
state. `extest`: the levels that boundary scan drives at the LV signal lands in place of the block's own (R53). -/
structure Pins where
  safeIn   : Bool := false
  perstN   : Bool := false
  wakeNLow : Bool := false
  bootsel  : Nat := 2
  extest   : Option (List Bool) := none
deriving DecidableEq, Repr

/-- Power (R85 to R96). `request` is PWR_CTL.REQ until it takes effect; `resetHold`: a reset has not ended; `fwReady`: the firmware is verified and loaded (R79, R83). -/
structure Power where
  state      : PowerState := .boot
  prev       : PowerState := .off
  request    : Option PowerState := none
  parking    : Bool := false
  parked     : Bool := false
  wakes      : List Nat := []
  retain     : Nat := 0
  halted     : Bool := false
  resetHold  : Bool := true
  fwReady    : Bool := false
  supplyLost : List Nat := []
deriving DecidableEq, Repr

/-- A firmware copy of the nonvolatile store (R79): whether its signature and length pass, its version and its security version. -/
structure Firmware where
  valid    : Bool := false
  version  : Nat := 0
  security : Nat := 0
deriving DecidableEq, Repr

/-- A FW_UPDATE that is being written (R81, R102, R405): the submission ring that waits for it (none: its completion is discarded), the word offset reached and the words
still to be written, its length in bytes, whether it is the FINAL piece, whether what is written reads back, and whether a configuration commit or a ledger flush
that was asked for before it has still to end. -/
structure FwJob where
  ring        : Option Nat
  at_         : Nat
  words       : List Nat
  len         : Nat
  final       : Bool
  ok          : Bool
  afterCommit : Bool
  afterFlush  : Bool
deriving DecidableEq, Repr

/-- Firmware (R79, R81, R102, R405): both copies, the one that runs, the anti-rollback floor, the words of both copies as FW_UPDATE wrote them (those that the module shipped
with are not listed), and an update in progress. -/
structure FwStore where
  copies  : List Firmware := [⟨true, 1, 0⟩, ⟨false, 0, 0⟩]
  running : Nat := 0
  floor   : Nat := 0
  reached : Bool := false
  words   : List (List (Nat × Nat)) := [[], []]
  job     : Option FwJob := none
deriving DecidableEq, Repr

/-- A stored life-cycle record (R97): sequence number, state code, CRC-32. -/
structure LifeRec where
  seq  : Nat
  code : Nat
  crc  : Nat
deriving DecidableEq, Repr

/-- Life cycle (R97 to R101): both stored records, the state that they give, the one in force, the stored keys, the challenge, and what the write-only registers
hold. -/
structure LifeCycle where
  records   : List LifeRec := [⟨1, 0, 0xFB42DEAD⟩, ⟨0, 0, 0⟩]
  life      : Life := .factory
  acting    : Life := .factory
  keySvc    : Option (List Nat) := none
  keyCw     : Option (List Nat) := none
  challenge : Bool := false
  response  : List (Nat × Word) := []
  key       : List (Nat × Word) := []
deriving DecidableEq, Repr

/-- A configuration copy (R103): the fields of its header, and its entry area as entries (word 0: Window A offset; value). -/
structure CfgCopy where
  magic   : Nat := 0
  format  : Nat := 0
  seq     : Nat := 0
  len     : Nat := 0
  count   : Nat := 0
  crc     : Nat := 0
  marker  : Nat := 0
  entries : List (Nat × Word) := []
deriving DecidableEq, Repr

/-- Configuration store (R103 to R106). `requested`: a commit waits for its capture tick; `captured`: the entries of the commit that runs. -/
structure CfgStore where
  copies    : List CfgCopy := [{}, {}]
  requested : Bool := false
  captured  : Option (List (Nat × Word)) := none
deriving DecidableEq, Repr

/-- The condition of a kind-F source as last found: a level that holds, and a pulse found since the last evaluation, with detail bits. -/
structure SrcCond where
  level    : Bool := false
  levelDet : Nat := 0
  pulse    : Bool := false
  pulseDet : Nat := 0
deriving DecidableEq, Repr

/-- Sluice (R453 to R476). `cfg` holds SL_CFG in force, `cfgDue` the slots written since the last tick; `evalAt` the device frame, plus 1, whose work went into an evaluation
last, and `evalLate` the conditions found for frames whose evaluation a tick overtook, oldest first (R30). -/
structure Sluice where
  cfg       : List (Nat × Word) := []
  cfgDue    : List Nat := []
  cond      : List (Nat × SrcCond) := []
  refused   : List Nat := []
  injSet    : List Nat := []
  injClr    : List Nat := []
  chipOwed  : Bool := false
  blkOwed   : List Domain := []
  blkRun    : List (Domain × Nat) := []
  events    : List EventRec := []
  evtLoss   : Bool := false
  wd        : Nat := 0
  wdExpired : Bool := false
  hbt       : Bool := false
  evalAt    : Nat := 0
  evalLate  : List (List (Nat × SrcCond)) := []
deriving DecidableEq, Repr

/-- A command that has started and not completed (R397 to R403), with what it waits for. -/
inductive CmdWait where
  | done
  | cfgWrite (rws : Bool)
  | balSet
  | impSweep (wait : Bool) (slot : Nat) (seq : Option Nat)
  | nvCommit
  | timeSync (addr : Nat) (fail : Bool)
  | override (id : Nat)
  | bistRun
  | imgLoad
  | forward (target addr since : Nat) (ops : List (Bool × Nat × Word))
  | fwUpdate
  | capPull (ring start len addr copied pace : Nat) (fail : Bool)
deriving DecidableEq, Repr

/-- The running command of a submission ring. -/
structure RunCmd where
  op   : Nat
  tag  : Nat
  wait : CmdWait
deriving DecidableEq, Repr

/-- A submission ring (R391 to R398): whether it is enabled, its base and CQ, SQ_PI as last accepted, the Window B candidate, the running command. -/
structure Sq where
  en      : Bool := false
  base    : Nat := 0
  pi      : Nat := 0
  cand    : Option Nat := none
  running : Option RunCmd := none
deriving DecidableEq, Repr

/-- A completion entry (R399). -/
structure Cpl where
  op     : Nat
  sq     : Nat
  tag    : Nat
  detail : Nat
  status : Nat
  r0     : Nat
  r1     : Nat
deriving DecidableEq, Repr

/-- A completion ring: enabled, base, CQ_CI as last accepted, completions that wait (R401). -/
structure Cq where
  en      : Bool := false
  base    : Nat := 0
  ci      : Nat := 0
  waiting : List Cpl := []
deriving DecidableEq, Repr

/-- A stream ring (R406 to R410). -/
structure Sr where
  en      : Bool := false
  base    : Nat := 0
  types   : Nat := 0
  decim   : Nat := 0
  rd      : Nat := 0
  spill   : List Rec := []
  loss    : Bool := false
  dropped : Bool := false
deriving DecidableEq, Repr

/-- The PCIe endpoint and its rings (R384 to R416). `bme`, `d3hot`, `msixEn`, `msixMask`, `ptm` are the configuration-space controls; `perstAt` the device frame of
the last PERST_N release; `vecLast` the device frame of each vector's last message; `fetch` to `fetchRetry` what the doorbell stage owes, `ask` and `askAll` what Window B asks
of the next one, `fetchAt` the device frame, plus 1, of the last; `bars` BAR0 to BAR3; `resuming` that a suspension has ended and DMA waits for the next frame; `late` the data writes a suspension holds back; `pageAt` the device frame, plus 1, of the last status page. -/
structure HostIf where
  linkUp     : Bool := false
  inReset    : Bool := true
  perstAt    : Nat := 0
  bme        : Bool := false
  d3hot      : Bool := false
  msixEn     : Bool := false
  msixMask   : Bool := false
  ptm        : Bool := false
  dbEn       : Bool := false
  dbBase     : Nat := 0
  spEn       : Bool := false
  spBase     : Nat := 0
  sq         : List (Nat × Sq) := []
  cq         : List (Nat × Cq) := []
  sr         : List (Nat × Sr) := []
  vecPend    : List Nat := []
  vec0Pend   : Bool := false
  vecLast    : List (Nat × Nat) := []
  fetch      : Bool := false
  fetchAll   : Bool := false
  fetchRetry : Bool := false
  retryAll   : Bool := false
  ask        : Bool := false
  askAll     : Bool := false
  fetchAt    : Nat := 0
  bars       : List Word := [0, 0, 0, 0]
  resuming   : Bool := false
  late       : List (Nat × List Word) := []
  chainFetch : Bool := false
  pageAt     : Nat := 0
  dropTotal  : Nat := 0
  cplTotal   : Nat := 0
  summary    : Nat := 0
deriving DecidableEq, Repr

/-- A result FIFO (R425 to R430): stored words with their end marks. -/
structure Fifo where
  words   : List (Word × Bool) := []
  partly  : Bool := false
  loss    : Bool := false
  flush   : Bool := false
deriving DecidableEq, Repr

/-- The latch of a 64-bit value read as halves (R432), one per access path. -/
structure Latches where
  pcie : Option (Nat × Nat) := none
  spi  : Option (Nat × Nat) := none
  fwd  : Option (Nat × Nat) := none
  cmd  : Option (Nat × Nat) := none
deriving DecidableEq, Repr

/-- The SPI target (R418 to R434). -/
structure SpiPort where
  fifos    : List (Nat × Fifo) := []
  crcFails : Nat := 0
deriving DecidableEq, Repr

/-- A record held by a capture ring: the position of its first byte, the device frame of its header frame, its words. -/
structure CapRec where
  pos   : Nat
  frame : Nat
  words : List Word
deriving DecidableEq, Repr

/-- A capture ring (R437 to R446): enabled, its enable refused, its place in units of 64 KiB as it was enabled, whether CAP_GEOM was written since (R437), the device frame E
of its enable, that of its last trigger frame T, settings in force, the records of its valid span, whether it owes LOSS_BEFORE, a re-arm that waits for its tick, and the length
in words of the record that stalled last. -/
structure CapRing where
  en      : Bool := false
  refused : Bool := false
  base    : Nat := 0
  units   : Nat := 1
  moved   : Bool := false
  from_   : Nat := 0
  trig    : Option Nat := none
  types   : Nat := 0
  chans   : List Word := []
  recs    : List CapRec := []
  loss    : Bool := false
  armReq  : Bool := false
  need    : Nat := 0
deriving DecidableEq, Repr

/-- An event counter in force (R447, R448): its CNT_CFG word as last taken at a tick. -/
structure Counter where
  event  : Nat := 0
  qtype  : Nat := 0
  qval   : Nat := 0
  frozen : Bool := false
deriving DecidableEq, Repr

/-- Capture and counters. `counters` lists the counters that count; `cntClr` those to clear at the next tick. -/
structure Capture where
  rings    : List (Nat × CapRing) := []
  counters : List (Nat × Counter) := []
  cntClr   : List Nat := []
  unfreeze : Bool := false
deriving DecidableEq, Repr

/-- A SETL interval (R161): outputs of channels `lo` to `hi` whose window ends after `after` and before `until_` (nanoseconds). Channel n - 1 is
cell n, channels 192 and 193 the current channels (R436). -/
structure Setl where
  lo     : Nat
  hi     : Nat
  after  : Nat
  until_ : Nat
  filter : Bool := false
deriving DecidableEq, Repr

/-- The output whose window ended at the last frame tick (R151): its frame number, the device frame after its last, the measurement set that
produced it (R26), and what the registers of that set do not say: COMMIT_CNT, the policy's notches, settling time in ns, a QUIET interval run in full. -/
structure OutDue where
  frame  : Nat
  endDev : Nat
  set    : List (Nat × Word)
  count  : Nat
  n1     : Bool
  n2     : Bool
  pol    : Bool
  f0     : Nat
  settle : Nat
  quiet  : Bool
  quietFrom : Nat
  notch  : List (Nat × Nat)
deriving DecidableEq, Repr

/-- The work of a chain tick (R29, R154): the device frame and the frame number of the tick that ended its interval, the measurement set in force before that tick's commit
and its notches; once the averages are formed, the channels (by number plus 1) whose average is valid, the averages that the tier dies formed of all their samples, the
corrections of the cells, the cells with a word that barred the fast layer's correction (R207), and what the tick gives the CHAIN record (R366, R367): channels out of
range, with BAL, with SETL, and tiers that missed; whether the next chain tick overtook it; `len`: its frames, `jump`: a frame-number jump ended it (R359), `profile`: the
Causeway profile in force in it (R365), `unlocked`: CW_STATUS.LOCKED was 0 at a frame tick of it (R366). -/
structure ChainJob where
  dev     : Nat
  frameNo : Nat
  set     : List (Nat × Word)
  notch   : List (Nat × Nat)
  formed  : Bool := false
  ok      : List Nat := []
  mean    : List (Nat × Rat) := []
  corr    : List (Nat × Rat) := []
  bad     : List Nat := []
  ovr     : List Nat := []
  bal     : List Nat := []
  setl    : List Nat := []
  missed  : List Nat := []
  late    : Bool := false
  len     : Nat := 20
  jump    : Bool := false
  profile : Nat := 3
  unlocked : Bool := false
deriving DecidableEq, Repr

/-- A check-converter comparison (R140, R141): the cell, the compared device frame, the sum of eight conversions (100 µV) and of the eight aligned
first-stage outputs (1 µV). -/
structure ChkPend where
  cell : Nat
  dev  : Nat
  sar  : Nat
  sd   : Int
deriving DecidableEq, Repr

/-- An open-wire test under way (R136): its tier and local tap, the cells below and above that it concerns under the set of its frame (R124), and whether the supply step tests the
tap. -/
structure OwTest where
  tier : Nat
  tap  : Nat
  lo   : Option Nat
  hi   : Option Nat
  step : Bool
deriving DecidableEq, Repr

/-- A tier alignment sequence (R523): the tiers concerned, the chain tick C at which it began, if it has, and whether a break stopped it, so that it waits until routing
is restored. -/
structure AlignSeq where
  tiers : List Nat
  start : Option Nat
  broke : Bool := false
deriving DecidableEq, Repr

/-- The notches, the second stage and the averager of one tier (R148, R150, R154, R160), for the unbroken run of device frames `start` to `stop` (exclusive) whose raw samples
were delivered: the coefficients of the notches in the path; per channel (cells in local order, then on tier 0 the currents) the state of its notches (none: held, to be
loaded at the next in-range sample), the five cascaded running sums, and the sum since the chain tick began with its frames, all in 2^-24 of a code; `marks` are the
running sums at the ends of the last windows. -/
structure TierFilt where
  start : Nat := 0
  stop  : Nat := 0
  coef  : List (List Int) := []
  notch : List (List Int) := []
  sums  : List (List Int) := []
  tick  : List Int := []
  ticks : Nat := 0
  marks : List (Nat × List (List Int)) := []
deriving DecidableEq, Repr

/-- The raw samples of one frame on their way to capture (R316, R439): its frame number and device frame, whether they came over a broken ring or were resent after a break
(R321), and the samples by tier. -/
structure RawFrame where
  frame    : Nat
  dev      : Nat
  rerouted : Bool
  samples  : List (Nat × List (List Int))
deriving DecidableEq, Repr

/-- A result block with its raw samples as a tier keeps it (R316): its device frame, its first-stage outputs by channel, whether the supervisor has received it whole. -/
structure SramBlock where
  dev     : Nat
  samples : List (List Int)
  whole   : Bool
deriving DecidableEq, Repr

/-- Front end and filters (R108 to R177, R523). Frames in these fields are device frames (timestamp bits [63:9]). `blocks`: tiers whose block of the
last frame arrived; `lastMiss`: each tier's last frame without data; `lastOvr`: each channel's last frame out of range, and whether above; `absent`:
when a cell became absent; `owTest`: taps under test in frame `owFrame`; `owPost`, `owGood`, `owSum` and `owOpen` go by tap; `chkSet`: positions by tier that the
20 ms cycle of check conversions covers (R124); `levelsDue`: what auxiliary conversions of the present frame found, for the next frame's SLUICE_EVAL (R144): source,
condition, detail; `filt` goes by tier, and its filters have run unchanged since `filtFrom`; `coef` holds the coefficients of the notches in the path during the frame
that ended last, `coefOld` those before a setting that the tiers `stale` missed the control block of (R315); `jobs`: chain ticks whose work is not done, oldest first;
`sram`: what each tier keeps until the supervisor has acknowledged it (R316, R319), oldest first; `tickFrom`: the device frame at which the chain tick in progress began;
`rawAt`: one more than the device frame whose raw samples went towards capture last; `setLast`: the measurement set in force during the frame that ended last, `setOld` the one that
the tiers `ctlMiss` still run on (R315); `crcBad`: tiers whose block of the last frame failed its CRC, with the hop (R320); `missOvr`: the device frame of the last COLLECT overrun,
and whether it set GEN_OVR_STATUS.COLLECT; `auxKept`: auxiliary results that tiers keep until the supervisor can take them (R316). -/
structure FrontEnd where
  since     : Nat := 0
  started   : Bool := false
  outDue    : Option OutDue := none
  blocks    : List Nat := []
  closed    : Bool := false
  anyFoot   : Bool := false
  samples   : List (Nat × List (List Int)) := []
  prev      : List (Nat × List (List Int)) := []
  lastMiss  : List (Nat × Nat) := []
  lastOvr   : List (Nat × (Nat × Bool)) := []
  absent    : List (Nat × Nat) := []
  setl      : List Setl := []
  quiet     : Option (Nat × Nat) := none
  settingAt : Option Nat := none
  ctlMiss   : List Nat := []
  notchDue  : List (Nat × Option (Nat × Nat)) := []
  steps     : List (Nat × (Nat × Nat)) := []
  owTest    : List OwTest := []
  owFrame   : Option Nat := none
  owPost    : List (Nat × Nat) := []
  owGood    : List (Nat × Nat) := []
  owOpen    : List Nat := []
  owSum     : List (Nat × (Nat × Nat)) := []
  chkPend   : List ChkPend := []
  chkBad    : List Nat := []
  plCount   : Nat := 0
  plBad     : Bool := false
  contOwed  : Bool := true
  auxTiers  : List Nat := []
  avg       : List (Nat × Int) := []
  avgOk     : List Nat := []
  lastWord  : List (Nat × Nat) := []
  tickBad   : List Nat := []
  align     : List AlignSeq := []
  fineReq   : Bool := false
  fineFrom  : Option Nat := none
  fineAgain : Bool := false
  fineBad   : Bool := false
  refTemp   : List (Nat × Int) := []
  dieTemp   : List (Nat × Int) := []
  rawQueue  : List RawFrame := []
  chkSet    : List (Nat × Nat) := []
  levelsDue : List (Nat × Bool × Nat) := []
  filt      : List (Nat × TierFilt) := []
  filtFrom  : Nat := 0
  coef      : List (List Int) := []
  coefOld   : List (List Int) := []
  stale     : List Nat := []
  jobs      : List ChainJob := []
  sram      : List (Nat × List SramBlock) := []
  tickFrom  : Nat := 0
  rawAt     : Nat := 0
  setLast   : List (Nat × Word) := []
  setOld    : List (Nat × Word) := []
  crcBad    : List (Nat × Nat) := []
  missOvr   : Option (Nat × Bool) := none
  auxKept   : List AuxInput := []
deriving DecidableEq, Repr

/-- Balancing state of one cell (R290 to R302): ordered and applied duty, timer, target in mAs, delivered charge in mAs (exact), the command at the
gate, excitation, the last averages and the counts of consecutive chain ticks of R292. -/
structure BalCell where
  timer    : Nat := 0
  duty     : Nat := 0
  applied  : Nat := 0
  target   : Option Nat := none
  charge   : Rat := 0
  cmdOn    : Bool := false
  excite   : Bool := false
  exFrom   : Nat := 0
  exTo     : Nat := 0
  held     : Bool := false
  exOn     : Nat := 0
  vn       : Rat := 0
  vnOk     : Bool := false
  onFrom   : Nat := 0
  offFrom  : Option Nat := none
  edges    : List Nat := []
  nOn      : Nat := 0
  nOff     : Nat := 0
  nMis     : Nat := 0
  nPass    : Nat := 0
  nPassMis : Nat := 0
  stuckOn  : Bool := false
  stuckOff : Bool := false
  mismatch : Bool := false
  fresh    : Bool := false
deriving DecidableEq, Repr

/-- Governor result of one tier (R296): demand and applied power in mW, the percentage, whether it reduces, consecutive reduced periods. -/
structure GovTier where
  demand  : Rat := 0
  applied : Rat := 0
  pct     : Nat := 100
  on      : Bool := false
  run     : Nat := 0
deriving DecidableEq, Repr

/-- Balancing (R290 to R311). `prior`: the cells whose gate this frame's control block changes, as they stood before (R315); `cleared`:
cells whose policy target was cleared, and the device frame of it (R303). -/
structure Balance where
  cells    : List (Nat × BalCell) := []
  gov      : List (Nat × GovTier) := []
  mode     : Nat := 0
  dirty    : List Nat := []
  sets     : List (Nat × List Word) := []
  regSet   : List Word := []
  targets  : List (Nat × Nat) := []
  rbal     : List (Nat × Nat) := []
  rbalDue  : List Nat := []
  forced   : List Nat := []
  local_   : List Nat := []
  fetRep   : List (Nat × Nat) := []
  lost     : List Nat := []
  cont     : List Nat := []
  contLast : Bool := false
  lastSet  : Nat := 0
  prior    : List (Nat × BalCell) := []
  cleared  : List (Nat × Nat) := []
deriving DecidableEq, Repr

/-- The whole ledger as a store or its mirror holds it (R282, R283): histogram counters by 256 × (n − 1) + bin, journal slots, header fields. -/
structure LedImage where
  hist     : List (Nat × Nat) := []
  journal  : List (Nat × List Word) := []
  hseq     : Nat := 0
  life     : Nat := 0
  parkLife : Nat := 0
  jseq     : Nat := 0
  jhead    : Nat := 8
  wrapped  : Bool := false
  erases   : Nat := 0
  vLo      : Nat := 0x09C4
  vStep    : Nat := 0x007D
  tLo      : Nat := 0xF100
  tStep    : Nat := 0x0500
deriving DecidableEq, Repr

/-- A journal entry that waits for the end of its frame: kind, sub, index, value (R285), and the device frame of its event. -/
structure JEntry where
  kind  : Nat
  sub   : Nat
  index : Nat
  value : Nat
  dev   : Nat := 0
deriving DecidableEq, Repr

/-- Peat ledger (R282 to R288): the store and its mirror, HSEQ of the two header copies, what a running flush writes, entries of the present frame, unflushed
data, a flush that waits for a configuration commit, the word position of the register read, sums of chain-tick averages of the present second by cell,
and each cell's bin at PARK entry. -/
structure Ledger where
  store    : LedImage := {}
  mirror   : LedImage := {}
  headers  : List Nat := [0, 0]
  queue    : List JEntry := []
  dirty    : Bool := false
  flushing : Option LedImage := none
  owed     : Bool := false
  eraseDue : Bool := false
  last     : Nat := 0
  rdPos    : Nat := 0
  second   : List (Nat × (Int × Nat)) := []
  secFrom  : Nat := 0
  parkBin  : List (Nat × Nat) := []
deriving DecidableEq, Repr

/-- A host-started or rolling self-test run in progress (R478, R481, R483): target, engine, first device frame. -/
structure BistRun where
  target : Nat
  engine : Nat
  start  : Nat
deriving DecidableEq, Repr

/-- A copy of the repair record (R487): sequence number, the failed rows (macro, row) in the order in which spares were assigned, CRC-32. -/
structure RepairCopy where
  seq  : Nat
  rows : List (Nat × Nat)
  crc  : Nat
deriving DecidableEq, Repr

/-- Self-test (R478 to R490): a request that waits for its tick, the runs, the tier and due frame of the rolling schedule and whether its last test failed once, an
abort that waits for its tick, marks (target, engine), spare rows in use (macro, failed row), and the two copies of the repair record (none: never written). -/
structure Bist where
  request  : Option (Nat × Nat) := none
  host     : Option BistRun := none
  rolling  : Option BistRun := none
  tier     : Nat := 0
  nextDue  : Nat := 0
  again    : Bool := false
  abortReq : Bool := false
  failed   : List (Nat × Nat) := []
  repairs  : List (Nat × Nat) := []
  copies   : List (Option RepairCopy) := [none, none]
deriving DecidableEq, Repr

/-- A running sweep (R178 to R196): its definition as read at acceptance, whether an override asked for it, the point and pass in progress, the frame its pass began (none: it waits
for HOST_GO or for the next tick), the device frames in which the passes of the point began, and what befell its cells. -/
structure Sweep where
  seq        : Nat
  policy     : Bool
  byOvr      : Bool := false
  src        : Nat
  nCyc       : Nat
  freqs      : List Nat
  cells      : List Nat
  point      : Nat := 0
  pass       : Nat := 0
  start      : Option Nat := none
  starts     : List Nat := []
  pointStart : Nat := 0
  waitGo     : Bool := false
  excited    : List Nat := []
  spoiled    : List Nat := []
  noallow    : List Nat := []
  paused     : List Nat := []
  cmp        : List Nat := []
  rerouted   : Bool := false
  ending     : Bool := false
deriving DecidableEq, Repr

/-- A point that ended and awaits its results (R184, R192), with the frame of its last raw sample and whether it is the sweep's last. -/
structure PointDue where
  sweep   : Sweep
  frame   : Nat
  endDev  : Nat
  last    : Bool
  aborted : Bool
deriving DecidableEq, Repr

/-- A single-bin transform in progress (R183): raw samples taken so far, the sum of the present segment, the sums of the measured segments, latest first. -/
structure Bin where
  taken : Nat := 0
  now   : Int × Int := (0, 0)
  segs  : List (Int × Int) := []
deriving DecidableEq, Repr

/-- The demodulation of one pass (R180, R183): the device frame it began in, h, its settling and measured segments, and the transforms by channel: cell n is n - 1, the current
channels are 192 and 193, the bleed estimate of cell n is 200 + n. -/
structure Demod where
  start  : Nat
  h      : Nat
  settle : Nat
  nCyc   : Nat
  cells  : List Nat
  bins   : List (Nat × Bin) := []
deriving DecidableEq, Repr

/-- A result that adaptation may use (R185): the cell, h, Re(Z) and Im(Z) in nΩ, and the frame of its record. -/
structure ImpResult where
  cell  : Nat
  h     : Nat
  re    : Int
  im    : Int
  frame : Nat
deriving DecidableEq, Repr

/-- Impedance spectroscopy (R178 to R198). `host` holds requests (slot, submission ring of an IMP_SWEEP command) not yet checked; `demod` the passes whose spectra are being
formed or wait for their point; `est` the bleed estimates of the last frame in nA, `corr` its harness corrections by raw sample in 2^-24 µV, by cell; `results` the newest result
of each cell and h that adaptation may use; `polAbort`: a policy sweep is to end; `endAt`: one more than the device frame in which the last sweep ended. -/
structure Impedance where
  sweep  : Option Sweep := none
  next   : Option Sweep := none
  due    : List PointDue := []
  host   : List (Nat × Option Nat) := []
  policy : Option Sweep := none
  abort  : Bool := false
  polAbort : Bool := false
  go     : Bool := false
  seq    : Nat := 0
  lastSeq : Nat := 0
  result : Nat := 0
  point  : Nat := 0
  origin : Bool := false
  demod  : List Demod := []
  est    : List (Nat × Int) := []
  corr   : List (Nat × List Int) := []
  results : List ImpResult := []
  endAt   : Nat := 0
deriving DecidableEq, Repr

/-- One hop of the Boardwalk ring (R312, R318, R323): broken, lock by direction (up, down), which a broken hop holds once it has trained, the device frame from which on its frames
have been error-free, and by direction the last device frame, plus 1, with a code violation or a CRC-failed block, and how many such frames it ends. -/
structure Hop where
  upBroken   : Bool := false
  downBroken : Bool := false
  upLock     : Bool := false
  downLock   : Bool := false
  since      : Nat := 0
  upErr      : Nat × Nat := (0, 0)
  downErr    : Nat × Nat := (0, 0)
deriving DecidableEq, Repr

/-- Boardwalk (R312 to R325). `taken`: tiers that took a number at the last enumeration; `numbered`: those of them whose identifier matches; `unreach`: since when
a tier is unreachable; `spans`: the first and the last device frame of each span with a broken hop, latest first; `breakFrame`: the last frame in which a break was
declared; `headClk`: tiers on their head-path delay (R319); `enumRun`: an enumeration in progress, with the device frame at which it ends and what it finds (R317). -/
structure Boardwalk where
  hops       : List (Nat × Hop) := []
  taken      : List Nat := []
  numbered   : List Nat := []
  unreach    : List (Nat × Nat) := []
  spans      : List (Nat × Nat) := []
  breakFrame : Option Nat := none
  headClk    : List Nat := []
  enumRun    : Option (Nat × EnumResult) := none
deriving DecidableEq, Repr

/-- The last reading of a tag (R344) and the CNT it brought; `serial`, `caps`, `found`: its last walk. -/
structure Tag where
  serial : Nat := 0
  caps   : Nat := 0
  found  : Bool := false
  temp   : Nat := 0x8000
  cnt    : Option Nat := none
  stale  : Bool := false
  retried : Bool := false
  fail   : Bool := false
  valid  : Bool := false
deriving DecidableEq, Repr

/-- A walk or cycle that has run and whose results have not reached the supervisor (R345): when it ended, what it found. -/
structure StringDue where
  endNs   : Nat
  walk    : Bool
  count   : Nat
  beyond    : Bool
  rise    : Bool
  length  : Nat
  tags    : List (Nat × Tag)
  read    : List Nat
  failed  : List Nat
  slots   : Nat
  crcs    : Nat
deriving DecidableEq, Repr

/-- One Reedline string on its tier (R326 to R346): tags of the last walk by position, its speed, walks that are due (at the next boundary, or at the next
chain tick), the short, until when its master is busy, what has not reached the supervisor, oldest first, and the CONFIG byte last written (R337). `fastFrom`: the string runs in
FAST from this moment on (ns), the end of the walk that chose it (R339). -/
structure RlString where
  count   : Nat := 0
  fastFrom : Option Nat := none
  walked  : Bool := false
  rise    : Bool := false
  tags    : List (Nat × Tag) := []
  walkDue : Bool := false
  walkNow : Bool := false
  short   : Bool := false
  busyTo  : Nat := 0
  due     : List StringDue := []
  config  : Nat := 0
deriving DecidableEq, Repr

/-- Reedline (R326 to R349). `tags`: what the supervisor holds of each tag, by its device-wide index (R9); `temps`: surface temperature of a cell in 1/128 °C and the
device frame in which it arrived; `ran`: the last device frame in which strings ran; `counts`: the count of the latest walk or cycle by tier (R340). -/
structure Reedline where
  strings : List (Nat × RlString) := []
  tags    : List (Nat × Tag) := []
  temps   : List (Nat × (Rat × Nat)) := []
  ran     : Option Nat := none
  counts  : List (Nat × Nat) := []
deriving DecidableEq, Repr

/-- The fast layer of one cell (R205, R206): z as a fraction, the U_k in V, the parameters held for the step (Rser in Ω, Rp and Cp by pair, Q in As, the surface
temperature of its OCV slice), charge in As not yet applied to z, and FAST_OL. -/
structure FastCell where
  z    : Rat := 0
  u    : List Rat := []
  rser : Rat := 0
  rp   : List Rat := []
  cp   : List Rat := []
  q    : Rat := 0
  temp : Rat := 0
  owed : Rat := 0
  openLoop : Bool := false
deriving DecidableEq, Repr

/-- Where the values of a cell's nodes, or of the pack nodes, come from (R209, R228): a cold start of a cell (the stoichiometries of its anode and its cathode, the word
of its rest concentration, its voltage and temperature), a cold start of pack nodes with their temperatures, or a step of the kernels (R212), whose results are free and
go by `seed`, with the interval means that the observer measured the cell by (R213): voltage in V, surface temperature in °C. -/
inductive NodeSrc where
  | none
  | cold (anode cathode : Rat) (rest : Nat) (volt temp : Rat)
  | pack (temps : List Rat)
  | kernel (seed : Nat) (volt temp : Option Rat)
deriving DecidableEq, Repr

/-- A half of the state region (R210) with the layout that its step wrote it by: the image, its cells, and node sources by cell (0 the pack nodes). -/
structure Half where
  image : List (Nat × Word) := []
  cells : List Nat := []
  nodes : List (Nat × NodeSrc) := []
deriving DecidableEq, Repr

/-- A full-layer or layout step in progress (R202, R214, R227): its boundary as device frame and frame number, its length T, the start of its interval, and what the
integrator held when its interval closed, by cell: charge in As; cells without voltage innovation; cells with a temperature reading; sums of chain-tick averages and of
readings as in `Fen`; |I_pack| in A summed over chain ticks. -/
structure FenStep where
  start    : Nat
  frameNo  : Nat
  frames   : Nat
  from_    : Nat
  layout   : Bool
  mode     : Nat
  safe     : Bool
  closed   : Bool := false
  nocur    : Bool := false
  charge   : List (Nat × Rat) := []
  noVolt   : List Nat := []
  temps    : List Nat := []
  volt     : List (Nat × (Int × Nat)) := []
  temp     : List (Nat × (Rat × Rat × Nat)) := []
  absSum   : Rat := 0
  absCount : Nat := 0
  fast     : List (Nat × FastCell) := []
deriving DecidableEq, Repr

/-- Fen engine and model images (R199 to R264). The step integrator, since `from_`, the end of the interval of the last completed step (R202): charge by cell, sum (µV) and
count of valid chain-tick averages, the first, the sum (1/128 °C) and the count of surface temperatures, the last chain tick with NOCUR, |I_pack|, and `holds`, the chain ticks held in a row (R201). `wokeAt`: the device
frame of the last wake. `lastSoc`: the state of charge of the last completed state by cell; `stepped`: a full-layer step has completed since the last image swap.
`image`: the words of the image whose layout is in force, for `cells`; `own` and `other`: words of the active and the inactive copy that differ from it, by cell. `halves`:
the halves of the state region. `reinitOn`: cells whose REINIT steps count (R229). `innov`: cells that had an innovation in the last completed step. `staged`: the staging
area; `wPast`: FEN_IMG_WADDR has moved past its end. `swapAsk`: an accepted swap that starts to build at the next tick; `load`: an IMG_LOAD that waits for validation. -/
structure Fen where
  integ   : List (Nat × Rat) := []
  voltSum : List (Nat × (Int × Nat)) := []
  tempSum : List (Nat × (Rat × Rat × Nat)) := []
  wokeAt  : Nat := 0
  nocurAt : Option Nat := none
  absSum  : Rat := 0
  absCount : Nat := 0
  lastI   : Rat := 0
  holds   : Nat := 0
  from_   : Nat := 0
  fastOn  : Bool := false
  restart : List Nat := []
  fast    : List (Nat × FastCell) := []
  step    : Option FenStep := none
  resume  : Bool := false
  lastSoc : List (Nat × Rat) := []
  stepped : Bool := false
  innov   : List Nat := []
  image   : List (Nat × Word) := []
  cells   : List Nat := []
  fresh   : Bool := true
  own     : List (Nat × List (Nat × Word)) := []
  other   : List (Nat × List (Nat × Word)) := []
  halves  : Half × Half := ({}, {})
  reinitOn : List Nat := []
  crcBad  : Bool := false
  staged  : List (Nat × Word) := []
  wPast   : Bool := false
  swapAsk : Bool := false
  load    : Option (Option Nat × Bool) := none
deriving DecidableEq, Repr

/-- A host override, waiting or in force (R279): for a request, whether it clears and the submission ring of its command; for one in force, steps left (0: until
cleared). -/
structure Override where
  kind   : Nat
  target : Nat
  arg    : Nat
  steps  : Nat
  clear  : Bool := false
  ring   : Option Nat := none
deriving DecidableEq, Repr

/-- The policy's view of a cell: its last record entry (R268), whether its last valid TCORE stands, and its self-discharge window (R277). -/
structure PolCell where
  soc     : Nat := 0
  tcore   : Int := 0
  cap     : Nat := 0
  valid   : Bool := false
  tValid  : Bool := false
  winFrom : Option Nat := none
  winSoc  : Nat := 0
  winQ    : Rat := 0
  leak    : Option Rat := none
deriving DecidableEq, Repr

/-- A policy notch (R275): steps since its last change (none: never changed), consecutive steps with its line below MIN_AMP. -/
structure PolNotch where
  age : Option Nat := none
  low : Nat := 0
deriving DecidableEq, Repr

/-- Policy (R265 to R281). `est`: the EST record that is placed in the next frame; `eval`: what its sources found, by slot; `sweepRun`: frames of RUN towards the
next policy sweep; `rippled`: the ripple capture of this step is done; `ripple`: the first-stage outputs it has, latest first, and `rippleDev` the device frame that is to
come next (R275). -/
structure Policy where
  wait     : List Override := []
  ovr      : List Override := []
  est      : Option Rec := none
  eval     : List (Nat × Nat) := []
  cells    : List (Nat × PolCell) := []
  zrise    : List Nat := []
  notch    : List (Nat × PolNotch) := []
  sweepIdx : Nat := 0
  sweepRun : Nat := 0
  rippled  : Bool := false
  ripple   : List Int := []
  rippleDev : Nat := 0
deriving DecidableEq, Repr

/-- One hop of the Causeway (R351, R353, R369): broken by direction, trained, rate code, and since when its frames have been error-free. -/
structure CwHop where
  fwdBroken : Bool := false
  retBroken : Bool := false
  trained   : Bool := false
  rate      : Nat := 0
  since     : Nat := 0
deriving DecidableEq, Repr

/-- What the CHAIN interval in progress has gathered (R366, R367), by channel (cell n is channel n - 1): sums and counts of valid averages, channels with an
average lost to an out-of-range sample, with BAL, with SETL; tiers with BAL and tiers that missed; the pack current in A. -/
structure CwInterval where
  profile  : Nat := 3
  from_    : Nat := 0
  ticks    : Nat := 0
  sums     : List (Nat × (Int × Nat)) := []
  ovr      : List Nat := []
  bal      : List Nat := []
  setl     : List Nat := []
  balTiers : List Nat := []
  missed   : List Nat := []
  unlocked : Bool := false
  late     : Bool := false
  amps     : Rat := 0
  ampTicks : Nat := 0
deriving DecidableEq, Repr

/-- What the radio cycle in progress has brought of one follower (R377, R378): packed values by cell, string words by kind, FAULT of its last packet. -/
structure RadioNode where
  segs  : List (Nat × Nat) := []
  strs  : List (Nat × Nat) := []
  fault : Bool := false
deriving DecidableEq, Repr

/-- The Causeway and the radio (R350 to R383). `mode` and `root` as of the last enumeration; `nodes` assigned addresses and `modules` the modules on the ring, at the
root; `heard` heartbeats of the present frame, `chars` and `syncs` what the module sent in the present chain tick; `inbox` completed records with the device
frame of their completion, `done` header word 1 of each node's last; `kept` a follower's own record not yet acknowledged; `tagFails` consecutive frames with tag
failures by sender, with the last; `locked` consecutive good syncs, `lastSync` the device frame of the last; `jumpAt` the device frame of the last jump (R359)
and `ofsOld` CW_FRAME_OFS before it; `maxRate` MAX_RATE as of the last enumeration; `enumRun` an enumeration in progress, with the device frame at which it ends and what
it finds (R354); `breakOwed` a break that CW_BREAK shows from the next frame on (R369); `unlocked` LOCKED has been 0 at a tick of the present chain tick (R366); `syncAt` the device frame of the last sync block; `rfAa` and `rfTx` the access address and the power
of the present superframe (R376); `sfAt` the last superframe's frame, `sfOn` whether the radio took part in it, `txAt`
the superframe whose packet waits for its slot, with the slot's device frame (R377); `fwd` since when CW_FWD_CTL waits, and whether for a write. -/
structure Causeway where
  mode     : Nat := 0
  root     : Bool := true
  maxRate  : Nat := 0
  enumRun  : Option (Nat × CwEnum) := none
  nodes    : List Nat := []
  modules  : Nat := 0
  hops     : List (Nat × CwHop) := []
  reneg    : Bool := false
  tokenAt  : Option Nat := none
  heard    : List Nat := []
  chars    : List Nat := []
  syncs    : List Nat := []
  inbox    : List (Nat × Rec) := []
  done     : List (Nat × Nat) := []
  acks     : List Nat := []
  lossOwed : Bool := false
  kept     : Option Rec := none
  tagFails : List (Nat × (Nat × Nat)) := []
  locked   : Nat := 0
  lastSync : Nat := 0
  syncAt   : Option Nat := none
  unlocked : Bool := false
  jumpAt   : Option Nat := none
  ofsOld   : Nat := 0
  breakOwed : Bool := false
  acc      : CwInterval := {}
  packed   : List Nat := []
  tiers    : Nat := 0
  sfAt     : Nat := 0
  sfOn     : Bool := false
  txAt     : Option (Nat × Nat) := none
  sfHeard  : List Nat := []
  sfNone   : Nat := 0
  phy      : Nat := 0
  rfAa     : Nat := 0
  rfTx     : Nat := 0
  cycle    : Nat := 0
  radio    : List (Nat × RadioNode) := []
  fwd      : Option (Nat × Bool) := none
deriving DecidableEq, Repr



/-- The whole block but for its command queue. `calib`: the factory calibration constants of the nonvolatile store by word (R102); `dieIds`: the die
identifiers that the factory calibration record holds by tier (R317). -/
structure Block where
  regs    : List (Nat × Word) := []
  act     : List (Nat × Word) := []
  clock   : Clock := {}
  pins    : Pins := {}
  pwr     : Power := {}
  fw      : FwStore := {}
  lc      : LifeCycle := {}
  cfg     : CfgStore := {}
  sl      : Sluice := {}
  hst     : HostIf := {}
  spi     : SpiPort := {}
  latch   : Latches := {}
  cap     : Capture := {}
  fe      : FrontEnd := {}
  bal     : Balance := {}
  imp     : Impedance := {}
  bw      : Boardwalk := {}
  rl      : Reedline := {}
  cw      : Causeway := {}
  fen     : Fen := {}
  pol     : Policy := {}
  led     : Ledger := {}
  bist    : Bist := {}
  calib   : List (Nat × Word) := []
  dieIds  : List Word := List.replicate 16 0
  carry   : List Rec := []
  recs    : List Rec := []
  out     : List Output := []
  freeCtr : Nat := 0
deriving DecidableEq, Repr

/-- The machine: the block and the commands that wait, first in, first out. -/
structure State where
  block   : Block
  pending : List Instr
deriving DecidableEq, Repr

/-- The state right after a power-on reset: every field at the value the spec states for reset (PWR_CAUSE names the cause, R76), and where it states none at the value
the assumption log names (entries 3 and 4); no command waits. -/
def State.reset : State := ⟨{ regs := [(0x810, 0x100)] }, []⟩

end Sys2Proof.Machine
end

