-- ==== Sys2Proof/Machine/Ops.lean ====
section
/-! DEFINITION. Named operations over the block: registers and their fields, time, free values, the output log, conditions of the Sluice, event
records, event counters, journal entries, interrupts, and the power state. -/

namespace Sys2Proof.Machine

/-- A block command answers a next state whose queue is untouched: only `step` moves the queue. -/
def run (f : Block → Block) (s : State) : Host.Outcome State Fault Refusal := .next ⟨f s.block, s.pending⟩

/-! Registers. -/

/-- The reset value of offset `a` (R494): the reset column, SL_CFG by its slot (R477), 0 at a reserved offset (R13). The MSI-X table (R417) has
vector control 1, masked (PRESUMED, log entry 3). -/
def resetWord (a : Nat) : Word :=
  if 0x4800 ≤ a ∧ a < 0x5000 ∧ a % 4 = 0 then w32 (slCfgReset ((a - 0x4800) / 4))
  else if 0x2800 ≤ a ∧ a < 0x2A00 then (if a % 16 = 12 then 1 else 0)
  else match regRow a with
    | some r => w32 r.reset
    | none => 0

/-- The word held at offset `a`. -/
def getR (b : Block) (a : Nat) : Word := mapGet resetWord b.regs a

/-- The block with the word `w` at offset `a`. -/
def setR (a : Nat) (w : Word) (b : Block) : Block := { b with regs := mapPut resetWord b.regs a w }

/-- The number in field `f`. -/
def getF (b : Block) (f : Fld) : Nat := bitsOf (getR b f.reg).toNat f.lo f.len

/-- Whether field `f` is not 0. -/
def isF (b : Block) (f : Fld) : Bool := getF b f != 0

/-- The block with `v` in field `f`. -/
def setF (f : Fld) (v : Nat) (b : Block) : Block := setR f.reg (w32 (setBitsOf (getR b f.reg).toNat f.lo f.len v)) b

/-- Field `f` holding 1 or 0. -/
def putF (f : Fld) (c : Bool) (b : Block) : Block := setF f (nat01 c) b

/-- Field `f` raised by `n`, held at its largest value. -/
def addF (f : Fld) (n : Nat) (b : Block) : Block := setF f (min (getF b f + n) (2 ^ f.len - 1)) b

/-- Field `f` raised by 1 modulo its length. -/
def incF (f : Fld) (b : Block) : Block := setF f (getF b f + 1) b

/-- The part of a register write that R12 alone decides: RW and RWS bits take the written value, W1C bits written 1 clear; nothing else changes. -/
def writeBits (a : Nat) (v : Word) (b : Block) : Block :=
  match regRow a with
  | none => b
  | some r =>
    let keep := r.rw ||| r.rws
    let x := ((getR b a).toNat &&& (0xFFFFFFFF ^^^ keep)) ||| (v.toNat &&& keep)
    setR a (w32 (x &&& (0xFFFFFFFF ^^^ (v.toNat &&& r.w1c)))) b

/-- The active value (R162) of offset `a`: what a commit put in force. -/
def getA (b : Block) (a : Nat) : Word := mapGet resetWord b.act a

/-- The active value of field `f`. -/
def actF (b : Block) (f : Fld) : Nat := bitsOf (getA b f.reg).toNat f.lo f.len

/-- `f` applied to every number of the list, in order. -/
def each {α : Type} (l : List α) (f : α → Block → Block) (b : Block) : Block := l.foldl (fun b x => f x b) b

/-- `f` if the condition holds. -/
def when (c : Bool) (f : Block → Block) (b : Block) : Block := if c then f b else b

/-- `x` added to a list without repeats. -/
def addOnce {α : Type} [BEq α] (x : α) (l : List α) : List α := if l.contains x then l else l ++ [x]

/-! Time (R10, R24, R359). -/

/-- CW_FRAME_OFS (R359). -/
def frameOfs (b : Block) : Nat := (getF b F.CW_FRAME_OFS_HI_OFS_HI <<< 32) + (getR b R.CW_FRAME_OFS_LO).toNat

/-- The frame number: timestamp bits [63:9] plus CW_FRAME_OFS, modulo 2^55. -/
def frame (b : Block) : Nat := (frameOfs b + b.clock.ticks / 512) % 2 ^ 55

/-- The device frame: timestamp bits [63:9]. -/
def devF (b : Block) : Nat := b.clock.ticks / 512

/-- A frame-number jump falls on the present frame's tick (R359). -/
def jumped (b : Block) : Bool := b.cw.jumpAt == some (devF b)

/-- CW_FRAME_OFS as it counts for records that the present frame places: up to the frame of a jump they carry the old numbering (R359). -/
def placeOfs (b : Block) : Nat := if jumped b then b.cw.ofsOld else frameOfs b

/-- Nanoseconds of the last frame tick since timestamp 0. -/
def nowNs (b : Block) : Nat := devF b * 50000

/-- The supervisor runs: the rails are up, the reset has ended, the module is not held in BOOT for good, and it is not in a complete PARK. -/
def awake (b : Block) : Bool := b.pwr.state != .off && !b.pwr.resetHold && !b.pwr.halted && !b.pwr.parked

/-- The life-cycle capability state in force (R98: capabilities change at the next frame tick). -/
def lifeIs (b : Block) (l : Life) : Bool := decide (b.lc.acting = l)

/-- RUN, STANDBY or SAFE (R85). -/
def serves (b : Block) : Bool :=
  match b.pwr.state with
  | .run | .standby | .safe => true
  | _ => false

/-- The host links take accesses: RUN, STANDBY, SAFE, and PARK until its entry is complete (R83, R85, R90, R422). -/
def ready (b : Block) : Bool :=
  match b.pwr.state with
  | .run | .standby | .safe => true
  | .park => b.pwr.parking
  | _ => false

/-- Frames run (R85, R90: in the entry to PARK up to its last frame). -/
def framesRun (b : Block) : Bool :=
  match b.pwr.state with
  | .run | .standby | .safe => true
  | .park => b.pwr.parking
  | _ => false

/-- An event of the frames: nothing happens where none run. -/
def inFrame (f : Block → Block) (b : Block) : Block := if framesRun b then f b else b

/-- A fresh free number, and the block with its counter advanced. -/
def fresh (b : Block) : Nat × Block := (Config.free b.freeCtr, { b with freeCtr := b.freeCtr + 1 })

/-- A fractional value as a whole number: exact where it is whole, else the neighbour the part rounds to (log entry 7). -/
def published (place : Nat) (x : Rat) : Int := x.floor + (if x.den = 1 then 0 else nat01 (Config.roundUp place x))

/-- A fractional value as an unsigned field of `len` bits, held at the field's ends (log entry 7). -/
def publishedIn (place len : Nat) (x : Rat) : Nat := min (2 ^ len - 1) (published place x).toNat

/-- The device timestamp within the present frame: its place in the frame is free (log entry 2). -/
def stampNow (b : Block) : Nat × Block :=
  let got := fresh b
  let v := got.1
  let b := got.2
  ((if b.clock.running then b.clock.ticks + v % 512 else 0), b)

/-- One more output. -/
def emitOut (o : Output) (b : Block) : Block := { b with out := b.out ++ [o] }

/-! Conditions of kind-F sources, found now and evaluated in SLUICE_EVAL (R456, R457). -/

def condOf (b : Block) (i : Nat) : SrcCond := mapGet (fun _ => {}) b.sl.cond i

def putCond (i : Nat) (c : SrcCond) (b : Block) : Block :=
  { b with sl := { b.sl with cond := mapPut (fun _ => {}) b.sl.cond i c } }

/-- Source `i`'s condition holds or not, with the detail bits that hold. -/
def setLevel (i : Nat) (on : Bool) (det : Nat) (b : Block) : Block :=
  putCond i { condOf b i with level := on, levelDet := if on then det else 0 } b

/-- Detail bit `k` of source `i`'s condition; the condition holds while any of its bits does. -/
def levelBit (i k : Nat) (on : Bool) (b : Block) : Block :=
  let c := condOf b i
  let d := if on then c.levelDet ||| 2 ^ k else (if bitOf c.levelDet k then c.levelDet - 2 ^ k else c.levelDet)
  putCond i { c with level := d != 0, levelDet := d } b

/-- Source `i` occurred since the last evaluation, with detail bits. -/
def pulse (i : Nat) (det : Nat) (b : Block) : Block :=
  let c := condOf b i
  putCond i { c with pulse := true, pulseDet := c.pulseDet ||| det } b

/-- An event of the present frame for an EVENT record (R474, R475). -/
def event (code sub index v0 v1 : Nat) (b : Block) : Block :=
  { b with sl := { b.sl with events := b.sl.events ++ [⟨code, sub, index, v0, v1, frame b, devF b⟩] } }

/-- An entry for the ledger's journal (R285). -/
def journal (kind sub index value : Nat) (b : Block) : Block :=
  { b with led := { b.led with queue := b.led.queue ++ [⟨kind, sub, index, value % 2 ^ 32, devF b⟩] } }

/-! Event counters (R447, R448). -/

/-- What qualifies an event: its tier, cell and Causeway address, where it has one. -/
structure Qual where
  tier : Option Nat := none
  cell : Option Nat := none
  addr : Option Nat := none
deriving DecidableEq, Repr

/-- Which qualifiers event `code` allows (R447): 1 tier, 2 cell, 3 Causeway address. -/
def qualAllowed (code : Nat) : List Nat :=
  if code ∈ [0x10, 0x11, 0x12, 0x13, 0x14, 0x15, 0x16, 0x17, 0x1A, 0x1B, 0x28] then [0, 1, 2]
  else if code ∈ [0x18, 0x19, 0x29, 0x31, 0x38, 0x39, 0x3A, 0x60, 0x61, 0x62, 0x63] then [0, 1]
  else if code ∈ [0x40, 0x41, 0x42, 0x43] then [0, 3]
  else if code ∈ [0x01, 0x02, 0x03, 0x04, 0x05, 0x06, 0x07, 0x08, 0x09, 0x0A, 0x20, 0x21, 0x22, 0x23, 0x24, 0x2A, 0x2B, 0x30,
      0x44, 0x48, 0x49, 0x4A, 0x4B, 0x4C, 0x50, 0x51, 0x52, 0x58, 0x59, 0x5A, 0x64, 0x65] then [0]
  else []

/-- R447: the counter's settings name an event, a qualifier it allows, and a value in range. -/
def cntOk (event qtype qval : Nat) : Bool :=
  (qualAllowed event).contains qtype &&
    (match qtype with
     | 1 => decide (qval ≤ 15)
     | 2 => decide (1 ≤ qval ∧ qval ≤ 192)
     | 3 => decide (qval ≤ 31)
     | _ => true)

/-- Counter `i` adds `n` events: 48 bits, saturating; the first event's frame is kept. -/
def cntAdd (i n : Nat) (b : Block) : Block :=
  let v := getF b (F.CNT_VAL_LO_VAL_LO i) + getF b (F.CNT_VAL_HI_VAL_HI i) * 2 ^ 32 + n
  let sat := decide (2 ^ 48 ≤ v + 1)
  let v := min v (2 ^ 48 - 1)
  let b := when (!isF b (F.CNT_VAL_HI_FIRST_VALID i))
    (fun b => setF (F.CNT_VAL_HI_FIRST_VALID i) 1 (setR (R.CNT_FIRST i) (w32 (frame b)) b)) b
  let b := setF (F.CNT_VAL_HI_VAL_HI i) (v / 2 ^ 32) (setR (R.CNT_VAL_LO i) (w32 v) b)
  when sat (setF (F.CNT_CFG_SAT i) 1) b

/-- `n` events of `code` occur with the qualifiers `q`: every counter that counts them adds them. -/
def count (code n : Nat) (q : Qual) (b : Block) : Block :=
  if n = 0 then b else
  each b.cap.counters (fun (i, c) b =>
    let m := match c.qtype with
      | 0 => true
      | 1 => q.tier == some c.qval
      | 2 => q.cell == some c.qval
      | _ => q.addr == some c.qval
    when (decide (i < 32) && c.event == code && m && !c.frozen && cntOk c.event c.qtype c.qval) (cntAdd i n) b) b

/-! Interrupts (R389, R390, R414, R431). -/

/-- DMA is suspended (R414, R478, R488): link down, Bus Master Enable 0, D3hot, endpoint in reset, or the DMA engine under test or failed. -/
def dmaSuspended (b : Block) : Bool :=
  !b.hst.linkUp || !b.hst.bme || b.hst.d3hot || b.hst.inReset || isF b F.BIST_FAILED_DMA ||
    (match b.bist.host with
     | some r => r.target == 0x11
     | none => false)

/-- No DMA and no message: suspended, or until the first frame after a suspension (R414). -/
def dmaOff (b : Block) : Bool := dmaSuspended b || b.hst.resuming

/-- The data words of a command reach host memory at once, or, under a suspension, when DMA works again (R414). -/
def dmaWrite (addr : Nat) (ws : List Word) (b : Block) : Block :=
  if dmaOff b then { b with hst := { b.hst with late := b.hst.late ++ [(addr, ws)] } } else emitOut (.dma addr ws) b

/-- What `f` does to the causes of suspension; where it ends a suspension, work resumes at the next frame (R414). -/
def resumeAfter (f : Block → Block) (b : Block) : Block :=
  let c := f b
  if dmaSuspended b && !dmaSuspended c then { c with hst := { c.hst with resuming := true } } else c

/-- The MSI-X table masks vector `v` (PCI Express: function mask, or vector control bit 0). -/
def vecMasked (b : Block) (v : Nat) : Bool := b.hst.msixMask || bitOf (getR b (0x2800 + 16 * v + 12)).toNat 0

/-- Vector `v` becomes pending (R390); 0 raises nothing. -/
def pendVec (v : Nat) (b : Block) : Block :=
  if v = 0 then b else { b with hst := { b.hst with vecPend := addOnce v b.hst.vecPend } }

/-- Vector 0 is sent at once (R389), or kept pending while DMA is suspended (R414) or the vector is masked. -/
def sendVec0 (b : Block) : Block :=
  if !b.hst.msixEn then b
  else if dmaOff b || vecMasked b 0 then { b with hst := { b.hst with vec0Pend := true } }
  else emitOut (.msix 0) { b with hst := { b.hst with vec0Pend := false } }

/-- The vector of INT reactions below CRIT_SEV (R389): 0 acts as 1. -/
def slVec (b : Block) : Nat := max 1 (getF b F.HST_CTL_SL_VEC)

/-! Rings, completion rings and streams by number. -/

def sqOf (b : Block) (q : Nat) : Sq := mapGet (fun _ => {}) b.hst.sq q
def putSq (q : Nat) (x : Sq) (b : Block) : Block := { b with hst := { b.hst with sq := mapPut (fun _ => {}) b.hst.sq q x } }
def cqOf (b : Block) (q : Nat) : Cq := mapGet (fun _ => {}) b.hst.cq q
def putCq (q : Nat) (x : Cq) (b : Block) : Block := { b with hst := { b.hst with cq := mapPut (fun _ => {}) b.hst.cq q x } }
def srOf (b : Block) (s : Nat) : Sr := mapGet (fun _ => {}) b.hst.sr s
def putSr (s : Nat) (x : Sr) (b : Block) : Block := { b with hst := { b.hst with sr := mapPut (fun _ => {}) b.hst.sr s x } }
def fifoOf (b : Block) (f : Nat) : Fifo := mapGet (fun _ => {}) b.spi.fifos f
def putFifo (f : Nat) (x : Fifo) (b : Block) : Block := { b with spi := { b.spi with fifos := mapPut (fun _ => {}) b.spi.fifos f x } }
def ringOf (b : Block) (r : Nat) : CapRing := mapGet (fun _ => {}) b.cap.rings r
def putRing (r : Nat) (x : CapRing) (b : Block) : Block := { b with cap := { b.cap with rings := mapPut (fun _ => {}) b.cap.rings r x } }
def balOf (b : Block) (n : Nat) : BalCell := mapGet (fun _ => {}) b.bal.cells n
def putBal (n : Nat) (x : BalCell) (b : Block) : Block := { b with bal := { b.bal with cells := mapPut (fun _ => {}) b.bal.cells n x } }

/-! Positions (R4 to R7). -/

/-- The tier of cell `n`. -/
def tierOf (n : Nat) : Nat := (n - 1) / 12

/-- The local position of cell `n`, 1 to 12. -/
def localOf (n : Nat) : Nat := (n - 1) % 12 + 1

/-- Cells of tier `t`. -/
def tierCells (t : Nat) : List Nat := span (12 * t + 1) (12 * t + 12)

/-- Cell `n` is present: its bit of the active CELL_EN (R110, R122). -/
def present (b : Block) (n : Nat) : Bool := bitOf (actF b (F.FE_TIER_CTL_CELL_EN (tierOf n))) (localOf n - 1)

/-- Populated positions of tier `t`. -/
def populated (b : Block) (t : Nat) : Nat := ((List.range 12).filter fun j => bitOf (actF b (F.FE_TIER_CTL_CELL_EN t)) j).length

/-- Every present cell, in order. -/
def presentCells (b : Block) : List Nat := (span 1 192).filter (present b)

/-- The NODE of the module's own records: its Causeway address, 0 where it has none (R8, R14). -/
def ownNode (b : Block) : Nat := if getF b F.CW_STATUS_ROLE_ACT = 2 then getF b F.CW_STATUS_ADDR else 0

end Sys2Proof.Machine
end

