-- ==== Sys2Proof/Machine/Crypto.lean ====
section
/-! DEFINITION. The algorithms that the spec names and does not spell out: SHA-256 and ECDSA P-256 (R79, R99, R238), AES-128-CMAC (R374). Their definitions are taken from
their public standards (PRESUMED, log entry 5): FIPS 180-4, FIPS 186-4, FIPS 197, NIST SP 800-38B. Bytes are numbers below 256, a message is a list of them. -/

namespace Sys2Proof.Machine

/-- The number that bytes spell, high byte first. -/
def bigEndian (bs : List Nat) : Nat := bs.foldl (fun n x => 256 * n + x % 256) 0

/-- The `n` bytes of a number, high byte first. -/
def bigBytes (n x : Nat) : List Nat := (List.range n).map fun i => x / 256 ^ (n - 1 - i) % 256

/-! SHA-256. -/

/-- The largest root with root ^ k ≤ x, found bit by bit from bit `n - 1` down. -/
def rootOf (k x : Nat) : Nat → Nat → Nat
  | 0, r => r
  | n + 1, r => rootOf k x n (if (r + 2 ^ n) ^ k ≤ x then r + 2 ^ n else r)

/-- The first 64 primes. -/
def primes64 : List Nat :=
  [2, 3, 5, 7, 11, 13, 17, 19, 23, 29, 31, 37, 41, 43, 47, 53, 59, 61, 67, 71, 73, 79, 83, 89, 97, 101, 103, 107, 109, 113, 127, 131] ++
  [137, 139, 149, 151, 157, 163, 167, 173, 179, 181, 191, 193, 197, 199, 211, 223, 227, 229, 233, 239, 241, 251, 257, 263, 269, 271, 277, 281, 283, 293, 307, 311]

/-- The round constants: 32 fractional bits of the cube roots of the primes. -/
def shaK : List Nat := primes64.map fun p => rootOf 3 (p * 2 ^ 96) 36 0 % 2 ^ 32

/-- The initial hash value: 32 fractional bits of the square roots of the first eight primes. -/
def shaInit : List Nat := (primes64.take 8).map fun p => rootOf 2 (p * 2 ^ 64) 36 0 % 2 ^ 32

/-- A 32-bit rotation to the right. -/
def rotr (k x : Nat) : Nat := x / 2 ^ k + x % 2 ^ k * 2 ^ (32 - k)

/-- The message schedule, the latest word first, `n` words beyond the sixteen of the block. -/
def shaSchedule : Nat → List Nat → List Nat
  | 0, w => w
  | n + 1, w =>
    let x := w.getD 1 0
    let y := w.getD 14 0
    let s1 := rotr 17 x ^^^ rotr 19 x ^^^ (x / 2 ^ 10)
    let s0 := rotr 7 y ^^^ rotr 18 y ^^^ (y / 2 ^ 3)
    shaSchedule n ((s1 + w.getD 6 0 + s0 + w.getD 15 0) % 2 ^ 32 :: w)

/-- One round on the eight working words. -/
def shaRound (s : List Nat) (kw : Nat) : List Nat :=
  match s with
  | [a, b, c, d, e, f, g, h] =>
    let t1 := h + (rotr 6 e ^^^ rotr 11 e ^^^ rotr 25 e) + ((e &&& f) ^^^ ((0xFFFFFFFF ^^^ e) &&& g)) + kw
    let t2 := (rotr 2 a ^^^ rotr 13 a ^^^ rotr 22 a) + ((a &&& b) ^^^ (a &&& c) ^^^ (b &&& c))
    [(t1 + t2) % 2 ^ 32, a, b, c, (d + t1) % 2 ^ 32, e, f, g]
  | _ => s

/-- The hash value after a block of sixteen words, high byte first. -/
def shaBlock (h block : List Nat) : List Nat :=
  let w := (shaSchedule 48 block.reverse).reverse
  let s := (List.zipWith (· + ·) shaK w).foldl shaRound h
  List.zipWith (fun x y => (x + y) % 2 ^ 32) h s

/-- The blocks of a padded message. -/
def shaBlocks : Nat → List Nat → List Nat → List Nat
  | 0, _, h => h
  | n + 1, bs, h => shaBlocks n (bs.drop 64) (shaBlock h ((List.range 16).map fun i => bigEndian ((bs.drop (4 * i)).take 4)))

/-- SHA-256 of a message: 32 bytes. -/
def sha256 (msg : List Nat) : List Nat :=
  let n := (msg.length + 9 + 63) / 64
  let padded := msg ++ [0x80] ++ List.replicate (64 * n - msg.length - 9) 0 ++ bigBytes 8 (8 * msg.length)
  (shaBlocks n padded shaInit).flatMap (bigBytes 4)

/-! ECDSA over P-256. Points are in Jacobian coordinates; z = 0 is the point at infinity. -/

/-- The field prime. -/
def ecP : Nat := 2 ^ 256 - 2 ^ 224 + 2 ^ 192 + 2 ^ 96 - 1
/-- The order of the base point. -/
def ecN : Nat := 0xFFFFFFFF00000000FFFFFFFFFFFFFFFFBCE6FAADA7179E84F3B9CAC2FC632551
/-- The curve is y² = x³ - 3x + ecB. -/
def ecB : Nat := 0x5AC635D8AA3A93E7B3EBBD55769886BC651D06B0CC53B0F63BCE3C3E27D2604B

/-- A point. -/
structure EcPoint where
  x : Nat
  y : Nat
  z : Nat
deriving DecidableEq, Repr

/-- The base point. -/
def ecG : EcPoint := ⟨0x6B17D1F2E12C4247F8BCE6E563A440F277037D812DEB33A0F4A13945D898C296, 0x4FE342E2FE1A7F9B8EE7EB4A7C0F9E162BCE33576B315ECECBB6406837BF51F5, 1⟩

def ecMul (a b : Nat) : Nat := a * b % ecP
def ecSub (a b : Nat) : Nat := (a + ecP - b) % ecP

/-- Twice a point. -/
def ecDouble (p : EcPoint) : EcPoint :=
  let d := ecMul p.z p.z
  let g := ecMul p.y p.y
  let b := ecMul p.x g
  let a := 3 * ecMul (ecSub p.x d) (p.x + d) % ecP
  let x := ecSub (ecMul a a) (8 * b % ecP)
  ⟨x, ecSub (ecMul a (ecSub (4 * b % ecP) x)) (8 * ecMul g g % ecP), 2 * ecMul p.y p.z % ecP⟩

/-- The sum of two points. -/
def ecAdd (p q : EcPoint) : EcPoint :=
  if p.z = 0 then q else if q.z = 0 then p else
  let zz := ecMul p.z p.z
  let ww := ecMul q.z q.z
  let u := ecMul p.x ww
  let s := ecMul p.y (ecMul ww q.z)
  let h := ecSub (ecMul q.x zz) u
  let r := ecSub (ecMul q.y (ecMul zz p.z)) s
  if h = 0 then (if r = 0 then ecDouble p else ⟨1, 1, 0⟩) else
  let hh := ecMul h h
  let hhh := ecMul h hh
  let v := ecMul u hh
  let x := ecSub (ecSub (ecMul r r) hhh) (2 * v % ecP)
  ⟨x, ecSub (ecMul r (ecSub v x)) (ecMul s hhh), ecMul h (ecMul p.z q.z)⟩

/-- acc · 2^n + (u mod 2^n) · G + (v mod 2^n) · Q, with the sum G + Q at hand. -/
def ecTwin (q gq : EcPoint) (u v : Nat) : Nat → EcPoint → EcPoint
  | 0, acc => acc
  | n + 1, acc =>
    let d := ecDouble acc
    ecTwin q gq u v n (match u.testBit n, v.testBit n with
      | true, true => ecAdd d gq
      | true, false => ecAdd d ecG
      | false, true => ecAdd d q
      | false, false => d)

/-- a ^ (e mod 2^n) mod the order, times acc ^ 2^n. -/
def powN (a e : Nat) : Nat → Nat → Nat
  | 0, acc => acc
  | n + 1, acc => let s := acc * acc % ecN; powN a e n (if e.testBit n then s * a % ecN else s)

/-- A public key's numbers are those of a point of the curve. -/
def ecOnCurve (x y : Nat) : Bool := decide (x < ecP ∧ y < ecP) && ecMul y y == (ecMul x (ecMul x x) + 3 * (ecP - x) + ecB) % ecP

/-- Whether an ECDSA P-256 signature (r then s) verifies over the SHA-256 hash of a message with a public key (X then Y). -/
def ecdsaVerify (key msg sig : List Nat) : Bool :=
  let qx := bigEndian (key.take 32)
  let qy := bigEndian (key.drop 32)
  let r := bigEndian (sig.take 32)
  let s := bigEndian (sig.drop 32)
  if key.length ≠ 64 ∨ sig.length ≠ 64 ∨ r = 0 ∨ s = 0 ∨ ecN ≤ r ∨ ecN ≤ s ∨ !ecOnCurve qx qy then false else
  let q : EcPoint := ⟨qx, qy, 1⟩
  let w := powN s (ecN - 2) 256 1
  let t := ecTwin q (ecAdd ecG q) (bigEndian (sha256 msg) * w % ecN) (r * w % ecN) 256 ⟨1, 1, 0⟩
  let zz := ecMul t.z t.z
  t.z ≠ 0 && (t.x == ecMul r zz || (decide (r + ecN < ecP) && t.x == ecMul (r + ecN) zz))

/-! AES-128 and its CMAC. -/

/-- Twice an element of GF(2^8). -/
def gfDouble (x : Nat) : Nat := if x < 128 then 2 * x else (2 * x) % 256 ^^^ 0x1B

/-- A product in GF(2^8), by the lowest `n` bits of `y`. -/
def gfMul (x y : Nat) : Nat → Nat
  | 0 => 0
  | n + 1 => (if y.testBit n then (List.range n).foldl (fun z _ => gfDouble z) x else 0) ^^^ gfMul x y n

/-- The S-box: the inverse in GF(2^8) (x^254), then the affine map. -/
def aesSbox (x : Nat) : Nat :=
  let sq := fun a => gfMul a a 8
  let x2 := sq x
  let x4 := sq x2
  let x8 := sq x4
  let x16 := sq x8
  let x32 := sq x16
  let x64 := sq x32
  let x128 := sq x64
  let i := [x4, x8, x16, x32, x64, x128].foldl (fun a c => gfMul a c 8) x2
  let rot := fun k => (i * 2 ^ k % 256) + i / 2 ^ (8 - k)
  i ^^^ rot 1 ^^^ rot 2 ^^^ rot 3 ^^^ rot 4 ^^^ 0x63

/-- The S-box as a table. -/
def aesTable : List Nat := (List.range 256).map aesSbox

def aesSub (x : Nat) : Nat := aesTable.getD x 0

/-- Bytes combined by exclusive or. -/
def xorBytes (x y : List Nat) : List Nat := List.zipWith (· ^^^ ·) x y

/-- The next round key. -/
def aesNextKey (rcon : Nat) (k : List Nat) : List Nat :=
  let w := fun i => (k.drop (4 * i)).take 4
  let t := [aesSub (k.getD 13 0) ^^^ rcon, aesSub (k.getD 14 0), aesSub (k.getD 15 0), aesSub (k.getD 12 0)]
  let w0 := xorBytes (w 0) t
  let w1 := xorBytes (w 1) w0
  let w2 := xorBytes (w 2) w1
  w0 ++ w1 ++ w2 ++ xorBytes (w 3) w2

/-- SubBytes and ShiftRows; the state is by columns. -/
def aesShift (s : List Nat) : List Nat := (List.range 16).map fun i => aesSub (s.getD ((i + 4 * (i % 4)) % 16) 0)

/-- MixColumns. -/
def aesMix (s : List Nat) : List Nat :=
  (List.range 16).map fun i =>
    let at_ := fun k => s.getD (i / 4 * 4 + (i + k) % 4) 0
    gfDouble (at_ 0) ^^^ (gfDouble (at_ 1) ^^^ at_ 1) ^^^ at_ 2 ^^^ at_ 3

/-- The rounds from the present key on; the last has no MixColumns. -/
def aesRounds : List Nat → List Nat → List Nat → List Nat
  | [], _, s => s
  | rcon :: rest, k, s =>
    let k' := aesNextKey rcon k
    let t := aesShift s
    aesRounds rest k' (xorBytes (if rest.isEmpty then t else aesMix t) k')

/-- AES-128 of a 16-byte block. -/
def aes128 (key block : List Nat) : List Nat := aesRounds [1, 2, 4, 8, 16, 32, 64, 128, 0x1B, 0x36] key (xorBytes block key)

/-- A block doubled in GF(2^128). -/
def cmacDouble (x : List Nat) : List Nat :=
  let n := bigEndian x
  bigBytes 16 (if n < 2 ^ 127 then 2 * n else (2 * n) % 2 ^ 128 ^^^ 0x87)

/-- The chain over the blocks before the last, of which `n` are left. -/
def cmacChain (key : List Nat) : Nat → List Nat → List Nat → List Nat × List Nat
  | 0, msg, x => (x, msg)
  | n + 1, msg, x => cmacChain key n (msg.drop 16) (aes128 key (xorBytes x (msg.take 16)))

/-- The AES-128-CMAC of a message: 16 bytes. -/
def cmac (key msg : List Nat) : List Nat :=
  let k1 := cmacDouble (aes128 key (List.replicate 16 0))
  let (x, rest) := cmacChain key ((msg.length - 1) / 16) msg (List.replicate 16 0)
  let final := if rest.length = 16 then xorBytes rest k1
    else xorBytes (rest ++ [0x80] ++ List.replicate (15 - rest.length) 0) (cmacDouble k1)
  aes128 key (xorBytes x final)

end Sys2Proof.Machine
end

