-- ==== Sys2Proof/Machine/Real.lean ====
section
/-! DEFINITION. The real functions the spec's formulas name (sine, cosine, tangent, exponential, logarithm, square root), in fixed point with 64 fraction bits, by
their series. The spec states the formulas and not the arithmetic of the part, so a result is exact but for less than 2^-50 of it (log entry 14). -/

namespace Sys2Proof.Machine

/-- One in fixed point. -/
def oneQ : Int := 2 ^ 64

/-- A number in fixed point, rounded down. -/
def toQ (x : Rat) : Int := (x * (2 ^ 64 : Nat)).floor

/-- The number a fixed-point value stands for. -/
def ofQ (x : Int) : Rat := (x : Rat) / (2 ^ 64 : Nat)

def mulQ (x y : Int) : Int := x * y / oneQ

/-- π in fixed point. -/
def piQ : Int := 57952155664616982739

/-- ln 2 in fixed point. -/
def ln2Q : Int := 12786308645202655659

/-- A power series whose term `i + 1` is term `i` times `x` over `d i`: the sum of the first terms from `t` on. -/
def seriesQ (d : Nat → Int) (x t : Int) (n : Nat) : Int :=
  ((List.range n).foldl (fun (a : Int × Int) i => (a.1 + a.2, mulQ a.2 x / d i)) (0, t)).1

/-- Sine of an angle in fixed-point radians, from -π to π. -/
def sinQ (x : Int) : Int := seriesQ (fun i => (2 * i + 2) * (2 * i + 3)) (-(mulQ x x)) x 24

/-- Cosine of an angle in fixed-point radians, from -π to π. -/
def cosQ (x : Int) : Int := seriesQ (fun i => (2 * i + 1) * (2 * i + 2)) (-(mulQ x x)) oneQ 24

/-- Tangent of an angle in fixed-point radians, below π/2. -/
def tanQ (x : Int) : Int := sinQ x * oneQ / cosQ x

/-- 2 artanh (num / den), for a quotient up to 1/3. -/
def artanhQ (num den : Int) : Int :=
  let y := num * oneQ / den
  let y2 := mulQ y y
  2 * ((List.range 42).foldl (fun (a : Int × Int) (i : Nat) => (a.1 + a.2 / (2 * i + 1), mulQ a.2 y2)) (0, y)).1

/-- The logarithm of a positive number. -/
def lnQ (x : Rat) : Int :=
  let k : Int := (Nat.log2 x.num.natAbs : Int) - Nat.log2 x.den
  let m : Rat := if 0 ≤ k then x / (2 ^ k.toNat : Nat) else x * (2 ^ (-k).toNat : Nat)
  k * ln2Q + artanhQ (toQ m - oneQ) (toQ m + oneQ)

/-- e to a fixed-point power. -/
def expQ (x : Int) : Rat :=
  let k := x / ln2Q
  let m := ofQ (seriesQ (fun i => i + 1) (x - k * ln2Q) oneQ 30)
  if 0 ≤ k then m * (2 ^ k.toNat : Nat) else m / (2 ^ (-k).toNat : Nat)

/-- e to the power -x; beyond what a binary32 number can show it is 0. -/
def expNeg (x : Rat) : Rat := if 200 < x then 0 else expQ (toQ (-x))

/-- The number whose logarithm is the weighted mean of the logarithms of two positive ones (R245 with LOGV). -/
def geoMix (a c w : Rat) : Rat := if w = 0 then a else if w = 1 then c else expQ ((lnQ a : Int) + (w * ((lnQ c - lnQ a : Int) : Rat)).floor)

/-- The whole square root by bisection: the largest `r` with `r * r ≤ n`. -/
def isqrt (n : Nat) : Nat :=
  (List.range (Nat.log2 n / 2 + 1)).foldr (fun i r => if (r + 2 ^ i) * (r + 2 ^ i) ≤ n then r + 2 ^ i else r) 0

end Sys2Proof.Machine
end

