-- ==== Sys2Proof/Machine/ImageFormat.lean ====
section
/-! DEFINITION. The byte layout of a model image (R235 to R253) as readings of its staged words, and the seventeen checks of its validation (R254). An
image is a canonical map from word index to word; a word nothing has written reads 0 (log entry 12). -/

namespace Sys2Proof.Machine

/-- The word of an image at byte offset `o` (a multiple of 4). -/
def imgW (m : List (Nat × Word)) (o : Nat) : Nat := (mapGet (fun _ => (0 : Word)) m (o / 4)).toNat

/-- The byte at offset `o` (R11: low byte first). -/
def imgB (m : List (Nat × Word)) (o : Nat) : Nat := imgW m o / 256 ^ (o % 4) % 256

/-- The 16-bit field at offset `o`. -/
def imgH (m : List (Nat × Word)) (o : Nat) : Nat := imgB m o + 256 * imgB m (o + 1)

/-- Bytes `lo` to `hi - 1`. -/
def imgBytes (m : List (Nat × Word)) (lo hi : Nat) : List Nat := (List.range (hi - lo)).map fun i => imgB m (lo + i)

/-- The number an IEEE 754 binary32 word stands for; none where it is not finite. -/
def f32 (w : Nat) : Option Rat :=
  let e := w / 2 ^ 23 % 256
  let m := w % 2 ^ 23
  let num : Nat := if e = 0 then m else if 150 ≤ e then (2 ^ 23 + m) * 2 ^ (e - 150) else 2 ^ 23 + m
  let den : Nat := if e = 0 then 2 ^ 149 else if 150 ≤ e then 1 else 2 ^ (150 - e)
  let x : Rat := (num : Rat) / (den : Rat)
  if e = 255 then none else some (if bitOf w 31 then -x else x)

/-- The number at offset `o`, 0 where it is not finite. -/
def imgF (m : List (Nat × Word)) (o : Nat) : Rat := (f32 (imgW m o)).getD 0

/-- A finite number at offset `o` that satisfies `p`. -/
def imgIs (m : List (Nat × Word)) (o : Nat) (p : Rat → Bool) : Bool := (f32 (imgW m o)).any p

/-- A field's offset and whether it passes; the first that does not. -/
def firstBad (l : List (Nat × Bool)) : Option Nat := (l.find? fun x => !x.2).map (·.1)

/-- Bytes `lo` to `hi - 1` are 0. -/
def zeros (m : List (Nat × Word)) (lo hi : Nat) : Bool := (imgBytes m lo hi).all (· == 0)

/-- `n` rounded up to a multiple of 8. -/
def up8 (n : Nat) : Nat := (n + 7) / 8 * 8

/-! Header and directory (R235, R236). -/

def imgLen (m : List (Nat × Word)) : Nat := imgW m 0x08
def secOfs (m : List (Nat × Word)) (s : Nat) : Nat := imgW m (0x40 + 8 * (s - 1))
def secLen (m : List (Nat × Word)) (s : Nat) : Nat := imgW m (0x44 + 8 * (s - 1))
def nClass (m : List (Nat × Word)) : Nat := imgB m 0x1C
def nPack (m : List (Nat × Word)) : Nat := imgW m 0x20
def nTable (m : List (Nat × Word)) : Nat := imgW m 0x24
def imgSignedFlag (m : List (Nat × Word)) : Bool := bitOf (imgH m 0x06) 0

/-! Classes and templates (R239 to R241). -/

/-- Offset of class `c`'s entry. -/
def classAt (m : List (Nat × Word)) (c : Nat) : Nat := secOfs m 1 + 64 * c

/-- Offset of class `c`'s template. -/
def tmplAt (m : List (Nat × Word)) (c : Nat) : Nat := secOfs m 2 + imgW m (classAt m c + 4)

/-- Size of the template block at offset `o`, padding included. -/
def tmplSize (m : List (Nat × Word)) (o : Nat) : Nat := up8 (32 + 4 * imgW m (o + 0x0C))

/-- Offsets of the templates of section 2, one after another. -/
def tmplStarts (m : List (Nat × Word)) : Nat → Nat → List Nat
  | 0, _ => []
  | fuel + 1, o => if secOfs m 2 + secLen m 2 ≤ o then [] else o :: tmplStarts m fuel (o + tmplSize m o)

def templates (m : List (Nat × Word)) : List Nat := tmplStarts m (secLen m 2 / 32) (secOfs m 2)

/-- Positions of the template at `o`. -/
def tmplPos (m : List (Nat × Word)) (o : Nat) : Nat := imgB m o * imgB m (o + 1)

/-- Nodes per position of the template at `o`. -/
def tmplStack (m : List (Nat × Word)) (o : Nat) : Nat := imgB m (o + 2) + imgB m (o + 3) + imgB m (o + 4) + imgB m (o + 5) + imgB m (o + 6)

/-- Nodes of the template at `o`. -/
def tmplNodes (m : List (Nat × Word)) (o : Nat) : Nat := tmplPos m o * tmplStack m o

/-- KIND of local node `i` of the template at `o` (R209, R241). -/
def nodeKind (m : List (Nat × Word)) (o i : Nat) : Nat :=
  let j := i % tmplStack m o
  let sp := imgB m (o + 2) + imgB m (o + 3)
  if j < sp then 1 else if j < sp + imgB m (o + 4) then 2 else if j < sp + imgB m (o + 4) + imgB m (o + 5) then 3 else 4

/-- Predicted cost of one cell with the template at `o`, in lane-cycles (R219). -/
def cellCost (m : List (Nat × Word)) (o : Nat) : Nat :=
  tmplPos m o * (320 * (imgB m (o + 2) + imgB m (o + 3)) + 2 * 960 + 480 * imgB m (o + 4) + (240 + 24 * imgB m (o + 8)) * imgB m (o + 5)
    + (200 + 24 * imgB m (o + 9)) * imgB m (o + 6)) + 8192

/-! Parameter tables (R243 to R245). -/

/-- Offsets of the tables of section 3. -/
def tableStarts (m : List (Nat × Word)) : Nat → Nat → List Nat
  | 0, _ => []
  | fuel + 1, o => o :: tableStarts m fuel (o + imgW m (o + 0x10))

def tables (m : List (Nat × Word)) : List Nat := tableStarts m (min 1024 (nTable m)) (secOfs m 3)

def tabParam (m : List (Nat × Word)) (o : Nat) : Nat := imgH m o
def tabClass (m : List (Nat × Word)) (o : Nat) : Nat := imgB m (o + 2)
def tabFlag (m : List (Nat × Word)) (o k : Nat) : Bool := bitOf (imgB m (o + 3)) k
def tabNZ (m : List (Nat × Word)) (o : Nat) : Nat := imgH m (o + 4)
def tabNT (m : List (Nat × Word)) (o : Nat) : Nat := imgH m (o + 6)

/-- Bytes a table of this shape takes. -/
def tabSize (m : List (Nat × Word)) (o : Nat) : Nat := up8 (32 + 4 * (tabNZ m o + tabNT m o + tabNZ m o * tabNT m o))

/-- Offset of value `i` of the table. -/
def tabVal (m : List (Nat × Word)) (o i : Nat) : Nat := o + 32 + 4 * (tabNZ m o + tabNT m o + i)

/-- The table of parameter `p` of class `c`, if the image has one. -/
def tableOf (m : List (Nat × Word)) (c p : Nat) : Option Nat := (tables m).find? fun o => tabClass m o == c && tabParam m o == p

/-- R244: the codes whose tables may carry ADAPT. -/
def adaptCodes : List Nat := [0x02, 0x03, 0x04, 0x05, 0x06, 0x07, 0x08, 0x09, 0x10, 0x11, 0x12, 0x13]

/-- R244: every code. -/
def paramCodes : List Nat := adaptCodes ++ [0x01, 0x14, 0x15, 0x16, 0x17, 0x18, 0x19, 0x20, 0x21]

/-- R244: the codes class `c` must hold. -/
def requiredCodes (m : List (Nat × Word)) (c : Nat) : List Nat :=
  let k := imgB m (classAt m c + 2)
  [0x01, 0x02] ++ span 3 (2 + k) ++ span 6 (5 + k) ++ [0x09, 0x10, 0x11, 0x12, 0x13, 0x14, 0x15] ++
    (if imgB m (tmplAt m c + 5) = 0 then [] else [0x16]) ++ [0x17, 0x18, 0x20, 0x21]

/-! The map of cells to classes (R246), and what it makes of the present cells. -/

/-- Class of cell `n`. -/
def cellClass (m : List (Nat × Word)) (n : Nat) : Nat := imgB m (secOfs m 4 + n - 1)

/-- Classes some present cell uses. -/
def usedClasses (m : List (Nat × Word)) (cells : List Nat) : List Nat := cells.foldl (fun l n => addOnce (cellClass m n) l) []

/-- Total nodes for the present set (R211). -/
def imgNodes (m : List (Nat × Word)) (cells : List Nat) : Nat := (cells.map fun n => tmplNodes m (tmplAt m (cellClass m n))).sum + nPack m

/-- A part of a built parameter copy (R252): its header, a shared table, a cell's block, a cell's own table; tables go by their offset in the image. -/
inductive CopyPart where
  | header
  | shared (table : Nat)
  | block (cell : Nat)
  | own (cell table : Nat)
deriving DecidableEq, Repr

/-- The tables of class `c` with ADAPT = `ad`, in image order. -/
def classTables (m : List (Nat × Word)) (c : Nat) (ad : Bool) : List Nat := (tables m).filter fun o => tabClass m o == c && tabFlag m o 0 == ad

/-- The parts of the copy in their order (R252). The shared tables stand by the first present cell that uses their class, then in image order (DESIGN CHOICE, log entry
12). -/
def copyParts (m : List (Nat × Word)) (cells : List Nat) : List CopyPart :=
  .header :: ((usedClasses m cells).flatMap fun c => (classTables m c false).map CopyPart.shared) ++
    cells.flatMap fun n => .block n :: (classTables m (cellClass m n) true).map (CopyPart.own n)

/-- Bytes of a part (R252). -/
def partSize (m : List (Nat × Word)) : CopyPart → Nat
  | .header => 4096
  | .shared o => tabSize m o
  | .block _ => 256
  | .own _ o => tabSize m o

/-- P (R252). -/
def copySize (m : List (Nat × Word)) (cells : List Nat) : Nat := ((copyParts m cells).map (partSize m)).sum

/-- The part of the copy that holds byte offset `a`, and the offset within it. -/
def partAt (m : List (Nat × Word)) : List CopyPart → Nat → Option (CopyPart × Nat)
  | [], _ => none
  | p :: ps, a => if a < partSize m p then some (p, a) else partAt m ps (a - partSize m p)

/-- C (R219). -/
def imgCost (m : List (Nat × Word)) (cells : List Nat) : Nat :=
  (cells.map fun n => cellCost m (tmplAt m (cellClass m n))).sum + nPack m * (200 + 24 * imgB m (secOfs m 5 + 4))

/-- Milliseconds of a STEP code (R25). -/
def stepMs (code : Nat) : Nat := [50, 100, 200, 500].getD code 100

/-- The three conditions of R220. -/
def fits (nodes cost p ms : Nat) : Bool :=
  decide (nodes ≤ 5242880 ∧ 10 * nodes ≤ 524288 * ms ∧ cost ≤ 20971520 * ms ∧ p ≤ 25165824 ∧ 100 * p ≤ 12582912 * ms)

/-- C / B in 0.01 %, to the nearest (DEDUCED from the worked example of R222, log entry 13). -/
def predOf (cost ms : Nat) : Nat := (roundDiv (10000 * (cost : Int)) (20971520 * (ms : Int))).toNat

/-! The checks of R254, by their order; `none` is a pass, `some` the offset of the field that fails. -/

def chkFormat (m : List (Nat × Word)) : Option Nat :=
  firstBad ([(0x00, decide (imgW m 0 = 0x4D49535A)), (0x04, decide (imgH m 4 = 1)), (0x06, decide (imgH m 6 ≤ 1)), (0x1D, zeros m 0x1D 0x20),
    (0x28, zeros m 0x28 0x40), (0x78, zeros m 0x78 0x80)] ++ (if imgSignedFlag m then [] else [(0x80, zeros m 0x80 0xC0)]))

/-- R237. -/
def chkCrc (m : List (Nat × Word)) : Option Nat :=
  firstBad [(0x0C, decide (crc32 (imgBytes m 0 0x0C ++ imgBytes m 0x10 0x80 ++ imgBytes m 0xC0 (imgLen m)) = imgW m 0x0C))]

/-- R236. -/
def chkLayout (m : List (Nat × Word)) : Option Nat :=
  firstBad ((span 1 7).flatMap fun s =>
    [(0x40 + 8 * (s - 1), decide (secOfs m s = (if s = 1 then 0xC0 else secOfs m (s - 1) + secLen m (s - 1)))),
     (0x44 + 8 * (s - 1), decide (secLen m s % 8 = 0) && (s != 7 || decide (secOfs m 7 + secLen m 7 = imgLen m)))])

/-- R239. An N_CLASS out of range is reported here, N_TABLE by the check of the tables and N_PACK by that of the pack map: no row of R254 names them (DESIGN CHOICE, log
entry 12). -/
def chkClass (m : List (Nat × Word)) : Option Nat :=
  let unit := fun (x : Rat) => decide (0 ≤ x ∧ x ≤ 1)
  let pos := fun (x : Rat) => decide (0 < x)
  firstBad ([(0x1C, decide (1 ≤ nClass m ∧ nClass m ≤ 16)), (0x44, decide (secLen m 1 = 64 * nClass m))] ++
    (List.range (nClass m)).flatMap fun c =>
      let e := classAt m c
      [(e, decide (64 ≤ imgH m e ∧ imgH m e ≤ 27306)), (e + 2, decide (imgB m (e + 2) ≤ 3)), (e + 3, zeros m (e + 3) (e + 4)),
       (e + 4, (templates m).contains (tmplAt m c)), (e, decide (imgH m e = imgW m (tmplAt m c + 0x10))),
       (e + 8, decide (imgH m (e + 8) + imgH m (e + 10) ≤ nTable m)), (e + 0x0C, imgIs m (e + 0x0C) unit)] ++
      [0x10, 0x14, 0x18, 0x1C].map (fun o => (e + o, imgIs m (e + o) unit)) ++
      [0x20, 0x24, 0x28, 0x2C, 0x30, 0x34, 0x38].map (fun o => (e + o, imgIs m (e + o) pos)) ++ [(e + 0x3C, zeros m (e + 0x3C) (e + 0x40))])

/-- R240, R242. The templates lie in class order: each class has its own, the first that of class 0 (DEDUCED, log entry 12). -/
def chkTemplate (m : List (Nat × Word)) : Option Nat :=
  let ts := templates m
  firstBad (ts.flatMap (fun o =>
    let n := imgW m (o + 0x0C)
    let stack := tmplStack m o
    let surf := imgH m (o + 0x14)
    let words := (List.range n).map fun i => imgW m (o + 32 + 4 * i)
    let rng := fun (k lo hi : Nat) => (o + k, decide (lo ≤ imgB m (o + k) ∧ imgB m (o + k) ≤ hi))
    [rng 0 1 64, rng 1 1 64, rng 2 2 32, rng 3 2 32, rng 4 1 16, rng 5 0 4, rng 6 1 8, (o + 7, zeros m (o + 7) (o + 8)), rng 8 0 8,
     (o + 8, imgB m (o + 5) != 0 || imgB m (o + 8) == 0), rng 9 0 12, (o + 0x0A, zeros m (o + 0x0A) (o + 0x0C)),
     (o + 0x0C, decide (n = imgB m (o + 8) + imgB m (o + 9))), (o + 0x10, decide (imgW m (o + 0x10) = tmplNodes m o)),
     (o + 0x14, decide (surf < tmplNodes m o ∧ stack - imgB m (o + 6) ≤ surf % stack)), (o + 0x16, zeros m (o + 0x16) (o + 0x20))] ++
    (List.range n).map (fun i =>
      let w := words.getD i 0
      (o + 32 + 4 * i, decide (w % 256 = (if i < imgB m (o + 8) then 3 else 4)) && decide (w / 256 ≠ 0) && !(words.take i).contains w)) ++
    [(o + 32 + 4 * n, zeros m (o + 32 + 4 * n) (o + tmplSize m o))]) ++
    [(0x4C, decide ((ts.map (tmplSize m)).sum = secLen m 2))] ++
    (List.range (nClass m)).map (fun c => (classAt m c + 4, ts[c]? == some (tmplAt m c))) ++ [(0x4C, decide (ts.length = nClass m))])

/-- Numbers strictly rising. -/
def rising : List Rat → Bool
  | a :: b :: l => decide (a < b) && rising (b :: l)
  | _ => true

/-- One table's own fields (R243 to R245). -/
def tableFields (m : List (Nat × Word)) (o : Nat) : List (Nat × Bool) :=
  let nz := tabNZ m o
  let nt := tabNT m o
  let p := tabParam m o
  let lo := imgF m (o + 8)
  let hi := imgF m (o + 12)
  let zs := (List.range nz).map fun i => imgF m (o + 32 + 4 * i)
  let ts := (List.range nt).map fun i => imgF m (o + 32 + 4 * (nz + i))
  let zOk := fun (x : Rat) => if p = 0x17 ∨ p = 0x18 then decide (0 ≤ x ∧ x ≤ 100) else decide (-5 ≤ x ∧ x ≤ 105)
  [(o, paramCodes.contains p), (o + 2, decide (tabClass m o < nClass m)),
   (o + 3, decide (imgB m (o + 3) < 8) && (!tabFlag m o 0 || adaptCodes.contains p)), (o + 4, decide (1 ≤ nz ∧ nz ≤ 101)),
   (o + 6, decide (1 ≤ nt ∧ nt ≤ 32)), (o + 8, imgIs m (o + 8) fun _ => true), (o + 12, imgIs m (o + 12) fun x => decide (lo ≤ x)),
   (o + 0x10, decide (imgW m (o + 0x10) = tabSize m o)), (o + 0x14, zeros m (o + 0x14) (o + 0x20))] ++
  (List.range nz).map (fun i => (o + 32 + 4 * i, imgIs m (o + 32 + 4 * i) zOk && rising (zs.take (i + 1)))) ++
  (List.range nt).map (fun i =>
    (o + 32 + 4 * (nz + i), imgIs m (o + 32 + 4 * (nz + i)) (fun x => decide (-50 ≤ x ∧ x ≤ 150)) && rising (ts.take (i + 1)))) ++
  (List.range (nz * nt)).map (fun i =>
    (tabVal m o i, imgIs m (tabVal m o i) fun x => decide (lo ≤ x ∧ x ≤ hi) && (!tabFlag m o 1 || decide (0 < x)))) ++
  [(tabVal m o (nz * nt), zeros m (tabVal m o (nz * nt)) (o + tabSize m o))]

/-- R243 to R245, and the place and completeness of each class's tables. -/
def chkTable (m : List (Nat × Word)) : Option Nat :=
  let ts := tables m
  let key := fun o => tabClass m o * 65536 + tabParam m o
  let rec sorted : List Nat → List (Nat × Bool)
    | a :: b :: l => (b, decide (key a < key b)) :: sorted (b :: l)
    | _ => []
  let codes := fun c => (ts.filter fun o => tabClass m o == c).map (tabParam m)
  firstBad ([(0x24, decide (1 ≤ nTable m ∧ nTable m ≤ 1024))] ++ ts.flatMap (tableFields m) ++ sorted ts ++
    [(0x54, decide ((ts.map (tabSize m)).sum = secLen m 3))] ++
    (List.range (nClass m)).flatMap (fun c =>
      let e := classAt m c
      [(e + 8, decide ((ts.filter fun o => tabClass m o == c) = (ts.drop (imgH m (e + 8))).take (imgH m (e + 10)))),
       (e + 10, decide ((ts.filter fun o => tabClass m o == c).length = imgH m (e + 10))),
       (0, (requiredCodes m c).all (codes c).contains)] ++
      (ts.filter fun o => tabClass m o == c).map (fun o =>
        (o, !([0x04, 0x05, 0x07, 0x08, 0x16].contains (tabParam m o)) || (requiredCodes m c).contains (tabParam m o)))))

/-- R246 against the present cells. -/
def chkMap (m : List (Nat × Word)) (cells : List Nat) : Option Nat :=
  firstBad ((0x5C, decide (secLen m 4 = 192)) :: cells.map fun n => (secOfs m 4 + n - 1, decide (cellClass m n < nClass m)))

/-- Offsets of the link and boundary entries of section 5 (R247). -/
def linksAt (m : List (Nat × Word)) : Nat := secOfs m 5 + 16 + 8 * nPack m
def nLink (m : List (Nat × Word)) : Nat := imgW m (secOfs m 5 + 8)
def nBc (m : List (Nat × Word)) : Nat := imgW m (secOfs m 5 + 12)
def bcsAt (m : List (Nat × Word)) : Nat := linksAt m + 12 * nLink m

/-- A reference of a link names a pack node of the image, or a cell number (R247). -/
def refOk (m : List (Nat × Word)) (r : Nat) : Bool :=
  if bitOf r 31 then decide (r % 2 ^ 23 < nPack m) else decide (1 ≤ r % 256 ∧ r % 256 ≤ 192 ∧ r / 256 = 0)

/-- What a reference names, one number each: pack node i is 2^31 + i, whatever its bits [30:23] (R247). -/
def refName (r : Nat) : Nat := if bitOf r 31 then 2 ^ 31 + r % 2 ^ 23 else r

/-- The links that name no absent position, by what they name (R248). -/
def liveLinks (m : List (Nat × Word)) (cells : List Nat) : List (Nat × Nat) :=
  ((List.range (nLink m)).map fun i => (refName (imgW m (linksAt m + 12 * i)), refName (imgW m (linksAt m + 12 * i + 4)))).filter fun l =>
    (bitOf l.1 31 || cells.contains (l.1 % 256)) && (bitOf l.2 31 || cells.contains (l.2 % 256))

/-- R247, R248. -/
def chkPack (m : List (Nat × Word)) (cells : List Nat) : Option Nat :=
  let o := secOfs m 5
  let np := nPack m
  let nl := nLink m
  let nb := nBc m
  let pos := fun (x : Rat) => decide (0 < x)
  let ls := liveLinks m cells
  let uses := fun r => (ls.filter fun l => l.1 == r || l.2 == r)
  let bcs := (List.range nb).map fun i => imgW m (bcsAt m + 12 * i)
  let ends := bcsAt m + 12 * nb
  firstBad ([(0x20, decide (1 ≤ np ∧ np ≤ 65536)), (o, decide (imgW m o = np)), (o + 4, decide (1 ≤ imgB m (o + 4) ∧ imgB m (o + 4) ≤ 16)),
    (o + 5, zeros m (o + 5) (o + 8)), (o + 8, decide (1 ≤ nl ∧ nl ≤ 1048576)), (o + 12, decide (nb ≤ 65536)),
    (0x64, decide (secLen m 5 = up8 (16 + 8 * np + 12 * nl + 12 * nb)))] ++
    (List.range np).flatMap (fun i =>
      let a := o + 16 + 8 * i
      [(a, decide (1 ≤ imgB m a ∧ imgB m a ≤ 3)), (a + 1, zeros m (a + 1) (a + 4)), (a + 4, imgIs m (a + 4) pos)]) ++
    (List.range nl).flatMap (fun i =>
      let a := linksAt m + 12 * i
      [(a, refOk m (imgW m a)), (a + 4, refOk m (imgW m (a + 4)) && decide (refName (imgW m (a + 4)) ≠ refName (imgW m a))), (a + 8, imgIs m (a + 8) pos)]) ++
    (List.range nb).flatMap (fun i =>
      let a := bcsAt m + 12 * i
      [(a, decide (imgW m a < np)), (a + 4, decide (imgB m (a + 4) ≤ 2)), (a + 5, decide (imgB m (a + 5) ≤ 15)), (a + 6, zeros m (a + 6) (a + 8)),
       (a + 8, imgIs m (a + 8) pos)]) ++
    [(ends, zeros m ends (o + secLen m 5))] ++
    (List.range np).map (fun i =>
      let k := (uses (2 ^ 31 + i)).length
      (o + 16 + 8 * i, decide (k ≤ imgB m (o + 4)) && (decide (0 < k) || bcs.contains i))) ++
    cells.map (fun n => (0, decide (1 ≤ (uses n).length ∧ (uses n).length ≤ 4) && (uses n).any fun l => bitOf l.1 31 || bitOf l.2 31)))

/-- Offsets of the gain blocks of section 6, by class. -/
def gainStarts (m : List (Nat × Word)) : Nat → Nat → List Nat
  | 0, _ => []
  | fuel + 1, o => o :: gainStarts m fuel (o + 8 + 8 * imgH m (o + 2))

def gains (m : List (Nat × Word)) : List Nat := gainStarts m (nClass m) (secOfs m 6)

/-- R249. -/
def chkGain (m : List (Nat × Word)) : Option Nat :=
  let bs := gains m
  firstBad ((List.range bs.length).flatMap (fun c =>
    let o := bs.getD c 0
    [(o, decide (imgB m o = c)), (o + 1, zeros m (o + 1) (o + 2)), (o + 2, decide (imgH m (o + 2) ≤ 4096)), (o + 4, zeros m (o + 4) (o + 8))] ++
    (List.range (imgH m (o + 2))).flatMap fun i =>
      let a := o + 8 + 8 * i
      [(a, decide (imgH m a < imgH m (classAt m c))), (a + 2, decide (imgB m (a + 2) ≤ 1)), (a + 3, decide (imgB m (a + 3) ≤ 1)),
       (a + 4, imgIs m (a + 4) fun _ => true)]) ++
    [(0x6C, decide ((bs.map fun o => 8 + 8 * imgH m (o + 2)).sum = secLen m 6))])

/-- Sweep definitions and register entries of section 7 (R250). -/
def nSweep (m : List (Nat × Word)) : Nat := imgB m (secOfs m 7 + 2)
def sweepAt (m : List (Nat × Word)) (i : Nat) : Nat := secOfs m 7 + 8 + 96 * i
def nEntry (m : List (Nat × Word)) : Nat := imgH m (secOfs m 7)
def entryAt (m : List (Nat × Word)) (i : Nat) : Nat := secOfs m 7 + 8 + 96 * nSweep m + 8 * i

/-- The cells a sweep definition selects among the present ones. -/
def sweepCells (m : List (Nat × Word)) (cells : List Nat) (i : Nat) : List Nat :=
  cells.filter fun c => bitOf (imgW m (sweepAt m i + 4 + 4 * ((c - 1) / 32))) ((c - 1) % 32)

/-- A field of the definition's IMP_DEF word. -/
def sweepField (m : List (Nat × Word)) (i : Nat) (f : Fld) : Nat := bitsOf (imgW m (sweepAt m i)) f.lo f.len

/-- R250; the reserved bits of a definition's first word are those of IMP_DEF (R198, R236). -/
def chkPolicy (m : List (Nat × Word)) (cells : List Nat) : Option Nat :=
  let o := secOfs m 7
  firstBad ([(o, decide (nEntry m ≤ 512)), (o + 2, decide (nSweep m ≤ 4)), (o + 3, zeros m (o + 3) (o + 8)),
    (0x74, decide (secLen m 7 = 8 + 96 * nSweep m + 8 * nEntry m))] ++
    (List.range (nSweep m)).flatMap (fun i =>
      let a := sweepAt m i
      let n := sweepField m i (F.IMP_DEF_NPTS 0)
      [(a, decide (imgW m a &&& 0x3F00E0FF = 0)), (a, decide (sweepField m i (F.IMP_DEF_SRC 0) ≠ 3 ∧ 1 ≤ n ∧ n ≤ 16 ∧ 4 ≤ sweepField m i (F.IMP_DEF_N_CYC 0))),
       (a + 4, !(sweepCells m cells i).isEmpty)] ++
      (List.range (min 16 n)).map (fun k => (a + 28 + 4 * k, decide (50 ≤ imgW m (a + 28 + 4 * k) ∧ imgW m (a + 28 + 4 * k) ≤ 5000000))) ++
      [(a + 92, zeros m (a + 92) (a + 96))]) ++
    (List.range (nEntry m)).map (fun i =>
      let w := imgW m (entryAt m i)
      (entryAt m i, decide (0x20008 ≤ w ∧ w ≤ 0x20024 ∧ w % 4 = 0))))

/-- Checks 11 and 15 to 17, which a swap repeats (R257): the failing code and offset. -/
def chkNodes (m : List (Nat × Word)) (cells : List Nat) : Option Nat :=
  firstBad [(0x18, decide (imgNodes m cells ≤ 5242880 ∧ imgNodes m cells = imgW m 0x18))]

def chkSize (m : List (Nat × Word)) (cells : List Nat) : Option Nat :=
  firstBad [(0x14, decide (imgW m 0x14 = copySize m cells ∧ copySize m cells ≤ 25165824))]

def chkFit (m : List (Nat × Word)) (cells : List Nat) (ms : Nat) : Option Nat :=
  firstBad [(0, fits (imgNodes m cells) (imgCost m cells) (copySize m cells) ms)]

/-- The first of some checks that fails: its code and offset. -/
def firstFail : List (Nat × Option Nat) → Option (Nat × Nat)
  | [] => none
  | (code, some o) :: _ => some (code, o)
  | (_, none) :: l => firstFail l

/-- R254: the seventeen checks in order. `key`: the stored service key; `sigReq`: SIG_REQ. The signature at 0x80 to 0xBF is over bytes 0x00 to 0x7F, then 0xC0 to LEN - 1
(R238). -/
def imgVerdict (m : List (Nat × Word)) (cells : List Nat) (ms : Nat) (key : Option (List Nat)) (sigReq : Bool) : Option (Nat × Nat) :=
  let len := imgLen m
  let signed := imgSignedFlag m
  let sigOk := match key with
    | some k => ecdsaVerify k (imgBytes m 0 0x80 ++ imgBytes m 0xC0 len) (imgBytes m 0x80 0xC0)
    | none => false
  firstFail [
    (0x01, firstBad [(0x08, decide (512 ≤ len ∧ len ≤ 16777216 ∧ len % 8 = 0))]),
    (0x02, chkFormat m),
    (0x03, chkCrc m),
    (0x05, firstBad [(0, !signed || key.isSome)]),
    (0x04, firstBad [(0x80, !signed || sigOk)]),
    (0x06, firstBad [(0x06, signed || !sigReq)]),
    (0x07, chkLayout m),
    (0x08, chkClass m),
    (0x09, chkTemplate m),
    (0x0A, chkTable m),
    (0x0B, chkMap m cells),
    (0x0C, chkPack m cells),
    (0x0D, chkGain m),
    (0x0E, chkPolicy m cells),
    (0x0F, chkNodes m cells),
    (0x10, chkSize m cells),
    (0x11, chkFit m cells ms)]

/-- R257: the checks a swap request repeats. -/
def imgRecheck (m : List (Nat × Word)) (cells : List Nat) (ms : Nat) : Option (Nat × Nat) :=
  firstFail [(0x0B, chkMap m cells), (0x0F, chkNodes m cells), (0x10, chkSize m cells), (0x11, chkFit m cells ms)]

/-! Lookup (R245). -/

/-- The word of a cell's parameter copy at an image offset: the cell's own where adaptation or the build put one (R252), else the image's. -/
def cellW (m own : List (Nat × Word)) (o : Nat) : Nat := (mapGet (fun i => mapGet (fun _ => (0 : Word)) m i) own (o / 4)).toNat

/-- The word at byte offset `a` of a built copy (R252), `own` the words of each cell that are its own. The format of the copy header (table directory, CRC) and of a cell block
is not stated: their words are free (log entry 12). -/
def copyW (m : List (Nat × Word)) (cells : List Nat) (own : List (Nat × List (Nat × Word))) (a : Nat) : Option Nat :=
  match partAt m (copyParts m cells) a with
  | none => none
  | some (.shared o, k) => some (imgW m (o + k))
  | some (.own n o, k) => some (cellW m (mapGet (fun _ => []) own n) (o + k))
  | some (.header, k) => some (Config.unstated 39 [0, k] % 2 ^ 32)
  | some (.block n, k) => some (Config.unstated 39 [n, k] % 2 ^ 32)

/-- The breakpoints that enclose `x` on an axis of `n` numbers, and the weight of the upper one; inputs are clamped to the ends. -/
def bracket (axis : Nat → Rat) (n : Nat) (x : Rat) : Nat × Nat × Rat :=
  match (List.range n).find? fun i => decide (x ≤ axis i) with
  | none => (n - 1, n - 1, 0)
  | some 0 => (0, 0, 0)
  | some i => (i - 1, i, (x - axis (i - 1)) / (axis i - axis (i - 1)))

/-- Two values mixed, or their logarithms (R245). -/
def mix (log : Bool) (a b w : Rat) : Rat := if w = 0 then a else if log then geoMix a b w else a + (b - a) * w

/-- R245: the table at `o` at first-axis value `z` (%) and temperature `t` (°C), read from a cell's parameter copy. -/
def lookup (m own : List (Nat × Word)) (o : Nat) (z t : Rat) : Rat :=
  let nz := tabNZ m o
  let nt := tabNT m o
  let ax := fun i => imgF m (o + 32 + 4 * i)
  let (z0, z1, wz) := bracket ax nz z
  let (t0, t1, wt) := bracket (fun i => ax (nz + i)) nt t
  let (t0, t1, wt) := if tabFlag m o 2 then (if 2 * wt ≤ 1 then (t0, t0, 0) else (t1, t1, 0)) else (t0, t1, wt)
  let v := fun iz it => (f32 (cellW m own (tabVal m o (it * nz + iz)))).getD 0
  mix (tabFlag m o 1) (mix (tabFlag m o 1) (v z0 t0) (v z1 t0) wz) (mix (tabFlag m o 1) (v z0 t1) (v z1 t1) wz) wt

/-- Parameter `p` of a cell of class `c` at `z` and `t`; 0 where the image holds no such table. -/
def param (m own : List (Nat × Word)) (c p : Nat) (z t : Rat) : Rat :=
  match tableOf m c p with
  | some o => lookup m own o z t
  | none => 0

end Sys2Proof.Machine
end

