-- ==== Sys2Proof/Machine/Records.lean ====
section
/-! DEFINITION. Records and where they are placed: header words (R14), stream rings with spill and drops (R406 to R410), SPI result FIFOs
(R425 to R431), capture rings (R436 to R443), the RES and EST windows (R496, R499), SL_SUMMARY and the EMIT order of R407. -/

namespace Sys2Proof.Machine

/-- LEN of a record in words, header included. -/
def recLen (r : Rec) : Nat := r.payload.length + 2

/-- Header word 0 (R14). -/
def recHead (r : Rec) : Word :=
  w32 (r.typ % 256 * 2 ^ 24 + r.node % 32 * 2 ^ 19 + nat01 r.spilled * 2 ^ 18 + nat01 r.rerouted * 2 ^ 17 + nat01 r.loss * 2 ^ 16
    + recLen r % 2 ^ 16)

/-- Every word of a record: header word 0, header word 1 (R15), payload. -/
def recWords (r : Rec) : List Word := recHead r :: w32 r.frame :: r.payload

/-! SL_SUMMARY (R477) and the level rules of the Sluice (R461, R466 to R469). -/

/-- SL_CFG in force of slot `i` (R461: writes take effect at the next frame tick). -/
def slCfg (b : Block) (i : Nat) : Nat := (mapGet (fun i => w32 (slCfgReset i)) b.sl.cfg i).toNat

/-- Severity in force of slot `i`. -/
def slSev (b : Block) (i : Nat) : Nat := bitsOf (slCfg b i) 8 2

/-- Bit `k` of slot `i`'s mask in force: 0 INT, 1 NMT, 2 BLK, 3 CHIP, 4 PIN. -/
def slMask (b : Block) (i k : Nat) : Bool := bitOf (slCfg b i) k

/-- Bit `i` of a bit array of sixteen registers from `base` (R477). -/
def arrBit (b : Block) (base i : Nat) : Bool := bitOf (getR b (base + 4 * (i / 32))).toNat (i % 32)

/-- Bit `i` of a bit array written. -/
def putArrBit (base i : Nat) (on : Bool) (b : Block) : Block :=
  let a := base + 4 * (i / 32)
  setR a (w32 (setBitsOf (getR b a).toNat (i % 32) 1 (nat01 on))) b

/-- Source `i` is sticky. -/
def sticky (b : Block) (i : Nat) : Bool := arrBit b (R.SL_STICKY 0) i

/-- Uncleared sources (R458): sticky, or hidden until the next tick by a refused clear (R471). -/
def uncleared (b : Block) : List Nat :=
  (((List.range 16).filter fun w => getR b (R.SL_STICKY w) != 0).flatMap fun w =>
    ((List.range 32).map (32 * w + ·)).filter (sticky b)) ++ b.sl.refused.filter (fun i => !sticky b i)

/-- The device is in the safe state, or in the entry to PARK from it. -/
def inSafe (b : Block) : Bool := decide (b.pwr.state = .safe) || (decide (b.pwr.state = .park) && b.pwr.parking && decide (b.pwr.prev = .safe))

/-- R468: FAULT_N is held low. -/
def faultLow (b : Block) : Bool :=
  (uncleared b).any (fun i => slMask b i 4) || inSafe b || !isF b F.SL_STATUS_EVALUATED || b.sl.wdExpired || b.pwr.resetHold

/-- R469: a condition that stops the HBT wave holds. -/
def hbtStop (b : Block) : Bool := (uncleared b).any (fun i => slSev b i == 3 && slMask b i 1) || b.sl.wdExpired

/-- R466: the safe state is held, for the purpose of R87. -/
def safeHeld (b : Block) : Bool := b.pins.safeIn || (uncleared b).any (fun i => slMask b i 1)

/-- HBT carries the square wave. -/
def hbtWave (b : Block) : Bool := b.sl.hbt && !hbtStop b && framesRun b

/-- The level at the HBT land (R469). -/
def hbtPin (b : Block) : Bool := hbtWave b && decide (frame b % 20 < 10)

/-- INT_N is asserted (R431). -/
def intLow (b : Block) : Bool := b.pins.bootsel != 1 && (getR b R.SPI_INT_STATUS &&& getR b R.SPI_INT_EN &&& 0xCF) != 0

/-- The LV signal lands of the boundary scan, in the order of R49, with what the block shows or holds of their levels: FAULT_N, HBT, SAFE_IN, WAKE_IN, RESET_N, BOOTSEL0,
BOOTSEL1, SCK, CS_N, SDI, SDO, INT_N, XI, XO, the Causeway, radio and PCIe lands, PERST_N, CLKREQ_N, WAKE_N. -/
def landLevels (b : Block) : List (Option Bool) :=
  [some (!faultLow b), some (hbtPin b), some b.pins.safeIn, none, some (!b.pwr.resetHold), some (bitOf b.pins.bootsel 0), some (bitOf b.pins.bootsel 1),
    none, none, none, none, some (!intLow b)] ++ List.replicate 17 none ++ [some b.pins.perstN, none, some (!b.pins.wakeNLow)]

/-- The block drives LV signal land `i`, counted from 0 (R50). -/
def landDriven (i : Nat) : Bool := decide (i ≤ 1 ∨ i = 10 ∨ i = 11 ∨ (14 ≤ i ∧ i ≤ 22) ∨ i = 30 ∨ i = 31)

/-- The level at LV signal land `i`, with what boundary scan drives at the lands the block drives (R53); `v` gives the levels the block does not hold. -/
def landLevel (b : Block) (v i : Nat) : Bool :=
  let own := ((landLevels b).getD i none).getD (bitOf v i)
  match b.pins.extest with
  | some ls => if landDriven i then ls.getD i false else own
  | none => own

/-- The highest uncleared severity + 1; 0 means none (R366). -/
def sevPlus (b : Block) : Nat := (uncleared b).foldl (fun m i => max m (slSev b i + 1)) 0

/-- SL_SUMMARY (R477). -/
def slSummary (b : Block) : Nat :=
  let u := uncleared b
  let sevs := [0, 1, 2, 3].foldl (fun n s => n + nat01 (u.any fun i => slSev b i == s) * 2 ^ s) 0
  nat01 (faultLow b) * 2 ^ 31 + nat01 (hbtWave b) * 2 ^ 30 + nat01 (inSafe b) * 2 ^ 29 + u.length % 1024 * 2 ^ 16 + sevs * 2 ^ 4
    + nat01 (!u.isEmpty) * 2 ^ 3 + (sevPlus b - 1)

/-- R305: the tiers under forced bleed-off: all of them in the safe state, else those with an uncleared tier-indexed source of severity S3. -/
def forcedTiers (b : Block) : List Nat :=
  if inSafe b then List.range 16
  else (List.range 16).filter fun t => (uncleared b).any fun i => slotTier i == some t && slSev b i == 3

/-! Stream rings. -/

/-- Both pages are enabled (R392): an enabled ring otherwise holds idle. -/
def pagesOn (b : Block) : Bool := b.hst.dbEn && b.hst.spEn

/-- Ring size in bytes of stream `s` (R417). -/
def srSize (b : Block) (s : Nat) : Nat := 65536 * 2 ^ min 10 (getF b (F.HST_SR_CTL_SIZE s))

/-- R408: free space of stream `s`; a bad offset or suspended DMA makes it act full (R395, R414). -/
def srFree (b : Block) (s : Nat) : Nat :=
  if isF b (F.HST_SR_STATUS_BAD_RD s) || dmaOff b then 0
  else let n := srSize b s
    ((srOf b s).rd + n - 4 + n - getF b (F.HST_SR_STATUS_WR s)) % n

/-- Words written into stream `s` from SR_WR on, continuing at offset 0 at the ring's end; SR_WR moves past them. -/
def srPut (s : Nat) (ws : List Word) (b : Block) : Block :=
  let n := srSize b s
  let wr := getF b (F.HST_SR_STATUS_WR s)
  let room := (n - wr) / 4
  let base := (srOf b s).base
  let b := emitOut (.dma (base + wr) (ws.take room)) b
  let b := if room < ws.length then emitOut (.dma base (ws.drop room)) b else b
  setF (F.HST_SR_STATUS_WR s) ((wr + 4 * ws.length) % n) b

/-- R408: the words a record needs in stream `s`, PAD included under WRAP = 1, and whether a PAD comes first. -/
def srNeed (b : Block) (s len : Nat) : Nat × Bool :=
  let r := (srSize b s - getF b (F.HST_SR_STATUS_WR s)) / 4
  if isF b (F.HST_SR_CTL_WRAP s) then (if len ≤ r ∧ r - len ≠ 1 then (len, false) else (r + len, true)) else (len, false)

/-- Whether the record fits the free space of stream `s`. -/
def srFits (b : Block) (s : Nat) (r : Rec) : Bool := decide (4 * (srNeed b s (recLen r)).1 ≤ srFree b s)

/-- A PAD record of `len` words (R18). The spec gives its NODE and flags no meaning and its payload no content: all are free, drawn once (log entry 2). -/
def padWords (len v : Nat) : List Word :=
  recHead ⟨0x0F, v / 8 % 32, bitOf v 0, bitOf v 1, bitOf v 2, 0, 0, List.replicate (len - 2) 0⟩ :: List.replicate (len - 1) (w32 v)

/-- The record placed in stream `s`'s ring, after a PAD record where R408 asks for one. -/
def srPlace (s : Nat) (r : Rec) (b : Block) : Block :=
  let (_, pad) := srNeed b s (recLen r)
  let b := if pad then
      let got := fresh b
      let v := got.1
      let b := got.2
      srPut s (padWords ((srSize b s - getF b (F.HST_SR_STATUS_WR s)) / 4) v) b
    else b
  let b := srPut s (recWords r) b
  let b := count 0x48 1 {} b
  pendVec (getF b (F.HST_SR_CTL_VEC s)) (putF (F.HST_SR_STATUS_BLOCKED s) false b)

/-- Bytes in spill of stream `s`. -/
def spillBytes (b : Block) (s : Nat) : Nat := ((srOf b s).spill.map fun r => 4 * recLen r).sum

/-- Spill in use over all streams, in 64 KiB units rounded up. -/
def spillUsed (b : Block) : Nat := ((List.range 32).map fun s => (spillBytes b s + 65535) / 65536).sum

/-- R410: a record of stream `s` dropped whole. -/
def srDrop (s n : Nat) (b : Block) : Block :=
  if n = 0 then b else
  let b := addF (⟨R.HST_DROP s, 0, 32⟩) n b
  let b := putSr s { srOf b s with loss := true, dropped := true } b
  let b := { b with hst := { b.hst with dropTotal := min (2 ^ 32 - 1) (b.hst.dropTotal + n) } }
  pendVec (getF b (F.HST_SR_CTL_VEC s)) (count 0x49 n {} (pulse Slot.hstDrop (2 ^ s) b))

/-- The memory die is under test or failed (R446, R488): nothing is captured, spilled or staged. -/
def memOut (b : Block) : Bool :=
  isF b F.BIST_FAILED_MEM || (match b.bist.host with
    | some r => r.target == 0x12
    | none => false)

/-- R409, R410: one record for stream `s`: into the ring if it fits and nothing is spilled, else into spill within the quota, else dropped. -/
def srOffer (s : Nat) (r : Rec) (b : Block) : Block :=
  let x := srOf b s
  let r := { r with loss := r.loss || x.loss }
  if x.spill.isEmpty && srFits b s r then srPlace s r (putSr s { x with loss := false } b)
  else
    let b := putF (F.HST_SR_STATUS_BLOCKED s) (!srFits b s r) b
    if 4 * recLen r ≤ getF b (F.HST_SR_QUOTA_QUOTA s) * 65536 - spillBytes b s ∧ !memOut b then
      count 0x4A 1 {} (putSr s { x with spill := x.spill ++ [{ r with spilled := true }], loss := false } b)
    else srDrop s 1 b

/-- R409: the drain of stream `s`: whole records move from spill while fewer than 1,536 bytes have moved in this frame. Answers bytes moved. -/
def srDrain (s : Nat) : Nat → Nat → Block → Nat × Block
  | 0, moved, b => (moved, b)
  | fuel + 1, moved, b =>
    match (srOf b s).spill with
    | [] => (moved, b)
    | r :: rest =>
      if moved < 1536 && srFits b s r then
        srDrain s fuel (moved + 4 * recLen r) (srPlace s r (putSr s { srOf b s with spill := rest } b))
      else (moved, b)

/-- R406: the TYPES bit of a record type. -/
def typeBit : Nat → Option Nat
  | 0x01 => some 0
  | 0x03 => some 1
  | 0x04 => some 2
  | 0x05 => some 3
  | 0x06 => some 4
  | 0x07 => some 5
  | _ => none

/-- Frames per output of a RATE code (R150). -/
def rateK (rate : Nat) : Nat := [1, 2, 4, 10, 20, 40, 200, 400, 2000].getD rate 20

/-- k of the active set. -/
def activeK (b : Block) : Nat := rateK (actF b F.FLT_CTL_RATE)

/-- k of the set that produced a FRAME record: its RATE in status word B (R175). -/
def recK (r : Rec) : Nat := rateK ((r.payload.getD 195 0).toNat / 2 ^ 28)

/-- R406: stream `s` takes the record. -/
def srTakes (b : Block) (s : Nat) (r : Rec) : Bool :=
  let x := srOf b s
  x.en && (match typeBit r.typ with
    | some t => bitOf x.types t
    | none => false) && (r.typ != 0x01 || ((r.frame + 1) / recK r) % (x.decim + 1) == 0)

/-! SPI result FIFOs. -/

/-- Depth of FIFO `f` in words (R425). -/
def fifoDepth (f : Nat) : Nat := [16384, 8192, 2048, 8192].getD f 0

/-- The SPI target is active (R418, R52). -/
def spiActive (b : Block) : Bool := b.pins.bootsel != 1

/-- The PCIe endpoint is active (R384, R52). -/
def pcieActive (b : Block) : Bool := b.pins.bootsel == 1 || b.pins.bootsel == 2

/-- D of R426 for outputs of `k` frames. -/
def decimOf (b : Block) (f k : Nat) : Nat :=
  if f = 0 then max (getF b (F.SPI_FIFO_CTL_DECIM 0)) ((20 + k - 1) / k - 1)
  else if f = 3 then getF b (F.SPI_FIFO_CTL_DECIM 3) else 0

/-- DECIM_ACT (R426, R435): D for the active set's k. -/
def decimAct (b : Block) (f : Nat) : Nat := decimOf b f (activeK b)

/-- R425, R426: FIFO `f` takes the record; a FRAME record counts by the k of the set that produced it. -/
def fifoTakes (b : Block) (f : Nat) (r : Rec) : Bool :=
  spiActive b && isF b (F.SPI_FIFO_CTL_EN f) && (match f with
    | 0 => (r.typ == 0x01 && ((r.frame + 1) / recK r) % (decimOf b 0 (recK r) + 1) == 0) || (r.typ == 0x03 && isF b (F.SPI_FIFO_CTL_ALT_EN 0))
    | 1 => r.typ == 0x05 || (r.typ == 0x04 && isF b (F.SPI_FIFO_CTL_ALT_EN 1))
    | 2 => r.typ == 0x06
    | _ => r.typ == 0x07 && (r.frame % 2 ^ 32 / 20) % (decimOf b 3 1 + 1) == 0)

/-- Effective LEVEL of FIFO `f` (R435): 0 acts as 1, values above the depth as the depth. -/
def fifoLevel (b : Block) (f : Nat) : Nat := min (fifoDepth f) (max 1 (getF b (F.SPI_FIFO_CTL_LEVEL f)))

/-- R431: in LEVEL mode LVL[f] sets when WORD_CNT crosses LEVEL upwards. -/
def fifoCross (f before : Nat) (b : Block) : Block :=
  let l := fifoLevel b f
  when (!isF b (F.SPI_FIFO_CTL_MODE f) && decide (before < l ∧ l ≤ (fifoOf b f).words.length))
    (setF ⟨R.SPI_INT_STATUS, f, 1⟩ 1) b

/-- The words of a record with the end mark on the last (R428). -/
def markWords : List Word → List (Word × Bool)
  | [] => []
  | [w] => [(w, true)]
  | w :: ws => (w, false) :: markWords ws

/-- R427: the record is admitted to FIFO `f` if LEN words are free, else dropped whole. -/
def fifoOffer (f : Nat) (r : Rec) (b : Block) : Block :=
  let x := fifoOf b f
  if x.words.length + recLen r ≤ fifoDepth f then
    let ws := markWords (recWords { r with spilled := false, loss := r.loss || x.loss })
    fifoCross f x.words.length (count 0x50 1 {} (putFifo f { x with words := x.words ++ ws, loss := false } b))
  else
    let b := putFifo f { x with loss := true } b
    count 0x51 1 {} (pulse Slot.spiDrop (2 ^ f) (setF F.SPI_STATUS_DROP 1 (addF (F.SPI_FIFO_DROP_DROPPED f) 1 b)))

/-! Capture rings. -/

/-- Units of 64 KiB of a ring whose SIZE field is `n` (R437). -/
def sizeUnits (n : Nat) : Nat := 2 ^ min 10 n

/-- Ring size in bytes as CAP_GEOM[r] sets it (R437). -/
def capSize (b : Block) (r : Nat) : Nat := 65536 * sizeUnits (getF b (F.CAP_GEOM_SIZE r))

/-- Size in bytes of a ring as it was enabled. -/
def ringSize (x : CapRing) : Nat := 65536 * x.units

/-- R439: the TYPES bit of a record type in a capture ring. -/
def capBit : Nat → Option Nat
  | 0x02 => some 0
  | 0x01 => some 1
  | 0x03 => some 2
  | 0x06 => some 3
  | _ => none

/-- R443: a lost mark. -/
def capLoseMark (r : Nat) (b : Block) : Block :=
  pulse Slot.capMarkLost (2 ^ r) (setF (F.CAP_RSTAT_MARK_LOST r) 1 (setF (F.CAP_RSTAT_MARK_VALID r) 0 b))

/-- Where in the capture area the `n` bytes from position `p` of a ring lie (R438): one run of addresses, or two where they cross the ring's end. -/
def capArea (x : CapRing) (p n : Nat) : List (Nat × Nat) :=
  let lo := p % ringSize x
  let at_ := 65536 * x.base
  let m := min n (ringSize x - lo)
  (at_ + lo, at_ + lo + m) :: (if m < n then [(at_, at_ + (n - m))] else [])

/-- Two lists of runs of addresses meet. -/
def capMeet (xs ys : List (Nat × Nat)) : Bool := xs.any fun x => ys.any fun y => decide (x.1 < y.2 ∧ y.1 < x.2)

/-- Bytes of the capture area are overwritten (R438): of ring `o`, no longer enabled, only the records after the last one that loses bytes are left. -/
def capOverlay (area : List (Nat × Nat)) (o : Nat) (b : Block) : Block :=
  let x := ringOf b o
  if x.en || x.recs.isEmpty then b else
  let hit := fun (c : CapRec) => capMeet area (capArea x c.pos (4 * c.words.length))
  if !x.recs.any hit then b else
  let kept := (x.recs.reverse.takeWhile fun c => !hit c).reverse
  let wr := (getR b (R.CAP_WR o)).toNat
  setR (R.CAP_OLDEST o) (w32 (match kept with
    | c :: _ => c.pos
    | [] => wr)) (putRing o { x with recs := kept } b)

/-- R438, R443: the record enters ring `r`, or is dropped because it would overtake a kept mark. -/
def capOffer (r : Nat) (rc : Rec) (b : Block) : Block :=
  let x := ringOf b r
  let wr := (getR b (R.CAP_WR r)).toNat
  let size := ringSize x
  let beyond := isF b (F.CAP_RSTAT_MARK_VALID r) && decide (size < (wr + 4 * recLen rc + 2 ^ 32 - (getR b (R.CAP_MARK r)).toNat) % 2 ^ 32)
  if beyond && isF b (F.CAP_CTL_KEEP r) then
    let b := putRing r { x with loss := true, need := recLen rc } b
    count 0x59 1 {} (levelBit Slot.capStall r true (setF (F.CAP_RSTAT_STALL r) 1 (addF (⟨R.CAP_DROP r, 0, 32⟩) 1 b)))
  else
    let b := when beyond (capLoseMark r) b
    let wr' := (wr + 4 * recLen rc) % 2 ^ 32
    let kept := x.recs.filter fun c => decide ((wr' + 2 ^ 32 - c.pos) % 2 ^ 32 ≤ size)
    let one : CapRec := ⟨wr, rc.dev, recWords { rc with spilled := false, loss := rc.loss || x.loss }⟩
    let recs := kept ++ [one]
    let b := putRing r { x with recs := recs, loss := false } b
    let b := setR (R.CAP_OLDEST r) (w32 ((recs.headD one).pos)) (setR (R.CAP_WR r) (w32 wr') b)
    count 0x58 1 {} (each ((List.range 8).filter (· != r)) (capOverlay (capArea x wr (4 * recLen rc))) b)

/-- STATE of ring `r`: 0 disabled, 1 ARMED or continuous, 2 POST, 3 DONE. -/
def capState (b : Block) (r : Nat) : Nat := getF b (F.CAP_RSTAT_STATE r)

/-- R439, R440: ring `r` receives the record. -/
def capTakes (b : Block) (r : Nat) (rc : Rec) : Bool :=
  let x := ringOf b r
  x.en && (match capBit rc.typ with
    | some t => bitOf x.types t
    | none => false) && decide (x.from_ ≤ rc.dev) &&
    (match capState b r with
     | 1 => true
     | 2 => x.trig.all fun t => decide (rc.dev ≤ t + getF b (F.CAP_WIN_POST r))
     | _ => false)

/-- R111, R112: the linear range of a channel in codes: cells −0.8 V to 6.2 V, current channels ±80 mV. -/
def inRange (ch : Nat) (code : Int) : Bool :=
  if ch < 192 then decide (-800000 ≤ code ∧ code ≤ 6200000) else decide (-8000000 ≤ code ∧ code ≤ 8000000)

/-- The 24-bit code of a raw sample, the sentinel of R158 when it is out of range. -/
def rawCode (ch : Nat) (code : Int) : Nat :=
  if inRange ch code then unsigned 24 code else if 0 < code then 0x7FFFFF else 0x800000

/-- R436: the RAW record of one frame for the channels `sel`. -/
def rawRec (b : Block) (sel : List Word) (fr : RawFrame) : Rec :=
  let at_ := fun t => mapGet (fun _ => []) fr.samples t
  let chans := (List.range 194).filter fun c =>
    bitOf (sel.getD (c / 32) 0).toNat (c % 32) && (decide (192 ≤ c) || present b (c + 1))
  let avail := (List.range 16).foldl (fun n t => n + nat01 (!(at_ t).isEmpty) * 2 ^ (16 + t)) 0
  let sel := (List.range 7).map fun w => w32 (chans.foldl (fun n c => if c / 32 = w then n + 2 ^ (c % 32) else n) 0)
  let body := chans.flatMap fun c =>
    let xs := if c < 192 then (at_ (c / 12)).getD (c % 12) [] else (at_ 0).getD (12 + (c - 192)) []
    let v := (List.range 8).foldl (fun n j => n + (if xs.isEmpty then 0 else rawCode c (xs.getD j 0)) * 2 ^ (24 * j)) 0
    (List.range 6).map fun i => w32 (v / 2 ^ (32 * i))
  { typ := 0x02, node := ownNode b, rerouted := fr.rerouted, frame := fr.frame, dev := fr.dev, payload := w32 (avail + chans.length) :: sel ++ body }

/-- A record that ring `r` takes: captured, or, under a memory-die test or failure, counted as dropped, which the next captured record shows (R14, R446). -/
def capGive (r : Nat) (rc : Rec) (b : Block) : Block :=
  if memOut b then count 0x59 1 {} (addF (⟨R.CAP_DROP r, 0, 32⟩) 1 (putRing r { ringOf b r with loss := true } b)) else capOffer r rc b

/-- A record offered to every capture ring that takes it, in ascending ring (R439). -/
def capAll (rc : Rec) (b : Block) : Block := each (List.range 8) (fun r b => if capTakes b r rc then capGive r rc b else b) b

/-- R439: the RAW record of a frame for each ring that takes one, at least one present channel selected. -/
def capRaw (fr : RawFrame) (b : Block) : Block :=
  each (List.range 8) (fun r b =>
    let rc := rawRec b (ringOf b r).chans fr
    if capTakes b r rc && decide (8 < rc.payload.length) then capGive r rc b else b) b

/-! Snapshot windows. -/

/-- A run of words written to consecutive registers. -/
def setWords : Nat → List Word → Block → Block
  | _, [], b => b
  | a, w :: ws, b => setWords (a + 4) ws (setR a w b)

/-- A 64-bit value in two registers, low half first (R432). -/
def setPair (a v : Nat) (b : Block) : Block := setR (a + 4) (w32 (v / 2 ^ 32)) (setR a (w32 v) b)

/-- The device timestamp of the tick of device frame `d`, low half first, at `a`: RES_TIME, RES_AUX_TIME and EST_TIME carry the module's own timestamp (R495, R496, R498). -/
def setStamp (a d : Nat) (b : Block) : Block := setPair a (d * 512 % 2 ^ 64) b

/-- R496, R497, R499: the record is written into its snapshot window, whose update count moves by 2. -/
def windows (r : Rec) (b : Block) : Block :=
  match r.typ with
  | 0x01 =>
    let got := stampNow b
    let v := got.1
    let b := got.2
    let b := setPair (R.RES_TIME 2) v (setStamp (R.RES_TIME 0) (r.dev + 1) (setWords (R.RES_FRAME 0) (recWords r) b))
    setR R.RES_FRAME_UPD (getR b R.RES_FRAME_UPD + 2) b
  | 0x03 =>
    let b := setStamp (R.RES_AUX_TIME 0) r.dev (setWords (R.RES_AUX 0) (recWords r) b)
    setR R.RES_AUX_UPD (getR b R.RES_AUX_UPD + 2) b
  | 0x05 =>
    let ws := recWords r
    let b := setWords (R.EST_REC 0) (ws ++ List.replicate (972 - ws.length) 0) b
    let b := each (span 1 192) (fun n => setWords (R.EST_CELL n 0) (List.replicate 5 0)) b
    let b := each (List.range ((ws.length - 12) / 5)) (fun e b =>
      let cell := (ws.getD (12 + 5 * e) 0).toNat / 2 ^ 24
      when (decide (1 ≤ cell ∧ cell ≤ 192)) (setWords (R.EST_CELL cell 0) ((ws.drop (12 + 5 * e)).take 5)) b) b
    let b := setStamp (R.EST_TIME 0) (r.dev + 1) b
    setR R.EST_UPD (getR b R.EST_UPD + 2) b
  | _ => b

/-! EMIT (R27, R30, R407, R439, R476). -/

/-- The EVENT record of an event, with SL_SUMMARY at its placement (R474). -/
def eventRec (b : Block) (e : EventRec) : Rec :=
  { typ := 0x06, node := ownNode b, frame := e.frame, dev := e.dev,
    payload := [w32 (e.code * 2 ^ 24 + e.sub % 256 * 2 ^ 16 + e.index % 2 ^ 16), w32 e.v0, w32 e.v1, w32 (slSummary b)] }

/-- A record as it is placed now: an EVENT record shows SL_SUMMARY at its placement, whenever that is (R474). -/
def placedNow (b : Block) (r : Rec) : Rec := if r.typ = 0x06 then { r with payload := r.payload.set 3 (w32 (slSummary b)) } else r

/-- The order of R407 among new records: ascending TYPE, CHAIN records in ascending NODE. -/
def recBefore (x y : Rec) : Bool := decide (x.typ < y.typ) || (x.typ == y.typ && decide (x.node ≤ y.node))

/-- Insertion in an order, after equals. -/
def insertBy {α : Type} (le : α → α → Bool) (x : α) : List α → List α
  | [] => [x]
  | y :: ys => if le y x then y :: insertBy le x ys else x :: y :: ys

/-- Stable sort by an order. -/
def sortBy {α : Type} (le : α → α → Bool) (l : List α) : List α := l.foldl (fun acc x => insertBy le x acc) []

/-- R476: events in ascending CODE and, within a code, ascending INDEX. -/
def eventBefore (x y : EventRec) : Bool := decide (x.code < y.code) || (x.code == y.code && decide (x.index ≤ y.index))

/-- Events of earlier frames: EMIT places the records of a frame in the frame after it (R27). -/
def eventsDue (b : Block) : List EventRec := b.sl.events.filter fun e => e.dev != devF b

/-- The work of the present frame's EMIT: what the last frame brought. -/
def emitWork (b : Block) : EmitWork := ⟨b.recs, eventsDue b⟩

/-- That work taken out. -/
def takeWork (b : Block) : Block :=
  { b with recs := [], sl := { b.sl with events := b.sl.events.filter fun e => e.dev == devF b } }

/-- A frame tick overtakes an EMIT that has not run: its work stays ahead of the next frame's (R30). -/
def emitOvertaken (b : Block) : Block :=
  let w := emitWork b
  if b.clock.emitAt = devF b + 1 || (w.recs.isEmpty && w.events.isEmpty) then b
  else let b := takeWork b; { b with clock := { b.clock with emitLate := b.clock.emitLate ++ [w] } }

/-- The EVENT records of the events `due`: at most EVT_MAX, the rest lost and counted; the first carries an owed LOSS_BEFORE (R476). The event of a
frame-number jump (R359) leads, and is one of them. -/
def takeEvents (due : List EventRec) (b : Block) : List Rec × Block :=
  let jump := due.filter (·.code == 0x16)
  let es := sortBy eventBefore (due.filter fun e => e.code != 0x16)
  let maxN := max 1 (getF b F.SL_CTL_EVT_MAX)
  let kept := es.take (maxN - jump.length)
  let lost := es.length - kept.length
  let rs := (jump ++ kept).map (eventRec b)
  let rs := match rs with
    | r :: rest => { r with loss := b.sl.evtLoss } :: rest
    | [] => []
  let b := { b with sl := { b.sl with evtLoss := if rs.isEmpty then b.sl.evtLoss else decide (0 < lost) } }
  (rs, addF F.SL_STATUS_EVT_LOST lost b)

/-- One record placed in every stream but for the carried and spilled ones before it, in every FIFO, and in its snapshot window. -/
def placeOne (r : Rec) (b : Block) : Block :=
  let b := each (List.range 4) (fun f b => when (fifoTakes b f r) (fifoOffer f r) b) b
  windows r (capAll r b)

/-- The records for stream `s`: carried over first, then the spill's drain, then the new ones (R407). Answers the bytes drained so far. -/
def streamEmit (s : Nat) (carried new : List Rec) (moved : Nat) (b : Block) : Nat × Block :=
  if !((srOf b s).en && pagesOn b) then (moved, b) else
  let b := each (carried.filter (srTakes b s)) (srOffer s) b
  let got := srDrain s (srOf b s).spill.length moved b
  let moved := got.1
  let b := got.2
  (moved, each (new.filter (srTakes b s)) (srOffer s) b)

/-- Streams `s` to 31 in ascending order, with one budget of drained bytes for the frame (R409). -/
def streamsEmit (carried new : List Rec) : List Nat → Nat → Block → Block
  | [], moved, b => { b with clock := { b.clock with drainAt := devF b + 1, drained := moved } }
  | s :: rest, moved, b =>
    let got := streamEmit s carried new moved b
    let moved := got.1
    let b := got.2
    streamsEmit carried new rest moved b

/-- R430: FLUSH takes effect at the frame tick, before EMIT. -/
def fifoFlush (f : Nat) (b : Block) : Block :=
  let x := fifoOf b f
  when x.flush (putFifo f { x with words := [], partly := false, flush := false }) b

/-- Bytes that spill has drained in this frame (R409). -/
def drainedNow (b : Block) : Nat := if b.clock.drainAt = devF b + 1 then b.clock.drained else 0

/-- The next CHAIN record that is placed carries the LOSS_BEFORE which a discarded one left (R375). -/
def markChain : List Rec → Block → List Rec × Block
  | [], b => ([], b)
  | r :: rs, b =>
    if !b.cw.lossOwed then (r :: rs, b)
    else if r.typ = 7 then ({ r with loss := true } :: rs, { b with cw := { b.cw with lossOwed := false } })
    else let got := markChain rs b; (r :: got.1, got.2)

/-- The EMIT stage over the records carried over and the records and events of its work; `n` of them are placed by 35.0 µs and the rest are
carried into the next frame (R30). -/
def emitRecords (n : Nat) (w : EmitWork) (b : Block) : Block :=
  let carried := b.carry
  let jumps := w.events.filter (·.code == 0x16)
  let got := takeEvents w.events b
  let evs := got.1
  let b := got.2
  let lead := evs.take jumps.length
  let new := sortBy recBefore (w.recs ++ evs.drop jumps.length)
  let all := lead ++ carried ++ new
  let got := markChain all b
  let all := got.1
  let b := got.2
  let now := (all.take n).map (placedNow b)
  let nc := (lead ++ carried).length
  let b := { b with carry := all.drop n }
  let b := streamsEmit (now.take nc) (now.drop nc) (List.range 32) (drainedNow b) b
  let due := fun (r : RawFrame) => decide (r.dev + 2 ≤ devF b) || jumped b
  let b := each (b.fe.rawQueue.filter due) capRaw b
  let b := { b with fe := { b.fe with rawQueue := b.fe.rawQueue.filter fun r => !due r } }
  each now placeOne b

/-- A record of the present frame's work, placed in EMIT. -/
def queueRec (r : Rec) (b : Block) : Block := { b with recs := b.recs ++ [r] }

end Sys2Proof.Machine
end

