-- ==== Sys2Proof/Machine/Sluice.lean ====
section
/-! DEFINITION. Sluice: detection, sticky and live bits, edge reactions, the safe state, clearing and injection (R453 to R477), and the
commands of its family but for SLUICE_EVAL and BLOCK_RESET. -/

namespace Sys2Proof.Machine

/-- R226: an adaptation rebuild in progress is abandoned and counted, and a pending adaptation swap is cancelled. Where the rebuild has finished and only its swap is
pending, the swap is cancelled and ABANDON does not count: R226 speaks of a rebuild alone (DESIGN CHOICE, log entry 41). -/
def abandonRebuild (b : Block) : Block :=
  let b := when (isF b F.FEN_STATUS_SWAP_PEND && !isF b F.FEN_STATUS_SWAP_SRC) (setF F.FEN_STATUS_SWAP_PEND 0) b
  when (isF b F.FEN_STATUS_REBUILD_BUSY) (fun b => setF F.FEN_STATUS_REBUILD_BUSY 0 (addF F.FEN_REBUILD_ABANDON 1 b)) b

/-- A change of power state (R85): PREV keeps the old one; leaving RUN abandons an adaptation rebuild (R226). -/
def setPower (p : PowerState) (b : Block) : Block :=
  if b.pwr.state = p then b else
  let b := when (decide (b.pwr.state = .run)) abandonRebuild b
  { b with pwr := { b.pwr with state := p, prev := b.pwr.state } }

/-- R441: a trigger for ring `r`, from the host or from a Sluice source. -/
def capTrigger (r : Nat) (slot : Option Nat) (b : Block) : Block :=
  let mark := fun b => match slot with
    | none => setF (F.CAP_RSTAT_CAUSE_HOST r) 1 b
    | some i =>
      let b := when (!isF b (F.CAP_RSTAT_CAUSE_SL r) || decide (i < getF b (F.CAP_RSTAT_TSLOT r))) (setF (F.CAP_RSTAT_TSLOT r) i) b
      setF (F.CAP_RSTAT_CAUSE_SL r) 1 b
  if !isF b (F.CAP_CTL_MODE r) then b
  else match capState b r with
    | 0 => b
    | 1 =>
      let b := putRing r { ringOf b r with trig := some (devF b) } b
      count 0x5A 1 {} (mark (setR (R.CAP_TRIG_FRAME r) (w32 (frame b)) (setF (F.CAP_RSTAT_STATE r) 2 b)))
    | st =>
      if st = 2 ∧ (ringOf b r).trig = some (devF b) then mark b
      else addF (F.CAP_RSTAT_EXTRA r) 1 b

/-- R441: source `i` at severity `sev` triggers the rings that watch for it; the capture sources trigger none. -/
def capSlTrigger (i sev : Nat) (b : Block) : Block :=
  if Slot.capStall ≤ i ∧ i ≤ Slot.capDone then b else
  each (List.range 8) (fun r b =>
    when (isF b (F.CAP_CTL_STRIG_EN r) && decide (getF b (F.CAP_CTL_SEV_MIN r) ≤ sev) && (isF b (F.CAP_CTL_ANY r) || getF b (F.CAP_CTL_SLOT r) == i))
      (capTrigger r (some i)) b) b

/-- R450: an NMT reaction stops the counters with FREEZE. -/
def freezeCounters (b : Block) : Block :=
  let hit := b.cap.counters.filter fun c => isF b (F.CNT_CFG_FREEZE c.1)
  let b := each (List.range 32) (fun i b => when (isF b (F.CNT_CFG_FREEZE i)) (setF (F.CNT_CFG_FROZEN i) 1) b) b
  let cs := b.cap.counters.map fun c => if hit.any (·.1 == c.1) then (c.1, { c.2 with frozen := true }) else c
  { b with cap := { b.cap with counters := cs } }

/-- R87, R467: entry to the safe state from RUN or STANDBY: one EVENT record and one vector 0 message. Forced bleed-off follows as a level rule. -/
def enterSafe (sub index : Nat) (b : Block) : Block :=
  match b.pwr.state with
  | .run | .standby => sendVec0 (event 0x04 sub index 0 0 (setPower .safe { b with pwr := { b.pwr with request := none } }))
  | _ => b

/-- The domain of slot `i` (R465). -/
def domainOf (i : Nat) : Option Domain :=
  match srcOf i with
  | none => none
  | some r => match r.dom with
    | .none => none
    | .feTier => some (.fe (i % 16))
    | .feTier0 => some (.fe 0)
    | .imp => some .imp
    | .fen => some .fen
    | .cw => some .cw
    | .hst => some .hst
    | .rl => some (.rl (i % 16))
    | .bw => some .bw
    | .radio => some .radio

/-- R465: the domain is under self-test, so a BLK of it is discarded. -/
def domainUnderTest (b : Block) (d : Domain) : Bool :=
  let on := fun t => (b.bist.host.any fun r => r.target == t) || (b.bist.rolling.any fun r => r.target == t)
  match d with
  | .fe t | .rl t => on t
  | .fen => on 0x10
  | .hst => on 0x11
  | _ => false

/-- Source `i`'s domain is being reset: it is not evaluated (R457). -/
def inBlockReset (b : Block) (i : Nat) : Bool :=
  match domainOf i with
  | none => false
  | some d => b.sl.blkRun.any fun x => decide (x.1 = d)

/-- What a source that becomes sticky sets besides its reactions: sticky bit, detail (R459), EVENT record (R475), journal entry (R285), counter
event (R447), capture triggers (R441). -/
def setSticky (i det : Nat) (b : Block) : Block :=
  let sev := slSev b i
  let b := setR (R.SL_DETAIL i) (getR b (R.SL_DETAIL i) ||| w32 det) (putArrBit (R.SL_STICKY 0) i true b)
  let b := event 0x01 sev i (getR b (R.SL_DETAIL i)).toNat (nat01 (arrBit b (R.SL_INJ_ACT 0) i) * 256 + slCfg b i % 32) b
  let b := when (decide (getF b F.LED_CTL_SEV_MIN ≤ sev)) (journal 0x04 sev i (frame b)) b
  capSlTrigger i sev (count (0x60 + sev) 1 { tier := slotTier i } b)

/-- R464: the edge reactions of the sources that became sticky at one moment: the union of their masks, applied once (R462, R463). -/
def react (new : List Nat) (b : Block) : Block :=
  let has := fun k => new.filter fun i => slMask b i k
  let crit := getF b F.HST_CTL_CRIT_SEV
  let b0 := b
  let b := when (!(has 0).isEmpty) (setF F.SPI_INT_STATUS_SL 1) b
  let b := when ((has 0).any fun i => decide (slSev b0 i < crit)) (fun b => pendVec (slVec b) b) b
  let b := when ((has 0).any fun i => decide (crit ≤ slSev b0 i)) sendVec0 b
  let b := when (!(has 1).isEmpty) (fun b => enterSafe 1 ((has 1).foldl min 511) (freezeCounters (count 0x65 1 {} b))) b
  if !(has 3).isEmpty then { b with sl := { b.sl with chipOwed := true } }
  else
    let ds := (has 2).filterMap domainOf
    each ds (fun d b =>
      if domainUnderTest b d || b.sl.blkRun.any (fun x => decide (x.1 = d)) then b
      else { b with sl := { b.sl with blkOwed := addOnce d b.sl.blkOwed } }) b

/-- HBT's wave stops as soon as a stop condition holds; it resumes only at a chain tick (R469). -/
def hbtFollow (b : Block) : Block := when (hbtStop b) (fun b => { b with sl := { b.sl with hbt := false } }) b

/-- At a chain tick the wave starts or goes on, unless a stop condition holds (R469). -/
def hbtStart (b : Block) : Block := when (frame b % 20 == 0 && framesRun b && !hbtStop b) (fun b => { b with sl := { b.sl with hbt := true } }) b

/-- Sources found at one moment with their details: those not yet sticky become sticky and react; the others only add detail (R459, R464). A source that stops HBT's
wave stops it at once, whoever found it (R469). -/
def detect (found : List (Nat × Nat)) (b : Block) : Block :=
  let found := found.filter fun x => (srcOf x.1).isSome
  let isNew := fun (x : Nat × Nat) => !sticky b x.1 && !b.sl.refused.contains x.1
  let new := found.filter isNew
  let old := found.filter fun x => !isNew x
  let b := each old (fun x b => setR (R.SL_DETAIL x.1) (getR b (R.SL_DETAIL x.1) ||| w32 x.2) b) b
  hbtFollow (react (new.map (·.1)) (each new (fun x b => setSticky x.1 x.2 b) b))

/-- A detector of kind H or T whose condition now holds (R456): live at once. -/
def detectNow (i det : Nat) (b : Block) : Block :=
  let c := condOf b i
  detect [(i, det)] (putArrBit (R.SL_LIVE 0) i true (putCond i { c with level := true, levelDet := c.levelDet ||| det } b))

/-- The condition of a kind-H or kind-T source ends: its live bit clears at once unless an injection holds it (R457, R473). -/
def endNow (i : Nat) (b : Block) : Block :=
  putArrBit (R.SL_LIVE 0) i (arrBit b (R.SL_INJ_ACT 0) i) (setLevel i false 0 b)

/-- A momentary kind-H occurrence, such as a nonvolatile-store write that failed its read-back (R455). -/
def detectOnce (i det : Nat) (b : Block) : Block := detect [(i, det)] b

/-- The conditions of kind F that are levels of other state (R31, R106, R414). -/
def refreshLevels (b : Block) : Block :=
  let b := setLevel Slot.frameOvr (getR b R.GEN_OVR_STATUS != 0) 0 b
  let b := setLevel Slot.cfgNone (isF b F.CFG_STATUS_NONE) 0 b
  let ringOn := b.hst.sq.any (·.2.en) || b.hst.cq.any (·.2.en) || b.hst.sr.any (·.2.en)
  let b := setLevel Slot.hstLink (dmaSuspended b && !b.hst.inReset && ringOn) 0 b
  setLevel Slot.spiCrc (decide (4 ≤ b.spi.crcFails)) 0 b

/-- Slots of kind F that an evaluation of the conditions `w` looks at: those with a condition, live, or injected, outside a reset of their domain (R457). -/
def evalSlots (w : List (Nat × SrcCond)) (b : Block) : List Nat :=
  let bits := fun base => ((List.range 16).filter fun w => getR b (base + 4 * w) != 0).flatMap fun w =>
    ((List.range 32).map (32 * w + ·)).filter (arrBit b base)
  let all := (w.map (·.1)) ++ (bits (R.SL_LIVE 0)) ++ (bits (R.SL_INJ_ACT 0))
  let all := sortBy (fun x y => decide (x ≤ y)) (all.foldl (fun l i => addOnce i l) [])
  all.filter fun i => match srcOf i with
    | some r => decide (r.kind = .frame) && !inBlockReset b i
    | none => false

/-- The work of one frame's evaluation (R30): the conditions of the sources as found for it. Their pulses are taken with it, but for those of a domain in reset, which is not
evaluated. -/
def takeConds (b : Block) : List (Nat × SrcCond) × Block :=
  let b := refreshLevels b
  let take := fun (x : Nat × SrcCond) => decide ((srcOf x.1).any fun r => r.kind = .frame) && !inBlockReset b x.1
  let w := b.sl.cond.filter take
  (w, each w (fun x => putCond x.1 { x.2 with pulse := false, pulseDet := 0 }) b)

/-- R456 to R458: one evaluation of the kind-F sources on the conditions `w`: live bits follow the conditions, and those that hold become sticky together. -/
def evaluateWork (w : List (Nat × SrcCond)) (b : Block) : Block :=
  let slots := evalSlots w b
  let cond := mapGet (fun _ => {}) w
  let holds := fun i => (cond i).level || (cond i).pulse || arrBit b (R.SL_INJ_ACT 0) i
  let found := (slots.filter holds).map fun i => (i, (cond i).levelDet ||| (cond i).pulseDet)
  detect found (each slots (fun i b => putArrBit (R.SL_LIVE 0) i ((cond i).level || (cond i).pulse || arrBit b (R.SL_INJ_ACT 0) i) b) b)

/-- The evaluation on the conditions of the present frame. -/
def evaluate (b : Block) : Block := let got := takeConds b; evaluateWork got.1 got.2

/-- A frame tick overtakes an evaluation that has not run: its conditions stay ahead of the next frame's (R30). -/
def evalPassed (b : Block) : Block :=
  let got := takeConds b
  { got.2 with sl := { got.2.sl with evalLate := got.2.sl.evalLate ++ [got.1] } }

/-- The evaluation that SLUICE_EVAL completes: that of the oldest frame whose evaluation has not run, else that of the present frame (R30). -/
def evaluateNext (b : Block) : Block :=
  match b.sl.evalLate with
  | w :: rest => evaluateWork w { b with sl := { b.sl with evalLate := rest } }
  | [] => evaluate { b with sl := { b.sl with evalAt := devF b + 1 } }

/-- SLUICE_EVAL (R27, R470): the evaluation, the watchdog's restart at its end, FAULT_N's hold after reset released (R51), and SL_SUMMARY as the
status page shows it (R396). -/
def sluiceEval (b : Block) : Block :=
  if !framesRun b || b.sl.wdExpired then b else
  let b := hbtFollow (evaluateNext b)
  let b := setF F.SL_STATUS_EVALUATED 1 { b with sl := { b.sl with wd := 0 } }
  { b with hst := { b.hst with summary := slSummary b } }

/-- R471: writing 1 to slot `i`'s sticky bit: cleared when its live bit is 0, refused otherwise. -/
def clearSticky (i : Nat) (b : Block) : Block :=
  if !sticky b i then b
  else if arrBit b (R.SL_LIVE 0) i then
    let b := putArrBit (R.SL_STICKY 0) i false { b with sl := { b.sl with refused := addOnce i b.sl.refused } }
    let b := count 0x64 1 {} (addF ⟨R.SL_CLR_CNT, 0, 32⟩ 1 b)
    event 0x03 (slSev b i) i (getR b R.SL_CLR_CNT).toNat 0 b
  else
    let det := (getR b (R.SL_DETAIL i)).toNat
    let b := setR (R.SL_DETAIL i) 0 (putArrBit (R.SL_STICKY 0) i false b)
    when (isF b F.SL_CTL_EVT_CLR) (event 0x02 (slSev b i) i det 0) b

/-- Slots of word `w` whose bit of `v` is 1. -/
def wordSlots (w : Nat) (v : Word) : List Nat := ((List.range 32).filter fun i => bitOf v.toNat i).map (32 * w + ·)

/-- A write of SL_STICKY[w] (R471). -/
def writeSticky (w : Nat) (v : Word) (b : Block) : Block := hbtFollow (each (wordSlots w v) clearSticky b)

/-- A write of SL_INJ_SET[w] or SL_INJ_CLR[w] (R473): taken in FACTORY, else ignored with INJ_REFUSED. -/
def writeInj (set : Bool) (w : Nat) (v : Word) (b : Block) : Block :=
  if !lifeIs b .factory then setF F.SL_STATUS_INJ_REFUSED 1 b
  else
    let is := (wordSlots w v).filter fun i => (srcOf i).isSome
    if set then { b with sl := { b.sl with injSet := is.foldl (fun l i => addOnce i l) b.sl.injSet } }
    else { b with sl := { b.sl with injClr := is.foldl (fun l i => addOnce i l) b.sl.injClr } }

/-- Slots with an injection active. -/
def injActive (b : Block) : List Nat :=
  ((List.range 16).filter fun w => getR b (R.SL_INJ_ACT w) != 0).flatMap fun w =>
    ((List.range 32).map (32 * w + ·)).filter (arrBit b (R.SL_INJ_ACT 0))

/-- Slot `i`'s live bit follows its condition and its injection at every moment (R457): kinds H and T, outside a reset of the source's domain. -/
def liveNow (b : Block) (i : Nat) : Bool :=
  (match srcOf i with
    | some r => decide (r.kind ≠ .frame)
    | none => false) && !inBlockReset b i

/-- An injection on slot `i` ends: a kind-H or kind-T live bit shows the real cause alone (R473). -/
def injEnd (i : Nat) (b : Block) : Block :=
  let b := putArrBit (R.SL_INJ_ACT 0) i false b
  when (liveNow b i) (putArrBit (R.SL_LIVE 0) i (condOf b i).level) b

/-- The reset of tier `t` is complete: BAL_FET[t], its one source of kind T, is looked at again (R457): the live bit follows condition and injection, and what holds is found. -/
def liveResume (t : Nat) (b : Block) : Block :=
  let i := Slot.balFet t
  let on := (condOf b i).level || arrBit b (R.SL_INJ_ACT 0) i
  let b := putArrBit (R.SL_LIVE 0) i on b
  if on then detect [(i, (condOf b i).levelDet)] b else b

/-- R473: injections written before this tick take effect; where one slot was written to both, the clear wins. Outside FACTORY every one ends. -/
def injTick (b : Block) : Block :=
  let set := b.sl.injSet.filter fun i => !b.sl.injClr.contains i
  let clr := b.sl.injClr
  let b := { b with sl := { b.sl with injSet := [], injClr := [] } }
  let b := if lifeIs b .factory then
      let b := each clr injEnd b
      each set (fun i b => putArrBit (R.SL_INJ_ACT 0) i true b) b
    else each (injActive b) injEnd b
  let act := injActive b
  let b := each act (fun i b => putArrBit (R.SL_INJ_SEEN 0) i true b) b
  let b := putF F.SL_STATUS_INJ_ACTIVE (!act.isEmpty) b
  let hw := act.filter (liveNow b)
  detect (hw.map fun i => (i, 0)) (each hw (fun i b => putArrBit (R.SL_LIVE 0) i true b) b)

/-- SL_CFG writes take effect (R461). -/
def slCfgTake (b : Block) : Block :=
  { b with sl := { b.sl with cfg := b.sl.cfgDue.foldl (fun m i => mapPut (fun i => w32 (slCfgReset i)) m i (getR b (R.SL_CFG i))) b.sl.cfg, cfgDue := [] } }

/-- What the Sluice does at a frame tick: SL_CFG writes take effect (R461), refused clears set again without reaction (R471), injections (R473),
HBT (R469: the wave resumes at a chain tick). -/
def sluiceTick (b : Block) : Block :=
  let b := slCfgTake b
  let refused := b.sl.refused
  let b := each refused (fun i b => putArrBit (R.SL_STICKY 0) i true b) { b with sl := { b.sl with refused := [] } }
  hbtStart (hbtFollow (injTick b))

/-- The condition of a kind-H detector while nothing evaluates it, in reset and in PARK: it is found where the block runs again (R456, R460). -/
def holdCond (i det : Nat) (b : Block) : Block :=
  let c := condOf b i
  putCond i { c with level := true, levelDet := c.levelDet ||| det } b

/-- SAFE_IN goes high (R87, R455, R466): SL_SAFE_IN is found and SAFE entered; in reset and in BOOT the pin is ignored (R50), in PARK it is looked at on wake (R94). -/
def safeInHigh (b : Block) : Block :=
  let b := { b with pins := { b.pins with safeIn := true } }
  if framesRun b then hbtFollow (enterSafe 0 Slot.safeIn (detectNow Slot.safeIn 0 b)) else b

/-- SAFE_IN goes low (R466): the live condition and the SAFE_IN hold end. -/
def safeInLow (b : Block) : Block := endNow Slot.safeIn { b with pins := { b.pins with safeIn := false } }

/-- SUPERVISOR_DETECTOR (R455, R456): a kind-H detector fires; that of SL_SAFE_IN is the pin. -/
def execSupervisorDetector (src : Fin 8) (detail : Word) (s : State) : Host.Outcome State Fault Refusal :=
  run (fun b =>
    if src.val = Slot.safeIn then safeInHigh b
    else if awake b then hbtFollow (detectNow src.val detail.toNat b)
    else holdCond src.val detail.toNat b) s

/-- DETECTOR_CONDITION_END (R457): the condition of a kind-H detector ends. -/
def execDetectorConditionEnd (src : Fin 8) (s : State) : Host.Outcome State Fault Refusal :=
  run (fun b => if src.val = Slot.safeIn then safeInLow b else endNow src.val b) s

/-- SAFE_IN_ASSERT (R87, R455, R466): SAFE_IN high for at least 2 µs. -/
def execSafeInAssert (s : State) : Host.Outcome State Fault Refusal := run safeInHigh s

/-- SAFE_IN_RELEASE (R466): SAFE_IN low. -/
def execSafeInRelease (s : State) : Host.Outcome State Fault Refusal := run safeInLow s

/-- SL_STICKY_CLEAR (R471): the host writes SL_STICKY[w]. -/
def execSlStickyClear (w : Fin 16) (v : Word) (s : State) : Host.Outcome State Fault Refusal :=
  run (fun b => if ready b then writeSticky w.val v b else b) s

/-- SL_INJ_SET (R473): the host writes SL_INJ_SET[w]. -/
def execSlInjSet (w : Fin 16) (v : Word) (s : State) : Host.Outcome State Fault Refusal :=
  run (fun b => if ready b then writeInj true w.val v b else b) s

/-- SL_INJ_CLR (R473): the host writes SL_INJ_CLR[w]. -/
def execSlInjClr (w : Fin 16) (v : Word) (s : State) : Host.Outcome State Fault Refusal :=
  run (fun b => if ready b then writeInj false w.val v b else b) s

end Sys2Proof.Machine
end

