-- ==== Sys2Proof/Machine/Rings.lean ====
section
/-! DEFINITION. Commands of the submission rings: which descriptor may start, the checks of R397 in their order, and completions (R397 to R403). -/

namespace Sys2Proof.Machine

/-- Completion STATUS values (R400). -/
def St.done : Nat := 0
def St.busy : Nat := 1
def St.busyBist : Nat := 2
def St.notPermitted : Nat := 3
def St.invalid : Nat := 4
def St.unknownOpcode : Nat := 5
def St.dmaError : Nat := 6
def St.refused : Nat := 7
def St.aborted : Nat := 8
def St.failed : Nat := 9

/-- Entries of a submission or completion ring whose SIZE field is `n` (R417). -/
def ringEntries (n : Nat) : Nat := 64 * 2 ^ min 10 n

/-- The completion ring of submission ring `q`. -/
def cqNo (b : Block) (q : Nat) : Nat := getF b (F.HST_SQ_CTL_CQ q)

/-- Entries completion ring `c` holds that the host has not consumed. -/
def cqHeld (b : Block) (c : Nat) : Nat := ((getR b (R.HST_CQ_STATUS c)).toNat + 2 ^ 32 - (cqOf b c).ci) % 2 ^ 32

/-- Completion ring `c` is full. -/
def cqFull (b : Block) (c : Nat) : Bool := decide (ringEntries (getF b (F.HST_CQ_CTL_SIZE c)) ≤ cqHeld b c)

/-- R401: completion ring `c` is full with a completion waiting. -/
def cqBlocked (b : Block) (c : Nat) : Bool := cqFull b c && !(cqOf b c).waiting.isEmpty

/-- A block reset of HST DMA runs (R416). -/
def hstResets (b : Block) : Bool := b.sl.blkRun.any fun x => decide (x.1 = .hst)

/-- R392, R401, R416: submission ring `q` has a descriptor that may start. -/
def sqReady (b : Block) (q : Nat) : Bool :=
  let x := sqOf b q
  pcieActive b && ready b && pagesOn b && !dmaOff b && !hstResets b && x.en && x.running.isNone && decide ((getR b (R.HST_SQ_STATUS q)).toNat ≠ x.pi) &&
    (cqOf b (cqNo b q)).en && !cqBlocked b (cqNo b q)

/-- R398: submission ring `q` starts its next descriptor now: it may, and no lower ring has one that may. -/
def canStart (b : Block) (q : Nat) : Bool := sqReady b q && !(List.range q).any (sqReady b)

/-- The command of ring `q` completes (R399, R403): its completion waits to be written, or is discarded where its ring is disabled (R392). -/
def finish (q status detail r0 r1 : Nat) (b : Block) : Block :=
  match (sqOf b q).running with
  | none => b
  | some r =>
    let c := cqNo b q
    let y := cqOf b c
    if y.en then putCq c { y with waiting := y.waiting ++ [⟨r.op, q, r.tag, detail, status, r0 % 2 ^ 32, r1 % 2 ^ 32⟩] } (putSq q { sqOf b q with running := some { r with wait := .done } } b)
    else putSq q { sqOf b q with running := none } b

/-- What the command of ring `q` waits for. -/
def waitOn (q : Nat) (w : CmdWait) (b : Block) : Block :=
  match (sqOf b q).running with
  | none => b
  | some r => putSq q { sqOf b q with running := some { r with wait := w } } b

/-- Every ring whose command waits for something `p` accepts completes with the status and results given for it. -/
def finishAll (p : CmdWait → Bool) (f : Nat → Block → Block) (b : Block) : Block :=
  each (List.range 16) (fun q b => match (sqOf b q).running with
    | some r => if p r.wait then f q b else b
    | none => b) b

/-- A descriptor starts (R397): the count of started descriptors advances, the checks run in their order, and the command proceeds. -/
def startCmd (q op : Nat) (d : Desc) (invalid forbidden : Bool) (go : Block → Block) (b : Block) : Block :=
  if !canStart b q then b else
  let b := setR (R.HST_SQ_STATUS q) (getR b (R.HST_SQ_STATUS q) + 1) b
  let b := putSq q { sqOf b q with running := some ⟨op, d.tag.toNat, .done⟩ } b
  if d.resvd ≠ 0 ∨ invalid then finish q St.invalid 0 0 0 b
  else if forbidden then finish q St.notPermitted 0 0 0 b
  else go b

/-- A read or write of host memory for the command of ring `q` failed (R400, R416, R417). -/
def dmaFail (q : Nat) (b : Block) : Block :=
  finish q St.dmaError 0 0 0 (pulse Slot.hstDma (2 ^ q) (setF F.HST_STATUS_DMA_ERR 1 b))

/-- The command goes on with the data read from host memory, or ends: with ABORTED where a block reset of HST DMA that is about to begin cuts the read off (R400, R416),
else with DMA_ERROR. -/
def withData (q : Nat) (data : Option (List Word)) (go : List Word → Block → Block) (b : Block) : Block :=
  match data with
  | none => if b.sl.blkOwed.contains .hst then finish q St.aborted 0 0 0 b else dmaFail q b
  | some ws => go ws b

/-- The data words of the command of ring `q` go to host memory, and it completes; where those writes fail it ends with DMA_ERROR (R400). -/
def dmaOut (q : Nat) (fail : Bool) (addr : Nat) (ws : List Word) (status detail r0 r1 : Nat) (b : Block) : Block :=
  if fail then finish q St.dmaError 0 0 0 b else finish q status detail r0 r1 (dmaWrite addr ws b)

/-- The four words of a completion entry (R399). -/
def cplWords (c : Cpl) : List Word :=
  [w32 (c.op % 256 * 2 ^ 24 + c.sq % 16 * 2 ^ 20 + c.tag % 2 ^ 16), w32 (c.detail % 256 * 256 + c.status % 256), w32 c.r0, w32 c.r1]

/-- R401: the first completion that waits at ring `c` is written when there is room and DMA runs; its submission ring may then go on. -/
def postOne (c : Nat) (b : Block) : Block :=
  let y := cqOf b c
  match y.waiting with
  | [] => b
  | e :: rest =>
    if !y.en || !pagesOn b || dmaOff b || cqFull b c then b else
    let pi := (getR b (R.HST_CQ_STATUS c)).toNat
    let slot := pi % ringEntries (getF b (F.HST_CQ_CTL_SIZE c))
    let b := emitOut (.dma (y.base + 16 * slot) (cplWords e)) (putCq c { y with waiting := rest } b)
    let b := setR (R.HST_CQ_STATUS c) (w32 (pi + 1)) { b with hst := { b.hst with cplTotal := (b.hst.cplTotal + 1) % 2 ^ 32 } }
    pendVec (getF b (F.HST_CQ_CTL_VEC c)) (count 0x4B 1 {} (putSq e.sq { sqOf b e.sq with running := none } b))

/-- Every completion that finds room is written, ring by ring. -/
def postAll (b : Block) : Block :=
  each (List.range 16) (fun c b => each (cqOf b c).waiting (fun _ b => postOne c b) b) b

/-- Bytes of host memory at an address: it is 4-byte aligned (R402). -/
def badAddr (a : BitVec 64) : Bool := a.toNat % 4 != 0

/-- P1 to P4 are all 0. -/
def tail0 (d : Desc) : Bool := d.p1 == 0 && d.p2 == 0 && d.p3 == 0 && d.p4 == 0

/-- COMPLETION_POST (R401): the completion that waits first at completion ring `c` is written if there is room. -/
def execCompletionPost (c : Fin 16) (s : State) : Host.Outcome State Fault Refusal := run (postOne c.val) s

/-- UNKNOWN_OPCODE_DESCRIPTOR (R397): a descriptor whose OPCODE is not listed completes with UNKNOWN_OPCODE; it is checked before every other field. -/
def execUnknownOpcodeDescriptor (q : Fin 16) (op : Byte) (d : Desc) (s : State) : Host.Outcome State Fault Refusal :=
  run (fun b =>
    if 1 ≤ op.toNat ∧ op.toNat ≤ 0x0E then b
    else startCmd q.val op.toNat { d with resvd := 0 } false false (finish q.val St.unknownOpcode 0 0 0) b) s

end Sys2Proof.Machine
end

