-- ==== Sys2Proof/Machine/Balance.lean ====
section
/-! DEFINITION. Balancing (R290 to R311): bleed estimates, timers and duty, the governor, sets and targets, forced bleed-off, FET checks, PARK
continuation, the order of R304, the BAL registers as they read, and the commands of the family. -/

namespace Sys2Proof.Machine

/-! Bleed path (R290 to R292). -/

/-- BAL_RBAL[n].RES in force, in 10 mΩ. -/
def rBal (b : Block) (n : Nat) : Nat := mapGet (fun _ => 0x708) b.bal.rbal n

/-- R_ON of cell `n` in mΩ at its tier's die temperature (R291): above 0 and at most 1.0 Ω (R61). -/
def rOn (b : Block) (n : Nat) : Rat := ((Config.rOn b.calib n (mapGet (fun _ => 0) b.fe.dieTemp (tierOf n)) % 1000000 + 1 : Nat) : Rat) / 1000

/-- I_tier of tier `t` in mA in RUN, STANDBY and SAFE (R39, R75, R200, R509): the calibrated value common to all tiers, 2.82 mA within ±5 %, matched within ±0.5 % whatever the
cells and the activity. -/
def iTier (b : Block) (t : Nat) : Rat :=
  let s := Config.iSpread b.calib t
  let i := Config.iCommon b.calib
  (if i < 2679 / 1000 then 2679 / 1000 else if 2961 / 1000 < i then 2961 / 1000 else i) * (1 + (if s < -1 / 200 then -1 / 200 else if 1 / 200 < s then 1 / 200 else s))

/-- I_on of cell `n` in mA (R291): microvolts over milliohms. -/
def iOn (b : Block) (n : Nat) : Rat := (balOf b n).vn / ((rBal b n * 10 : Nat) + rOn b n)

/-- R291: the FET counts as on: as commanded, but for a FET declared stuck. -/
def countsOn (c : BalCell) : Bool := if c.stuckOn then true else if c.stuckOff then false else c.cmdOn

/-- The bleed estimate I_bleed,n in mA (R291). -/
def iBleed (b : Block) (n : Nat) : Rat := if countsOn (balOf b n) then iOn b n else 0

/-- p_n in mW (R296). -/
def fetPower (b : Block) (n : Nat) : Rat := iOn b n * iOn b n * rOn b n / 1000000

/-- Cell `n`'s record replaced, its tier due for a governor recomputation. -/
def putBalDirty (n : Nat) (c : BalCell) (b : Block) : Block :=
  let b := putBal n c b
  { b with bal := { b.bal with dirty := addOnce (tierOf n) b.bal.dirty } }

/-- Cell `n`'s record replaced, with the moments at which its FET began or ceased to count as on, kept for the longest window (R150, R170); a switch-on
is counted (R447). -/
def putGate (n : Nat) (c : BalCell) (b : Block) : Block :=
  let was := countsOn (balOf b n)
  let is := countsOn c
  let b := when (c.cmdOn && !(balOf b n).cmdOn) (count 0x28 1 { tier := some (tierOf n), cell := some n }) b
  let edges := devF b :: c.edges.filter fun d => decide (devF b < d + 32003)
  putBal n (if is && !was then { c with onFrom := devF b, edges := edges } else if was && !is then { c with offFrom := some (devF b), edges := edges }
    else c) b

/-- Cells with balancing state, each once. -/
def balCells (b : Block) : List Nat := (span 1 192).filter fun n => b.bal.cells.any (·.1 == n)

/-- Charge of the frame that ends at this tick (R295): 50 µs of I_bleed, and the on-time of an excited cell (R294). -/
def balAccrue (b : Block) : Block :=
  each (balCells b) (fun n b =>
    let c := balOf b n
    if countsOn c then
      putBal n { c with charge := min (2 ^ 32 - 1) (c.charge + iOn b n / 20000), exOn := c.exOn + nat01 (c.excite && c.cmdOn) } b
    else b) b

/-! Timers, sets and targets. -/

/-- The timer of cell `n` to 0 (R294, R299). -/
def stopCell (n : Nat) (b : Block) : Block :=
  let c := balOf b n
  if c.timer = 0 ∧ c.duty = 0 then b else putBalDirty n { c with timer := 0, duty := 0 } b

/-- R305, R306: timer and target of cell `n` to 0. -/
def dropCell (n : Nat) (b : Block) : Block :=
  let c := balOf b n
  if c.timer = 0 ∧ c.duty = 0 ∧ c.target = none then b else putBalDirty n { c with timer := 0, duty := 0, target := none } b

/-- R298, R307: timer, target and BAL_CHARGE of cell `n` to 0. -/
def zeroCell (n : Nat) (b : Block) : Block :=
  putBalDirty n { balOf b n with timer := 0, duty := 0, target := none, charge := 0 } b

/-- Tier `t`'s bleeding ends for a cause of R306: FETs off, timers and targets cleared. -/
def tierOff (t : Nat) (b : Block) : Block :=
  each (tierCells t) (fun n b =>
    let b := dropCell n b
    let c := balOf b n
    if c.cmdOn then putGate n { c with cmdOn := false } b else b) b

/-- The mask of R459 of the cells of tier `t` that satisfy `p`: local cell j is bit j. -/
def localMask (b : Block) (t : Nat) (p : BalCell → Bool) : Nat :=
  (tierCells t).foldl (fun m n => m + nat01 (p (balOf b n)) * 2 ^ localOf n) 0

/-- The FETs of tier `t` that are declared stuck (R292). -/
def stuckMask (b : Block) (t : Nat) : Nat := localMask b t fun c => c.stuckOn || c.stuckOff

/-- Action 1 of R304: forced bleed-off begins or ends (R305). What a tier die opened locally ends with the force, or, before one has begun, with its detector's fault or with a
severity in force that opens nothing locally. -/
def balForce (b : Block) : Block :=
  let f := forcedTiers b
  let stays := fun t => f.contains t || (!b.bal.forced.contains t && slSev b (Slot.balFet t) == 3 && stuckMask b t != 0)
  let b := { b with bal := { b.bal with forced := f, local_ := b.bal.local_.filter stays } }
  each f (fun t b => each (tierCells t) dropCell b) b

/-- MODE in force (R298): RETIRED and MODE 3 act as OFF. -/
def modeWanted (b : Block) : Nat := if lifeIs b .retired || getF b F.BAL_CTL_MODE = 3 then 0 else getF b F.BAL_CTL_MODE

/-- Action 2: a mode change takes effect (R298); a target that arrives with it is left cleared (R304). -/
def balMode (b : Block) : Block :=
  if modeWanted b = b.bal.mode then b else
  each (balCells b) zeroCell { b with bal := { b.bal with mode := modeWanted b, targets := [], dirty := List.range 16 } }

/-- R300 codes of a set: 4, then 2, then 3; 1 when it applies. -/
def setCode (b : Block) (ws : List Word) : Nat :=
  let bad := fun (w : Word) =>
    let e := w.toNat
    let cell := e / 2 ^ 24
    let op := bitsOf e 16 4
    if op = 2 then false
    else decide (2 < op) || !(decide (1 ≤ cell ∧ cell ≤ 192) && present b cell)
      || (op == 0 && decide (e % 2 ^ 16 ≠ 0) && decide (rBal b cell < 1670))
  if inSafe b then 4 else if b.bal.mode ≠ 1 then 2 else if ws.any bad then 3 else 1

/-- One entry of an accepted set (R299, R300). -/
def setEntry (w : Word) (b : Block) : Block :=
  let e := w.toNat
  let cell := e / 2 ^ 24
  match bitsOf e 16 4 with
  | 2 => each (balCells b) stopCell b
  | 0 =>
    if e % 2 ^ 16 = 0 ∨ (b.bal.forced.contains (tierOf cell)) then stopCell cell b
    else putBalDirty cell { balOf b cell with timer := e % 2 ^ 16, duty := bitsOf e 20 4 + 1, charge := 0, exOn := 0, fresh := true } b
  | _ => stopCell cell b

/-- One set applied or refused as a whole; LAST_SET shows the code (R300). -/
def applySet (ws : List Word) (b : Block) : Nat × Block :=
  let code := setCode b ws
  let b := if code = 1 then each ws setEntry b else b
  (code, { b with bal := { b.bal with lastSet := code } })

/-- Action 3: BAL_SET sets in the order their commands started, then the BAL_SETREG set (R300, R403). -/
def balSets (b : Block) : Block :=
  let sets := b.bal.sets
  let reg := b.bal.regSet
  let b := { b with bal := { b.bal with sets := [], regSet := [] } }
  let b := each sets (fun x b =>
    let got := applySet x.2 b
    let code := got.1
    let b := got.2
    match (sqOf b x.1).running with
    | some r => if r.wait = .balSet then finish x.1 (if code = 1 then St.done else St.refused) code (frame b) 0 b else b
    | none => b) b
  if reg.isEmpty then b else (applySet reg b).2

/-- ⌈Q / (I_on × d / 16)⌉ s for a charge in mAs; without a positive current the spec states no value (log entry 6). -/
def secondsFor (b : Block) (n : Nat) (q : Rat) (d : Nat) : Nat :=
  let i := iOn b n * d / 16
  if q ≤ 0 then 0 else if i ≤ 0 then Config.unstated 1 [n, q.floor] else (q / i).ceil.toNat

/-- R303: a cell whose policy target was cleared stops at the next frame tick; its BAL_CHARGE goes on (R295). -/
def balCleared (b : Block) : Block :=
  let now := b.bal.cleared.filter fun x => decide (x.2 < devF b)
  if now.isEmpty then b else
  each (now.map (·.1)) dropCell { b with bal := { b.bal with cleared := b.bal.cleared.filter fun x => !decide (x.2 < devF b) } }

/-- A policy pass excites cell `n`, whose timer R302 has raised. -/
def policyExcites (b : Block) (n : Nat) : Bool := (balOf b n).excite && b.imp.sweep.any (·.policy)

/-- Action 4: AUTO targets and BAL overrides become timers (R301). The timer of a cell that a policy pass excites keeps what R302 raised it to (DEDUCED, log entry 9). -/
def balTargets (b : Block) : Block :=
  let ts := b.bal.targets
  let b := { b with bal := { b.bal with targets := [] } }
  if b.bal.mode ≠ 2 then b else
  each ts (fun (n, q) b =>
    if b.bal.forced.contains (tierOf n) || !present b n then b else
    let d := getF b F.BAL_CTL_AUTO_DUTY_M1 + 1
    let t := if q = 0 then 0 else min 65535 (secondsFor b n q d)
    let t := if policyExcites b n then max t (balOf b n).timer else t
    putBalDirty n { balOf b n with timer := t, duty := if t = 0 then 0 else d, target := some q, charge := 0, fresh := true }
      { b with bal := { b.bal with cleared := b.bal.cleared.filter fun x => x.1 != n } }) b

/-- Action 5: a timer that ran before the tick decrements at a period boundary; an excited cell's is charged with its on-time (R294). -/
def balPeriod (b : Block) : Block :=
  let b := each (balCells b) (fun n b =>
    let c := balOf b n
    if c.timer = 0 ∨ c.fresh then b else
    let t := if c.excite then c.timer - c.exOn / 20000 else c.timer - 1
    putBalDirty n { c with timer := t, duty := if t = 0 then 0 else c.duty, exOn := c.exOn % 20000 } b) b
  let b := each b.bal.gov (fun (t, g) b =>
    let b := when g.on (count 0x29 1 { tier := some t }) b
    { b with bal := { b.bal with gov := mapPut (fun _ => {}) b.bal.gov t { g with run := if g.on then g.run + 1 else 0 } } }) b
  { b with bal := { b.bal with dirty := List.range 16 }, clock := { b.clock with periodOwed := false } }

/-- Action 6: bleeding stops where the delivered charge has reached the AUTO target (R301); a policy pass has raised the timer of a cell it excites (R302), which stops with the
pass (DEDUCED, log entry 9). -/
def balMet (b : Block) : Block :=
  each (balCells b) (fun n b =>
    let c := balOf b n
    match c.target with
    | some q => if c.timer ≠ 0 ∧ !policyExcites b n ∧ (q : Rat) ≤ c.charge then stopCell n b else b
    | none => b) b

def govOf (b : Block) (t : Nat) : GovTier := mapGet (fun _ => {}) b.bal.gov t

/-- R296 for tier `t`: demand, reduction and applied duties; excitation is never reduced (R189). -/
def govern (t : Nat) (b : Block) : Block :=
  let cs := (tierCells t).filter (present b)
  let act := cs.filter fun n => (balOf b n).timer ≠ 0 && !(balOf b n).excite
  let exc := cs.filter fun n => (balOf b n).excite
  let d : Rat := (act.map fun n => ((balOf b n).duty : Rat) / 16 * fetPower b n).sum
  let e : Rat := (exc.map fun n => fetPower b n / 2).sum
  let g : Rat := (min 500 (max 100 (getF b F.BAL_CTL_GOV_MW)) : Nat)
  let beyond := decide (g < d + e)
  let b := each (tierCells t) (fun n b =>
    let c := balOf b n
    let a := if act.contains n then (if beyond then ((c.duty : Rat) * (g - e) / d).floor.toNat else c.duty) else if exc.contains n then c.duty else 0
    if c.applied = a then b else putBal n { c with applied := a } b) b
  let pct := if beyond then (if d = 0 then Config.unstated 2 [t, e.floor] % 256 else (100 * (g - e) / d).floor.toNat) else 100
  let ap : Rat := (act.map fun n => ((balOf b n).applied : Rat) / 16 * fetPower b n).sum + e
  { b with bal := { b.bal with gov := mapPut (fun _ => {}) b.bal.gov t { govOf b t with demand := d + e, applied := ap, pct := pct, on := beyond } } }

/-- Action 7: the governor recomputes the tiers whose timers, duties, targets, mode or excitation changed (R296). -/
def balGovern (b : Block) : Block :=
  let ts := b.bal.dirty
  let b := each ts govern { b with bal := { b.bal with dirty := [] } }
  each ts (fun t b => if condOf b (Slot.balGov t) = {} ∧ (govOf b t).run < 60 then b else setLevel (Slot.balGov t) (decide (60 ≤ (govOf b t).run)) 0 b) b

/-- Slot number within the balancing period (R293). -/
def slotNo (b : Block) : Nat := frame b % 20000 / 1250

/-- The slot window of cell `n` holds slot `k` (R293). -/
def inWindow (n d k : Nat) : Bool := decide ((k + 16 - (localOf n - 1)) % 16 < d)

/-- A quiet interval holds every FET off now (R172). -/
def quietNow (b : Block) : Bool :=
  match b.fe.quiet with
  | some (lo, hi) => decide (lo ≤ devF b ∧ devF b < hi)
  | none => false

/-- The square wave of the present BLEED pass at this tick (R178, R190): on in one half of each period of 2h raw samples. A FET switches at frame ticks; where a half period is no
whole number of frames, its gate takes the ideal wave's level at each tick, so that an edge falls on the first tick at or after it (DESIGN CHOICE, log entry 9). -/
def waveNow (b : Block) : Bool :=
  match b.imp.sweep with
  | none => false
  | some w => match w.start with
    | none => false
    | some f =>
      let h := (2 * 80000000 + w.freqs.getD w.point 1000) / (2 * max 1 (w.freqs.getD w.point 1000))
      (decide ((8 * (devF b - f)) % (2 * h) < h)) == Config.waveOn

/-- A self-test holds tier `t` (R478, R481). -/
def tierBist (b : Block) (t : Nat) : Bool := (b.bist.host.any (·.target == t)) || (b.bist.rolling.any (·.target == t))

/-- Tier `t`'s FETs are off for a cause of its own (R74, R306, R465, R482, R488): stopped, in block reset, under test or failed. -/
def fetsShut (b : Block) (t : Nat) : Bool :=
  b.pwr.supplyLost.contains t || tierBist b t || bitOf (getF b F.BIST_FAILED_TIERS) t || (b.sl.blkRun.any fun x => decide (x.1 = .fe t))

/-- The gate of cell `n` as action 8 of R304 sets it. -/
def gateWanted (b : Block) (n : Nat) : Bool :=
  let c := balOf b n
  let t := tierOf n
  present b n && !quietNow b && !b.bal.forced.contains t && !b.bal.local_.contains t && !b.bal.lost.contains t && !fetsShut b t &&
    (if c.excite then b.bal.mode != 0 && waveNow b
     else !c.held && decide (b.bal.mode ≠ 0 ∧ c.timer ≠ 0) && inWindow n c.applied (slotNo b))

/-- Action 8: the gates are set. -/
def balGates (b : Block) : Block :=
  let b := { b with clock := { b.clock with slotOwed := false } }
  each (balCells b) (fun n b =>
    let c := balOf b n
    let g := gateWanted b n
    if c.cmdOn = g ∧ !c.fresh then b else
    let b := if c.cmdOn = g || b.bal.prior.any (·.1 == n) then b else { b with bal := { b.bal with prior := b.bal.prior ++ [(n, c)] } }
    putGate n { c with cmdOn := g, fresh := false } b) b

/-- BAL_RBAL takes effect at the next frame tick (R311). -/
def balRbal (b : Block) : Block :=
  let due := b.bal.rbalDue
  each due (fun n b =>
    { b with bal := { b.bal with rbal := mapPut (fun _ => 0x708) b.bal.rbal n (getF b (F.BAL_RBAL_RES n)) } })
    { b with bal := { b.bal with rbalDue := [] } }

/-- Actions 1 to 6 of R304, after charge of the frame that ended is counted. -/
def balActs (b : Block) : Block :=
  let b := balTargets (balCleared (balSets (balMode (balForce (balRbal b)))))
  balMet (when b.clock.periodOwed balPeriod b)

/-! FET checks at a chain tick (R292). -/

/-- Counters of R292 for one cell, from its measured V_DS in µV: two consecutive failing ticks set, two passing ones clear. -/
def fetJudge (b : Block) (n vds : Nat) (c : BalCell) : BalCell :=
  let half := 2 * (vds : Rat)
  let on := c.cmdOn
  let low := !on && decide (half < c.vn)
  let high := on && decide (c.vn < half)
  let i := iOn b n
  let dev := (vds : Rat) / rOn b n - i
  let mis := on && decide ((getF b F.BAL_CTL_MIS_PCT : Rat) / 100 * i < (if dev < 0 then -dev else dev))
  let nOn := if low then c.nOn + 1 else 0
  let nOff := if high then c.nOff + 1 else 0
  let nMis := if mis then c.nMis + 1 else 0
  let nPass := if low || high then 0 else c.nPass + 1
  let nPassMis := if mis then 0 else c.nPassMis + 1
  { c with
    nOn := min 2 nOn, nOff := min 2 nOff, nMis := min 2 nMis, nPass := min 2 nPass, nPassMis := min 2 nPassMis
    stuckOn := decide (2 ≤ nOn) || (c.stuckOn && decide (nPass < 2 ∧ nOff < 2))
    stuckOff := decide (2 ≤ nOff) || (c.stuckOff && decide (nPass < 2 ∧ nOn < 2))
    mismatch := decide (2 ≤ nMis) || (c.mismatch && decide (nPassMis < 2)) }

/-- Each chain tick: V_DS of every FET of a present cell of a powered tier is judged (R292); a tier that finds a FET stuck opens its FETs at once while
BAL_FET[t] is S3 (R305). Its report arrives with its next result block. -/
def fetCheck (avail : Nat → Bool) (vds : List Nat) (b : Block) : Block :=
  let b := each (presentCells b) (fun n b =>
    if !avail (tierOf n) then b else
    let c := balOf b n
    let c' := fetJudge b n (vds.getD (n - 1) 0) c
    if c' = c then b else putGate n c' b) b
  each (List.range 16) (fun t b =>
    let m := stuckMask b t
    let mm := localMask b t (·.mismatch)
    let b := if mm = 0 ∧ condOf b (Slot.balMismatch t) = {} then b else setLevel (Slot.balMismatch t) (mm != 0) mm b
    if m ||| mapGet (fun _ => 0) b.bal.fetRep t ≠ mapGet (fun _ => 0) b.bal.fetRep t ∧ slSev b (Slot.balFet t) = 3 then
      let b := { b with bal := { b.bal with local_ := addOnce t b.bal.local_ } }
      each (tierCells t) (fun n b => let c := balOf b n; if c.cmdOn then putGate n { c with cmdOn := false } b else b) b
    else b) b

/-- BAL_FET[t] as tier `t` reports it with its result block (R456, kind T). -/
def fetReport (t : Nat) (b : Block) : Block :=
  let m := stuckMask b t
  let was := mapGet (fun _ => 0) b.bal.fetRep t
  if m = was then b else
  let b := { b with bal := { b.bal with fetRep := mapPut (fun _ => 0) b.bal.fetRep t m } }
  if m = 0 then endNow (Slot.balFet t) b else detectNow (Slot.balFet t) m b

/-! PARK continuation (R307, R308). -/

/-- Frames of [0, x) in which a cell with applied duty `d` is on, from frame 0 of a period (R293). -/
def onFrames (n d x : Nat) : Nat :=
  x / 20000 * (d * 1250) +
    ((List.range 16).map fun k => if inWindow n d k then min 1250 (x % 20000 - k * 1250) else 0).sum

/-- R308 for one tier in AUTO: the timers allow for the tier's excess of 2.47 mA. -/
def parkAuto (t : Nat) (b : Block) : Block :=
  let act := (tierCells t).filter fun n => (balOf b n).timer ≠ 0
  let rest := fun n => (((balOf b n).target.getD 0 : Nat) : Rat) - (balOf b n).charge
  let tn := fun (n : Nat) (q : Rat) => secondsFor b n q (balOf b n).applied
  let tmax := (act.map fun n => tn n (rest n)).foldl max 0
  each act (fun n b =>
    let q := rest n - 247 / 100 * (tmax : Rat)
    if q ≤ 0 then stopCell n b else putBal n { balOf b n with timer := min 65535 (tn n q) } b) b

/-- R90 step 5, R307: the tiers that continue in PARK; every other tier's timers, targets and charges become 0, and the governor follows (R296). -/
def balPark (b : Block) : Block :=
  let cont := if isF b F.PWR_CTL_BAL_CONT && !inSafe b then
      (List.range 16).filter fun t => (tierCells t).any fun n => (balOf b n).timer ≠ 0
    else []
  let b := each (balCells b) (fun n b =>
    if cont.contains (tierOf n) then b else
    let b := zeroCell n b
    putGate n { balOf b n with cmdOn := false, applied := 0, excite := false, held := false } b) b
  let b := if b.bal.mode = 2 then each cont parkAuto b else b
  let b := balGovern { b with bal := { b.bal with dirty := List.range 16 } }
  { b with bal := { b.bal with cont := cont, contLast := !cont.isEmpty, targets := [], sets := [], regSet := [], dirty := [], cleared := [] } }

/-- The charge that cell `n` of a continuing tier bleeds in `span` frames of PARK from frame `lo` on, within one period. -/
def parkBleed (lo span n : Nat) (b : Block) : Block :=
  let c := balOf b n
  if !b.bal.cont.contains (tierOf n) then b else
  let on := if c.stuckOn then span else if c.stuckOff ∨ c.timer = 0 then 0 else onFrames n c.applied (lo % 20000 + span) - onFrames n c.applied (lo % 20000)
  putBal n { c with charge := min (2 ^ 32 - 1) (c.charge + iOn b n * on / 20000) } b

/-- The frames `lo` to `stop` of PARK, within one period: charge by slot, and at the period's end the timers and the governor. -/
def parkSpan (lo stop : Nat) (b : Block) : Block :=
  let b := each (balCells b) (parkBleed lo (stop - lo)) b
  when (decide (stop % 20000 = 0) && (balCells b).any fun n => decide ((balOf b n).timer ≠ 0)) (fun b => balGovern (balPeriod b)) b

/-- The frames `lo` to `hi` of PARK on the tier dice, period by period (R307). -/
def balParked : Nat → Nat → Nat → Block → Block
  | 0, _, _, b => b
  | fuel + 1, lo, hi, b => if hi ≤ lo then b else
    balParked fuel (min hi (lo + 20000 - lo % 20000)) hi (parkSpan lo (min hi (lo + 20000 - lo % 20000)) b)

/-! The BAL registers as they read (R311). -/

/-- BAL_CELL_STATUS[n]. -/
def balCellStatus (b : Block) (n : Nat) : Nat :=
  let c := balOf b n
  let left : Rat := match c.target with
    | some q => (q - c.charge) / 1000
    | none => 0
  let act := decide (c.timer ≠ 0)
  publishedIn 3 16 left * 2 ^ 16 + c.applied % 32 * 2 ^ 11 + nat01 (countsOn c) * 2 ^ 10 + nat01 c.excite * 2 ^ 9 + nat01 c.held * 2 ^ 8
    + nat01 (act && quietNow b) * 2 ^ 7 + nat01 (b.bal.forced.contains (tierOf n)) * 2 ^ 6 + nat01 (act && decide (c.applied < c.duty) && !c.excite) * 2 ^ 5
    + nat01 c.mismatch * 2 ^ 4 + nat01 (c.stuckOn || c.stuckOff) * 2 ^ 3 + nat01 (!present b n) * 2 ^ 2

/-- Bits of a list of tiers. -/
def tierBits (ts : List Nat) : Nat := (List.range 16).foldl (fun m t => m + nat01 (ts.contains t) * 2 ^ t) 0

/-- A read of a BAL register that follows balancing state. -/
def balRead (b : Block) (a : Nat) : Option Nat :=
  if a = R.BAL_STATUS then
    some (tierBits b.bal.forced * 2 ^ 16 + b.bal.lastSet * 16 + nat01 b.bal.contLast * 8 + b.bal.mode)
  else if 0xC010 ≤ a ∧ a < 0xC028 then
    let w := (a - 0xC010) / 4
    some ((List.range 32).foldl (fun m i => m + nat01 (decide ((balOf b (32 * w + i + 1)).timer ≠ 0)) * 2 ^ i) 0)
  else if 0xC100 ≤ a ∧ a < 0xC200 then
    let t := (a - 0xC100) / 16
    let g := govOf b t
    if a % 16 = 0 then
      some (nat01 (b.bal.forced.contains t) * 2 ^ 31 + nat01 g.on * 2 ^ 30 + nat01 (b.bal.cont.contains t) * 2 ^ 29
        + nat01 (b.bal.lost.contains t) * 2 ^ 28 + min 255 g.pct * 256)
    else if a % 16 = 4 then some (publishedIn 4 16 g.applied * 2 ^ 16 + publishedIn 5 16 g.demand)
    else none
  else if 0xC200 ≤ a ∧ a < 0xCE00 then
    let n := (a - 0xC200) / 16 + 1
    let c := balOf b n
    if a % 16 = 0 then some ((if c.timer = 0 then 0 else c.duty) * 2 ^ 16 + c.timer)
    else if a % 16 = 8 then some (balCellStatus b n)
    else if a % 16 = 12 then some (publishedIn 6 32 c.charge)
    else none
  else none

/-! Commands. -/

/-- BAL_SETREG (R299, R300): one entry added to the frame's register set. -/
def writeSetReg (v : Word) (b : Block) : Block := { b with bal := { b.bal with regSet := b.bal.regSet ++ [v] } }

def execBalSetreg (v : Word) (s : State) : Host.Outcome State Fault Refusal :=
  run (fun b => if ready b then writeSetReg v b else b) s

/-- BAL_SET (R299, R300, R402, R403): the descriptor's entries apply together at the next tick. -/
def execBalSet (q : Fin 16) (d : Desc) (data : Option (List Word)) (s : State) : Host.Outcome State Fault Refusal :=
  run (startCmd q.val 0x03 d (decide (d.p0.toNat < 1 ∨ 192 < d.p0.toNat) || badAddr d.addr || !tail0 d) false
    (withData q.val data fun ws b =>
      let b := { b with bal := { b.bal with sets := b.bal.sets ++ [(q.val, (ws ++ List.replicate 192 0).take d.p0.toNat)] } }
      waitOn q.val .balSet b)) s

/-- BAL_SET_APPLY (R300): the sets apply at the tick, where they still wait, and the actions of R304 that follow them. -/
def execBalSetApply (s : State) : Host.Outcome State Fault Refusal :=
  run (fun b => if !framesRun b || (b.bal.sets.isEmpty && b.bal.regSet.isEmpty) then b else balGates (balGovern (balSets b))) s

/-- BAL_MODE_CHANGE (R298): a new mode takes effect, where it is still owed. -/
def execBalModeChange (s : State) : Host.Outcome State Fault Refusal :=
  run (fun b => if !framesRun b || modeWanted b = b.bal.mode then b else balGates (balGovern (balMode b))) s

/-- AUTO_TARGET_APPLY (R301): targets that wait become timers. -/
def execAutoTargetApply (s : State) : Host.Outcome State Fault Refusal :=
  run (fun b => if !framesRun b || b.bal.targets.isEmpty then b else balGates (balGovern (balMet (balTargets b)))) s

/-- BAL_PERIOD_BOUNDARY (R293, R294, R296): the active timers decrement and the governor recomputes, once in the frame that starts a period. -/
def execBalPeriodBoundary (s : State) : Host.Outcome State Fault Refusal :=
  run (fun b => if framesRun b && b.clock.periodOwed then balGates (balGovern (balMet (balPeriod b))) else b) s

/-- BAL_SLOT_BOUNDARY (R293): each gate is set from its applied duty and slot window. -/
def execBalSlotBoundary (s : State) : Host.Outcome State Fault Refusal :=
  run (fun b => if framesRun b && b.clock.slotOwed then balGates b else b) s

/-- BAL_TIMER_EXPIRY (R294): a cell whose timer has reached 0 stops bleeding. -/
def execBalTimerExpiry (c : Cell) (s : State) : Host.Outcome State Fault Refusal :=
  run (fun b =>
    let n := c.val + 1
    let x := balOf b n
    if framesRun b && x.timer = 0 && x.cmdOn && !x.excite then putGate n { x with cmdOn := false } b else b) s

/-- CHARGE_TARGET_MET (R301): bleeding stops where the delivered charge has reached the target. -/
def execChargeTargetMet (s : State) : Host.Outcome State Fault Refusal :=
  run (fun b => if framesRun b then balGates (balGovern (balMet b)) else b) s

end Sys2Proof.Machine
end

