-- ==== Sys2Proof/Machine/FrontEnd.lean ====
section
/-! DEFINITION. The front end and the filters (R108 to R177, R523): availability, settling and SETL, harness compensation, outputs and their words,
overrange, open-wire tests, check conversions, auxiliary conversions, chain-tick averages and alignment. -/

namespace Sys2Proof.Machine

/-! Availability (R74, R317, R322, R481, R523). -/

def hopOf (b : Block) (h : Nat) : Hop := mapGet (fun _ => {}) b.bw.hops h

/-- Hop `h` is broken in either direction. -/
def hopBroken (b : Block) (h : Nat) : Bool := (hopOf b h).upBroken || (hopOf b h).downBroken

/-- The broken hops, in order. -/
def brokenHops (b : Block) : List Nat := (b.bw.hops.filter fun x => x.2.upBroken || x.2.downBroken).map (·.1)

/-- Tier `t` can be reached from an end of the ring (R322). -/
def reachable (b : Block) (t : Nat) : Bool := (brokenHops b).all (fun h => decide (t < h)) || (brokenHops b).all (fun h => decide (h ≤ t))

/-- Tier `t` delivers results but for a self-test: supplied, numbered with a matching identifier, reachable, aligned, not failed or in block reset. -/
def tierServes (b : Block) (t : Nat) : Bool :=
  framesRun b && b.fe.started && b.bw.enumRun.isNone && !b.pwr.supplyLost.contains t && b.bw.numbered.contains t && reachable b t &&
    !(b.fe.align.any fun a => a.tiers.contains t) && !bitOf (getF b F.BIST_FAILED_TIERS) t &&
    !(b.sl.blkRun.any fun x => decide (x.1 = .fe t))

/-- Tier `t` delivers results: it serves, and no self-test holds it. -/
def tierAvail (b : Block) (t : Nat) : Bool := tierServes b t && !tierBist b t

/-- Tier `t` sends the results of the frame before: it is available, or its self-test began with this frame, so that the frame before was measured (R482). -/
def tierSends (b : Block) (t : Nat) : Bool :=
  tierServes b t && (!tierBist b t || (b.bist.host.toList ++ b.bist.rolling.toList).all fun r => r.target != t || r.start == devF b)

/-- Tier `t` has its supply and runs: it checks its FETs whether or not the supervisor can reach it (R292). -/
def tierPowered (b : Block) (t : Nat) : Bool :=
  framesRun b && b.fe.started && !b.pwr.supplyLost.contains t && !tierBist b t && !bitOf (getF b F.BIST_FAILED_TIERS) t && !(b.sl.blkRun.any fun x => decide (x.1 = .fe t))

/-- Every tier is available. -/
def allAvail (b : Block) : Bool := (List.range 16).all (tierAvail b)

/-! Settling (R149 to R152) and quiet length (R172). -/

/-- Field `f` in a measurement set. -/
def fieldIn (set : List (Nat × Word)) (f : Fld) : Nat := bitsOf (mapGet resetWord set f.reg).toNat f.lo f.len

/-- F0 and Q of notch `k` as in the path under a set; none when bypassed (R148, R168). -/
def notchOf (b : Block) (set : List (Nat × Word)) (k : Nat) : Option (Nat × Nat) :=
  if fieldIn set (F.FLT_NOTCH_EN k) = 0 then none
  else if fieldIn set (F.FLT_NOTCH_SRC k) = 0 then some (fieldIn set (F.FLT_NOTCH_F0 k), fieldIn set (F.FLT_NOTCH_Q k))
  else if isF b (F.FLT_NOTCH_POL_ACTIVE k) then some (getF b (F.FLT_NOTCH_POL_F0 k), getF b (F.FLT_NOTCH_POL_Q k))
  else none

/-- t_bq in ns (R149): 2.2 × Q / F0, Q in quarters. -/
def notchNs (n : Option (Nat × Nat)) : Rat :=
  match n with
  | some (f0, q) => 550000000 * (q : Rat) / (f0 : Rat)
  | none => 0

/-- Output period of a set in ns (R150). -/
def periodNs (set : List (Nat × Word)) : Nat := rateK (fieldIn set F.FLT_CTL_RATE) * 50000

/-- t_settle of a set in ns (R152). -/
def settleNs (b : Block) (set : List (Nat × Word)) : Rat :=
  (fieldIn set F.FLT_CTL_ORDER * periodNs set + 31250 : Nat) + notchNs (notchOf b set 1) + notchNs (notchOf b set 2)

/-- FLT_SETTLE: t_settle rounded up. -/
def settleUp (b : Block) (set : List (Nat × Word)) : Nat := (settleNs b set).ceil.toNat

/-- L of a set in frames (R172). -/
def quietLen (b : Block) (set : List (Nat × Word)) : Nat := ((settleNs b set + (periodNs set : Nat)) / 50000).ceil.toNat

/-! SETL intervals (R161). -/

/-- SETL on channels `lo` to `hi` for windows that end after `after` and before `until_`; joined to an interval of the same channels it meets, so that a commit and a placement
at one tick make one interval up to the later end (R168 says only that one starts: DESIGN CHOICE, log entry 37). -/
def addSetl (x : Setl) (b : Block) : Block :=
  let same := fun (s : Setl) => s.lo == x.lo && s.hi == x.hi && s.filter == x.filter && decide (s.after ≤ x.after ∧ x.after < s.until_)
  let l := if b.fe.setl.any same then b.fe.setl.map fun s => if same s then { s with until_ := max s.until_ x.until_ } else s
    else b.fe.setl ++ [x]
  { b with fe := { b.fe with setl := l } }

/-- SETL of one settling time from this tick on channels `lo` to `hi`; `filter` where the path of every channel changes. -/
def setlNow (lo hi : Nat) (filter : Bool) (b : Block) : Block :=
  let b := when filter (fun b => { b with fe := { b.fe with filtFrom := devF b } }) b
  addSetl ⟨lo, hi, nowNs b, nowNs b + settleUp b b.act, filter⟩ b

/-- A window that ends at `e` ns is within a SETL interval of channel `ch`. -/
def setlCovers (b : Block) (ch e : Nat) : Bool :=
  b.fe.setl.any fun s => decide (s.lo ≤ ch ∧ ch ≤ s.hi ∧ s.after < e ∧ e < s.until_)

/-- R161: tier `t` returns: its cells, and the current channels for tier 0, settle from this tick. -/
def tierReturn (t : Nat) (b : Block) : Block :=
  let b := setlNow (12 * t) (12 * t + 11) false b
  if t = 0 then setlNow 192 193 false b else b

/-! Overruns (R30, R31). -/

/-- Stage `bit` of GEN_OVR_STATUS overruns in this frame (R31); a stage overruns once a frame. -/
def overrun (bit : Nat) (b : Block) : Block :=
  if b.sl.events.any (fun e => e.code == 0x10 && e.frame == frame b && bitOf e.v0 bit) then b else
  let first := b.clock.ovrFrame ≠ frame b + 1
  let b := if first then
      event 0x10 0 0 (2 ^ bit) 0 (pulse Slot.frameOvr 0 (count 0x04 1 {} (addF ⟨R.GEN_OVR_CNT, 0, 32⟩ 1 { b with clock := { b.clock with ovrFrame := frame b + 1 } })))
    else
      { b with sl := { b.sl with events := b.sl.events.map fun e => if e.code = 0x10 ∧ e.frame = frame b then { e with v0 := e.v0 ||| 2 ^ bit } else e } }
  count (0x05 + bit) 1 {} (setF ⟨R.GEN_OVR_STATUS, bit, 1⟩ 1 b)

/-! Taps and neighbours (R136, R159, R169). -/

/-- Populated positions of tier `t` under a set (R122: they are the lowest). -/
def popIn (set : List (Nat × Word)) (t : Nat) : Nat := ((List.range 12).filter fun j => bitOf (fieldIn set (F.FE_TIER_CTL_CELL_EN t)) j).length

/-- Cell `n` is present under a set. -/
def thereIn (set : List (Nat × Word)) (n : Nat) : Bool := bitOf (fieldIn set (F.FE_TIER_CTL_CELL_EN (tierOf n))) (localOf n - 1)

/-- The top present cell of tier `t`, where `pop` gives the populated positions of each tier. -/
def topCell (pop : Nat → Nat) (t : Nat) : Nat := 12 * t + pop t

/-- The tap below cell `n`, as the cell below it numbers it; 0 below cell 1. -/
def lowerTap (pop : Nat → Nat) (n : Nat) : Nat :=
  if localOf n = 1 then (if tierOf n = 0 then 0 else topCell pop (tierOf n - 1)) else n - 1

/-- The present cell above tap `n`; none above the top. -/
def cellAbove (pop : Nat → Nat) (n : Nat) : Option Nat :=
  if n = 0 then some 1
  else if n = topCell pop (tierOf n) then (if tierOf n = 15 then none else some (12 * tierOf n + 13))
  else some (n + 1)

/-- R159: the neighbours of cell `n`. -/
def neighbours (pop : Nat → Nat) (n : Nat) : List Nat :=
  (if lowerTap pop n = 0 then [] else [lowerTap pop n]) ++ (match cellAbove pop n with
    | some m => [m]
    | none => [])

/-! Harness compensation (R169, R170). -/

/-- Resistance of tap `m`'s harness segment in mΩ under a set. -/
def hresOf (b : Block) (set : List (Nat × Word)) (m : Nat) : Rat :=
  let f := if m = 0 then F.FE_HRES_C0_SRC else F.FE_HRES_SRC m
  let raw : Nat := if fieldIn set f = 0 then fieldIn set (if m = 0 then F.FE_HRES_C0_RES else F.FE_HRES_RES m)
    else if isF b (if m = 0 then F.FE_HRES_MEAS_C0_VALID else F.FE_HRES_MEAS_VALID m)
      then getF b (if m = 0 then F.FE_HRES_MEAS_C0_RES else F.FE_HRES_MEAS_RES m) else 0
  (raw : Rat) / 10

/-- The binomial coefficient. -/
def binom (n k : Nat) : Nat := (List.range k).foldl (fun x i => x * (n - i) / (i + 1)) 1

/-- The part of a unit step that a sinc filter of order `n` and length `d` has taken in after `k` samples. -/
def sincStep (n d k : Nat) : Rat :=
  let term := fun j => (if j % 2 = 0 then (1 : Int) else -1) * (binom n j * binom (k - d * j - 1 + n) n : Nat)
  ((((List.range (n + 1)).filter fun j => decide (d * j < k)).map term).sum : Rat) / (d ^ n : Nat)

/-- The step response at a window's end of the first stage (R147) followed by a sinc filter of order `n` and decimation `d` (R150), `k` raw samples
after the step. -/
def filterStep (n d k : Nat) : Rat :=
  ((List.range 5).map fun m => (sincStep 5 64 (64 * (m + 1)) - sincStep 5 64 (64 * m)) * sincStep n d (k - m)).sum

/-! The ripple notches (R148, R160). -/

/-- The coefficients of a notch with centre frequency `f0` and quality `q` quarters at 160 kS/s, by the bilinear transform with F0 prewarped (R148): the gain of the first
and third input, that of the second input and second output, that of the third output, in fixed point. -/
def notchCoef (f0 q : Nat) : List Int :=
  let k := tanQ (piQ * f0 / 160000)
  let kk := mulQ k k
  let kq := k * 4 / (max 1 q : Nat)
  let d := oneQ + kq + kk
  [(oneQ + kk) * oneQ / d, 2 * (kk - oneQ) * oneQ / d, (oneQ - kq + kk) * oneQ / d]

/-- The notches in the path under a set, notch 1 first. -/
def notchesIn (b : Block) (set : List (Nat × Word)) : List (Nat × Nat) := (notchOf b set 1).toList ++ (notchOf b set 2).toList

/-- The coefficients of the notches in the path. -/
def notchCoefs (b : Block) : List (List Int) := (notchesIn b b.act).map fun n => notchCoef n.1 n.2

/-- The notches' state at the steady-state response to input `x` (R160): each passes a constant unchanged. -/
def notchLoad (cs : List (List Int)) (x : Int) : List Int :=
  cs.flatMap fun c => [x - mulQ (c.getD 0 0) x, mulQ (c.getD 0 0 - c.getD 2 0) x]

/-- One input through the notches: the output and the state after it. -/
def notchRun : List (List Int) → List Int → Int → Int × List Int
  | c :: cs, s1 :: s2 :: st, x =>
    let y := mulQ (c.getD 0 0) x + s1
    let r := notchRun cs st y
    (r.1, (mulQ (c.getD 1 0) (x - y) + s2) :: (mulQ (c.getD 0 0) x - mulQ (c.getD 2 0) y) :: r.2)
  | _, _, x => (x, [])

/-- The raw samples of channel `ch` through the notches, in 2^-24 of a code (R148, R160): while a sample is out of range they are held, and the first in-range sample
loads them. -/
def notchAll (cs : List (List Int)) (ch : Nat) : List Int → List Int → List Int × List Int
  | st, [] => ([], st)
  | st, v :: vs =>
    let x := v * 2 ^ 24
    let (y, st) := if !inRange ch v then (x, []) else if st.isEmpty then (x, notchLoad cs x) else notchRun cs st x
    let r := notchAll cs ch st vs
    (y :: r.1, r.2)

/-- One raw sample enters cascaded running sums. -/
def runSums : List Int → Int → List Int
  | [], _ => []
  | s :: rest, x => (s + x) :: runSums rest (s + x)

/-- The step response at a window's end of the first stage, the notches `cs` and a sinc filter of order `n` and decimation `d`, `k` raw samples after the step. -/
def notchStep (cs : List (List Int)) (n d k : Nat) : Rat :=
  let first := (span 1 5).map fun m => (sincStep 5 64 (64 * m) * (2 ^ 30 : Nat)).floor
  let r := (List.range k).foldl (fun (a : List Int × List Int × Int) i =>
    let (y, st) := notchRun cs a.1 (first.getD (min i 4) 0)
    let sums := runSums a.2.1 y
    let left := k - (i + 1)
    let j := left / d
    (st, sums, if left % d = 0 ∧ j ≤ n then a.2.2 + (if j % 2 = 0 then 1 else -1) * (binom n j : Nat) * sums.getLastD 0 else a.2.2))
    (List.replicate (2 * cs.length) 0, List.replicate n 0, 0)
  (r.2.2 : Rat) / (d ^ n * 2 ^ 30 : Nat)

/-- How a window weighs what lies before its end: order and decimation of its filter, the notches in its path, and its settling time in ns. -/
structure Window where
  order : Nat
  dec   : Nat
  notch : List (Nat × Nat)
  span  : Nat
deriving DecidableEq, Repr

/-- The response of a window at its end, `k` raw samples after a unit step. -/
def windowStep (w : Window) (k : Nat) : Rat :=
  if w.notch.isEmpty then filterStep w.order w.dec k else notchStep (w.notch.map fun n => notchCoef n.1 n.2) w.order w.dec k

/-- The window of one raw sample (R183): the first stage alone. -/
def rawWindow : Window := ⟨0, 1, [], 31250⟩

/-- The window of a chain-tick average (R154): 160 notch outputs. -/
def meanWindow (notch : List (Nat × Nat)) : Window := ⟨1, 160, notch, 1031250 + ((notch.map fun n => notchNs (some n)).sum).ceil.toNat⟩

/-- The window of an output (R150, R151). -/
def outWindow (o : OutDue) : Window := ⟨fieldIn o.set F.FLT_CTL_ORDER, 8 * rateK (fieldIn o.set F.FLT_CTL_RATE), o.notch, o.settle⟩

/-- The weight of the on-time before raw sample `e`, from the present state and the raw samples of its changes, latest first; `upper` is the weight of what
is later. -/
def onPart (w : Nat → Rat) (e : Nat) : Bool → List Nat → Rat → Rat
  | on, [], upper => if on then 1 - upper else 0
  | on, a :: rest, upper => (if on then w (e - a) - upper else 0) + onPart w e (!on) rest (w (e - a))

/-- The weight of cell `m`'s on-time in the window that ends with raw sample `e` (R170): 0 and 1 where it was off or on throughout. -/
def onWeight (b : Block) (m e : Nat) (w : Window) : Rat :=
  let c := balOf b m
  let edges := c.edges.map (8 * ·)
  if edges.all fun d => decide (e ≤ d ∨ d * 6250 + w.span ≤ e * 6250) then
    onPart (fun k => if k = 0 then 0 else 1) e (countsOn c) edges 0
  else onPart (fun k => if w.span ≤ k * 6250 then 1 else windowStep w k) e (countsOn c) edges 0

/-- Populated positions of tier `t` as the window that ends with raw sample `e` holds them: those of its set, and those that were removed within it (R124, R169). -/
def popOver (b : Block) (set : List (Nat × Word)) (e : Nat) (w : Window) (t : Nat) : Nat :=
  ((b.fe.absent.filter fun x => decide (tierOf x.1 = t ∧ e * 6250 < x.2 * 50000 + w.span)).map fun x => localOf x.1).foldl max (popIn set t)

/-- Bleed current of cell `m` in mA over a window (R170); an absent cell has had none. -/
def windowCurrent (b : Block) (m e : Nat) (w : Window) : Rat :=
  if m = 0 ∨ 192 < m then 0 else
  let x := onWeight b m e w
  if x = 0 then 0 else iOn b m * x

/-- The frames over which the reduction of the regulated current is spread (R136): those that follow the step in its chain tick, which ends before frame `fin`; where none
follows, those of the whole chain tick (DESIGN CHOICE, log entry 10). -/
def stepFramesOf (d fin : Nat) : List Nat := if d + 1 < fin then span (d + 1) (fin - 1) else span (fin - 20) d

/-- The supply current of tier `t` beyond its regulated value in frame `i`, in mA, for a test with the step in frame `d` whose chain tick ends before frame `fin` (R136): the
step, and the reduction by its charge; how the part spreads the reduction is free (log entry 10). -/
def stepShape (t d fin i : Nat) : Rat :=
  let share := fun k => Config.stepShare t d k + 1
  let sum := ((stepFramesOf d fin).map share).sum
  (if i = d then 5 else 0) - (if (stepFramesOf d fin).contains i then 5 * (share i : Rat) / (sum : Rat) else 0)

/-- The step current of one test over a window that ends with raw sample `e`, in mA, weighted as R170 says. -/
def stepPart (t d fin e : Nat) (w : Window) : Rat :=
  let from_ := (stepFramesOf d fin).foldl min d
  if e ≤ 8 * from_ ∨ fin * 50000 + w.span ≤ e * 6250 then 0 else
  ((span from_ (min fin ((e + 7) / 8) - 1)).map fun i => stepShape t d fin i * (windowStep w (e - 8 * i) - windowStep w (e - 8 * i - 8))).sum

/-- The step current of open-wire tests in tap `m` over the window, in mA (R136, R169): at the tier's top tap, and reversed at its reference. -/
def stepCurrent (b : Block) (pop : Nat → Nat) (m e : Nat) (w : Window) : Rat :=
  b.fe.steps.foldl (fun x (t, d, fin) =>
    if m = topCell pop t then x + stepPart t d fin e w
    else if m = lowerTap pop (12 * t + 1) then x - stepPart t d fin e w else x) 0

/-- J of tap `m` (R169). -/
def tapCurrent (b : Block) (pop : Nat → Nat) (m e : Nat) (w : Window) : Rat :=
  windowCurrent b m e w - (match cellAbove pop m with
    | some a => windowCurrent b a e w
    | none => 0) + stepCurrent b pop m e w

/-- The correction of cell `n` in µV (R169). -/
def correction (b : Block) (set : List (Nat × Word)) (n e : Nat) (w : Window) : Rat :=
  let pop := popOver b set e w
  if fieldIn set F.FLT_BAL_CTL_CMP_EN = 0 then 0
  else hresOf b set n * tapCurrent b pop n e w - hresOf b set (lowerTap pop n) * tapCurrent b pop (lowerTap pop n) e w

/-! Events on cells that spoil impedance results (R191). -/

/-- What an event in device frame `d` does to the point in progress and to points whose results are due: `f` where the frame belongs to the point. -/
def markPoints (d : Nat) (f : Sweep → Sweep) (b : Block) : Block :=
  let from_ := fun (w : Sweep) => w.starts.head?.any fun x => decide (x ≤ d)
  let sw := b.imp.sweep.map fun w => if from_ w then f w else w
  let due := b.imp.due.map fun p => if from_ p.sweep && decide (d < p.endDev) then { p with sweep := f p.sweep } else p
  { b with imp := { b.imp with sweep := sw, due := due } }

/-- The cells `cs` are spoiled by an event in device frame `d` (R191). -/
def spoil (cs : List Nat) (d : Nat) (b : Block) : Block :=
  markPoints d (fun w => { w with spoiled := w.spoiled ++ (cs.filter fun n => w.cells.contains n && !w.spoiled.contains n) }) b

/-- The current channels that give a sweep its reference (R178). -/
def refChans (b : Block) (w : Sweep) : List Nat :=
  if w.src = 2 then [192 + getF b F.IMP_CTL_HOST_CH]
  else match fieldIn b.act F.FE_ISENSE_CTL_FEN_SRC with
    | 0 => [192]
    | 1 => [193]
    | _ => [192, 193]

/-! Result blocks (R158, R159, R314, R316). -/

/-- The channels of tier `t`: its cells, and the current channels on tier 0. -/
def tierChans (t : Nat) : List Nat := (span (12 * t) (12 * t + 11)) ++ (if t = 0 then [192, 193] else [])

/-- Cell `n` counts in the frame that ended last: it was present, or was removed within the output window that holds the frame, whose word still has data (R124). -/
def heard (b : Block) (n : Nat) : Bool :=
  let d := devF b - 1
  thereIn b.fe.setLast n || b.fe.absent.any fun x => x.1 == n && decide (d - (placeOfs b + d) % rateK (fieldIn b.fe.setLast F.FLT_CTL_RATE) < x.2)

/-- R158, R159: one channel's raw samples of the last frame: the channel is out of range, and SETL stands on it and its neighbours where it counts. -/
def overrange (ch : Nat) (xs : List Int) (b : Block) : Block :=
  let bad := (List.range xs.length).filter fun i => !inRange ch (xs.getD i 0)
  match bad with
  | [] => b
  | i :: rest =>
    let j := rest.getLastD i
    let d := devF b - 1
    let s : Setl := ⟨ch, ch, d * 50000 + i * 6250, d * 50000 + (j + 1) * 6250 + (fieldIn b.act F.FLT_CTL_ORDER + 1) * periodNs b.act, false⟩
    let b := { b with fe := { b.fe with lastOvr := mapPut (fun _ => (0, false)) b.fe.lastOvr ch (d + 1, decide (0 < xs.getD j 0)) } }
    let near := if ch < 192 then neighbours (popIn b.fe.setLast) (ch + 1) else []
    when (decide (192 ≤ ch) || heard b (ch + 1)) (fun b => each near (fun n => addSetl { s with lo := n - 1, hi := n - 1 }) (addSetl s b)) b

/-- R191: raw samples of channel `ch` out of range in device frame `d` spoil the cell, or every cell whose reference the channel gives. -/
def spoilRange (d ch : Nat) (xs : List Int) (b : Block) : Block :=
  if xs.all (inRange ch) then b
  else if ch < 192 then spoil [ch + 1] d b
  else markPoints d (fun w => if (refChans b w).contains ch then { w with spoiled := w.cells } else w) b

/-- The last frame, plus 1, in which channel `ch` was out of range; 0 for never. -/
def ovrEnd (b : Block) (ch : Nat) : Nat := (mapGet (fun _ => (0, false)) b.fe.lastOvr ch).1

/-- The last frame, plus 1, for which tier `t` delivered nothing; 0 for never. -/
def missEnd (b : Block) (t : Nat) : Nat := mapGet (fun _ => 0) b.fe.lastMiss t

/-- Tier `t` delivers nothing for device frame `d`. -/
def markMiss (t d : Nat) (b : Block) : Block :=
  { b with fe := { b.fe with lastMiss := mapPut (fun _ => 0) b.fe.lastMiss t (max (missEnd b t) (d + 1)) } }

/-- R291: until a cell has a valid average, V_n is its latest in-range first-stage output. -/
def firstVn (n : Nat) (xs : List Int) (b : Block) : Block :=
  let c := balOf b n
  if c.vnOk then b else
  match (xs.filter (inRange (n - 1))).getLast? with
  | some v => putBal n { c with vn := v } b
  | none => b

/-! Notches, second stage and averages (R148, R150, R151, R154). -/

def filtOf (b : Block) (t : Nat) : TierFilt := mapGet (fun _ => {}) b.fe.filt t

/-- The raw samples of tier `t` of device frame `d` enter its filters, once, through the notches of that frame. Where a notch enters the path, leaves it or changes, both start at
the steady state of their first sample, the unchanged one as well (DESIGN CHOICE, log entry 22). A tier that missed the control block runs on under the settings before, and its second stage changes a frame later (R315). The
running sums at a boundary of the output windows are kept for the windows to come (R150, R151). -/
def filterIn (t d : Nat) (xs : List (List Int)) (b : Block) : Block :=
  let f := filtOf b t
  if f.stop = d + 1 then b else
  let coef := if b.fe.stale.contains t then b.fe.coefOld else b.fe.coef
  let on := f.stop == d && !f.sums.isEmpty
  let zero := List.replicate xs.length (List.replicate 5 (0 : Int))
  let sums := if on then f.sums else zero
  let newTick := frame b % 20 == 1
  let edge := decide ((placeOfs b + d) % rateK (fieldIn b.fe.setLast F.FLT_CTL_RATE) = 0)
  let marks := if on then f.marks else []
  let ran := (List.range xs.length).map fun i =>
    notchAll coef ((tierChans t).getD i 0) (if on && f.coef == coef then f.notch.getD i [] else []) (xs.getD i [])
  let at_ := fun (i : Nat) => (ran.getD i ([], [])).1
  let g : TierFilt := {
    start := if b.fe.stale.contains t && b.fe.filtFrom == d then d + 1 else if on then f.start else d
    stop := d + 1
    coef := coef
    notch := ran.map (·.2)
    sums := (List.range xs.length).map fun i => (at_ i).foldl runSums (sums.getD i (List.replicate 5 0))
    tick := (List.range xs.length).map fun i => (at_ i).sum + (if newTick || !on then 0 else f.tick.getD i 0)
    ticks := if newTick then 1 else if on then f.ticks + 1 else 0
    marks := if edge then ((d, sums) :: marks).take 6 else marks }
  { b with fe := { b.fe with filt := mapPut (fun _ => {}) b.fe.filt t g } }

/-- Channel `ch`: its tier and its place among the tier's channels. -/
def chanPlace (ch : Nat) : Nat × Nat := if ch < 192 then (ch / 12, ch % 12) else (0, 12 + (ch - 192))

/-- The second stage at a window's end for channel `ch` (R150): sinc of order n and decimation 8k over the notch outputs, where the block holds all its raw samples since the
filters last changed; else none. -/
def sincOut (b : Block) (o : OutDue) (ch : Nat) : Option Rat :=
  let n := fieldIn o.set F.FLT_CTL_ORDER
  let k := rateK (fieldIn o.set F.FLT_CTL_RATE)
  let (t, i) := chanPlace ch
  let f := filtOf b t
  let lo := o.endDev - n * k
  if f.stop != o.endDev || decide (o.endDev < n * k ∨ lo < f.start ∨ lo < b.fe.filtFrom ∨ lo < ovrEnd b ch) then none else
  let sumAt := fun (s : List (List Int)) => (s.getD i []).getD (n - 1) 0
  let past := (span 1 n).map fun j => (f.marks.find? (·.1 == o.endDev - j * k)).map fun m => sumAt m.2
  if past.any (·.isNone) then none else
  let terms := (List.range n).map fun j => (if j % 2 = 0 then (-1 : Int) else 1) * (binom n (j + 1) : Nat) * (past.getD j none).getD 0
  some (((sumAt f.sums + terms.sum : Int) : Rat) / ((8 * k) ^ n * 2 ^ 24 : Nat))

/-- The mean of the 160 notch outputs of channel `ch` in the chain tick that ended (R154), where the block holds them all; else none. -/
def tickMean (b : Block) (ch : Nat) : Option Rat :=
  let (t, i) := chanPlace ch
  let f := filtOf b t
  if f.stop != devF b || f.ticks != 20 then none else some ((f.tick.getD i 0 : Rat) / (160 * 2 ^ 24 : Nat))

def sramOf (b : Block) (t : Nat) : List SramBlock := mapGet (fun _ => []) b.fe.sram t

/-- Tier `t` keeps its block of device frame `d`, and whether the supervisor has it whole; it keeps four (R316). -/
def keepBlock (t d : Nat) (xs : List (List Int)) (whole : Bool) (b : Block) : Block :=
  let old := sramOf b t
  let was := old.any fun x => x.dev == d && x.whole
  let l := (old.filter (·.dev != d)) ++ [⟨d, xs, whole || was⟩]
  { b with fe := { b.fe with sram := mapPut (fun _ => []) b.fe.sram t (l.drop (l.length - 4)) } }

/-- Frames in a row with errors, this frame's among them, from the last such frame, plus 1, and their number. -/
def errRun (b : Block) (x : Nat × Nat) : Nat × Nat := if x.1 = devF b + 1 then x else (devF b + 1, if x.1 = devF b then x.2 + 1 else 1)

/-- A code violation or a CRC-failed block marks this frame errored for one direction of hop `h` (R318); on a broken hop its error-free frames count anew from the next (R323). -/
def hopErrored (h : Nat) (up : Bool) (b : Block) : Block :=
  let x := hopOf b h
  let x := if x.upBroken || x.downBroken then { x with since := devF b + 1 } else x
  let y := if up then { x with upErr := errRun b x.upErr } else { x with downErr := errRun b x.downErr }
  { b with bw := { b.bw with hops := mapPut (fun _ => {}) b.bw.hops h y } }

/-- Code violations seen on a hop's direction (R318, R325). -/
def hopViol (e : HopErrs) (b : Block) : Block :=
  if e.errs = 0 then b else
  hopErrored e.hop.val e.up (addF (if e.up then F.BW_HOP_ERR_UP e.hop.val else F.BW_HOP_ERR_DOWN e.hop.val) e.errs.toNat b)

/-- The supervisor takes a block of tier `t` of the last frame (R158, R159, R320): its raw samples, and, before COLLECT closes, its results. -/
def takeBlock (t : Nat) (k : TierBlock) (b : Block) : Block :=
  let late := b.fe.closed
  let b := { b with fe := { b.fe with blocks := b.fe.blocks ++ [t], anyFoot := b.fe.anyFoot || k.fromFoot,
                                      samples := mapPut (fun _ => []) b.fe.samples t k.samples } }
  if late then b else
  let at_ := fun ch => k.samples.getD (if ch < 192 then ch - 12 * t else 12 + (ch - 192)) []
  let b := each (tierChans t) (fun ch => overrange ch (at_ ch)) b
  let b := each ((tierChans t).filter fun ch => decide (ch < 192) && present b (ch + 1)) (fun ch => firstVn (ch + 1) (at_ ch)) b
  fetReport t b

/-- TIER_RESULT_BLOCK (R314 to R316, R319, R320): a tier sends its data of the last frame, which its filters take in and its SRAM keeps; a second copy is discarded, and one that a
break cuts has not arrived. A block whose CRC fails counts at its hop and has not arrived either: the tier is NODATA unless a sound copy comes by COLLECT's end. A tier whose test
begins with this frame still sends what it sampled before (R482). -/
def tierBlock (t : Nat) (k : TierBlock) (b : Block) : Block :=
  if !tierSends b t || b.fe.blocks.contains t then b else
  let d := devF b - 1
  let whole := k.crcFail.isNone && !k.cut
  let b := keepBlock t d k.samples whole (filterIn t d k.samples (each k.viol hopViol b))
  match k.crcFail with
  | some h =>
    let f : Fld := if k.fromFoot then F.BW_HOP_CRC_DOWN h.val else F.BW_HOP_CRC_UP h.val
    let b := hopErrored h.val (!k.fromFoot) (count 0x31 1 { tier := some t } (addF f 1 b))
    if b.fe.closed then b else { b with fe := { b.fe with crcBad := b.fe.crcBad ++ [(t, h.val)] } }
  | none => if whole then takeBlock t k b else b

/-- A COLLECT miss that nothing but a break of the same frame explains (R320): COLLECT overruns, for as long as no break is declared in the frame. -/
def collectOverrun (b : Block) : Block :=
  let new := !bitOf (getR b R.GEN_OVR_STATUS).toNat 0
  overrun 0 { b with fe := { b.fe with missOvr := some (devF b, new) } }

/-- A break is declared in this frame: a COLLECT miss that the frame has had is its own, and GEN_OVR_STATUS, the frame's event and GEN_OVR_CNT do not show it (R320). What SLUICE_EVAL
or the event counters have taken already stays (DESIGN CHOICE, log entry 18). -/
def collectForgive (b : Block) : Block :=
  match b.fe.missOvr with
  | some (d, new) =>
    if d ≠ devF b then b else
    let mine := fun (e : EventRec) => e.code == 0x10 && e.frame == frame b
    let alone := b.sl.events.any fun e => mine e && e.v0 == 1
    let b := when new (setF ⟨R.GEN_OVR_STATUS, 0, 1⟩ 0) { b with fe := { b.fe with missOvr := none } }
    if alone then
      let c := condOf b Slot.frameOvr
      putCond Slot.frameOvr { c with pulse := false, pulseDet := 0 } (setR R.GEN_OVR_CNT (getR b R.GEN_OVR_CNT - 1)
        { b with clock := { b.clock with ovrFrame := 0 }, sl := { b.sl with events := b.sl.events.filter fun e => !mine e } })
    else { b with sl := { b.sl with events := b.sl.events.map fun e => if mine e then { e with v0 := e.v0 - e.v0 % 2 } else e } }
  | none => b

/-- COLLECT_DEADLINE (R30, R320): the tiers whose data of the last frame have not arrived are NODATA for it; a miss overruns COLLECT unless a break was
declared in this frame, and BW_LINKERR reports a block whose CRC failed. The first frame has none before it to collect. -/
def collectDeadline (b : Block) : Block :=
  if !framesRun b || b.fe.closed || !b.fe.started then b else
  if devF b ≤ b.fe.since then { b with fe := { b.fe with closed := true } } else
  let late := (List.range 16).filter fun t => !b.fe.blocks.contains t
  let b := each late (fun t => markMiss t (devF b - 1)) { b with fe := { b.fe with closed := true } }
  let b := each (b.fe.crcBad.filter fun x => late.contains x.1) (fun x => pulse Slot.bwLinkErr (2 ^ x.2)) b
  let beyond := late.any (fun t => tierSends b t && !b.fe.crcBad.any (·.1 == t)) && b.bw.breakFrame != some (devF b)
  when beyond collectOverrun b

/-! Outputs (R151, R155 to R157, R171 to R175). -/

/-- The record of device frame `d` contains data that came over a broken ring (R321). -/
def rerouted (b : Block) (d : Nat) : Bool := b.fe.anyFoot || b.bw.spans.any fun s => decide (s.1 ≤ d ∧ d ≤ s.2)

/-- At the tick that ends a window, before that tick's commit: the output that is due (R26, R151, R161). -/
def outputDue (b : Block) : Option OutDue :=
  let k := activeK b
  if frame b % k ≠ 0 || devF b < b.fe.since + k || !b.fe.started then none else
  some {
    frame := frame b - 1
    endDev := devF b
    set := b.act
    count := getF b F.FLT_ACTIVE_COMMIT_CNT
    notch := notchesIn b b.act
    n1 := (notchOf b b.act 1).isSome
    n2 := (notchOf b b.act 2).isSome
    pol := ((notchOf b b.act 1).isSome && fieldIn b.act (F.FLT_NOTCH_SRC 1) = 1) || ((notchOf b b.act 2).isSome && fieldIn b.act (F.FLT_NOTCH_SRC 2) = 1)
    f0 := ((notchOf b b.act 1).map (·.1)).getD 0
    settle := settleUp b b.act
    quiet := match b.fe.quiet with
      | some (_, hi) => hi = devF b
      | none => false
    quietFrom := match b.fe.quiet with
      | some (lo, _) => lo
      | none => devF b }

/-- The tap above or below cell `n` is open (R137, R155). -/
def owLive (pop : Nat → Nat) (b : Block) (n : Nat) : Bool := b.fe.owOpen.contains n || b.fe.owOpen.contains (lowerTap pop n)

/-- The FET of cell `n` was on within `span` ns before the window's end (R155, R175). -/
def onWithin (b : Block) (n e span : Nat) : Bool :=
  let c := balOf b n
  (countsOn c && decide (c.onFrom < e)) || (match c.offFrom with
    | some f => decide (e * 50000 < f * 50000 + span)
    | none => false)

/-- A word from its code and flags (R155). -/
def mkWord (code : Nat) (ovr ow bal cmp quiet setl chk nodata : Bool) : Nat :=
  if nodata then 1 else
  code % 2 ^ 24 * 256 + nat01 ovr * 128 + nat01 ow * 64 + nat01 (bal && !quiet) * 32 + nat01 (cmp && !quiet) * 16 + nat01 quiet * 8
    + nat01 (setl || ovr) * 4 + nat01 chk * 2

/-- R158: the code of an output: the sentinel when a raw sample of its window was out of range, else the value held off the sentinels. -/
def outCode (ch : Nat) (v : Rat) : Nat :=
  unsigned 24 (clampInt (-8388607) 8388606 (published (100 + ch) v))

/-- The first device frame whose loss leaves an output without data: that of its window, and of its quiet interval (R151, R173). A tier that misses a single frame of the interval
before the window counts as unavailable during the interval, so that its words carry NODATA (DESIGN CHOICE, log entry 22). -/
def outFrom (o : OutDue) : Nat :=
  let lo := o.endDev - rateK (fieldIn o.set F.FLT_CTL_RATE)
  if o.quiet then min lo o.quietFrom else lo

/-- The word of cell `n` of an output (R155, R157, R171, R172). -/
def cellWord (b : Block) (o : OutDue) (n : Nat) (code : Rat) : Nat :=
  let k := rateK (fieldIn o.set F.FLT_CTL_RATE)
  let lo := o.endDev - k
  let leaving := match b.fe.absent.find? (·.1 == n) with
    | some (_, t) => decide (lo < t ∧ t < o.endDev)
    | none => false
  let here := thereIn o.set n || leaving
  let nodata := !here || decide (outFrom o < missEnd b (tierOf n))
  let ovr := decide (lo < ovrEnd b (n - 1))
  let corr := if o.quiet then 0 else correction b o.set n (8 * o.endDev) (outWindow o)
  let sent := if (mapGet (fun _ => (0, false)) b.fe.lastOvr (n - 1)).2 then 0x7FFFFF else 0x800000
  mkWord (if ovr then sent else outCode (n - 1) (code + corr)) ovr
    (owLive (popIn o.set) b n) (onWithin b n o.endDev o.settle) (corr != 0) o.quiet
    (setlCovers b (n - 1) (o.endDev * 50000)) (b.fe.chkBad.contains n) nodata

/-- The word of current channel `k` (0 or 1) of an output (R156). -/
def currentWord (b : Block) (o : OutDue) (k : Nat) (code : Rat) (chk : Bool) : Nat :=
  let ch := 192 + k
  let lo := o.endDev - rateK (fieldIn o.set F.FLT_CTL_RATE)
  let ovr := decide (lo < ovrEnd b ch)
  let sent := if (mapGet (fun _ => (0, false)) b.fe.lastOvr ch).2 then 0x7FFFFF else 0x800000
  mkWord (if ovr then sent else outCode ch code) ovr false false false o.quiet (setlCovers b ch (o.endDev * 50000)) chk (decide (outFrom o < missEnd b 0))

/-- R126: channel 1 against channel 2 mapped onto it; suspended where a word carries OVR, SETL or NODATA. -/
def plausibility (o : OutDue) (w1 w2 : Nat) (b : Block) : Block :=
  if fieldIn o.set F.FE_ISENSE_CTL_PL_EN = 0 then { b with fe := { b.fe with plCount := 0, plBad := false } }
  else if (w1 ||| w2) &&& 0x85 ≠ 0 then { b with fe := { b.fe with plCount := 0 } }
  else
    let mapped : Rat := (signed 32 (fieldIn o.set F.FE_IPL_GAIN_GAIN) : Rat) / 1073741824 * signed 24 (w2 / 256) + signed 32 (fieldIn o.set F.FE_IPL_OFS_OFS)
    let d := (signed 24 (w1 / 256) : Rat) - mapped
    let dis := decide ((fieldIn o.set F.FE_ISENSE_CTL_PL_THR : Rat) * 100 < (if d < 0 then -d else d))
    let n := if dis then min 256 (b.fe.plCount + 1) else 0
    let bad := dis && (b.fe.plBad || decide (fieldIn o.set F.FE_ISENSE_CTL_PL_N ≤ n))
    setLevel Slot.feIpl (bad && fieldIn b.act F.FE_ISENSE_CTL_PL_EN = 1) 0 { b with fe := { b.fe with plCount := n, plBad := bad } }

/-- The bit and the counter event of each flag (R447): OVR, OW, CHK, SETL, NODATA, QUIET, BAL, CMP. -/
def flagEvents : List (Nat × Nat) := [(7, 0x10), (6, 0x11), (1, 0x12), (2, 0x13), (0, 0x14), (3, 0x15), (5, 0x16), (4, 0x17)]

/-- Words of a FRAME record counted by flag (R447). -/
def countWord (w : Nat) (q : Qual) (b : Block) : Block :=
  if b.cap.counters.isEmpty then b else
  each flagEvents (fun (bit, code) b => when (bitOf w bit) (count code 1 q) b) b

/-- R151, R174, R175: the outputs of the window that ended at the last tick become the FRAME record of its frame; `codes` are the tier dies' codes, channel by
channel, where the block does not form them itself (log entry 22). -/
def filterOutput (codes : List Int) (b : Block) : Block :=
  match b.fe.outDue with
  | none => b
  | some o =>
    let b := { b with fe := { b.fe with outDue := none } }
    let code := fun ch => (sincOut b o ch).getD (codes.getD ch 0 : Int)
    let cells := (span 1 192).map fun n => cellWord b o n (code (n - 1))
    let c1 := currentWord b o 0 (code 192) false
    let c2 := currentWord b o 1 (code 193) false
    let b := plausibility o c1 c2 b
    let chk := b.fe.plBad && c1 % 2 = 0
    let c1 := c1 + nat01 (chk && c1 % 2 = 0) * 2
    let c2 := c2 + nat01 (chk && c2 % 2 = 0) * 2
    let k := rateK (fieldIn o.set F.FLT_CTL_RATE)
    let on := (List.range 16).filter fun t => (tierCells t).any fun n => onWithin b n o.endDev (k * 50000)
    let av := (List.range 16).filter fun t => decide (missEnd b t ≤ o.endDev - k)
    let fset := b.fe.setl.any fun s => s.filter && decide (s.after < o.endDev * 50000 ∧ o.endDev * 50000 < s.until_)
    let wa := tierBits on * 2 ^ 16 + tierBits av
    let wb := fieldIn o.set F.FLT_CTL_RATE * 2 ^ 28 + fieldIn o.set F.FLT_CTL_ORDER * 2 ^ 25 + nat01 o.n1 * 2 ^ 24 + nat01 o.n2 * 2 ^ 23
      + nat01 o.pol * 2 ^ 22 + nat01 o.quiet * 2 ^ 21 + nat01 fset * 2 ^ 20 + o.count % 16 * 2 ^ 16 + o.f0 % 2 ^ 16
    let ws := cells ++ [c1, c2]
    let b := each (span 1 192) (fun n => countWord (cells.getD (n - 1) 0) { tier := some (tierOf n), cell := some n }) b
    let b := countWord c2 { tier := some 0 } (countWord c1 { tier := some 0 } b)
    let b := { b with fe := { b.fe with lastWord := (List.range 194).foldl (fun m i => mapPut (fun _ => 1) m i (ws.getD i 1)) b.fe.lastWord
                                        tickBad := (span 1 192).filter fun n => b.fe.tickBad.contains n || (ws.getD (n - 1) 1) &&& 0x43 != 0 } }
    queueRec { typ := 0x01, node := ownNode b, rerouted := rerouted b (o.endDev - 1), frame := o.frame, dev := o.endDev - 1, payload := (ws ++ [wa, wb]).map w32 } b

/-! Open-wire tests (R135 to R139). -/

/-- The rotation of tier `t` under the active set. -/
def owRotation (b : Block) (t : Nat) : List Nat := span (if t = 0 then 0 else 1) (populated b t)

/-- The tap of tier `t` in the next diagnostic frame (R135). -/
def owNext (b : Block) (t : Nat) : Nat :=
  let r := owRotation b t
  (r.find? fun j => decide (getF b (F.FE_OW_STATUS_NEXT t) ≤ j)).getD (r.headD 0)

/-- The tap after `j` in the rotation of tier `t`. -/
def owAfter (b : Block) (t j : Nat) : Nat :=
  let r := owRotation b t
  (r.find? fun i => decide (j < i)).getD (r.headD 0)

/-- The cells concerned by tap `j` of tier `t`: the cell below and the cell above (R136). -/
def owCells (b : Block) (t j : Nat) : Option Nat × Option Nat :=
  if j = 0 then (some 1, none) else (some (12 * t + j), cellAbove (popIn b.act) (12 * t + j))

/-- The concerned cells as a list. -/
def owList (x : Option Nat × Option Nat) : List Nat := x.1.toList ++ x.2.toList

/-- R138: the test of tap `j` of tier `t` is postponed. -/
def owPostpone (t j : Nat) (b : Block) : Block :=
  let tap := 12 * t + j
  let n := mapGet (fun _ => 0) b.fe.owPost tap + 1
  let b := { b with fe := { b.fe with owPost := mapPut (fun _ => 0) b.fe.owPost tap (min 64 n) } }
  let b := count 0x19 1 { tier := some t } (addF (F.FE_OW_STATUS_POSTPONE_CNT t) 1 b)
  when (decide (64 ≤ n)) (levelBit (Slot.feOwStarved t) j true) b

/-- Bleed activity of cell `n` in frame `d` or the frame before bars a test of its taps (R138): excitation, or a change of its FET. -/
def owBusy (b : Block) (n d : Nat) : Bool :=
  let c := balOf b n
  let near := fun f => decide (0 < f ∧ f ≤ d ∧ d ≤ f + 1)
  (c.excite && decide (c.exFrom ≤ d)) || decide (0 < c.exTo ∧ d ≤ c.exTo) || near c.onFrom || (match c.offFrom with
    | some f => near f
    | none => false)

/-- The set that tier `t` runs on: a tier that missed the control block of a setting is still on the one before (R315). -/
def tierSet (b : Block) (t : Nat) : List (Nat × Word) := if b.fe.ctlMiss.contains t then b.fe.setOld else b.act

/-- OPEN_WIRE_TEST (R135, R136, R138): in a diagnostic frame each enabled tier tests the tap whose turn it is. -/
def openWireTest (b : Block) : Block :=
  let period := actF b F.FE_OW_CTL_PERIOD
  if !framesRun b || !b.fe.started || period = 0 || frame b % period ≠ 0 || b.fe.owFrame = some (devF b) then b else
  let b := { b with fe := { b.fe with owFrame := some (devF b), owTest := [], steps := b.fe.steps.filter fun s => decide (nowNs b < s.2.2 * 50000 + settleUp b b.act) } }
  each (List.range 16) (fun t b =>
    if fieldIn (tierSet b t) (F.FE_TIER_CTL_OW_EN t) = 0 then b else
    let j := owNext b t
    let b := setF (F.FE_OW_STATUS_NEXT t) j b
    let cs := owList (owCells b t j)
    if quietNow b || jumped b || cs.any (fun n => owBusy b n (devF b)) then owPostpone t j b
    else
      let b := { b with fe := { b.fe with owTest := b.fe.owTest ++ [⟨t, j, (owCells b t j).1, (owCells b t j).2, decide (j = 0 ∨ j = populated b t)⟩] } }
      if j = 0 ∨ j = populated b t then
        let b := { b with fe := { b.fe with steps := b.fe.steps ++ [(t, devF b, devF b + 20 - frame b % 20)] } }
        if actF b F.FLT_BAL_CTL_CMP_EN = 1 then b else
        let pop := popIn b.act
        let lo := lowerTap pop (12 * t + 1)
        let cells := (if lo = 0 then [] else [lo]) ++ [12 * t + 1, topCell pop t] ++ (cellAbove pop (topCell pop t)).toList
        each cells (fun n => addSetl ⟨n - 1, n - 1, nowNs b, nowNs b + 50000 + settleUp b b.act, false⟩) b
      else b) b

/-- The shift of cell `n` (R136): the last first-stage output of the diagnostic frame less eight times the mean of the frame before, times eight. -/
def owShift8 (b : Block) (n : Nat) : Int :=
  let at_ := fun (m : List (Nat × List (List Int))) => (mapGet (fun _ => []) m (tierOf n)).getD (localOf n - 1) []
  8 * (at_ b.fe.samples).getLastD 0 - (at_ b.fe.prev).sum

/-- R139: a passing test enters the average of its tap, published after 2^AVG of them. Where two cells are concerned the spec does not say whose shift enters, nor
whether signed shifts are averaged: the magnitude of the cell below enters (DESIGN CHOICE, log entry 37). -/
def owHarness (x : OwTest) (shift8 : Int) (b : Block) : Block :=
  let tap := 12 * x.tier + x.tap
  let unit : Rat := if x.step then 2 else 100
  let (n, sum) := mapGet (fun _ => (0, 0)) b.fe.owSum tap
  let n := n + 1
  let sum := sum + shift8.natAbs
  if n < 2 ^ actF b F.FE_OW_CTL_AVG then { b with fe := { b.fe with owSum := mapPut (fun _ => (0, 0)) b.fe.owSum tap (n, sum) } }
  else
    let r := publishedIn 10 16 ((sum : Rat) / 8 / (n : Rat) * unit)
    let b := { b with fe := { b.fe with owSum := mapPut (fun _ => (0, 0)) b.fe.owSum tap (0, 0) } }
    if tap = 0 then setF F.FE_HRES_MEAS_C0_VALID 1 (setF F.FE_HRES_MEAS_C0_RES r b)
    else setF (F.FE_HRES_MEAS_VALID tap) 1 (setF (F.FE_HRES_MEAS_RES tap) r b)

/-- R137: the result of a test, on the cells that it concerned in its own frame (R124). -/
def owJudge (x : OwTest) (b : Block) : Block :=
  let t := x.tier
  let j := x.tap
  let tap := 12 * t + j
  let lo := x.lo
  let hi := x.hi
  let d := b.fe.owFrame.getD 0
  let thr : Int := 800 * (actF b F.FE_OW_CTL_THR : Nat)
  let cs := owList (lo, hi)
  if cs.any (fun n => decide (d ≤ missEnd b (tierOf n)) || !b.fe.blocks.contains (tierOf n) || owBusy b n d) then owPostpone t j b
  else
    let isOpen := lo.all (fun n => decide (owShift8 b n < -thr)) && hi.all (fun n => decide (thr < owShift8 b n))
    let b := count 0x18 1 { tier := some t } (setF (F.FE_OW_STATUS_NEXT t) (owAfter b t j) b)
    let b := levelBit (Slot.feOwStarved t) j false { b with fe := { b.fe with owPost := mapPut (fun _ => 0) b.fe.owPost tap 0 } }
    if isOpen then
      let b := { b with fe := { b.fe with owOpen := addOnce tap b.fe.owOpen, owGood := mapPut (fun _ => 0) b.fe.owGood tap 0 } }
      spoil cs d (levelBit (Slot.feOw t) j true b)
    else
      let b := owHarness x (match lo with
        | some n => owShift8 b n
        | none => 0) b
      if !b.fe.owOpen.contains tap then b
      else if mapGet (fun _ => 0) b.fe.owGood tap = 0 then { b with fe := { b.fe with owGood := mapPut (fun _ => 0) b.fe.owGood tap 1 } }
      else levelBit (Slot.feOw t) j false
        { b with fe := { b.fe with owOpen := b.fe.owOpen.filter (· != tap), owGood := mapPut (fun _ => 0) b.fe.owGood tap 0 } }

/-- The tests of the last frame are judged in SLUICE_EVAL (R137). -/
def owEval (b : Block) : Block :=
  match b.fe.owFrame with
  | some d =>
    if d + 1 = devF b then each b.fe.owTest owJudge { b with fe := { b.fe with owTest := [] } } else b
  | none => b

/-! Check converters (R140 to R143). -/

/-- The chain tick of the 20 ms cycle (R140). -/
def chkTick (b : Block) : Nat := frame b % 400 / 20

/-- Positions by tier that the check-conversion schedule covers under the active set (R124, R140). -/
def chkScheduled (b : Block) : List (Nat × Nat) := (List.range 16).map fun t => (t, actF b (F.FE_TIER_CTL_CELL_EN t))

/-- A cycle of 20 ms takes up the set in force (R124). -/
def chkCycle (b : Block) : Block := when (frame b % 400 == 0) (fun b => { b with fe := { b.fe with chkSet := chkScheduled b } }) b

/-- The 20 ms cycle in progress began no later than a frame-number jump (R360): it is abandoned. -/
def chkCut (b : Block) : Bool := b.cw.jumpAt.any fun j => decide (devF b ≤ frame b % 400 + j)

/-- CHECK_CONVERSION (R140): eight conversions of local cell i + 1 in the first frame of chain tick i. -/
def checkConversion (ks : List CheckInput) (b : Block) : Block :=
  if !framesRun b || 12 ≤ chkTick b || 1 < frame b % 20 || chkCut b then b else
  each ks (fun k b =>
    let n := 12 * k.tier.val + chkTick b + 1
    let covered := b.fe.chkSet.any fun x => x.1 == k.tier.val && bitOf x.2 (chkTick b)
    if fieldIn (tierSet b k.tier.val) (F.FE_TIER_CTL_CHK_EN k.tier.val) = 0 ∨ !present b n ∨ !covered then b
    else { b with fe := { b.fe with chkPend := (b.fe.chkPend.filter (·.cell != n)) ++ [⟨n, devF b - frame b % 20, k.sar.sum, k.sd.sum⟩] } }) b

/-- R141, R142: one comparison judged in the SLUICE_EVAL of the next frame. -/
def chkJudge (p : ChkPend) (b : Block) : Block :=
  let n := p.cell
  let t := tierOf n
  let skip := ovrEnd b (n - 1) = p.dev + 1 || setlCovers b (n - 1) ((p.dev + 1) * 50000) || decide (missEnd b t = p.dev + 1) ||
    owLive (popIn b.fe.setLast) b n || decide (p.sd < 800000 ∨ 52000000 < p.sd)
  if skip then b else
  let d : Rat := ((p.sar * 100 : Nat) - p.sd : Rat) / 800
  let dis := decide ((actF b F.FE_CHK_CTL_CHK_THR : Rat) < (if d < 0 then -d else d))
  let b := setF (F.FE_CHK_LAST_SAR n) (publishedIn 11 16 ((p.sar : Rat) / 8)) b
  let b := setF (F.FE_CHK_LAST_DIFF n) (unsigned 16 (clampInt (-32768) 32767 (published 12 d))) b
  let b := count 0x1A 1 { tier := some t, cell := some n } b
  let b := when dis (count 0x1B 1 { tier := some t, cell := some n }) b
  let b := { b with fe := { b.fe with chkBad := if dis then addOnce n b.fe.chkBad else b.fe.chkBad.filter (· != n) } }
  levelBit (Slot.feChk t) (localOf n) dis b

/-- The comparisons of the last frame are judged (R141). -/
def chkEval (b : Block) : Block :=
  let (now, later) := b.fe.chkPend.partition fun p => decide (p.dev < devF b)
  each now chkJudge { b with fe := { b.fe with chkPend := later } }

/-- The open-wire tests and check comparisons of the last frame are judged, before the words of its output (R137, R141). -/
def judgeLast (b : Block) : Block := chkEval (owEval b)

/-- FILTER_OUTPUT (R151): an output that is due is formed. -/
def outputFormed (codes : List Int) (b : Block) : Block := if b.fe.outDue.isNone then b else filterOutput codes (judgeLast b)

/-- Chain-tick conditions are evaluated in the frame after their conversions complete (R144): source `i`'s condition from the next tick on. -/
def levelLater (i : Nat) (on : Bool) (det : Nat) (b : Block) : Block := { b with fe := { b.fe with levelsDue := b.fe.levelsDue ++ [(i, on, det)] } }

/-- At a frame tick what conversions of the last frame found is there to be evaluated (R144). -/
def levelsTick (b : Block) : Block := each b.fe.levelsDue (fun (i, on, det) => setLevel i on det) { b with fe := { b.fe with levelsDue := [] } }

/-- CHECK_REF_CROSS (R143): chain tick 12 of the cycle. -/
def checkRefCross (ks : List RefCross) (b : Block) : Block :=
  if !framesRun b || chkTick b ≠ 12 || chkCut b then b else
  each ks (fun k b =>
    let t := k.tier.val
    if fieldIn (tierSet b t) (F.FE_TIER_CTL_CHK_EN t) = 0 then b else
    let b := setF (F.FE_CHK_REF_LAST_VALID t) 1 (setF (F.FE_CHK_REF_LAST_DIFF t) (unsigned 16 (clampInt (-32768) 32767 k.diff)) b)
    levelLater (Slot.feChkRef t) (decide (actF b F.FE_CHK_CTL_REF_THR < k.diff.natAbs)) 0 b) b

/-! Auxiliary conversions (R127 to R134, R176). -/

/-- R132: the temperature of an NTC with ratio `r` / 65536 and β, in 1/128 °C. -/
def ntcTemp (place r beta : Nat) : Int :=
  let ln := ofQ (lnQ ((r : Rat) / (65536 - r : Nat)))
  let inv : Rat := 20 / 5963 + ln / (beta : Rat)
  published place ((1 / inv - 5463 / 20) * 128)

/-- One NTC input (R132, R133): its temperature word, and whether it is open or shorted. -/
def ntcInput (place : Nat) (en : Bool) (r beta : Nat) : Nat × Bool :=
  if !en then (0x8000, false)
  else if decide (98 * 65536 < 100 * r) || decide (100 * r < 2 * 65536) then (0x8000, true)
  else (unsigned 16 (clampInt (-32767) 32767 (ntcTemp place r beta)), false)

/-- R117: DRIFT follows the die temperatures; FE_SKEW follows it where AUTO is 0 (R120). -/
def driftCheck (b : Block) : Block :=
  let k := min 40 (max 1 (getF b F.FE_ALIGN_CTL_DRIFT_K))
  let bad := b.fe.auxTiers.any fun t => match b.fe.refTemp.find? (·.1 == t) with
    | some (_, r) => decide (128 * k < (mapGet (fun _ => 0) b.fe.dieTemp t - r).natAbs)
    | none => false
  let new := bad && !isF b F.FE_STATUS_DRIFT
  let b := when bad (setF F.FE_STATUS_DRIFT 1) b
  let auto := isF b F.FE_ALIGN_CTL_AUTO
  let b := when (new && auto && b.fe.fineFrom.isNone) (fun b => { b with fe := { b.fe with fineReq := true } }) b
  levelLater Slot.feSkew ((isF b F.FE_STATUS_DRIFT && !auto) || b.fe.fineBad) 0 b

/-- Pack-side voltage of a divider in mV from its land voltage in µV (R127). -/
def vdivMv (b : Block) (k land_ : Nat) : Nat := publishedIn 13 32 ((land_ : Rat) * actF b (F.FE_DIV_RATIO_RATIO k) / 65536000)

/-- One tier's conversions reach the supervisor (R131 to R134). -/
def auxTake (x : AuxInput) (b : Block) : Block :=
  let t := x.tier.val
  let (ta, badA) := ntcInput 14 (actF b (F.FE_TIER_CTL_NTCA_EN t) = 1) x.ratioA (actF b (F.FE_NTC_BETA_BETA_A t))
  let (tb, badB) := ntcInput 15 (actF b (F.FE_TIER_CTL_NTCB_EN t) = 1) x.ratioB (actF b (F.FE_NTC_BETA_BETA_B t))
  let die := clampInt (-32767) 32767 x.die
  let b := setF (F.FE_AUX_NTC_TA t) ta (setF (F.FE_AUX_NTC_TB t) tb b)
  let b := setF (F.FE_AUX_T_DIE t) (unsigned 16 die) (setF (F.FE_AUX_T_VT t) (min 65535 x.vt) b)
  let b := if badA || badB || condOf b (Slot.feNtc t) ≠ {} then levelLater (Slot.feNtc t) (badA || badB) (nat01 badA + nat01 badB * 2) b else b
  let ot := signed 16 (actF b F.FE_LIMIT_CTL_DIE_OT)
  let was := (condOf b (Slot.feDieOt t)).level
  let hot := decide (ot < die) || (was && decide (ot - 256 < die))
  let b := if hot || was then levelLater (Slot.feDieOt t) hot 0 b else b
  { b with fe := { b.fe with dieTemp := mapPut (fun _ => 0) b.fe.dieTemp t die } }

/-- One tier's conversions: delivered in their chain tick, or kept by a tier that the supervisor cannot hear (R316), its newest in place of older ones. -/
def auxTier (x : AuxInput) (b : Block) : Block :=
  let t := x.tier.val
  if tierAvail b t then let c := auxTake x b; { c with fe := { c.fe with auxTiers := addOnce t c.fe.auxTiers } }
  else if tierPowered b t then { b with fe := { b.fe with auxKept := b.fe.auxKept.filter (fun y => y.tier.val != t) ++ [x] } }
  else b

/-- Auxiliary results that tiers have kept reach the supervisor with the first frame in which it hears them (R316); they are no delivery of the present chain tick (R176). What a
stopped tier kept is lost. -/
def auxLate (b : Block) : Block :=
  let (now, later) := b.fe.auxKept.partition fun x => tierAvail b x.tier.val
  each now auxTake { b with fe := { b.fe with auxKept := later.filter fun x => tierPowered b x.tier.val } }

/-- A tier and its present cells carry nothing that suspends the checks of R128 and R130. -/
def sumsOk (b : Block) (t : Nat) : Bool :=
  tierAvail b t && (((tierCells t).filter (present b)).all fun n =>
    (mapGet (fun _ => 1) b.fe.lastWord (n - 1)) &&& 0xC1 == 0 && b.fe.avgOk.contains n)

/-- Sum of the chain-tick averages of the present cells of tier `t`, in µV. -/
def tierSum (b : Block) (t : Nat) : Int := (((tierCells t).filter (present b)).map fun n => mapGet (fun _ => 0) b.fe.avg n).sum

/-- R127 to R129: the dividers of tier 0, the contactor state, the stack sum. -/
def stackCheck (v1 v2 : Nat) (b : Block) : Block :=
  let b := setR (R.FE_VDIV 2) (w32 (vdivMv b 2 v2)) (setR (R.FE_VDIV 1) (w32 (vdivMv b 1 v1)) b)
  let m1 : Int := (getR b (R.FE_VDIV 1)).toNat
  let m2 : Int := (getR b (R.FE_VDIV 2)).toNat
  let closed := decide ((m2 - m1).natAbs ≤ 100 * actF b F.FE_LIMIT_CTL_CONT_THR)
  let change := b.fe.contOwed || closed != isF b F.FE_STATUS_CONTACTOR
  let b := putF F.FE_STATUS_CONTACTOR closed { b with fe := { b.fe with contOwed := false } }
  let b := when change (event 0x13 (nat01 closed) 0 0 0) b
  if !(List.range 16).all (sumsOk b) then b else
  let sum := ((List.range 16).map (tierSum b)).sum
  let b := setR R.FE_STACK_SUM (w32 (unsigned 32 (published 16 ((sum : Rat) / 1000)))) b
  let s := signed 32 (getR b R.FE_STACK_SUM).toNat
  levelLater Slot.feStackSum (decide (10 * actF b F.FE_THR_CTL_STACK_THR < (m1 - s).natAbs)) 0 b

/-- R130 for one tier. -/
def tierSumCheck (x : AuxInput) (b : Block) : Block :=
  let t := x.tier.val
  if !sumsOk b t then b else
  let bad := decide (1000 * actF b F.FE_THR_CTL_TIER_THR < (1000 * (x.vt : Int) - tierSum b t).natAbs)
  if bad || condOf b (Slot.feTierSum t) ≠ {} then levelLater (Slot.feTierSum t) bad 0 b else b

/-- AUX_CONVERSION_DONE (R127 to R134, R117). -/
def auxDone (xs : List AuxInput) (b : Block) : Block :=
  if !framesRun b || 1 < frame b % 20 then b else
  let b := each xs auxTier b
  let b := each xs tierSumCheck b
  let b := match xs.find? (fun x => x.tier.val == 0 && tierAvail b 0) with
    | some x => stackCheck x.vdiv1 x.vdiv2 b
    | none => b
  driftCheck b

/-- R176: the AUX record of the chain tick whose conversions are over, queued for EMIT in frame 20c + 2; `first`: frame 20c, whose device frame is `dev`. Its data come over the
Boardwalk by the end of frame 20c + 1, so that a break in that frame marks it too (R321). -/
def auxRecord (first dev : Nat) (b : Block) : Block :=
  let got := fun t => b.fe.auxTiers.contains t
  let tiers := (List.range 16).flatMap fun t =>
    if got t then [getR b (R.FE_AUX_NTC t), getR b (R.FE_AUX_T t)] else [0x80008000, 0x80000000]
  let w37 := getF b F.FE_STATUS_CONTACTOR * 2 ^ 16 + tierBits b.fe.auxTiers
  queueRec { typ := 0x03, node := ownNode b, rerouted := rerouted b (devF b - 2) || rerouted b (devF b - 1), frame := first, dev := dev,
             payload := tiers ++ [getR b (R.FE_VDIV 1), getR b (R.FE_VDIV 2), getR b R.FE_STACK_SUM, w32 w37] } b

/-- The AUX record is queued and the next chain tick's conversions begin anew. -/
def auxClose (first dev : Nat) (b : Block) : Block := let c := auxRecord first dev b; { c with fe := { c.fe with auxTiers := [] } }

/-! Chain-tick averages (R123, R154). -/

/-- The job of the chain tick that ends at this tick (R29), before the tick's commit. -/
def chainJob (b : Block) : ChainJob :=
  { dev := devF b, frameNo := frame b, set := b.act, notch := notchesIn b b.act, len := devF b - b.fe.tickFrom, profile := getF b F.CW_STATUS_PROFILE,
    unlocked := b.cw.unlocked }

/-- The chain tick in progress ends at this tick and its work begins to be owed (R29). -/
def chainEnds (jump : Bool) (b : Block) : Block :=
  { b with fe := { b.fe with jobs := b.fe.jobs ++ [{ chainJob b with jump := jump }], tickFrom := devF b }, cw := { b.cw with unlocked := false } }

/-- The averages of the chain tick that ended at this frame's tick, as the tier dies delivered them (R154, R214): which are valid, their values, and the harness corrections
over the tick's own window (R170), of cells without a valid average too (R367). BAL counts as R155 says, within t_settle before the end of a window that ends in the tick. A chain
tick that a reset, a wake or a jump has cut short has no average (R154, R359). -/
def formJob (j : ChainJob) (b : Block) : ChainJob :=
  if j.formed then j else
  let lo := j.dev - j.len
  let whole := decide (j.len = 20)
  let there := thereIn j.set
  let ok := fun ch => whole && decide (missEnd b (if ch < 192 then ch / 12 else 0) ≤ lo ∧ ovrEnd b ch ≤ lo) && (decide (192 ≤ ch) || there (ch + 1))
  let chans := (List.range 194).filter ok
  let w := meanWindow j.notch
  let all := (((span 1 192).filter there).map (· - 1)) ++ [192, 193]
  let corr := (((span 1 192).filter there).map fun n => (n, correction b j.set n (8 * j.dev) w)).filter fun x => x.2 != 0
  { j with
    formed := true
    ovr := all.filter fun ch => decide (lo < ovrEnd b ch)
    bal := all.filter fun ch => decide (ch < 192) && onWithin b (ch + 1) j.dev (max (j.len * 50000) (settleUp b j.set))
    setl := all.filter fun ch => b.fe.setl.any fun s => decide (s.lo ≤ ch ∧ ch ≤ s.hi ∧ s.after < j.dev * 50000 ∧ lo * 50000 < s.until_)
    missed := (List.range 16).filter fun t => decide (lo < missEnd b t)
    ok := chans.map (· + 1)
    mean := chans.filterMap fun ch => (tickMean b ch).map fun v => (ch + 1, v)
    corr := corr
    bad := b.fe.tickBad }

/-- Jobs that have no averages yet take them from what has been delivered, at the latest as the next tick begins; `b.fe.tickBad` starts over. -/
def formJobs (b : Block) : Block :=
  if b.fe.jobs.all (·.formed) then b
  else { b with fe := { b.fe with jobs := b.fe.jobs.map fun j => formJob j b, tickBad := [] } }

/-- The next chain tick overtakes the jobs that are left (R29, R30): chain-tick work overruns, and their CHAIN records are late. -/
def jobsOvertaken (b : Block) : Block :=
  if b.fe.jobs.isEmpty then b else overrun 5 { b with fe := { b.fe with jobs := b.fe.jobs.map fun j => { j with late := true } } }

/-- The averages of a job come into force (R154): `x` gives those that the block does not form itself. V_n follows (R291), and absent positions are checked (R123). -/
def chainAverages (x : ChainInput) (j : ChainJob) (b : Block) : Block :=
  let at_ := fun ch => ((j.mean.find? (·.1 == ch + 1)).map (·.2)).getD ((x.avg.getD ch 0 : Int) : Rat)
  let corr := fun n => mapGet (fun _ => (0 : Rat)) j.corr n
  let b := { b with fe := { b.fe with avgOk := j.ok } }
  let b := each (j.ok.filter (· ≤ 192)) (fun n b =>
    let v := at_ (n - 1) + corr n
    putBal n { balOf b n with vn := v, vnOk := true } { b with fe := { b.fe with avg := mapPut (fun _ => 0) b.fe.avg n (published (300 + n) v) } }) b
  let b := each (j.ok.filter (192 < ·)) (fun c b => { b with fe := { b.fe with avg := mapPut (fun _ => 0) b.fe.avg c (published (300 + c) (at_ (c - 1))) } }) b
  let whole := decide (j.len = 20)
  let there := thereIn j.set
  each ((span 1 192).filter fun n => !there n && !present b n && whole && decide (missEnd b (tierOf n) ≤ j.dev - 20)) (fun n b =>
    let bad := decide (100000 < (x.avg.getD (n - 1) 0).natAbs)
    if bad || bitOf (condOf b (Slot.feTopo (tierOf n))).levelDet (localOf n) then levelBit (Slot.feTopo (tierOf n)) (localOf n) bad b else b) b

/-! Alignment (R116, R120, R523). -/

/-- New path delays and reference temperatures of the tiers named (R114, R117, R120). -/
def putDelays (ds : List PathDelay) (b : Block) : Block :=
  each ds (fun d b =>
    let b := setF (F.FE_TIER_DLY_FOOT d.tier.val) d.foot.toNat (setF (F.FE_TIER_DLY_HEAD d.tier.val) d.head.toNat b)
    { b with fe := { b.fe with refTemp := (b.fe.refTemp.filter (·.1 != d.tier.val)) ++ [(d.tier.val, d.die)] } }) b

/-- The part of a tier alignment sequence in which its fine alignment runs (R120, R523): from C + 20 on. -/
def seqFine (b : Block) (a : AlignSeq) : Bool :=
  match a.start with
  | some c => decide (c + 20 ≤ devF b)
  | none => false

/-- ALIGN_BUSY: a fine alignment is in progress (R120, R523). -/
def alignBusy (b : Block) : Bool := b.fe.fineFrom.isSome || b.fe.align.any (seqFine b)

/-- A write of FE_ALIGN_CTL.RUN = 1 (R120). -/
def alignRun (b : Block) : Block := if alignBusy b then b else { b with fe := { b.fe with fineReq := true } }

/-- The ring is whole: no hop broken and every tier supplied (R120). -/
def ringWhole (b : Block) : Bool := (brokenHops b).isEmpty && b.pwr.supplyLost.isEmpty

/-- R120: a requested fine alignment starts at a chain tick; an abandoned one with AUTO starts again when the ring is whole. A request recorded in the coarse part of a sequence of
R523, in which ALIGN_BUSY is 0, waits until the sequence has ended (DESIGN CHOICE, log entry 37). -/
def fineStart (b : Block) : Block :=
  if frame b % 20 ≠ 0 || !framesRun b || alignBusy b then b
  else if b.fe.fineReq || (b.fe.fineAgain && ringWhole b) then
    { b with fe := { b.fe with fineReq := false, fineAgain := false, fineFrom := some (devF b) } }
  else b

/-- What a completed fine alignment brings besides its delays (R117, R120): DRIFT and FE_SKEW clear. -/
def fineDone (b : Block) : Block := setLevel Slot.feSkew false 0 (setF F.FE_STATUS_DRIFT 0 { b with fe := { b.fe with fineBad := false } })

/-- R120: the new delays take effect at the tick of C + 20, as a setting of that tick's control block (R315). The samples' path stays as it is: SETL alone marks the step. -/
def fineApply (ds : List PathDelay) (b : Block) : Block :=
  match b.fe.fineFrom with
  | some c =>
    if devF b < c + 20 then b else
    addSetl ⟨0, 193, nowNs b, nowNs b + settleUp b b.act, true⟩
      (setF F.FE_STATUS_ALIGN_VALID 1 (fineDone (putDelays ds { b with fe := { b.fe with fineFrom := none, settingAt := some (devF b) } })))
  | none => b

/-- R120: a break or tier loss abandons a fine alignment; R523: a sequence that runs starts over once routing is restored. -/
def fineAbort (b : Block) : Block :=
  let busy := alignBusy b
  let b := { b with fe := { b.fe with align := b.fe.align.map fun a => { a with start := none, broke := a.broke || a.start.isSome } } }
  if !busy then b else
  let auto := isF b F.FE_ALIGN_CTL_AUTO
  let b := setF F.FE_STATUS_ALIGN_ABORT 1 { b with fe := { b.fe with fineFrom := none, fineAgain := b.fe.fineAgain || (auto && b.fe.fineFrom.isSome), fineBad := b.fe.fineBad || !auto } }
  when (!auto) (setLevel Slot.feSkew true 0) b

/-- R523: the tiers `ts` are to be aligned; where they are all sixteen, ALIGN_VALID is 0 until they are. -/
def alignTiers (ts : List Nat) (b : Block) : Block :=
  if ts.isEmpty then b else
  let b := { b with fe := { b.fe with align := ((b.fe.align.map fun a => { a with tiers := a.tiers.filter fun t => !ts.contains t }).filter
    fun a => !a.tiers.isEmpty) ++ [⟨ts, none, false⟩] } }
  when (ts.length == 16) (setF F.FE_STATUS_ALIGN_VALID 0) b

/-- Routing differs from R313: a hop is broken or a tier is out of reach. -/
def reversed (b : Block) : Bool := !(brokenHops b).isEmpty || (List.range 16).any fun t => !b.bw.taken.contains t || !reachable b t

/-- R523: sequences that wait start at a chain tick: after enumeration, the tiers reachable; after a break, once routing is restored (R323). -/
def alignStart (b : Block) : Block :=
  if frame b % 20 ≠ 0 || b.bw.enumRun.isSome then b else
  { b with fe := { b.fe with align := b.fe.align.map fun a => match a.start with
    | none => if !(a.broke && reversed b) && a.tiers.all (fun t => reachable b t && !b.pwr.supplyLost.contains t) then { a with start := some (devF b), broke := false } else a
    | some _ => a } }

/-- TIER_ALIGNMENT (R523): at C + 40 the fine alignment of its sequence is complete, the new delays take effect and the tiers deliver results, with SETL for one settling
time. -/
def alignDone (ds : List PathDelay) (b : Block) : Block :=
  let (now, later) := b.fe.align.partition fun a => match a.start with
    | some c => decide (c + 40 ≤ devF b)
    | none => false
  let ts := now.flatMap (·.tiers)
  if ts.isEmpty then b else
  let b := putDelays (ds.filter fun d => ts.contains d.tier.val) { b with fe := { b.fe with align := later, settingAt := some (devF b) } }
  when later.isEmpty (setF F.FE_STATUS_ALIGN_VALID 1) (fineDone (each ts tierReturn b))

/-! Commands. -/

def execCollectDeadline (s : State) : Host.Outcome State Fault Refusal := run collectDeadline s
def execFilterOutput (codes : List Int) (s : State) : Host.Outcome State Fault Refusal := run (inFrame (outputFormed codes)) s
def execOpenWireTest (s : State) : Host.Outcome State Fault Refusal := run openWireTest s
def execCheckConversion (ks : List CheckInput) (s : State) : Host.Outcome State Fault Refusal := run (checkConversion ks) s
def execCheckRefCross (ks : List RefCross) (s : State) : Host.Outcome State Fault Refusal := run (checkRefCross ks) s
def execAuxConversionDone (xs : List AuxInput) (s : State) : Host.Outcome State Fault Refusal := run (auxDone xs) s

/-- FE_ALIGN_RUN (R120): FE_ALIGN_CTL.RUN = 1. -/
def execFeAlignRun (s : State) : Host.Outcome State Fault Refusal := run (fun b => if ready b then alignRun b else b) s
def execFineAlignmentStart (s : State) : Host.Outcome State Fault Refusal := run fineStart s
def execFineAlignmentApply (ds : List PathDelay) (s : State) : Host.Outcome State Fault Refusal := run (inFrame (fineApply ds)) s
def execTierAlignment (ds : List PathDelay) (s : State) : Host.Outcome State Fault Refusal := run (inFrame (alignDone ds)) s

end Sys2Proof.Machine
end

