-- ==== Sys2Proof/Machine/Impedance.lean ====
section
/-! DEFINITION. In-operation impedance spectroscopy (R178 to R198): the frequency grid, passes and points, sharing of the bleed FET, coincident events,
acceptance of sweeps, the result of a point and its record, IMP_STATUS as it reads, and the commands of the family. -/

namespace Sys2Proof.Machine

/-- h of a requested frequency in mHz: 80,000,000 / F, halves rounding up (R179). -/
def gridOf (f : Nat) : Nat := (2 * 80000000 + f) / (2 * f)

/-- The frequency used in mHz, to the nearest integer (R179); the rule names no neighbour for a half (h = 2,048, 10,240, 51,200, 256,000, 1,280,000), which rounds up (DESIGN
CHOICE, log entry 9). -/
def gridMhz (h : Nat) : Nat := (roundDiv 80000000 h).toNat

/-- h of the present point. -/
def sweepH (w : Sweep) : Nat := gridOf (w.freqs.getD w.point 1000)

/-- Raw samples of one pass (R180). -/
def passRaw (w : Sweep) : Nat := (w.nCyc + (if w.src = 0 then 0 else 1)) * (2 * sweepH w)

/-- Frames from a pass's tick to the first tick at or after its end (R181). -/
def passFrames (w : Sweep) : Nat := (passRaw w + 7) / 8

/-- Passes per point (R180). -/
def passCount (w : Sweep) : Nat := if w.src = 1 then 2 else 1

/-- Present index of cell `n` (R182). -/
def presentIndex (b : Block) (n : Nat) : Nat := ((span 1 n).filter (present b)).length

/-- The selected cells of pass `p` of a point: all of them, or the odd or even group under BLEED (R182). -/
def passCells (b : Block) (w : Sweep) (p : Nat) : List Nat :=
  if w.src = 1 then w.cells.filter fun n => decide (presentIndex b n % 2 = (p + 1) % 2) else w.cells

def putSweep (w : Option Sweep) (b : Block) : Block := { b with imp := { b.imp with sweep := w } }

/-- R188: an excited cell's on-time is taken from its timer, the fraction rounded up; it is no longer excited. -/
def endExcite (n : Nat) (b : Block) : Block :=
  let c := balOf b n
  if !c.excite then b else
  let t := c.timer - (c.exOn + 19999) / 20000
  putBalDirty n { c with excite := false, exTo := devF b, exOn := 0, timer := t, duty := if t = 0 then 0 else c.duty } b

/-- Excitation and neighbour holds end. -/
def endHolds (b : Block) : Block :=
  each (balCells b) (fun n b =>
    let b := endExcite n b
    let c := balOf b n
    if c.held then putBal n { c with held := false } b else b) b

/-- The frames of on-time left of the present BLEED pass: half of what is left of it as the wave goes (R178, R188). -/
def onLeft (w : Sweep) (f : Nat) (b : Block) : Nat :=
  let h := sweepH w
  let x := min (passRaw w) (8 * (devF b - f))
  let done := x / (2 * h) * h + (if Config.waveOn then min (x % (2 * h)) h else x % (2 * h) - h)
  (passRaw w / 2 - done + 7) / 8

/-- A BLEED pass starts (R187, R188, R302): cells whose timer covers the on-time are excited, the neighbours of excited cells are held. -/
def startExcite (w : Sweep) (b : Block) : Sweep × Block :=
  let group := passCells b w w.pass
  let need := (passRaw w + 319999) / 320000
  let b := each group (fun n b =>
    let c := balOf b n
    if w.policy && b.bal.mode == 2 && decide (c.timer < need) && !b.bal.forced.contains (tierOf n) then
      putBalDirty n { c with timer := need, duty := if c.duty = 0 then getF b F.BAL_CTL_AUTO_DUTY_M1 + 1 else c.duty, fresh := true } b
    else b) b
  let ok := group.filter fun n => decide (need ≤ (balOf b n).timer)
  let held := (ok.flatMap (neighbours (popIn b.act))).filter fun n => present b n && !ok.contains n
  let b := each ok (fun n b => putBalDirty n { balOf b n with excite := true, exFrom := devF b, exOn := 0 } b) b
  let b := each held (fun n b => putBal n { balOf b n with held := true } b) b
  ({ w with excited := ok, noallow := w.noallow ++ (group.filter fun n => !ok.contains n) }, count 0x2B 1 {} b)

/-- A pass that waits begins at this tick, and with it its demodulation (R181, R183). -/
def passStart (b : Block) : Block :=
  match b.imp.sweep with
  | none => b
  | some w =>
    if w.start.isSome || (w.waitGo && !b.imp.go) then b else
    let w := { w with start := some (devF b), waitGo := false, starts := (if w.pass = 0 then [] else w.starts) ++ [devF b] }
    let w := if w.pass = 0 then { w with pointStart := frame b, spoiled := [], noallow := [], paused := [], cmp := [], rerouted := false } else w
    let one : Demod := { start := devF b, h := sweepH w, settle := if w.src = 0 then 0 else 1, nCyc := w.nCyc, cells := passCells b w w.pass }
    let b := { b with imp := { b.imp with go := false, demod := b.imp.demod ++ [one] } }
    if w.src = 1 then
      let got := startExcite w b
      let w := got.1
      let b := got.2
      putSweep (some w) b
    else putSweep (some w) b

/-- The sweep ends with a result (R191, R195, R196, R403); a host sweep that waits begins at the next frame tick, so that the result stands for a frame. -/
def sweepEnd (w : Sweep) (result : Nat) (b : Block) : Block :=
  let b := { b with imp := { b.imp with result := result, sweep := none, point := w.point, origin := w.policy, lastSeq := w.seq, go := false, endAt := devF b + 1 } }
  let b := when (result == 4) (pulse Slot.impAbort 0) b
  finishAll (fun c => match c with
    | .impSweep _ _ s => s == some w.seq
    | _ => false) (fun q => finish q (if result = 3 ∨ result = 4 then St.failed else St.done) result w.seq 0) b

/-- R191, R196: the present point is abandoned: reported with ABORTED and every cell INTERRUPT, and the sweep ends; excitation stops at the next frame tick. Its record's frame is the
one before the abort, and START of a point that had not begun is the abort's frame (DESIGN CHOICE, log entry 9). -/
def sweepAbort (result : Nat) (b : Block) : Block :=
  match b.imp.sweep with
  | none => b
  | some w =>
    let w' := { w with spoiled := w.cells, pointStart := if w.start.isNone && w.pass == 0 then frame b else w.pointStart }
    sweepEnd w result { b with imp := { b.imp with due := b.imp.due ++ [⟨w', frame b - 1, devF b, true, true⟩] } }

/-- A pass whose raw samples are all taken ends; with the last pass of a point its results become due, and with the last point, or the first after a pre-emption, the sweep
ends (R181, R196). -/
def passEnd (b : Block) : Block :=
  match b.imp.sweep with
  | none => b
  | some w =>
    match w.start with
    | none => b
    | some f =>
      if devF b < f + passFrames w then b else
      if w.pass + 1 < passCount w then putSweep (some { w with pass := w.pass + 1, start := none, excited := [] }) b
      else
        let endDev := f + (passRaw w - 1) / 8 + 1
        let last := w.ending || decide (w.freqs.length ≤ w.point + 1)
        let b := { b with imp := { b.imp with due := b.imp.due ++ [⟨w, frame b - (devF b - endDev) - 1, endDev, last, false⟩] } }
        if last then sweepEnd w (if w.ending then 9 else 1) b
        else putSweep (some { w with point := w.point + 1, pass := 0, start := none, excited := [], waitGo := w.src == 2 }) b

/-- R188: excitation ends where the timer has been lowered below the rest of the pass's on-time. -/
def stopLowered (b : Block) : Block :=
  match b.imp.sweep with
  | none => b
  | some w =>
    match w.start with
    | none => b
    | some f =>
      let left := onLeft w f b
      let low := w.excited.filter fun n => (balOf b n).fresh || decide ((balOf b n).timer = 0)
      let stop := low.filter fun n => decide ((balOf b n).timer * 20000 < left)
      if stop.isEmpty then b else
      putSweep (some { w with excited := w.excited.filter fun n => !stop.contains n, noallow := w.noallow ++ stop }) (each stop endExcite b)

/-- The harness corrections of cell `n` for the eight raw samples of the present frame, in 2^-24 µV (R169, R183). -/
def rawCorr (b : Block) (n : Nat) : List Int := (List.range 8).map fun i => (correction b b.act n (8 * devF b + i + 1) rawWindow * (2 ^ 24 : Nat)).floor

/-- At the end of a frame of a pass: what the frame did to the pass's cells (R186 to R191), open taps, unavailable or settling tiers, forced bleed-off, quiet intervals, harness corrections,
broken hops; and the bleed estimates and corrections that go with its raw samples (R183). -/
def passNote (b : Block) : Block :=
  match b.imp.sweep with
  | none => b
  | some w =>
    match w.start with
    | none => b
    | some f =>
      if f + passFrames w ≤ devF b then b else
      let group := passCells b w w.pass
      let settling := fun t => b.fe.setl.any fun s => s.lo == 12 * t && s.hi == 12 * t + 11 && decide (nowNs b < s.until_)
      let hit := w.cells.filter fun n => owLive (popIn b.act) b n || !tierAvail b (tierOf n) || settling (tierOf n) || (w.src == 1 && b.bal.forced.contains (tierOf n))
      let corr := if actF b F.FLT_BAL_CTL_CMP_EN = 0 then [] else (group.map fun n => (n, rawCorr b n)).filter fun x => x.2.any (· != 0)
      let w := { w with
        spoiled := w.spoiled ++ (hit.filter fun n => !w.spoiled.contains n)
        paused := if quietNow b then w.paused ++ (group.filter fun n => !w.paused.contains n) else w.paused
        cmp := w.cmp ++ ((corr.map (·.1)).filter fun n => !w.cmp.contains n)
        rerouted := w.rerouted || !(brokenHops b).isEmpty || b.bw.spans.head?.any (·.2 == devF b) }
      putSweep (some w) { b with imp := { b.imp with est := group.map fun n => (n, (iBleed b n * 1000000).floor), corr := corr } }

/-! Demodulation (R183). -/

/-- The angle of raw sample `i` of a segment of 2h, from -π to π. -/
def segAngle (h i : Nat) : Int := piQ * ((i : Int) - (if h < i then 2 * h else 0)) / h

/-- One raw sample `x` enters a transform of segments of 2h raw samples, `settle` of them discarded, `total` in all. -/
def binIn (h settle total : Nat) (c s : Int) (x : Int) (v : Bin) : Bin :=
  if total ≤ v.taken then v else
  let i := v.taken % (2 * h)
  let sum := if v.taken / (2 * h) < settle then (0, 0) else (v.now.1 + x * c, v.now.2 - x * s)
  if i + 1 = 2 * h ∧ settle ≤ v.taken / (2 * h) then { taken := v.taken + 1, now := (0, 0), segs := sum :: v.segs }
  else { v with taken := v.taken + 1, now := sum }

/-- The eight raw samples of device frame `d` enter channel `ch` of a pass, where its transform holds every sample before them. -/
def demodChan (d ch : Nat) (xs : List Int) (m : Demod) : Demod :=
  let v := mapGet (fun _ => {}) m.bins ch
  if d < m.start || v.taken != 8 * (d - m.start) then m else
  let total := (m.settle + m.nCyc) * (2 * m.h)
  let v := (List.range 8).foldl (fun v i =>
    let a := segAngle m.h ((8 * (d - m.start) + i) % (2 * m.h))
    binIn m.h m.settle total (cosQ a) (sinQ a) (xs.getD i 0) v) v
  { m with bins := mapPut (fun _ => {}) m.bins ch v }

/-- The raw samples of tier `t` of device frame `d` reach its demodulators, harness corrections added; the bleed estimate of each of its cells goes with them, and on tier 0 the current
channels (R183). -/
def demodIn (t d : Nat) (xs : List (List Int)) (b : Block) : Block :=
  if b.imp.demod.isEmpty then b else
  let one := fun (m : Demod) =>
    let m := (m.cells.filter fun n => tierOf n == t).foldl (fun m n =>
      let corr := mapGet (fun _ => []) b.imp.corr n
      let raw := xs.getD (localOf n - 1) []
      let v := (List.range 8).map fun i => raw.getD i 0 * 2 ^ 24 + corr.getD i 0
      demodChan d (200 + n) (List.replicate 8 (mapGet (fun _ => 0) b.imp.est n)) (demodChan d (n - 1) v m)) m
    if t = 0 then demodChan d 193 (xs.getD 13 []) (demodChan d 192 (xs.getD 12 []) m) else m
  { b with imp := { b.imp with demod := b.imp.demod.map one } }

/-- The measured segments of channel `ch` of a pass, as amplitudes in `unit` per raw count; none where a raw sample is missing. -/
def binAmps (m : Demod) (ch : Nat) (unit : Rat) : Option (List (Rat × Rat)) :=
  let v := mapGet (fun _ => {}) m.bins ch
  if v.segs.length ≠ m.nCyc then none
  else some (v.segs.reverse.map fun z => ((z.1 : Rat) * unit / (m.h * 2 ^ 64 : Nat), (z.2 : Rat) * unit / (m.h * 2 ^ 64 : Nat)))

def cMul (x y : Rat × Rat) : Rat × Rat := (x.1 * y.1 - x.2 * y.2, x.1 * y.2 + x.2 * y.1)

/-- The nominal response of the sense network and the first stage at a frequency of the grid (R58, R147, R183): a corner of 1/(2π × 2.00 kΩ × 4.7 nF), and the first stage's outputs
after a unit step, raw sample by raw sample (DEDUCED, log entry 9). -/
def senseResponse (h : Nat) : Rat × Rat :=
  let x := ofQ (piQ * 1504 / (1000 * h))
  let rc : Rat × Rat := (1 / (1 + x * x), -x / (1 + x * x))
  let first := (List.range 5).map fun m =>
    let inc := sincStep 5 64 (64 * (m + 1)) - sincStep 5 64 (64 * m)
    let a := piQ * m / h
    (inc * ofQ (cosQ a), -inc * ofQ (sinQ a))
  cMul rc ((first.map (·.1)).sum, (first.map (·.2)).sum)

/-- The spectra C_k of the reference current in µA (R125, R178, R183): the channel of the source, or the mean of both. -/
def refAmps (b : Block) (w : Sweep) (m : Demod) : Option (List (Rat × Rat)) :=
  let chans := refChans b w
  let one := fun ch =>
    let r : Nat := (getA b (R.FE_SHUNT (ch - 191))).toNat
    if r = 0 then none else binAmps m ch ((10000000 : Rat) / (r * chans.length : Nat))
  match chans.map one with
  | [some x] => some x
  | [some x, some y] => some ((x.zip y).map fun z => (z.1.1 + z.2.1, z.1.2 + z.2.2))
  | _ => none

/-- R195: the code of a request whose cells, source, points and cycles are given, but for code 5: 0 where it is accepted. Where several causes hold the rule gives no precedence: 6, then
7, then 8 (DESIGN CHOICE, log entry 9). -/
def sweepRefuse (b : Block) (src nCyc : Nat) (freqs cells : List Nat) : Nat :=
  let n := freqs.length
  if cells.any (fun c => tierBist b (tierOf c)) then 6
  else if src = 3 ∨ n < 1 ∨ 16 < n ∨ nCyc < 4 ∨ freqs.any (fun f => decide (f < 50 ∨ 5000000 < f)) ∨ cells = [] then 7
  else if src = 1 ∧ (inSafe b ∨ lifeIs b .retired) then 8
  else 0

/-- R195: the code of a host request for slot `s`; another host sweep, running or pending, is looked at first (DESIGN CHOICE, log entry 9). -/
def sweepCode (b : Block) (s : Nat) : Nat :=
  let cells := (presentCells b).filter fun c => bitOf (getR b (R.IMP_CELLS s ((c - 1) / 32))).toNat ((c - 1) % 32)
  let freqs := (List.range (getF b (F.IMP_DEF_NPTS s))).map fun i => (getR b (R.IMP_FREQ s i)).toNat
  if (b.imp.sweep.any fun w => !w.policy) || b.imp.next.isSome then 5
  else sweepRefuse b (getF b (F.IMP_DEF_SRC s)) (getF b (F.IMP_DEF_N_CYC s)) freqs cells

/-- One host request checked (R194 to R196, R403). -/
def sweepRequest (s : Nat) (q : Option Nat) (b : Block) : Block :=
  let code := sweepCode b s
  let reply := fun (status detail seq : Nat) (b : Block) => match q with
    | some q => finish q status detail seq 0 b
    | none => b
  if code ≠ 0 then
    reply (if code = 6 then St.busyBist else St.refused) code b.imp.seq { b with imp := { b.imp with result := code } }
  else
    let seq := (b.imp.seq + 1) % 256
    let w : Sweep := {
      seq := seq, policy := false, src := getF b (F.IMP_DEF_SRC s), nCyc := getF b (F.IMP_DEF_N_CYC s)
      freqs := (List.range (getF b (F.IMP_DEF_NPTS s))).map fun i => (getR b (R.IMP_FREQ s i)).toNat
      cells := (presentCells b).filter fun c => bitOf (getR b (R.IMP_CELLS s ((c - 1) / 32))).toNat ((c - 1) % 32)
      waitGo := getF b (F.IMP_DEF_SRC s) == 2 }
    let b := { b with imp := { b.imp with seq := seq } }
    let b := match b.imp.sweep with
      | some p => { b with imp := { b.imp with sweep := some { p with ending := true }, next := some w } }
      | none => putSweep (some w) { b with imp := { b.imp with result := 2 } }
    match q with
    | some q => match (sqOf b q).running with
      | some r => match r.wait with
        | .impSweep true s _ => waitOn q (.impSweep true s (some seq)) b
        | _ => finish q St.done 2 seq 0 b
      | none => b
    | none => b

/-- A host sweep that pre-empted another one begins at the tick after that one's end (R196). -/
def nextStart (b : Block) : Block :=
  match b.imp.sweep, b.imp.next with
  | none, some w => if b.imp.endAt = devF b + 1 then b else putSweep (some w) { b with imp := { b.imp with next := none, result := 2 } }
  | _, _ => b

/-- SWEEP_ACCEPT (R195, R196): at the tick the requests are checked; a policy sweep that waits starts where nothing runs, or is refused with its RESULT, 5 where a host sweep runs or
is pending; in SAFE the policy starts none (R272). -/
def sweepAccept (b : Block) : Block :=
  let reqs := b.imp.host
  let b := each reqs (fun r b => sweepRequest r.1 r.2 b) { b with imp := { b.imp with host := [] } }
  match b.imp.policy with
  | none => b
  | some w =>
    let b := { b with imp := { b.imp with policy := none } }
    if inSafe b then b
    else if (b.imp.sweep.any fun w => !w.policy) || b.imp.next.isSome then { b with imp := { b.imp with result := 5 } }
    else if b.imp.sweep.isSome then b else
    let code := sweepRefuse b w.src w.nCyc w.freqs w.cells
    if code ≠ 0 then { b with imp := { b.imp with result := code } } else
    let seq := (b.imp.seq + 1) % 256
    putSweep (some { w with seq := seq }) { b with imp := { b.imp with seq := seq, result := 2 }
                                                   pol := { b.pol with sweepIdx := b.pol.sweepIdx + nat01 (!w.byOvr), sweepRun := 0 } }

/-- Excitation and holds of a pass that is over end at the frame tick (R188, R191). -/
def passRelease (b : Block) : Block := if b.imp.sweep.any (·.start.isSome) then b else endHolds b

/-- The aborts that take effect at the frame tick (R191, R196, R272). -/
def sweepAborts (b : Block) : Block :=
  let policy := b.imp.sweep.any (·.policy)
  let b := when (b.imp.abort || (b.imp.polAbort && policy)) (sweepAbort 3) b
  let b := { b with imp := { b.imp with abort := false, polAbort := false } }
  when (inSafe b && b.imp.sweep.any fun w => w.src == 1) (sweepAbort 4) b

/-- What impedance does at a frame tick between actions 6 and 7 of R304: aborts, the end of excitation, a pre-empting sweep, new requests, passes that begin. Passes end, and frames are
noted, as the tick begins. -/
def impTick (b : Block) : Block := stopLowered (passStart (sweepAccept (nextStart (passRelease (sweepAborts b)))))

/-- Sum of |z| over complex values, resolved to 2^-32. -/
def ampSum (zs : List (Rat × Rat)) : Rat := (((zs.map fun z => isqrt ((z.1 * z.1 + z.2 * z.2) * (2 ^ 64 : Nat) : Rat).floor.toNat).sum : Nat) : Rat) / (2 ^ 32 : Nat)

/-- Spectra handed in from outside, as numbers. -/
def handed (zs : List (Int × Int)) : List (Rat × Rat) := zs.map fun z => (z.1, z.2)

/-- The passes of a point. -/
def pointRuns (b : Block) (w : Sweep) : List Demod := b.imp.demod.filter fun m => w.starts.contains m.start

/-- V_k in nV and I_k in µA of cell `n` over the measured segments of its pass (R183): as the block formed them, or as handed in where it does not hold every raw sample (log entry
22). -/
def pointData (b : Block) (w : Sweep) (refs : List (List (Int × Int))) (cells : List PointCell) (n : Nat) : Option (List (Rat × Rat) × List (Rat × Rat)) :=
  let m := (pointRuns b w).find? (·.cells.contains n)
  let c := cells.find? fun c => c.cell.val + 1 == n
  let ref := (m.bind (refAmps b w)).orElse fun _ => (refs[if w.src = 1 ∧ presentIndex b n % 2 = 0 then 1 else 0]?).map handed
  let volt := (m.bind fun m => binAmps m (n - 1) (1000 / (2 ^ 24 : Nat))).orElse fun _ => c.map fun c => handed c.volt
  let bleed := (m.bind fun m => (binAmps m (200 + n) (1 / 1000)).map fun l => l.map (cMul (senseResponse m.h))).orElse fun _ => c.map fun c => handed c.bleed
  match ref, volt, bleed with
  | some r, some v, some l => some (v, (r.zip l).map fun x => (x.1.1 + x.2.1, x.1.2 + x.2.2))
  | _, _, _ => none

/-- The entry of one cell (R184, R185, R192, R193): flags, coherence, Re(Z), Im(Z). At a half the coherence is rounded up (R184 names no neighbour: DESIGN CHOICE, log entry 9). -/
def pointEntry (b : Block) (d : PointDue) (refs : List (List (Int × Int))) (cells : List PointCell) (n : Nat) : List Word :=
  let w := d.sweep
  let data := pointData b w refs cells n
  let spoiled := d.aborted || w.spoiled.contains n || data.isNone || (cells.any fun c => c.cell.val + 1 == n && c.saturated)
  let base := nat01 (w.noallow.contains n) * 8 + nat01 spoiled * 4 + nat01 (w.paused.contains n) * 2
  if spoiled then [w32 (n * 2 ^ 24 + base * 2 ^ 16), 0, 0] else
  let (vs, is) := data.getD ([], [])
  let vi := vs.zip is
  let re : Rat := (vi.map fun x => x.1.1 * x.2.1 + x.1.2 * x.2.2).sum
  let im : Rat := (vi.map fun x => x.1.2 * x.2.1 - x.1.1 * x.2.2).sum
  let pi : Rat := (is.map fun z => z.1 * z.1 + z.2 * z.2).sum
  let pv : Rat := (vs.map fun z => z.1 * z.1 + z.2 * z.2).sum
  let z := fun (place : Nat) (x : Rat) => if pi = 0 then signed 32 (Config.unstated 20 [n, w.seq, place])
    else clampInt (-2147483647) 2147483647 (published place (-x * 1000000 / pi))
  let g2 : Rat := if pi * pv = 0 then (Config.unstated 21 [n, w.seq] % 65536 : Nat) / 65535 else (re * re + im * im) / (pi * pv)
  let coh := min 65535 ((g2 * 65535 + 1 / 2).floor.toNat)
  let low := decide (g2 < (getF b F.IMP_CTL_COH_MIN : Rat) / 256)
  let exc := decide (ampSum is < (getF b F.IMP_CTL_MIN_EXC * 1000 * is.length : Nat))
  let flags := 128 + nat01 low * 64 + nat01 exc * 32 + nat01 (w.cmp.contains n) * 16 + base
  [w32 (n * 2 ^ 24 + flags * 2 ^ 16 + coh), w32 (unsigned 32 (z 22 re)), w32 (unsigned 32 (z 23 im))]

/-- The results of an entry that adaptation may use: VALID, neither LOWCOH nor LOWEXC (R185); the newest of each cell and frequency stays. -/
def keepResult (d : PointDue) (ws : List Word) (b : Block) : Block :=
  let e := (ws.getD 0 0).toNat
  if bitsOf e 21 3 ≠ 4 then b else
  let one : ImpResult := ⟨e / 2 ^ 24, sweepH d.sweep, signed 32 (ws.getD 1 0).toNat, signed 32 (ws.getD 2 0).toNat, d.frame⟩
  { b with imp := { b.imp with results := (b.imp.results.filter fun r => r.cell != one.cell || r.h != one.h) ++ [one] } }

/-- IREF_AMP (R192): the mean amplitude of C_k over the measured segments of the point's passes, in mA. -/
def refAmp (b : Block) (w : Sweep) (refs : List (List (Int × Int))) : Nat :=
  let own := (pointRuns b w).map (refAmps b w)
  let amps := if own.isEmpty || own.any (·.isNone) then refs.flatMap handed else own.flatMap (·.getD [])
  if amps.isEmpty then 0 else publishedIn 24 32 (ampSum amps / 1000 / (amps.length : Rat))

/-- IMP_POINT_END (R184, R186, R192, R197): the spectra of the point that ended first become its IMP record. -/
def pointEnd (refs : List (List (Int × Int))) (cells : List PointCell) (b : Block) : Block :=
  match b.imp.due with
  | [] => b
  | d :: rest =>
    let w := d.sweep
    let w2 := w.seq * 2 ^ 24 + w.point * 2 ^ 20 + (w.freqs.length - 1) * 2 ^ 16 + w.src * 2 ^ 14 + nat01 w.policy * 2 ^ 13 + nat01 d.last * 2 ^ 12
      + nat01 d.aborted * 2 ^ 11 + w.nCyc
    let entries := w.cells.map (pointEntry b d refs cells)
    let amp := refAmp b w refs
    let sat := cells.filter fun c => c.saturated && w.cells.contains (c.cell.val + 1)
    let b := each sat (fun c => pulse (Slot.impSat (tierOf (c.cell.val + 1))) (2 ^ localOf (c.cell.val + 1))) b
    let b := each entries (keepResult d) { b with imp := { b.imp with due := rest, demod := b.imp.demod.filter fun m => !w.starts.contains m.start } }
    queueRec { typ := 0x04, node := ownNode b, rerouted := w.rerouted || !(brokenHops b).isEmpty, frame := d.frame, dev := d.endDev - 1,
               payload := [w32 w2, w32 (gridMhz (sweepH w)), w32 w.pointStart, w32 amp] ++ entries.flatten } b

/-- IMP_STATUS as it reads (R198). -/
def impStatus (b : Block) : Nat :=
  match b.imp.sweep with
  | some w => w.seq * 2 ^ 24 + w.point * 2 ^ 20 + nat01 w.waitGo * 2 ^ 19 + (if w.src = 1 then w.pass else 0) * 2 ^ 18 + nat01 w.policy * 2 ^ 17 + 2 ^ 16
      + nat01 b.imp.next.isSome * 16 + b.imp.result
  | none => b.imp.lastSeq * 2 ^ 24 + b.imp.point * 2 ^ 20 + nat01 b.imp.origin * 2 ^ 17 + nat01 b.imp.next.isSome * 16 + b.imp.result

/-- A write of IMP_CTL (R181, R194, R196, R198). -/
def writeImpCtl (v : Word) (b : Block) : Block :=
  let b := writeBits R.IMP_CTL v b
  let b := if bitOf v.toNat 2 then { b with imp := { b.imp with host := b.imp.host ++ [(getF b F.IMP_CTL_SLOT, none)] } } else b
  let b := if bitOf v.toNat 3 then { b with imp := { b.imp with abort := true } } else b
  if bitOf v.toNat 4 && (b.imp.sweep.any (·.waitGo)) then { b with imp := { b.imp with go := true } } else b

/-! Commands. The three actions of IMP_CTL are written with the register's other fields. -/

/-- IMP_START (R194): a write of IMP_CTL with START = 1. -/
def execImpStart (v : Word) (s : State) : Host.Outcome State Fault Refusal :=
  run (fun b => if ready b then writeImpCtl (v ||| 4) b else b) s

/-- IMP_ABORT (R196): a write of IMP_CTL with ABORT = 1. -/
def execImpAbort (v : Word) (s : State) : Host.Outcome State Fault Refusal :=
  run (fun b => if ready b then writeImpCtl (v ||| 8) b else b) s

/-- IMP_HOST_GO (R181): a write of IMP_CTL with HOST_GO = 1. -/
def execImpHostGo (v : Word) (s : State) : Host.Outcome State Fault Refusal :=
  run (fun b => if ready b then writeImpCtl (v ||| 16) b else b) s

/-- IMP_SWEEP (R194, R402, R403). -/
def execImpSweep (q : Fin 16) (d : Desc) (s : State) : Host.Outcome State Fault Refusal :=
  run (startCmd q.val 0x04 d (decide (d.p0.toNat / 512 ≠ 0 ∨ bitsOf d.p0.toNat 2 6 ≠ 0) || d.addr != 0 || !tail0 d) false
    (fun b => waitOn q.val (.impSweep (bitOf d.p0.toNat 8) (d.p0.toNat % 4) none)
      { b with imp := { b.imp with host := b.imp.host ++ [(d.p0.toNat % 4, some q.val)] } })) s

/-- SWEEP_ACCEPT (R195): requests that wait are checked at the tick, and an accepted sweep begins. -/
def execSweepAccept (s : State) : Host.Outcome State Fault Refusal :=
  run (fun b => if framesRun b then balGates (balGovern (passStart (sweepAccept (nextStart b)))) else b) s

/-- IMP_PASS_START (R181, R187, R188): a pass that waits begins at the frame tick. -/
def execImpPassStart (s : State) : Host.Outcome State Fault Refusal :=
  run (fun b => if framesRun b then balGates (balGovern (passStart (passRelease (passEnd b)))) else b) s

/-- IMP_POINT_END (R184, R192): the reference spectra of each pass and the spectra of each cell of the point that ended. -/
def execImpPointEnd (refs : List (List (Int × Int))) (cells : List PointCell) (s : State) : Host.Outcome State Fault Refusal :=
  run (inFrame fun b => pointEnd refs cells (passEnd b)) s

end Sys2Proof.Machine
end

