-- ==== Sys2Proof/Machine/Reedline.lean ====
section
/-! DEFINITION. Reedline sensor strings (R326 to R349): walks and reading cycles, readings and their errors, delivery to the supervisor, surface
temperatures, and the commands of the family. -/

namespace Sys2Proof.Machine

def stringOf (b : Block) (t : Nat) : RlString := mapGet (fun _ => {}) b.rl.strings t
def putString (t : Nat) (x : RlString) (b : Block) : Block := { b with rl := { b.rl with strings := mapPut (fun _ => {}) b.rl.strings t x } }

/-- The device-wide index of tag `p` (1 to 32) of tier `t` (R9). -/
def tagNo (t p : Nat) : Nat := 32 * t + p - 1

def tagOf (b : Block) (t p : Nat) : Tag := mapGet (fun _ => {}) b.rl.tags (tagNo t p)

/-- The tier of string `t` powers it and its master may run (R342, R346). -/
def stringOn (b : Block) (t : Nat) : Bool :=
  framesRun b && isF b F.RL_CTL_EN && isF b (F.RL_TIER_CTL_EN t) && !b.pwr.supplyLost.contains t && !(stringOf b t).short && !tierBist b t &&
    !(b.sl.blkRun.any fun x => decide (x.1 = .rl t))

/-- A full walk of string `t` takes the place of its next cycle (R339). -/
def walkNext (t : Nat) (b : Block) : Block := putString t { stringOf b t with walkDue := true } b

/-- A full walk of string `t` at the next chain tick (R346). -/
def walkSoon (t : Nat) (b : Block) : Block := putString t { stringOf b t with walkNow := true } b

/-- String `t` runs in FAST (R339): the walk that chose it has ended. -/
def stringFast (b : Block) (t : Nat) : Bool := (stringOf b t).fastFrom.any fun f => decide (f ≤ nowNs b)

/-- Slot length in µs. -/
def slotUs (fast : Bool) : Nat := if fast then 16 else 80

/-- R342: the length of a cycle over `n` tags in µs. -/
def cycleUs (b : Block) (t n : Nat) : Nat :=
  1460 + 1000 * 2 ^ getF b (F.RL_TIER_CTL_AVG t) + (81 * n + 25) * slotUs (stringFast b t)

/-- The length of a walk over `n` tags in µs, as its steps of R339 add up at the times of R329, R330 and R335 (log entry 11), with `again` repetitions of WRITE_CONFIG (R341). -/
def walkUs (n again : Nat) : Nat := 1200 + 80 * (97 * n + 9) + 730 + (1 + again) * (80 * 32 + 4000 + 730)

/-- A response passes its CRC (R336, R338): the last of its `n` bytes is that of those before it. -/
def rlCrcOk (n : Nat) (bs : List Byte) : Bool := bs.length == n && crcRl ((bs.take (n - 1)).map (·.toNat)) == (bs.getD (n - 1) 0).toNat

/-- The serial number that READ_ID brought, low byte first (R336). -/
def walkSerial (g : TagWalk) : Nat := ((List.range 6).map fun i => (g.id.getD i 0).toNat * 256 ^ i).sum

/-- CAPS as QUERY_SPEED brought it. -/
def walkCaps (g : TagWalk) : Nat := (g.speed.getD 0 0).toNat

/-- The tag reports FAST (R336, R339): bit 1 of a CAPS byte whose CRC is correct (DESIGN CHOICE for a wrong one, log entry 11). -/
def walkFast (g : TagWalk) : Bool := rlCrcOk 2 g.speed && bitOf (walkCaps g) 1

/-- The CONFIG byte that a walk writes (R337, R339). -/
def walkConfig (avg : Nat) (fast : Bool) : Nat := nat01 fast * 0x80 + avg

/-- The bytes of a walk over `n` tags (R335, R339, R341): each tag is selected and asked; after the last one more SELECT; then CONFIG for all, again where it failed once. -/
def walkBytes (n config again : Nat) : List Nat :=
  (List.range n).flatMap (fun i => [if i = 0 then 0x3A else 0x3B, 0xD2, 0x1E]) ++ [if n = 0 then 0x3A else 0x3B] ++
    (List.range (1 + again)).flatMap fun _ => [0x96, 0x4B, config, crcRl [0x4B, config]]

/-- R339, R341: a full walk, whose results become due; it runs in STANDARD, and the speed that it chooses holds from its end on. A rise above 0.8 µs keeps the string in STANDARD
(R328). A WRITE_CONFIG that failed is repeated once; what a second failure brings besides its slot errors the spec does not say: nothing (DESIGN CHOICE, log entry 11). -/
def runWalk (t : Nat) (x : StringRun) (b : Block) : Block :=
  let s := stringOf b t
  let tags := x.tags.take 32
  let n := tags.length
  let slow := decide (800 < x.rise)
  let fast := isF b (F.RL_TIER_CTL_FAST_EN t) && decide (1 ≤ n) && !slow && tags.all walkFast
  let recs := (List.range n).map fun i =>
    let g := tags.getD i ⟨[], []⟩
    let old := mapGet (fun _ => ({} : Tag)) s.tags (i + 1)
    (i + 1, if old.found ∧ old.serial = walkSerial g then { old with caps := walkCaps g }
      else { ({} : Tag) with serial := walkSerial g, caps := walkCaps g, found := true })
  let crcs := (tags.filter fun g => !rlCrcOk 7 g.id).length + (tags.filter fun g => !rlCrcOk 2 g.speed).length
  let config := walkConfig (getF b (F.RL_TIER_CTL_AVG t)) fast
  let again := min 1 x.convert
  let stop := nowNs b + 1000 * walkUs n again
  let due : StringDue := ⟨stop, true, n, decide (32 < x.tags.length), slow, 0, recs, [], [], x.slotErrs + min 2 x.convert, crcs⟩
  putString t { s with count := n, fastFrom := if fast then some stop else none, walked := true, rise := slow, tags := recs, walkDue := false, walkNow := false, busyTo := stop, due := s.due ++ [due], config := config }
    (emitOut (.reedline t (walkBytes n config again)) b)

/-- The bytes of one READ_SCRATCH pass their CRC (R336, R338). -/
def scratchOk (bs : List Byte) : Bool := rlCrcOk 8 bs

/-- R343, R344: one tag's reading from its attempts; `conv`: CONVERT was retried. -/
def readTag (old : Tag) (x : TagRead) (conv : Bool) : Tag :=
  let good := fun (a : Option (List Byte)) => match a with
    | some bs => scratchOk bs
    | none => false
  let tries := x.attempts.take 2
  match tries.find? good with
  | some (some bs) =>
    let at_ := fun i => (bs.getD i 0).toNat
    let temp := at_ 2 + 256 * at_ 3
    let same := old.cnt == some (at_ 1)
    { old with
      temp := temp, cnt := some (at_ 1), stale := same, retried := conv || !(match tries with | a :: _ => good a | [] => true), fail := false
      valid := decide (temp ≠ 0x8000) && bitOf (at_ 0) 0 && !same && at_ 5 == old.serial % 256 }
  | _ => { old with fail := true, valid := false, stale := false, retried := conv || decide (2 ≤ tries.length) }

/-- The serial byte read differs from the walked one (R344). -/
def wrongSerial (old : Tag) (x : TagRead) : Bool :=
  (x.attempts.take 2).any fun a => match a with
    | some bs => scratchOk bs && (bs.getD 5 0).toNat != old.serial % 256
    | none => false

/-- The bytes of a cycle (R335, R342, R343): CONVERT for all, again where it failed once; each tag selected and read, again where its first attempt failed; one SELECT more. -/
def cycleBytes (convert : Nat) (reads : List TagRead) : List Nat :=
  let one := fun (i : Nat) => (if i = 0 then 0x3A else 0x3B) :: List.replicate (max 1 (min 2 (reads.getD i ⟨[]⟩).attempts.length)) 0xB4
  (List.range (1 + min 1 convert)).flatMap (fun _ => [0x96, 0x27]) ++ (List.range reads.length).flatMap one ++ [if reads.isEmpty then 0x3A else 0x3B]

/-- R342, R343: a reading cycle, whose results become due; a changed count, an acknowledge error, a wrong serial number or a FAST fallback makes the next one
a walk. -/
def runCycle (t : Nat) (x : StringRun) (b : Block) : Block :=
  let s := stringOf b t
  let n := s.count
  let reads := x.reads.take n
  let r := reads.length
  let old := fun p => mapGet (fun _ => ({} : Tag)) s.tags p
  let again := decide (1 ≤ x.convert)
  let convBad := decide (2 ≤ x.convert)
  let got := (List.range r).map fun i => (i + 1, readTag (old (i + 1)) (reads.getD i ⟨[]⟩) again)
  let got := if convBad then got.map fun (p, g) => (p, { g with valid := false, fail := true }) else got
  let rest := if x.ackErr then (span (r + 1) n).map fun p => (p, { old p with fail := true, valid := false, retried := again }) else []
  let failed := (got.filter fun g => g.2.fail).map (·.1)
  let slots := x.slotErrs + min 2 x.convert + nat01 x.ackErr + ((reads.map fun g => ((g.attempts.take 2).filter (·.isNone)).length).sum)
  let crcs := (reads.map fun g => ((g.attempts.take 2).filter fun a => match a with
    | some bs => !scratchOk bs
    | none => false).length).sum
  let count := r + nat01 (x.more && r == n && !x.ackErr)
  let serial := (List.range r).any fun i => wrongSerial (old (i + 1)) (reads.getD i ⟨[]⟩)
  let walk := (count != n && !x.ackErr) || x.ackErr || serial || (stringFast b t && !failed.isEmpty)
  let us := cycleUs b t n
  let stop := nowNs b + 1000 * us
  let due : StringDue := ⟨stop, false, if x.ackErr then n else count, false, false, (us + 9) / 10, got ++ rest, got.map (·.1), failed, slots, crcs⟩
  let tags := (got ++ rest).foldl (fun m g => mapPut (fun _ => {}) m g.1 g.2) s.tags
  putString t { s with tags := tags, walkDue := walk, busyTo := stop, due := s.due ++ [due] } (emitOut (.reedline t (cycleBytes x.convert reads)) b)

/-- REEDLINE_CYCLE (R339, R342): at a cycle boundary each enabled string runs its cycle or the walk that takes its place; a boundary that finds it running is
skipped. A walk due at a chain tick runs at it. -/
def stringsRun (xs : List StringRun) (b : Block) : Block :=
  if !framesRun b || frame b % 20 ≠ 0 || b.rl.ran = some (devF b) then b else
  let b := { b with rl := { b.rl with ran := some (devF b) } }
  let boundary := decide (frame b / 20 % max 20 (getF b F.RL_CTL_PERIOD) = 0)
  each (List.range 16) (fun t b =>
    if !stringOn b t then b else
    let s := stringOf b t
    let x := (xs.find? fun x => x.tier.val == t).getD ⟨Fin.ofNat 16 t, [], 0, 0, 0, [], false, false⟩
    if s.walkNow then runWalk t x b
    else if !boundary then b
    else if nowNs b < s.busyTo then addF (F.RL_ERR_CNT_SKIP t) 1 b
    else if s.walkDue then runWalk t x b
    else runCycle t x b) b

/-- R340: RL_COUNT_MISMATCH[t] after a count. -/
def countCheck (t count : Nat) (b : Block) : Block :=
  let e := getF b (F.RL_TOPO_EXPECT t)
  let bad := decide (e ≠ 0 ∧ count ≠ e) || isF b (F.RL_TIER_STATUS_OVER t)
  let c := { b with rl := { b.rl with counts := mapPut (fun _ => 64) b.rl.counts t count } }
  if bad || condOf c (Slot.rlCount t) ≠ {} then setLevel (Slot.rlCount t) bad 0 c else c

/-- EXPECT of string `t` changed (R340): the source is live while EXPECT is not 0 and the latest count differs; where it now matches the source waits for a walk or cycle that
does. -/
def topoCheck (t : Nat) (b : Block) : Block :=
  let e := getF b (F.RL_TOPO_EXPECT t)
  let live := (condOf b (Slot.rlCount t)).level
  let differs := b.rl.counts.any fun x => x.1 == t && x.2 != e
  let bad := isF b (F.RL_TIER_STATUS_OVER t) || (decide (e ≠ 0) && (live || differs))
  if bad = live then b else setLevel (Slot.rlCount t) bad 0 b

/-- R345: the surface temperatures that the readings of string `t` give, unless a count mismatch holds them back (R340); they enter the sums of the interval (R213). -/
def surface (j : ChainJob) (t : Nat) (d : StringDue) (b : Block) : Block :=
  if (condOf b (Slot.rlCount t)).level && isF b F.RL_CTL_HOLD_MM then b else
  let mapped := fun p => bitsOf (getR b (R.RL_MAP t ((p - 1) / 4))).toNat (8 * ((p - 1) % 4)) 8
  each (tierCells t) (fun n b =>
    let vs := (d.tags.filter fun g => d.read.contains g.1 && g.2.valid && mapped g.1 == localOf n).map fun g => signed 16 g.2.temp
    if vs.isEmpty || !present b n then b else
    let x : Rat := (vs.sum : Rat) / (vs.length : Rat)
    let old := mapGet (fun _ => ((0 : Rat), (0 : Rat), 0)) b.fen.tempSum n
    let new := (if old.2.2 = 0 then x else old.1, old.2.1 + x, old.2.2 + 1)
    { b with rl := { b.rl with temps := mapPut (fun _ => (0, 0)) b.rl.temps n (x, j.dev) }
             fen := { b.fen with tempSum := mapPut (fun _ => (0, 0, 0)) b.fen.tempSum n new } }) b

/-- The results of a finished walk or cycle of string `t` reach the supervisor (R345). -/
def deliver (j : ChainJob) (t : Nat) (d : StringDue) (b : Block) : Block :=
  let b := addF (F.RL_ERR_CNT_CRC t) d.crcs (addF (F.RL_ERR_CNT_SLOT t) d.slots b)
  let b := count 0x39 d.crcs { tier := some t } (count 0x38 d.slots { tier := some t } b)
  let b := if d.walk then
      let b := setF (F.RL_TIER_STATUS_COUNT t) d.count (putF (F.RL_TIER_STATUS_OVER t) d.beyond (putF (F.RL_TIER_STATUS_RISE_SLOW t) d.rise b))
      each (span 1 32) (fun p b =>
        let g := (d.tags.find? (·.1 == p)).map (·.2)
        { b with rl := { b.rl with tags := mapPut (fun _ => {}) b.rl.tags (tagNo t p) (g.getD { tagOf b t p with found := false }) } }) b
    else
      let b := setF (F.RL_TIER_STATUS_CYCLE t) (min 65535 d.length) b
      let b := each d.tags (fun g b => { b with rl := { b.rl with tags := mapPut (fun _ => {}) b.rl.tags (tagNo t g.1) g.2 } }) b
      count 0x3A ((d.tags.filter fun g => d.read.contains g.1 && g.2.valid).length) { tier := some t } b
  let b := countCheck t d.count b
  let b := if d.failed.isEmpty then b else pulse (Slot.rlTag t) ((d.failed.map fun p => 2 ^ (p - 1)).sum) b
  if d.walk then b else surface j t d b

/-- READING_DELIVERY (R345): at a chain tick, the results that have ended reach the supervisor from each tier that delivers. -/
def deliverAll (j : ChainJob) (b : Block) : Block :=
  each (List.range 16) (fun t b =>
    let s := stringOf b t
    let ready := s.due.filter fun d => decide (d.endNs ≤ j.dev * 50000)
    if ready.isEmpty || !tierAvail b t then b else
    each ready (deliver j t) (putString t { s with due := s.due.filter fun d => !decide (d.endNs ≤ j.dev * 50000) } b)) b

/-- What a string has to deliver once the walk or cycle that runs is abandoned. -/
def rlEnded (s : RlString) (b : Block) : List StringDue := s.due.filter fun d => decide (d.endNs ≤ nowNs b)

/-- The tier of string `t` loses power, with all it had to deliver, or the string is reset (`soon`) (R346): what runs is abandoned and a full walk follows. -/
def stringDrop (t : Nat) (soon : Bool) (b : Block) : Block :=
  let s := stringOf b t
  putString t { s with due := if soon then rlEnded s b else [], busyTo := 0, fastFrom := none, walkDue := true, walkNow := soon } b

/-- R340: LEARN copies every COUNT into EXPECT. -/
def rlLearn (b : Block) : Block :=
  each (List.range 16) (fun t b => topoCheck t (setF (F.RL_TOPO_EXPECT t) (getF b (F.RL_TIER_STATUS_COUNT t)) b)) b

/-- A write of RL_CTL. -/
def writeRlCtl (v : Word) (b : Block) : Block :=
  let b := writeBits R.RL_CTL v b
  let b := when (bitOf v.toNat 3) rlLearn b
  when (bitOf v.toNat 2) (each (List.range 16) walkNext) b

/-- A write of RL_TAG_SEL: the tag's data are copied (R349). -/
def writeTagSel (v : Word) (b : Block) : Block :=
  let b := writeBits R.RL_TAG_SEL v b
  let g := tagOf b (getF b F.RL_TAG_SEL_TIER) (getF b F.RL_TAG_SEL_POS_M1 + 1)
  let b := setR R.RL_TAG_ID_HI (w32 (nat01 g.found * 2 ^ 31 + nat01 (bitOf g.caps 1) * 2 ^ 30 + g.serial / 2 ^ 32)) (setR R.RL_TAG_ID_LO (w32 g.serial) b)
  setR R.RL_TAG_DATA (w32 (g.temp * 2 ^ 16 + (g.cnt.getD 0) * 256 + nat01 g.stale * 8 + nat01 g.retried * 4 + nat01 g.fail * 2 + nat01 g.valid)) b

/-- RL_STATUS and RL_TIER_STATUS[t] as they read. -/
def rlRead (b : Block) (a : Nat) : Option Nat :=
  let runs := fun t => stringOn b t && (stringOf b t).walked
  if a = R.RL_STATUS then
    some (tierBits ((List.range 16).filter runs) * 2 ^ 16 + tierBits ((List.range 16).filter fun t => arrBit b (R.SL_LIVE 0) (Slot.rlCount t)))
  else if 0xD904 ≤ a ∧ a < 0xDD00 ∧ (a - 0xD904) % 64 = 0 then
    let t := (a - 0xD904) / 64
    let w := (getR b a).toNat
    some (setBitsOf (setBitsOf w 30 2 (if runs t then (if stringFast b t then 2 else 1) else 0)) 27 1 (nat01 (stringOf b t).short))
  else none

/-! Commands. -/

/-- RL_WALK (R339): a write of RL_CTL with WALK = 1. -/
def execRlWalk (v : Word) (s : State) : Host.Outcome State Fault Refusal := run (fun b => if ready b then writeRlCtl (v ||| 4) b else b) s

/-- RL_LEARN (R340): a write of RL_CTL with LEARN = 1. -/
def execRlLearn (v : Word) (s : State) : Host.Outcome State Fault Refusal := run (fun b => if ready b then writeRlCtl (v ||| 8) b else b) s

def execReedlineCycle (xs : List StringRun) (s : State) : Host.Outcome State Fault Refusal := run (stringsRun xs) s

/-- RL_LINE_SHORT (R346): the line of string `t` has been low for 2 ms: RL_SHORT[t], and the string stops. -/
def execRlLineShort (t : Tier) (s : State) : Host.Outcome State Fault Refusal :=
  run (fun b =>
    if !framesRun b || b.pwr.supplyLost.contains t.val || (stringOf b t.val).short then b else
    setLevel (Slot.rlShort t.val) true 0 (putString t.val { stringOf b t.val with short := true, due := rlEnded (stringOf b t.val) b, busyTo := 0, fastFrom := none } b)) s

/-- RL_SHORT_RECOVERY (R346): the line has been high for 10 ms: the string runs again, with a full walk. -/
def execRlShortRecovery (t : Tier) (s : State) : Host.Outcome State Fault Refusal :=
  run (fun b =>
    if !(stringOf b t.val).short then b else
    setLevel (Slot.rlShort t.val) false 0 (putString t.val { stringOf b t.val with short := false, walkDue := true } b)) s

/-- RL_TAG_SEL (R349). -/
def execRlTagSel (v : Word) (s : State) : Host.Outcome State Fault Refusal := run (fun b => if ready b then writeTagSel v b else b) s

end Sys2Proof.Machine
end

