-- ==== Sys2Proof/Machine/Fast.lean ====
section
/-! DEFINITION. The Fen engine's inputs and its fast layer: cell current and the step integrator (R200 to R204), temperatures (R228, R248), the fast layer (R205 to
R208), and the nodes of the state region as they read (R209, R210, R228). -/

namespace Sys2Proof.Machine

/-! Temperatures. -/

/-- A temperature word of R132 in °C; none where it reads 0x8000. -/
def tempOf (w : Nat) : Option Rat := if w = 0x8000 then none else some ((signed 16 w : Rat) / 128)

/-- The measured temperature of a boundary's source (R247): 0 AUXAt, 1 AUXBt, 2 die temperature of tier t. -/
def sourceTemp (b : Block) (src t : Nat) : Option Rat :=
  match src with
  | 0 => tempOf (getF b (F.FE_AUX_NTC_TA t))
  | 1 => tempOf (getF b (F.FE_AUX_NTC_TB t))
  | _ => tempOf (getF b (F.FE_AUX_T_DIE t))

/-- The mean of all valid NTC temperatures (R248); with none the spec states no value. -/
def meanNtc (b : Block) : Rat :=
  let xs := (List.range 16).flatMap fun t => (sourceTemp b 0 t).toList ++ (sourceTemp b 1 t).toList
  if xs.isEmpty then ((Config.unstated 34 [devF b] % 65536 : Nat) : Rat) / 128 else xs.sum / (xs.length : Rat)

/-- The temperature of pack node `i`'s first boundary with a valid value, in entry order, else the mean of the NTCs (R248). -/
def packTemp (b : Block) (m : List (Nat × Word)) (i : Nat) : Rat :=
  let entries := (List.range (nBc m)).filter fun k => imgW m (bcsAt m + 12 * k) == i
  (entries.findSome? fun k => sourceTemp b (imgB m (bcsAt m + 12 * k + 4)) (imgB m (bcsAt m + 12 * k + 5))).getD (meanNtc b)

/-- The mapped NTC temperature of cell `n` (R248): that of the first pack node it is linked to. -/
def mappedTemp (b : Block) (m : List (Nat × Word)) (n : Nat) : Rat :=
  match (liveLinks m (presentCells b)).findSome? fun l =>
      if l.1 = n ∧ bitOf l.2 31 then some (l.2 % 2 ^ 23) else if l.2 = n ∧ bitOf l.1 31 then some (l.1 % 2 ^ 23) else none with
  | some i => packTemp b m i
  | none => meanNtc b

/-- The surface temperature of cell `n` in °C: its last Reedline value (R345), else its mapped NTC temperature (R228). -/
def cellTemp (b : Block) (n : Nat) : Rat :=
  match b.rl.temps.find? (·.1 == n) with
  | some (_, x, _) => x / 128
  | none => mappedTemp b b.fen.image n

/-! Cell current and the step integrator (R200 to R203). -/

/-- I = code × 10 nV / FE_SHUNT[k] in A under a set, the code being a chain-tick average (R125). -/
def shuntAmps (set : List (Nat × Word)) (b : Block) (k : Nat) : Rat :=
  let r : Nat := (mapGet resetWord set (R.FE_SHUNT k)).toNat
  if r = 0 then 0 else ((mapGet (fun _ => 0) b.fe.avg (192 + k) : Int) : Rat) * 10 / (r : Rat)

/-- I_pack of the chain tick in A under its set, where its average is valid (R125, R154, R201). -/
def packAmps (set : List (Nat × Word)) (b : Block) : Option Rat :=
  let ok := fun k => b.fe.avgOk.contains (192 + k)
  match fieldIn set F.FE_ISENSE_CTL_FEN_SRC with
  | 0 => if ok 1 then some (shuntAmps set b 1) else none
  | 1 => if ok 2 then some (shuntAmps set b 2) else none
  | _ => if ok 1 && ok 2 then some ((shuntAmps set b 1 + shuntAmps set b 2) / 2) else none

def fastOf (b : Block) (n : Nat) : FastCell := mapGet (fun _ => {}) b.fen.fast n
def putFast (n : Nat) (c : FastCell) (b : Block) : Block := { b with fen := { b.fen with fast := mapPut (fun _ => {}) b.fen.fast n c } }

/-- Charge in As added to the integrator of cell `n`, and to what its fast layer has yet to apply (R204, R208). -/
def integrate (n : Nat) (q : Rat) (b : Block) : Block :=
  let c := fastOf b n
  putFast n { c with owed := c.owed + q } { b with fen := { b.fen with integ := mapPut (fun _ => 0) b.fen.integ n (mapGet (fun _ => 0) b.fen.integ n + q) } }

/-- R201: after 1,000 consecutive held chain ticks NOCUR sets. -/
def holdLimit (b : Block) : Block :=
  if 1000 ≤ b.fen.holds ∧ !isF b F.FEN_STATUS_NOCUR then
    let b := setLevel Slot.fenNocur true 0 (setF F.FEN_STATUS_NOCUR 1 b)
    each (span 1 192) (fun n b => setF (F.FEN_CELL_STATUS_NOCUR n) 1 b) b
  else b

/-- I_pack of the chain tick that ended is taken, or the last one held and counted (R201). -/
def currentTaken (j : ChainJob) (b : Block) : Block :=
  match packAmps j.set b with
  | some i =>
    let c := setF F.FEN_STATUS_NOCUR 0 (setF F.FEN_HOLD_CONSEC 0 { b with fen := { b.fen with lastI := i, holds := 0 } })
    if isF b F.FEN_STATUS_NOCUR then setLevel Slot.fenNocur false 0 (each (span 1 192) (fun n => setF (F.FEN_CELL_STATUS_NOCUR n) 0) c) else c
  | none => holdLimit (count 0x24 1 {} (addF F.FEN_HOLD_CONSEC 1 (addF F.FEN_HOLD_TOTAL 1 { b with fen := { b.fen with holds := b.fen.holds + 1 } })))

/-- The pack current the integrator uses in A: 0 after 1,000 consecutive held chain ticks (R201). The count is the integrator's own, which no block reset touches
(R230). -/
def heldAmps (b : Block) : Rat := if 1000 ≤ b.fen.holds then 0 else b.fen.lastI

/-- The sums of a chain tick: over the pack, and of the valid averages of each cell (R201, R214). -/
def tickSums (j : ChainJob) (b : Block) : Block :=
  { b with fen := { b.fen with
    absSum := b.fen.absSum + (if heldAmps b < 0 then -heldAmps b else heldAmps b), absCount := b.fen.absCount + 1
    nocurAt := if 1000 ≤ b.fen.holds then some j.dev else b.fen.nocurAt
    voltSum := ((presentCells b).filter b.fe.avgOk.contains).foldl (fun m n =>
      let x := mapGet (fun _ => ((0 : Int), 0)) m n
      mapPut (fun _ => (0, 0)) m n (x.1 + mapGet (fun _ => 0) b.fe.avg n, x.2 + 1)) b.fen.voltSum } }

/-- I_n of cell `n` in A for the chain tick that ended (R200). -/
def cellAmps (j : ChainJob) (b : Block) (n : Nat) : Rat :=
  heldAmps b + (windowCurrent b n (8 * j.dev) (meanWindow j.notch) + iTier b (tierOf n)) / 1000

/-- The seconds that a chain tick covers: a millisecond but where it was cut short (R359). -/
def tickSecs (j : ChainJob) : Rat := (j.len : Rat) / 20000

/-- The charge of a chain tick per present cell (R200, R201). -/
def tickCharge (j : ChainJob) (b : Block) : Block := each (presentCells b) (fun n b => integrate n (cellAmps j b n * tickSecs j) b) b

/-- The integrator at a chain tick (R200, R201). -/
def integrator (j : ChainJob) (b : Block) : Block := tickCharge j (tickSums j (currentTaken j b))

/-! The fast layer. -/

/-- The class of cell `n` in the image in force. -/
def classOf (b : Block) (n : Nat) : Nat := cellClass b.fen.image n

/-- The words of cell `n` in the active copy that are its own. -/
def ownOf (b : Block) (n : Nat) : List (Nat × Word) := mapGet (fun _ => []) b.fen.own n

/-- Parameter `p` of cell `n` from the active copy at `z` % and `t` °C (R206, R245). -/
def cellParam (b : Block) (n p : Nat) (z t : Rat) : Rat := param b.fen.image (ownOf b n) (classOf b n) p z t

/-- Polarisation pairs of cell `n`. -/
def nPairs (b : Block) (n : Nat) : Nat := imgB b.fen.image (classAt b.fen.image (classOf b n) + 2)

/-- K_z of cell `n` in 1/V. -/
def kz (b : Block) (n : Nat) : Rat := imgF b.fen.image (classAt b.fen.image (classOf b n) + 0x0C)

/-- The OCV slice of cell `n` at a temperature: its points of state of charge (%) and voltage. -/
def ocvSlice (b : Block) (n : Nat) (t : Rat) : List (Rat × Rat) :=
  match tableOf b.fen.image (classOf b n) 1 with
  | some o => (List.range (tabNZ b.fen.image o)).map fun i =>
      let z := imgF b.fen.image (o + 32 + 4 * i)
      (z, cellParam b n 1 z t)
  | none => []

/-- The first axis value at which a piecewise-linear slice reaches `v`, held at its ends. -/
def invertSlice : List (Rat × Rat) → Rat → Rat
  | [], _ => 0
  | [p], _ => p.1
  | p :: q :: rest, v =>
    if v ≤ p.2 then p.1
    else if v ≤ q.2 then p.1 + (v - p.2) / (q.2 - p.2) * (q.1 - p.1)
    else invertSlice (q :: rest) v

/-- OCV⁻¹(V, T) as a fraction (R208, R245): the lowest state of charge that gives the voltage, the ends of the slice beyond it. -/
def ocvInv (b : Block) (n : Nat) (v t : Rat) : Rat := invertSlice (ocvSlice b n t) v / 100

/-- z held between -5.00 % and 105.00 % (R205). -/
def holdZ (z : Rat) : Rat := if z < -5 / 100 then -5 / 100 else if 105 / 100 < z then 105 / 100 else z

/-- R206: a cell's parameters looked up at a step boundary. -/
def fastLookup (n : Nat) (b : Block) : Block :=
  let c := fastOf b n
  let t := cellTemp b n
  let z := 100 * c.z
  let k := nPairs b n
  putFast n { c with
    u := (List.range k).map fun i => c.u.getD i 0
    rser := cellParam b n 2 z t, q := cellParam b n 9 z t, temp := t
    rp := (List.range k).map fun i => cellParam b n (3 + i) z t
    cp := (List.range k).map fun i => cellParam b n (6 + i) z t } b

/-- The registers of the fast layer of cell `n` (R208). -/
def fastPublish (n : Nat) (b : Block) : Block :=
  let c := fastOf b n
  let b := setF (F.FEN_FAST_SOC_SOC n) (unsigned 16 (clampInt (-32768) 32767 (published 41 (c.z * 10000)))) b
  let b := setF (F.FEN_FAST_SOC_UPOL n) (unsigned 16 (clampInt (-32768) 32767 (published 42 (c.u.sum * 100000)))) b
  putF (F.FEN_CELL_STATUS_FAST_OL n) c.openLoop (setR (R.FEN_FAST_RSER n) (w32 (publishedIn 43 32 (c.rser * 1000000000))) b)

/-- V_meas of cell `n` in V. -/
def vMeas (b : Block) (n : Nat) : Rat := ((mapGet (fun _ => 0) b.fe.avg n : Int) : Rat) / 1000000

/-- R205, R207: one chain tick of cell `n` with current `i` in A; charge of a pause is applied with it (R204, R208). Where Q is 0 (no parameters looked up yet, or a table
of 0) the spec states no z - I Δt / Q; charge then leaves z as it is (DESIGN CHOICE, log entry 15). -/
def fastStep (n : Nat) (i dt : Rat) (held : Bool) (bad : List Nat) (b : Block) : Block :=
  let c := fastOf b n
  let u := (List.range c.u.length).map fun k =>
    let r := c.rp.getD k 0
    let tau := r * c.cp.getD k 0
    let a := if tau = 0 then 0 else expNeg (dt / tau)
    a * c.u.getD k 0 + (1 - a) * r * i
  let model := cellParam b n 1 (100 * c.z) c.temp - c.rser * i - u.sum
  let ol := held || !b.fe.avgOk.contains n || bad.contains n
  let moved := if c.q = 0 then c.z else c.z - c.owed / c.q
  let z := if ol then moved else moved + kz b n * (vMeas b n - model)
  fastPublish n (putFast n { c with z := holdZ z, u := u, owed := 0, openLoop := ol } b)

/-- The Fen engine is under self-test (R217, R478). -/
def fenTest (b : Block) : Bool := b.bist.host.any fun r => r.target == 0x10

/-- The FEN domain is being reset. -/
def fenReset (b : Block) : Bool := b.sl.blkRun.any fun x => decide (x.1 = .fen)

/-- The fast layer runs at this chain tick: started, in RUN or SAFE, the engine neither under test, failed nor in reset. -/
def fastRuns (b : Block) : Bool :=
  b.fen.fastOn && (decide (b.pwr.state = .run) || decide (b.pwr.state = .safe)) && !lifeIs b .retired && !fenTest b && !fenReset b && !isF b F.BIST_FAILED_FEN && !isF b F.BIST_FAILED_MEM

/-- The fast layer at a chain tick, after the integrator; a cell whose restart waits for a valid average takes OCV⁻¹ of it (R204). -/
def fastLayer (j : ChainJob) (b : Block) : Block :=
  if !fastRuns b then b else
    let held := !(packAmps j.set b).isSome
    each (b.fen.cells.filter (present b)) (fun n b =>
      if b.fen.restart.contains n then
        if b.fe.avgOk.contains n then
          let b := { b with fen := { b.fen with restart := b.fen.restart.filter (· != n) } }
          fastPublish n (putFast n { fastOf b n with z := holdZ (ocvInv b n (vMeas b n) (cellTemp b n)), u := List.replicate (nPairs b n) 0, owed := 0 } b)
        else b
      else fastStep n (cellAmps j b n) (tickSecs j) held j.bad b) b

/-- R201, R214: at the chain tick of a step's boundary the integrator closes the step's interval. -/
def closeInterval (j : ChainJob) (b : Block) : Block :=
  match b.fen.step with
  | none => b
  | some s =>
    if s.closed || j.dev < s.start then b else
    let s := { s with
      closed := true
      nocur := match b.fen.nocurAt with
        | some d => decide (s.from_ < d)
        | none => false
      charge := b.fen.integ
      volt := b.fen.voltSum
      temp := b.fen.tempSum
      noVolt := b.fen.cells.filter fun n =>
        b.fen.voltSum.all (·.1 != n) || owLive (popIn b.act) b n || b.fe.chkBad.contains n
      temps := b.fen.cells.filter fun n => b.fen.tempSum.any (·.1 == n)
      absSum := b.fen.absSum, absCount := b.fen.absCount, fast := b.fen.fast }
    { b with fen := { b.fen with step := some s } }

/-- What the sums of the integrator hold beyond those of a closed interval. -/
def sumsLess {α : Type} [DecidableEq α] (zero : α) (sub : α → α → α) (all closed : List (Nat × α)) : List (Nat × α) :=
  all.foldl (fun m x => mapPut (fun _ => zero) m x.1 (sub x.2 (mapGet (fun _ => zero) closed x.1))) []

/-- A step completes: its interval leaves the integrator, and the next begins at its end (R202). -/
def dropInterval (s : FenStep) (b : Block) : Block :=
  { b with fen := { b.fen with
    integ := sumsLess 0 (· - ·) b.fen.integ s.charge
    voltSum := sumsLess (0, 0) (fun x y => (x.1 - y.1, x.2 - y.2)) b.fen.voltSum s.volt
    tempSum := sumsLess (0, 0, 0) (fun x y => if x.2.2 = y.2.2 then (0, 0, 0) else (x.1, x.2.1 - y.2.1, x.2.2 - y.2.2)) b.fen.tempSum s.temp
    absSum := b.fen.absSum - s.absSum, absCount := b.fen.absCount - s.absCount, from_ := s.start } }

/-- The mean of the valid averages of cell `n` over the interval of step `s`, in V (R213). -/
def stepVolt (s : FenStep) (n : Nat) : Option Rat :=
  (s.volt.find? (·.1 == n)).map fun x => (x.2.1 : Rat) / 1000000 / (x.2.2 : Rat)

/-- The surface temperature of cell `n` over the interval of step `s` in °C: the mean of its readings, and for an interval that contains PARK the first after the wake
(R203, R213). -/
def stepTemp (b : Block) (s : FenStep) (n : Nat) : Option Rat :=
  (s.temp.find? (·.1 == n)).map fun x => if s.from_ < b.fen.wokeAt then x.2.1 / 128 else x.2.2.1 / 128 / (x.2.2.2 : Rat)

/-- R203: charge of a PARK interval of `secs` seconds: the tier supply current of R75 and the bleed of continuation timers (mAs per cell in `bleed`). -/
def parkCharge (secs : Nat) (cont : List (Nat × Nat)) (bleed : List (Nat × Rat)) (b : Block) : Block :=
  each (presentCells b) (fun n b =>
    let onSecs := min secs (mapGet (fun _ => 0) cont (tierOf n))
    let ma : Rat := (onSecs : Rat) * 5 / 2 + ((secs - onSecs : Nat) : Rat) * 3 / 100
    integrate n ((ma + mapGet (fun _ => 0) bleed n) / 1000) b) b

/-- R204: the fast layer after a wake, `kept` with RETAIN bit 13: else U_k is 0 and z follows the last full-layer state, or the first valid average where no step has
completed since the last image swap. -/
def fastWake (kept : Bool) (b : Block) : Block :=
  if !b.fen.fastOn || kept then b else
  each b.fen.cells (fun n b =>
    let c := fastOf b n
    match (if b.fen.stepped then b.fen.lastSoc else []).find? (·.1 == n) with
    | some (_, soc) =>
      let used := mapGet (fun _ => 0) b.fen.integ n
      putFast n { c with z := holdZ (if c.q = 0 then soc else soc - used / c.q), u := c.u.map fun _ => 0, owed := 0 } b
    | none => { b with fen := { b.fen with restart := addOnce n b.fen.restart } }) b

/-! Nodes (R209, R210, R228). -/

/-- The binary32 word of a number, exact where it has one, else one of its neighbours (log entry 7). -/
def toF32 (x : Rat) : Nat :=
  let a : Rat := if x < 0 then -x else x
  let mag := if a = 0 then 0 else
    let e := (List.range 254).find? fun e => decide (a * (2 ^ 127 : Nat) < (2 ^ (e + 2) : Nat))
    match e with
    | none => 0x7F7FFFFF
    | some e =>
      let e := e + 1
      let m := (published 44 (a * (2 ^ 150 : Nat) / (2 ^ e : Nat))).toNat
      if 2 ^ 23 ≤ m then e * 2 ^ 23 + (m - 2 ^ 23) else m
  mag + nat01 (decide (x < 0)) * 2 ^ 31

/-- Nodes of cell `n` under an image. -/
def nodesOf (m : List (Nat × Word)) (n : Nat) : Nat := tmplNodes m (tmplAt m (cellClass m n))

/-- Base index of cell `n` in a layout (R210). -/
def baseIn (m : List (Nat × Word)) (cells : List Nat) (n : Nat) : Nat := ((cells.filter (· < n)).map (nodesOf m)).sum

/-- Base index of cell `n` in the layout in force (R210). -/
def cellBase (b : Block) (n : Nat) : Nat := baseIn b.fen.image b.fen.cells n

/-- The half that holds the last completed state. -/
def curHalf (b : Block) : Half := if isF b F.FEN_STATUS_HALF then b.fen.halves.2 else b.fen.halves.1

/-- The half a step writes, in the layout in force. -/
def putHalf (x : List (Nat × NodeSrc)) (b : Block) : Block :=
  let h : Half := ⟨b.fen.image, b.fen.cells, x⟩
  { b with fen := { b.fen with halves := if isF b F.FEN_STATUS_HALF then (h, b.fen.halves.2) else (b.fen.halves.1, h) } }

/-- A free binary32 word of a finite number, by place and operands. -/
def freeF32 (place : Nat) (args : List Int) : Nat :=
  let w := Config.unstated place args % 2 ^ 32
  if w / 2 ^ 23 % 256 = 255 then w - 2 ^ 30 else w

/-- What tells the free values of one state from those of another. -/
def srcSeed : NodeSrc → Nat
  | .kernel s _ _ => s
  | _ => 0

/-- The stoichiometry of SP node `j` of cell `n`, of its anode or its cathode: a cold start sets it uniform (R228, R239); what the kernels computed is free (log entry 15). -/
def spStoich (src : NodeSrc) (n j : Nat) (anode : Bool) : Rat :=
  match src with
  | .cold xa xc _ _ _ => if anode then xa else xc
  | _ => ((Config.unstated 35 [srcSeed src, n, j] % (2 ^ 24 + 1) : Nat) : Rat) / 2 ^ 24

/-- Local node `j` of the template at `o` belongs to an anode particle (R241). -/
def anodeNode (m : List (Nat × Word)) (o j : Nat) : Bool := decide (j % tmplStack m o < imgB m (o + 2))

/-- KIND and the two values of local node `j` of cell `n` (R209, R228). The concentration that a stoichiometry stands for is open: an image gives no concentration of
the full particle (log entry 15). -/
def cellNode (m : List (Nat × Word)) (src : NodeSrc) (n j : Nat) : Nat × Nat × Nat :=
  let o := tmplAt m (cellClass m n)
  let k := nodeKind m o j
  let free := fun (v : Int) => freeF32 30 [srcSeed src, n, j, v]
  let x := spStoich src n j (anodeNode m o j)
  let conc := freeF32 36 [n, nat01 (anodeNode m o j), x.num, x.den]
  match k, src with
  | 1, _ => (k, conc, free 1)
  | 2, .cold _ _ rest _ _ => (k, rest, 0)
  | 3, .cold _ _ _ v _ => (k, toF32 v, free 1)
  | 4, .cold _ _ _ _ t => (k, toF32 t, free 1)
  | _, _ => (k, free 0, free 1)

/-- KIND and the two values of pack node `i` (R209, R228). -/
def packNode (src : NodeSrc) (i : Nat) : Nat × Nat × Nat :=
  match src with
  | .pack ts => (5, toF32 (ts.getD i 0), freeF32 30 [0, 0, i, 1])
  | _ => (5, freeF32 30 [srcSeed src, 0, i, 0], freeF32 30 [srcSeed src, 0, i, 1])

/-- The source of the nodes of cell `n` in a half, of the pack nodes for 0. -/
def halfSrc (h : Half) (n : Nat) : NodeSrc := mapGet (fun _ => NodeSrc.none) h.nodes n

/-- Node `i` of the half that holds the last completed state, in that half's own layout: its kind and its two values; kind 0 for an unused index. -/
def nodeAt (b : Block) (i : Nat) : Nat × Nat × Nat :=
  let h := curHalf b
  let nothing := (0, Config.unstated 31 [i, 0] % 2 ^ 32, Config.unstated 31 [i, 1] % 2 ^ 32)
  let total := (h.cells.map (nodesOf h.image)).sum
  if !isF b F.FEN_STATUS_IMG_VALID || total + nPack h.image ≤ i then nothing
  else if total ≤ i then packNode (halfSrc h 0) (i - total)
  else
    match h.cells.find? fun n => decide (baseIn h.image h.cells n ≤ i ∧ i < baseIn h.image h.cells n + nodesOf h.image n) with
    | none => nothing
    | some n => cellNode h.image (halfSrc h n) n (i - baseIn h.image h.cells n)

/-- The temperatures of the TH nodes of cell `n` in the last completed state, by local index, in °C. -/
def thTemps (b : Block) (n : Nat) : List (Nat × Rat) :=
  let h := curHalf b
  (List.range (nodesOf h.image n)).filterMap fun j =>
    let x := cellNode h.image (halfSrc h n) n j
    if x.1 = 4 then some (j, (f32 x.2.1).getD 0) else none

/-- The volume-weighted mean stoichiometry of the anode SP nodes of cell `n` in the last completed state (R268). Every position has the same share of AREA; how the
radial nodes of a particle share its volume is open (log entry 15). -/
def anodeMean (b : Block) (n : Nat) : Rat :=
  let h := curHalf b
  let o := tmplAt h.image (cellClass h.image n)
  let js := (List.range (nodesOf h.image n)).filter (anodeNode h.image o)
  let w := fun (j : Nat) => ((1 + Config.unstated 37 [imgB h.image (o + 2), (j % tmplStack h.image o : Nat)] : Nat) : Rat)
  (js.map fun j => w j * spStoich (halfSrc h n) n j true).sum / (js.map w).sum

/-- The state of charge of cell `n` in the last completed state as a fraction (R268); where the class gives both ends of charge one stoichiometry there is none stated. -/
def stateSoc (b : Block) (n : Nat) : Rat :=
  let m := (curHalf b).image
  let e := classAt m (cellClass m n)
  let lo := imgF m (e + 0x10)
  let hi := imgF m (e + 0x14)
  if hi = lo then ((Config.unstated 38 [srcSeed (halfSrc (curHalf b) n), n] % 10001 : Nat) : Rat) / 10000 else (anodeMean b n - lo) / (hi - lo)

/-- A write of FEN_NODE_SEL (R232): the node's values are loaded and VALID sets. -/
def writeNodeSel (v : Word) (b : Block) : Block :=
  let b := writeBits R.FEN_NODE_SEL v b
  let (k, v0, v1) := nodeAt b (getF b F.FEN_NODE_SEL_INDEX)
  setF F.FEN_NODE_SEL_VALID 1 (setF F.FEN_NODE_SEL_KIND k (setR R.FEN_NODE_V0 (w32 v0) (setR R.FEN_NODE_V1 (w32 v1) b)))

/-- FEN_NODE_SEL (R232). -/
def execFenNodeSel (v : Word) (s : State) : Host.Outcome State Fault Refusal := run (fun b => if ready b then writeNodeSel v b else b) s

/-- CURRENT_HOLD_LIMIT (R201): after 1,000 consecutive held chain ticks NOCUR sets, where it has not. -/
def execCurrentHoldLimit (s : State) : Host.Outcome State Fault Refusal := run (inFrame holdLimit) s

end Sys2Proof.Machine
end

