-- ==== Sys2Proof/Machine/Policy.lean ====
section
/-! DEFINITION. Estimates and policy (R265 to R281, R289): the EST record, current limits, policy modes, AUTO decisions, model-based sources, host overrides, and
the commands of the family. -/

namespace Sys2Proof.Machine

def polCell (b : Block) (n : Nat) : PolCell := mapGet (fun _ => {}) b.pol.cells n
def putPolCell (n : Nat) (c : PolCell) (b : Block) : Block := { b with pol := { b.pol with cells := mapPut (fun _ => {}) b.pol.cells n c } }

/-- The policy mode in force (R271). -/
def polMode (b : Block) : Nat := getF b F.POL_STATUS_MODE_ACT

/-! The record's quantities (R266 to R268). -/

/-- One cell's entry: its flags but for LIMITING and VALID's consequences, and its quantities; `rpl` is the sensitivity of PLATE to current in 0.1 mV per A. -/
structure EstCell where
  cell  : Nat
  valid : Bool
  flags : Nat
  soc   : Nat
  tcore : Int
  tsurf : Int
  plate : Int
  soh   : Nat
  cap   : Nat
  rser  : Nat
  rpl   : Rat
deriving DecidableEq, Repr

/-- An override of kind `k` in force for a target. -/
def ovrOf (b : Block) (k target : Nat) : Option Override := b.pol.ovr.find? fun o => o.kind == k && o.target == target

/-- A temperature in °C as the record gives it (R132, R268): it never reads 0x8000. -/
def tempWord (x : Rat) : Int := clampInt (-32767) 32767 (published 64 (x * 128))

/-- The largest number of a list that is not empty. -/
def maxOf : List Rat → Rat
  | [] => 0
  | x :: l => l.foldl (fun m y => if m < y then y else m) x

/-- The entry of cell `n` at the end of step `s`, whose state the half in force holds. What the kernels computed is free (log entry 15); what follows from it and from
the active copy is computed. -/
def estCell (b : Block) (s : FenStep) (seed n : Nat) : EstCell :=
  let raw := fun i => Config.unstated 32 [seed, n, i]
  let soc := (clampInt 0 10000 (published 63 (stateSoc b n * 10000))).toNat
  let th := thTemps b n
  let surf := imgH b.fen.image (tmplAt b.fen.image (classOf b n) + 0x14)
  let tcore := tempWord (maxOf (th.map (·.2)))
  let tsurf := tempWord (((th.find? (·.1 == surf)).map (·.2)).getD 0)
  let z : Rat := (soc : Rat) / 100
  let ts : Rat := (tsurf : Rat) / 128
  let reinit := isF b (F.FEN_CELL_STATUS_REINIT n)
  let ol := s.noVolt.contains n
  let valid := !reinit && !ol && !s.nocur && !s.safe
  let nom := (getR b R.POL_CAP_NOM).toNat
  { cell := n, valid := valid
    flags := nat01 valid * 128 + nat01 reinit * 64 + nat01 ol * 32 + nat01 s.nocur * 16 + nat01 (!s.temps.contains n) * 8 + nat01 (ovrOf b 1 n).isSome * 2
    soc := soc, tcore := tcore, tsurf := tsurf, plate := signed 16 (raw 3)
    soh := if nom = 0 then 0 else publishedIn 46 16 (cellParam b n 9 50 25 * 10000000 / (nom : Rat))
    cap := publishedIn 45 32 (cellParam b n 9 z ts * 1000)
    rser := publishedIn 47 32 (cellParam b n 2 z ts * 1000000000)
    rpl := (raw 4 : Rat) / 1000000 }

/-! Current limits (R269). -/

/-- V(H) of a cell in V for a constant current in A, discharge positive. -/
def vAhead (b : Block) (c : EstCell) (f : FastCell) (i : Rat) (h : Nat) : Rat :=
  let z : Rat := 100 * ((c.soc : Rat) / 10000 - (if f.q = 0 then 0 else i * h / f.q))
  let drop := ((List.range f.u.length).map fun k =>
    let r := f.rp.getD k 0
    let tau := r * f.cp.getD k 0
    let a := if tau = 0 then 0 else expNeg ((h : Rat) / tau)
    f.u.getD k 0 * a + r * i * (1 - a)).sum
  cellParam b c.cell 1 z ((c.tsurf : Rat) / 128) - f.rser * i - drop

/-- C_cell in J/K: the CTH values of the cell's TH nodes. -/
def heatCap (b : Block) (c : EstCell) : Rat :=
  let m := b.fen.image
  let o := tmplAt m (classOf b c.cell)
  cellParam b c.cell 0x20 ((c.soc : Rat) / 100) ((c.tsurf : Rat) / 128) * (tmplPos m o * imgB m (o + 6) : Nat)

/-- TCORE after `h` seconds of current `i`, in °C. -/
def coreAhead (b : Block) (c : EstCell) (f : FastCell) (i : Rat) (h : Nat) : Rat :=
  let cc := heatCap b c
  (c.tcore : Rat) / 128 + (if cc = 0 then 0 else i * i * (f.rser + f.rp.sum) * h / cc)

/-- The largest number up to `n` that satisfies `p`. -/
def largest (p : Nat → Bool) : Nat → Option Nat
  | 0 => if p 0 then some 0 else none
  | n + 1 => if p (n + 1) then some (n + 1) else largest p n

/-- The limit of one cell in 10 mA for a horizon (R269); where no current meets the conditions the spec states no value (log entry 6). -/
def cellLimit (b : Block) (s : FenStep) (seed : Nat) (c : EstCell) (dis : Bool) (h : Nat) : Nat :=
  let f := mapGet (fun _ => ({} : FastCell)) s.fast c.cell
  let hot : Rat := (signed 16 (getF b F.POL_THR_TCORE_MAX) : Rat) / 128
  let n := 100 * (if dis then getF b F.POL_ILIM_IMAX_DIS else getF b F.POL_ILIM_IMAX_CHG)
  let ok := fun (k : Nat) =>
    let i : Rat := (k : Rat) / 100
    decide (coreAhead b c f i h ≤ hot) &&
      (if dis then decide ((getF b F.POL_VLIM_V_MIN : Rat) / 1000 ≤ vAhead b c f i h)
       else decide (vAhead b c f (-i) h ≤ (getF b F.POL_VLIM_V_MAX : Rat) / 1000) &&
         decide ((signed 16 (getF b F.POL_THR_PLATE_MIN) : Rat) ≤ (c.plate : Rat) - c.rpl * i))
  (largest ok n).getD (Config.unstated 33 [seed, c.cell, h, nat01 dis] % (n + 1))

/-- The six horizons of words 6 to 11: discharge or charge, seconds. -/
def horizons : List (Bool × Nat) := [(false, 2), (false, 10), (false, 30), (true, 2), (true, 10), (true, 30)]

/-- R280, kind 4: a limit capped by an override. -/
def capped (b : Block) (i v : Nat) : Nat :=
  match ovrOf b 4 i with
  | some o => min v o.arg
  | none => v

/-! AUTO decisions (R273, R274). -/

/-- R273: the balancing targets of a step, handed over for the next frame tick. -/
def autoTargets (es : List EstCell) (b : Block) : Block :=
  let valid := es.filter (·.valid)
  let ref := valid.foldl (fun m e => min m e.soc) 10000
  let ts := es.map fun e =>
    match ovrOf b 1 e.cell with
    | some o => (e.cell, o.arg * 1000)
    | none =>
      let beyond := e.valid && decide (getF b F.POL_AUTO_CTL_BAL_DB < e.soc - ref)
      (e.cell, if beyond then (published 40 (((e.soc - ref : Nat) : Rat) / 10000 * e.cap)).toNat else 0)
  { b with bal := { b.bal with targets := ts } }

/-- A sweep of the active image's definition `i` (R196, R251). -/
def policySweep (b : Block) (i : Nat) : Sweep :=
  let m := b.fen.image
  let src := sweepField m i (F.IMP_DEF_SRC 0)
  { seq := 0, policy := true, src := src, nCyc := sweepField m i (F.IMP_DEF_N_CYC 0)
    freqs := (List.range (sweepField m i (F.IMP_DEF_NPTS 0))).map fun k => imgW m (sweepAt m i + 28 + 4 * k)
    cells := sweepCells m (presentCells b) i, waitGo := src == 2 }

/-- R274: a due sweep is requested after a completed step. -/
def autoSweep (s : FenStep) (b : Block) : Block :=
  let n := nSweep b.fen.image
  let hours := getF b F.POL_AUTO_CTL_SWEEP_H
  if !isF b F.IMP_CTL_POL_EN || n = 0 || hours = 0 || b.pol.sweepRun < hours * 72000000 || (ovrOf b 2 0).isSome then b
  else if b.imp.sweep.isSome || b.imp.next.isSome || !b.imp.host.isEmpty || b.pwr.state ≠ .run then b
  else
    let w := policySweep b (b.pol.sweepIdx % n)
    let rest := decide (s.absSum ≤ (getF b F.POL_AUTO_CTL_REST_A : Rat) * s.absCount)
    if w.src = 1 ∧ !rest then b else { b with imp := { b.imp with policy := some w } }

/-! Model-based sources (R276 to R278). -/

/-- R277: the windows of a step: extended, discarded, or closed with a leak current in mA. -/
def selfDischarge (s : FenStep) (es : List EstCell) (b : Block) : Block :=
  let len := 72000000 * max 1 (getF b F.POL_AGE_CTL_SD_H)
  each es (fun e b =>
    let c := polCell b e.cell
    let q := c.winQ + mapGet (fun _ => 0) s.charge e.cell * 1000
    let c := if !e.valid then { c with winFrom := none, winQ := 0 }
      else match c.winFrom with
        | none => { c with winFrom := some s.start, winSoc := e.soc, winQ := 0 }
        | some f =>
          if s.start < f + len then { c with winQ := q }
          else
            let l := (((c.winSoc : Rat) - e.soc) / 10000 * e.cap - q) / (((s.start - f : Nat) : Rat) / 20000)
            { c with winFrom := some s.start, winSoc := e.soc, winQ := 0, leak := some l }
    putPolCell e.cell c b) b

/-- The middle of a list of numbers, the mean of the two middle ones for an even count. -/
def median (xs : List Rat) : Rat :=
  let l := sortBy (fun a b => decide (a ≤ b)) xs
  let n := l.length
  if n = 0 then 0 else (l.getD ((n - 1) / 2) 0 + l.getD (n / 2) 0) / 2

/-- R276: what the four source groups find at a step, by slot, for the SLUICE_EVAL of the record's frame. -/
def polSources (s : FenStep) (es : List EstCell) (b : Block) : Block :=
  let leaks := es.filterMap fun e => (polCell b e.cell).leak
  let med := median leaks
  let hot := signed 16 (getF b F.POL_THR_TCORE_MAX)
  let secs : Rat := ((s.start - s.from_ : Nat) : Rat) / 20000
  let plate := fun (e : EstCell) => decide (e.plate < signed 16 (getF b F.POL_THR_PLATE_MIN))
  let core := fun (e : EstCell) =>
    let i := if secs = 0 then 0 else mapGet (fun _ => 0) s.charge e.cell / secs
    decide (hot < e.tcore) || decide ((hot : Rat) / 128 < coreAhead b e (mapGet (fun _ => {}) s.fast e.cell) i 30)
  let selfd := fun (e : EstCell) => match (polCell b e.cell).leak with
    | some l => decide (med + (getF b F.POL_AGE_CTL_SD_THR : Rat) / 10 < l)
    | none => false
  let zrise := fun (e : EstCell) => b.pol.zrise.contains e.cell
  let groups : List (Nat × (Nat → Nat) × (EstCell → Bool)) :=
    [(0, Slot.polPlate, plate), (1, Slot.polTcore, core), (2, Slot.polSelfdis, selfd), (3, Slot.polZrise, zrise)]
  let found := groups.flatMap fun (g, slot, p) =>
    if (ovrOf b 5 g).any (fun o => o.arg == 0) then []
    else (List.range 16).map fun t => (slot t, ((es.filter fun e => e.valid && tierOf e.cell == t && p e).map fun e => 2 ^ localOf e.cell).sum)
  { b with pol := { b.pol with eval := found } }

/-- R278: at a parameter swap, the cells whose RSER at 50 % and 25 °C in the copy exceeds the image's by more than ZRISE_PCT %. -/
def zriseCheck (b : Block) : Block :=
  let pct : Nat := 100 + getF b F.POL_AGE_CTL_ZRISE_PCT
  let rise := fun n => decide (param b.fen.image [] (classOf b n) 2 50 25 * pct < 100 * cellParam b n 2 50 25)
  { b with pol := { b.pol with zrise := b.fen.cells.filter rise } }

/-! A completed step (R265 to R277). -/

/-- What a completed step publishes (R265 to R270, R214): the number of invalid cells, whether the limits are computed or fall back, the EST record. -/
def polRecord (s : FenStep) (seed : Nat) (es : List EstCell) (b : Block) : Nat × Bool × Bool × Rec :=
  let mode := polMode b
  let allValid := es.all (·.valid)
  let computed := mode ≠ 0 && !s.safe && allValid
  let fallback := mode ≠ 0 && !s.safe && !allValid
  let lims := fun (i : Nat) => let h := horizons.getD i (false, 2); es.map fun e => (e.cell, cellLimit b s seed e h.1 h.2)
  let least := fun (i : Nat) => match lims i with
    | [] => 0
    | (_, v) :: l => l.foldl (fun m x => min m x.2) v
  let words := (List.range 6).map fun i => capped b i (
    if computed then least i
    else if fallback then 100 * (if i < 3 then getF b F.POL_FALLBACK_FB_CHG else getF b F.POL_FALLBACK_FB_DIS) else 0)
  let limiting := fun n => computed && (List.range 6).any fun i => (lims i).any fun x => x.1 == n && x.2 == least i
  let invalid := (es.filter fun e => !e.valid).length
  let dt := min 0xFFFFFFFF (s.start - s.from_)
  let w4 := s.mode * 2 ^ 30 + nat01 computed * 2 ^ 29 + nat01 fallback * 2 ^ 28 + nat01 s.safe * 2 ^ 27 + getF b F.FEN_STATUS_THROTTLE * 2 ^ 26
    + nat01 (decide (s.frames < s.start - s.from_)) * 2 ^ 25 + invalid * 2 ^ 16 + es.length * 256
  let entry := fun (e : EstCell) => [e.cell * 2 ^ 24 + (e.flags + nat01 (limiting e.cell) * 4) * 2 ^ 16 + e.soc,
    unsigned 16 e.tcore * 2 ^ 16 + unsigned 16 e.tsurf, unsigned 16 e.plate * 2 ^ 16 + e.soh, e.cap, e.rser]
  let body := [(getR b R.FEN_STEP_NUM).toNat, dt, w4, (getR b R.FEN_IMG_ID).toNat] ++ words ++ es.flatMap entry
  (invalid, computed, fallback, { typ := 0x05, node := ownNode b, frame := (s.frameNo + 2 ^ 55 - 1) % 2 ^ 55, dev := s.start - 1, payload := body.map w32 })

/-- The EST record of a completed step and its marks in POL_STATUS, while estimates are enabled (R214, R270). -/
def polPublish (s : FenStep) (seed : Nat) (es : List EstCell) (b : Block) : Block :=
  if isF b F.POL_CTL_EST_EN && isF b F.FEN_STATUS_IMG_VALID then
    let x := polRecord s seed es b
    let c := setF F.POL_STATUS_N_INVALID x.1 (putF F.POL_STATUS_LIM_FALLBACK x.2.2.1 (putF F.POL_STATUS_LIM_VALID x.2.1 b))
    { c with pol := { c.pol with est := some x.2.2.2 }, fen := { c.fen with reinitOn := es.foldl (fun l e => addOnce e.cell l) c.fen.reinitOn } }
  else b

/-- A completed step gives a record (R265). -/
def estOn (b : Block) : Bool := isF b F.POL_CTL_EST_EN && isF b F.FEN_STATUS_IMG_VALID

/-- The estimates of a step are kept by cell; TCORE is that of the last record with VALID = 1 (R284). -/
def polKeep (es : List EstCell) (b : Block) : Block :=
  each es (fun e b =>
    let c := polCell b e.cell
    let rec_ := e.valid && estOn b
    putPolCell e.cell { c with soc := e.soc, cap := e.cap, valid := e.valid, tcore := if rec_ then e.tcore else c.tcore, tValid := c.tValid || rec_ } b) b

/-- Balancing targets of a step in mode `mode` (R272, R273). -/
def polTargets (mode : Nat) (es : List EstCell) (b : Block) : Block :=
  when (mode == 2 && !inSafe b && b.pwr.state == .run) (autoTargets es) b

/-- Overrides and placed notches are one completed step older (R275, R279). -/
def polAge (b : Block) : Block :=
  { b with pol := { b.pol with
    ovr := b.pol.ovr.map fun o => if 1 < o.steps then { o with steps := o.steps - 1 } else if o.steps = 1 then { o with clear := true } else o
    notch := b.pol.notch.map fun x => (x.1, { x.2 with age := x.2.age.map (· + 1) }) } }

/-- The policy after completed step `s`: limits, record, targets, sweeps and sources. -/
def policyStep (s : FenStep) (seed : Nat) (b : Block) : Block :=
  let es := b.fen.cells.map (estCell b s seed)
  let mode := polMode b
  let c := selfDischarge s es (polKeep es (polPublish s seed es b))
  polAge (when (mode == 2) (autoSweep s) (polTargets mode es (when (mode != 0) (polSources s es) c)))

/-! Notch placement (R275). -/

def notchState (b : Block) (k : Nat) : PolNotch := mapGet (fun _ => {}) b.pol.notch k
def putNotchState (k : Nat) (x : PolNotch) (b : Block) : Block := { b with pol := { b.pol with notch := mapPut (fun _ => {}) b.pol.notch k x } }

/-- A placement or withdrawal of notch `k` for the next frame tick (R168). -/
def placeNotch (k : Nat) (p : Option (Nat × Nat)) (b : Block) : Block :=
  { b with fe := { b.fe with notchDue := (b.fe.notchDue.filter (·.1 != k)) ++ [(k, p)] } }

/-- The current channel that ripple is captured from (R275): 2 where FEN_SRC = 1, else 1. -/
def rippleShunt (b : Block) : Nat := if actF b F.FE_ISENSE_CTL_FEN_SRC = 1 then 2 else 1

/-- The first-stage outputs of tier 0 of device frame `d` enter the ripple capture of the step (R275); a gap begins it again, since its 4,096 outputs are consecutive. -/
def rippleIn (d : Nat) (xs : List (List Int)) (b : Block) : Block :=
  if polMode b ≠ 2 || b.pol.rippled || 4096 ≤ b.pol.ripple.length then b else
  let got := (xs.getD (11 + rippleShunt b) []).reverse
  { b with pol := { b.pol with ripple := if b.pol.ripple.isEmpty || d ≠ b.pol.rippleDev then got else got ++ b.pol.ripple, rippleDev := d + 1 } }

/-- The angle of `i` / `n` turns in fixed-point radians, from -π to π. -/
def turnQ (i n : Nat) : Int :=
  let j := i % n
  2 * piQ * (if 2 * j ≤ n then (j : Int) else (j : Int) - n) / n

/-- The Hann window of 4,096 points (R275), of period 4,096 (DESIGN CHOICE, log entry 41). -/
def hannQ (i : Nat) : Int := (oneQ - cosQ (turnQ i 4096)) / 2

/-- The amplitude in codes of bin `k` of the windowed transform of 4,096 outputs (R275): a sine of the bin's frequency reads its own amplitude. -/
def rippleBin (xs : List Int) (k : Nat) : Rat :=
  let z := (List.range 4096).foldl (fun (z : Int × Int) i =>
    let w := hannQ i * xs.getD i 0
    let a := turnQ (k * i) 4096
    (z.1 + mulQ w (cosQ a), z.2 + mulQ w (sinQ a))) (0, 0)
  (isqrt (z.1 * z.1 + z.2 * z.2).toNat : Rat) / (1024 * 2 ^ 64 : Nat)

/-- The lines of a capture, as frequency in mHz and amplitude in mA: the peaks of the spectrum between 200 Hz and 30,000 Hz, with FE_SHUNT. How they are interpolated is not
stated: a line lies at an open place within half a bin of its peak, and its amplitude is an open one not below the peak's (log entry 41). -/
def rippleLines (b : Block) : List (Nat × Nat) :=
  let xs := (b.pol.ripple.take 4096).reverse
  let amps := (span 4 770).map (rippleBin xs)
  let at_ := fun (k : Nat) => amps.getD (k - 4) 0
  let r := (getA b (R.FE_SHUNT (rippleShunt b))).toNat
  let peaks := (span 5 769).filter fun k => decide (at_ (k - 1) < at_ k ∧ at_ (k + 1) ≤ at_ k)
  peaks.filterMap fun (k : Nat) =>
    let args : List Int := [(k : Int), (at_ (k - 1)).floor, (at_ k).floor, (at_ (k + 1)).floor]
    let mhz := (78125 * k / 2 + Config.unstated 65 args % 39063) - 19531
    let ma := (if r = 0 then 0 else at_ k * 10000 / (r : Rat)).floor.toNat + Config.unstated 66 args
    if 200000 ≤ mhz ∧ mhz ≤ 30000000 then some (mhz, ma) else none

/-- RIPPLE_CAPTURE_DONE (R275): the lines of the capture, as frequency in mHz and amplitude in mA: of the outputs that the block holds, or as handed in where it does not hold
them all (log entry 22). -/
def rippleDone (given : List (Nat × Nat)) (b : Block) : Block :=
  if polMode b ≠ 2 || b.pol.rippled || !(decide (b.pwr.state = .run) || inSafe b) then b else
  let lines := if 4096 ≤ b.pol.ripple.length then rippleLines b else given
  let b := { b with pol := { b.pol with rippled := true } }
  let cands := sortBy (fun x y => decide (y.2 ≤ x.2)) (lines.filter fun l =>
    decide (200000 ≤ l.1 ∧ l.1 ≤ 30000000 ∧ getF b F.POL_NOTCH_CTL_MIN_AMP ≤ l.2))
  let hold := max 1 (getF b F.POL_NOTCH_CTL_HOLD)
  let mine := [1, 2].filter fun k => actF b (F.FLT_NOTCH_SRC k) == 1
  each ((List.range mine.length).map fun i => (mine.getD i 1, cands[i]?)) (fun (k, line) b =>
    if (ovrOf b 3 k).isSome then b else
    let st := notchState b k
    let on := isF b (F.FLT_NOTCH_POL_ACTIVE k)
    let f0 := getF b (F.FLT_NOTCH_POL_F0 k)
    let q := getF b (F.FLT_NOTCH_POL_Q k)
    match line with
    | some (mhz, _) =>
      let moved := decide ((2000 * f0 : Int) < q * ((mhz : Int) - 1000 * f0).natAbs)
      if !on || (moved && st.age.all fun a => decide (hold ≤ a)) then
        placeNotch k (some ((roundDiv mhz 1000).toNat, getF b F.POL_NOTCH_CTL_Q)) (putNotchState k ⟨some 0, 0⟩ b)
      else putNotchState k { st with low := 0 } b
    | none =>
      if on && decide (hold ≤ st.low + 1) then placeNotch k none (putNotchState k ⟨some 0, 0⟩ b)
      else putNotchState k { st with low := st.low + 1 } b) b

/-! Overrides (R279 to R281). -/

/-- One journal entry and one EVENT record of an override event (R281, R285). -/
def ovrEvent (o : Override) (what : Nat) (b : Block) : Block :=
  event 0x17 (o.kind * 16 + what) o.target o.arg 0 (journal 0x05 (o.kind * 16 + what) o.target o.arg b)

/-- N_OVR follows the overrides in force. -/
def countOvr (b : Block) : Block := setF F.POL_STATUS_N_OVR b.pol.ovr.length b

/-- Kinds that `mode` permits (R280). -/
def kindOk (mode k : Nat) : Bool := mode == 2 || (mode == 1 && decide (4 ≤ k))

/-- Overrides a mode does not permit are removed (R272). -/
def dropOvr (keep : Override → Bool) (b : Block) : Block :=
  let gone := b.pol.ovr.filter fun o => !keep o
  countOvr (each gone (fun o => ovrEvent o 5) { b with pol := { b.pol with ovr := b.pol.ovr.filter keep } })

/-- R279: a request: refused at once when 16 wait. -/
def askOverride (o : Override) (b : Block) : Block :=
  if 16 ≤ b.pol.wait.length then
    let b := setF F.POL_OVR_STATUS_RESULT 3 (addF F.POL_OVR_STATUS_REFUSED 1 b)
    match o.ring with
    | some q => finish q St.refused 3 0 0 b
    | none => b
  else
    let b := { b with pol := { b.pol with wait := b.pol.wait ++ [o] } }
    match o.ring with
    | some q => waitOn q (.override 0) b
    | none => b

/-- The request a POL_OVR_CTL word and an argument spell. -/
def ovrWord (w arg : Nat) (ring : Option Nat) : Override :=
  ⟨bitsOf w 28 4, bitsOf w 16 8, arg, w % 2 ^ 16, bitOf w 25, ring⟩

/-- R280: KIND and TARGET of a request are in range. -/
def ovrTarget (b : Block) (o : Override) : Bool :=
  match o.kind with
  | 1 => decide (1 ≤ o.target ∧ o.target ≤ 192) && present b o.target
  | 2 => decide (o.target ≤ 1)
  | 3 => decide (o.target = 1 ∨ o.target = 2) && actF b (F.FLT_NOTCH_SRC o.target) == 1
  | 4 => decide (o.target ≤ 5)
  | 5 => decide (o.target ≤ 3)
  | _ => false

/-- R280: the fields of a request are in range. -/
def ovrFields (b : Block) (o : Override) : Bool :=
  ovrTarget b o && match o.kind with
    | 2 => o.target == 0 || (isF b F.FEN_STATUS_IMG_VALID && decide (o.arg < nSweep b.fen.image))
    | 3 => o.arg == 0 || decide (200 ≤ o.arg % 2 ^ 16 ∧ o.arg % 2 ^ 16 ≤ 30000 ∧ 4 ≤ o.arg / 2 ^ 16 ∧ o.arg / 2 ^ 16 ≤ 200)
    | _ => true

/-- What an accepted override does at once (R280): a sweep to start, a notch to place. In SAFE the policy starts no sweep (R272). The spec does not say whether
IMP_CTL.POL_EN = 0, which stops the policy's own sweeps (R196), also stops one that an override asks for: it is started (DESIGN CHOICE, log entry 41). -/
def ovrAct (o : Override) (b : Block) : Block :=
  if o.kind = 2 ∧ o.target = 1 then
    if inSafe b then b else { b with imp := { b.imp with policy := some { policySweep b o.arg with byOvr := true } } }
  else if o.kind = 3 then
    placeNotch o.target (if o.arg = 0 then none else some (o.arg % 2 ^ 16, o.arg / 2 ^ 16)) b
  else b

/-- One request taken up (R279, R280): its RESULT, and what it does. -/
def takeOne (o : Override) (b : Block) : Nat × Block :=
  let same := fun (x : Override) => x.kind == o.kind && x.target == o.target
  let old := b.pol.ovr.find? same
  let refuse := fun (r : Nat) => (r, addF F.POL_OVR_STATUS_REFUSED 1 b)
  if o.kind < 1 ∨ 5 < o.kind then refuse 4
  else if !kindOk (polMode b) o.kind then refuse 2
  else if o.clear then
    match old with
    | some x => (5, ovrEvent x 3 { b with pol := { b.pol with ovr := b.pol.ovr.filter fun y => !same y } })
    | none => if ovrTarget b o then refuse 6 else refuse 4
  else if !ovrFields b o then refuse 4
  else if old.isNone ∧ 16 ≤ b.pol.ovr.length then refuse 3
  else
    let b := match old with
      | some x => ovrEvent x 2 b
      | none => b
    let b := { b with pol := { b.pol with ovr := (b.pol.ovr.filter fun y => !same y) ++ [{ o with clear := false, ring := none }] } }
    (1, ovrAct o (ovrEvent o 1 (addF F.POL_OVR_STATUS_CNT 1 b)))

/-- OVERRIDE_TAKEUP (R279): the waiting requests in order of arrival. -/
def takeUp (b : Block) : Block :=
  let ws := b.pol.wait
  countOvr (each ws (fun o b =>
    let got := takeOne o b
    let r := got.1
    let b := got.2
    let b := setF F.POL_OVR_STATUS_RESULT r b
    match o.ring with
    | some q => finish q (if r = 1 ∨ r = 5 then St.done else St.refused) r 0 0 b
    | none => b) { b with pol := { b.pol with wait := [] } })

/-- OVERRIDE_EXPIRY (R279): overrides whose steps have run out end. -/
def expireOvr (b : Block) : Block :=
  let gone := b.pol.ovr.filter (·.clear)
  if gone.isEmpty then b else
  countOvr (each gone (fun o => ovrEvent o 4) { b with pol := { b.pol with ovr := b.pol.ovr.filter fun o => !o.clear } })

/-- PARK entry and every reset remove every override (R279); requests that wait end too. -/
def ovrPark (b : Block) : Block := { dropOvr (fun _ => false) b with pol := { (dropOvr (fun _ => false) b).pol with wait := [] } }

/-! Policy modes (R271, R272). -/

/-- The mode POL_CTL asks for: 3, and failed application controllers (R488), act as OFF. -/
def polWanted (b : Block) : Nat := if getF b F.POL_CTL_MODE = 3 ∨ isF b F.BIST_FAILED_APP then 0 else getF b F.POL_CTL_MODE

/-- POLICY_MODE_CHANGE at a model-step boundary (R271, R272). Leaving AUTO ends BAL overrides with it, so no target outlasts it (R303). -/
def polModeChange (b : Block) : Block :=
  let new := polWanted b
  let old := polMode b
  if new = old then b else
  let b := if old = 2 then
      let gone := ((balCells b).filter fun n => (balOf b n).target.isSome).map fun n => (n, devF b)
      let b := { b with bal := { b.bal with targets := [], cleared := gone } }
      let b := each ([1, 2].filter fun k => isF b (F.FLT_NOTCH_POL_ACTIVE k)) (fun k => placeNotch k none) b
      let running := b.imp.sweep.any (·.policy)
      { b with imp := { b.imp with policy := none, polAbort := running }, pol := { b.pol with notch := [] } }
    else b
  let b := if new = 0 then
      each (span 0x0F0 0x12F) (fun i b => if condOf b i = {} then b else
        putArrBit (R.SL_LIVE 0) i (arrBit b (R.SL_INJ_ACT 0) i) (setLevel i false 0 b)) { b with pol := { b.pol with eval := [] } }
    else b
  let b := if new = 2 then { b with pol := { b.pol with sweepRun := 0 } } else b
  setF F.POL_STATUS_MODE_ACT new (dropOvr (fun o => kindOk new o.kind) b)

/-- What the policy does at a frame tick: the record of a completed step and what its sources found belong to this frame (R214, R276); expired overrides end; RUN
time towards the next sweep counts (R274). -/
def polTick (b : Block) : Block :=
  let b := match b.pol.est with
    | some r => queueRec r { b with pol := { b.pol with est := none } }
    | none => b
  let b := each b.pol.eval (fun x b => if x.2 = 0 ∧ condOf b x.1 = {} then b else setLevel x.1 (x.2 != 0) x.2 b) b
  let run := if b.imp.sweep.any (·.policy) then 0 else b.pol.sweepRun + nat01 (polMode b == 2 && b.pwr.state == .run)
  expireOvr { b with pol := { b.pol with eval := [], sweepRun := run } }

/-! Commands. -/

/-- A write of POL_OVR_CTL (R279): with GO, a request. -/
def writeOvrCtl (v : Word) (b : Block) : Block :=
  let b := writeBits R.POL_OVR_CTL v b
  when (bitOf v.toNat 24) (askOverride (ovrWord v.toNat (getR b R.POL_OVR_ARG).toNat none)) b

/-- POL_OVR_GO (R279): POL_OVR_CTL with GO = 1. -/
def execPolOvrGo (v : Word) (s : State) : Host.Outcome State Fault Refusal := run (fun b => if ready b then writeOvrCtl (v ||| 0x1000000) b else b) s

/-- POL_OVR_CLEAR (R279): POL_OVR_CTL with GO = 1 and CLEAR = 1. -/
def execPolOvrClear (v : Word) (s : State) : Host.Outcome State Fault Refusal := run (fun b => if ready b then writeOvrCtl (v ||| 0x3000000) b else b) s

/-- POL_OVERRIDE (R279, R402, R403). -/
def execPolOverride (q : Fin 16) (d : Desc) (s : State) : Host.Outcome State Fault Refusal :=
  run (startCmd q.val 0x0E d (decide (bitsOf d.p0.toNat 26 2 ≠ 0) || d.addr != 0 || d.p2 != 0 || d.p3 != 0 || d.p4 != 0) false
    (askOverride (ovrWord d.p0.toNat d.p1.toNat (some q.val)))) s

def execRippleCaptureDone (lines : List (Nat × Nat)) (s : State) : Host.Outcome State Fault Refusal := run (inFrame (rippleDone lines)) s

/-- OVERRIDE_EXPIRY (R279, R281). -/
def execOverrideExpiry (s : State) : Host.Outcome State Fault Refusal := run (fun b => if framesRun b then expireOvr b else b) s

end Sys2Proof.Machine
end

