-- ==== Sys2Proof/Machine/Fen.lean ====
section
/-! DEFINITION. The Fen engine's full layer and model images (R209 to R264): steps, overruns, halt, swaps, the layout step, parameter copies, staging, validation,
builds, block reset, and the commands of both families. -/

namespace Sys2Proof.Machine

/-! Step length and fit (R25, R220, R221). -/

/-- Step length in force in milliseconds. -/
def stepMsNow (b : Block) : Nat := stepMs (getF b F.FEN_STATUS_STEP_ACT)

/-- Step length in force in frames (R24). -/
def stepFrames (b : Block) : Nat := 20 * stepMsNow b

/-- The cost, prediction and layout registers of the image in force (R220, R232). -/
def describePred (b : Block) : Block :=
  if !isF b F.FEN_STATUS_IMG_VALID then b
  else setF F.FEN_UTIL_PRED (min 65535 (predOf (imgCost b.fen.image b.fen.cells) (stepMsNow b))) b

def describeImage (b : Block) : Block :=
  let m := b.fen.image
  let cs := b.fen.cells
  let total := imgNodes m cs
  let b := setR R.FEN_NODES (w32 total) (setR R.FEN_COST (w32 ((imgCost m cs + 1023) / 1024)) (setR R.FEN_PARAM (w32 (copySize m cs)) b))
  let b := setR R.FEN_PACK_BASE (w32 (total - nPack m)) (setR R.FEN_PACK_CNT (w32 (nPack m)) b)
  let b := each (span 1 192) (fun n b =>
    if cs.contains n then
      setR (R.FEN_CELL_BASE n) (w32 (cellBase b n)) (setF (F.FEN_CELL_STATUS_ABSENT n) 0 (setF (F.FEN_CELL_STATUS_CLASS n) (classOf b n)
        (setF (F.FEN_CELL_STATUS_NODES n) (tmplNodes m (tmplAt m (classOf b n))) b)))
    else
      setR (R.FEN_CELL_BASE n) 0 (setR (R.FEN_FAST_SOC n) 0 (setR (R.FEN_FAST_RSER n) 0 (setR (R.FEN_CELL_STATUS n) (w32 (2 ^ 19)) b)))) b
  describePred b

/-- R216: HALTED is left. -/
def unhalt (b : Block) : Block :=
  let b := { b with fen := { b.fen with resume := false } }
  if !isF b F.FEN_STATUS_HALTED then b
  else setLevel Slot.fenHalt false 0 (setF F.FEN_STATUS_HALTED 0 (setF F.FEN_OVR_CNT_CONSEC 0 b))

/-- R216: at eight consecutive abandoned steps HALTED sets. -/
def haltCheck (b : Block) : Block :=
  if 8 ≤ getF b F.FEN_OVR_CNT_CONSEC ∧ !isF b F.FEN_STATUS_HALTED then setLevel Slot.fenHalt true 0 (setF F.FEN_STATUS_HALTED 1 b) else b

/-- R215: a step that has not completed by its deadline is abandoned. -/
def stepAbandon (b : Block) : Block :=
  match b.fen.step with
  | none => b
  | some s =>
    if s.layout || devF b < s.start + s.frames then b else
    let b := addF F.FEN_OVR_CNT_CONSEC 1 (addF F.FEN_OVR_CNT_OVR 1 { b with fen := { b.fen with step := none } })
    haltCheck (count 0x21 1 {} (pulse Slot.fenStepOvr 0 b))

/-- R25: a pending step length takes effect at a boundary of the old one that is a multiple of the new. -/
def stepLength (b : Block) : Block :=
  let code := getF b F.FEN_CTL_STEP
  if isF b F.FEN_STATUS_STEP_PEND ∧ frame b % (20 * stepMs code) = 0 ∧ frame b % stepFrames b = 0 then
    describePred (unhalt (setF F.FEN_STATUS_STEP_PEND 0 (setF F.FEN_STATUS_STEP_ACT code b)))
  else b

/-! Swaps (R225, R227, R228, R251, R259). -/

/-- The active and the inactive copy change places. -/
def swapCopies (b : Block) : Block :=
  let b := count 0x23 1 {} (incF F.FEN_STATUS_ACTIVE_COPY (setF F.FEN_STATUS_SWAP_PEND 0 b))
  { b with fen := { b.fen with own := b.fen.other, other := b.fen.own } }

/-- R225: a pending adaptation swap takes effect; the rotation of policy sweeps begins again (R274). -/
def adaptSwap (b : Block) : Block :=
  if isF b F.FEN_STATUS_SWAP_PEND && !isF b F.FEN_STATUS_SWAP_SRC && isF b F.FEN_STATUS_IMG_VALID then
    zriseCheck (addF F.FEN_REBUILD_SWAPS 1 (swapCopies { b with pol := { b.pol with sweepIdx := 0 } }))
  else b

/-- The bytes of a cell's template block (R260). -/
def tmplBytes (m : List (Nat × Word)) (n : Nat) : List Nat :=
  let o := tmplAt m (cellClass m n)
  imgBytes m o (o + tmplSize m o)

/-- The bytes of section 5. -/
def packBytes (m : List (Nat × Word)) : List Nat := imgBytes m (secOfs m 5) (secOfs m 5 + secLen m 5)

/-- R251: with POL_APPLY the image's register entries are written. -/
def applyDefaults (b : Block) : Block :=
  let m := b.fen.image
  if !isF b F.FEN_IMG_CTL_POL_APPLY then b else
  each (List.range (nEntry m)) (fun i => writeBits (imgW m (entryAt m i)) (w32 (imgW m (entryAt m i + 4)))) b

/-- The cold start of cell `n` from its fast-layer state (R228): its particles at the stoichiometries that its class assigns to z, by linear interpolation between the ends
(R239). -/
def coldSrc (b : Block) (n : Nat) : NodeSrc :=
  let m := b.fen.image
  let e := classAt m (cellClass m n)
  let z := (fastOf b n).z
  let x := fun o => imgF m (e + o) + (imgF m (e + o + 4) - imgF m (e + o)) * z
  .cold (x 0x10) (x 0x18) (imgW m (e + 0x20)) (vMeas b n) (cellTemp b n)

/-- The image swap at a boundary (R208, R227, R228, R259): the new image and copy take force, the fast layer starts where it does not run, and the layout step
begins with each cell's kept or cold state. Where no step has completed since the reset, the interval of the first began at device frame 0 (DESIGN CHOICE, log entry
15). -/
def imageSwap (b : Block) : Block :=
  if !isF b F.FEN_STATUS_SWAP_PEND || !isF b F.FEN_STATUS_SWAP_SRC || !(decide (b.pwr.state = .run) || decide (b.pwr.state = .safe)) || lifeIs b .retired || fenTest b || fenReset b
      || isF b F.BIST_FAILED_FEN || b.fen.step.isSome then b
  else
    let old := b.fen.image
    let had := b.fen.cells
    let valid := isF b F.FEN_STATUS_IMG_VALID
    let cells := presentCells b
    let nodes := curHalf b
    let b := swapCopies b
    let b := { b with fen := { b.fen with image := b.fen.staged, cells := cells } }
    let b := if b.fen.fastOn then b else
      each cells (fun n b => putFast n { fastOf b n with z := holdZ (ocvInv b n (vMeas b n) (cellTemp b n)), u := [], owed := 0 } b)
        { b with fen := { b.fen with fastOn := true } }
    let kept := fun n => valid && !b.fen.fresh && had.contains n && tmplBytes old n == tmplBytes b.fen.image n
    let cold := cells.filter fun n => !kept n
    let half := cells.map fun n => (n, if kept n then halfSrc nodes n else coldSrc b n)
    let pack := if valid && !b.fen.fresh && packBytes old == packBytes b.fen.image then halfSrc nodes 0
      else .pack ((List.range (nPack b.fen.image)).map (packTemp b b.fen.image))
    let b := putHalf ((0, pack) :: half) b
    let b := each cold (fun n b => setF (F.FEN_CELL_STATUS_REINIT n) (max 10 (getF b F.FEN_CTL_REINIT_STEPS)) b) b
    let st : FenStep := { start := devF b, frameNo := frame b, frames := stepFrames b, from_ := b.fen.from_, layout := true, mode := polMode b, safe := inSafe b }
    let socs := cells.map fun n => (n, if kept n then mapGet (fun _ => 0) b.fen.lastSoc n else (fastOf b n).z)
    let running := b.fen.reinitOn.filter fun n => !cold.contains n
    let b := { b with fen := { b.fen with step := some st, fresh := false, stepped := false, reinitOn := running, lastSoc := socs }
                      pol := { b.pol with sweepIdx := 0 } }
    zriseCheck (applyDefaults (unhalt (setF F.FEN_STATUS_LAYOUT 1 b)))

/-- Action 4 of R26: the step begins, is skipped, or waits (R86, R214, R216, R217, R232). -/
def stepBegin (b : Block) : Block :=
  let due := isF b F.FEN_STATUS_IMG_VALID && isF b F.FEN_CTL_FULL_EN && (decide (b.pwr.state = .run) || decide (b.pwr.state = .safe)) && !lifeIs b .retired && b.fen.step.isNone
  if !due || fenReset b || isF b F.BIST_FAILED_FEN || isF b F.BIST_FAILED_MEM then b
  else if fenTest b then count 0x22 1 {} (addF F.FEN_OVR_CNT_SKIP 1 b)
  else if isF b F.FEN_STATUS_HALTED then b
  else
    let s : FenStep := { start := devF b, frameNo := frame b, frames := stepFrames b, from_ := b.fen.from_, layout := false, mode := polMode b, safe := inSafe b }
    { b with fen := { b.fen with step := some s } }

/-- MODEL_STEP_BOUNDARY: actions 3 and 4 of R26, with what else falls on a boundary (R25, R206, R215, R216, R271, R279). -/
def stepBoundary (b : Block) : Block :=
  let b := { b with clock := { b.clock with stepOwed := false } }
  let b := stepLength (stepAbandon b)
  let b := { imageSwap (adaptSwap b) with pol := { (imageSwap (adaptSwap b)).pol with rippled := false, ripple := [] } }
  let b := takeUp (polModeChange b)
  let b := when b.fen.resume unhalt b
  let b := stepBegin b
  if fastRuns b then each (b.fen.cells.filter (present b)) fastLookup b else b

/-! Completion (R210, R214, R227 to R229, R259). -/

/-- Boundary to now in µs: whole frames and a free offset within the frame (log entry 2). -/
def sinceUs (start : Nat) (b : Block) : Nat × Block :=
  let got := fresh b
  let v := got.1
  let b := got.2
  ((devF b - start) * 50 + v % 50, b)

/-- HALF toggles and the step counts. -/
def stepDone (b : Block) : Block :=
  let b := incF F.FEN_STATUS_HALF b
  setR R.FEN_STEP_NUM (getR b R.FEN_STEP_NUM + 1) b

/-- FEN_STEP_COMPLETE (R214, R229, R265): the full layer's step completes; the policy reads it. -/
def fenStepComplete (b : Block) : Block :=
  match b.fen.step with
  | none => b
  | some s =>
    if s.layout || !s.closed || !framesRun b then b else
    let seed := b.freeCtr
    let got := sinceUs s.start b
    let us := got.1
    let b := got.2
    let innov := fun n => (if s.noVolt.contains n then none else stepVolt s n, stepTemp b s n)
    let b := putHalf ((0, .kernel seed none none) :: b.fen.cells.map fun n => (n, .kernel seed (innov n).1 (innov n).2)) b
    let b := setF F.FEN_OVR_CNT_CONSEC 0 (count 0x20 1 {} (stepDone b))
    let b := setF F.FEN_UTIL_LAST (publishedIn 48 16 ((us : Rat) * 10000 / (s.frames * 50 : Nat))) (setR R.FEN_STEP_TIME (w32 us) b)
    let b := setR R.FEN_STEP_TMAX (w32 (max us (getR b R.FEN_STEP_TMAX).toNat)) b
    let b := each b.fen.cells (fun n => putF (F.FEN_CELL_STATUS_OPENLOOP n) (s.noVolt.contains n)) b
    let b := policyStep s seed b
    let b := each b.fen.reinitOn (fun n b => setF (F.FEN_CELL_STATUS_REINIT n) (getF b (F.FEN_CELL_STATUS_REINIT n) - 1) b) b
    let heard := b.fen.cells.filter fun n => (innov n).1.isSome || (innov n).2.isSome
    dropInterval s { b with fen := { b.fen with step := none, stepped := true, innov := heard, lastSoc := b.fen.cells.map fun n => (n, stateSoc b n) } }

/-- LAYOUT_STEP_DONE (R227, R259, R263). -/
def layoutDone (b : Block) : Block :=
  match b.fen.step with
  | none => b
  | some s =>
    if !s.layout then b else
    let b := setF F.FEN_STATUS_LAYOUT 0 (stepDone { b with fen := { b.fen with step := none } })
    let id := imgW b.fen.image 0x10
    let b := setR R.FEN_IMG_ID (w32 id) (setR R.FEN_IMG_SWAP_FRAME (w32 s.frameNo) (setF F.FEN_STATUS_IMG_VALID 1 b))
    let b := setF F.FEN_IMG_STATUS_SWAP_RESULT 1 (setF F.FEN_IMG_STATUS_STATE 3 b)
    describeImage (setLevel Slot.fenImg false 0 (journal 0x06 0 0 id b))

/-- FEN_IMG_STATUS.STATE (R234). -/
def imgState (b : Block) : Nat := getF b F.FEN_IMG_STATUS_STATE
def setImgState (n : Nat) (b : Block) : Block := setF F.FEN_IMG_STATUS_STATE n b

/-! Control (R216, R218, R221, R226). -/

/-- The fit test of a written step length (R221): with an active image it must fit. -/
def stepFits (b : Block) (code : Nat) : Bool :=
  !isF b F.FEN_STATUS_IMG_VALID ||
    fits (imgNodes b.fen.image b.fen.cells) (imgCost b.fen.image b.fen.cells) (copySize b.fen.image b.fen.cells) (stepMs code)

/-- A write of FEN_CTL (R216, R221, R226): STEP is refused while the image's swap is pending or its layout step runs (R262). -/
def writeFenCtl (v : Word) (b : Block) : Block :=
  let old := getF b F.FEN_CTL_STEP
  let code := bitsOf v.toNat 0 2
  let adapt := isF b F.FEN_CTL_ADAPT_EN
  let b := writeBits R.FEN_CTL v b
  let refused := !stepFits b code || imgState b == 6
  let b := if refused then setF F.FEN_STATUS_STEP_REFUSED 1 (setF F.FEN_CTL_STEP old b)
    else putF F.FEN_STATUS_STEP_PEND (code != getF b F.FEN_STATUS_STEP_ACT) b
  let b := if bitOf v.toNat 6 then { b with fen := { b.fen with resume := true } } else b
  when (adapt && !isF b F.FEN_CTL_ADAPT_EN) abandonRebuild b

/-- FEN_THROTTLE_CHANGE (R218): the junction temperature in 1/128 °C. -/
def throttle (temp : Int) (b : Block) : Block :=
  let on := isF b F.FEN_STATUS_THROTTLE
  let next := if 118 * 128 ≤ temp then true else if temp < 112 * 128 then false else on
  if next = on then b else pulse Slot.fenThrottle 0 (putF F.FEN_STATUS_THROTTLE next b)

/-! Adaptation (R224 to R226). -/

/-- ADAPT_REBUILD_START (R224, R226). -/
def rebuildStart (b : Block) : Block :=
  let st := getF b F.FEN_IMG_STATUS_STATE
  if isF b F.FEN_CTL_ADAPT_EN && isF b F.FEN_STATUS_IMG_VALID && b.pwr.state == .run && !isF b F.FEN_STATUS_REBUILD_BUSY && st != 5 && st != 6
      && !b.fen.swapAsk && !isF b F.FEN_STATUS_SWAP_PEND && !isF b F.BIST_FAILED_APP && !fenReset b then
    setF F.FEN_STATUS_REBUILD_BUSY 1 { b with fen := { b.fen with other := b.fen.own } }
  else b

/-- The image offsets of the values of the adaptable tables of class `c` (R224, R244). -/
def adaptValues (m : List (Nat × Word)) (c : Nat) : List Nat :=
  ((tables m).filter fun o => tabClass m o == c && tabFlag m o 0).flatMap fun o => (List.range (tabNZ m o * tabNT m o)).map (tabVal m o)

/-- Every adaptable value of cell `n` in a copy lies within its table's limits (R225). -/
def withinLimits (m own : List (Nat × Word)) (c : Nat) : Bool :=
  ((tables m).filter fun o => tabClass m o == c && tabFlag m o 0).all fun o =>
    (List.range (tabNZ m o * tabNT m o)).all fun i =>
      match f32 (cellW m own (tabVal m o i)) with
      | some x => decide (imgF m (o + 8) ≤ x ∧ x ≤ imgF m (o + 12))
      | none => false

/-- There is something to refit cell `n` from (R224): an impedance result that R185 admits, or an innovation of the observer. Without any its words stay those of the active
copy (DEDUCED, log entry 15). -/
def refitInput (b : Block) (n : Nat) : Bool := b.imp.results.any (·.cell == n) || b.fen.innov.contains n

/-- ADAPT_REBUILD_DONE (R224, R225): the words the refit gives each cell, by image word index, and whether the copy's CRC check passes. -/
def rebuildDone (cells : List RefitCell) (crcOk : Bool) (b : Block) : Block :=
  if !isF b F.FEN_STATUS_REBUILD_BUSY then b else
  let m := b.fen.image
  let d := fun (i : Nat) => mapGet (fun _ => (0 : Word)) m i
  let own := fun n => mapGet (fun _ => []) b.fen.other n
  let fit := cells.filter fun c => b.fen.cells.contains (c.cell.val + 1) && refitInput b (c.cell.val + 1)
  let other := fit.foldl (fun l c =>
    let n := c.cell.val + 1
    let ok := adaptValues m (classOf b n)
    let ws := (c.words.filter fun w => ok.contains (4 * w.1)).foldl (fun x w => mapPut d x w.1 w.2) (own n)
    mapPut (fun _ => []) l n ws) b.fen.other
  let b := setF F.FEN_STATUS_REBUILD_BUSY 0 { b with fen := { b.fen with other := other } }
  let good := crcOk && b.fen.cells.all fun n => withinLimits m (mapGet (fun _ => []) other n) (classOf b n)
  if good then setF F.FEN_STATUS_SWAP_SRC 0 (setF F.FEN_STATUS_SWAP_PEND 1 b)
  else pulse Slot.fenRebuild 0 (addF F.FEN_REBUILD_FAIL 1 b)

/-! Staging (R233, R234, R256). -/

/-- The staged bytes changed or are gone: STATE moves, what was verified no longer stands (R264), a swap request that waits has nothing to build from. -/
def stageMoved (n : Nat) (b : Block) : Block := setImgState n (setF F.FEN_IMG_STATUS_SIGNED 0 { b with fen := { b.fen with swapAsk := false } })

/-- Staging takes no write: in RETIRED (R234), during a validation, build or pending swap, and with the memory die under test or failed. -/
def stageShut (b : Block) : Bool := decide (imgState b = 2 ∨ imgState b = 5 ∨ imgState b = 6) || lifeIs b .retired || memOut b

/-- A write of FEN_IMG_WADDR (R256). -/
def writeWaddr (v : Word) (b : Block) : Block :=
  if stageShut b then setF F.FEN_IMG_STATUS_WR_IGN 1 b
  else stageMoved 1 (writeBits R.FEN_IMG_WADDR v { b with fen := { b.fen with wPast := false } })

/-- A write of FEN_IMG_WDATA (R256): one word stored, the address moved on by 4; past 0xFF_FFFC the register has no bit for it and reads 0 (log entry 12). -/
def writeWdata (v : Word) (b : Block) : Block :=
  let a := getF b F.FEN_IMG_WADDR_ADDR
  if stageShut b || b.fen.wPast then setF F.FEN_IMG_STATUS_WR_IGN 1 b
  else
    let past := decide (a = 0x3FFFFF)
    let b := stageMoved 1 { b with fen := { b.fen with staged := mapPut (fun _ => 0) b.fen.staged a v, wPast := past } }
    setF F.FEN_IMG_WADDR_ADDR (a + 1) b

/-- IMG_CLEAR (R234, R262): it acts in VALID and REJECTED; where it is ignored WR_IGN sets (R264). -/
def imgClear (b : Block) : Block :=
  if !lifeIs b .retired && (imgState b == 3 || imgState b == 4) then stageMoved 0 { b with fen := { b.fen with staged := [] } }
  else setF F.FEN_IMG_STATUS_WR_IGN 1 b

/-- VALIDATE (R234, R254): validation starts; with nothing staged it fails at once with code 0x01. -/
def imgValidate (b : Block) : Block :=
  if lifeIs b .retired then b
  else match imgState b with
    | 0 => setR R.FEN_IMG_DETAIL 0 (setF F.FEN_IMG_STATUS_REJECT 1 (setImgState 4 b))
    | 1 | 4 => setImgState 2 b
    | _ => b

/-- A swap request is accepted as things stand (R257). -/
def swapAccepts (b : Block) : Bool := !lifeIs b .retired && imgState b == 3 && (imgRecheck b.fen.staged (presentCells b) (stepMsNow b)).isNone

/-- A swap request (R234, R257): accepted only from VALID, with checks 11 and 15 to 17 repeated. -/
def imgSwapAsk (b : Block) : Block :=
  if lifeIs b .retired then b
  else if imgState b ≠ 3 then setF F.FEN_IMG_STATUS_SWAP_RESULT 2 b
  else match imgRecheck b.fen.staged (presentCells b) (stepMsNow b) with
    | some (code, o) => setF F.FEN_IMG_STATUS_SWAP_RESULT 2 (setR R.FEN_IMG_DETAIL (w32 o) (setF F.FEN_IMG_STATUS_REJECT code (setImgState 4 b)))
    | none => { b with fen := { b.fen with swapAsk := true } }

/-- IMG_VALIDATION_DONE (R254, R255): the outcome of the checks, and of the IMG_LOAD that asked for them. -/
def validationDone (b : Block) : Block :=
  if imgState b ≠ 2 then b else
  let m := b.fen.staged
  let cells := presentCells b
  let v := imgVerdict m cells (stepMs (getF b F.FEN_CTL_STEP)) (if isF b F.LC_STATE_KEY_SVC then b.lc.keySvc else none) (isF b F.FEN_IMG_CTL_SIG_REQ)
  let b := match v with
    | some (code, o) =>
      setF F.FEN_IMG_STATUS_SIGNED 0 (setR R.FEN_IMG_DETAIL (w32 o) (setF F.FEN_IMG_STATUS_REJECT code (setImgState 4 b)))
    | none =>
      let b := setR R.FEN_IMG_STAGED_ID (w32 (imgW m 0x10)) (setR R.FEN_IMG_LEN (w32 (imgLen m)) b)
      let b := setR R.FEN_IMG_NCALC (w32 (imgNodes m cells)) (setR R.FEN_IMG_PCALC (w32 (copySize m cells)) b)
      putF F.FEN_IMG_STATUS_SIGNED (imgSignedFlag m) (setF F.FEN_IMG_STATUS_REJECT 0 (setImgState 3 b))
  match b.fen.load with
  | none => b
  | some (q, swap) =>
    let b := { b with fen := { b.fen with load := none } }
    let b := when (swap && v.isNone) imgSwapAsk b
    match q, v with
    | none, _ => b
    | some q, some (code, _) => finish q St.failed code (getR b R.FEN_IMG_STATUS).toNat 0 b
    | some q, none => finish q St.done 0 (getR b R.FEN_IMG_STATUS).toNat 0 b

/-- IMAGE_BUILD_START (R226, R257): an accepted swap starts to build. -/
def buildStart (b : Block) : Block :=
  if !b.fen.swapAsk then b else
  let b := { b with fen := { b.fen with swapAsk := false } }
  if imgState b ≠ 3 then b else setImgState 5 (abandonRebuild b)

/-- R253: the words with which the build fills a cell's adaptable tables from the active copy, where old and new tables agree. -/
def keptWords (b : Block) (n : Nat) : List (Nat × Word) :=
  let old := b.fen.image
  let new := b.fen.staged
  let d := fun (i : Nat) => mapGet (fun _ => (0 : Word)) new i
  if !isF b F.FEN_IMG_CTL_KEEP_ADAPT || !isF b F.FEN_STATUS_IMG_VALID || !b.fen.cells.contains n then [] else
  ((tables new).filter fun o => tabClass new o == cellClass new n && tabFlag new o 0).foldl (fun m o =>
    match tableOf old (classOf b n) (tabParam new o) with
    | none => m
    | some p =>
      let shape := fun (img : List (Nat × Word)) (a : Nat) => (tabNZ img a, tabNT img a, imgW img (a + 8), imgW img (a + 12),
        (List.range (tabNZ img a + tabNT img a)).map fun i => imgW img (a + 32 + 4 * i))
      if shape old p ≠ shape new o then m
      else (List.range (tabNZ new o * tabNT new o)).foldl (fun m i =>
        mapPut d m (tabVal new o i / 4) (w32 (cellW old (ownOf b n) (tabVal old p i)))) m) []

/-- IMAGE_BUILD_DONE (R252, R253, R258): the copy is built, read back and checked. -/
def buildDone (crcOk : Bool) (b : Block) : Block :=
  if imgState b ≠ 5 || memOut b then b else
  let cells := presentCells b
  let other := cells.foldl (fun l n => mapPut (fun _ => []) l n (keptWords b n)) []
  let b := { b with fen := { b.fen with other := other } }
  if !crcOk then setF F.FEN_IMG_STATUS_SWAP_RESULT 7 (setImgState 3 b)
  else if (chkFit b.fen.staged cells (stepMs (getF b F.FEN_CTL_STEP))).isSome then setF F.FEN_IMG_STATUS_SWAP_RESULT 6 (setImgState 3 b)
  else setImgState 6 (setF F.FEN_STATUS_SWAP_SRC 1 (setF F.FEN_STATUS_SWAP_PEND 1 b))

/-- Every estimate is invalid, those of a record not yet placed included (R261, R488): such a record is not produced (R265), so its sources are not evaluated (R276). -/
def estimatesInvalid (b : Block) : Block :=
  { b with pol := { b.pol with est := none, eval := [], cells := b.pol.cells.map fun x => (x.1, { x.2 with valid := false }) } }

/-- No image is active any more: IMG_VALID clears and FEN_IMG rises where one was, both layers stop, a rebuild is abandoned and no estimate stands (R230, R261, R263). -/
def noImage (b : Block) : Block :=
  let b := when (isF b F.FEN_STATUS_IMG_VALID) (fun b => setLevel Slot.fenImg true 0 (estimatesInvalid (abandonRebuild b))) b
  setF F.FEN_STATUS_IMG_VALID 0 { b with fen := { b.fen with step := none, fastOn := false } }

/-- R262: a build or pending image swap is cancelled with a result. A layout step that runs ends with it, and no image is active then: the old one has been swapped out and the
new one has no layout (DEDUCED, log entry 41). An accepted request that has not begun to build is dropped, and SWAP_RESULT stays: R262 speaks of BUILDING and
SWAP_PENDING alone (DESIGN CHOICE, log entry 41). -/
def cancelSwap (result : Nat) (b : Block) : Block :=
  let b := { b with fen := { b.fen with swapAsk := false } }
  if imgState b ≠ 5 ∧ imgState b ≠ 6 then b else
  let b := when (b.fen.step.any (·.layout)) (fun b => setF F.FEN_STATUS_LAYOUT 0 (noImage b)) b
  setF F.FEN_STATUS_SWAP_PEND 0 (setF F.FEN_IMG_STATUS_SWAP_RESULT result (setImgState 3 b))

/-- R261, R262: the present set changed: a build or a pending swap is cancelled, both layers stop and no estimate stands. -/
def imageInvalid (b : Block) : Block :=
  let b := cancelSwap 3 b
  when (isF b F.FEN_STATUS_IMG_VALID) noImage b

/-- R488: with the memory die failed, staging is unavailable: it is empty, what builds or waits to be swapped in is cancelled, and an IMG_LOAD that waits for its
validation completes BUSY_BIST (DESIGN CHOICE, log entry 12). -/
def stageLost (b : Block) : Block :=
  let b := stageMoved 0 (cancelSwap 2 { b with fen := { b.fen with staged := [] } })
  match b.fen.load with
  | none => b
  | some (q, _) =>
    let b := { b with fen := { b.fen with load := none } }
    match q with
    | none => b
    | some q => finish q St.busyBist 0 0 0 b

/-! Block reset (R230). -/

/-- The FEN registers that a block reset returns to their reset values whole: all but FEN_CTL, FEN_STATUS, FEN_IMG_CTL and FEN_IMG_STATUS (R230, R232). -/
def fenRegs : List Nat :=
  [R.FEN_STEP_NUM, R.FEN_OVR_CNT, R.FEN_NODES, R.FEN_COST, R.FEN_UTIL, R.FEN_STEP_TIME, R.FEN_STEP_TMAX, R.FEN_PARAM, R.FEN_REBUILD, R.FEN_HOLD, R.FEN_PACK_BASE,
    R.FEN_PACK_CNT, R.FEN_NODE_SEL, R.FEN_NODE_V0, R.FEN_NODE_V1, R.FEN_IMG_DETAIL, R.FEN_IMG_WADDR, R.FEN_IMG_LEN, R.FEN_IMG_STAGED_ID, R.FEN_IMG_ID,
    R.FEN_IMG_NCALC, R.FEN_IMG_PCALC, R.FEN_IMG_SWAP_FRAME] ++
    (span 1 192).flatMap fun n => [R.FEN_CELL_STATUS n, R.FEN_CELL_BASE n, R.FEN_FAST_SOC n, R.FEN_FAST_RSER n]

/-- The bits of FEN_STATUS that say what the state region and the parameter copies hold, which a block reset leaves (R230): ACTIVE_COPY, HALF, IMG_VALID. -/
def fenStatusKept : Nat := 2 ^ 8 + 2 ^ 7 + 2 ^ 6

/-- The fields of FEN_IMG_STATUS that tell what the staging area holds, which a block reset leaves (R234, R262): REJECT, SIGNED, STATE. -/
def imgStatusKept : Nat := 255 * 2 ^ 16 + 2 ^ 9 + 15

/-- Register `a` at its reset value but for the bits of `kept`. -/
def resetBut (kept a : Nat) (b : Block) : Block := setR a (w32 (((getR b a).toNat &&& kept) ||| ((resetWord a).toNat &&& (0xFFFFFFFF - kept)))) b

/-- The engine, the fast layer and the FEN registers are reset; a rebuild is abandoned and a swap cancelled with SWAP_RESULT 5 (R226, R230, R262). SIG_REQ stays locked (R264).
The registers that show what the reset leaves untouched (staging, the state region, the copies) keep it (DEDUCED, log entry 16). The integrator keeps its count of
held chain ticks: FEN_HOLD and NOCUR read 0, and NOCUR sets again at the next held chain tick (DESIGN CHOICE, log entry 16). -/
def fenResetStart (crcBad : Bool) (b : Block) : Block :=
  let cancelled := imgState b == 5 || imgState b == 6
  let b := cancelSwap 5 (abandonRebuild b)
  let b := each fenRegs (fun a => setR a (resetWord a)) { b with fen := { b.fen with step := none, resume := false, crcBad := crcBad, reinitOn := [], wPast := false } }
  let b := resetBut (2 ^ 8) R.FEN_IMG_CTL (resetBut imgStatusKept R.FEN_IMG_STATUS (resetBut fenStatusKept R.FEN_STATUS b))
  let b := when cancelled (setF F.FEN_IMG_STATUS_SWAP_RESULT 5) b
  let b := each b.fen.cells (fun n b => putFast n { fastOf b n with z := 0, u := (fastOf b n).u.map fun _ => 0, owed := 0, openLoop := false } b) b
  setLevel Slot.fenNocur false 0 (setLevel Slot.fenHalt false 0 b)

/-- The reset ends with the check of the active copy's CRC (R230): where it passes, the registers describe the active image again and the fast layer takes z from the last
completed state; a step length of FEN_CTL other than the one of reset awaits its boundary. Where it fails, no image is active and every estimate is invalid. -/
def fenResetEnd (b : Block) : Block :=
  let bad := b.fen.crcBad
  let b := { b with fen := { b.fen with crcBad := false } }
  if !isF b F.FEN_STATUS_IMG_VALID then b
  else if bad then noImage b
  else
    let b := setR R.FEN_IMG_ID (w32 (imgW b.fen.image 0x10)) (describeImage b)
    let b := putF F.FEN_STATUS_STEP_PEND (getF b F.FEN_CTL_STEP != getF b F.FEN_STATUS_STEP_ACT) b
    each b.fen.cells (fun n b => putFast n { fastOf b n with z := holdZ (mapGet (fun _ => 0) b.fen.lastSoc n), owed := 0 } b) b

/-! Commands. -/

/-- A write of FEN_IMG_CTL (R234, R254, R257, R264). SIG_REQ locks when it is first set. Where one write sets several of CLEAR, VALIDATE and SWAP they act in
this order (DESIGN CHOICE, log entry 41). -/
def writeImgCtl (v : Word) (b : Block) : Block :=
  let b := writeBits R.FEN_IMG_CTL v b
  let b := if bitOf v.toNat 8 then setF F.FEN_IMG_CTL_SIG_REQ 1 b else b
  let b := when (bitOf v.toNat 0) imgClear b
  let b := when (bitOf v.toNat 1) imgValidate b
  when (bitOf v.toNat 2) imgSwapAsk b

def execModelStepBoundary (s : State) : Host.Outcome State Fault Refusal :=
  run (fun b => if framesRun b && b.clock.stepOwed then stepBoundary b else b) s

/-- STEP_LENGTH_CHANGE (R25): a pending step length takes effect, where this frame is a boundary of both lengths. -/
def execStepLengthChange (s : State) : Host.Outcome State Fault Refusal := run (fun b => if framesRun b then stepLength b else b) s
def execFenStepComplete (s : State) : Host.Outcome State Fault Refusal := run fenStepComplete s
def execStepOverrun (s : State) : Host.Outcome State Fault Refusal := run (fun b => if framesRun b then stepAbandon b else b) s
def execFenHalt (s : State) : Host.Outcome State Fault Refusal := run (inFrame haltCheck) s

/-- FEN_RESUME (R216): a write of FEN_CTL with RESUME = 1. -/
def execFenResume (v : Word) (s : State) : Host.Outcome State Fault Refusal := run (fun b => if ready b then writeFenCtl (v ||| 64) b else b) s

/-- FEN_STEP_WRITE (R221): a write of FEN_CTL, whose STEP field is fit-tested. -/
def execFenStepWrite (v : Word) (s : State) : Host.Outcome State Fault Refusal := run (fun b => if ready b then writeFenCtl v b else b) s
def execFenThrottleChange (temp : Int) (s : State) : Host.Outcome State Fault Refusal := run (inFrame (throttle temp)) s
def execAdaptRebuildStart (s : State) : Host.Outcome State Fault Refusal := run rebuildStart s
def execAdaptRebuildDone (cells : List RefitCell) (crcOk : Bool) (s : State) : Host.Outcome State Fault Refusal := run (inFrame (rebuildDone cells crcOk)) s
def execLayoutStepDone (s : State) : Host.Outcome State Fault Refusal := run (fun b => if framesRun b then layoutDone b else b) s
def execFenImgWaddr (v : Word) (s : State) : Host.Outcome State Fault Refusal := run (fun b => if ready b then writeWaddr v b else b) s
def execFenImgWdata (v : Word) (s : State) : Host.Outcome State Fault Refusal := run (fun b => if ready b then writeWdata v b else b) s

/-- IMG_VALIDATE (R254): FEN_IMG_CTL with VALIDATE = 1. -/
def execImgValidate (v : Word) (s : State) : Host.Outcome State Fault Refusal := run (fun b => if ready b then writeImgCtl (v ||| 2) b else b) s
def execImgValidationDone (s : State) : Host.Outcome State Fault Refusal := run (inFrame validationDone) s

/-- IMG_SWAP_REQUEST (R257): FEN_IMG_CTL with SWAP = 1. -/
def execImgSwapRequest (v : Word) (s : State) : Host.Outcome State Fault Refusal := run (fun b => if ready b then writeImgCtl (v ||| 4) b else b) s

/-- IMG_SWAP (R234, R257, R403). -/
def execImgSwap (q : Fin 16) (d : Desc) (s : State) : Host.Outcome State Fault Refusal :=
  run (fun b0 => startCmd q.val 0x07 d (d.p0 != 0 || d.addr != 0 || !tail0 d) (lifeIs b0 .retired) (fun b =>
    let ok := swapAccepts b
    let b := imgSwapAsk b
    let st := (getR b R.FEN_IMG_STATUS).toNat
    if ok then finish q.val St.done 0 st 0 b else finish q.val St.refused (getF b F.FEN_IMG_STATUS_SWAP_RESULT) st 0 b) b0) s

/-- IMG_CLEAR (R234): FEN_IMG_CTL with CLEAR = 1. -/
def execImgClear (v : Word) (s : State) : Host.Outcome State Fault Refusal := run (fun b => if ready b then writeImgCtl (v ||| 1) b else b) s

/-- IMG_LOAD (R255, R402, R403): bytes copied into staging, then validation and a swap request where asked for. -/
def execImgLoad (q : Fin 16) (d : Desc) (data : Option (List Word)) (s : State) : Host.Outcome State Fault Refusal :=
  run (fun b0 => startCmd q.val 0x06 d (decide (d.p0.toNat / 4 ≠ 0) || badAddr d.addr || d.p3 != 0 || d.p4 != 0) (lifeIs b0 .retired) (fun b =>
    let ofs := d.p1.toNat
    let len := d.p2.toNat
    let st := fun (b : Block) => (getR b R.FEN_IMG_STATUS).toNat
    if memOut b then finish q.val St.busyBist 0 0 0 b
    else if ofs % 4 ≠ 0 ∨ len % 4 ≠ 0 ∨ 16777216 < ofs + len ∨ stageShut b then finish q.val St.refused 0 (st b) 0 b
    else withData q.val data (fun ws b =>
      let put := (List.range (len / 4)).foldl (fun m i => mapPut (fun _ => 0) m (ofs / 4 + i) (ws.getD i 0)) b.fen.staged
      let b := stageMoved 1 { b with fen := { b.fen with staged := put } }
      if bitOf d.p0.toNat 0 then waitOn q.val .imgLoad (imgValidate { b with fen := { b.fen with load := some (some q.val, bitOf d.p0.toNat 1) } })
      else finish q.val St.done 0 (st b) 0 b) b) b0) s

def execImageBuildStart (s : State) : Host.Outcome State Fault Refusal := run (fun b => if framesRun b then buildStart b else b) s
def execImageBuildDone (crcOk : Bool) (s : State) : Host.Outcome State Fault Refusal := run (inFrame (buildDone crcOk)) s

/-- POLICY_MODE_CHANGE (R271, R272): at a model-step boundary, where the mode in force is not yet the one asked for. -/
def execPolicyModeChange (s : State) : Host.Outcome State Fault Refusal :=
  run (fun b => if framesRun b && frame b % stepFrames b == 0 then polModeChange b else b) s

/-- OVERRIDE_TAKEUP (R279): at a model-step boundary. -/
def execOverrideTakeup (s : State) : Host.Outcome State Fault Refusal :=
  run (fun b => if framesRun b && frame b % stepFrames b == 0 then takeUp b else b) s

end Sys2Proof.Machine
end

