-- ==== Sys2Proof/Machine/Ledger.lean ====
section
/-! DEFINITION. The Peat ledger (R282 to R288): histograms, journal, flushes, the erase, the reads, and the commands of the family. -/

namespace Sys2Proof.Machine

/-! Journal (R285). -/

/-- The order of entries: frame by frame, and in one frame as R285 lists the kinds, 0x04 in ascending slot. -/
def jBefore (x y : JEntry) : Bool :=
  decide (x.dev < y.dev) || (x.dev == y.dev && (decide (x.kind < y.kind) || (x.kind == y.kind && (x.kind != 4 || decide (x.index ≤ y.index)))))

/-- One entry at JHEAD of the mirror. -/
def journalPut (e : JEntry) (m : LedImage) : LedImage :=
  let ws := [w32 m.jseq, w32 m.life, w32 (e.kind % 256 * 2 ^ 24 + e.sub % 256 * 2 ^ 16 + e.index % 2 ^ 16), w32 e.value]
  { m with
    journal := mapPut (fun _ => List.replicate 4 0) m.journal m.jhead ws
    jseq := (m.jseq + 1) % 2 ^ 32
    jhead := if m.jhead = 12287 then 8 else m.jhead + 1
    wrapped := m.wrapped || decide (m.jhead = 12287) }

/-- The entries that wait are written into the mirror in their order; while the memory die is out of reach they wait (R488). -/
def journalWrite (b : Block) : Block :=
  if b.led.queue.isEmpty || memOut b then b else
  let m := (sortBy jBefore b.led.queue).foldl (fun m e => journalPut e m) b.led.mirror
  { b with led := { b.led with mirror := m, queue := [], dirty := true } }

/-! Histograms (R284). -/

/-- An index from a value, the lowest edge and the width of its bins, 0 to 15; a width of 0 leaves it open (log entry 6). -/
def binIndex (place : Nat) (x lo step : Rat) : Nat :=
  if step = 0 then Config.unstated place [x.floor, lo.floor] % 16 else (clampInt 0 15 ((x - lo) / step).floor).toNat

/-- The bin 16 × iV + iT of a mean voltage in mV and a temperature in 1/128 °C. -/
def ledBin (m : LedImage) (volt temp : Rat) : Nat :=
  16 * binIndex 50 volt (m.vLo : Rat) (m.vStep : Rat) + binIndex 51 temp (signed 16 m.tLo : Rat) (signed 16 m.tStep : Rat)

/-- The temperature of cell `n` for the ledger, in 1/128 °C. -/
def ledTemp (b : Block) (n : Nat) : Rat :=
  let p := polCell b n
  if p.tValid then (p.tcore : Rat) else mappedTemp b b.fen.image n * 128

/-- The mean voltage of cell `n` over the second in mV, over the chain ticks that had a valid average; the spec states none where there was none. -/
def ledVolt (b : Block) (n : Nat) : Rat :=
  match b.led.second.find? (·.1 == n) with
  | some (_, sum, k) => (sum : Rat) / 1000 / (k : Rat)
  | none => (Config.unstated 52 [n, b.led.secFrom] : Rat)

/-- The averages of a chain tick enter the sums of the present second. -/
def ledAccumulate (b : Block) : Block :=
  each (presentCells b) (fun n b =>
    if !b.fe.avgOk.contains n then b else
    let x := mapGet (fun _ => ((0 : Int), 0)) b.led.second n
    { b with led := { b.led with second := mapPut (fun _ => ((0 : Int), 0)) b.led.second n (x.1 + mapGet (fun _ => 0) b.fe.avg n, x.2 + 1) } }) b

/-- `secs` seconds in bin `bin` of cell `n`; the counter saturates. -/
def histAdd (n bin secs : Nat) (m : LedImage) : LedImage :=
  let k := 256 * (n - 1) + bin
  { m with hist := mapPut (fun _ => 0) m.hist k (min (2 ^ 32 - 1) (mapGet (fun _ => 0) m.hist k + secs)) }

/-- A second has passed since the last one was counted, its last chain tick worked. -/
def secondDue (b : Block) : Bool := framesRun b && !memOut b && b.fe.jobs.isEmpty && decide (b.led.secFrom + 20000 ≤ devF b)

/-- One second of every present cell enters its histogram, and LIFE advances (R283, R284). -/
def histogramSecond (b : Block) : Block :=
  if !secondDue b then b else
  let m := (presentCells b).foldl (fun m n => histAdd n (ledBin m (ledVolt b n) (ledTemp b n)) 1 m) b.led.mirror
  { b with led := { b.led with mirror := { m with life := (m.life + 1) % 2 ^ 32 }, dirty := true, second := [], secFrom := devF b - (devF b - b.led.secFrom) % 20000 } }

/-- Each present cell's bin as PARK entry finds it: by the mean of the second so far (DEDUCED, log entry 17). -/
def parkBins (b : Block) : List (Nat × Nat) := (presentCells b).map fun n => (n, ledBin b.led.mirror (ledVolt b n) (ledTemp b n))

/-- At wake the bins of PARK entry and PARK_LIFE receive the seconds in PARK (R284). -/
def parkSeconds (secs : Nat) (b : Block) : Block :=
  let m := b.led.parkBin.foldl (fun m x => histAdd x.1 x.2 secs m) b.led.mirror
  { b with led := { b.led with mirror := { m with parkLife := (m.parkLife + secs) % 2 ^ 32 }, dirty := true, parkBin := [] } }

/-! Flushes and the erase (R286, R287). -/

/-- A flush of the mirror begins, merges into one in progress, or waits for a configuration commit to end (R102, R286). Entries of the present frame enter the mirror at its
end (R285), so this flush does not hold them. -/
def flushStart (b : Block) : Block :=
  if b.led.flushing.isSome || memOut b then b
  else if b.cfg.captured.isSome then { b with led := { b.led with owed := true } }
  else { b with led := { b.led with flushing := some b.led.mirror, dirty := false, owed := false } }

/-- The header copy that a flush writes: the older (R104, R283). -/
def olderHeader (b : Block) : Nat :=
  let h := fun i => b.led.headers.getD i 0
  let d := (h 1 + 2 ^ 32 - h 0) % 2 ^ 32
  if 1 ≤ d ∧ d < 2 ^ 31 then 0 else 1

/-- A flush that wrote `img` has read back: the older header copy takes the next HSEQ and is in use. -/
def flushDone (img : LedImage) (b : Block) : Block :=
  let h := (b.led.mirror.hseq + 1) % 2 ^ 32
  { b with led := { b.led with store := { img with hseq := h }, mirror := { b.led.mirror with hseq := h }, headers := b.led.headers.set (olderHeader b) h, last := devF b } }

/-- A flush failed its read-back at store address `addr` (R286, R455): the words it wrote stay but for that one, whose content is free, and no header copy changed. -/
def flushFail (img : LedImage) (addr : Nat) (b : Block) : Block :=
  let got := fresh b
  let v := got.1
  let b := got.2
  let at_ := (addr - 0x180000) / 4
  let old := b.led.store
  let hist := if at_ < 49152 then mapPut (fun _ => 0) img.hist at_ (v % 2 ^ 32) else img.hist
  let jour := if at_ < 49152 then img.journal else
    let slot := (at_ - 49152) / 4
    mapPut (fun _ => List.replicate 4 0) img.journal slot
      ((mapGet (fun _ => List.replicate 4 0) img.journal slot).set ((at_ - 49152) % 4) (w32 v))
  let b := { b with led := { b.led with store := { old with hist := hist, journal := jour }, dirty := true, last := devF b } }
  detectOnce Slot.nvstore 0 (journal 0x0A 0 0 addr (setF F.LED_STATUS_FLUSH_FAIL 1 b))

/-- R287: the erase, after its flush. -/
def eraseNow (b : Block) : Block :=
  let m := b.led.mirror
  let e := if m.erases = 65535 then Config.unstated 53 [] % 2 ^ 16 else m.erases + 1
  let m' : LedImage := {
    hseq := m.hseq, jseq := m.jseq, erases := e
    vLo := getF b F.LED_VBIN_V_LO, vStep := getF b F.LED_VBIN_V_STEP, tLo := getF b F.LED_TBIN_T_LO, tStep := getF b F.LED_TBIN_T_STEP }
  { b with led := { b.led with mirror := journalPut ⟨9, 0, 0, e, devF b⟩ m', dirty := true, eraseDue := false } }

/-- MARKER of the copy that a configuration commit writes is cleared when its turn at the store has come (R102, R105 step 2): no ledger flush and no firmware update
asked for before it is still to be written. -/
def commitTurn (b : Block) : Block :=
  if b.cfg.captured.isNone || b.led.flushing.isSome || b.fw.job.any (fun j => !j.afterCommit) then b else
  let target := 1 - getF b F.CFG_STATUS_ACTIVE
  { b with cfg := { b.cfg with copies := b.cfg.copies.set target { b.cfg.copies.getD target {} with marker := 0 } } }

/-- LEDGER_FLUSH_DONE (R286): the flush in progress ends; an erase that waited for it follows at the end of the frame, and what waited for the store goes on (R102). -/
def flushEnd (fail : Option Nat) (b : Block) : Block :=
  match b.led.flushing with
  | none => b
  | some img =>
    let b := { b with led := { b.led with flushing := none }, fw := { b.fw with job := b.fw.job.map fun j => { j with afterFlush := false } } }
    commitTurn (match fail with
      | none => flushDone img b
      | some a => flushFail img a b)

/-- At the end of a frame its entries are written in their order (R285), and an erase whose flush has ended follows, between the entries before its own and those after
(R287). -/
def journalTick (b : Block) : Block :=
  if !b.led.eraseDue || b.led.flushing.isSome || b.led.owed || memOut b then journalWrite b else
  let late := b.led.queue.filter fun e => decide (e.dev = devF b ∧ 9 < e.kind)
  let b := eraseNow (journalWrite { b with led := { b.led with queue := b.led.queue.filter fun e => !decide (e.dev = devF b ∧ 9 < e.kind) } })
  journalWrite { b with led := { b.led with queue := late } }

/-- A flush that waited for a configuration commit begins when it has ended (R102). -/
def flushOwed (b : Block) : Block := if b.led.owed && b.cfg.captured.isNone then flushStart b else b

/-- R286: 12,000,000 frames after the previous flush the mirror is flushed. -/
def flushPeriodic (b : Block) : Block :=
  if framesRun b && decide (b.led.last + 12000000 ≤ devF b) && b.led.flushing.isNone && !b.led.owed then flushStart b else b

/-- An erase request (R287, R97). -/
def eraseAsk (b : Block) : Block :=
  if (lifeIs b .factory || lifeIs b .service) && !memOut b then flushStart { b with led := { b.led with eraseDue := true } }
  else setF F.LED_STATUS_ERASE_REFUSED 1 b

/-- A write of LED_CTL (R286, R287). -/
def writeLedCtl (v : Word) (b : Block) : Block :=
  let b := writeBits R.LED_CTL v b
  let b := when (bitOf v.toNat 1) flushStart b
  when (bitOf v.toNat 2) (fun b => if v.toNat / 2 ^ 24 = 0xA5 then eraseAsk b else setF F.LED_STATUS_ERASE_REFUSED 1 b) b

/-- After a reset the mirror is loaded from the store (R282, R286); what was not flushed is lost. -/
def ledgerRestart (b : Block) : Block :=
  { b with led := { store := b.led.store, mirror := b.led.store, headers := b.led.headers } }

/-! Reads (R283, R288). -/

/-- The sixteen words of the header in use (R283). -/
def ledHeader (m : LedImage) : List Word :=
  let ws := [w32 0x47444C50, w32 1, w32 m.hseq, w32 m.life, w32 m.parkLife, w32 m.jseq, w32 (m.jhead + nat01 m.wrapped * 2 ^ 16), w32 m.erases,
    w32 (m.vLo + m.vStep * 2 ^ 16), w32 (m.tLo + m.tStep * 2 ^ 16)] ++ List.replicate 5 0
  ws ++ [w32 (crc32 (ws.flatMap bytesOfWord))]

/-- REGION and INDEX name an item: the header, the histogram of a cell, or a slot of the journal ring. -/
def ledItem (region index : Nat) : Bool :=
  match region with
  | 0 => true
  | 1 => decide (1 ≤ index ∧ index ≤ 192)
  | 2 => decide (8 ≤ index ∧ index ≤ 12287)
  | _ => false

/-- Word `i` of the item (R288). -/
def ledWord (m : LedImage) (region index i : Nat) : Word :=
  match region with
  | 0 => (ledHeader m).getD i 0
  | 1 => if i < 256 then w32 (mapGet (fun _ => 0) m.hist (256 * (index - 1) + i)) else 0
  | _ => (mapGet (fun _ => List.replicate 4 0) m.journal ((index - 8 + i / 4) % 12280 + 8)).getD (i % 4) 0

/-- A read of LED_RD_DATA (R288): the next word of the selected item; the spec states none where nothing is selected or the mirror is out of reach. -/
def readLedData (b : Block) : Word × Block :=
  let region := getF b F.LED_RD_CTL_REGION
  let index := getF b F.LED_RD_CTL_INDEX
  let w := if ledItem region index && !memOut b && framesRun b then ledWord b.led.mirror region index b.led.rdPos
    else w32 (Config.unstated 54 [region, index, b.led.rdPos])
  (w, { b with led := { b.led with rdPos := b.led.rdPos + 1 } })

/-- A write of LED_RD_CTL restarts the read (R288). -/
def writeLedRd (v : Word) (b : Block) : Block :=
  let b := writeBits R.LED_RD_CTL v b
  { b with led := { b.led with rdPos := 0 } }

/-- LED_STATUS as it reads (R289). -/
def ledStatus (b : Block) : Nat :=
  let m := b.led.mirror
  m.erases * 2 ^ 16 + getF b F.LED_STATUS_ERASE_REFUSED * 16 + getF b F.LED_STATUS_FLUSH_FAIL * 8 + nat01 m.wrapped * 4
    + nat01 (b.led.dirty || b.led.flushing.isSome || !b.led.queue.isEmpty) * 2 + nat01 b.led.flushing.isSome

/-! Commands. -/

def execHistogramSecond (s : State) : Host.Outcome State Fault Refusal := run histogramSecond s
def execLedgerPeriodicFlush (s : State) : Host.Outcome State Fault Refusal := run (inFrame flushPeriodic) s

/-- LED_FLUSH (R286): LED_CTL.FLUSH = 1. -/
def execLedFlush (v : Word) (s : State) : Host.Outcome State Fault Refusal :=
  run (fun b => if ready b then writeLedCtl (w32 ((v.toNat ||| 2) &&& 0xFFFFFFFB)) b else b) s

/-- LED_ERASE (R287): LED_CTL.ERASE = 1 with a CONFIRM. -/
def execLedErase (v : Word) (s : State) : Host.Outcome State Fault Refusal :=
  run (fun b => if ready b then writeLedCtl (v ||| 4) b else b) s

/-- LEDGER_FLUSH_DONE (R286): a read-back mismatch names the store address. Behind a firmware update that was asked for first the flush cannot end (R102). -/
def execLedgerFlushDone (fail : Option (BitVec 21)) (s : State) : Host.Outcome State Fault Refusal :=
  run (fun b => if b.fw.job.any (fun j => !j.afterFlush) then b else flushEnd (fail.map (·.toNat)) b) s

def execLedRdCtl (v : Word) (s : State) : Host.Outcome State Fault Refusal := run (fun b => if ready b then writeLedRd v b else b) s

/-- LEDGER_READ (R288, R402, R403): words of an item from the mirror to host memory. -/
def execLedgerRead (q : Fin 16) (d : Desc) (s : State) : Host.Outcome State Fault Refusal :=
  run (startCmd q.val 0x09 d
    (badAddr d.addr || decide (d.p1.toNat < 1 ∨ 65536 < d.p1.toNat) || d.p2 != 0 || d.p3 != 0 || d.p4 != 0 || bitsOf d.p0.toNat 16 14 != 0 ||
      !ledItem (d.p0.toNat / 2 ^ 30) (d.p0.toNat % 2 ^ 16) || (decide (d.p0.toNat / 2 ^ 30 = 0) && decide (d.p0.toNat % 2 ^ 16 ≠ 0))) false
    (fun b =>
      if memOut b then finish q.val St.busyBist 0 0 0 b else
      let ws := (List.range d.p1.toNat).map (ledWord b.led.mirror (d.p0.toNat / 2 ^ 30) (d.p0.toNat % 2 ^ 16))
      dmaOut q.val d.wfail d.addr.toNat ws St.done 0 d.p1.toNat 0 b)) s

end Sys2Proof.Machine
end

