-- ==== Sys2Proof/Machine/Commit.lean ====
section
/-! DEFINITION. Measurement commits (R162 to R168), policy notch placements at a tick, and QUIET intervals (R172, R190). -/

namespace Sys2Proof.Machine

/-- A commit of the shadow set is requested for the next frame tick (R162). -/
def commitAsk (b : Block) : Block := setF F.FE_COMMIT_PENDING 1 b

/-- A write of FE_COMMIT (R146, R162). -/
def writeFeCommit (v : Word) (b : Block) : Block :=
  let b := writeBits R.FE_COMMIT v b
  when (bitOf v.toNat 0) commitAsk b

/-- The shadow set (R162): every register of FE and FLT with an RWS field, at its RWS bits. -/
def shadowSet (b : Block) : List (Nat × Word) :=
  (b.regs.filter fun x => decide (0x8000 ≤ x.1 ∧ x.1 < 0xB000)).filterMap fun x =>
    match regRow x.1 with
    | some r =>
      let w := w32 ((x.2.toNat &&& r.rws) ||| (r.reset &&& (0xFFFFFFFF ^^^ r.rws)))
      if r.rws = 0 ∨ w = resetWord x.1 then none else some (x.1, w)
    | none => none

/-- The highest order allowed with a RATE code (R150). -/
def orderMax (rate : Nat) : Nat := if rate = 0 then 3 else if rate = 1 then 4 else 5

/-- ORDER and RATE are an allowed pair of R150. -/
def pairOk (rate order : Nat) : Bool := decide (rate ≤ 8 ∧ 1 ≤ order ∧ order ≤ orderMax rate)

/-- CELL_EN values of R122. -/
def cellEnOk (v : Nat) : Bool := [0x03F, 0x07F, 0x0FF, 0x1FF, 0x3FF, 0x7FF, 0xFFF].contains v

/-- An FE condition of R145 holds. -/
def feBad (s : List (Nat × Word)) : Bool :=
  let f := fieldIn s
  let src := f F.FE_ISENSE_CTL_FEN_SRC
  let beta := fun x => decide (x < 1000 ∨ 10000 < x)
  (List.range 16).any (fun t => !cellEnOk (f (F.FE_TIER_CTL_CELL_EN t))) || decide (1 ≤ f F.FE_OW_CTL_PERIOD ∧ f F.FE_OW_CTL_PERIOD ≤ 19) ||
    decide (12 < f F.FE_OW_CTL_AVG) || decide (f F.FE_OW_CTL_THR < 100) || decide (f F.FE_CHK_CTL_CHK_THR < 20) || decide (f F.FE_ISENSE_CTL_PL_N = 0) ||
    decide (src = 3) || decide (1250 < f F.FE_IDLY_DLY1) || decide (1250 < f F.FE_IDLY_DLY2) ||
    (List.range 16).any (fun t => beta (f (F.FE_NTC_BETA_BETA_A t)) || beta (f (F.FE_NTC_BETA_BETA_B t))) ||
    (decide (src = 0 ∨ src = 2) && decide (mapGet resetWord s (R.FE_SHUNT 1) = 0)) || (decide (src = 1 ∨ src = 2) && decide (mapGet resetWord s (R.FE_SHUNT 2) = 0))

/-- Notch `k` of a set is enabled with its own values and one of them is out of range (R164). -/
def notchBad (s : List (Nat × Word)) (k : Nat) : Bool :=
  let f0 := fieldIn s (F.FLT_NOTCH_F0 k)
  let q := fieldIn s (F.FLT_NOTCH_Q k)
  fieldIn s (F.FLT_NOTCH_EN k) == 1 && fieldIn s (F.FLT_NOTCH_SRC k) == 0 && !decide (200 ≤ f0 ∧ f0 ≤ 30000 ∧ 4 ≤ q ∧ q ≤ 200)

/-- L of a set (R172) over the enabled notches in range (R164). -/
def rangeLen (b : Block) (s : List (Nat × Word)) : Nat :=
  let t := fun k => if notchBad s k then 0 else notchNs (notchOf b s k)
  (((fieldIn s F.FLT_CTL_ORDER * periodNs s + 31250 : Nat) + t 1 + t 2 + (periodNs s : Nat)) / 50000).ceil.toNat

/-- The causes for which a set is inconsistent, laid out as FLT_REJ (R164, R177): a RATE above 8 is in no allowed pair, and has no L. -/
def rejCauses (b : Block) (s : List (Nat × Word)) : Nat :=
  let rate := fieldIn s F.FLT_CTL_RATE
  let n := fieldIn s F.FLT_BAL_CTL_QUIET_N
  let quiet := fieldIn s F.FLT_BAL_CTL_QUIET_EN == 1
  nat01 (feBad s) * 2 ^ 8 + nat01 (quiet && decide (rate ≤ 8) && decide (n * rateK rate ≤ rangeLen b s)) * 2 ^ 5
    + nat01 (quiet && !decide (1 ≤ n ∧ n ≤ 4096)) * 2 ^ 4 + nat01 (notchBad s 2) * 2 ^ 3 + nat01 (notchBad s 1) * 2 ^ 2
    + nat01 (decide (8 < rate)) * 2 + nat01 (!pairOk rate (fieldIn s F.FLT_CTL_ORDER))

/-- FLT_ACTIVE, FLT_SETTLE and FLT_QUIET_LEN as the active set and the policy's placements make them (R162, R177). -/
def activeRegs (b : Block) : Block :=
  let on := fun k => (notchOf b b.act k).isSome
  let pol := fun k => on k && actF b (F.FLT_NOTCH_SRC k) == 1
  let b := setF F.FLT_ACTIVE_RATE (actF b F.FLT_CTL_RATE) (setF F.FLT_ACTIVE_ORDER (actF b F.FLT_CTL_ORDER) b)
  let b := putF F.FLT_ACTIVE_N1_ON (on 1) (putF F.FLT_ACTIVE_N2_ON (on 2) b)
  let b := putF F.FLT_ACTIVE_N1_POL (pol 1) (putF F.FLT_ACTIVE_N2_POL (pol 2) b)
  setR R.FLT_QUIET_LEN (w32 (quietLen b b.act % 2 ^ 16)) (setR R.FLT_SETTLE (w32 (settleUp b b.act)) b)

/-- The registers `as` differ between two sets. -/
def differ (s t : List (Nat × Word)) (as : List Nat) : Bool := as.any fun a => decide (mapGet resetWord s a ≠ mapGet resetWord t a)

/-- R122, R124, R191, R261: the present set changed from that of `old`. -/
def cellEnChange (old : List (Nat × Word)) (b : Block) : Block :=
  let was := fun n => bitOf (fieldIn old (F.FE_TIER_CTL_CELL_EN (tierOf n))) (localOf n - 1)
  let gone := (span 1 192).filter fun n => was n && !present b n
  let come := (span 1 192).filter fun n => !was n && present b n
  if gone.isEmpty && come.isEmpty then b else
  let b := { b with fe := { b.fe with absent := (b.fe.absent.filter fun x => !come.contains x.1 && !gone.contains x.1) ++ gone.map fun n => (n, devF b) } }
  let b := each come (fun n b => levelBit (Slot.feTopo (tierOf n)) (localOf n) false (setlNow (n - 1) (n - 1) false b)) b
  imageInvalid (sweepAbort 4 b)

/-- R191: a commit at this tick spoils every cell of the running point, where it changes what its reference uses. -/
def spoilAll (used : Sweep → Bool) (b : Block) : Block := markPoints (devF b) (fun w => if used w then { w with spoiled := w.cells } else w) b

/-- The FE_SHUNT registers that a FEN_SRC uses. -/
def shuntsUsed (src : Nat) : List Nat := if src = 0 then [R.FE_SHUNT 1] else if src = 1 then [R.FE_SHUNT 2] else [R.FE_SHUNT 1, R.FE_SHUNT 2]

/-- A consistent set takes effect (R124, R161, R163, R167). -/
def applySet2 (s : List (Nat × Word)) (b : Block) : Block :=
  let old := b.act
  let b := activeRegs (incF F.FLT_ACTIVE_COMMIT_CNT { b with act := s, fe := { b.fe with settingAt := some (devF b) } })
  let filter := differ old s [R.FLT_CTL, R.FLT_NOTCH 1, R.FLT_NOTCH 2]
  let sched := fun (t : List (Nat × Word)) => (fieldIn t F.FLT_BAL_CTL_QUIET_EN, fieldIn t F.FLT_BAL_CTL_QUIET_N)
  let b := when filter (setlNow 0 193 true) b
  let b := when (filter || sched old != sched s) (fun b => { b with fe := { b.fe with quiet := none } }) b
  let b := cellEnChange old b
  let b := when (fieldIn old F.FE_IDLY_DLY1 != fieldIn s F.FE_IDLY_DLY1) (setlNow 192 192 false) b
  let b := when (fieldIn old F.FE_IDLY_DLY2 != fieldIn s F.FE_IDLY_DLY2) (setlNow 193 193 false) b
  let spoils := fieldIn old F.FE_ISENSE_CTL_FEN_SRC != fieldIn s F.FE_ISENSE_CTL_FEN_SRC || differ old s [R.FE_IDLY]
  let host := getF b F.IMP_CTL_HOST_CH + 1
  let b := spoilAll (fun w => spoils || differ old s (if w.src = 2 then [R.FE_SHUNT host] else shuntsUsed (fieldIn s F.FE_ISENSE_CTL_FEN_SRC))) b
  let b := when (fieldIn s F.FE_ISENSE_CTL_PL_EN == 0) (setLevel Slot.feIpl false 0) b
  when (fieldIn old F.FE_ISENSE_CTL_PL_EN == 0 && fieldIn s F.FE_ISENSE_CTL_PL_EN == 1) (fun b => { b with fe := { b.fe with plCount := 0, plBad := false } }) b

/-- Commands of CFG_WRITE that wait for this tick complete (R403). -/
def cfgWriteDone (rejected : Bool) (b : Block) : Block :=
  let b := finishAll (· == .cfgWrite true) (fun q b =>
    if rejected then finish q St.failed 1 (frame b) (getR b R.FLT_REJ).toNat b else finish q St.done 0 (frame b) 0 b) b
  finishAll (· == .cfgWrite false) (fun q b => finish q St.done 0 (frame b) 0 b) b

/-- MEASUREMENT_COMMIT_APPLY (R163): the sampled set is checked and applied, or rejected whole. -/
def commitApply (b : Block) : Block :=
  if !isF b F.FE_COMMIT_PENDING then cfgWriteDone false b else
  let b := setF F.FE_COMMIT_PENDING 0 b
  let s := shadowSet b
  let rej := rejCauses b s
  if rej = 0 then cfgWriteDone false (applySet2 s b)
  else cfgWriteDone true (event 0x11 0 0 rej 0 (setF F.FE_COMMIT_CFG_REJ 1 (setR R.FLT_REJ (w32 rej) b)))

/-- POLICY_NOTCH_PLACEMENT (R168): placements apply at the tick to notches whose SRC is 1 after the commit, withdrawals to any (R272), with SETL where the path changes; they go to
the tiers with the control block (R315). A quiet interval that runs keeps its length (R172 speaks of commits alone: DESIGN CHOICE, log entry 37). -/
def notchPlace (b : Block) : Block :=
  let inPath := b.fe.notchDue.any fun x => actF b (F.FLT_NOTCH_SRC x.1) == 1
  let due := b.fe.notchDue.filter fun x => x.2.isNone || actF b (F.FLT_NOTCH_SRC x.1) == 1
  let b := { b with fe := { b.fe with notchDue := [] } }
  if due.isEmpty then b else
  let b := each due (fun (k, p) b =>
    match p with
    | some (f0, q) => setF (F.FLT_NOTCH_POL_ACTIVE k) 1 (setF (F.FLT_NOTCH_POL_F0 k) f0 (setF (F.FLT_NOTCH_POL_Q k) q b))
    | none => setR (R.FLT_NOTCH_POL k) 0 b) b
  let b := activeRegs b
  when inPath (fun b => setlNow 0 193 true { b with fe := { b.fe with settingAt := some (devF b) } }) b

/-! QUIET intervals (R172). -/

/-- The interval that held the FETs off until this tick ends. -/
def quietEnd (b : Block) : Block :=
  match b.fe.quiet with
  | some (_, hi) => if hi ≤ devF b then { b with fe := { b.fe with quiet := none } } else b
  | none => b

/-- At the tick of frame F - L + 1 of a QUIET output F its interval begins. -/
def quietStart (b : Block) : Block :=
  let l := quietLen b b.act
  let n := actF b F.FLT_BAL_CTL_QUIET_N * activeK b
  if actF b F.FLT_BAL_CTL_QUIET_EN = 0 || n = 0 || (frame b + l) % n ≠ 0 || b.fe.quiet.isSome then b
  else count 0x2A 1 {} { b with fe := { b.fe with quiet := some (devF b, devF b + l) } }

/-! Commands. -/

/-- FE_COMMIT (R162): FE_COMMIT.COMMIT = 1. -/
def execFeCommit (v : Word) (s : State) : Host.Outcome State Fault Refusal := run (fun b => if ready b then writeFeCommit (v ||| 1) b else b) s

/-- MEASUREMENT_COMMIT_APPLY (R163), where a commit or a batch still waits. -/
def execMeasurementCommitApply (s : State) : Host.Outcome State Fault Refusal := run (fun b => if framesRun b then commitApply b else b) s

def execPolicyNotchPlacement (s : State) : Host.Outcome State Fault Refusal := run (fun b => if framesRun b then notchPlace b else b) s

/-- QUIET_INTERVAL_START (R172): the gates follow. -/
def execQuietIntervalStart (s : State) : Host.Outcome State Fault Refusal :=
  run (fun b => if framesRun b && b.fe.quiet.isNone then balGates (quietStart b) else b) s

/-- QUIET_INTERVAL_END (R172): bleeding resumes. -/
def execQuietIntervalEnd (s : State) : Host.Outcome State Fault Refusal :=
  run (fun b => if framesRun b then balGates (quietEnd b) else b) s

end Sys2Proof.Machine
end

