-- ==== Sys2Proof/Machine/Boardwalk.lean ====
section
/-! DEFINITION. The Boardwalk tier ring (R312 to R325): routing, enumeration, breaks and restoration, control blocks, loss of markers, the BW registers as they
read, supply loss of a tier (R74), and the commands of the family. -/

namespace Sys2Proof.Machine

/-- The latest span with a broken hop reaches device frame `d`. -/
def spanTo (d : Nat) : List (Nat × Nat) → List (Nat × Nat)
  | (a, _) :: rest => (a, d) :: rest
  | [] => []

def putHop (h : Nat) (x : Hop) (b : Block) : Block := { b with bw := { b.bw with hops := mapPut (fun _ => {}) b.bw.hops h x } }

/-- Tier `t` is unreachable (R317, R322): no token numbered it, or broken hops lie on both sides. -/
def unreachable (b : Block) (t : Nat) : Bool := !b.bw.taken.contains t || !reachable b t

/-- Tier `t` is to take its markers from the head (R319): it lies above a broken hop and none lies above it. -/
def fromHead (b : Block) (t : Nat) : Bool := !(brokenHops b).isEmpty && (brokenHops b).all (fun h => decide (h ≤ t))

/-- Tier `t` sends its data to the foot (R319). -/
def toFoot (b : Block) (t : Nat) : Bool := !(brokenHops b).isEmpty && (brokenHops b).all (fun h => decide (t < h))

/-- Every tier takes the markers that reach it: after a break from the next head marker on (R319). -/
def headSwitch (b : Block) : Block := { b with bw := { b.bw with headClk := (List.range 16).filter (fromHead b) } }

/-- The Boardwalk sources follow the ring (R324): BW_BREAK until routing is restored, BW_SPLIT while a tier is unreachable; since when each is. -/
def ringLevels (b : Block) : Block :=
  let un := (List.range 16).filter (unreachable b)
  let was := b.bw.unreach
  let b := { b with bw := { b.bw with unreach := un.map fun t => ((was.find? (·.1 == t)).getD (t, devF b)) } }
  let b := when (reversed b || condOf b Slot.bwBreak != {}) (setLevel Slot.bwBreak (reversed b) ((brokenHops b).foldl (fun m h => m + 2 ^ h) 0)) b
  when (!un.isEmpty || condOf b Slot.bwSplit != {}) (setLevel Slot.bwSplit (!un.isEmpty) (tierBits un)) b

/-- Markers reach a reachable tier again: LOST clears (R306). -/
def markersBack (b : Block) : Block :=
  { b with bal := { b.bal with lost := b.bal.lost.filter (unreachable b) } }

/-- HOP_BREAK (R318, R319): a direction of hop `h` is declared broken, and with it the other; `errs` code violations were seen on it. Segments of a point that has ended and is not
yet received cross the failed-over ring (R186). A broken hop that loses lock again has to train anew (R323). -/
def hopBreak (h : Nat) (up : Bool) (errs : Nat) (b : Block) : Block :=
  if hopBroken b h then putHop h { hopOf b h with upLock := false, downLock := false } b else
  let b := collectForgive b
  let b := addF (if up then F.BW_HOP_ERR_UP h else F.BW_HOP_ERR_DOWN h) errs b
  let b := when (brokenHops b).isEmpty (fun b => { b with bw := { b.bw with spans := ((devF b, devF b) :: b.bw.spans).take 8 } }) b
  let b := { b with imp := { b.imp with due := b.imp.due.map fun p => { p with sweep := { p.sweep with rerouted := true } } } }
  let b := putHop h { upBroken := true, downBroken := true, since := devF b } { b with bw := { b.bw with breakFrame := some (devF b) } }
  let b := count 0x30 1 {} (addF F.BW_EVT_CNT_BREAKS 1 (setR R.BW_LAST_BREAK (w32 (frame b)) b))
  ringLevels (fineAbort b)

/-- At a chain tick the supervisor trains each broken hop that has no lock (R323): both directions lock at once, and their error-free frames count from this tick, but for a hop next
to a tier without supply. DESIGN CHOICE (log entry 18): the block has no command for the outcome of a training; one that fails is a HOP_BREAK of the hop after its tick. -/
def hopTrain (b : Block) : Block :=
  if frame b % 20 ≠ 0 then b else
  each ((brokenHops b).filter fun h => !((hopOf b h).upLock && (hopOf b h).downLock) && !b.pwr.supplyLost.any fun t => decide (t = h ∨ t + 1 = h))
    (fun h b => putHop h { hopOf b h with upLock := true, downLock := true, since := devF b } b) b

/-- Errors in ERR_N consecutive frames on one direction declare hop `h` broken (R318). -/
def errBreak (h : Nat) (b : Block) : Block :=
  let n := max 1 (getF b F.BW_CTL_ERR_N)
  let at_ := fun (x : Nat × Nat) => x.1 == devF b + 1 && decide (n ≤ x.2)
  let x := hopOf b h
  if at_ x.upErr then hopBreak h true 0 b else if at_ x.downErr then hopBreak h false 0 b else b

/-- The samples of a tier's block of the last frame reach its demodulators (R183), where samples out of range spoil results (R191), and, on tier 0, the ripple capture (R275). -/
def rawTaken (t : Nat) (k : TierBlock) (b : Block) : Block :=
  let at_ := fun ch => k.samples.getD (if ch < 192 then ch - 12 * t else 12 + (ch - 192)) []
  let b := each (tierChans t) (fun ch => spoilRange (devF b - 1) ch (at_ ch)) b
  let c := demodIn t (devF b - 1) k.samples b
  if t = 0 then rippleIn (devF c - 1) k.samples c else c

/-- TIER_RESULT_BLOCK: the tier's demodulators take in the samples as well (R183), and a block with errors on its way may be the last that ERR_N allows (R318). -/
def blockArrives (t : Nat) (k : TierBlock) (b : Block) : Block :=
  let first := tierSends b t && !b.fe.blocks.contains t && (filtOf b t).stop != devF b
  each (List.range 17) errBreak (tierBlock t k (when first (rawTaken t k) b))

/-- The eight 16-bit entries of each of the 144 macros of a repair record: VALID and the failed row (R487). -/
def repairEntries (rows : List (Nat × Nat)) : List Nat :=
  let of := fun (m : Nat) => (rows.filter fun x => x.1 == m).map fun x => 32768 + x.2 % 512
  (List.range 144).flatMap fun m => (of m ++ List.replicate 8 0).take 8

/-- The CRC of a copy of the repair record (R103, R487): over the sequence number and the entries, least significant bytes first, macro by macro. DESIGN CHOICE: the
rule gives no place to either (log entry 42). -/
def repairCrc (seq : Nat) (rows : List (Nat × Nat)) : Nat :=
  crc32 (bytesOfWord (w32 seq) ++ (repairEntries rows).flatMap fun e => [e % 256, e / 256])

/-- The repair copy in use (R104, R487). -/
def repairPick (cs : List (Option RepairCopy)) : Option Nat :=
  let valid := fun i => ((cs.getD i none).filter fun c => decide (c.crc = repairCrc c.seq c.rows)).map (·.seq)
  match valid 0, valid 1 with
  | some x, some y => if seqNewer y x then some 1 else some 0
  | some _, none => some 0
  | none, some _ => some 1
  | none, none => none

/-- The rows that the repair record names. -/
def repairRows (cs : List (Option RepairCopy)) : List (Nat × Nat) := (((repairPick cs).bind fun i => cs.getD i none).map (·.rows)).getD []

/-- At every enumeration of a tier its repair record is loaded into it again (R480): rows of its own macros that no record holds are lost. -/
def repairLoad (ts : List Nat) (b : Block) : Block :=
  let mine := fun (x : Nat × Nat) => decide (48 ≤ x.1) && ts.contains ((x.1 - 48) / 6)
  if !b.bist.repairs.any mine then b else
  { b with bist := { b.bist with repairs := b.bist.repairs.filter (fun x => !mine x) ++ (repairRows b.bist.copies).filter mine } }

/-- The tiers that take a number (R317). -/
def takers (e : EnumResult) : List Nat := (List.range 16).filter fun t => decide (t < e.foot.val) || decide (16 ≤ t + e.head.val)

/-- The identifiers and numbers of an enumeration (R317): hops that carried a token are in service, the hop at which a token stopped is broken, every identifier is
compared with the factory record, and BW_ENUM shows the mismatches. -/
def enumerate (e : EnumResult) (b : Block) : Block :=
  let foot := e.foot.val
  let head := e.head.val
  let taken := takers e
  let bad := taken.filter fun t => e.ids.getD t 0 != b.dieIds.getD t 0
  let b := { b with bw := { b.bw with taken := taken, numbered := taken.filter fun t => !bad.contains t } }
  let good := (List.range 17).filter fun h => if foot = 16 then true else decide (h < foot) || decide (17 ≤ h + head)
  let b := each good (fun h => putHop h { upLock := true, downLock := true, since := (hopOf b h).since }) b
  let b := when (foot != 16) (fun b => hopBreak (16 - head) false 0 (hopBreak foot true 0 b)) b
  let b := each (List.range 16) (fun t b =>
    let got := taken.contains t
    let b := setR (R.BW_TIER_ID t) (if got then e.ids.getD t 0 else w32 (Config.unstated 55 [t])) b
    putF (F.BW_TIER_ENUM_NUMBERED t) got (putF (F.BW_TIER_ENUM_FROM_HEAD t) (got && decide (foot ≤ t)) (putF (F.BW_TIER_ENUM_ID_OK t) (got && !bad.contains t) b))) b
  let b := when (!bad.isEmpty || condOf b Slot.bwEnum != {}) (setLevel Slot.bwEnum (!bad.isEmpty) (tierBits bad)) b
  headSwitch (markersBack (ringLevels b))

/-- What an enumeration finds where nothing outside says otherwise: the hops as they stand, the identifiers as last reported (log entry 18). -/
def sameRing (b : Block) : EnumResult :=
  let foot := (brokenHops b).foldl min 16
  let top := (brokenHops b).foldl max 0
  let head := if (brokenHops b).isEmpty then 0 else 16 - top
  { foot := Fin.ofNat 17 foot
    head := Fin.ofNat 17 (min head (16 - foot))
    ids := (List.range 16).map fun t => getR b (R.BW_TIER_ID t) }

/-- An enumeration ends: its results hold, and the tiers enumerated are to be aligned (R317, R523). -/
def enumEnd (e : EnumResult) (b : Block) : Block := alignTiers (takers e) (repairLoad (takers e) (enumerate e { b with bw := { b.bw with enumRun := none } }))

/-- At a frame tick an enumeration whose millisecond is over ends. -/
def enumTick (b : Block) : Block :=
  match b.bw.enumRun with
  | some (d, e) => if d ≤ devF b then enumEnd e b else b
  | none => b

/-- BW_CTL.REENUM = 1 (R317, R523): every tier is enumerated and then aligned, and delivers NODATA until then. Where the foot token does not reach the head port, the head
token follows 1 ms later, so that the enumeration ends within the twentieth frame after, and the next tick finds it ended (log entry 18). A sequence of alignments that waits or runs gives way. -/
def reenum (e : Option EnumResult) (b : Block) : Block :=
  let e := e.getD (sameRing b)
  let b := { b with fe := { b.fe with align := [] } }
  if e.foot.val = 16 then enumEnd e b
  else when ((takers e).length == 16) (setF F.FE_STATUS_ALIGN_VALID 0) { b with bw := { b.bw with enumRun := some (devF b + 21, e) } }

/-- A write of BW_CTL (R325). -/
def writeBwCtl (v : Word) (e : Option EnumResult) (b : Block) : Block :=
  let b := writeBits R.BW_CTL v b
  let b := when (bitOf v.toNat 1)
    (fun b => each (List.range 17) (fun h b => setR (R.BW_HOP_ERR h) 0 (setR (R.BW_HOP_CRC h) 0 b)) (setR R.BW_EVT_CNT 0 b)) b
  when (bitOf v.toNat 0) (reenum e) b

/-- The identifiers of tiers that are enumerated again by their position (R317, R323). -/
def renumber (ts : List Nat) (ids : List Word) (b : Block) : Block :=
  let bad := ts.filter fun t => ids.getD t 0 != b.dieIds.getD t 0
  let keep := fun (l : List Nat) => l.filter fun t => !ts.contains t
  let b := { b with bw := { b.bw with taken := keep b.bw.taken ++ ts, numbered := keep b.bw.numbered ++ ts.filter fun t => !bad.contains t } }
  let b := each ts (fun t b =>
    setR (R.BW_TIER_ID t) (ids.getD t 0) (setF (F.BW_TIER_ENUM_NUMBERED t) 1 (putF (F.BW_TIER_ENUM_FROM_HEAD t) (fromHead b t) (putF (F.BW_TIER_ENUM_ID_OK t) (!bad.contains t) b)))) b
  let all := b.bw.taken.filter fun t => !b.bw.numbered.contains t
  when (!all.isEmpty || condOf b Slot.bwEnum != {}) (setLevel Slot.bwEnum (!all.isEmpty) (tierBits all)) b

/-- HOP_RESTORE (R323): at a chain tick a hop that has trained in both directions and carried its error-free frames since is in service again; tiers that were out of reach for more than
four frames are re-enumerated, with the identifiers `ids`, and aligned. A hop next to a stopped tier cannot train. -/
def hopRestore (h : Nat) (ids : List Word) (b : Block) : Block :=
  let x := hopOf b h
  let lost := b.pwr.supplyLost.any fun t => decide (t = h ∨ t + 1 = h)
  if !framesRun b || frame b % 20 ≠ 0 || !hopBroken b h || lost || !(x.upLock && x.downLock) || devF b < x.since + max 100 (getF b F.BW_CTL_RESTORE) then b else
  let far := (b.bw.unreach.filter fun u => decide (u.2 + 4 < devF b)).map (·.1)
  let b := putHop h { upLock := true, downLock := true, since := x.since } b
  let back := far.filter fun t => reachable b t
  let b := when (!back.isEmpty) (fun b => alignTiers back (repairLoad back (renumber back ids b))) b
  let b := when (brokenHops b).isEmpty (fun b => { b with bw := { b.bw with spans := spanTo (devF b - 1) b.bw.spans } }) b
  let b := when (!reversed b) (addF F.BW_EVT_CNT_RESTORES 1) b
  headSwitch (markersBack (ringLevels b))

/-- TIER_MARKER_LOSS (R306, R322): a powered tier that has had no marker for four frames opens its FETs and clears its timers, and LOST sets. -/
def markerLoss (t : Nat) (b : Block) : Block :=
  match b.bw.unreach.find? (·.1 == t) with
  | some (_, d) =>
    if devF b < d + 4 || b.bal.lost.contains t || b.pwr.supplyLost.contains t then b
    else tierOff t { b with bal := { b.bal with lost := addOnce t b.bal.lost } }
  | none => b

/-- The gates of tier `t` stay as they were before this frame's control block (R315); the next one brings them. -/
def gatesMissed (t : Nat) (b : Block) : Block :=
  each (b.bal.prior.filter fun x => tierOf x.1 == t) (fun x b =>
    putBal x.1 { balOf b x.1 with cmdOn := x.2.cmdOn, onFrom := x.2.onFrom, offFrom := x.2.offFrom, edges := x.2.edges } b) b

/-- The supervisor has confirmed the blocks of tier `t` that it received whole (R319). -/
def ackBlocks (t : Nat) (b : Block) : Block :=
  if sramOf b t = [] then b else { b with fe := { b.fe with sram := mapPut (fun _ => []) b.fe.sram t ((sramOf b t).filter fun x => !x.whole) } }

/-- CONTROL_BLOCK (R315, R319): tier `t` receives the control block of this frame, or misses it. A missed setting makes the frame NODATA at its end and takes effect with the
next block received, and a missed gate command leaves the gate as it was. -/
def controlBlock (t : Nat) (missed : Bool) (b : Block) : Block :=
  if !tierAvail b t then b
  else if missed then
    let b := gatesMissed t b
    if b.fe.settingAt = some (devF b) then { b with fe := { b.fe with ctlMiss := addOnce t b.fe.ctlMiss } } else b
  else
    let b := ackBlocks t b
    if b.fe.ctlMiss.contains t then tierReturn t { b with fe := { b.fe with ctlMiss := b.fe.ctlMiss.filter (· != t) } } else b

/-- TIER_SUPPLY_LOSS (R74, R322): the tier stops; hops t and t + 1 break with it. -/
def supplyLoss (t : Nat) (b : Block) : Block :=
  if b.pwr.supplyLost.contains t then b else
  let b := tierOff t { b with pwr := { b.pwr with supplyLost := addOnce t b.pwr.supplyLost } }
  let b := stringDrop t false b
  let b := fineAbort b
  if framesRun b && b.fe.started then markMiss t (devF b - 1) (hopBreak (t + 1) false 0 (hopBreak t true 0 b)) else b

/-- TIER_SUPPLY_RETURN (R74, R523): the tier is re-enumerated and aligned once its hops carry again. -/
def supplyReturn (t : Nat) (b : Block) : Block :=
  if !b.pwr.supplyLost.contains t then b else
  let b := walkNext t { b with pwr := { b.pwr with supplyLost := b.pwr.supplyLost.filter (· != t) } }
  if framesRun b && b.fe.started then alignTiers [t] b else b

/-- A block reset of the Boardwalk link retrains the broken hops (R324): their error-free frames count anew. -/
def ringRetrain (b : Block) : Block := each (brokenHops b) (fun h b => putHop h { hopOf b h with since := devF b } b) b

/-- A BW register that follows the ring (R325). -/
def bwRead (b : Block) (a : Nat) : Option Nat :=
  let bits := fun (p : Nat → Bool) => tierBits ((List.range 16).filter p)
  if a = R.BW_STATUS then
    some (bits (fun t => !unreachable b t && b.bw.numbered.contains t) * 2 ^ 16 + nat01 ((List.range 16).any (unreachable b)) * 2 ^ 15
      + nat01 (reversed b) * 2 ^ 14 + nat01 b.bw.enumRun.isSome * 2 ^ 13 + (brokenHops b).length)
  else if a = R.BW_BREAK_MAP then some ((brokenHops b).foldl (fun m h => m + 2 ^ h) 0)
  else if a = R.BW_ROUTE then some (bits b.bw.headClk.contains * 2 ^ 16 + bits (toFoot b))
  else if 0xD200 ≤ a ∧ a < 0xD310 ∧ a % 16 = 0 then
    let x := hopOf b ((a - 0xD200) / 16)
    some (nat01 x.upBroken * 8 + nat01 x.downBroken * 4 + nat01 x.upLock * 2 + nat01 x.downLock)
  else none

/-! Commands. -/

/-- BW_REENUM (R317): BW_CTL.REENUM = 1, with what the enumeration finds. -/
def execBwReenum (v : Word) (e : EnumResult) (s : State) : Host.Outcome State Fault Refusal :=
  run (fun b => if ready b then writeBwCtl (v ||| 1) (some e) b else b) s

/-- BW_CLR_CNT (R325): BW_CTL.CLR_CNT = 1. -/
def execBwClrCnt (v : Word) (s : State) : Host.Outcome State Fault Refusal :=
  run (fun b => if ready b then writeBwCtl (v ||| 2) none b else b) s

def execHopBreak (h : HopNo) (up : Bool) (errs : BitVec 16) (s : State) : Host.Outcome State Fault Refusal :=
  run (fun b => if framesRun b then hopBreak h.val up errs.toNat b else b) s

def execHopRestore (x : HopReturn) (s : State) : Host.Outcome State Fault Refusal := run (hopRestore x.hop.val x.ids) s
def execTierResultBlock (t : Tier) (k : TierBlock) (s : State) : Host.Outcome State Fault Refusal := run (inFrame (blockArrives t.val k)) s
def execTierMarkerLoss (t : Tier) (s : State) : Host.Outcome State Fault Refusal := run (inFrame (markerLoss t.val)) s
def execControlBlock (t : Tier) (missed : Bool) (s : State) : Host.Outcome State Fault Refusal := run (inFrame (controlBlock t.val missed)) s
def execTierSupplyLoss (t : Tier) (s : State) : Host.Outcome State Fault Refusal := run (supplyLoss t.val) s
def execTierSupplyReturn (t : Tier) (s : State) : Host.Outcome State Fault Refusal := run (supplyReturn t.val) s

end Sys2Proof.Machine
end

