-- ==== Sys2Proof/Machine/Bist.lean ====
section
/-! DEFINITION. Self-test and repair (R478 to R490): requests, runs and their isolation, the rolling schedule, outcomes, repairs and failure marks. -/

namespace Sys2Proof.Machine

/-! Marks and repairs (R486 to R489). -/

/-- The targets and engines of the marks that stand show in BIST_FAILED and in the sources of R489. -/
def markLevels (b : Block) : Block :=
  let has := fun t => b.bist.failed.any (·.1 == t)
  let tiers := (List.range 16).filter has
  let m := nat01 (has 0x10) + nat01 (has 0x11) * 2 + nat01 (has 0x12) * 4 + nat01 (has 0x14) * 8
  let b := setF F.BIST_FAILED_TIERS (tierBits tiers) (putF F.BIST_FAILED_APP (has 0x14) (putF F.BIST_FAILED_MEM (has 0x12)
    (putF F.BIST_FAILED_DMA (has 0x11) (putF F.BIST_FAILED_FEN (has 0x10) b))))
  let b := each (List.range 16) (fun t b =>
    let d := nat01 (b.bist.failed.contains (t, 1)) + nat01 (b.bist.failed.contains (t, 3)) * 2
    if d = 0 ∧ condOf b (Slot.bistTier t) = {} then b else setLevel (Slot.bistTier t) (d != 0) d b) b
  if m = 0 ∧ condOf b Slot.bistBlock = {} then b else setLevel Slot.bistBlock (m != 0) m b

/-- A target is marked failed by an engine (R488): without the Fen engine, or its memory, every estimate is invalid; without the memory die staging is unavailable. -/
def markFail (target engine : Nat) (b : Block) : Block :=
  when (target == 0x12) stageLost <| when (target == 0x10 || target == 0x12) estimatesInvalid
    (markLevels { b with bist := { b.bist with failed := addOnce (target, engine) b.bist.failed } })

/-- A target's mark by an engine ends. -/
def markPass (target engine : Nat) (b : Block) : Block :=
  markLevels { b with bist := { b.bist with failed := b.bist.failed.filter (· != (target, engine)) } }

/-- Spare rows in use in macro `m`. -/
def sparesUsed (rs : List (Nat × Nat)) (m : Nat) : Nat := (rs.filter (·.1 == m)).length

/-- Every failing row lies in a macro with enough spare rows left (R485). -/
def repairable (b : Block) (r : TestResult) : Bool :=
  r.engine.toNat == 1 && r.target.toNat != 0x12 && !r.rows.isEmpty &&
    r.rows.all fun x => decide (sparesUsed b.bist.repairs x.1 + (r.rows.filter (·.1 == x.1)).length ≤ 8)

/-- The repairs are applied and recorded (R486, R487): the copy not in use is written with the next sequence number, after its mark of validity is taken away, and copy 1 first where none is valid (R105);
one that fails its read-back stays invalid and raises SL_NVSTORE. -/
def repair (r : TestResult) (b : Block) : Block :=
  let all := b.bist.repairs ++ r.rows
  let i := (repairPick b.bist.copies).getD 0
  let seq := match repairPick b.bist.copies with
    | some i => (((b.bist.copies.getD i none).map (·.seq)).getD 0 + 1) % 2 ^ 32
    | none => 1
  let new := if r.recFail then none else some ⟨seq, all, repairCrc seq all⟩
  let b := { b with bist := { b.bist with repairs := all, copies := b.bist.copies.set (1 - i) new } }
  when r.recFail (detectOnce Slot.nvstore 0) b

/-- RESULT of a complete run (R485). -/
def testCode (b : Block) (r : TestResult) : Nat := if !r.fail then 1 else if repairable b r then 2 else 3

/-- The failure registers (R490). -/
def failRegs (addr row bit count : Nat) (b : Block) : Block :=
  setR R.BIST_FAIL_COUNT (w32 count) (setF F.BIST_FAIL_BIT_ROW row (setF F.BIST_FAIL_BIT_BIT bit (setR R.BIST_FAIL_ADDR (w32 addr) b)))

/-! Requests (R483, R484). -/

/-- The engines of a target for a host-started run (R478). -/
def hostEngines (target : Nat) : List Nat :=
  if target < 16 then [1, 3] else if target = 0x10 then [1, 2] else if target = 0x11 then [2] else if target = 0x12 then [1] else []

/-- Frames a run lasts; the full march lasts at most 10,000. -/
def testFrames (target engine : Nat) : Nat :=
  if target < 16 then (if engine = 1 then 80 else 40) else if target = 0x10 then (if engine = 2 then 400 else 200) else if target = 0x11 then 40 else 0

/-- R479: the full march is refused while an image is in force or on its way. -/
def marchBarred (b : Block) : Bool := isF b F.FEN_STATUS_IMG_VALID || [5, 6].contains (imgState b)

/-- A request, from the register or as a command of ring `q` (R483). -/
def bistAsk (target engine : Nat) (q : Option Nat) (b : Block) : Block :=
  let reply := fun st det b => match q with
    | some q => finish q st det 0 0 b
    | none => b
  let refuse := fun (b : Block) =>
    let b := setF F.BIST_STATUS_RESULT 5 b
    match q with
    | some q => finish q St.failed 5 (getR b R.BIST_FAIL_COUNT).toNat (getR b R.BIST_FAIL_ADDR).toNat b
    | none => b
  if lifeIs b .field || lifeIs b .retired then (if q.isSome then reply St.notPermitted 0 b else refuse b)
  else if b.bist.host.isSome || b.bist.request.isSome then reply St.busy 0 b
  else if b.bist.rolling.any (fun r => r.target == target) then reply St.busyBist 0 b
  else if !(hostEngines target).contains engine || (target == 0x12 && marchBarred b) then refuse b
  else
    let b := { b with bist := { b.bist with request := some (target, engine) } }
    match q with
    | some q => waitOn q .bistRun b
    | none => b

/-- A write of BIST_CTL (R483, R485): ABORT ends the run that is in progress. -/
def writeBistCtl (v : Word) (b : Block) : Block :=
  let b := writeBits R.BIST_CTL v b
  let b := when (bitOf v.toNat 1 && b.bist.host.isSome) (fun b => { b with bist := { b.bist with abortReq := true } }) b
  when (bitOf v.toNat 0) (bistAsk (bitsOf v.toNat 16 8) (bitsOf v.toNat 28 4) none) b

/-! Runs (R478, R479, R482). -/

/-- The full march overwrites capture, spill, both parameter copies and the Fen state (R479). -/
def marchStart (b : Block) : Block :=
  let b := each (List.range 32) (fun s b =>
    let n := (srOf b s).spill.length
    if n = 0 then b else srDrop s n (putSr s { srOf b s with spill := [] } b)) b
  { b with fen := { b.fen with image := [], cells := [], fresh := true, own := [], other := [], halves := ({}, {}), fast := [] } }

/-- After the march every capture ring is empty and a valid mark is lost (R446, R479). -/
def marchEnd (b : Block) : Block :=
  each (List.range 8) (fun r b =>
    let x := ringOf b r
    if x = {} then b else
    let b := setR (R.CAP_OLDEST r) (getR b (R.CAP_WR r)) (putRing r { x with recs := [] } b)
    when (isF b (F.CAP_RSTAT_MARK_VALID r)) (capLoseMark r) b) b

/-- A target is isolated (R478, R482): under MBIST a tier's undelivered results are lost. -/
def isolate (target engine : Nat) (b : Block) : Block :=
  if target < 16 then
    let b := spoil (tierCells target) (devF b) b
    if engine = 1 then spoil (tierCells target) 0 (putString target { stringOf b target with due := [] } b) else b
  else if target = 0x12 then marchStart b else b

/-- The block is re-initialised and resumes service (R478, R482). -/
def resume (target : Nat) (b : Block) : Block :=
  if target < 16 then tierReturn target b else if target = 0x12 then marchEnd b else b

/-- BIST_RUN_START (R483): a request that waits starts at the frame tick; the engine's at the first tick with no step in progress. In a
PARK entry none starts, as the entry ends every run (R485). -/
def bistStart (b : Block) : Block :=
  match b.bist.request with
  | none => b
  | some (target, engine) =>
    if !serves b || (target = 0x10 && b.fen.step.isSome) then b else
    let b := { b with bist := { b.bist with request := none, host := some ⟨target, engine, devF b⟩ } }
    let b := setF F.BIST_STATUS_STATE 1 (setF F.BIST_STATUS_TARGET target (setF F.BIST_STATUS_ENGINE engine (setF F.BIST_STATUS_RESULT 0 b)))
    isolate target engine b

/-- The host-started run ends with its STATE and RESULT; its command completes. -/
def hostEnd (state result : Nat) (r : BistRun) (b : Block) : Block :=
  let b := setF F.BIST_STATUS_STATE state (setF F.BIST_STATUS_RESULT result b)
  let b := resume r.target { b with bist := { b.bist with host := none, abortReq := false } }
  finishAll (· == .bistRun) (fun q b =>
    finish q (if state = 2 ∧ result = 1 then St.done else St.failed) result (getR b R.BIST_FAIL_COUNT).toNat (getR b R.BIST_FAIL_ADDR).toNat b) b

/-- A run is cut short (R485): BIST_ABORT, and nothing is known of what it had found. -/
def hostAbort (r : BistRun) (b : Block) : Block :=
  let got := fresh b
  let a := got.1
  let b := got.2
  let got := fresh b
  let c := got.1
  let b := got.2
  let got := fresh b
  let d := got.1
  let b := got.2
  let got := fresh b
  let g := got.1
  let b := got.2
  let b := failRegs a d (d / 2 ^ 16) c b
  let b := when (r.engine == 2) (setR R.BIST_SIG (w32 g)) b
  hostEnd 3 4 r (pulse Slot.bistAbort 1 b)

/-- The rolling run ends; the next tier's turn follows. -/
def rollNext (r : BistRun) (b : Block) : Block :=
  resume r.target { b with bist := { b.bist with rolling := none, again := false, tier := (r.target + 1) % 16 } }

/-- A cause that cuts a tier's run short holds: its supply is lost or it cannot be reached. -/
def tierCut (b : Block) (target : Nat) : Bool := decide (target < 16) && (b.pwr.supplyLost.contains target || unreachable b target)

/-- Runs cut short end at the frame tick (R485): an abort was asked for, or the tier is gone. `all`: every run ends (PARK entry). -/
def bistCut (all : Bool) (b : Block) : Block :=
  let b := match b.bist.host with
    | some r => if all || b.bist.abortReq || tierCut b r.target then hostAbort r b else b
    | none => b
  match b.bist.rolling with
  | some r => if all || tierCut b r.target then rollNext r (pulse Slot.bistAbort 2 b) else b
  | none => b

/-- Frames between tier tests (R481, R490). -/
def rollPeriod (b : Block) : Nat := 20000 * min 3600 (max 10 (getF b F.BIST_ROLL_PERIOD))

/-- BIST_ROLL.EN as it acts: 1 in FIELD (R481). -/
def rollOn (b : Block) : Bool := lifeIs b .field || isF b F.BIST_ROLL_EN

/-- ROLLING_ABIST_START (R481): a due test, or the repeat of one that failed, starts at a chain tick at which its conditions hold. -/
def rollStart (b : Block) : Block :=
  let t := b.bist.tier
  let under := fun (r : Option BistRun) => r.any fun r => decide (r.target < 16)
  let imp := b.imp.sweep.any fun w => w.cells.any fun n => tierOf n == t
  if !serves b || frame b % 20 ≠ 0 || lifeIs b .retired || !rollOn b || !(b.bist.again || decide (b.bist.nextDue ≤ devF b)) || under b.bist.host ||
    b.bist.rolling.isSome || imp || b.fe.fineFrom.isSome || (b.fe.align.any fun a => a.start.isSome) then b
  else
    let due := if b.bist.again then b.bist.nextDue else devF b + rollPeriod b
    isolate t 3 { b with bist := { b.bist with rolling := some ⟨t, 3, devF b⟩, nextDue := due } }

/-- A run that has lasted its time. -/
def runOver (b : Block) (r : BistRun) : Bool := decide (r.start + max 1 (testFrames r.target r.engine) ≤ devF b)

/-- BIST_RUN_END (R485): a run that reached its terminal count ends COMPLETE with its result. -/
def bistEnd (x : TestResult) (b : Block) : Block :=
  let is := fun (r : BistRun) => r.target == x.target.toNat && r.engine == x.engine.toNat && runOver b r
  let code := testCode b x
  let regs := fun b => if x.fail then failRegs x.addr.toNat x.row.toNat x.bit.toNat x.count.toNat b else failRegs 0 0 0 0 b
  match b.bist.host.filter is with
  | some r =>
    let b := regs (when (r.engine == 2) (setR R.BIST_SIG x.sig) b)
    let b := if code = 1 then markPass r.target r.engine b else if code = 2 then repair x b else markFail r.target r.engine b
    hostEnd 2 code r b
  | none =>
    match b.bist.rolling.filter is with
    | none => b
    | some r =>
      if !x.fail then rollNext r b
      else
        let b := regs b
        if b.bist.again then rollNext r (markFail r.target 3 b)
        else resume r.target { b with bist := { b.bist with rolling := none, again := true } }

/-- A BIST register that follows the runs (R490). -/
def bistRead (b : Block) (a : Nat) : Option Nat :=
  if a = R.BIST_STATUS then
    some ((getR b a).toNat % 2 ^ 24 + nat01 b.bist.rolling.isSome * 2 ^ 29 + b.bist.tier * 2 ^ 24 + getF b F.BIST_STATUS_STATE * 2 ^ 30)
  else if a = R.BIST_ROLL then some (nat01 (rollOn b) * 2 ^ 31 + getF b F.BIST_ROLL_PERIOD)
  else if a = R.BIST_REPAIR then
    let rs := b.bist.repairs
    some (rs.length * 2 ^ 16 + ((List.range 144).filter fun m => decide (8 ≤ sparesUsed rs m)).length * 2 ^ 8 + nat01 (repairPick b.bist.copies).isSome)
  else none

/-- A write of BIST_ROLL: EN is not written in FIELD. -/
def writeBistRoll (v : Word) (b : Block) : Block :=
  if lifeIs b .field then setF F.BIST_ROLL_PERIOD (v.toNat % 2 ^ 16) b else writeBits R.BIST_ROLL v b

/-! Commands. -/

/-- BIST_RUN (R483, R402): P0 is laid out as BIST_CTL bits [31:1]; its ABORT bit acts as the register's. -/
def execBistRun (q : Fin 16) (d : Desc) (s : State) : Host.Outcome State Fault Refusal :=
  run (startCmd q.val 0x08 d (d.p0.toNat &&& 0x0F00FFFD != 0 || d.addr != 0 || !tail0 d) false
    (fun b =>
      let b := when (bitOf d.p0.toNat 1 && b.bist.host.isSome) (fun b => { b with bist := { b.bist with abortReq := true } }) b
      bistAsk (bitsOf d.p0.toNat 16 8) (bitsOf d.p0.toNat 28 4) (some q.val) b)) s

/-- BIST_CTL_RUN (R483): BIST_CTL.RUN = 1. -/
def execBistCtlRun (v : Word) (s : State) : Host.Outcome State Fault Refusal := run (fun b => if ready b then writeBistCtl (v ||| 1) b else b) s

/-- BIST_CTL_ABORT (R485): BIST_CTL.ABORT = 1. -/
def execBistCtlAbort (v : Word) (s : State) : Host.Outcome State Fault Refusal := run (fun b => if ready b then writeBistCtl (v ||| 2) b else b) s

def execBistRunStart (s : State) : Host.Outcome State Fault Refusal := run bistStart s
def execBistRunEnd (x : TestResult) (s : State) : Host.Outcome State Fault Refusal := run (inFrame (bistEnd x)) s
def execRollingAbistStart (s : State) : Host.Outcome State Fault Refusal := run rollStart s

end Sys2Proof.Machine
end

