-- ==== Sys2Proof/Machine/Endpoint.lean ====
section
/-! DEFINITION. The PCIe endpoint (R384 to R417): resets, configuration requests, suspension of DMA, ring enabling, doorbell page, status page, vectors, device
and host time, the HST registers, and the commands of the family but for those that access registers. -/

namespace Sys2Proof.Machine

/-- Traffic on the link ends L1 (R386). -/
def traffic (b : Block) : Block := setF F.HST_LINK_L1 0 b

/-- The endpoint takes accesses of the host, from the end of a reset on (R83): active, out of reset, its link up. -/
def pcieUp (b : Block) : Bool := pcieActive b && b.hst.linkUp && !b.hst.inReset && awake b

/-- The PTM context is valid (R411). -/
def ptmValid (b : Block) : Bool := b.hst.ptm && b.hst.linkUp && !b.hst.d3hot

/-! Resets of the endpoint (R76, R413). -/

/-- No command of a submission ring is waited for any more: what a command asked for goes on, its completion does not. -/
def forgetRings (b : Block) : Block :=
  { b with
    pol := { b.pol with wait := b.pol.wait.map fun o => { o with ring := none } }
    imp := { b.imp with host := b.imp.host.map fun x => (x.1, none) }
    fw := { b.fw with job := b.fw.job.map fun j => { j with ring := none } }
    fen := { b.fen with load := b.fen.load.map fun x => (none, x.2) } }

/-- Every HST register at its reset value, every ring disabled, the spill discarded, the PTM context ended, completions of started commands discarded. -/
def hstReset (b0 : Block) : Block :=
  let b := forgetRings b0
  { b with regs := b.regs.filter (fun x => !decide (0x2000 ≤ x.1 ∧ x.1 < 0x3000))
           hst := { linkUp := b.hst.linkUp, inReset := b.hst.inReset, perstAt := b.hst.perstAt, summary := b.hst.summary, pageAt := b.hst.pageAt } }

/-- PERST_N low (R413): the endpoint is held in reset and its link is down. -/
def perstReset (b : Block) : Block :=
  let b := hstReset b
  { b with pins := { b.pins with perstN := false }, hst := { b.hst with linkUp := false, inReset := true } }

/-- A Function Level Reset (R413) leaves the link up. -/
def functionReset (b : Block) : Block :=
  let link := getR b R.HST_LINK
  setF F.HST_LINK_L1 0 (setR R.HST_LINK link (hstReset b))

/-! Configuration space (R83, R385). -/

/-- A dword of configuration space: the values R385 states, in a layout that the PCI Express Base Specification leaves to the part (PRESUMED, log entry 49): PM at 0x40,
MSI-X at 0x50, PCI Express at 0x60, AER at 0x100, the serial number at 0x148, PTM at 0x158. What R385 does not state is as the part has it (log entry 6). -/
def configDword (b : Block) (offset : Nat) : Word :=
  let open_ := fun n => Config.unstated 56 [offset / 4] % n
  match offset / 4 with
  | 0 => 0x19161F2E
  | 1 => w32 (0x00100000 + nat01 b.hst.bme * 4 + open_ 4)
  | 2 => w32 (0x11800000 + open_ 256)
  | 3 => w32 (open_ 65536)
  | 4 => w32 ((b.hst.bars.getD 0 0).toNat + 4)
  | 5 => b.hst.bars.getD 1 0
  | 6 => w32 ((b.hst.bars.getD 2 0).toNat + 4)
  | 7 => b.hst.bars.getD 3 0
  | 8 | 9 => 0
  | 11 => 0x00011F2E
  | 13 => 0x40
  | 15 => w32 (open_ 256)
  | 16 => 0x00035001
  | 17 => w32 (nat01 b.hst.d3hot * 3)
  | 20 => w32 (0x001F6011 + nat01 b.hst.msixMask * 2 ^ 30 + nat01 b.hst.msixEn * 2 ^ 31)
  | 21 => 0x2800
  | 22 => 0x2C00
  | 24 => 0x00020010
  | 25 => 0x10008021
  | 27 => w32 (0x00000823 + open_ (2 ^ 19) / 4096 * 4096)
  | 28 => w32 (getF b F.HST_LINK_SPEED * 2 ^ 16 + getF b F.HST_LINK_WIDTH * 2 ^ 20)
  | 64 => 0x14820001
  | 82 => 0x15810003
  | 83 => w32 (Config.unstated 58 [])
  | 84 => getR b R.GEN_DEVID
  | 86 => 0x0001001F
  | 87 => 1
  | 88 => w32 (nat01 b.hst.ptm)
  | k => w32 (Config.unstated 56 [k])

/-- BAR `i` takes what the host writes: Window A is 1 MiB and Window B 64 KiB, and the low bits of a base are hard-wired (R385). -/
def barWrite (i : Nat) (v : Word) (b : Block) : Block :=
  let w := if i = 0 then v &&& 0xFFF00000 else if i = 2 then v &&& 0xFFFF0000 else v
  { b with hst := { b.hst with bars := b.hst.bars.set i w } }

/-- 100 ms have passed since the later of PERST_N's rise and the end of the reset (R83), which lies `lockUs` before timestamp 0 (R77; log entry 48). -/
def configAnswers (b : Block) : Bool :=
  decide (b.hst.perstAt + 2000 ≤ devF b || (b.hst.perstAt == 0 && decide (100000 ≤ 50 * devF b + b.clock.lockUs)))

/-- A configuration request (R83): unanswered in reset and within 100 ms of the later of PERST_N's rise and the end of the reset, retry status until the firmware is
verified, else as asked. -/
def configRequest (r : CfgRequest) (b : Block) : Block :=
  if !pcieUp b || !configAnswers b then b
  else if !b.pwr.fwReady then emitOut (.pcieConfig true 0) b
  else
    match r with
    | .read o => emitOut (.pcieConfig false (configDword b o.toNat)) b
    | .busMaster on => emitOut (.pcieConfig false 0) (resumeAfter (fun b => { b with hst := { b.hst with bme := on } }) b)
    | .msix en m => emitOut (.pcieConfig false 0) { b with hst := { b.hst with msixEn := en, msixMask := m } }
    | .power d3 => emitOut (.pcieConfig false 0) (resumeAfter (fun b => { b with hst := { b.hst with d3hot := d3 } }) b)
    | .ptm on => emitOut (.pcieConfig false 0) { b with hst := { b.hst with ptm := on } }
    | .aspmL1 enter => putF F.HST_LINK_L1 enter b
    | .bar i v => emitOut (.pcieConfig false 0) (barWrite i.val v b)

/-! Suspension of DMA (R414). -/

/-- A cause of suspension begins or ends; in reset, OFF and a complete PARK the PCIe lands are idle and ignored (R50, R90). -/
def suspend (c : SuspendCause) (on : Bool) (b : Block) : Block :=
  if b.hst.inReset || !pcieActive b || !awake b then b else
  resumeAfter (fun b => match c with
    | .linkDown => { b with hst := { b.hst with linkUp := !on } }
    | .busMaster => { b with hst := { b.hst with bme := !on } }
    | .d3hot => { b with hst := { b.hst with d3hot := on } }) b

/-- The data a suspension held back are written once DMA works (R414). -/
def lateWrites (b : Block) : Block :=
  if dmaOff b then b else each b.hst.late (fun x b => emitOut (.dma x.1 x.2) b) { b with hst := { b.hst with late := [] } }

/-- At the first frame tick after a suspension DMA works again, data held back are written, and a pending vector 0 is sent (R414). -/
def resendVec0 (b : Block) : Block :=
  let b := lateWrites { b with hst := { b.hst with resuming := false } }
  when b.hst.vec0Pend sendVec0 b

/-! Rings (R391, R392). -/

/-- A 64-bit base from its two registers: 4 KiB aligned. -/
def baseOf (b : Block) (lo hi : Nat) : Nat := (getR b lo).toNat / 4096 * 4096 + (getR b hi).toNat * 2 ^ 32

/-- Submission ring `q` at a frame tick. -/
def sqTick (q : Nat) (b : Block) : Block :=
  let x := sqOf b q
  let want := isF b (F.HST_SQ_CTL_EN q)
  if want = x.en then b
  else if want then
    setR (R.HST_SQ_STATUS q) 0 (putSq q { en := true, base := baseOf b (R.HST_SQ_BASE_LO q) (R.HST_SQ_BASE_HI q), running := x.running } b)
  else putSq q { running := x.running } b

/-- Completion ring `c` at a frame tick; disabling it discards the completions that wait. -/
def cqTick (c : Nat) (b : Block) : Block :=
  let x := cqOf b c
  let want := isF b (F.HST_CQ_CTL_EN c)
  if want = x.en then b
  else if want then
    setR (R.HST_CQ_STATUS c) 0 (putCq c { en := true, base := baseOf b (R.HST_CQ_BASE_LO c) (R.HST_CQ_BASE_HI c) } b)
  else putCq c {} (each x.waiting (fun e b => putSq e.sq { sqOf b e.sq with running := none } b) b)

/-- Stream ring `s` at a frame tick: TYPES and DECIM apply; disabling it discards and counts its spill. -/
def srTick (s : Nat) (b : Block) : Block :=
  let x := srOf b s
  let want := isF b (F.HST_SR_CTL_EN s)
  let types := getF b (F.HST_SR_CTL_TYPES s)
  let decim := getF b (F.HST_SR_CTL_DECIM s)
  if want && !x.en then
    setR (R.HST_DROP s) 0 (setR (R.HST_SR_STATUS s) 0
      (putSr s { en := true, dropped := x.dropped || getR b (R.HST_DROP s) != 0, base := baseOf b (R.HST_SR_BASE_LO s) (R.HST_SR_BASE_HI s), types := types, decim := decim } b))
  else if !want && x.en then
    let b := srDrop s x.spill.length b
    putSr s { dropped := (srOf b s).dropped } b
  else if x.en then putSr s { x with types := types, decim := decim } b
  else b

/-- HST_RING_ENABLE (R392): EN of every ring and page takes effect at a frame tick. -/
def ringTick (b : Block) : Block :=
  let b := { b with hst := { b.hst with
    dbEn := isF b F.HST_DB_BASE_LO_EN, dbBase := baseOf b R.HST_DB_BASE_LO R.HST_DB_BASE_HI
    spEn := isF b F.HST_SP_BASE_LO_EN, spBase := baseOf b R.HST_SP_BASE_LO R.HST_SP_BASE_HI } }
  let b := each (List.range 16) sqTick b
  let b := each (List.range 16) cqTick b
  each (List.range 32) srTick b

/-! Doorbell page (R388, R393 to R395). -/

/-- DB_DIV as it acts. -/
def dbDiv (b : Block) : Nat := min 20 (max 1 (getF b F.HST_CTL_DB_DIV))

/-- At a frame tick: a fetch is due in every DB_DIV-th frame and in one that Window B asked for, and one that failed is repeated (R394); what an earlier stage could not do is
not due any more. -/
def fetchTick (b : Block) : Block :=
  { b with hst := { b.hst with
    fetch := frame b % dbDiv b == 0 || b.hst.fetchRetry || b.hst.ask, fetchAll := b.hst.retryAll || b.hst.askAll
    ask := false, askAll := false, fetchRetry := false, retryAll := false, chainFetch := b.hst.chainFetch || frame b % 20 == 0 } }

/-- A write to Window B asks for a fetch at the next DOORBELL stage (R388): this frame's, unless it has run, else that of the next frame. -/
def doorbellAsk (wide : Bool) (b : Block) : Block :=
  let now := b.hst.fetchAt != devF b + 1
  { b with hst := { b.hst with ask := true, askAll := b.hst.askAll || wide, fetch := b.hst.fetch || now, fetchAll := b.hst.fetchAll || (now && wide) } }

/-- A fetch that is due is abandoned and repeated with its lines at the next tick (R30, R394). -/
def fetchAgain (b : Block) : Block :=
  if b.hst.fetch || b.hst.fetchAll then { b with hst := { b.hst with fetch := false, fetchAll := false, fetchRetry := true, retryAll := b.hst.fetchAll } } else b

/-- `x` lies after `y` on the free-running 32-bit scale. -/
def later (x y : Nat) : Bool := decide (1 ≤ (x + 2 ^ 32 - y) % 2 ^ 32 ∧ (x + 2 ^ 32 - y) % 2 ^ 32 < 2 ^ 31)

/-- An index more than the size of ring `q` ahead of its started descriptors (R395). -/
def piBad (b : Block) (q v : Nat) : Bool :=
  let started := (getR b (R.HST_SQ_STATUS q)).toNat
  later v started && decide (ringEntries (getF b (F.HST_SQ_CTL_SIZE q)) < (v + 2 ^ 32 - started) % 2 ^ 32)

/-- SQ_PI of ring `q` from the fetched value and the one written to Window B, the later of them (R388); a value too far ahead is ignored (R395). -/
def takePi (q fetched : Nat) (b : Block) : Block :=
  let x := sqOf b q
  let b := putSq q { x with cand := none } b
  if !x.en then b else
  let all := fetched :: x.cand.toList
  let b := when (all.any (piBad b q)) (setF F.HST_STATUS_DB_ERR 1) b
  let pi := (all.filter fun v => !piBad b q v).foldl (fun p v => if later v p then v else p) x.pi
  putSq q { x with cand := none, pi := pi } b

/-- CQ_CI of ring `c` (R395). -/
def takeCi (c fetched : Nat) (b : Block) : Block :=
  let x := cqOf b c
  if !x.en then b
  else if later fetched (getR b (R.HST_CQ_STATUS c)).toNat then setF F.HST_STATUS_DB_ERR 1 b
  else if later fetched x.ci then putCq c { x with ci := fetched } b else b

/-- SR_RD of stream `s` (R395). -/
def takeRd (s fetched : Nat) (b : Block) : Block :=
  let x := srOf b s
  let n := srSize b s
  if !x.en then b
  else if fetched % 4 ≠ 0 ∨ n ≤ fetched ∨ (getF b (F.HST_SR_STATUS_WR s) + n - x.rd) % n < (fetched + n - x.rd) % n then setF (F.HST_SR_STATUS_BAD_RD s) 1 b
  else setF (F.HST_SR_STATUS_BAD_RD s) 0 (putSr s { x with rd := fetched } b)

/-- The fetch reads lines 1 to 3 as well (R394). -/
def fetchWide (b : Block) : Bool :=
  b.hst.chainFetch || isF b F.HST_CTL_FULL_FETCH || b.hst.fetchAll || (List.range 16).any (cqBlocked b) ||
    (List.range 32).any fun s => isF b (F.HST_SR_STATUS_BLOCKED s) || !(srOf b s).spill.isEmpty

/-- A descriptor read of ring `q` failed (R416). -/
def descFail (q : Nat) (b : Block) : Block := pulse Slot.hstDma (2 ^ q) (setF F.HST_STATUS_DMA_ERR 1 b)

/-- DOORBELL_FETCH (R394, R395): the lines as read (sixteen words each), or a failed read, repeated at the next frame; rings whose descriptor reads fail. A frame has one
DOORBELL stage, and a block reset of HST DMA has none (R416). -/
def doorbellFetch (lines : Option (List Word)) (bad : List Nat) (b : Block) : Block :=
  let wanted := (b.hst.fetch || b.hst.fetchAll) && b.hst.fetchAt != devF b + 1
  if !framesRun b || !pcieActive b || !pagesOn b || dmaOff b || hstResets b || !wanted then b else
  let b := each bad descFail (traffic { b with hst := { b.hst with fetchAt := devF b + 1, ask := false, askAll := false } })
  match lines with
  | none =>
    pulse Slot.hstDma (2 ^ 16) (setF F.HST_STATUS_DB_ERR 1 (fetchAgain b))
  | some ws =>
    let at_ := fun i => (ws.getD i 0).toNat
    let wide := fetchWide b
    let b := count 0x4C 1 {} { b with hst := { b.hst with fetch := false, fetchAll := false, chainFetch := false } }
    let b := each (List.range 16) (fun q => takePi q (at_ q)) b
    if !wide then b else
    let b := each (List.range 16) (fun c => takeCi c (at_ (16 + c))) b
    each (List.range 32) (fun s => takeRd s (at_ (32 + s))) b

/-! Status page and vectors (R389, R390, R396). -/

/-- PWR_STATE code (R107). -/
def powerCode : PowerState → Nat
  | .off => 0
  | .boot => 1
  | .run => 2
  | .standby => 3
  | .park => 4
  | .safe => 5

/-- The 64 words of the main part of the page. -/
def pageWords (b : Block) : List Word :=
  let f := frame b
  let drops := (List.range 32).foldl (fun m s => m + nat01 (srOf b s).dropped * 2 ^ s) 0
  let st := spillUsed b * 65536 + getF b F.HST_STATUS_DB_ERR * 128 + nat01 ((List.range 16).any (cqBlocked b)) * 64
    + nat01 ((List.range 32).any fun s => !(srOf b s).spill.isEmpty) * 32 + powerCode b.pwr.state
  [w32 f, w32 (f / 2 ^ 32 % 2 ^ 23), w32 b.hst.summary, w32 st, w32 drops, w32 b.hst.dropTotal, w32 b.hst.cplTotal, 0]
    ++ (List.range 16).map (fun q => getR b (R.HST_CQ_STATUS q)) ++ (List.range 32).map (fun s => w32 (getF b (F.HST_SR_STATUS_WR s)))
    ++ List.replicate 7 0 ++ [w32 f]

/-- Pending vectors 1 to 31 whose time has come are sent (R390). -/
def sendVectors (b : Block) : Block :=
  if dmaOff b || !b.hst.msixEn then b else
  each (span 1 31) (fun v b =>
    let last := (b.hst.vecLast.find? (·.1 == v)).map (·.2)
    let go := match last with
      | some d => decide (d + getF b (F.HST_VEC_MOD_FRAMES v) ≤ devF b)
      | none => true
    if !b.hst.vecPend.contains v || vecMasked b v || !go then b else
    emitOut (.msix v) { b with hst := { b.hst with vecPend := b.hst.vecPend.filter (· != v), vecLast := mapPut (fun _ => 0) b.hst.vecLast v (devF b) } }) b

/-- STATUS_PAGE_WRITE (R396): once a frame, the completions that wait, the page, the vectors. -/
def statusPage (b : Block) : Block :=
  if !framesRun b || !pcieActive b || dmaOff b || b.hst.pageAt = devF b + 1 then b else
  let b := { b with hst := { b.hst with pageAt := devF b + 1 } }
  let b := if !b.hst.spEn then b else
    let b := postAll (traffic b)
    let any := (List.range 32).any fun s => (srOf b s).dropped
    let b := when any (emitOut (.dma (b.hst.spBase + 0x100) ((List.range 32).map fun s => getR b (R.HST_DROP s)))) b
    let b := emitOut (.dma b.hst.spBase (pageWords b)) b
    when any (fun b => each (List.range 32) (fun s b => if (srOf b s).dropped then putSr s { srOf b s with dropped := false } b else b) b) b
  sendVectors b

/-! Device and host time (R411, R412). -/

/-- A pair of device timestamp and PTM time at this frame tick. -/
def ptmPair (b : Block) : Block :=
  setPair (R.HST_TIME 4) (if ptmValid b then b.clock.ptmNs else 0) (setPair (R.HST_TIME 2) b.clock.ticks b)

/-- The capture tick of every TIME_SYNC that waits (R412). -/
def timeSyncTick (b : Block) : Block :=
  let is := fun (w : CmdWait) => match w with
    | .timeSync _ _ => true
    | _ => false
  let due := (List.range 16).filterMap fun q => match (sqOf b q).running with
    | some r => match r.wait with
      | .timeSync a fail => some (q, a, fail)
      | _ => none
    | none => none
  if !(List.range 16).any (fun q => (sqOf b q).running.any fun r => is r.wait) then b else
  let b := ptmPair b
  each due (fun (q, a, fail) b =>
    let t := b.clock.ticks
    let p := if ptmValid b then b.clock.ptmNs else 0
    if a = 0 then finish q St.done 0 t (t / 2 ^ 32) b
    else dmaOut q fail a [w32 t, w32 (t / 2 ^ 32), w32 p, w32 (p / 2 ^ 32), w32 (frame b), w32 (nat01 (ptmValid b))] St.done 0 t (t / 2 ^ 32) b) b

/-- A PTM pair at every chain tick with PTM_AUTO (R411). -/
def ptmTick (b : Block) : Block := when (frame b % 20 == 0 && isF b F.HST_CTL_PTM_AUTO) ptmPair b

/-! HST registers (R417). -/

/-- Sum of the quotas. -/
def quotaSum (b : Block) : Nat := ((List.range 32).map fun s => getF b (F.HST_SR_QUOTA_QUOTA s)).sum

/-- A write of HST_SR_QUOTA[s] (R409). -/
def writeQuota (s : Nat) (v : Word) (b : Block) : Block :=
  if 512 < quotaSum b - getF b (F.HST_SR_QUOTA_QUOTA s) + v.toNat % 1024 then setF F.HST_STATUS_QUOTA_REJ 1 b
  else setF (F.HST_SR_QUOTA_QUOTA s) (v.toNat % 1024) b

/-- A write to a register of the HST block (R391, R392, R417): base, size and WRAP only while EN = 0. -/
def writeHst (a : Nat) (v : Word) (b : Block) : Block :=
  let i := fun base => (a - base) / 16
  if 0x2100 ≤ a ∧ a < 0x2200 then
    if !isF b (F.HST_SQ_CTL_EN (i 0x2100)) then writeBits a v b
    else if a % 16 = 8 then writeBits a (w32 (setBitsOf v.toNat 0 4 (getF b (F.HST_SQ_CTL_SIZE (i 0x2100))))) b else b
  else if 0x2200 ≤ a ∧ a < 0x2300 then
    if !isF b (F.HST_CQ_CTL_EN (i 0x2200)) then writeBits a v b
    else if a % 16 = 8 then writeBits a (w32 (setBitsOf v.toNat 0 4 (getF b (F.HST_CQ_CTL_SIZE (i 0x2200))))) b else b
  else if 0x2300 ≤ a ∧ a < 0x2500 then
    if !isF b (F.HST_SR_CTL_EN (i 0x2300)) then writeBits a v b
    else if a % 16 = 8 then
      writeBits a (w32 (setBitsOf (setBitsOf v.toNat 26 4 (getF b (F.HST_SR_CTL_SIZE (i 0x2300)))) 30 1 (getF b (F.HST_SR_CTL_WRAP (i 0x2300))))) b
    else b
  else if 0x2500 ≤ a ∧ a < 0x2600 then (if a % 8 = 0 then writeQuota ((a - 0x2500) / 8) v b else b)
  else if 0x2800 ≤ a ∧ a < 0x2A00 then
    setR a (if a % 16 = 0 then v &&& 0xFFFFFFFC else if a % 16 = 12 then v &&& 1 else v) b
  else writeBits a v b

/-- Bits of the pending-bit array. -/
def pendBits (b : Block) : Nat := (List.range 32).foldl (fun m v => m + nat01 (if v = 0 then b.hst.vec0Pend else b.hst.vecPend.contains v) * 2 ^ v) 0

/-- An HST register that follows other state (R417). -/
def hstRead (b : Block) (a : Nat) : Option Nat :=
  if a = R.HST_STATUS then
    some ((List.range 16).foldl (fun m q => m + nat01 (cqBlocked b q) * 2 ^ (16 + q)) 0 + (getR b a).toNat % 32 / 4 * 4 + nat01 b.hst.bme * 2
      + nat01 (pcieActive b && !b.hst.inReset && ready b && !b.pwr.parking))
  else if a = R.HST_LINK then
    some (if b.hst.linkUp then (getF b F.HST_LINK_SPEED) * 256 + getF b F.HST_LINK_WIDTH * 16 + nat01 (ptmValid b) * 4 + getF b F.HST_LINK_L1 * 2 + 1 else 0)
  else if a = R.HST_SPILL_STATUS then some (spillUsed b * 65536 + quotaSum b)
  else if 0x2300 ≤ a ∧ a < 0x2500 ∧ a % 16 = 12 then
    let s := (a - 0x2300) / 16
    some (getF b (F.HST_SR_STATUS_BAD_RD s) * 2 ^ 31 + getF b (F.HST_SR_STATUS_BLOCKED s) * 2 ^ 30 + nat01 (!(srOf b s).spill.isEmpty) * 2 ^ 29
      + getF b (F.HST_SR_STATUS_WR s))
  else if 0x2500 ≤ a ∧ a < 0x2600 ∧ a % 8 = 0 then
    let s := (a - 0x2500) / 8
    some ((spillBytes b s + 65535) / 65536 * 65536 + getF b (F.HST_SR_QUOTA_QUOTA s))
  else if 0x2800 ≤ a ∧ a < 0x2A00 then some (getR b a).toNat
  else if a = 0x2C00 then some (pendBits b)
  else none

/-! Window B (R388, R412, R500). -/

/-- An aligned write to offset `a` of Window B: the doorbell registers; reserved offsets take nothing. Before RUN or SAFE it is ignored (R83). -/
def windowB (a : Nat) (v : Word) (b : Block) : Block :=
  if !pcieUp b then b else
  let b := traffic b
  if !ready b then b
  else if a = 0 then doorbellAsk false b
  else if a = 4 then doorbellAsk true b
  else if a = 8 then
    let got := stampNow b
    setPair (R.HST_TIME 0) got.1 got.2
  else if 0x1000 ≤ a ∧ a < 0x2000 ∧ a % 0x100 = 0 then
    let q := (a - 0x1000) / 0x100
    doorbellAsk false (putSq q { sqOf b q with cand := some v.toNat } b)
  else b

/-! Commands. -/

def execPerstNReset (s : State) : Host.Outcome State Fault Refusal := run perstReset s

/-- FUNCTION_LEVEL_RESET (R413). -/
def execFunctionLevelReset (s : State) : Host.Outcome State Fault Refusal := run (fun b => if pcieUp b then functionReset b else b) s

/-- PCIE_CONFIG_REQUEST (R83). -/
def execPcieConfigRequest (r : CfgRequest) (s : State) : Host.Outcome State Fault Refusal := run (configRequest r) s

def execDmaSuspend (c : SuspendCause) (s : State) : Host.Outcome State Fault Refusal := run (suspend c true) s
def execDmaResume (c : SuspendCause) (s : State) : Host.Outcome State Fault Refusal := run (suspend c false) s

/-- PERST_N_RELEASE (R83): outside PARK the endpoint leaves reset and trains its link. -/
def execPerstNRelease (s : State) : Host.Outcome State Fault Refusal :=
  run (fun b =>
    if b.pwr.parked then b else
    { b with pins := { b.pins with perstN := true }, hst := { b.hst with inReset := !pcieActive b, perstAt := if b.pins.perstN then b.hst.perstAt else devF b } }) s

/-- PCIE_LINK_UP (R384): the link trains at a speed (1 to 3) and a width (1 or 2); WAKE_N is released (R94). -/
def execPcieLinkUp (speed : BitVec 2) (x2 : Bool) (s : State) : Host.Outcome State Fault Refusal :=
  run (fun b =>
    if b.hst.inReset || !pcieActive b || !awake b || speed = 0 then b else
    let b := resumeAfter (fun b => { b with hst := { b.hst with linkUp := true }, pins := { b.pins with wakeNLow := false } }) b
    setF F.HST_LINK_L1 0 (setF F.HST_LINK_SPEED speed.toNat (setF F.HST_LINK_WIDTH (if x2 then 2 else 1) b))) s

/-- ASPM_L1_ENTRY (R386): in STANDBY, after 10 µs without traffic. -/
def execAspmL1Entry (s : State) : Host.Outcome State Fault Refusal :=
  run (fun b => if decide (b.pwr.state = .standby) && pcieUp b then setF F.HST_LINK_L1 1 b else b) s

/-- DOORBELL_FETCH (R394). -/
def execDoorbellFetch (lines : Option (List Word)) (bad : List (Fin 16)) (s : State) : Host.Outcome State Fault Refusal :=
  run (doorbellFetch lines (bad.map (·.val))) s

def execStatusPageWrite (s : State) : Host.Outcome State Fault Refusal := run statusPage s

/-- HST_DBB_FETCH (R388). -/
def execHstDbbFetch (s : State) : Host.Outcome State Fault Refusal := run (windowB 0 0) s

/-- HST_DBB_FETCH_ALL (R388). -/
def execHstDbbFetchAll (s : State) : Host.Outcome State Fault Refusal := run (windowB 4 0) s

/-- HST_DBB_TIME (R412): the device timestamp at the arrival of the write. -/
def execHstDbbTime (s : State) : Host.Outcome State Fault Refusal := run (windowB 8 0) s

/-- HST_DBB_SQ (R388): a candidate for SQ_PI[q]. -/
def execHstDbbSq (q : Fin 16) (v : Word) (s : State) : Host.Outcome State Fault Refusal := run (windowB (0x1000 + 0x100 * q.val) v) s

/-- HST_RING_ENABLE (R392), where an EN still differs from what is in force. -/
def execHstRingEnable (s : State) : Host.Outcome State Fault Refusal := run (fun b => if framesRun b then ringTick b else b) s

/-- HST_QUOTA_WRITE (R409). -/
def execHstQuotaWrite (r : Fin 32) (v : Word) (s : State) : Host.Outcome State Fault Refusal :=
  run (fun b => if ready b then writeQuota r.val v b else b) s

/-- TIME_SYNC (R412). -/
def execTimeSync (q : Fin 16) (d : Desc) (s : State) : Host.Outcome State Fault Refusal :=
  run (startCmd q.val 0x0D d (d.p0 != 0 || !tail0 d || badAddr d.addr) false (waitOn q.val (.timeSync d.addr.toNat d.wfail))) s

end Sys2Proof.Machine
end

