-- ==== Sys2Proof/Machine/Capture.lean ====
section
/-! DEFINITION. Capture rings and event counters (R436 to R452): enabling, arming, the end of a capture, marks, reads and pulls, counter settings, snapshots, and
the commands of the family. -/

namespace Sys2Proof.Machine

/-! Rings (R437 to R442). -/

/-- Units of 64 KiB that CAP_GEOM[r] gives ring `r`. -/
def capUnits (b : Block) (r : Nat) : Nat := sizeUnits (getF b (F.CAP_GEOM_SIZE r))

/-- R437: ring `r` extends beyond unit 1,023 or overlaps another enabled ring. -/
def geomBad (b : Block) (r : Nat) : Bool :=
  let lo := getF b (F.CAP_GEOM_BASE r)
  let hi := lo + capUnits b r
  decide (1024 < hi) || (List.range 8).any fun o =>
    let y := ringOf b o
    o != r && y.en && decide (lo < y.base + y.units ∧ y.base < hi)

/-- CAP_CHAN[r] in words. -/
def capChans (b : Block) (r : Nat) : List Word := (List.range 7).map fun w => getR b (R.CAP_CHAN r w)

/-- Ring `r` at a frame tick, where EN is 0 or CAP_GEOM was written since the enable: placement stops (R437, R446); in the latter case EN = 1 is an enable anew. -/
def capStop (r : Nat) (b : Block) : Block :=
  let x := ringOf b r
  if x.en && (!isF b (F.CAP_CTL_EN r) || x.moved) then
    setF (F.CAP_RSTAT_STATE r) 0 (putRing r { x with en := false, refused := false, moved := false, armReq := false } b)
  else if !isF b (F.CAP_CTL_EN r) && x.refused then putRing r { x with refused := false } b else b

/-- Ring `r` at a frame tick, where EN is 1: the enable, a re-arm, TYPES and CAP_CHAN take effect (R437 to R439, R441). A refused enable is not asked again until EN is
written 0, and an enable clears the status of the last trigger and the stall (DEDUCED, log entry 19). -/
def capTick (r : Nat) (b : Block) : Block :=
  let x := ringOf b r
  let types := getF b (F.CAP_CTL_TYPES r)
  if !isF b (F.CAP_CTL_EN r) then b
  else if x.en then
    let b := when (x.armReq && capState b r == 3)
      (fun b => setF (F.CAP_RSTAT_STATE r) 1 (setF (F.CAP_RSTAT_EXTRA r) 0 (setF (F.CAP_RSTAT_CAUSE_HOST r) 0 (setF (F.CAP_RSTAT_CAUSE_SL r) 0 (setF (F.CAP_RSTAT_TSLOT r) 0 b))))) b
    putRing r { x with types := types, chans := capChans b r, armReq := false } b
  else if x.refused then b
  else if geomBad b r then setF (F.CAP_RSTAT_CFG_BAD r) 1 (putRing r { x with refused := true } b)
  else
    let b := setR (R.CAP_WR r) 0 (setR (R.CAP_OLDEST r) 0 (setR (R.CAP_DROP r) 0 b))
    let keep := (getR b (R.CAP_RSTAT r)).toNat &&& 0x0F000000
    let b := setF (F.CAP_RSTAT_MARK_VALID r) 0 (setF (F.CAP_RSTAT_STATE r) 1 (setR (R.CAP_RSTAT r) (w32 keep) b))
    levelBit Slot.capStall r false (putRing r
      { en := true, base := getF b (F.CAP_GEOM_BASE r), units := capUnits b r, from_ := devF b, trig := x.trig, types := types, chans := capChans b r } b)

/-- CAP_RING_ENABLE (R437): the rings at a frame tick, in ascending order, after those that stop. -/
def capTicks (b : Block) : Block := each (List.range 8) capTick (each (List.range 8) capStop b)

/-- Ring `r` enters DONE (R442): CAP_PRE_POS is the position of its oldest record of frame T − PRE or later, PRE_SHORT tells that the data begin later or E lies after it. -/
def capFinish (r : Nat) (b : Block) : Block :=
  let x := ringOf b r
  let trig := x.trig.getD 0
  let pre := getF b (F.CAP_WIN_PRE r)
  let first := x.recs.find? fun c => decide (trig ≤ c.frame + pre)
  let pos := match first with
    | some c => c.pos
    | none => Config.unstated 57 [r, trig]
  let short := (match first with
    | some c => decide (trig < c.frame + pre)
    | none => true) || decide (trig < x.from_ + pre)
  let b := putF (F.CAP_RSTAT_PRE_SHORT r) short (setR (R.CAP_PRE_POS r) (w32 pos) (setF (F.CAP_RSTAT_STATE r) 3 b))
  pulse Slot.capDone (2 ^ r) b

/-- CAPTURE_DONE (R440, R442): in frame T + POST + 2, once its RAW records are placed, a ring in POST enters DONE. -/
def capDone (r : Nat) (b : Block) : Block :=
  let last := (ringOf b r).trig.getD 0 + getF b (F.CAP_WIN_POST r)
  if capState b r ≠ 2 || decide (devF b < last + 2) || (b.fe.rawQueue.any fun q => decide (q.dev ≤ last)) then b else capFinish r b

/-- Every ring whose capture is over. -/
def capDoneAll (b : Block) : Block := each (List.range 8) capDone b

/-- Length of ring `r`'s valid span in bytes. -/
def capSpan (b : Block) (r : Nat) : Nat := ((getR b (R.CAP_WR r)).toNat + 2 ^ 32 - (getR b (R.CAP_OLDEST r)).toNat) % 2 ^ 32

/-- How far position `p` lies past the start of the valid span. -/
def capAhead (b : Block) (r p : Nat) : Nat := (p + 2 ^ 32 - (getR b (R.CAP_OLDEST r)).toNat) % 2 ^ 32

/-- A write of CAP_MARK[r] (R443); the end of the span is a position of it (DEDUCED, log entry 19). -/
def writeCapMark (r : Nat) (v : Word) (b : Block) : Block :=
  if v.toNat % 4 ≠ 0 || capSpan b r < capAhead b r v.toNat then setF (F.CAP_RSTAT_MARK_REJ r) 1 b
  else
    let b := setF (F.CAP_RSTAT_MARK_VALID r) 1 (setR (R.CAP_MARK r) v b)
    let room := decide (((getR b (R.CAP_WR r)).toNat + 4 * (ringOf b r).need + 2 ^ 32 - v.toNat) % 2 ^ 32 ≤ ringSize (ringOf b r))
    when (room && isF b (F.CAP_RSTAT_STALL r)) (fun b => levelBit Slot.capStall r false (setF (F.CAP_RSTAT_STALL r) 0 b)) b

/-- A write of CAP_CTL[r] (R441, R452). -/
def writeCapCtl (r : Nat) (v : Word) (b : Block) : Block :=
  let b := writeBits (R.CAP_CTL r) v b
  let b := when (bitOf v.toNat 26) (capTrigger r none) b
  when (bitOf v.toNat 27 && capState b r == 3) (fun b => putRing r { ringOf b r with armReq := true } b) b

/-- A write of CAP_GEOM[r] (R437): only while EN = 0; the old span can no longer be read, and a ring whose disable has not taken effect yet stops at the tick whatever EN says
then. -/
def writeCapGeom (r : Nat) (v : Word) (b : Block) : Block :=
  if isF b (F.CAP_CTL_EN r) then b
  else writeBits (R.CAP_GEOM r) v (setR (R.CAP_OLDEST r) (getR b (R.CAP_WR r)) (putRing r { ringOf b r with recs := [], moved := (ringOf b r).en } b))

/-- The word at position `p` of ring `r`, where its valid span holds it. -/
def capWord (b : Block) (r p : Nat) : Option Word :=
  if capSpan b r ≤ capAhead b r p then none else
  (ringOf b r).recs.findSome? fun c =>
    let o := (p + 2 ^ 32 - c.pos) % 2 ^ 32
    if o < 4 * c.words.length then c.words[o / 4]? else none

/-- A read of CAP_RD_DATA (R445). -/
def readCapData (b : Block) : Word × Block :=
  let w := capWord b (getF b F.CAP_RD_CTL_RING) (getR b R.CAP_RD_POS).toNat
  (w.getD 0, when w.isNone (setF F.CAP_RD_CTL_LOST 1) (setR R.CAP_RD_POS (getR b R.CAP_RD_POS + 4) b))

/-- The words of the `n` bytes from position `p` of ring `r`. -/
def capBytes (b : Block) (r p n : Nat) : List Word := (List.range (n / 4)).map fun i => (capWord b r (p + 4 * i)).getD 0

/-- CAP_PULL's copy goes on for a frame (R444): `pace` bytes more, as long as the ring has not overwritten what was not yet copied. Answers what the command waits for
then, none where it has ended. -/
def pullOn (q ring start len addr copied pace : Nat) (fail : Bool) (b : Block) : Block :=
  let rest := len - copied
  if capSpan b ring < capAhead b ring (start + copied) + rest then finish q St.failed 2 copied 0 b
  else
    let n := min rest (if pace = 0 then rest else pace)
    let ws := capBytes b ring (start + copied) n
    if n = rest then dmaOut q fail (addr + copied) ws St.done 0 len 0 b
    else waitOn q (.capPull ring start len addr (copied + n) pace fail) (if fail then b else dmaWrite (addr + copied) ws b)

/-- CAP_PULL is accepted (R444): the range lies in the valid span; the copy runs at `pace` bytes a frame, or at once. -/
def capPull (q r start len addr : Nat) (pace : Nat) (fail : Bool) (b : Block) : Block :=
  if memOut b then finish q St.busyBist 0 0 0 b
  else if capSpan b r = 0 then finish q St.failed 3 0 0 b
  else if capSpan b r < capAhead b r start + len then finish q St.failed 1 0 0 b
  else pullOn q r start len addr 0 (pace / 4 * 4) fail b

/-- At a frame tick every copy in progress goes on. -/
def pullTick (b : Block) : Block :=
  each (List.range 16) (fun q b => match (sqOf b q).running with
    | some ⟨_, _, .capPull r start len addr copied pace fail⟩ => pullOn q r start len addr copied pace fail b
    | _ => b) b

/-! Event counters (R447 to R450). -/

/-- A write of CNT_CFG[i]: CLEAR, or a change of EVENT, QTYPE or QVAL, clears at the next tick (R448). -/
def writeCntCfg (i : Nat) (v : Word) (b : Block) : Block :=
  let old := (getR b (R.CNT_CFG i)).toNat &&& 0x03FF00FF
  let b := writeBits (R.CNT_CFG i) v b
  when (bitOf v.toNat 29 || old != (v.toNat &&& 0x03FF00FF)) (fun b => { b with cap := { b.cap with cntClr := addOnce i b.cap.cntClr } }) b

/-- A write of CNT_CTL (R450). -/
def writeCntCtl (v : Word) (b : Block) : Block := when (bitOf v.toNat 0) (fun b => { b with cap := { b.cap with unfreeze := true } }) b

/-- CNT_CLEAR (R448): the counters that wait for it become 0. -/
def cntClear (b : Block) : Block :=
  each b.cap.cntClr (fun i b =>
    setF (F.CNT_CFG_SAT i) 0 (setR (R.CNT_VAL_LO i) 0 (setR (R.CNT_VAL_HI i) 0 (setR (R.CNT_FIRST i) 0 b)))) { b with cap := { b.cap with cntClr := [] } }

/-- CNT_UNFREEZE (R450). -/
def cntUnfreeze (b : Block) : Block :=
  if !b.cap.unfreeze then b else
  let b := each (List.range 32) (fun i b => if isF b (F.CNT_CFG_FROZEN i) then setF (F.CNT_CFG_FROZEN i) 0 b else b) b
  { b with cap := { b.cap with unfreeze := false, counters := b.cap.counters.map fun c => (c.1, { c.2 with frozen := false }) } }

/-- CNT_MODE_WRITE (R448): the counters with MODE = 1 count from this tick. -/
def cntModes (b : Block) : Block :=
  let on := (List.range 32).filter fun i => isF b (F.CNT_CFG_MODE i)
  if on.isEmpty && b.cap.counters.isEmpty then b else
  { b with cap := { b.cap with counters := on.map fun i =>
      (i, { event := getF b (F.CNT_CFG_EVENT i), qtype := getF b (F.CNT_CFG_QTYPE i), qval := getF b (F.CNT_CFG_QVAL i), frozen := isF b (F.CNT_CFG_FROZEN i) }) } }

/-- What the counters do at a frame tick. -/
def cntTick (b : Block) : Block := cntModes (cntUnfreeze (cntClear b))

/-- The snapshot of a chain tick (R449): every counter but a frozen one. -/
def cntSnap (b : Block) : Block :=
  let b := setR R.CNT_SNAP_FRAME (w32 (frame b)) b
  each (List.range 32) (fun i b =>
    if isF b (F.CNT_CFG_FROZEN i) then b
    else setR (R.CNT_SNAP_LO i) (getR b (R.CNT_VAL_LO i)) (setF (F.CNT_SNAP_HI_SNAP_HI i) (getF b (F.CNT_VAL_HI_VAL_HI i)) b)) b

/-- CNT_CFG[i] as it reads: CFG_BAD while the settings of a counter that counts allow no event (R447). -/
def cntCfgRead (b : Block) (i : Nat) : Nat :=
  let bad := b.cap.counters.any fun c => c.1 == i && !cntOk c.2.event c.2.qtype c.2.qval
  setBitsOf (getR b (R.CNT_CFG i)).toNat 26 1 (nat01 bad)

/-! Commands. -/

def execCapRingEnable (s : State) : Host.Outcome State Fault Refusal := run (fun b => if framesRun b then capTicks b else b) s

/-- CAP_TRIG (R441): CAP_CTL[r].TRIG = 1. -/
def execCapTrig (r : Fin 8) (v : Word) (s : State) : Host.Outcome State Fault Refusal :=
  run (fun b => if ready b then writeCapCtl r.val (v ||| 0x4000000) b else b) s

/-- CAP_ARM (R441): CAP_CTL[r].ARM = 1. -/
def execCapArm (r : Fin 8) (v : Word) (s : State) : Host.Outcome State Fault Refusal :=
  run (fun b => if ready b then writeCapCtl r.val (v ||| 0x8000000) b else b) s

def execCaptureDone (s : State) : Host.Outcome State Fault Refusal := run (fun b => if framesRun b then capDoneAll b else b) s

def execCapMarkWrite (r : Fin 8) (v : Word) (s : State) : Host.Outcome State Fault Refusal :=
  run (fun b => if ready b then writeCapMark r.val v b else b) s

/-- CAP_PULL (R402, R403, R444); `pace` is how many bytes are copied in a frame: all of them where none is given (the rate is open: DESIGN CHOICE, log entry 19). -/
def execCapPull (q : Fin 16) (d : Desc) (pace : Option (BitVec 27)) (s : State) : Host.Outcome State Fault Refusal :=
  run (fun b =>
    let len := d.p2.toNat
    startCmd q.val 0x05 d
      (decide (7 < d.p0.toNat) || badAddr d.addr || d.p3 != 0 || d.p4 != 0 || decide (d.p1.toNat % 4 ≠ 0 ∨ len % 4 ≠ 0 ∨ len < 4 ∨ capSize b d.p0.toNat < len)) false
      (capPull q.val d.p0.toNat d.p1.toNat len d.addr.toNat ((pace.map (·.toNat)).getD 0) d.wfail) b) s

def execCntModeWrite (i : Fin 32) (v : Word) (s : State) : Host.Outcome State Fault Refusal :=
  run (fun b => if ready b then writeCntCfg i.val v b else b) s

/-- CNT_CLEAR (R448): CNT_CFG[i].CLEAR = 1. -/
def execCntClear (i : Fin 32) (v : Word) (s : State) : Host.Outcome State Fault Refusal :=
  run (fun b => if ready b then writeCntCfg i.val (v ||| 0x20000000) b else b) s

/-- CNT_UNFREEZE (R450): CNT_CTL.UNFREEZE = 1. -/
def execCntUnfreeze (v : Word) (s : State) : Host.Outcome State Fault Refusal :=
  run (fun b => if ready b then writeCntCtl (v ||| 1) b else b) s

end Sys2Proof.Machine
end

