-- ==== Sys2Proof/Machine/Power.lean ====
section
/-! DEFINITION. Power-state requests (R87 to R90), the life cycle (R97 to R101), the configuration store (R103 to R106), firmware update (R405), and the commands
of these families; reset, boot, PARK entry and wake stand in Boot.lean. -/

namespace Sys2Proof.Machine

/-! Power-state requests. -/

/-- A wake source is effective (R89). -/
def wakeEffective (b : Block) : Bool :=
  isF b F.PWR_WAKE_CTL_EN_WAKE_IN || isF b F.PWR_WAKE_CTL_EN_CW || isF b F.PWR_WAKE_CTL_EN_HOST ||
    (isF b F.PWR_WAKE_CTL_EN_TIMER && getR b R.PWR_WAKE_TIMER != 0)

/-- The request for state `p` is refused as things stand (R87 to R89). -/
def powerRefused (p : PowerState) (b : Block) : Bool :=
  match p, b.pwr.state with
  | .run, .safe => safeHeld b
  | .standby, .safe => true
  | .park, _ => !wakeEffective b
  | _, _ => false

/-- A request is written (R88): it replaces one that waits; the same state needs no action. While the entry to PARK runs, R88 has no row for a request of another
state: it does nothing and is not refused (DESIGN CHOICE, log entry 30). -/
def powerAsk (p : PowerState) (b : Block) : Block :=
  let b := { b with pwr := { b.pwr with request := none } }
  if p = b.pwr.state || b.pwr.parking then b
  else if powerRefused p b then setF F.PWR_CTL_REFUSED 1 b
  else { b with pwr := { b.pwr with request := some p } }

/-- A write of PWR_CTL. -/
def writePwrCtl (v : Word) (b : Block) : Block :=
  let b := writeBits R.PWR_CTL v b
  match v.toNat % 8 with
  | 1 => powerAsk .run b
  | 2 => powerAsk .standby b
  | 3 => powerAsk .park b
  | _ => b

/-- The firmware's first arrival in RUN raises the anti-rollback floor to its own security version (R81). -/
def reachRun (b : Block) : Block :=
  if b.fw.reached then b else
  { b with fw := { b.fw with reached := true, floor := max b.fw.floor (b.fw.copies.getD b.fw.running {}).security } }

/-- R90 steps 1 and 2, R262, R279: PARK is accepted at the tick. -/
def parkAccept (b : Block) : Block :=
  let b := bistCut true { b with bist := { b.bist with request := none } }
  let b := setPower .park { b with pwr := { b.pwr with parking := true, retain := getF b F.PWR_CTL_RETAIN, wakes := [] } }
  sweepAbort 4 (cancelSwap 4 (ovrPark b))

/-- A request that waits takes effect at the frame tick (R88): STANDBY once no model step is in progress. -/
def powerTick (b : Block) : Block :=
  match b.pwr.request with
  | none => b
  | some p =>
    let b0 := { b with pwr := { b.pwr with request := none } }
    if powerRefused p b then setF F.PWR_CTL_REFUSED 1 b0 else
    match p, b.pwr.state with
    | .run, .standby => reachRun (setPower .run b0)
    | .run, .safe => reachRun (event 0x05 0 0 0 0 (setPower .run b0))
    | .standby, .run => if b.fen.step.isSome then b else setPower .standby b0
    | .park, .run | .park, .standby | .park, .safe => parkAccept b0
    | _, _ => b0

/-! Life cycle. -/

/-- LC_STATE.STATE code of a state. -/
def lifeCode : Life → Nat
  | .factory => 0
  | .provisioned => 1
  | .field => 2
  | .service => 3
  | .retired => 4

/-- The state of a code. -/
def lifeOf : Nat → Option Life
  | 0 => some .factory
  | 1 => some .provisioned
  | 2 => some .field
  | 3 => some .service
  | 4 => some .retired
  | _ => none

/-- R98: whether the transition exists, and whether it needs authentication. -/
def lifeStep : Life → Life → Option Bool
  | .factory, .provisioned => some false
  | .provisioned, .field => some false
  | .field, .service => some true
  | .service, .field => some true
  | .service, .retired => some true
  | _, _ => none

/-- LC_STATE.RESULT. -/
def lcResult (n : Nat) (b : Block) : Block := setF F.LC_STATE_RESULT n b

/-- The message of R99 for a target: the challenge, the target code, GEN_DEVID, each low byte first. -/
def lcMessage (b : Block) (target : Nat) : List Nat :=
  (List.range 4).flatMap (fun i => bytesOfWord (getR b (R.LC_CHALLENGE i))) ++ [target] ++ bytesOfWord (getR b R.GEN_DEVID)

/-- The signature written to LC_RESPONSE, bytes 0 to 63. -/
def lcSignature (b : Block) : List Nat := (List.range 16).flatMap fun i => bytesOfWord (mapGet (fun _ => 0) b.lc.response i)

/-- The first `n` words of LC_KEY as bytes. -/
def lcKey (b : Block) (n : Nat) : List Nat := (List.range n).flatMap fun i => bytesOfWord (mapGet (fun _ => 0) b.lc.key i)

/-- The CRC-32 of a life-cycle record, over its sequence number and state code (R97; the layout of a record is a DESIGN CHOICE, log entry 32). -/
def lifeCrc (seq code : Nat) : Nat := crc32 (bytesOfWord (w32 seq) ++ [code])

/-- A life-cycle record is valid. -/
def lifeRecOk (r : LifeRec) : Bool := decide (r.crc = lifeCrc r.seq r.code) && (lifeOf r.code).isSome

/-- The record that counts (R97): the valid one, and of two the newer; none where neither is valid. -/
def lifePick (l : LifeCycle) : Option Nat :=
  let r := fun i => l.records.getD i ⟨0, 0, 0⟩
  match lifeRecOk (r 0), lifeRecOk (r 1) with
  | true, true => if seqNewer (r 1).seq (r 0).seq then some 1 else some 0
  | true, false => some 0
  | false, true => some 1
  | false, false => none

/-- The life-cycle state that the records give; with none valid the one last in force. -/
def lifeStored (l : LifeCycle) : Life :=
  match lifePick l with
  | some i => (lifeOf (l.records.getD i ⟨0, 0, 0⟩).code).getD l.life
  | none => l.life

/-- The state `target` is stored: the record that does not count is written with the next sequence number (R97). -/
def lifeWrite (target : Life) (l : LifeCycle) : LifeCycle :=
  let i := (lifePick l).getD 1
  let seq := ((l.records.getD i ⟨0, 0, 0⟩).seq + 1) % 2 ^ 32
  { l with life := target, records := l.records.set (1 - i) ⟨seq, lifeCode target, lifeCrc seq (lifeCode target)⟩ }

/-- The registers that show the stored state and keys. -/
def lcShow (b : Block) : Block :=
  setF F.LC_STATE_STATE (lifeCode b.lc.life) (putF F.LC_STATE_KEY_SVC b.lc.keySvc.isSome (putF F.LC_STATE_KEY_CW b.lc.keyCw.isSome b))

/-- The CRC of a configuration copy (R103): over bytes 0x00 to 0x13, then the entry area. -/
def cfgCrc (c : CfgCopy) : Nat :=
  crc32 (([c.magic, c.format % 65536, c.seq, c.len, c.count].map w32 ++ c.entries.flatMap fun e => [w32 e.1, e.2]).flatMap bytesOfWord)

/-- The validity of a configuration copy (R104). -/
def cfgValid (c : CfgCopy) : Bool :=
  decide (c.magic = 0x4643535A ∧ c.format = 1 ∧ c.marker = 0x5A5AA5A5 ∧ c.len = 8 * c.count ∧ c.len ≤ 262112 ∧ c.entries.length = c.count) &&
    decide (c.crc = cfgCrc c)

/-- A copy as a commit writes it before its CRC and its marker (R105 step 3). -/
def cfgHeader (seq : Nat) (es : List (Nat × Word)) (c : CfgCopy) : CfgCopy :=
  { c with magic := 0x4643535A, format := 1, seq := seq, len := 8 * es.length, count := es.length, entries := es }

/-- A whole copy, committed (R105 steps 3 to 5). -/
def cfgMake (seq : Nat) (es : List (Nat × Word)) (c : CfgCopy) : CfgCopy :=
  let d := cfgHeader seq es c
  { d with crc := cfgCrc d, marker := 0x5A5AA5A5 }

/-- The registers that show the configuration copies (R105, R107). -/
def cfgShow (active : Nat) (b : Block) : Block :=
  let c := fun i => b.cfg.copies.getD i {}
  let ok := fun i => cfgValid (c i)
  let seq := fun i => if ok i then (c i).seq else 0
  setF F.CFG_STATUS_ACTIVE active (putF F.CFG_STATUS_VALID0 (ok 0) (putF F.CFG_STATUS_VALID1 (ok 1)
    (setR (R.CFG_SEQ 0) (w32 (seq 0)) (setR (R.CFG_SEQ 1) (w32 (seq 1)) b))))

/-- A commit of the configuration ends with a RESULT; every NV_COMMIT merged into it completes (R105, R403). -/
def cfgEnd (result seq : Nat) (b : Block) : Block :=
  let b := setF F.CFG_STATUS_RESULT result (setF F.CFG_STATUS_BUSY 0 { b with
    cfg := { b.cfg with requested := false, captured := none }, fw := { b.fw with job := b.fw.job.map fun j => { j with afterCommit := false } } })
  let st := if result = 1 then St.done else if result = 2 then St.busy else if result = 3 then St.notPermitted else St.failed
  finishAll (· == .nvCommit) (fun q b => finish q st result seq 0 b) b

/-- Entry to RETIRED (R98): both keys and the configuration copies are erased; a commit under way ends as not permitted. -/
def retire (b : Block) : Block :=
  let b := when (b.cfg.requested || b.cfg.captured.isSome) (cfgEnd 3 0) b
  cfgShow 0 { b with lc := { b.lc with keySvc := none, keyCw := none }, cfg := { copies := [{}, {}] } }

/-- The transition is made (R98): the stored state changes now, its capabilities at the next frame tick. -/
def lcMove (target : Life) (b : Block) : Block :=
  let b := journal 0x07 (lifeCode target) 0 0 { b with lc := lifeWrite target b.lc }
  lcResult 1 (lcShow (when (decide (target = .retired)) retire b))

/-- An authenticated request (R99, R100): the challenge serves this one; eight failures in a row lock. -/
def lcAuth (target : Life) (b : Block) : Block :=
  let ok := b.lc.challenge && ecdsaVerify (b.lc.keySvc.getD []) (lcMessage b (lifeCode target)) (lcSignature b)
  let b := { b with lc := { b.lc with challenge := false } }
  if ok then lcMove target (setF F.LC_STATE_AUTH_FAIL 0 b)
  else
    let b := lcResult 3 (addF F.LC_STATE_AUTH_FAIL 1 b)
    when (decide (8 ≤ getF b F.LC_STATE_AUTH_FAIL)) (setF F.LC_STATE_LOCKED 1) b

/-- LC_TRANSITION (R98): a confirmed request for a target. -/
def lcRequest (target : Nat) (b : Block) : Block :=
  if target = 0xF then b
  else if isF b F.LC_STATE_LOCKED then lcResult 4 b
  else if b.lc.life ≠ b.lc.acting then lcResult 6 b
  else
    match lifeOf target with
    | none => lcResult 2 b
    | some t =>
      match lifeStep b.lc.life t with
      | none => lcResult 2 b
      | some auth =>
        if b.lc.life = .provisioned ∧ b.lc.keySvc.isNone then lcResult 5 b
        else if auth then lcAuth t b else lcMove t b

/-- R99: a fresh random challenge. -/
def lcChallenge (b : Block) : Block :=
  let b := each (List.range 4) (fun i b =>
    let got := fresh b
    let v := got.1
    let b := got.2
    setR (R.LC_CHALLENGE i) (w32 v) b) b
  { b with lc := { b.lc with challenge := true } }

/-- R97, R101: a key is stored from LC_KEY, where the life cycle allows it, and LC_KEY cleared. Whether it counts among the later requests that LOCKED refuses (R100) the
spec does not say: R100 stands beside the authentication of transitions, so a key is stored (DESIGN CHOICE, log entry 32). -/
def lcStore (svc : Bool) (b : Block) : Block :=
  let allowed := (lifeIs b .factory || lifeIs b .provisioned || (!svc && lifeIs b .service)) && b.lc.life != .retired
  if !allowed then lcResult 2 b
  else
    let lc := if svc then { b.lc with keySvc := some (lcKey b 16), key := [] } else { b.lc with keyCw := some (lcKey b 4), key := [] }
    lcResult 1 (lcShow { b with lc := lc })

/-- A write of LC_CTL (R98, R99, R101, R107). -/
def writeLcCtl (v : Word) (b : Block) : Block :=
  let confirm := v.toNat / 2 ^ 24 == 0xA5
  let op := bitsOf v.toNat 9 2
  let new := bitOf v.toNat 8
  let b := when new lcChallenge b
  if !confirm then b
  else if op = 1 then lcStore true b
  else if op = 2 then lcStore false b
  else if new then b
  else lcRequest (v.toNat % 16) b

/-- The capabilities of the stored state come into force at the frame tick (R98). -/
def lcTick (b : Block) : Block := { b with lc := { b.lc with acting := b.lc.life } }

/-! Configuration store. -/

/-- R103: offset `a` belongs to a block whose RW and RWS fields a copy holds. -/
def cfgStored (a : Nat) : Bool :=
  let in_ := fun lo hi => decide (lo ≤ a ∧ a < hi)
  let block := a = R.PWR_WAKE_CTL || a = R.PWR_WAKE_TIMER || a = R.BIST_ROLL || in_ 0x4000 0x6000 || in_ 0x7000 0x10000 ||
    in_ 0x10000 0x20000 || in_ 0x20000 0x40000
  block && !(List.range 8).any (fun r => a = R.CAP_MARK r) && (match regRow a with
    | some r => decide (r.rw ||| r.rws ≠ 0)
    | none => false)

/-- The offsets of a register row, rising. -/
def rowOffsets (r : RegRow) : List Nat := (List.range r.n1).flatMap fun i => (List.range r.n2).map fun j => r.base + i * r.s1 + j * r.s2

/-- Every stored offset, in ascending order (the order of entries is a DESIGN CHOICE, log entry 33). -/
def cfgOffsets : List Nat :=
  let rows := regs03 ++ regs17 ++ regs18 ++ regs16a ++ regs16b ++ regs04a ++ regs04b ++ regs05 ++ regs06 ++ regs10 ++ regs11 ++ regs12 ++ regs13 ++ regs07a ++
    regs07b ++ regs08 ++ regs09
  let rows := rows.filter fun r => decide (r.rw ||| r.rws ≠ 0)
  sortBy (fun x y => decide (x ≤ y)) ((rows.flatMap rowOffsets).filter cfgStored)

/-- The entries of a commit (R103, R105): every stored register, RW fields as they read, RWS fields as active, every other bit 0 (log entry 33). -/
def cfgEntries (b : Block) : List (Nat × Word) :=
  cfgOffsets.filterMap fun a => (regRow a).map fun r => (a, w32 (((getR b a).toNat &&& r.rw) ||| ((getA b a).toNat &&& r.rws)))

/-- The copy that boot uses (R104). -/
def cfgSelect (b : Block) : Option Nat :=
  let c := fun i => b.cfg.copies.getD i {}
  match cfgValid (c 0), cfgValid (c 1) with
  | true, true => if seqNewer (c 1).seq (c 0).seq then some 1 else some 0
  | true, false => some 0
  | false, true => some 1
  | false, false => none

/-- A commit is requested, by the register or by the command of ring `q` (R105, R90). -/
def cfgAsk (q : Option Nat) (b : Block) : Block :=
  let refuse := fun code st (b : Block) =>
    let b := setF F.CFG_STATUS_RESULT code b
    match q with
    | some q => finish q st code 0 0 b
    | none => b
  if lifeIs b .retired || b.lc.life == .retired then refuse 3 St.notPermitted b
  else if b.cfg.captured.isSome || b.pwr.parking then refuse 2 St.busy b
  else
    let b := setF F.CFG_STATUS_BUSY 1 { b with cfg := { b.cfg with requested := true } }
    match q with
    | some q => waitOn q .nvCommit b
    | none => b

/-- CONFIG_COMMIT_CAPTURE (R105 steps 1 and 2): at a frame tick the values in force are captured, and MARKER of the inactive copy is written with 0 as soon as the store is
free for it (R102). -/
def cfgCapture (b : Block) : Block :=
  if !b.cfg.requested || b.cfg.captured.isSome || !framesRun b then b else
  commitTurn { b with cfg := { b.cfg with requested := false, captured := some (cfgEntries b) } }

/-- CONFIG_COMMIT_DONE (R105 steps 3 to 5): the commit ends; `ok`: its read-back matched. It cannot end before what was asked of the store before it; a flush that
waited follows (R102). -/
def cfgDone (ok : Bool) (b : Block) : Block :=
  if b.led.flushing.isSome || b.fw.job.any (fun j => !j.afterCommit) then b else
  match b.cfg.captured with
  | none => b
  | some es =>
    let active := getF b F.CFG_STATUS_ACTIVE
    let a := b.cfg.copies.getD active {}
    let seq := if cfgValid a then (a.seq + 1) % 2 ^ 32 else 1
    let write := fun (f : CfgCopy → CfgCopy) => { b with cfg := { b.cfg with copies := b.cfg.copies.set (1 - active) (f (b.cfg.copies.getD (1 - active) {})) } }
    let b := if ok then cfgEnd 1 seq (cfgShow (1 - active) (setF F.CFG_STATUS_NONE 0 (write (cfgMake seq es))))
      else
        let b := write (cfgHeader seq es)
        detectOnce Slot.nvstore 0 (cfgEnd 4 0 (cfgShow active b))
    flushOwed b

/-! Firmware update (R81, R405). -/

/-- FW_UPDATE asks for its words to be written, after what was asked of the store before it (R102); while one is in progress another ends with BUSY (R405).
`readback`: what is written reads back. -/
def fwUpdate (q : Nat) (d : Desc) (ws : List Word) (readback : Bool) (b : Block) : Block :=
  if b.fw.job.isSome then finish q St.busy 0 0 0 b else
  let job : FwJob := ⟨some q, d.p1.toNat / 4, ws.map (·.toNat), 4 * ws.length, bitOf d.p0.toNat 0, readback, b.cfg.captured.isSome, b.led.flushing.isSome || b.led.owed⟩
  waitOn q .fwUpdate { b with fw := { b.fw with job := some job } }

/-- The command of an update ends, where a submission ring still waits for it (R413). -/
def fwEnd (j : FwJob) (status detail r1 : Nat) (b : Block) : Block :=
  match j.ring with
  | some q => finish q status detail j.len r1 b
  | none => b

/-- The last word of a piece is written: it has read back or not, and FINAL verifies the copy as the mask ROM does (R79, R403, R405). -/
def fwVerify (j : FwJob) (b : Block) : Block :=
  let other := 1 - b.fw.running
  if !j.ok then detectOnce Slot.nvstore 0 (fwEnd j St.failed 4 0 b)
  else if !j.final then fwEnd j St.done 0 0 b
  else
    let (sig, len, ver, sec) := Config.firmware (b.fw.words.getD other [])
    if !sig then fwEnd j St.failed 1 sec b
    else if !len then fwEnd j St.failed 2 sec b
    else if sec < b.fw.floor then fwEnd j St.failed 3 sec b
    else
      let b := { b with fw := { b.fw with copies := b.fw.copies.set other ⟨true, ver, sec⟩ } }
      fwEnd j St.done 0 sec (journal 0x08 other 0 sec b)

/-- A frame's share of a firmware update (R102): 100 words at 8 MB/s go to the copy that does not run, which is invalid from its first piece on until FINAL has
verified it (R405). -/
def fwTick (b : Block) : Block :=
  match b.fw.job with
  | none => b
  | some j =>
    if j.afterCommit || j.afterFlush || !framesRun b then b else
    let other := 1 - b.fw.running
    let now := j.words.take 100
    let content := (List.range now.length).foldl (fun m i => mapPut (fun _ => 0) m (j.at_ + i) (now.getD i 0)) (b.fw.words.getD other [])
    let rest := j.words.drop 100
    let b := { b with fw := { b.fw with words := b.fw.words.set other content, copies := b.fw.copies.set other {}, job := some { j with at_ := j.at_ + now.length, words := rest } } }
    if !rest.isEmpty then b else commitTurn (fwVerify j { b with fw := { b.fw with job := none } })

/-- PARK entry ends an update in progress (R400, R415): its copy stays invalid. -/
def fwAbort (b : Block) : Block := { b with fw := { b.fw with job := none } }

/-! Commands. -/

/-- PWR_REQUEST_RUN (R87, R88): PWR_CTL.REQ = 1; `v` is the rest of the word written. -/
def execPwrRequestRun (v : Word) (s : State) : Host.Outcome State Fault Refusal :=
  run (fun b => if ready b then writePwrCtl (w32 (setBitsOf v.toNat 0 3 1)) b else b) s

/-- PWR_REQUEST_STANDBY (R88): PWR_CTL.REQ = 2. -/
def execPwrRequestStandby (v : Word) (s : State) : Host.Outcome State Fault Refusal :=
  run (fun b => if ready b then writePwrCtl (w32 (setBitsOf v.toNat 0 3 2)) b else b) s

/-- PWR_REQUEST_PARK (R88, R89): PWR_CTL.REQ = 3. -/
def execPwrRequestPark (v : Word) (s : State) : Host.Outcome State Fault Refusal :=
  run (fun b => if ready b then writePwrCtl (w32 (setBitsOf v.toNat 0 3 3)) b else b) s

/-- LC_TRANSITION (R98): LC_CTL.TARGET with CONFIRM = 0xA5, no key operation and no new challenge. -/
def execLcTransition (target : BitVec 4) (s : State) : Host.Outcome State Fault Refusal :=
  run (fun b => if ready b then writeLcCtl (w32 (0xA5000000 + target.toNat)) b else b) s

/-- LC_NEW_CHALLENGE (R99). -/
def execLcNewChallenge (s : State) : Host.Outcome State Fault Refusal := run (fun b => if ready b then writeLcCtl 0x0000010F b else b) s

/-- LC_STORE_SERVICE_KEY (R101): KEY_OP 1 with CONFIRM. -/
def execLcStoreServiceKey (s : State) : Host.Outcome State Fault Refusal := run (fun b => if ready b then writeLcCtl 0xA500020F b else b) s

/-- LC_STORE_CAUSEWAY_KEY (R101): KEY_OP 2 with CONFIRM. -/
def execLcStoreCausewayKey (s : State) : Host.Outcome State Fault Refusal := run (fun b => if ready b then writeLcCtl 0xA500040F b else b) s

/-- CFG_COMMIT (R105): CFG_CTL.COMMIT = 1. -/
def execCfgCommit (s : State) : Host.Outcome State Fault Refusal := run (fun b => if ready b then cfgAsk none b else b) s

/-- NV_COMMIT (R105, R402, R403). -/
def execNvCommit (q : Fin 16) (d : Desc) (s : State) : Host.Outcome State Fault Refusal :=
  run (startCmd q.val 0x0C d (d.p0 != 0 || d.addr != 0 || !tail0 d) false (cfgAsk (some q.val))) s

def execConfigCommitCapture (s : State) : Host.Outcome State Fault Refusal := run cfgCapture s

/-- CONFIG_COMMIT_DONE (R105). -/
def execConfigCommitDone (ok : Bool) (s : State) : Host.Outcome State Fault Refusal := run (cfgDone ok) s

/-- FW_UPDATE (R402, R403, R405). -/
def execFwUpdate (q : Fin 16) (d : Desc) (data : Option (List Word)) (readback : Bool) (s : State) : Host.Outcome State Fault Refusal :=
  run (fun b => startCmd q.val 0x0B d
    (decide (d.p0.toNat / 2 ≠ 0) || badAddr d.addr || d.p3 != 0 || d.p4 != 0 || decide (d.p1.toNat % 4 ≠ 0) || decide (d.p2.toNat % 4 ≠ 0) ||
      decide (524288 < d.p1.toNat + d.p2.toNat)) (lifeIs b .retired)
    (withData q.val data fun ws => fwUpdate q.val d (ws.take (d.p2.toNat / 4)) readback) b) s

end Sys2Proof.Machine
end

