-- ==== Sys2Proof/Machine/Causeway.lean ====
section
/-! DEFINITION. The Causeway chain and the radio (R350 to R383): roles and enumeration, hops, sync and the frame-number jump, heartbeats, CHAIN records, tags, breaks,
the radio path, forwarding at the root, the CW registers, and the commands of the family but for FORWARD_REQUEST. -/

namespace Sys2Proof.Machine

/-! Roles (R350, R356, R357). -/

/-- The module acts as with MODE = 0: no Causeway key, or RETIRED (R350). -/
def noKey (b : Block) : Bool := b.lc.keyCw.isNone || lifeIs b .retired

/-- MODE as it acts. -/
def cwMode (b : Block) : Nat := if noKey b then 0 else b.cw.mode

/-- CW_STATUS.ROLE_ACT: 0 standalone root, 1 root, 2 follower, 3 UNASSIGNED. -/
def roleAct (b : Block) : Nat := getF b F.CW_STATUS_ROLE_ACT

/-- The root of a chain that does not act as a repeater (R357). -/
def isRoot (b : Block) : Bool := decide (cwMode b ≠ 0) && roleAct b == 1 && !isF b F.CW_STATUS_CONFLICT

/-- A follower with an address. -/
def isFollower (b : Block) : Bool := decide (cwMode b ≠ 0) && roleAct b == 2

/-- The wired ports are in use. -/
def wired (b : Block) : Bool := cwMode b == 1 || cwMode b == 2

/-- The radio is in use. -/
def radioUsed (b : Block) : Bool := cwMode b == 1 || cwMode b == 3

/-- The module passes on what travels on the ring (R356, R357, R362): a follower, an UNASSIGNED module, a root in conflict. -/
def passesOn (b : Block) : Bool := wired b && !isRoot b && roleAct b != 0

/-- No CHAIN record travels (R354): the root enumerates, or the module has had a token within the 5 ms in which an enumeration ends (DESIGN CHOICE, log entry 38: a follower is not
told of the end). -/
def enumerating (b : Block) : Bool := isF b F.CW_STATUS_ENUM_BUSY || b.cw.tokenAt.any fun d => decide (devF b < d + 100)

/-- The module has the sync that a packet of its own needs (R377). -/
def cwSynced (b : Block) : Bool := isRoot b || isF b F.CW_STATUS_LOCKED || isF b F.CW_STATUS_SYNC_RADIO

/-- RADIO_LOSS (R379); a follower that hears the root no longer is not locked to it by radio. -/
def radioLoss (b : Block) : Block :=
  let on := decide (10 ≤ b.cw.sfNone) && radioUsed b && (isFollower b || (isRoot b && !b.cw.nodes.isEmpty))
  let b := when (on && isFollower b) (setF F.CW_STATUS_SYNC_RADIO 0) b
  if on || condOf b Slot.cwRadio != {} then setLevel Slot.cwRadio on 0 b else b

/-- A block reset of the radio (R465): it is off until the next superframe. -/
def radioReset (b : Block) : Block :=
  setF F.CW_RF_STATUS_ACTIVE 0 { b with cw := { b.cw with sfHeard := [], sfNone := 0, sfOn := false, txAt := none, radio := [] } }

/-- The module uses the radio no longer (R350, R356, R357). -/
def radioOff (b : Block) : Block := radioLoss (radioReset b)

/-- The identifier found for address `a` is the expected one, or any will do (R355). -/
def idOk (b : Block) (a : Nat) : Bool := getR b (R.CW_EXPECT_ID a) == 0 || getR b (R.CW_EXPECT_ID a) == getR b (R.CW_NODE_ID a)

/-- ID_OK, CW_TOPO and CW_OVERFLOW follow the topology at the root (R355, R356). -/
def topoLevels (b : Block) : Block :=
  let root := decide (cwMode b ≠ 0) && roleAct b == 1
  let b := when root (each b.cw.nodes (fun a b => putF (F.CW_NODE_STATUS_ID_OK a) (idOk b a) b)) b
  let n := getF b F.CW_STATUS_N_FOLLOW
  let unas := getF b F.CW_TOPO_N_UNASSIGNED
  let beyond := root && n == 31 && decide (1 ≤ unas)
  let b := putF F.CW_STATUS_OVERFLOW beyond b
  let bad := if root then b.cw.nodes.filter fun a => !isF b (F.CW_NODE_STATUS_ID_OK a) else []
  let want := getF b F.CW_TOPO_N_EXPECT
  let topo := root && (!bad.isEmpty || (want != 0 && want != n) || (decide (0 < unas) && !beyond))
  let b := if beyond || condOf b Slot.cwOverflow != {} then setLevel Slot.cwOverflow beyond 0 b else b
  if topo || condOf b Slot.cwTopo != {} then setLevel Slot.cwTopo topo (bad.foldl (fun m a => m + 2 ^ a) 0) b else b

/-- The Causeway stands as with MODE = 0: no address, no follower, no profile. An access of CW_FWD_CTL that waits goes on to its timeout (R380). -/
def cwOff (b : Block) : Block :=
  let b := { b with cw := { mode := b.cw.mode, root := b.cw.root, maxRate := b.cw.maxRate, jumpAt := b.cw.jumpAt, ofsOld := b.cw.ofsOld, fwd := b.cw.fwd } }
  let b := setR R.CW_STATUS (resetWord R.CW_STATUS) (setR R.CW_RF_STATUS 0 b)
  let b := each (span 1 31) (fun a b => setR (R.CW_NODE_STATUS a) 0 (setR (R.CW_NODE_ID a) 0 b)) b
  let b := each (List.range 32) (fun h b => setR (R.CW_HOP_STATUS h) 0 b) (setF F.CW_TOPO_N_UNASSIGNED 0 b)
  let slots := (List.range 8).map (Slot.cwBreak + ·) ++ (span 1 31).map Slot.cwHbLost
  each slots (fun i b => if condOf b i = {} then b else setLevel i false 0 b) b

/-- MODE, ROLE and MAX_RATE of CW_CTL take effect (R350). -/
def cwAdopt (b : Block) : Block :=
  let b := { b with cw := { b.cw with mode := getF b F.CW_CTL_MODE, root := isF b F.CW_CTL_ROLE, maxRate := getF b F.CW_CTL_MAX_RATE } }
  if cwMode b = 0 then cwOff b
  else
    let b := if b.cw.root then setF F.CW_STATUS_ROLE_ACT 1 (setF F.CW_STATUS_ADDR 0 b)
      else topoLevels (if roleAct b = 2 then b else setF F.CW_STATUS_ROLE_ACT 3 b)
    when (!radioUsed b) radioOff b

/-! Tags (R374). -/

/-- Four bytes of a number, low byte first. -/
def le4 (n : Nat) : List Nat := bytesOfWord (w32 n)

/-- The tag of a message (R374). -/
def cwTag (b : Block) (fr sender kind : Nat) (content : List Nat) : List Nat :=
  let mac := cmac (b.lc.keyCw.getD []) (le4 fr ++ [sender, kind] ++ content)
  (List.range 4).map fun i => mac.getD i 0 % 256

/-- The tag passes with the expected frame number or the one before it. -/
def tagPasses (b : Block) (fr sender kind : Nat) (content tag : List Nat) : Bool :=
  tag == cwTag b fr sender kind content || (kind != 6 && tag == cwTag b ((fr + 2 ^ 32 - 1) % 2 ^ 32) sender kind content)

/-- The bytes of a CHAIN record as its tag covers them: its words, low byte first. -/
def recBytes (r : Rec) : List Nat := (recWords r).flatMap bytesOfWord

/-- A CHAIN record of the module's own goes onto the wire with its tag. -/
def sendRecord (r : Rec) (b : Block) : Block := emitOut (.chainRecord r (cwTag b (frame b) (getF b F.CW_STATUS_ADDR) 2 (recBytes r))) b

/-- An enumeration token leaves the module with address `sender`: NEXT, UNAS and the tag (R354, R374). -/
def sendToken (sender next unas : Nat) (b : Block) : Block :=
  emitOut (.causeway .token ([next, unas] ++ cwTag b 0 sender 6 [next, unas])) b

/-! Tags received (R375). -/

/-- Frames in a row in which a sender's tags failed, after one more failure now. -/
def tagRun (b : Block) (a : Nat) : Nat :=
  let (d, n) := mapGet (fun _ => (0, 0)) b.cw.tagFails a
  if n = 0 then 1 else if d = devF b then n else if d + 1 = devF b then n + 1 else 1

/-- A message of `a` passes: CW_AUTH no longer holds for it. -/
def tagGood (a : Nat) (b : Block) : Block :=
  let b := { b with cw := { b.cw with tagFails := mapPut (fun _ => (0, 0)) b.cw.tagFails a (0, 0) } }
  if condOf b Slot.cwAuth = {} then b else levelBit Slot.cwAuth a false b

/-- A message of `a` fails its tag and is discarded: counted, and CW_AUTH in the fourth frame in a row. -/
def tagBad (a : Nat) (b : Block) : Block :=
  let n := tagRun b a
  let b := count 0x42 1 { addr := some a } { b with cw := { b.cw with tagFails := mapPut (fun _ => (0, 0)) b.cw.tagFails a (devF b, n) } }
  when (decide (4 ≤ n)) (levelBit Slot.cwAuth a true) b

/-- Frames that a message of type `kind` can be on its way (R352): at 25 MBd a CHAIN record lasts 168 µs and a forward request of sixteen operations 54 µs. Within them the
receiver reckons the frame in which sending began (DEDUCED, log entry 38). -/
def tagReach (kind : Nat) : Nat := if kind = 2 then 4 else 2

/-- The tag of a message passes, as the receiver reckons its frame (R374). -/
def tagFits (b : Block) (a kind : Nat) (content : List Nat) (t : Tagged) : Bool :=
  (kind == 6 || decide (t.ago ≤ tagReach kind)) && tagPasses b (if kind = 6 then 0 else frame b - t.ago) a kind content (t.tag.map (·.toNat))

/-- A message of type `kind` from `a` does `go` where its tag passes, and is else discarded (R374, R375). -/
def tagged (a kind : Nat) (content : List Nat) (t : Tagged) (go : Block → Block) (b : Block) : Block :=
  if tagFits b a kind content t then go (tagGood a b) else tagBad a b

/-! Hops (R351, R353, R369, R371). -/

def cwHop (b : Block) (h : Nat) : CwHop := mapGet (fun _ => {}) b.cw.hops h

/-- Hop `h` replaced, with its register where it has one. -/
def putCwHop (h : Nat) (x : CwHop) (b : Block) : Block :=
  let b := { b with cw := { b.cw with hops := mapPut (fun _ => {}) b.cw.hops h x } }
  if 31 < h then b else
  setF (F.CW_HOP_STATUS_RATE h) x.rate (putF (F.CW_HOP_STATUS_TRAINED h) x.trained (putF (F.CW_HOP_STATUS_FWD_BROKEN h) x.fwdBroken
    (putF (F.CW_HOP_STATUS_RET_BROKEN h) x.retBroken b)))

/-- Hops of the ring that do not carry. -/
def cwBroken (b : Block) : List Nat :=
  (List.range (b.cw.modules + 1)).filter fun h => let x := cwHop b h; x.fwdBroken || x.retBroken || !x.trained

/-- The position of address `a` (R351): those that the root has numbered stand in ring order. -/
def cwPos (b : Block) (a : Nat) : Nat := (b.cw.nodes.takeWhile (· != a)).length + 1

/-- Address `a` can be reached over the wire from one port or the other (R371). -/
def wiredReach (b : Block) (a : Nat) : Bool :=
  wired b && b.cw.nodes.contains a && ((cwBroken b).all (fun h => decide (cwPos b a ≤ h)) || (cwBroken b).all fun h => decide (h < cwPos b a))

/-- Address `a` is reachable only by radio. -/
def radioOnly (b : Block) (a : Nat) : Bool := isF b (F.CW_NODE_STATUS_RADIO a)

/-- CW_BREAK follows the ring: live until routing is restored, with the broken hops. -/
def breakLevel (b : Block) : Block :=
  let on := isF b F.CW_STATUS_REVERSED && roleAct b == 1
  if !on ∧ condOf b Slot.cwBreak = {} then b
  else setLevel Slot.cwBreak on ((cwBroken b).foldl (fun m h => m ||| 2 ^ min h 31) 0) b

/-- A break is declared at the root: counted, and shown by CW_BREAK and REVERSED from the next frame on (R369). -/
def breakDeclared (b : Block) : Block := count 0x44 1 {} (addF F.CW_EVT_CNT_BREAKS 1 { b with cw := { b.cw with breakOwed := true } })

/-- At a frame tick a break of the last frame shows (R369). -/
def breakShow (b : Block) : Block :=
  if !b.cw.breakOwed then b else breakLevel (setF F.CW_STATUS_REVERSED 1 { b with cw := { b.cw with breakOwed := false } })

/-- The type byte of a break notice: every message carries a tag, and R374 lists no type for this one (log entry 38). -/
def noticeKind : Nat := Config.unstated 67 [] % 256

/-- CW_HOP_BREAK (R369): a direction of a hop is declared broken. A follower next to it reverses and resends what the root has not acknowledged. -/
def cwHopBreak (h : Nat) (fwd : Bool) (b : Block) : Block :=
  if !wired b then b
  else if isRoot b then
    let x := cwHop b h
    if b.cw.modules < h || (if fwd then x.fwdBroken else x.retBroken) then b else
    let x := { x with fwdBroken := x.fwdBroken || fwd, retBroken := x.retBroken || !fwd, trained := false, since := devF b }
    breakDeclared (putCwHop h x b)
  else
    let note := h :: cwTag b (frame b) (getF b F.CW_STATUS_ADDR) noticeKind [h]
    let b := emitOut (.causeway .breakNotice note) (setF F.CW_STATUS_REVERSED 1 b)
    match b.cw.kept with
    | some r => when (!enumerating b) (sendRecord { r with rerouted := true }) b
    | none => b

/-- This module is an end of hop `h` (R351): the root of the first and the last; another module trains no hop but its own. -/
def hopEnd (b : Block) (h : Nat) : Bool := roleAct b != 1 || h == 0 || h == b.cw.modules

/-- CW_HOP_TRAINING (R353): a hop trains from the slower advertised rate on; `fails` rates fail before one passes, and where none does the hop is broken. `peer`: the slower of
what the ends other than this module advertise. -/
def hopTraining (h peer fails : Nat) (b : Block) : Block :=
  if !wired b || (roleAct b == 1 && decide (b.cw.modules < h)) then b else
  let x := cwHop b h
  let r := (if hopEnd b h then max b.cw.maxRate peer else peer) + fails
  if r ≤ 3 then breakLevel (putCwHop h { fwdBroken := false, retBroken := false, trained := true, rate := r, since := if x.trained then x.since else devF b } b)
  else
    let b := putCwHop h { x with fwdBroken := true, retBroken := true, trained := false } b
    when (isRoot b && !(x.fwdBroken || x.retBroken)) breakDeclared b

/-- Code violations of a hop are counted, and its error-free frames begin anew (R371, R383). -/
def hopErrors (h n : Nat) (b : Block) : Block :=
  if n = 0 || b.cw.modules < h then b else
  let b := putCwHop h { cwHop b h with since := devF b } b
  if 31 < h then b else addF (F.CW_HOP_STATUS_CV h) n b

/-- R353: at the chain tick after RENEG every hop is to be trained again; until then the ring is as if they were broken. -/
def renegTick (b : Block) : Block :=
  if !b.cw.reneg || frame b % 20 ≠ 0 then b else
  let b := { b with cw := { b.cw with reneg := false } }
  let b := each (List.range (b.cw.modules + 1)) (fun h b => putCwHop h { cwHop b h with trained := false, since := devF b } b) b
  breakLevel (setF F.CW_STATUS_REVERSED 1 b)

/-- At a chain tick (R371) forward routing is restored once every hop is trained and has been error-free, and every follower can be reached. -/
def routeRestore (b : Block) : Block :=
  let n := max 100 (getF b F.CW_CTL_RESTORE)
  let good := (List.range (b.cw.modules + 1)).all fun h => (cwHop b h).trained && decide ((cwHop b h).since + n ≤ devF b)
  if !isRoot b || !isF b F.CW_STATUS_REVERSED || frame b % 20 ≠ 0 || !good || !b.cw.nodes.all (wiredReach b) then b
  else breakLevel (addF F.CW_EVT_CNT_RESTORES 1 (setF F.CW_STATUS_REVERSED 0 b))

/-- CW_ROUTE_RESTORE (R371), as the root finds it or, at any other module, as the root brings it about. -/
def routeRestored (b : Block) : Block :=
  if wired b && decide (2 ≤ roleAct b) && decide (frame b % 20 = 0) then setF F.CW_STATUS_REVERSED 0 b else routeRestore b

/-- A CW block reset (R382, R465): broken hops train again; addresses and routing stay. -/
def cwReset (b : Block) : Block := each (cwBroken b) (fun h b => putCwHop h { cwHop b h with since := devF b } b) b

/-- The rate codes of the hops that work (R353). -/
def hopRates (b : Block) : List Nat := ((List.range (b.cw.modules + 1)).filter fun h => (cwHop b h).trained).map fun h => (cwHop b h).rate

/-- The rate code of the slowest working hop (R365, R383); 0 with none. -/
def slowRate (b : Block) : Nat := if wired b then (hopRates b).foldl max 0 else 0

/-- CW_PROFILE_CHANGE (R365): at a chain tick whose number is a multiple of 10 the slowest working hop sets the profile; a follower learns its rate from the root. -/
def profileChange (told : Nat) (b : Block) : Block :=
  if !framesRun b || frame b % 200 ≠ 0 || !(isRoot b || isFollower b) then b else
  let slow := if isRoot b then slowRate b else told
  let none_ := !wired b || (isRoot b && (hopRates b).isEmpty)
  let p := if none_ then 3 else min slow 2
  let b := setF F.CW_STATUS_SLOW_RATE (if none_ then 0 else slow) b
  if p = getF b F.CW_STATUS_PROFILE then b else event 0x15 p 0 0 0 (setF F.CW_STATUS_PROFILE p b)

/-! Enumeration (R354, R355). -/

/-- What an enumeration finds where nothing outside says otherwise: the chain as it stands (log entry 18). -/
def sameChain (b : Block) : CwEnum :=
  let cut := cwBroken b
  let lo := cut.foldl min (b.cw.modules + 1)
  let hi := cut.foldl max 0
  { north := Fin.ofNat 32 ((b.cw.nodes.filter fun a => decide (cut = [] ∨ cwPos b a ≤ lo)).length)
    whole := cut.isEmpty
    unas := BitVec.ofNat 6 (getF b F.CW_TOPO_N_UNASSIGNED)
    south := Fin.ofNat 32 ((b.cw.nodes.filter fun a => decide (hi < cwPos b a)).length)
    ids := (span 1 31).map fun a => getR b (R.CW_NODE_ID a)
    rates := (List.range (b.cw.modules + 1)).map fun h => BitVec.ofNat 2 (cwHop b h).rate }

/-- NEXT of the token that leaves the south port (R354 step 4). -/
def southNext (b : Block) : Nat := if getF b F.CW_TOPO_N_EXPECT = 0 then 31 else min 31 (getF b F.CW_TOPO_N_EXPECT)

/-- An enumeration ends at the root with what it has found (R354). Where the token from the north port does not come back, the ring is cut behind the followers it has numbered:
the root knows the modules that either token has reached, in ring order, and the hop between the two groups is broken (R351, R369). A hop carries the rate it trained
at, not faster than its ends advertise (R353). -/
def cwEnumEnd (e : CwEnum) (b : Block) : Block :=
  let b := { b with cw := { b.cw with enumRun := none } }
  let north := e.north.val
  let start := southNext b
  let got := min e.south.val (start - north)
  let south := if e.whole then [] else span (start + 1 - got) start
  let nodes := span 1 north ++ south
  let unas := if e.whole then e.unas.toNat else 0
  let modules := if e.whole then north + unas else north + got
  let b := { b with cw := { b.cw with nodes := nodes, modules := modules, heard := [], radio := [], hops := b.cw.hops.filter fun x => decide (x.1 ≤ modules) } }
  let b := each (List.range 32) (fun h b => when (decide (modules < h)) (setR (R.CW_HOP_STATUS h) 0) b) b
  let b := each (List.range (modules + 1)) (fun h b =>
    let x := cwHop b h
    let found := match e.rates[h]? with
      | some r => r.toNat
      | none => x.rate
    putCwHop h (if e.whole || h != north then { fwdBroken := false, retBroken := false, trained := true, rate := if hopEnd b h then max found b.cw.maxRate else found,
                                                since := if x.trained then x.since else devF b }
      else { x with fwdBroken := true, retBroken := true, trained := false, since := devF b }) b) b
  let b := putF F.CW_STATUS_REVERSED (!e.whole) (setF F.CW_STATUS_N_FOLLOW nodes.length b)
  let b := when e.whole (setF F.CW_TOPO_N_UNASSIGNED unas) b
  let b := each (span 1 31) (fun a b =>
    let on := nodes.contains a
    setR (R.CW_NODE_ID a) (if on then e.ids.getD (a - 1) 0 else 0) (putF (F.CW_NODE_STATUS_PRESENT a) on (setR (R.CW_NODE_STATUS a) 0 b))) b
  let b := each ((span 1 31).filter fun a => condOf b (Slot.cwHbLost a) != {}) (fun a => setLevel (Slot.cwHbLost a) false 0) b
  let b := if condOf b Slot.cwNodeFault = {} then b else setLevel Slot.cwNodeFault false 0 b
  breakLevel (topoLevels (setF F.CW_STATUS_ENUM_BUSY 0 b))

/-- The root begins to number the chain (R354): a token leaves the north port, and where it does not come back, 1 ms later one leaves the south port. The model ends an
enumeration at the next frame tick where the first token comes back, else at the second tick after the other was sent (log entry 38). -/
def cwEnumerate (e : CwEnum) (b : Block) : Block :=
  let b := cwAdopt b
  if roleAct b ≠ 1 ∨ cwMode b = 0 then b else
  let b := setLevel Slot.cwConflict false 0 (setF F.CW_STATUS_ENUM_BUSY 1 (setF F.CW_STATUS_CONFLICT 0 b))
  sendToken 0 1 0 { b with cw := { b.cw with enumRun := some (devF b + (if e.whole then 1 else 22), e) } }

/-- An enumeration in progress at a frame tick. -/
def cwEnumTick (b : Block) : Block :=
  match b.cw.enumRun with
  | none => b
  | some (d, e) =>
    if d ≤ devF b then cwEnumEnd e b
    else if !e.whole && d == devF b + 2 then sendToken 0 (southNext b) 0 b
    else b

/-- CW_CTL.LEARN = 1 (R354). -/
def cwLearn (b : Block) : Block :=
  let b := setF F.CW_TOPO_N_EXPECT (getF b F.CW_STATUS_N_FOLLOW) b
  topoLevels (each (span 1 31) (fun a b => setR (R.CW_EXPECT_ID a) (getR b (R.CW_NODE_ID a)) b) b)

/-- A write of CW_CTL (R353, R354, R381, R383). -/
def writeCwCtl (v : Word) (e : Option CwEnum) (b : Block) : Block :=
  let b := writeBits R.CW_CTL v b
  let b := when (bitOf v.toNat 12) (fun b => cwEnumerate (e.getD (sameChain b)) b) b
  let b := when (bitOf v.toNat 13) cwLearn b
  let b := when (bitOf v.toNat 14 && isRoot b) (fun b => { b with cw := { b.cw with reneg := true } }) b
  when (bitOf v.toNat 15 && wired b) (emitOut (.causeway .wakeTone [])) b

/-- R357: another root is on the ring: the module acts as a repeater. -/
def cwConflict (b : Block) : Block := radioOff (setLevel Slot.cwConflict true 0 (setF F.CW_STATUS_CONFLICT 1 b))

/-- The module takes `next` as its address and reports its identifier, which the spec gives no value (R354 steps 2 and 5). -/
def takeAddress (next : Nat) (b : Block) : Block :=
  let id := Config.unstated 59 [] % 2 ^ 32
  let b := { b with cw := { b.cw with lastSync := devF b } }
  emitOut (.causeway .identifier (next :: id :: cwTag b 0 next 6 (next :: le4 id))) (setF F.CW_STATUS_ADDR next (setF F.CW_STATUS_ROLE_ACT 2 b))

/-- CW_ENUM_TOKEN (R350, R354, R357): a token reaches the module from the north (a new enumeration) or, where that one has not numbered it, from the south, where its routing is
the reversed one. A root that has not sent it is in conflict and passes it on. A module that was written MODE 0 is off from here on, and a follower written ROLE 1 is a
root, which another root has numbered. A token whose tag fails is discarded. -/
def enumToken (south : Bool) (sender next unas : Nat) (b : Block) : Block :=
  let b0 := b
  let mode := if noKey b then 0 else getF b F.CW_CTL_MODE
  if roleAct b = 1 ∧ cwMode b ≠ 0 then sendToken sender next unas (cwConflict b)
  else if cwMode b = 0 ∧ (mode = 0 ∨ isF b F.CW_CTL_ROLE) then b
  else if south && b.cw.tokenAt.any (fun d => decide (devF b0 ≤ d + 100)) then b
  else
    let b := cwAdopt b
    if cwMode b = 0 then b
    else if roleAct b = 1 then sendToken sender next unas (cwConflict b) else
    let b := putF F.CW_STATUS_REVERSED south { b with cw := { b.cw with tokenAt := some (devF b) } }
    if south then
      if next = 0 ∨ 31 < next then b
      else
        let b := takeAddress next b
        if next = 1 then b else sendToken next (next - 1) unas b
    else if 1 ≤ next ∧ next ≤ 31 then sendToken next (next + 1) unas (takeAddress next b)
    else sendToken sender next (min 63 (unas + 1)) (radioOff (setF F.CW_STATUS_ADDR 0 (setF F.CW_STATUS_ROLE_ACT 3 { b with cw := { b.cw with kept := none, chars := [], syncs := [] } })))

/-! Messages and tags (R362, R374, R375). -/

/-- HB_SEV (R362): 3, 2 or 1 for S3, S2, S1, else 0. -/
def hbSev (b : Block) : Nat := sevPlus b - 1

/-- The module's own heartbeat character. -/
def ownChar (b : Block) : Nat := getF b F.CW_STATUS_ADDR * 8 + nat01 (inSafe b) * 4 + hbSev b

/-- The heartbeat character is sent where the HBT wave runs (R362). -/
def sendChar (b : Block) : Block :=
  if !hbtWave b then b
  else emitOut (.causeway .heartbeat [ownChar b]) { b with cw := { b.cw with chars := b.cw.chars ++ [ownChar b] } }

/-- At a chain tick: the tag over what was sent in the previous one (R375). -/
def sendTag (b : Block) : Block :=
  let content := b.cw.chars ++ b.cw.syncs
  let b := { b with cw := { b.cw with chars := [], syncs := [] } }
  if content.isEmpty then b else emitOut (.causeway .tag (cwTag b (frame b) (getF b F.CW_STATUS_ADDR) 1 content)) b

/-! Heartbeats at the root (R372, R373). -/

/-- A heartbeat of `a` is missing, `n` times over: counted, and CW_HB_LOST[a] at the limit. -/
def hbMiss (a n limit : Nat) (b : Block) : Block :=
  let b := count 0x40 n { addr := some a } (addF (F.CW_NODE_STATUS_HB_MISS a) n (setF (F.CW_NODE_STATUS_HB_OK a) 0 b))
  if limit ≤ getF b (F.CW_NODE_STATUS_HB_MISS a) then setLevel (Slot.cwHbLost a) true 0 b else b

/-- WIRE_MISS and RADIO_MISS as they act. -/
def hbLimit (b : Block) (radio : Bool) : Nat := if radio then max 1 (getF b F.CW_HB_CTL_RADIO_MISS) else max 2 (getF b F.CW_HB_CTL_WIRE_MISS)

/-- A heartbeat of `a` arrives, wired or by radio. -/
def heartbeat (a : Nat) (fault : Bool) (sev : Nat) (b : Block) : Block :=
  let b := setF (F.CW_NODE_STATUS_HB_SEV a) sev (putF (F.CW_NODE_STATUS_FAULT a) fault (setF (F.CW_NODE_STATUS_HB_OK a) 1 (setF (F.CW_NODE_STATUS_HB_MISS a) 0 b)))
  let b := if condOf b (Slot.cwHbLost a) = {} then b else setLevel (Slot.cwHbLost a) false 0 b
  if fault || condOf b Slot.cwNodeFault != {} then levelBit Slot.cwNodeFault a fault b else b

/-- HEARTBEAT_RECEIVE (R356, R362, R372, R373): a follower's character reaches the root, or a module that passes it on. -/
def heartbeatReceive (a : Nat) (fault : Bool) (sev : Nat) (b : Block) : Block :=
  if passesOn b then emitOut (.causeway .heartbeat [a * 8 + nat01 fault * 4 + sev]) b
  else if !isRoot b || !wired b || !b.cw.nodes.contains a then b
  else heartbeat a fault sev { b with cw := { b.cw with heard := addOnce a b.cw.heard } }

/-- At a frame tick: followers that the wire reaches whose character did not come in the frame that ended (R372), those too whose RADIO stands until the superframe ends;
in MODE 2 those that the wire has lost count as well (R371). -/
def hbTick (b : Block) : Block :=
  let out := b.cw.nodes.filter fun a => (wiredReach b a || !radioOnly b a) && !b.cw.heard.contains a
  let due := out.filter fun a => wiredReach b a || cwMode b == 2
  let b := each out (fun a => setF (F.CW_NODE_STATUS_HB_OK a) 0) { b with cw := { b.cw with heard := [] } }
  each due (fun a b => hbMiss a 1 (hbLimit b false) b) b

/-- CW_HB_LOST (R372): the source of address `a` follows its count. -/
def hbLost (a : Nat) (b : Block) : Block :=
  if isRoot b && b.cw.nodes.contains a && decide (hbLimit b (radioOnly b a && !wiredReach b a) ≤ getF b (F.CW_NODE_STATUS_HB_MISS a)) then setLevel (Slot.cwHbLost a) true 0 b else b

/-! CHAIN records (R363 to R368). -/

/-- A follower's record as the module receives it. -/
def recvRec (r : ChainRecord) : Rec := { typ := 0x07, node := r.node.val, rerouted := r.resent, frame := r.frame.toNat, payload := r.payload }

/-- The root completes a follower's record (R364, R370, R373). -/
def chainComplete (r : Rec) (b : Block) : Block :=
  let a := r.node
  let rec_ : Rec := { r with rerouted := r.rerouted || !(cwBroken b).isEmpty }
  let done := mapPut (fun _ => 0) b.cw.done a (r.frame + 1)
  let b := { b with cw := { b.cw with done := done, acks := addOnce a b.cw.acks, inbox := b.cw.inbox ++ [(devF b, rec_)] } }
  count 0x41 1 { addr := some a } (setF (F.CW_NODE_STATUS_SEV a) (bitsOf (r.payload.getD 0 0).toNat 12 4) b)

/-- CHAIN_RECORD_RECEIVE (R356, R363, R364, R374, R375): the root completes a follower's record that passes its tag, and discards a second copy; any other module passes the
record on. No CHAIN record travels during an enumeration (R354). -/
def chainReceive (r : ChainRecord) (b : Block) : Block :=
  let x := recvRec r
  if !wired b || enumerating b || roleAct b = 0 then b
  else if !isRoot b then emitOut (.chainRecord x (r.tagged.tag.map (·.toNat))) b
  else if !b.cw.nodes.contains x.node || mapGet (fun _ => 0) b.cw.done x.node = x.frame + 1 then b
  else if tagFits b x.node 2 (recBytes x) r.tagged then chainComplete x (tagGood x.node b)
  else tagBad x.node { b with cw := { b.cw with lossOwed := true } }

/-- Records completed in earlier frames are placed in this one (R363). -/
def inboxTick (b : Block) : Block :=
  let due := b.cw.inbox.filter fun x => decide (x.1 < devF b)
  let b := { b with cw := { b.cw with inbox := b.cw.inbox.filter fun x => !decide (x.1 < devF b) } }
  each due (fun x => queueRec x.2) b

/-- The CHAIN word of channel `ch` (0 to 193) from what an interval gathered (R367). -/
def chainWord (b : Block) (j : ChainJob) (i : CwInterval) (ch : Nat) : Nat :=
  let (sum, n) := mapGet (fun _ => (0, 0)) i.sums ch
  let cell := ch + 1
  let isCell := decide (ch < 192)
  let ovr := i.ovr.contains ch
  let absent := isCell && !present b cell
  let sent := if (mapGet (fun _ => (0, false)) b.fe.lastOvr ch).2 then 0x7FFFFF else 0x800000
  let code := if ovr then sent else unsigned 24 (clampInt (-8388607) 8388606 (published (400 + ch) ((sum : Rat) / (n : Rat))))
  let ow := isCell && owLive (popIn b.act) b cell
  let cmp := isCell && j.corr.any (·.1 == cell)
  let chk := if isCell then b.fe.chkBad.contains cell else b.fe.plBad
  mkWord code ovr ow (i.bal.contains ch) cmp false (i.setl.contains ch) chk (absent || (n = 0 && !ovr))

/-- The packed value of a cell word (R368). -/
def packWord (w : Nat) : Nat :=
  let code := signed 24 (w / 256)
  if w % 2 = 1 then 0xFFFF
  else if bitOf w 7 then 0xFFFE
  else if bitOf w 6 || bitOf w 1 then 0xFFFD
  else if code ≤ 0 then 0
  else min 0xFFFC (roundDiv code 100).toNat

/-- One chain tick added to an interval, its averages in force. -/
def addTick (b : Block) (j : ChainJob) (i : CwInterval) : CwInterval :=
  let sums := ((presentCells b).map (· - 1) ++ [192, 193]).foldl (fun m ch =>
    if b.fe.avgOk.contains (ch + 1) then
      let (s, n) := mapGet (fun _ => (0, 0)) m ch
      mapPut (fun _ => (0, 0)) m ch (s + mapGet (fun _ => 0) b.fe.avg (ch + 1), n + 1)
    else m) i.sums
  let join := fun (new old : List Nat) => (new.filter fun x => !old.contains x) ++ old
  let (amps, k) := match packAmps j.set b with
    | some x => (i.amps + x, i.ampTicks + 1)
    | none => (i.amps, i.ampTicks)
  { i with
    ticks := i.ticks + 1, sums := sums, amps := amps, ampTicks := k
    ovr := join j.ovr i.ovr
    bal := join j.bal i.bal
    setl := join j.setl i.setl
    balTiers := j.bal.foldl (fun l ch => addOnce (ch / 12) l) i.balTiers
    missed := j.missed.foldl (fun l t => addOnce t l) i.missed
    late := i.late || j.late
    unlocked := i.unlocked || j.unlocked }

/-- Chain ticks of an interval by profile (R365). -/
def profileTicks (p : Nat) : Nat := if p = 0 then 1 else if p = 1 then 2 else if p = 2 then 10 else 0

/-- The record of an interval (R366). -/
def chainRec (b : Block) (j : ChainJob) (i : CwInterval) : Rec :=
  let ws := (List.range 194).map (chainWord b j i)
  let amp := if i.ampTicks = 0 then w32 (Config.unstated 60 []) else w32 (unsigned 32 (published 60 (i.amps / (i.ampTicks : Rat) * 100)))
  let head := i.profile * 2 ^ 30 + nat01 i.late * 2 ^ 28 + nat01 i.unlocked * 2 ^ 27 + nat01 (inSafe b) * 2 ^ 26 + i.ticks * 2 ^ 16 + sevPlus b * 2 ^ 12
  let tiers := tierBits i.balTiers * 2 ^ 16 + tierBits ((List.range 16).filter fun t => !i.missed.contains t)
  let body := if i.profile = 2 then
      (List.range 96).map (fun k => w32 (packWord (ws.getD (2 * k) 1) + packWord (ws.getD (2 * k + 1) 1) * 65536)) ++ [w32 (ws.getD 192 1), w32 (ws.getD 193 1)]
    else ws.map w32
  { typ := 0x07, node := ownNode b, frame := i.from_, payload := [w32 head, w32 tiers, getR b (R.FE_VDIV 1), amp] ++ body }

/-- The chain tick's part of the Causeway, after its averages (R363, R366, R377): the interval grows and, when it is whole or a jump ends it, its record goes into the module's
own CHAIN stream and, from a follower, onto the wire. Packets of the radio carry the values of the last chain tick before their superframe. -/
def chainTickCw (j : ChainJob) (b : Block) : Block :=
  if cwMode b = 0 ∨ roleAct b = 3 then b else
  let one := addTick b j {}
  let packed := (List.range 192).map fun ch => packWord (chainWord b j one ch)
  let tiers := tierBits one.balTiers * 65536 + tierBits ((List.range 16).filter fun t => !one.missed.contains t)
  let b := when (decide (j.frameNo % 200 = 0)) (fun b => { b with cw := { b.cw with packed := packed, tiers := tiers } }) b
  let i := if b.cw.acc.ticks = 0 then { profile := j.profile, from_ := j.frameNo - j.len } else b.cw.acc
  let i := addTick b j i
  let n := profileTicks i.profile
  if n = 0 then { b with cw := { b.cw with acc := {} } }
  else if !j.jump && decide (j.frameNo / 20 % n ≠ 0 ∧ i.ticks < n) then { b with cw := { b.cw with acc := i } }
  else
    let r := chainRec b j i
    let b := queueRec r { b with cw := { b.cw with acc := {} } }
    if !isFollower b then b
    else when (wired b && !enumerating b) (sendRecord r) { b with cw := { b.cw with kept := some r } }

/-! Loss of sync, and tags on their own (R361, R375). -/

/-- SYNC_LOSS (R361): a follower without sync for 20 frames, from the wire or by radio. -/
def syncLoss (b : Block) : Block :=
  if !isFollower b || isF b F.CW_STATUS_SYNC_RADIO || devF b < b.cw.lastSync + 20 then b
  else setLevel Slot.cwSync true 0 (setF F.CW_STATUS_LOCKED 0 { b with cw := { b.cw with locked := 0 } })

/-- CW_TAG_RECEIVE (R356, R374, R375): the tag of a message from `a` is checked; a heartbeat tag is passed on as its characters are. The other messages have rows of their own,
which pass them on. -/
def tagReceive (a kind : Nat) (content tag : List Nat) (b : Block) : Block :=
  let b := when (passesOn b && kind == 1) (emitOut (.causeway .tag tag)) b
  if !(isRoot b || isFollower b) then b else
  let fr := if kind = 6 then 0 else if kind = 1 then frame b - frame b % 20 else if kind = 5 then frame b - frame b % 200 else frame b
  if tagPasses b fr a kind content tag then tagGood a b
  else
    let b := tagBad a b
    if kind = 1 ∧ isRoot b then (if b.cw.nodes.contains a then hbMiss a 20 (hbLimit b false) b else b)
    else if kind = 1 ∧ a = 0 then
      let late := devF b - 20
      syncLoss { b with cw := { b.cw with locked := 0, lastSync := min b.cw.lastSync late } }
    else if kind = 2 ∧ isRoot b then { b with cw := { b.cw with lossOwed := true } }
    else b

/-! Sync (R358 to R361). -/

/-- SYNC_BLOCK (R356 to R358, R361, R362, R364): at a follower the clock is trimmed towards the root's tick, and the block goes on; a frame counts once towards LOCKED, by whichever
of its two blocks comes first. At a root its own block comes back, or another root's. -/
def syncBlock (x : SyncBlock) (b : Block) : Block :=
  if !wired b then b
  else if roleAct b = 3 then emitOut (.causeway .sync [x.frame.toNat, x.acks.toNat, min 63 (x.unas.toNat + 1)]) b
  else if roleAct b = 1 then
    if x.foreign then emitOut (.causeway .sync [x.frame.toNat, x.acks.toNat, x.unas.toNat]) (cwConflict b)
    else if isRoot b then each x.viol (fun v => hopErrors v.1.toNat v.2) (topoLevels (setF F.CW_TOPO_N_UNASSIGNED x.unas.toNat b))
    else b
  else if !isFollower b then b
  else
    let b := emitOut (.causeway .sync [x.frame.toNat, x.acks.toNat, x.unas.toNat]) b
    let kept := if bitOf x.acks.toNat (getF b F.CW_STATUS_ADDR) then none else b.cw.kept
    if b.cw.syncAt = some (devF b) then { b with cw := { b.cw with kept := kept } } else
    let row := if b.cw.syncAt.any fun d => devF b == d + 1 then b.cw.locked else 0
    let n := if x.phase.natAbs ≤ 100 then min 20 (row + 1) else 0
    let b := { b with cw := { b.cw with locked := n, lastSync := devF b, syncAt := some (devF b), kept := kept } }
    let b := setF F.CW_SYNC_PHASE (unsigned 16 (clampInt (-32768) 32767 x.phase)) (setF F.CW_SYNC_TRIM (unsigned 16 (clampInt (-5000) 5000 x.trim)) b)
    let b := when (n == 20) (setF F.CW_STATUS_LOCKED 1) (setF F.CW_STATUS_SYNC_RADIO 0 b)
    let b := if condOf b Slot.cwSync = {} then b else setLevel Slot.cwSync false 0 b
    sendChar b

/-- Capture rings keep their place in time across a jump of `shift` frames: CAP_TRIG_FRAME, where it shows a trigger frame, shows its new number (R360). -/
def jumpRing (shift r : Nat) (b : Block) : Block :=
  when (ringOf b r).trig.isSome (fun b => setR (R.CAP_TRIG_FRAME r) (w32 ((getR b (R.CAP_TRIG_FRAME r)).toNat + shift)) b) b

/-- The frame number jumps to `new` at the tick reached (R359, R360). The chain tick in progress ends, with the output whose window ends here (R151); what was keyed to the
old numbers follows. A layout step goes on (log entry 38). -/
def jumpNow (new : Nat) (b : Block) : Block :=
  let old := frame b
  let b := chainEnds true (jobsOvertaken { b with fe := { b.fe with outDue := outputDue b } })
  let b := when (decide (1 ≤ old % 20 ∧ old % 20 ≤ 2) && !b.fe.auxTiers.isEmpty) (auxClose (old - old % 20) (devF b - old % 20)) b
  let ofs := (new + 2 ^ 55 - devF b % 2 ^ 55) % 2 ^ 55
  let b := { b with
    cw := { b.cw with jumpAt := some (devF b), ofsOld := frameOfs b }
    fe := { b.fe with chkPend := [], quiet := none }
    fen := { b.fen with step := if b.fen.step.any (·.layout) then b.fen.step else none } }
  let b := setR R.CW_FRAME_OFS_HI (w32 (ofs / 2 ^ 32)) (setR R.CW_FRAME_OFS_LO (w32 ofs) b)
  let b := setlNow 0 193 false (event 0x16 0 0 (old % 2 ^ 32) (new % 2 ^ 32) b)
  each (List.range 8) (jumpRing ((new + 2 ^ 55 - old) % 2 ^ 55)) b

/-! Radio (R376 to R379). -/

/-- Channels enabled in a map. -/
def mapChannels (lo hi : Nat) : List Nat := (List.range 40).filter fun k => bitOf (if k < 32 then lo else hi) (k % 32)

/-- The channel of superframe `n`, and whether the map is bad (R376). -/
def radioChannel (b : Block) (n : Nat) : Nat × Bool :=
  let asked := mapChannels (getR b (R.CW_RF_CHMAP 0)).toNat (getR b (R.CW_RF_CHMAP 1)).toNat
  let bad := decide (asked.length < 8)
  let l := if bad then mapChannels 0xFFFFEFFE 0x7F else asked
  let hop := getF b F.CW_RF_CTL_HOP
  let step := if Nat.gcd hop l.length = 1 then hop else 1
  (l.getD (n * step % l.length) 0, bad)

/-- Entries of the last EST record as the EST window holds them: the words of each cell with one. -/
def estEntries (b : Block) : List (List Nat) :=
  if getR b R.EST_UPD = 0 then [] else
  ((span 1 192).map fun n => (List.range 5).map fun j => (getR b (R.EST_CELL n j)).toNat).filter fun e => e.getD 0 0 / 2 ^ 24 != 0

/-- Highest and lowest of two's complement half words; `none_` where there are none. -/
def span16 (xs : List Int) (none_ : Nat) : Nat × Nat :=
  match xs with
  | [] => (none_, none_)
  | x :: rest => (unsigned 16 (rest.foldl max x), unsigned 16 (rest.foldl min x))

/-- The string word of a kind (R378). -/
def stringWord (b : Block) (kind : Nat) : Nat :=
  let es := estEntries b
  let half := fun j hi => es.map fun e => signed 16 (if hi then e.getD j 0 / 65536 else e.getD j 0)
  let socs := es.map fun e => e.getD 0 0 % 65536
  let ntcs := ((List.range 16).flatMap fun t => [(getR b (R.FE_AUX_NTC t)).toNat % 65536, (getR b (R.FE_AUX_NTC t)).toNat / 65536]).filter (· != 0x8000)
  let rec_ := fun w => (getR b (R.EST_REC w)).toNat
  match kind with
  | 0 => match packAmps b.act b with
    | some x => unsigned 32 (published 61 (x * 100))
    | none => Config.unstated 60 [1] % 2 ^ 32
  | 1 => (getR b (R.FE_VDIV 1)).toNat
  | 2 => (getR b R.FE_STACK_SUM).toNat
  | 3 => b.cw.tiers
  | 4 => if es.isEmpty then 0xFFFFFFFF else socs.foldl min 65535 * 65536 + socs.foldl max 0
  | 5 => if es.isEmpty then Config.unstated 60 [5] % 2 ^ 32 else (span16 (half 1 true) 0).1 * 65536 + (span16 (half 1 false) 0).2
  | 6 => rec_ 10
  | 7 => rec_ 7
  | 8 => let (hi, lo) := span16 (ntcs.map fun x => signed 16 x) 0x8000; hi * 65536 + lo
  | _ => sevPlus b * 2 ^ 28

/-- The packet a module sends in its slot of superframe `n`, which began with frame `first` (R377): its bytes with the tag. -/
def radioBytes (b : Block) (n first : Nat) : List Nat :=
  let root := isRoot b
  let a := getF b F.CW_STATUS_ADDR
  let two := b.cw.phy = 0
  let reach := root || decide (devF b < b.cw.lastSync + 20)
  let head := [a * 8 + nat01 root, nat01 (inSafe b) * 128 + hbSev b * 32 + nat01 (reach && wired b) * 16, n % 256, n / 256 % 256]
  let size := if two then 20 else 4
  let cell := size * (n % (if two then 10 else 50))
  let body := if root then le4 first ++ le4 (b.cw.sfHeard.foldl (fun m a => m ||| 2 ^ a) 0) ++ List.replicate (if two then 36 else 4) 0
    else le4 (stringWord b (n % 10)) ++ (List.range size).flatMap fun i =>
      let v := b.cw.packed.getD (cell + i) 0xFFFF
      [v % 256, v / 256]
  let bytes := head ++ body
  bytes ++ cwTag b first a 5 bytes

/-- The SUMMARY record of a follower's radio cycle that ends (R378). The spec states neither LATE nor UNLOCKED of it, nor a string word that was not received (log entry 6). -/
def radioRec (b : Block) (a first ticks : Nat) : Rec :=
  let x := mapGet (fun _ => {}) b.cw.radio a
  let str := fun k => match x.strs.find? (·.1 == k) with
    | some y => y.2
    | none => Config.unstated 63 [a, first, k] % 2 ^ 32
  let open_ := Config.unstated 61 [a, first]
  let head := 2 * 2 ^ 30 + 2 ^ 29 + open_ % 4 * 2 ^ 27 + nat01 x.fault * 2 ^ 26 + ticks * 2 ^ 16 + str 9 / 2 ^ 28 * 2 ^ 12
  let seg := fun c => mapGet (fun _ => 0xFFFF) x.segs c
  { typ := 0x07, node := a, rerouted := cwMode b == 1, frame := first,
    payload := [w32 head, w32 (str 3), w32 (str 1), w32 (str 0)] ++ (List.range 96).map (fun k => w32 (seg (2 * k + 1) + seg (2 * k + 2) * 65536)) ++ [1, 1] }

/-- The root's account of the superframe that ended: followers not heard (R372, R376). -/
def radioMissed (b : Block) : Block :=
  let missed := b.cw.nodes.filter fun a => !b.cw.sfHeard.contains a
  let b := addF F.CW_RF_STATUS_RX_MISS missed.length b
  each (missed.filter fun a => radioOnly b a && !wiredReach b a) (fun a b => hbMiss a 1 (hbLimit b true) b) b

/-- The records of a radio cycle that is over (R378). -/
def radioCycle (b : Block) : Block :=
  let len := if b.cw.phy = 0 then 10 else 50
  if !(decide (b.cw.cycle + 200 * len ≤ frame b)) then b else
  let b := if isRoot b then
      each (b.cw.nodes.filter (radioOnly b)) (fun a b =>
        let r := radioRec b a b.cw.cycle (10 * len)
        count 0x41 1 { addr := some a } { b with cw := { b.cw with inbox := b.cw.inbox ++ [(devF b, r)] } }) b
    else b
  { b with cw := { b.cw with radio := [], cycle := frame b } }

/-- What the superframe that ended brought: misses, heartbeats, and the records of a cycle that is over (R371, R372, R376, R378, R379). -/
def radioAccount (b : Block) : Block :=
  if !b.cw.sfOn then b else
  let b := if isRoot b then radioMissed b else when b.cw.sfHeard.isEmpty (addF F.CW_RF_STATUS_RX_MISS 1) b
  radioLoss (radioCycle { b with cw := { b.cw with sfNone := if b.cw.sfHeard.isEmpty then b.cw.sfNone + 1 else 0 } })

/-- The packet of the superframe in progress goes out in the slot of the module's address, 312.5 µs apart, with the settings that the superframe began with (R376, R377); a module
that has lost its sync by then sends none. -/
def radioSlot (b : Block) : Block :=
  match b.cw.txAt with
  | some (n, d) =>
    if devF b < d then b
    else if !cwSynced b then { b with cw := { b.cw with txAt := none } } else
    let first := frame b - (devF b - (d - getF b F.CW_STATUS_ADDR * 25 / 4))
    emitOut (.causeway .radioPacket (getF b F.CW_RF_STATUS_CH :: b.cw.rfAa :: b.cw.rfTx :: radioBytes b n first))
      { b with cw := { b.cw with txAt := none } }
  | none => b

/-- A superframe begins (R371, R376): settings take effect, followers out of the wire's reach fall back, and the module's packet is due in its slot. -/
def superframeBegin (b : Block) : Block :=
  let b := radioAccount { b with cw := { b.cw with sfAt := devF b + 1 } }
  let n := frame b / 200
  let (ch, bad) := radioChannel b n
  let len := if getF b F.CW_RF_CTL_PHY = 0 then 10 else 50
  let b := when (b.cw.phy != getF b F.CW_RF_CTL_PHY || n % len == 0 || !b.cw.sfOn)
    (fun b => { b with cw := { b.cw with phy := getF b F.CW_RF_CTL_PHY, cycle := frame b, radio := [] } }) b
  let b := putF F.CW_RF_STATUS_CHMAP_BAD bad (setF F.CW_RF_STATUS_CH ch b)
  let b := each b.cw.nodes (fun a b =>
    let out := !wiredReach b a
    if out = radioOnly b a then b else putF (F.CW_NODE_STATUS_RADIO a) out b) b
  let slot := if cwSynced b then some (n, devF b + getF b F.CW_STATUS_ADDR * 25 / 4) else none
  let b := putF F.CW_RF_STATUS_ACTIVE (cwSynced b)
    { b with cw := { b.cw with sfOn := true, txAt := slot, rfAa := (getR b R.CW_RF_AA).toNat, rfTx := getF b F.CW_RF_CTL_TXPWR } }
  { radioSlot b with cw := { (radioSlot b).cw with sfHeard := [] } }

/-- RADIO_SUPERFRAME (R376, R377): every 200 frames a superframe begins; every module with an address and sync sends its packet in its slot. -/
def superframe (b : Block) : Block :=
  if !framesRun b || !(radioUsed b && (isRoot b || isFollower b)) then b
  else if frame b % 200 = 0 ∧ b.cw.sfAt ≠ devF b + 1 then superframeBegin b
  else radioSlot b

/-- A report of follower `a` reaches the root: its segment and string word where only the radio reaches it, a heartbeat in any case (R373, R378). -/
def radioReport (a : Nat) (bytes : List Nat) (b : Block) : Block :=
  let at_ := fun i => bytes.getD i 0 % 256
  let two := b.cw.phy = 0
  let fault := bitOf (at_ 1) 7
  let b := heartbeat a fault (bitsOf (at_ 1) 5 2) b
  if !radioOnly b a then b else
  let n := at_ 2 + at_ 3 * 256
  let word := at_ 4 + at_ 5 * 256 + at_ 6 * 65536 + at_ 7 * 16777216
  let size := if two then 20 else 4
  let first := size * (frame b / 200 % (if two then 10 else 50))
  let x := mapGet (fun _ => {}) b.cw.radio a
  let segs := (List.range size).foldl (fun m i => mapPut (fun _ => 0xFFFF) m (first + i + 1) (at_ (8 + 2 * i) + at_ (9 + 2 * i) * 256)) x.segs
  let x : RadioNode := { segs := segs, strs := (x.strs.filter (·.1 != frame b / 200 % 10)) ++ [(frame b / 200 % 10, word)], fault := fault }
  let b := { b with cw := { b.cw with radio := mapPut (fun _ => {}) b.cw.radio a x } }
  when (n % 65536 == frame b / 200 % 65536 && frame b / 200 % 10 == 9) (setF (F.CW_NODE_STATUS_SEV a) (word / 2 ^ 28)) b

/-- The root's packet reaches a follower: it locks to it where no sync comes over the wire (R361), to within ±5 µs. The error and the trim of its clock are free within their
ranges (log entry 38). -/
def radioRoot (b : Block) : Block :=
  if wired b && decide (devF b < b.cw.lastSync + 20) then b else
  let phase : Int := (Config.unstated 68 [devF b] % 1001 : Nat) - 500
  let trim : Int := (Config.unstated 69 [devF b] % 10001 : Nat) - 5000
  let b := setF F.CW_SYNC_PHASE (unsigned 16 phase) (setF F.CW_SYNC_TRIM (unsigned 16 trim) b)
  let b := setF F.CW_STATUS_SYNC_RADIO 1 b
  if condOf b Slot.cwSync = {} then b else setLevel Slot.cwSync false 0 b

/-- The superframe's first frame as the receiver expects it (R374, R377): by its own frame number, or, where it is locked to no root yet, as the root's packet itself says. -/
def radioFirst (bytes : List Nat) (b : Block) : Nat :=
  if isFollower b && !cwSynced b then (List.range 4).foldl (fun m i => m + bytes.getD (4 + i) 0 % 256 * 256 ^ i) 0 else frame b - frame b % 200

/-- RADIO_PACKET_RECEIVE (R361, R373, R375, R377, R378): the bytes of a packet, of the other side, of the length the physical layer gives, whose tag passes. -/
def radioReceive (bytes : List Nat) (b : Block) : Block :=
  let at_ := fun i => bytes.getD i 0 % 256
  let a := at_ 0 / 8
  let kind := at_ 0 % 8
  let len := if b.cw.phy = 0 then 52 else 20
  let content := bytes.take (len - 4)
  let fr := radioFirst bytes b
  let heard := if isRoot b then kind == 0 && b.cw.nodes.contains a else isFollower b && kind == 1
  if !radioUsed b || !b.cw.sfOn || bytes.length ≠ len || !heard then b
  else if !tagPasses b fr a 5 content (bytes.drop (len - 4)) then tagBad a b
  else
    let b := tagGood a b
    let b := count 0x43 1 { addr := some a } { b with cw := { b.cw with sfHeard := addOnce a b.cw.sfHeard, sfNone := 0 } }
    if isFollower b then radioLoss (radioRoot b) else radioLoss (radioReport a bytes b)

/-! Forwarding at the root (R380). -/

/-- The result a request to `target` has at once: 5 not assigned, 3 unreachable, 0 sent. -/
def forwardCode (b : Block) (target : Nat) : Nat :=
  if !isRoot b || !b.cw.nodes.contains target then 5 else if !wiredReach b target then 3 else 0

/-- The operations of a forward request as words: word 0 and the value of each (R402). -/
def forwardWords (ops : List (Bool × Nat × Word)) : List Nat := ops.flatMap fun o => [nat01 o.1 * 2 ^ 31 + o.2.1, o.2.2.toNat]

/-- The bytes of a forward request that its tag covers: the target's address, then its words (log entry 38). -/
def requestBytes (target : Nat) (ops : List (Bool × Nat × Word)) : List Nat := target :: (forwardWords ops).flatMap le4

/-- A request on the wire: target, operations, tag (R374). -/
def sendForward (target : Nat) (ops : List (Bool × Nat × Word)) (b : Block) : Block :=
  emitOut (.causeway .forwardRequest (target :: forwardWords ops ++ cwTag b (frame b) 0 3 (requestBytes target ops))) b

/-- The bytes of a forward response that its tag covers: whether it is refused, the operations executed, the values read (log entry 38). -/
def responseBytes (refused : Bool) (n : Nat) (vals : List Nat) : List Nat := nat01 refused :: n :: vals.flatMap le4

/-- A write of CW_FWD_CTL (R380, R383). -/
def writeFwdCtl (v : Word) (b : Block) : Block :=
  let busy := isF b F.CW_FWD_CTL_BUSY
  let b := writeBits R.CW_FWD_CTL (v &&& 0xFFFFFFFC) b
  if !bitOf v.toNat 31 || busy then b else
  let target := getF b F.CW_FWD_CTL_ADDR
  let code := forwardCode b target
  if code ≠ 0 then setF F.CW_FWD_CTL_RESULT code b
  else
    let b := setF F.CW_FWD_CTL_BUSY 1 (setF F.CW_FWD_CTL_RESULT 0 { b with cw := { b.cw with fwd := some (devF b, isF b F.CW_FWD_CTL_WR) } })
    sendForward target [(isF b F.CW_FWD_CTL_WR, getF b F.CW_FWD_CTL_OFFSET, getR b R.CW_FWD_DATA)] b

/-- The access of CW_FWD_CTL ends. -/
def fwdEnd (code : Nat) (b : Block) : Block :=
  setF F.CW_FWD_CTL_BUSY 0 (setF F.CW_FWD_CTL_RESULT code { b with cw := { b.cw with fwd := none } })

/-- FORWARD_RESPONSE (R380, R403): the response to CW_FWD_CTL's access (none) or to the command of a ring: refused or not, operations executed, values read. -/
def forwardResponse (q : Option Nat) (refused : Bool) (count_ : Nat) (vals : List Word) (b : Block) : Block :=
  match q with
  | none =>
    match b.cw.fwd with
    | none => b
    | some (_, wr) =>
      if refused then fwdEnd 4 b
      else fwdEnd 1 (if wr then b else setR R.CW_FWD_DATA (vals.headD 0) b)
  | some q =>
    match (sqOf b q).running with
    | some r => match r.wait with
      | .forward _ addr _ ops =>
        let reads := (List.range ops.length).filter fun i => !(ops.getD i (true, 0, 0)).1
        let b := each (List.range reads.length) (fun k b =>
          if k < vals.length then dmaWrite (addr + 8 * reads.getD k 0 + 4) [vals.getD k 0] b else b) b
        if refused then finish q St.failed 4 count_ 0 b else finish q St.done 1 count_ 0 b
      | _ => b
    | none => b

/-- The CW_FORWARD of ring `q` ends where its response is 2 ms late (R380). -/
def forwardLate (q : Nat) (b : Block) : Block :=
  match (sqOf b q).running with
  | some ⟨_, _, .forward _ _ since _⟩ => if since + 40 ≤ devF b then finish q St.failed 2 0 0 b else b
  | _ => b

/-- FORWARD_TIMEOUT (R380): no response within 40 frames. -/
def forwardTimeout (b : Block) : Block :=
  each (List.range 16) forwardLate (when (b.cw.fwd.any fun d => decide (d.1 + 40 ≤ devF b)) (fwdEnd 2) b)

/-- The operations of a CW_FORWARD buffer; none where an entry is malformed. -/
def forwardOps (n : Nat) (ws : List Word) : Option (List (Bool × Nat × Word)) :=
  let ops := (List.range n).map fun i => ((ws.getD (2 * i) 0).toNat, ws.getD (2 * i + 1) 0)
  if ops.any fun o => bitsOf o.1 20 11 != 0 || o.1 % 4 != 0 then none
  else some (ops.map fun o => (bitOf o.1 31, o.1 % 2 ^ 20, o.2))

/-- CW_FORWARD (R380, R402, R403): the operations are sent, or the command ends at once. -/
def forwardCmd (q : Nat) (d : Desc) (ws : List Word) (b : Block) : Block :=
  let target := d.p0.toNat % 32
  match forwardOps (bitsOf d.p0.toNat 8 4 + 1) ws with
  | none => finish q St.invalid 0 0 0 b
  | some ops =>
    let code := forwardCode b target
    if code ≠ 0 then finish q St.failed code 0 0 b
    else sendForward target ops (waitOn q (.forward target d.addr.toNat (devF b) ops) b)

/-! The frame tick (R358, R362, R363). -/

/-- What the root sends at the tick: the sync block and its own character. -/
def rootSync (b : Block) : Block :=
  let acks := b.cw.acks.foldl (fun m a => m ||| 2 ^ a) 0
  let bytes := le4 (frame b) ++ le4 acks ++ [0]
  sendChar (emitOut (.causeway .sync [frame b % 2 ^ 32, acks, 0]) { b with cw := { b.cw with acks := [], syncs := b.cw.syncs ++ bytes } })

/-- Whether the follower is locked at this tick, for its CHAIN record (R366). -/
def lockTick (b : Block) : Block := { b with cw := { b.cw with unlocked := b.cw.unlocked || !isF b F.CW_STATUS_LOCKED } }

/-- The Causeway at a frame tick. -/
def cwTick (b : Block) : Block :=
  if cwMode b = 0 then forwardTimeout (if roleAct b = 0 then b else cwOff b) else
  let chain := frame b % 20 == 0
  let b := breakShow (cwEnumTick (syncLoss (inboxTick b)))
  let b := if isRoot b && wired b then hbTick b else b
  let b := when (chain && wired b && (isRoot b || isFollower b)) sendTag b
  let b := if isRoot b && wired b then rootSync b else b
  let b := renegTick (routeRestore b)
  let b := if isRoot b then profileChange 0 b else b
  lockTick (superframe (forwardTimeout b))

/-- A CW register that follows other state (R350, R383): SLOW_RATE is that of the slowest working hop; nodes and hops read 0 on a follower. -/
def cwRead (b : Block) (a : Nat) : Option Nat :=
  if a = R.CW_STATUS then
    let v := setBitsOf (getR b a).toNat 30 1 (nat01 (noKey b))
    some (if isRoot b then setBitsOf v 20 2 (slowRate b) else v)
  else if 0xE100 ≤ a ∧ a < 0xE200 ∧ 2 ≤ roleAct b then some 0
  else if 0xE280 ≤ a ∧ a < 0xE300 ∧ 2 ≤ roleAct b then some 0
  else none

/-! Commands. -/

/-- CW_REENUM (R354): CW_CTL.REENUM = 1, with what the enumeration finds. -/
def execCwReenum (v : Word) (e : CwEnum) (s : State) : Host.Outcome State Fault Refusal :=
  run (fun b => if ready b then writeCwCtl (v ||| 0x1000) (some e) b else b) s

/-- CW_ENUM_TOKEN (R354, R374): a token from the module with address `node`. -/
def execCwEnumToken (south : Bool) (node : Fin 32) (x : EnumToken) (s : State) : Host.Outcome State Fault Refusal :=
  run (inFrame (tagged node.val 6 [x.next.toNat, x.unas.toNat] x.tagged (enumToken south node.val x.next.toNat x.unas.toNat))) s

/-- CW_LEARN (R354): CW_CTL.LEARN = 1. -/
def execCwLearn (v : Word) (s : State) : Host.Outcome State Fault Refusal := run (fun b => if ready b then writeCwCtl (v ||| 0x2000) none b else b) s

/-- CW_RENEG (R353): CW_CTL.RENEG = 1. -/
def execCwReneg (v : Word) (s : State) : Host.Outcome State Fault Refusal := run (fun b => if ready b then writeCwCtl (v ||| 0x4000) none b else b) s

/-- CW_HOP_TRAINING (R353). -/
def execCwHopTraining (h : BitVec 7) (peer : BitVec 2) (fails : Fin 5) (s : State) : Host.Outcome State Fault Refusal :=
  run (fun b => if framesRun b then hopTraining h.toNat peer.toNat fails.val b else b) s

/-- CW_WAKE_TX (R381): CW_CTL.WAKE_TX = 1. -/
def execCwWakeTx (v : Word) (s : State) : Host.Outcome State Fault Refusal := run (fun b => if ready b then writeCwCtl (v ||| 0x8000) none b else b) s

/-- SYNC_BLOCK (R358). -/
def execSyncBlock (x : SyncBlock) (s : State) : Host.Outcome State Fault Refusal := run (fun b => if framesRun b then syncBlock x b else b) s

/-- SYNC_LOSS (R361). -/
def execSyncLoss (s : State) : Host.Outcome State Fault Refusal := run (fun b => if framesRun b then syncLoss b else b) s

/-- HEARTBEAT_RECEIVE (R362, R373). -/
def execHeartbeatReceive (node : Fin 32) (fault : Bool) (sev : BitVec 2) (s : State) : Host.Outcome State Fault Refusal :=
  run (fun b => if framesRun b then heartbeatReceive node.val fault sev.toNat b else b) s

/-- CW_HB_LOST (R372). -/
def execCwHbLost (node : Fin 32) (s : State) : Host.Outcome State Fault Refusal := run (fun b => if framesRun b then hbLost node.val b else b) s

/-- CHAIN_RECORD_RECEIVE (R364). -/
def execChainRecordReceive (r : ChainRecord) (s : State) : Host.Outcome State Fault Refusal := run (fun b => if framesRun b then chainReceive r b else b) s

/-- CW_TAG_RECEIVE (R375): sender, message type, content, tag. -/
def execCwTagReceive (node : Fin 32) (kind : Byte) (content tag : List Byte) (s : State) : Host.Outcome State Fault Refusal :=
  run (fun b => if framesRun b then tagReceive node.val kind.toNat (content.map (·.toNat)) (tag.map (·.toNat)) b else b) s

/-- CW_HOP_BREAK (R369). -/
def execCwHopBreak (h : BitVec 7) (fwd : Bool) (s : State) : Host.Outcome State Fault Refusal :=
  run (fun b => if framesRun b then cwHopBreak h.toNat fwd b else b) s

/-- CW_ROUTE_RESTORE (R371). -/
def execCwRouteRestore (s : State) : Host.Outcome State Fault Refusal := run (fun b => if framesRun b then routeRestored b else b) s

/-- CW_PROFILE_CHANGE (R365): at a follower, the slowest working hop's rate as the root tells it. -/
def execCwProfileChange (slow : BitVec 2) (s : State) : Host.Outcome State Fault Refusal := run (profileChange slow.toNat) s

/-- RADIO_SUPERFRAME (R376, R377). -/
def execRadioSuperframe (s : State) : Host.Outcome State Fault Refusal := run superframe s

/-- RADIO_PACKET_RECEIVE (R377, R378). -/
def execRadioPacketReceive (bytes : List Byte) (s : State) : Host.Outcome State Fault Refusal :=
  run (fun b => if framesRun b then radioReceive (bytes.map (·.toNat)) b else b) s

/-- RADIO_LOSS (R379). -/
def execRadioLoss (s : State) : Host.Outcome State Fault Refusal := run (fun b => if framesRun b then radioLoss b else b) s

/-- CW_FWD_GO (R380): CW_FWD_CTL.GO = 1. -/
def execCwFwdGo (v : Word) (s : State) : Host.Outcome State Fault Refusal := run (fun b => if ready b then writeFwdCtl (v ||| 0x80000000) b else b) s

/-- CW_FORWARD (R380, R402, R403, R405). -/
def execCwForward (q : Fin 16) (d : Desc) (data : Option (List Word)) (s : State) : Host.Outcome State Fault Refusal :=
  run (fun b => startCmd q.val 0x0A d (d.p0.toNat &&& 0xFFFFF0E0 != 0 || d.p0.toNat % 32 == 0 || badAddr d.addr || !tail0 d) (roleAct b != 1)
    (withData q.val data (forwardCmd q.val d)) b) s

/-- FORWARD_RESPONSE (R356, R374, R380): the response of follower `node`, at the root or at a module that passes it on. -/
def execForwardResponse (node : Fin 32) (q : Option (Fin 16)) (x : ForwardAnswer) (t : Tagged) (s : State) : Host.Outcome State Fault Refusal :=
  run (inFrame fun b =>
    let vals := x.vals.map (·.toNat)
    if passesOn b then emitOut (.causeway .forwardResponse ([nat01 x.refused, x.executed.toNat] ++ vals ++ t.tag.map (·.toNat))) b
    else tagged node.val 4 (responseBytes x.refused x.executed.toNat vals) t (forwardResponse (q.map (·.val)) x.refused x.executed.toNat x.vals) b) s

/-- FORWARD_TIMEOUT (R380). -/
def execForwardTimeout (s : State) : Host.Outcome State Fault Refusal := run (fun b => if framesRun b then forwardTimeout b else b) s

end Sys2Proof.Machine
end

