-- ==== Sys2Proof/Machine/Access.lean ====
section
/-! DEFINITION. Register accesses: what a read returns and does (R12, R13, R432), what a write does (R12, R166), the batches CFG_WRITE and CFG_READ (R404),
forward requests at their target (R380), the SPI target (R418 to R430), JTAG (R53), and the commands of these families. -/

namespace Sys2Proof.Machine

/-! Reads. -/

/-- SPI_FIFO_CNT[f] and SPI_FIFO_HEAD[f] as they read (R428, R430, R435). -/
def fifoRead (b : Block) (a : Nat) : Option Nat :=
  let f := (a - 0x3100) / 16
  let x := fifoOf b f
  if a % 16 = 4 then some ((x.words.filter (·.2)).length * 2 ^ 16 + x.words.length)
  else if a % 16 = 8 then
    let len := if x.partly then 0 else x.words.head?.elim 0 (·.1.toNat % 2 ^ 16)
    some (nat01 x.partly * 2 ^ 31 + decimAct b f % 256 * 2 ^ 16 + len)
  else none

/-- FE_TIER_STATUS[t] (R145). -/
def tierStatus (b : Block) (t : Nat) : Nat :=
  let open_ := (List.range 13).foldl (fun m i => m + nat01 ((decide (i ≠ 0) || t == 0) && b.fe.owOpen.contains (12 * t + i)) * 2 ^ i) 0
  let chk := (List.range 12).foldl (fun m j => m + nat01 (b.fe.chkBad.contains (12 * t + j + 1)) * 2 ^ j) 0
  nat01 (tierAvail b t) * 2 ^ 31 + nat01 (b.bw.headClk.contains t) * 2 ^ 30 + nat01 (tierBist b t) * 2 ^ 29 + chk * 2 ^ 16 + open_

/-- The value of a register that follows other state. -/
def derived (b : Block) (a : Nat) : Option Nat :=
  match a / 0x1000 with
  | 0 => if a = R.GEN_FRAME then some (frame b) else if a = R.PWR_STATE then some (powerCode b.pwr.prev * 256 + powerCode b.pwr.state) else none
  | 2 => hstRead b a
  | 3 =>
    if a = R.SPI_STATUS then some ((getR b a).toNat + nat01 (ready b && !b.pwr.parking) * 128 + nat01 (spiActive b) * 64)
    else if 0x3100 ≤ a ∧ a < 0x3140 then fifoRead b a else none
  | 4 => if a = R.SL_SUMMARY then some (slSummary b) else none
  | 6 => bistRead b a
  | 7 => if 0x7100 ≤ a ∧ a % 32 = 0 then some (cntCfgRead b ((a - 0x7100) / 32)) else none
  | 8 =>
    if a = R.FE_STATUS then
      some (tierBits ((List.range 16).filter (tierAvail b)) * 2 ^ 16 + (getR b a).toNat % 2 ^ 16 + nat01 (alignBusy b) * 2)
    else if 0x8100 ≤ a ∧ a % 256 = 8 then some (tierStatus b ((a - 0x8100) / 256)) else none
  | 9 => if a = R.FE_TIER_STATUS 15 then some (tierStatus b 15) else none
  | 11 => if a = R.IMP_STATUS then some (impStatus b) else none
  | 12 => balRead b a
  | 13 => if a < 0xD800 then bwRead b a else rlRead b a
  | 14 => cwRead b a
  | 16 => if a = R.FEN_STATUS then some ((getR b a).toNat + nat01 (b.bist.host.any fun r => r.target == 0x10 && r.engine == 2) * 2 ^ 13) else none
  | 32 => if a = R.LED_STATUS then some (ledStatus b) else none
  | _ => none

/-- The bits of offset `a` that a read shows: WO and reserved bits read 0 (R12, R13); the MSI-X table and pending-bit array are PCI Express's. -/
def readMask (a : Nat) : Nat :=
  match regRow a with
  | some r => r.ro ||| r.rw ||| r.rws ||| r.w1c ||| r.rwl
  | none => if a % 4 = 0 ∧ ((0x2800 ≤ a ∧ a < 0x2A00) ∨ (0x2C00 ≤ a ∧ a < 0x2C08)) then 0xFFFFFFFF else 0

/-- The word a read of offset `a` shows, but for the device timestamp. -/
def wordAt (b : Block) (a : Nat) : Word := w32 (((derived b a).getD (getR b a).toNat) &&& readMask a)

/-- Offset `a` is the low half of a 64-bit value (R432). -/
def isLow (a : Nat) : Bool :=
  [0x10, 0x2020, 0x2028, 0x2030, 0xE018, 0x40408, 0x40410, 0x40C08, 0x51008].contains a ||
    (decide (0x7100 ≤ a ∧ a < 0x7500) && (a % 32 == 8 || a % 32 == 16))

/-- Offset `a` is the high half of a 64-bit value. -/
def isHigh (a : Nat) : Bool := decide (4 ≤ a) && isLow (a - 4)

/-- Both halves at low half `a` as they stand, the timestamp at a free place in the present frame. -/
def wholeAt (a : Nat) (b : Block) : Nat × Block :=
  if a = R.GEN_TIME_LO then
    let got := stampNow b
    let t := got.1
    let b := got.2
    (t % 2 ^ 64, b)
  else ((wordAt b a).toNat + (wordAt b (a + 4)).toNat * 2 ^ 32, b)

/-- A path's latch. -/
def latchOf (p : Path) (b : Block) : Option (Nat × Nat) :=
  match p with
  | .pcie | .pcieB | .pcieWide => b.latch.pcie
  | .spi => b.latch.spi
  | .fwd => b.latch.fwd
  | .cmd => b.latch.cmd

/-- A path's latch set. -/
def setLatch (p : Path) (x : Option (Nat × Nat)) (b : Block) : Block :=
  match p with
  | .pcie | .pcieB | .pcieWide => { b with latch := { b.latch with pcie := x } }
  | .spi => { b with latch := { b.latch with spi := x } }
  | .fwd => { b with latch := { b.latch with fwd := x } }
  | .cmd => { b with latch := { b.latch with cmd := x } }

/-- TORN of the path (R432): a command's and a forwarded access's own is not in a register. -/
def setTorn (p : Path) (b : Block) : Block :=
  match p with
  | .pcie | .pcieB | .pcieWide => setF F.SPI_LATCH_STATUS_PCIE_TORN 1 b
  | .spi => setF F.SPI_STATUS_TORN 1 b
  | .fwd | .cmd => b

/-- A read of a high half (R432): the latched copy, or the live half with TORN. -/
def readHigh (p : Path) (a : Nat) (b : Block) : Word × Bool × Block :=
  let live := fun (b : Block) =>
    let got := wholeAt (a - 4) b
    let v := got.1
    let b := got.2
    (w32 (v / 2 ^ 32), true, setTorn p b)
  match latchOf p b with
  | some (lo, v) => if lo + 4 = a then (w32 (v / 2 ^ 32), false, b) else live b
  | none => live b

/-- A read of offset `a` over a path: the word, whether it was torn, and what the read does. Until RUN or SAFE only PWR_STATE reads (R83, R423). -/
def readReg (p : Path) (a : Nat) (b : Block) : Word × Bool × Block :=
  if !ready b then ((if a = R.PWR_STATE then wordAt b a else 0), false, b)
  else if isLow a then
    let got := wholeAt a b
    let v := got.1
    let b := got.2
    (w32 v, false, setLatch p (some (a, v)) b)
  else if isHigh a then readHigh p a b
  else if a = R.LED_RD_DATA then
    let got := readLedData b
    let w := got.1
    let b := got.2
    (w, false, b)
  else if a = R.CAP_RD_DATA then
    let got := readCapData b
    let w := got.1
    let b := got.2
    (w, false, b)
  else (wordAt b a, false, b)

/-! Writes. -/

/-- The words before and after the first end mark. -/
def afterMark : List (Word × Bool) → List (Word × Bool)
  | [] => []
  | w :: ws => if w.2 then ws else afterMark ws

/-- R430: SKIP discards the rest of a partly popped record. -/
def fifoSkip (f : Nat) (b : Block) : Block :=
  let x := fifoOf b f
  if x.partly then putFifo f { x with words := afterMark x.words, partly := false } b else b

/-- A write of SPI_FIFO_CTL[f] (R430, R435): ALT_EN and DECIM exist only where R435 gives them. -/
def writeFifoCtl (f : Nat) (v : Word) (b : Block) : Block :=
  let v := if 2 ≤ f then setBitsOf v.toNat 29 1 0 else v.toNat
  let v := if f = 1 ∨ f = 2 then setBitsOf v 16 8 0 else v
  let b := writeBits (R.SPI_FIFO_CTL f) (w32 v) b
  let b := when (bitOf v 28) (fifoSkip f) b
  when (bitOf v 27) (fun b => putFifo f { fifoOf b f with flush := true } b) b

/-- A write of SL_CFG[i] (R453, R455, R461): a reserved slot reads 0, a locked one stays, and what is written is in force from the next frame tick. -/
def writeSlCfg (i : Nat) (v : Word) (b : Block) : Block :=
  if (srcOf i).isNone || i = 0 then b
  else writeBits (R.SL_CFG i) v { b with sl := { b.sl with cfgDue := addOnce i b.sl.cfgDue } }

/-- A write below offset 0x8000: GEN, PWR, LC, CFG, HST, SPI, SL, BIST, CNT. -/
def writeLow (a : Nat) (v : Word) (b : Block) : Block :=
  match a / 0x1000 with
  | 0 =>
    if a = R.PWR_CTL then writePwrCtl v b
    else if a = R.LC_CTL then writeLcCtl v b
    else if 0xC40 ≤ a ∧ a < 0xC80 ∧ a % 4 = 0 then { b with lc := { b.lc with response := mapPut (fun _ => 0) b.lc.response ((a - 0xC40) / 4) v } }
    else if 0xC80 ≤ a ∧ a < 0xCC0 ∧ a % 4 = 0 then { b with lc := { b.lc with key := mapPut (fun _ => 0) b.lc.key ((a - 0xC80) / 4) v } }
    else writeBits a v b
  | 1 => if a = R.CFG_CTL then when (bitOf v.toNat 0) (cfgAsk none) b else writeBits a v b
  | 2 => writeHst a v b
  | 3 => if 0x3100 ≤ a ∧ a < 0x3140 ∧ a % 16 = 0 then writeFifoCtl ((a - 0x3100) / 16) v b else writeBits a v b
  | 4 =>
    if 0x4100 ≤ a ∧ a < 0x4140 ∧ a % 4 = 0 then writeSticky ((a - 0x4100) / 4) v b
    else if 0x4180 ≤ a ∧ a < 0x41C0 ∧ a % 4 = 0 then writeInj true ((a - 0x4180) / 4) v b
    else if 0x41C0 ≤ a ∧ a < 0x4200 ∧ a % 4 = 0 then writeInj false ((a - 0x41C0) / 4) v b
    else if 0x4800 ≤ a ∧ a % 4 = 0 then writeSlCfg ((a - 0x4800) / 4) v b
    else writeBits a v b
  | 6 => if a = R.BIST_CTL then writeBistCtl v b else if a = R.BIST_ROLL then writeBistRoll v b else writeBits a v b
  | 7 =>
    if a = R.CNT_CTL then writeCntCtl v b
    else if 0x7100 ≤ a ∧ a < 0x7500 ∧ a % 32 = 0 then writeCntCfg ((a - 0x7100) / 32) v b
    else writeBits a v b
  | _ => writeBits a v b

/-- A write from offset 0x8000 on: FE, FLT, IMP, BAL, BW, RL, CW, CAP, FEN, POL, LED. -/
def writeHigh (a : Nat) (v : Word) (b : Block) : Block :=
  match a / 0x1000 with
  | 8 =>
    if a = R.FE_COMMIT then writeFeCommit v b
    else if a = R.FE_ALIGN_CTL then when (bitOf v.toNat 0) alignRun (writeBits a v b)
    else writeBits a v b
  | 11 => if a = R.IMP_CTL then writeImpCtl v b else writeBits a v b
  | 12 =>
    if a = R.BAL_SETREG then writeSetReg v b
    else if 0xC200 ≤ a ∧ a < 0xCE00 ∧ a % 16 = 4 then
      writeBits a v { b with bal := { b.bal with rbalDue := addOnce ((a - 0xC200) / 16 + 1) b.bal.rbalDue } }
    else writeBits a v b
  | 13 =>
    if a = R.BW_CTL then writeBwCtl v none b
    else if a = R.RL_CTL then writeRlCtl v b
    else if a = R.RL_TAG_SEL then writeTagSel v b
    else if 0xD908 ≤ a ∧ a < 0xDD00 ∧ (a - 0xD908) % 64 = 0 then topoCheck ((a - 0xD908) / 64) (writeBits a v b)
    else writeBits a v b
  | 14 =>
    if a = R.CW_CTL then writeCwCtl v none b
    else if a = R.CW_FWD_CTL then writeFwdCtl v b
    else if a = R.CW_TOPO ∨ (0xE204 ≤ a ∧ a < 0xE280) then topoLevels (writeBits a v b)
    else writeBits a v b
  | 15 =>
    if a = R.CAP_RD_POS then writeBits a (v &&& 0xFFFFFFFC) b
    else if 0xF100 ≤ a ∧ a < 0xF500 ∧ a % 128 = 0 then writeCapCtl ((a - 0xF100) / 128) v b
    else if 0xF100 ≤ a ∧ a < 0xF500 ∧ a % 128 = 4 then writeCapGeom ((a - 0xF100) / 128) v b
    else if 0xF100 ≤ a ∧ a < 0xF500 ∧ a % 128 = 0x30 then writeCapMark ((a - 0xF100) / 128) v b
    else writeBits a v b
  | 16 =>
    if a = R.FEN_CTL then writeFenCtl v b
    else if a = R.FEN_NODE_SEL then writeNodeSel v b
    else if a = R.FEN_IMG_CTL then writeImgCtl v b
    else if a = R.FEN_IMG_WADDR then writeWaddr v b
    else if a = R.FEN_IMG_WDATA then writeWdata v b
    else writeBits a v b
  | 32 =>
    if a = R.POL_OVR_CTL then writeOvrCtl v b
    else if a = R.LED_CTL then writeLedCtl v b
    else if a = R.LED_RD_CTL then writeLedRd v b
    else writeBits a v b
  | _ => writeBits a v b

/-- Offset `a` has an RWS field (R166). -/
def hasRws (a : Nat) : Bool := (regRow a).any fun r => decide (r.rws ≠ 0)

/-- Offset `a` has a field that a write can act on. -/
def writable (a : Nat) : Bool := (regRow a).any fun r => decide (r.rw ||| r.rws ||| r.w1c ||| r.wo ||| r.rwl ≠ 0)

/-- A write of offset `a`; with AUTOCOMMIT a write of an RWS field requests the commit (R166). -/
def writeReg (a : Nat) (v : Word) (b : Block) : Block :=
  let b := if a < 0x8000 then writeLow a v b else writeHigh a v b
  when (hasRws a && isF b F.FE_COMMIT_AUTOCOMMIT) commitAsk b

/-- The MSI-X table and the pending-bit array. -/
def msixOffset (a : Nat) : Bool := decide ((0x2800 ≤ a ∧ a < 0x2A00) ∨ (0x2C00 ≤ a ∧ a < 0x2C08))

/-- The path reaches the registers. -/
def pathUp (p : Path) (b : Block) : Bool :=
  match p with
  | .pcie | .pcieB | .pcieWide => pcieUp b
  | .spi => spiActive b && awake b
  | .fwd => isFollower b
  | .cmd => true

/-- The path reaches offset `a` (R404, R423, R493). -/
def pathReach (p : Path) (a : Nat) : Bool :=
  match p with
  | .pcie | .pcieB | .pcieWide => true
  | .spi => !msixOffset a
  | .fwd => !decide (0xC00 ≤ a ∧ a < 0x1000)
  | .cmd => !decide (0x2000 ≤ a ∧ a < 0x3000)

/-! The batches (R404). -/

/-- Entries of a batch: word 0 and value. -/
def batchOf (n : Nat) (ws : List Word) : List (Nat × Word) := (List.range n).map fun i => ((ws.getD (2 * i) 0).toNat, ws.getD (2 * i + 1) 0)

/-- A batch entry names an aligned offset of Window A. -/
def entryOk (e : Nat) : Bool := decide (e / 2 ^ 24 = 0 ∧ e % 4 = 0 ∧ e ≤ 0xFFFFC)

/-- CFG_WRITE: every entry in order, the commit of its RWS fields, and completion after the tick. -/
def cfgWrite (q n : Nat) (ws : List Word) (b : Block) : Block :=
  let es := batchOf n ws
  if es.any (fun e => !entryOk e.1 || !writable e.1 || !pathReach .cmd e.1) then finish q St.invalid 0 0 0 b else
  let b := each es (fun e => writeReg e.1 e.2) b
  let rws := es.any fun e => hasRws e.1
  let own := rws || es.any (fun e => decide (e.1 = R.FE_COMMIT) && bitOf e.2.toNat 0)
  waitOn q (.cfgWrite own) (when rws commitAsk b)

/-- The reads of a CFG_READ in order: the words and whether one was torn. -/
def readList (p : Path) : List Nat → Block → List Word × Bool × Block
  | [], b => ([], false, b)
  | a :: as, b =>
    let got := readReg p a b
    let w := got.1
    let t := got.2.1
    let b := got.2.2
    let got := readList p as b
    let ws := got.1
    let ts := got.2.1
    let b := got.2.2
    (w :: ws, t || ts, b)

/-- CFG_READ: every value, under a latch of the command's own; `fail`: the writes to host memory fail (R400). -/
def cfgRead (q n addr : Nat) (fail : Bool) (ws : List Word) (b : Block) : Block :=
  let es := batchOf n ws
  if es.any (fun e => !entryOk e.1) then finish q St.invalid 0 0 0 b else
  let got := readList .cmd (es.map (·.1)) (setLatch .cmd none b)
  let vs := got.1
  let torn := got.2.1
  let b := got.2.2
  if fail then finish q St.dmaError 0 0 0 b else
  let b := each (List.range vs.length) (fun i => dmaWrite (addr + 8 * i + 4) [vs.getD i 0]) b
  finish q St.done (nat01 torn) (frame b) 0 b

/-! A forward request at its target (R380). -/

/-- One forwarded operation: a write, or a read with its value. -/
def forwardOp (wr : Bool) (a : Nat) (v : Word) (b : Block) : List Nat × Block :=
  if wr then ([], writeReg a v b)
  else
    let got := readReg .fwd a b
    let w := got.1
    let b := got.2.2
    ([w.toNat], b)

/-- The operations in order; the values read. -/
def forwardAll : List (Bool × Nat × Word) → Block → List Nat × Block
  | [], b => ([], b)
  | o :: os, b =>
    let got := forwardOp o.1 o.2.1 o.2.2 b
    let x := got.1
    let b := got.2
    let got := forwardAll os b
    let y := got.1
    let b := got.2
    (x ++ y, b)

/-- The response to a forward request, with its tag (R374). -/
def sendResponse (refused : Bool) (n : Nat) (vals : List Nat) (b : Block) : Block :=
  emitOut (.causeway .forwardResponse ([nat01 refused, n] ++ vals ++ cwTag b (frame b) (getF b F.CW_STATUS_ADDR) 4 (responseBytes refused n vals))) b

/-- FORWARD_REQUEST: performed whole, or refused where an operation names the LC block; the response carries whether it was refused, how many
operations were executed, and the values read. -/
def forwardServe (ops : List (Bool × Nat × Word)) (b : Block) : Block :=
  if ops.any fun o => !pathReach .fwd o.2.1 then sendResponse true 0 [] b
  else
    let got := forwardAll ops b
    sendResponse false ops.length got.1 got.2

/-! The SPI target. -/

/-- Of values of `width` bits sent from cycle `start` on, the bits that a frame of `cycles` cycles reads; the rest of a cut value reads 0. -/
def sentBits (width start cycles : Nat) (vs : List Nat) : List Nat :=
  (List.range vs.length).filterMap fun i =>
    let at_ := start + width * i
    if cycles ≤ at_ then none
    else
      let lost := width - min width (cycles - at_)
      some (vs.getD i 0 / 2 ^ lost * 2 ^ lost)

/-- How many of `n` words have their first bit sent (R428). -/
def wordsBegun (n cycles : Nat) : Nat := min n ((cycles + 31 - 48) / 32)

/-- C_H or C_W failed (R423, R434). -/
def spiCrcFail (b : Block) : Block :=
  let b := setF F.SPI_STATUS_CRC_ERR 1 (addF F.SPI_STATUS_CRC_ERR_CNT 1 (count 0x52 1 {} b))
  let n := b.spi.crcFails + 1
  let b := { b with spi := { b.spi with crcFails := n } }
  when (decide (4 ≤ n)) (pulse Slot.spiCrc 0) b

/-- A frame passes its CRC checks (R434). -/
def spiPass (b : Block) : Block := { b with spi := { b.spi with crcFails := 0 } }

/-- A frame is refused with ERR (R423). -/
def spiErr (b : Block) : Block := setF F.SPI_STATUS_ERR 1 b

/-- CS_N low releases WAKE_N (R94); in reset the pin is ignored (R50). -/
def csLow (b : Block) : Block := if awake b then { b with pins := { b.pins with wakeNLow := false } } else b

/-- READY as S reports it (R422). -/
def spiReady (b : Block) : Bool := ready b && !b.pwr.parking

/-- The status byte S (R422). -/
def statusByte (b : Block) (rdy crc err torn eop ufl : Bool) : Nat :=
  nat01 rdy * 128 + nat01 crc * 64 + nat01 err * 32 + nat01 torn * 16 + nat01 (intLow b) * 8 + nat01 eop * 4 + nat01 ufl * 2 + getF b F.SPI_STATUS_DROP

/-- C_H of a header word (R421). -/
def headerCrc (op h : Nat) : Nat := crc8 (wireBytes [w32 (op * 2 ^ 30 + h % 2 ^ 30)])

/-- What a host reads of a READ or POP frame (R420): data words, S and C_D, as far as the frame went. -/
def spiAnswer (n cycles : Nat) (ws : List Word) (s : Nat) (b : Block) : Block :=
  let full := (List.range n).map fun i => ws.getD i 0
  let cd := crc8 (wireBytes full ++ [s])
  emitOut (.spi ((sentBits 32 48 cycles (full.map (·.toNat))).map w32) (sentBits 8 (48 + 32 * n) cycles [s, cd])) b

/-- What a frame meets before its effect (R418, R423, R424): the port is off or the frame ended before C_H was checked (nothing); the device is in PARK
(zeros); C_H fails; the header is invalid. `body` takes READY as judged and answers the data words and the flags TORN, EOP, UFL. -/
def spiOut (n cycles : Nat) (crcOk bad : Bool) (body : Bool → Block → List Word × Bool × Bool × Bool × Block) (b : Block) : Block :=
  let b := csLow b
  if b.pwr.parked && spiActive b && decide (0 < cycles) then
    emitOut (.spi ((sentBits 32 48 cycles (List.replicate n 0)).map w32) (sentBits 8 (48 + 32 * n) cycles [0, 0])) b
  else if !pathUp .spi b || decide (cycles < 40) then b
  else
    let rdy := spiReady b
    if !crcOk then
      let b := spiCrcFail b
      spiAnswer n cycles [] (statusByte b rdy true false false false false) b
    else
      let b := spiPass b
      if bad then
        let b := spiErr b
        spiAnswer n cycles [] (statusByte b rdy false true false false false) b
      else
        let b := when (!rdy) spiErr b
        let got := body rdy b
        let ws := got.1
        let torn := got.2.1
        let eop := got.2.2.1
        let ufl := got.2.2.2.1
        let b := got.2.2.2.2
        spiAnswer n cycles ws (statusByte b rdy false (!rdy) torn eop ufl) b

/-- A READ frame (R419, R423): `h` is the header below its OP field, `ch` the C_H sent, `cycles` the SCK cycles before CS_N rises. -/
def spiRead (h ch cycles : Nat) (b : Block) : Block :=
  let n := bitsOf h 24 6 + 1
  let a := bitsOf h 0 24
  let bad := decide (a % 4 ≠ 0 ∨ 0xFFFFC < a + 4 * (n - 1))
  spiOut n cycles (headerCrc 0 h == ch) bad (fun rdy b =>
    let as := (List.range (wordsBegun n cycles)).map fun i => a + 4 * i
    if rdy then
      let got := readList .spi (as.map fun x => if msixOffset x then 0xFFFFC else x) b
      let ws := got.1
      let torn := got.2.1
      let b := got.2.2
      (ws, torn, false, false, b)
    else (as.map (fun x => if x = R.PWR_STATE then wordAt b x else 0), false, false, false, b)) b

/-- One word popped from FIFO `f` (R428): the word, its end mark, underflow. -/
def popOne (f : Nat) (b : Block) : Word × Bool × Bool × Block :=
  let x := fifoOf b f
  match x.words with
  | [] => (0, false, true, addF (F.SPI_FIFO_DROP_UFL f) 1 b)
  | w :: rest => (w.1, w.2, false, putFifo f { x with words := rest, partly := !w.2 } b)

/-- `n` words popped: the words, the end mark of the last, whether one underflowed. -/
def popMany (f : Nat) : Nat → Block → List Word × Bool × Bool × Block
  | 0, b => ([], false, false, b)
  | n + 1, b =>
    let got := popOne f b
    let w := got.1
    let e := got.2.1
    let u := got.2.2.1
    let b := got.2.2.2
    let got := popMany f n b
    let ws := got.1
    let e' := got.2.1
    let u' := got.2.2.1
    let b := got.2.2.2
    (w :: ws, (if n = 0 then e else e'), u || u', b)

/-- A POP frame (R419, R423, R428). -/
def spiPop (h ch cycles : Nat) (b : Block) : Block :=
  let n := bitsOf h 0 12 + 1
  let f := bitsOf h 24 2
  let bad := decide (bitsOf h 26 4 ≠ 0 ∨ bitsOf h 12 12 ≠ 0)
  spiOut n cycles (headerCrc 2 h == ch) bad (fun rdy b =>
    if rdy then
      let got := popMany f (wordsBegun n cycles) b
      let ws := got.1
      let e := got.2.1
      let u := got.2.2.1
      let b := got.2.2.2
      (ws, false, e, u, b)
    else ([], false, false, false, b)) b

/-- The words of a WRITE or WRITE_FIXED applied in order (R424); the MSI-X table is out of reach (R423). -/
def spiApply (fixed : Bool) (a : Nat) (ws : List Word) (b : Block) : Block :=
  each (List.range ws.length) (fun i b =>
    let x := if fixed then a else a + 4 * i
    if pathReach .spi x then writeReg x (ws.getD i 0) b else b) b

/-- What a host reads of a WRITE frame (R420): S and C_S. -/
def writeAnswer (n cycles s : Nat) (b : Block) : Block := emitOut (.spi [] (sentBits 8 (56 + 32 * n) cycles [s, crc8 [s]])) b

/-- A WRITE or WRITE_FIXED frame (R419, R423, R424): the words sent, the C_W sent. C_W is checked once it is in, whether or not the frame is refused (R422, R434). -/
def spiWrite (fixed : Bool) (h ch cycles : Nat) (ws : List Word) (cw : Nat) (b : Block) : Block :=
  let n := bitsOf h 24 6 + 1
  let a := bitsOf h 0 24
  let ws := (List.range n).map fun i => ws.getD i 0
  let bad := decide (a % 4 ≠ 0 ∨ 0xFFFFC < a + (if fixed then 0 else 4 * (n - 1)))
  let b := csLow b
  if b.pwr.parked && spiActive b && decide (0 < cycles) then emitOut (.spi [] (sentBits 8 (56 + 32 * n) cycles [0, 0])) b
  else if !pathUp .spi b || decide (cycles < 40) then b
  else
    let rdy := spiReady b
    if headerCrc (if fixed then 3 else 1) h != ch then
      let b := spiCrcFail b
      writeAnswer n cycles (statusByte b rdy true false false false false) b
    else
      let whole := decide (56 + 32 * n ≤ cycles)
      let cwBad := whole && crc8 (wireBytes ws) != cw
      let b := if cwBad then spiCrcFail b else when whole spiPass b
      if bad || !rdy then writeAnswer n cycles (statusByte (spiErr b) rdy cwBad true false false false) (spiErr b)
      else if !whole then b
      else
        let b := writeAnswer n cycles (statusByte b rdy cwBad false false false false) b
        if cwBad || decide (cycles < 72 + 32 * n) then b else spiApply fixed a ws b

/-! Commands. -/

/-- A PCIe request that is not an aligned 32-bit one, or lies beyond the 64 KiB of Window B: Unsupported Request (R385, R387, R388). -/
def badRequest (p : Path) (a : Nat) : Bool :=
  match p with
  | .pcie => a % 4 != 0
  | .pcieB => a % 4 != 0 || decide (65536 ≤ a)
  | .pcieWide => true
  | .spi | .fwd | .cmd => false

/-- REGISTER_WRITE (R12, R13): a write over a path. Over PCIe a request that is no aligned 32-bit one is answered with Unsupported Request and has no effect (R387); one to
Window B is a doorbell write (R388). -/
def execRegisterWrite (p : Path) (a : BitVec 20) (v : Word) (s : State) : Host.Outcome State Fault Refusal :=
  run (fun b =>
    if badRequest p a.toNat then when (pcieUp b) (emitOut .pcieUnsupported) b
    else if p == .pcieB then windowB a.toNat v b
    else if ready b && pathUp p b && pathReach p a.toNat then writeReg a.toNat v (when (p == .pcie) traffic b) else b) s

/-- A read over a path, as the two rows of R432 make one; an aligned read of Window B returns 0 (R388). -/
def readOver (p : Path) (a : Nat) (b : Block) : Block :=
  if !pathUp p b then b
  else if badRequest p a then emitOut .pcieUnsupported b
  else if p == .pcieB then emitOut (.read p a 0) (traffic b)
  else
  let got := readReg p a (when (p == .pcie) traffic b)
  let w := got.1
  let b := got.2.2
  emitOut (.read p a w) b

/-- LOW_HALF_READ (R432), where offset `a` is a low half; a PCIe read of Window B and one that is answered with Unsupported Request (R387, R388). -/
def execLowHalfRead (p : Path) (a : BitVec 20) (s : State) : Host.Outcome State Fault Refusal :=
  run (fun b => if isLow a.toNat || p == .pcieB || badRequest p a.toNat then readOver p a.toNat b else b) s

/-- HIGH_HALF_READ (R432), where offset `a` is a high half; a PCIe read of Window B and one that is answered with Unsupported Request (R387, R388). -/
def execHighHalfRead (p : Path) (a : BitVec 20) (s : State) : Host.Outcome State Fault Refusal :=
  run (fun b => if isHigh a.toNat || p == .pcieB || badRequest p a.toNat then readOver p a.toNat b else b) s

/-- LED_RD_DATA (R288): a read over a path. -/
def execLedRdData (p : Path) (s : State) : Host.Outcome State Fault Refusal := run (readOver p R.LED_RD_DATA) s

/-- CAP_RD_DATA (R445): a read over a path. -/
def execCapRdData (p : Path) (s : State) : Host.Outcome State Fault Refusal := run (readOver p R.CAP_RD_DATA) s

/-- What a register read over JTAG returns (R53): a whole 64-bit value is latched by no path. -/
def jtagRead (a : Nat) (b : Block) : Block :=
  if !lifeIs b .factory || !awake b then b
  else if isLow a then
    let got := wholeAt a b
    let v := got.1
    let b := got.2
    emitOut (.jtag (w32 v)) b
  else if isHigh a then
    let got := wholeAt (a - 4) b
    let v := got.1
    let b := got.2
    emitOut (.jtag (w32 (v / 2 ^ 32))) b
  else emitOut (.jtag (wordAt b a)) b

/-- What boundary scan captures (R53); levels that the block does not hold are free. In reset TDO is high impedance (R50), so nothing is shifted out. -/
def scanLands (b : Block) : Block :=
  if b.pwr.resetHold then b else
  let got := fresh b
  let v := got.1
  let b := got.2
  emitOut (.scan ((List.range (landLevels b).length).map (landLevel b v))) b

/-- JTAG_ACCESS (R53, R97): boundary scan of the LV signal lands captures, drives or releases them in every life-cycle state and power state; a register read, in
FACTORY only. The order of the chain is a DESIGN CHOICE (log entry 28). -/
def execJtagAccess (o : JtagOp) (s : State) : Host.Outcome State Fault Refusal :=
  run (fun b =>
    match o with
    | .sample => scanLands b
    | .extest ls => { b with pins := { b.pins with extest := some ls } }
    | .release => { b with pins := { b.pins with extest := none } }
    | .read a => jtagRead a.toNat b) s

/-- CFG_WRITE (R402, R403, R404). -/
def execCfgWrite (q : Fin 16) (d : Desc) (data : Option (List Word)) (s : State) : Host.Outcome State Fault Refusal :=
  run (fun b => startCmd q.val 0x01 d (decide (d.p0.toNat < 1 ∨ 4096 < d.p0.toNat) || badAddr d.addr || !tail0 d) false
    (withData q.val data (cfgWrite q.val d.p0.toNat)) b) s

/-- CFG_READ (R402, R403, R404). -/
def execCfgRead (q : Fin 16) (d : Desc) (data : Option (List Word)) (s : State) : Host.Outcome State Fault Refusal :=
  run (fun b => startCmd q.val 0x02 d (decide (d.p0.toNat < 1 ∨ 4096 < d.p0.toNat) || badAddr d.addr || !tail0 d) false
    (withData q.val data (cfgRead q.val d.p0.toNat d.addr.toNat d.wfail)) b) s

/-- The operations of a request as the target performs them. -/
def requestOps (ops : List (Bool × BitVec 20 × Word)) : List (Bool × Nat × Word) := ops.map fun o => (o.1, o.2.1.toNat, o.2.2)

/-- FORWARD_REQUEST (R356, R374, R380): a root's request reaches the follower it is for, or a module that passes it on. -/
def execForwardRequest (m : ForwardMessage) (s : State) : Host.Outcome State Fault Refusal :=
  run (fun b =>
    let mine := isFollower b && getF b F.CW_STATUS_ADDR == m.target.val
    if framesRun b && passesOn b && !mine then
      emitOut (.causeway .forwardRequest (m.target.val :: forwardWords (requestOps m.ops) ++ m.tagged.tag.map (·.toNat))) b
    else if ready b && mine then
      tagged 0 3 (requestBytes (getF b F.CW_STATUS_ADDR) (requestOps m.ops)) m.tagged (forwardServe (requestOps m.ops)) b
    else b) s

/-- SPI_READ (R419 to R423). -/
def execSpiRead (h : BitVec 30) (ch : Byte) (cycles : Nat) (s : State) : Host.Outcome State Fault Refusal :=
  run (spiRead h.toNat ch.toNat cycles) s

/-- SPI_WRITE (R419 to R424). -/
def execSpiWrite (h : BitVec 30) (ch : Byte) (ws : List Word) (cw : Byte) (cycles : Nat) (s : State) : Host.Outcome State Fault Refusal :=
  run (spiWrite false h.toNat ch.toNat cycles ws cw.toNat) s

/-- SPI_WRITE_FIXED (R419 to R424). -/
def execSpiWriteFixed (h : BitVec 30) (ch : Byte) (ws : List Word) (cw : Byte) (cycles : Nat) (s : State) : Host.Outcome State Fault Refusal :=
  run (spiWrite true h.toNat ch.toNat cycles ws cw.toNat) s

/-- SPI_POP (R419 to R423, R428). -/
def execSpiPop (h : BitVec 30) (ch : Byte) (cycles : Nat) (s : State) : Host.Outcome State Fault Refusal :=
  run (spiPop h.toNat ch.toNat cycles) s

/-- SPI_FIFO_SKIP (R430): SPI_FIFO_CTL[f] with SKIP = 1. -/
def execSpiFifoSkip (f : Fin 4) (v : Word) (s : State) : Host.Outcome State Fault Refusal :=
  run (fun b => if ready b then writeFifoCtl f.val (v ||| 0x10000000) b else b) s

/-- SPI_FIFO_FLUSH (R430): SPI_FIFO_CTL[f] with FLUSH = 1. -/
def execSpiFifoFlush (f : Fin 4) (v : Word) (s : State) : Host.Outcome State Fault Refusal :=
  run (fun b => if ready b then writeFifoCtl f.val (v ||| 0x8000000) b else b) s

end Sys2Proof.Machine
end

