-- ==== Sys2Proof/Machine/Boot.lean ====
section
/-! DEFINITION. Module resets (R71, R76 to R78, R470), boot (R79 to R84, R106, R480), PARK entry (R90, R91) and wake (R92 to R96). -/

namespace Sys2Proof.Machine

/-! Resets. -/

/-- The conditions of the supervisor's hardware detectors that hold whatever the block does (R455). -/
def heldConds (b : Block) : List (Nat × SrcCond) := (b.sl.cond.filter fun x => decide (x.1 < 8) && x.2.level).map fun x => (x.1, { x.2 with pulse := false, pulseDet := 0 })

/-- A module reset for the cause at bit `cause` of PWR_CAUSE (R76, R494): everything returns to its reset value but the nonvolatile store (R102), what the lands
and the tier supplies are, the conditions of the hardware detectors, and, unless it is a power-on reset, LC_STATE.LOCKED (R100). The device is held in reset until
BOOT. The stored life-cycle records are read again (R97). -/
def moduleReset (cause : Nat) (b : Block) : Block :=
  let locked := isF b F.LC_STATE_LOCKED && cause != 8
  let life := lifeStored b.lc
  let n : Block := {
    out := b.out, freeCtr := b.freeCtr
    pins := { safeIn := b.pins.safeIn, perstN := b.pins.perstN, bootsel := b.pins.bootsel, extest := b.pins.extest }
    pwr := { supplyLost := b.pwr.supplyLost }
    fw := { copies := b.fw.copies, running := b.fw.running, floor := b.fw.floor, words := b.fw.words }
    lc := { records := b.lc.records, life := life, acting := life, keySvc := b.lc.keySvc, keyCw := b.lc.keyCw }
    cfg := { copies := b.cfg.copies }
    sl := { cond := heldConds b }
    led := (ledgerRestart b).led
    bist := { copies := b.bist.copies }
    calib := b.calib, dieIds := b.dieIds
    hst := { inReset := !b.pins.perstN } }
  putF F.LC_STATE_LOCKED locked (setR R.PWR_CAUSE (w32 (2 ^ cause)) (lcShow n))

/-! Boot. -/

/-- A firmware copy that passes the mask ROM's checks (R79). -/
def firmwareOk (b : Block) (i : Nat) : Bool :=
  let c := b.fw.copies.getD i {}
  c.valid && decide (b.fw.floor ≤ c.security)

/-- The copy that the ROM starts (R79). -/
def firmwarePick (b : Block) : Option Nat :=
  let v := fun i => (b.fw.copies.getD i {}).version
  match firmwareOk b 0, firmwareOk b 1 with
  | true, true => if v 0 < v 1 then some 1 else some 0
  | true, false => some 0
  | false, true => some 1
  | false, false => none

/-- R80, R488: the module stays in reset or BOOT and answers nobody. -/
def halt (b : Block) : Block := { b with pwr := { b.pwr with halted := true, resetHold := false } }

/-- A restored entry is written into its register (R106): the value, without what a host's write of it starts. -/
def restoreReg (a : Nat) (w : Word) (b : Block) : Block :=
  if 0x4800 ≤ a ∧ a < 0x5000 then writeSlCfg ((a - 0x4800) / 4) w b
  else if 0xC200 ≤ a ∧ a < 0xCE00 ∧ a % 16 = 4 then
    writeBits a w { b with bal := { b.bal with rbalDue := addOnce ((a - 0xC200) / 16 + 1) b.bal.rbalDue } }
  else writeBits a w b

/-- The configuration copy in use is restored (R104, R106); with none, CFG_STATUS.NONE and its EVENT record. -/
def cfgRestore (b : Block) : Block :=
  match cfgSelect b with
  | none => event 0x12 0 0 0 0 (setF F.CFG_STATUS_NONE 1 (cfgShow 0 b))
  | some c =>
    let es := (b.cfg.copies.getD c {}).entries
    let b := each es (fun e b => if cfgStored e.1 then restoreReg e.1 e.2 b else setF F.CFG_STATUS_SKIP 1 b) b
    let b := balRbal (slCfgTake (cfgShow c b))
    commitAsk (setF F.FEN_STATUS_STEP_ACT (getF b F.FEN_CTL_STEP) b)

/-- Startup self-test (R480): a failure is repaired where it can be (R486), else marks its target (R488). -/
def bootTest (r : TestResult) (b : Block) : Block :=
  if !r.fail then b
  else if repairable b r then repair r b
  else markFail r.target.toNat r.engine.toNat b

/-- R488: a failure of a startup self-test that keeps the module in reset: supervisor SRAM, the safety controller pair. -/
def bootFatal (x : BootInput) (b : Block) : Bool :=
  x.tests.any fun r => r.fail && (r.target == 0x13 || r.target == 0x15) && !repairable b r

/-- A power-on reset (R71, R85): an LV rail is out of its limits, so the block is OFF until the boot that follows. -/
def powerOn (b : Block) : Block :=
  let c := moduleReset 8 b
  { c with pwr := { c.pwr with state := .off } }

/-- A reset that a rail within limits allows: nothing in OFF (R85). -/
def resetFor (cause : Nat) (b : Block) : Block := if b.pwr.state = .off then b else moduleReset cause b

/-- Ring and alignment at boot and at wake (R116, R317, R354): both enumerations, new delays for every tier, SETL on everything. No tier is in drift and no alignment has failed
(R117, R120); averages, words and auxiliary deliveries from before are not of this run (R127, R128, R130). -/
def startTiers (e : EnumResult) (ds : List PathDelay) (c : CwEnum) (b : Block) : Block :=
  let b := putDelays ds (enumerate e { b with bw := { b.bw with enumRun := none }, fe := { b.fe with
    align := [], sram := [], coefOld := [], stale := [], fineReq := false, fineFrom := none, fineAgain := false, fineBad := false, chkPend := [], owFrame := none, quiet := none, outDue := none,
    auxTiers := [], avg := [], avgOk := [], lastWord := [], tickBad := [],
    started := true, since := devF b, tickFrom := devF b, contOwed := true } })
  let b := setLevel Slot.feSkew false 0 b
  let b := setF F.FE_STATUS_CONTACTOR 0 (setF F.FE_STATUS_ALIGN_VALID 1 (setF F.FE_STATUS_DRIFT 0 b))
  cwEnumerate c { b with
    sl := { b.sl with evalLate := [] }
    fe := { b.fe with jobs := [], setLast := b.act, setOld := b.act, crcBad := [], auxKept := [], coef := notchCoefs b, chkSet := chkScheduled b }
    clock := { b.clock with emitLate := [], periodOwed := frame b % 20000 == 0, slotOwed := frame b % 1250 == 0, stepOwed := frame b % stepFrames b == 0 } }

/-- The conditions of the hardware detectors that hold are found (R456, R460); SAFE_IN is looked at as the state is reached. -/
def detectHeld (b : Block) : Block :=
  let held := (List.range 8).filter fun i => i != Slot.safeIn && (condOf b i).level
  each held (fun i b => detectNow i (condOf b i).levelDet b) b

/-- SAFE is reached from BOOT or a wake (R82, R94, R467). -/
def reachSafe (sub index : Nat) (b : Block) : Block := sendVec0 (event 0x04 sub index 0 0 (setPower .safe b))

/-- The state a start leads to (R82, R94): SAFE where SAFE_IN is high or an uncleared source holds it, else RUN. -/
def reachWhich (b : Block) : Block :=
  let nmt := (uncleared b).filter fun i => slMask b i 1
  if b.pins.safeIn then reachSafe 0 Slot.safeIn (detectNow Slot.safeIn 0 b)
  else if !nmt.isEmpty then reachSafe 1 (nmt.foldl min 511) b
  else reachRun (setPower .run b)

/-- What runs from the first measurement frame on: the rolling self-test schedule (R481), the ledger's second, READY and the status page's summary (R431). -/
def reachMarks (b : Block) : Block :=
  setF F.SPI_INT_STATUS_READY 1 { b with
    bist := { b.bist with nextDue := devF b + rollPeriod b }
    led := { b.led with secFrom := devF b, second := [] } }

/-! A frame tick's shares that the tick of the first measurement frame has as well. -/

/-- The frame number is a multiple of `n`. -/
def frameAt (b : Block) (n : Nat) : Bool := decide (frame b % n = 0)

/-- The counters: the snapshot of a chain tick covers events up to the end of the previous frame (action 5); then settings take effect and the tick counts. -/
def tickCounters (b : Block) : Block :=
  let b := cntTick (when (frameAt b 20) cntSnap b)
  when b.clock.stepOwed (count 0x03 1 {}) (when (frameAt b 20) (count 0x02 1 {}) (count 0x01 1 {} b))

/-- The host's side (R392, R394, R411, R412, R414, R430, R437), configuration and ledger (R105, R286). -/
def tickHost (b : Block) : Block :=
  flushPeriodic (cfgCapture (fwTick (pullTick (ptmTick (timeSyncTick (capTicks (each (List.range 4) fifoFlush (fetchTick (ringTick (resendVec0 b))))))))))

/-- The tick of the first measurement frame, in the order of R26: it may be a chain tick and a model-step boundary (R24), the balancing actions of R304 fall on it. -/
def reachTick (b : Block) : Block := cwTick (tickHost (balGates (balGovern (balActs (hbtStart (when b.clock.stepOwed stepBoundary b))))))

/-- RUN or SAFE is reached (R82, R94, R431, R481), the conditions that the hardware detectors find there having been taken in (R456, R460). -/
def reachState (b : Block) : Block :=
  let c := reachTick (reachMarks (reachWhich (detectHeld (injTick (tickCounters b)))))
  { c with hst := { c.hst with summary := slSummary c } }

/-- The reset ends: the block is in BOOT, the straps are sampled and the stored repairs applied (R52, R82, R85, R486). -/
def bootLands (x : BootInput) (b : Block) : Block :=
  let c := { b with pins := { b.pins with bootsel := x.bootsel.val }, pwr := { b.pwr with state := .boot, resetHold := false }, bist := { b.bist with repairs := repairRows b.bist.copies } }
  { c with hst := { c.hst with inReset := !c.pins.perstN || !pcieActive c } }

/-- Time in BOOT goes on to device frame `n`, counted from the lock of the sample master clock (R10, R77, R82). -/
def bootTime (n : Nat) (b : Block) : Block := { b with clock := { b.clock with ticks := max b.clock.ticks (n * 512), running := true } }

/-- Firmware copy `i` is verified and loaded (R79, R82). -/
def bootLoad (i : Nat) (b : Block) : Block :=
  { b with
    fw := { b.fw with running := i }
    pwr := { b.pwr with fwReady := true } }

/-- The journal entry of a boot (R285). -/
def bootJournal (b : Block) : Block :=
  journal 0x01 (getF b F.PWR_CAUSE_WDOG * 8 + getF b F.PWR_CAUSE_CHIP * 4 + getF b F.PWR_CAUSE_EXT * 2 + getF b F.PWR_CAUSE_POR) 0 0 b

/-- The rest of a boot whose firmware runs: startup self-test, configuration, the walk that every Reedline string owes (R339), tiers, Causeway, then RUN or SAFE as SAFE_IN stands
(R50, R82, R106, R480). -/
def bootRun (x : BootInput) (b : Block) : Block :=
  let c := each (List.range 16) walkNext (bootJournal (cfgRestore (each x.tests bootTest { b with pins := { b.pins with safeIn := x.safeIn } })))
  reachState (setlNow 0 193 false (commitApply (startTiers x.enum x.delays x.cw c)))

/-- The end of the reset, unless it has ended: the mask ROM's check of the boot path (R82, R488). -/
def bootStart (x : BootInput) (b : Block) : Block :=
  if !b.pwr.resetHold then b else
  let c := bootLands x { b with clock := { b.clock with lockUs := x.lock } }
  if x.rom then halt c else bootTime x.frames c

/-- The mask ROM verifies the firmware copies and loads one, unless it has (R79, R80). -/
def bootVerify (x : BootInput) (b : Block) : Block :=
  if b.pwr.halted || b.pwr.fwReady then b else
  match firmwarePick b with
  | none => halt b
  | some i => bootTime x.frames (bootLoad i b)

/-- The rest, unless the module stays in BOOT. -/
def bootFinish (x : BootInput) (b : Block) : Block :=
  if b.pwr.halted then b else if bootFatal x b then halt b else bootRun x (bootTime x.frames b)

/-- A boot can go on: the block is in BOOT and not held there for good, or OFF with its rails about to return (R71, R85). -/
def canBoot (b : Block) : Bool := (b.pwr.state == .boot || (b.pwr.state == .off && b.pwr.resetHold)) && !b.pwr.halted

/-- BOOT (R79 to R83, R106, R480): from the end of a reset as far as the command says, at most to the tick of the first measurement frame. -/
def boot (x : BootInput) (b : Block) : Block :=
  if !canBoot b then b else
  match x.stage with
  | .start => bootStart x b
  | .firmware => if b.pwr.resetHold then b else bootVerify x b
  | .wait => if b.pwr.resetHold then b else bootTime x.frames b
  | .finish => bootFinish x (bootVerify x (bootStart x b))

/-! PARK entry. -/

/-- R415: every command in progress ends; its completion is written if there is room, and is otherwise discarded. -/
def parkCommands (b : Block) : Block :=
  let b := forgetRings (postAll (finishAll (fun w => w != .done) (fun q b => finish q St.aborted 0 0 0 b) b))
  let b := each (List.range 16) (fun c b => if (cqOf b c).waiting.isEmpty then b else putCq c { cqOf b c with waiting := [] } b) b
  each (List.range 16) (fun q b => if (sqOf b q).running.isNone then b else putSq q { sqOf b q with running := none } b) b

/-- R90 step 3: the ledger mirror is flushed; `fail` is where its read-back failed, if it did. -/
def parkFlush (fail : Option Nat) (b : Block) : Block :=
  let b := fwAbort b
  let b := if b.led.flushing.isSome then flushEnd none b else b
  let b := { b with led := { b.led with parkBin := parkBins b } }
  flushEnd fail (flushStart (journalTick (journal 0x02 0 0 (frame b) b)))

/-- R90 step 4: the last frame runs; its EMIT places the record of PARK entry, and the status page is written. -/
def parkFrame (b : Block) : Block :=
  let b := event 0x14 0 0 b.pwr.retain 0 b
  let b := emitOvertaken b
  let b := balAccrue b
  let b := { b with clock := { b.clock with ticks := b.clock.ticks + 512 } }
  let b := when (frame b % 20000 == 0) balPeriod b
  let n := b.carry.length + b.recs.length + b.sl.events.length
  let b := each b.clock.emitLate (fun w b => emitRecords (b.carry.length + w.recs.length + w.events.length) w b) { b with clock := { b.clock with emitLate := [] } }
  statusPage (emitRecords n (emitWork b) (takeWork b))

/-- The Reedline strings stop with their tiers (R90 step 5). -/
def parkStrings (b : Block) : Block := each (List.range 16) (fun t b => if stringOf b t = {} then b else stringDrop t false b) b

/-- R90 step 6: links down, clocks stopped; what no retained group holds is gone. -/
def parkStop (b : Block) : Block :=
  { b with
    hst := { b.hst with linkUp := false, late := [] }, spi := {}, carry := [], recs := [], pol := { b.pol with est := none }
    pwr := { b.pwr with parking := false, parked := true }, bist := { b.bist with request := none, host := none, rolling := none, abortReq := false }
    cw := { b.cw with sfHeard := [], sfOn := false, txAt := none, radio := [] }
    sl := { b.sl with hbt := false, events := [] }
    fe := { b.fe with started := false, rawQueue := [], blocks := [], samples := [], prev := [], filt := [] }
    fen := { b.fen with step := if b.fen.step.any (·.layout) then b.fen.step else none } }

/-- R90 steps 5 and 6: tiers off or continuing, links down, clocks stopped. -/
def parkDown (b : Block) : Block :=
  let c := parkCommands (parkStrings (balPark b))
  parkStop (setF F.CW_RF_STATUS_ACTIVE 0 (when (!bitOf c.pwr.retain 0) hstReset c))

/-! Wake. -/

/-- What sticky, live and detail bits a wake finds (R460): cleared unless retained; the conditions of kind H that hold are found again, and tiers report stuck FETs anew. -/
def wakeSluice (kept : Bool) (b : Block) : Block :=
  let b := if kept then b else
    let b := each (List.range 16) (fun w b => setR (R.SL_STICKY w) 0 (setR (R.SL_LIVE w) 0 b)) b
    let b := { b with regs := b.regs.filter fun x => !decide (0x5000 ≤ x.1 ∧ x.1 < 0x5800) }
    { b with sl := { b.sl with refused := [] }, bal := { b.bal with fetRep := [] } }
  let b := setF F.SL_STATUS_EVALUATED 0 { b with sl := { b.sl with wd := 0 } }
  if b.pins.safeIn then b else endNow Slot.safeIn b

/-- Capture rings at a wake (R446): with their state retained a ring in POST is DONE; else every ring is disabled and its other registers reset. -/
def wakeCapture (kept : Bool) (b : Block) : Block :=
  if kept then
    each (List.range 8) (fun r b => if capState b r = 2 then capFinish r b else b) b
  else
    let b := setF F.CAP_RD_CTL_LOST 0 b
    each (List.range 8) (fun r b =>
      let b := putRing r { refused := isF b (F.CAP_CTL_EN r) } b
      setR (R.CAP_WR r) 0 (setR (R.CAP_OLDEST r) 0 (setR (R.CAP_RSTAT r) 0 (setR (R.CAP_TRIG_FRAME r) 0
        (setR (R.CAP_PRE_POS r) 0 (setR (R.CAP_DROP r) 0 (levelBit Slot.capStall r false b))))))) b

/-- Event counters at a wake (R450): every CNT register but the RW fields at its reset value. -/
def wakeCounters (b : Block) : Block :=
  let b := setR R.CNT_SNAP_FRAME 0 { b with cap := { b.cap with counters := [], cntClr := [], unfreeze := false } }
  each (List.range 32) (fun i b =>
    setF (F.CNT_CFG_SAT i) 0 (setF (F.CNT_CFG_FROZEN i) 0 (setR (R.CNT_VAL_LO i) 0 (setR (R.CNT_VAL_HI i) 0 (setR (R.CNT_FIRST i) 0
      (setR (R.CNT_SNAP_LO i) 0 (setR (R.CNT_SNAP_HI i) 0 b))))))) b

/-- The PARK interval on the tier dice and in the step integrator (R203, R307): balancing of `n` frames from frame `lo`, `secs` seconds of supply charge. -/
def wakeCharge (lo n secs : Nat) (b : Block) : Block :=
  let cont := b.bal.cont.map fun t => (t, (tierCells t).foldl (fun m c => max m (balOf b c).timer) 0)
  let before := fun c => (balOf b c).charge
  let b' := balParked (n / 20000 + 2) lo (lo + n) b
  parkCharge secs cont ((balCells b').map fun c => (c, (balOf b' c).charge - before c)) b'

/-- The wake sources that PWR_CAUSE shows (R93): the one that woke, those latched, and the enabled ones that came before RUN. -/
def wakeSources (src : Nat) (x : WakeInput) (b : Block) : List Nat :=
  let timer := (getR b R.PWR_WAKE_TIMER).toNat
  let on := fun i => bitOf (getR b R.PWR_WAKE_CTL).toNat i && (i != 1 || (timer != 0 && decide (timer * 20000 ≤ x.parked + x.frames)))
  addOnce src (b.pwr.wakes ++ (x.others.map (·.val)).filter on)

/-- PARK ends (R94, R95): its time and its causes are shown, WAKE_N is driven unless the host woke the device, and time has passed. -/
def wakeBegin (src secs : Nat) (x : WakeInput) (b : Block) : Block :=
  let c := each (wakeSources src x b) (fun i => setF ⟨R.PWR_CAUSE, i, 1⟩ 1) (setR R.PWR_PARK_TIME (w32 secs) b)
  { c with
    pins := { c.pins with wakeNLow := src != 3 }
    clock := { c.clock with ticks := c.clock.ticks + (x.parked + x.frames) * 512 }
    pwr := { c.pwr with parked := false, wakes := [] } }

/-- The journal entry of a wake (R285). -/
def wakeJournal (secs : Nat) (b : Block) : Block :=
  journal 0x03 (getF b F.PWR_CAUSE_WK_HOST * 8 + getF b F.PWR_CAUSE_WK_CW * 4 + getF b F.PWR_CAUSE_WK_TIMER * 2 + getF b F.PWR_CAUSE_WK_IN) 0 secs
    (parkSeconds secs b)

/-- The Causeway follower is unlocked and has sent and heard nothing (R94, R358). -/
def wakeCw (b : Block) : Block :=
  setF F.CW_STATUS_LOCKED 0 { b with cw := { b.cw with locked := 0, lastSync := devF b, syncAt := none, unlocked := false, kept := none, chars := [], syncs := [], tokenAt := none } }

/-- WAKE_FWD sends the wake on (R381). -/
def wakeForward (b : Block) : Block := when (isF b F.CW_CTL_WAKE_FWD && wired b) (emitOut (.causeway .wakeTone [])) b

/-- No temperature measured before PARK counts after it (R203): those of the interval are the first valid ones measured after the wake. -/
def wakeTemps (b : Block) : Block :=
  let c := each (List.range 16) (fun t b => setF (F.FE_AUX_T_DIE t) 0x8000 (setR (R.FE_AUX_NTC t) (resetWord (R.FE_AUX_NTC t)) b)) b
  { c with rl := { c.rl with temps := [] }, fen := { c.fen with tempSum := [], wokeAt := devF c } }

/-- What PARK kept resumes, the rest is at reset (R95, R96): `retain` holds the groups kept. -/
def wakeState (retain secs : Nat) (b : Block) : Block :=
  let c := wakeTemps (wakeJournal secs (fastWake (bitOf retain 1) b))
  wakeCw (wakeCounters (wakeCapture (bitOf retain 2) (wakeSluice (bitOf retain 3) c)))

/-- A wake by source `src` (0 WAKE_IN, 1 timer, 2 Causeway, 3 host) from a complete PARK (R94 to R96): the time in PARK passes, the retained groups resume, the
rest is at reset, and RUN or SAFE is reached. A balancing period that starts at the first measurement frame has been counted with the time in PARK (R307). -/
def wake (src : Nat) (x : WakeInput) (b : Block) : Block :=
  let secs := publishedIn 62 32 ((x.parked : Rat) / 20000)
  let c := wakeState b.pwr.retain secs (wakeCharge (frame b) (x.parked + x.frames) secs (wakeBegin src secs x b))
  let c := each (List.range 16) walkNext (startTiers x.enum x.delays x.cw (repairLoad (takers x.enum) c))
  reachState (setlNow 0 193 false (wakeForward { c with clock := { c.clock with periodOwed := false } }))

/-- A wake event of source `src` (R89, R92, R93): in PARK it wakes the device, in the entry to PARK it is latched; elsewhere, or disabled, it does nothing. The
timer wakes once PWR_WAKE_TIMER seconds of its own count have passed since PARK entry completed. -/
def wakeEvent (src : Nat) (x : WakeInput) (b : Block) : Block :=
  let timer := (getR b R.PWR_WAKE_TIMER).toNat
  let on := bitOf (getR b R.PWR_WAKE_CTL).toNat src && (src != 1 || (timer != 0 && b.pwr.parked && decide (timer * 20000 ≤ x.parked)))
  if !on then b
  else if b.pwr.parked then wake src x b
  else if b.pwr.parking then { b with pwr := { b.pwr with wakes := addOnce src b.pwr.wakes } }
  else b

/-- PARK_ENTRY (R90): once no commit is in progress, steps 3 to 6; a latched wake follows at once (R93). -/
def parkEntry (fail : Option Nat) (x : WakeInput) (b : Block) : Block :=
  if !(b.pwr.state == .park && b.pwr.parking) || b.cfg.requested || b.cfg.captured.isSome then b else
  let b := parkDown (parkFrame (parkFlush fail b))
  match b.pwr.wakes with
  | [] => b
  | src :: _ => wake src x b

/-! Commands. -/

/-- POWER_ON_RESET (R71, R76, R85): an LV rail fell below its minimum. -/
def execPowerOnReset (s : State) : Host.Outcome State Fault Refusal := run powerOn s

/-- EXTERNAL_RESET (R76). -/
def execExternalReset (s : State) : Host.Outcome State Fault Refusal := run (resetFor 9) s

/-- CHIP_RESET (R76, R462, R463), where a CHIP reaction was applied. -/
def execChipReset (s : State) : Host.Outcome State Fault Refusal := run (fun b => if b.sl.chipOwed then resetFor 10 b else b) s

/-- WATCHDOG_EXPIRY (R470), where four frame ticks passed without a restart. -/
def execWatchdogExpiry (s : State) : Host.Outcome State Fault Refusal := run (fun b => if 4 ≤ b.sl.wd then resetFor 11 b else b) s

/-- BOOT (R79 to R83, R106, R480). -/
def execBoot (x : BootInput) (s : State) : Host.Outcome State Fault Refusal := run (boot x) s

/-- PARK_ENTRY (R90); `fail` is the store address of a flush that failed its read-back, `w` serves a wake latched during the entry. -/
def execParkEntry (fail : Option (BitVec 21)) (w : WakeInput) (s : State) : Host.Outcome State Fault Refusal := run (parkEntry (fail.map (·.toNat)) w) s

/-- WAKE_IN_WAKE (R92). -/
def execWakeInWake (w : WakeInput) (s : State) : Host.Outcome State Fault Refusal := run (wakeEvent 0 w) s

/-- WAKE_TIMER_EXPIRY (R92). -/
def execWakeTimerExpiry (w : WakeInput) (s : State) : Host.Outcome State Fault Refusal := run (wakeEvent 1 w) s

/-- CAUSEWAY_WAKE_TONE (R92, R381). -/
def execCausewayWakeTone (w : WakeInput) (s : State) : Host.Outcome State Fault Refusal := run (wakeEvent 2 w) s

/-- HOST_WAKE (R92): a rising edge of PERST_N, which also releases the endpoint (R83), or CS_N low with SCK toggling. -/
def execHostWake (perst : Bool) (w : WakeInput) (s : State) : Host.Outcome State Fault Refusal :=
  run (fun b =>
    let edge := if perst then !b.pins.perstN else spiActive b
    if !edge || b.pwr.state != .park then b else
    let b := when perst (fun b => { b with pins := { b.pins with perstN := true }, hst := { b.hst with inReset := !pcieActive b, perstAt := devF b } }) b
    let was := b.pwr.parked
    let b := wakeEvent 3 w b
    when (perst && was && !b.pwr.parked) (fun b => { b with hst := { b.hst with perstAt := devF b - w.frames } }) b) s

end Sys2Proof.Machine
end

