-- ==== Sys2Proof/Machine/Frame.lean ====
section
/-! DEFINITION. What happens by time: block resets (R465), the frame tick with the coinciding actions of R26 in their order, the chain tick (R24), SLUICE_EVAL, EMIT
and overruns of a stage (R27, R30, R31), and the commands of these. -/

namespace Sys2Proof.Machine

/-! Block resets (R465). -/

/-- Frames within which a block reset is complete; the model's resets last so long (log entry 20). -/
def resetFrames : Domain → Nat
  | .fe _ => 40
  | .imp => 1
  | .fen => 100
  | .cw => 100
  | .hst => 1
  | .rl _ => 1
  | .bw => 100
  | .radio => 200

/-- What a block reset of `d` does at its start (R191, R230, R306, R324, R346, R382, R416); `crcBad`: the check of R230 fails. While a reset of HST DMA runs, a fetch is put off
and a command whose data is due ends ABORTED (R400, R416). -/
def resetStart (d : Domain) (crcBad : Bool) (b : Block) : Block :=
  let b := match d with
    | .fe t => tierOff t b
    | .imp => sweepAbort 4 b
    | .fen => fenResetStart crcBad b
    | .cw => cwReset b
    | .hst => b
    | .rl t => stringDrop t true b
    | .bw => ringRetrain b
    | .radio => radioReset b
  { b with sl := { b.sl with blkOwed := b.sl.blkOwed.filter (· ≠ d), blkRun := b.sl.blkRun ++ [(d, devF b + resetFrames d)] } }

/-- What its end does: a tier delivers again (R161), the Fen engine has checked its copy (R230). -/
def resetEnd (d : Domain) (b : Block) : Block :=
  let b := { b with sl := { b.sl with blkRun := b.sl.blkRun.filter (·.1 ≠ d) } }
  match d with
  | .fe t => liveResume t (tierReturn t b)
  | .fen => fenResetEnd b
  | _ => b

/-- At a frame tick resets whose time is over end, and those that reactions asked for begin. -/
def resetTick (b : Block) : Block :=
  let b := each (b.sl.blkRun.filter fun x => decide (x.2 ≤ devF b)) (fun x => resetEnd x.1) b
  each b.sl.blkOwed (fun d => resetStart d false) b

/-- BLOCK_RESET: the reset of an owed domain begins; of a Fen reset that already runs it tells what the check of R230 finds. -/
def blockReset (d : Domain) (crcBad : Bool) (b : Block) : Block :=
  if b.sl.blkOwed.contains d then resetStart d crcBad b
  else if d = .fen ∧ fenReset b then { b with fen := { b.fen with crcBad := crcBad } }
  else b

/-! The frame tick (R10, R24, R26, R304). -/

/-- Tiers that deliver nothing for the frame that ends: unavailable ones (R74, R320), and those that missed a setting (R315). -/
def missTick (b : Block) : Block :=
  let missed := fun t => b.fe.ctlMiss.contains t && b.fe.settingAt == some (devF b)
  each ((List.range 16).filter fun t => !tierAvail b t || missed t) (fun t c => markMiss t (devF c) c) b

/-- A broken ring carried the frame that ends (R321). -/
def breakTick (b : Block) : Block :=
  when (!(brokenHops b).isEmpty) (fun b => { b with bw := { b.bw with spans := spanTo (devF b) b.bw.spans } }) b

/-- Raw samples that tiers within reach have kept because a break or an error cost the supervisor their block of the frame that ends (R316, R320). -/
def resent (b : Block) : List (Nat × List (List Int)) :=
  (List.range 16).filterMap fun t =>
    if !tierAvail b t || b.fe.blocks.contains t then none
    else ((sramOf b t).find? fun x => x.dev + 1 == devF b && !x.whole).map fun x => (t, x.samples)

/-- The raw samples that the present frame brought go towards capture, those sent again among them (R316, R321); a frame of which no tier delivered any has its RAW record all the
same (R436, R439). -/
def rawNow (b : Block) : Block :=
  let again := resent b
  let got := again.foldl (fun m x => mapPut (fun _ => []) m x.1 x.2) b.fe.samples
  let re := rerouted b (devF b - 1) || (!again.isEmpty && !(brokenHops b).isEmpty)
  if b.fe.rawAt = devF b + 1 || !b.cap.rings.any (·.2.en) || decide (devF b ≤ b.fe.since) then b else
  { b with fe := { b.fe with rawAt := devF b + 1, rawQueue := b.fe.rawQueue ++ [⟨(placeOfs b + devF b - 1) % 2 ^ 32, devF b - 1, re, got⟩] } }

/-- The raw samples of the frame that ends go towards capture; its blocks are closed. -/
def samplesTick (b : Block) : Block :=
  let b := rawNow b
  { b with fe := { b.fe with
      prev := b.fe.samples, samples := [], blocks := [], crcBad := [], closed := false, anyFoot := false
      setl := b.fe.setl.filter fun s => decide (nowNs b < s.until_ + 2000000) } }

/-- A tick overtakes an evaluation that has not run (R30): SLUICE_EVAL overruns, and what the frame found stays as that evaluation's work. -/
def evalOvertaken (b : Block) : Block :=
  if b.sl.wdExpired || decide (devF b ≤ b.fe.since) || !framesRun b then b
  else if b.sl.evalAt = devF b + 1 then when (!b.sl.evalLate.isEmpty) (overrun 1) b
  else overrun 1 (evalPassed (judgeLast b))

/-- A tick overtakes an EMIT with work left (R30): EMIT overruns, and the work stays ahead of the next frame's. -/
def emitPassed (b : Block) : Block :=
  let c := emitOvertaken b
  when (!c.clock.emitLate.isEmpty) (overrun 2) c

/-- COLLECT is over at the latest as the frame ends (R30). -/
def collectPassed (b : Block) : Block := collectDeadline b

/-- Before the frame number moves on: the ending frame's charge, journal entries, tiers that delivered nothing in it, averages of a chain tick not yet worked, what it did to a
pass, its raw samples towards capture, and a SLUICE_EVAL and an EMIT that have not run. -/
def tickBefore (b : Block) : Block := samplesTick (emitPassed (breakTick (passNote (missTick (formJobs (journalTick (balAccrue (evalOvertaken (collectPassed b)))))))))

/-- Which boundary work the frame that begins owes (R24, R25, R293); a jump acts as a boundary of the balancing period (R360). -/
def owedAt (b : Block) : Block :=
  { b with clock := { b.clock with periodOwed := frameAt b 20000 || jumped b, slotOwed := frameAt b 1250 || jumped b, stepOwed := frameAt b (stepFrames b) } }

/-- Action 1: the timestamp reaches the next frame; `ptm` is the PTM master time of the tick in nanoseconds. -/
def tickClock (ptm : Nat) (b : Block) : Block := { b with clock := { b.clock with ticks := b.clock.ticks + 512, ptmNs := ptm } }

/-- The frame number that a jump gives the tick reached (R359): that of the root, or on a module that is no follower its own again (log entry 38). -/
def jumpTo (root : Option Nat) (b : Block) : Option Nat :=
  match root with
  | some r => some r
  | none => if roleAct b ≠ 2 ∧ frameOfs b ≠ 0 then some (devF b) else none

/-- Action 1 at a tick that a jump may fall on. -/
def tickNumber (root : Option Nat) (b : Block) : Block :=
  owedAt (match jumpTo root b with
    | some r => jumpNow r b
    | none => b)

/-- At a chain tick its work begins to be owed, and what is left of the last one's has overrun (R29, R30). -/
def jobsTick (b : Block) : Block := if jumped b || !frameAt b 20 then b else chainEnds false (jobsOvertaken b)

/-- The settings under which the frame that ends was sampled: its set, the notches' coefficients, and the tiers that still ran on those before (R148, R315). -/
def coefTick (b : Block) : Block :=
  { b with fe := { b.fe with coef := notchCoefs b, coefOld := if b.fe.stale.isEmpty then b.fe.coef else b.fe.coefOld, stale := b.fe.ctlMiss, setLast := b.act,
                             setOld := if b.fe.ctlMiss.isEmpty then b.act else b.fe.setOld }, bal := { b.bal with prior := [] } }

/-- The output whose window ends now belongs to the set before action 2 (R26, R151). -/
def outputTick (b : Block) : Block := if jumped b then b else { b with fe := { b.fe with outDue := outputDue b } }

/-- Committed sets and settings take effect: action 2 (R26, R151). -/
def tickCommit (b : Block) : Block := chkCycle (resetTick (notchPlace (commitApply (powerTick (sluiceTick (lcTick (outputTick (jobsTick (coefTick b)))))))))

/-- Self-tests that a tick cuts or starts (R481, R483, R485). -/
def testTick (b : Block) : Block := rollStart (bistStart (bistCut false b))

/-- Actions 3 and 4 at a step boundary, with the self-tests, the policy and the image build that a tick starts. -/
def tickModel (b : Block) : Block :=
  let c := buildStart (polTick (testTick b))
  when c.clock.stepOwed stepBoundary c

/-- Markers (R306, R319), the training of broken hops (R323) and an enumeration that ends (R317). -/
def markerTick (b : Block) : Block := let c := headSwitch (hopTrain (enumTick b)); each (c.bw.unreach.map (·.1)) markerLoss c

/-- The AUX record of the chain tick whose conversions are complete (R131, R176). -/
def auxTick (b : Block) : Block :=
  when (decide (frame b % 20 = 2 ∧ b.fe.since + 2 ≤ devF b ∧ b.cw.jumpAt.all (· + 2 ≤ devF b))) (fun b => auxClose (frame b - 2) (devF b - 2) b) b

/-- Markers (R306), quiet intervals, balancing with the BLEED passes (R172, R181, R304), alignment (R120, R523) and the AUX record (R176). -/
def tickFront (b : Block) : Block :=
  auxLate (auxTick (alignStart (fineStart (balGates (balGovern (impTick (balActs (quietStart (quietEnd (markerTick b))))))))))

/-- The watchdog counts the tick (R470): at the fourth without a restart it expires. -/
def tickWatchdog (b : Block) : Block :=
  hbtFollow { b with sl := { b.sl with wd := b.sl.wd + 1, wdExpired := b.sl.wdExpired || decide (4 ≤ b.sl.wd + 1) } }

/-- A frame tick (R26), at which the root's frame number may be taken over (R359). -/
def tickAs (root : Option Nat) (ptm : Nat) (b : Block) : Block :=
  let b := tickCommit (tickCounters (tickNumber root (passEnd (tickClock ptm (tickBefore b)))))
  cwTick (tickWatchdog (tickHost (tickFront (tickModel (levelsTick b)))))

/-- FRAME_TICK (R26). -/
def frameTick (ptm : Nat) (b : Block) : Block := tickAs none ptm b

/-- FRAME_NUMBER_JUMP (R359, R361): the next tick, as a follower that is locked, over the wire or by radio, takes the root's frame number, where its own would be another one. -/
def frameJump (root ptm : Nat) (b : Block) : Block :=
  if isFollower b && (isF b F.CW_STATUS_LOCKED || isF b F.CW_STATUS_SYNC_RADIO) && decide (root % 2 ^ 55 ≠ (frame b + 1) % 2 ^ 55) then tickAs (some (root % 2 ^ 55)) ptm b else b

/-! The chain tick (R24, R29). -/

/-- The step integrator takes the chain tick, closes the step's interval, and the fast layer runs; where the work overran, the fast layer keeps its state (R30, R201, R207). At the
first tick after a reset or wake no frame was measured, so there is nothing to hold. -/
def chainLayers (j : ChainJob) (b : Block) : Block :=
  let c := closeInterval j (when (j.len ≠ 0) (integrator j) b)
  if j.late then { c with fen := { c.fen with fast := b.fen.fast } } else fastLayer j c

/-- CHAIN_TICK: averages, FET check, ledger, readings, step integrator, fast layer and CHAIN record of the oldest chain tick whose work is not done. -/
def chainTick (x : ChainInput) (b : Block) : Block :=
  match b.fe.jobs with
  | [] => b
  | j :: rest =>
    let was := j.formed
    let j := formJob j b
    let b := if was then b else { b with fe := { b.fe with tickBad := [] } }
    let c := chainAverages x j { b with fe := { b.fe with jobs := rest } }
    let c := histogramSecond (ledAccumulate (fetCheck (tierPowered c) x.vds c))
    chainTickCw j (chainLayers j (deliverAll j c))

/-! Stages of the frame (R27, R30, R31). -/

/-- SLUICE_EVAL: open-wire and check-converter results of the last frame are judged (R137, R141), then the sources, once a frame; an evaluation that a tick overtook runs first,
on the conditions of its own frame (R30). The first evaluation is that of the first measurement frame (R51). -/
def evalStage (b : Block) : Block :=
  if b.sl.wdExpired || decide (devF b ≤ b.fe.since) then b
  else if !b.sl.evalLate.isEmpty then sluiceEval b
  else if b.sl.evalAt = devF b + 1 then b
  else sluiceEval (judgeLast b)

/-- The work of an EMIT: that of the oldest frame whose EMIT has not run (R30). -/
def emitNext (n : Nat) (b : Block) : Block :=
  match b.clock.emitLate with
  | w :: rest => capDoneAll (emitRecords n w { b with clock := { b.clock with emitLate := rest } })
  | [] =>
    if b.clock.emitAt = devF b + 1 then b
    else capDoneAll (emitRecords n (emitWork b) (takeWork { b with clock := { b.clock with emitAt := devF b + 1 } }))

/-- The EMIT stage of the frame of a jump places every record whose content belongs to an earlier frame (R359). -/
def emitJump (b : Block) : Block := each (List.range (b.clock.emitLate.length + 1)) (fun _ b => emitNext (2 ^ 32) b) (rawNow b)

/-- EMIT: at most `n` records are placed by 35.0 µs, on the work of one frame at a time; a record left behind is an overrun (R30). -/
def emitStage (n : Nat) (b : Block) : Block :=
  if jumped b then emitJump b else
  if b.clock.emitLate.isEmpty && b.clock.emitAt == devF b + 1 then b else
  let b := emitNext n b
  when (!b.carry.isEmpty) (overrun 2) b

/-- The chain tick whose work goes on will send its CHAIN record late (R30). -/
def chainLate (b : Block) : Block :=
  match b.fe.jobs with
  | j :: rest => { b with fe := { b.fe with jobs := { j with late := true } :: rest } }
  | [] => b

/-- What the overrun of a stage brings besides R31 (R30), by bit of GEN_OVR_STATUS. -/
def stageOverrun (stage : Nat) (b : Block) : Block :=
  match stage with
  | 0 => overrun 0 (collectDeadline b)
  | 3 => overrun 3 (fetchAgain b)
  | 4 => overrun 4 (if b.hst.pageAt = devF b + 1 then b else { b with hst := { b.hst with pageAt := devF b + 1 } })
  | 5 => overrun 5 (chainLate b)
  | k => overrun k b

/-! Commands. -/

/-- BLOCK_RESET (R465). -/
def execBlockReset (d : Domain) (crcBad : Bool) (s : State) : Host.Outcome State Fault Refusal := run (inFrame (blockReset d crcBad)) s

/-- FRAME_TICK (R10, R26): the next frame begins, at PTM master time `ptmNs` (R411). -/
def execFrameTick (ptmNs : BitVec 64) (s : State) : Host.Outcome State Fault Refusal := run (inFrame (frameTick ptmNs.toNat)) s

/-- FRAME_NUMBER_JUMP (R359): the tick at which the follower's frame number becomes the root's. -/
def execFrameNumberJump (x : RootFrame) (s : State) : Host.Outcome State Fault Refusal :=
  run (inFrame (frameJump x.frame.toNat x.ptmNs.toNat)) s

/-- CHAIN_TICK (R24, R29): channel averages of the chain tick that ended, and V_DS of each FET. -/
def execChainTick (x : ChainInput) (s : State) : Host.Outcome State Fault Refusal := run (inFrame (chainTick x)) s

/-- SLUICE_EVAL (R27, R456 to R458, R470). -/
def execSluiceEval (s : State) : Host.Outcome State Fault Refusal := run (inFrame evalStage) s

/-- EMIT (R27, R30): `n` bounds the records that are placed in time. -/
def execEmit (n : Nat) (s : State) : Host.Outcome State Fault Refusal := run (inFrame (emitStage n)) s

/-- STAGE_OVERRUN (R30, R31). -/
def execStageOverrun (stage : Fin 6) (s : State) : Host.Outcome State Fault Refusal := run (inFrame (stageOverrun stage.val)) s

end Sys2Proof.Machine
end

