-- ==== Sys2Proof/Machine/Dispatch.lean ====
section
/-! DEFINITION. One arm per command. -/

namespace Sys2Proof.Machine

def exec (i : Instr) (s : State) : Host.Outcome State Fault Refusal :=
  match i with
  | .powerOnReset => Sys2Proof.Machine.execPowerOnReset s
  | .externalReset => Sys2Proof.Machine.execExternalReset s
  | .chipReset => Sys2Proof.Machine.execChipReset s
  | .watchdogExpiry => Sys2Proof.Machine.execWatchdogExpiry s
  | .boot x => Sys2Proof.Machine.execBoot x s
  | .perstNReset => Sys2Proof.Machine.execPerstNReset s
  | .functionLevelReset => Sys2Proof.Machine.execFunctionLevelReset s
  | .pcieConfigRequest r => Sys2Proof.Machine.execPcieConfigRequest r s
  | .dmaSuspend c => Sys2Proof.Machine.execDmaSuspend c s
  | .dmaResume c => Sys2Proof.Machine.execDmaResume c s
  | .safeInAssert => Sys2Proof.Machine.execSafeInAssert s
  | .pwrRequestRun v => Sys2Proof.Machine.execPwrRequestRun v s
  | .pwrRequestStandby v => Sys2Proof.Machine.execPwrRequestStandby v s
  | .pwrRequestPark v => Sys2Proof.Machine.execPwrRequestPark v s
  | .parkEntry fail w => Sys2Proof.Machine.execParkEntry fail w s
  | .wakeInWake w => Sys2Proof.Machine.execWakeInWake w s
  | .wakeTimerExpiry w => Sys2Proof.Machine.execWakeTimerExpiry w s
  | .causewayWakeTone w => Sys2Proof.Machine.execCausewayWakeTone w s
  | .hostWake perst w => Sys2Proof.Machine.execHostWake perst w s
  | .tierSupplyLoss t => Sys2Proof.Machine.execTierSupplyLoss t s
  | .tierSupplyReturn t => Sys2Proof.Machine.execTierSupplyReturn t s
  | .lcTransition target => Sys2Proof.Machine.execLcTransition target s
  | .lcNewChallenge => Sys2Proof.Machine.execLcNewChallenge s
  | .lcStoreServiceKey => Sys2Proof.Machine.execLcStoreServiceKey s
  | .lcStoreCausewayKey => Sys2Proof.Machine.execLcStoreCausewayKey s
  | .cfgCommit => Sys2Proof.Machine.execCfgCommit s
  | .nvCommit q d => Sys2Proof.Machine.execNvCommit q d s
  | .configCommitCapture => Sys2Proof.Machine.execConfigCommitCapture s
  | .configCommitDone ok => Sys2Proof.Machine.execConfigCommitDone ok s
  | .frameTick ptmNs => Sys2Proof.Machine.execFrameTick ptmNs s
  | .chainTick x => Sys2Proof.Machine.execChainTick x s
  | .modelStepBoundary => Sys2Proof.Machine.execModelStepBoundary s
  | .stepLengthChange => Sys2Proof.Machine.execStepLengthChange s
  | .doorbellFetch lines bad => Sys2Proof.Machine.execDoorbellFetch lines bad s
  | .tierResultBlock t k => Sys2Proof.Machine.execTierResultBlock t k s
  | .collectDeadline => Sys2Proof.Machine.execCollectDeadline s
  | .sluiceEval => Sys2Proof.Machine.execSluiceEval s
  | .emit n => Sys2Proof.Machine.execEmit n s
  | .statusPageWrite => Sys2Proof.Machine.execStatusPageWrite s
  | .stageOverrun stage => Sys2Proof.Machine.execStageOverrun stage s
  | .auxConversionDone xs => Sys2Proof.Machine.execAuxConversionDone xs s
  | .filterOutput codes => Sys2Proof.Machine.execFilterOutput codes s
  | .openWireTest => Sys2Proof.Machine.execOpenWireTest s
  | .checkConversion ks => Sys2Proof.Machine.execCheckConversion ks s
  | .checkRefCross ks => Sys2Proof.Machine.execCheckRefCross ks s
  | .feCommit v => Sys2Proof.Machine.execFeCommit v s
  | .measurementCommitApply => Sys2Proof.Machine.execMeasurementCommitApply s
  | .quietIntervalStart => Sys2Proof.Machine.execQuietIntervalStart s
  | .quietIntervalEnd => Sys2Proof.Machine.execQuietIntervalEnd s
  | .feAlignRun => Sys2Proof.Machine.execFeAlignRun s
  | .fineAlignmentStart => Sys2Proof.Machine.execFineAlignmentStart s
  | .fineAlignmentApply ds => Sys2Proof.Machine.execFineAlignmentApply ds s
  | .tierAlignment ds => Sys2Proof.Machine.execTierAlignment ds s
  | .policyNotchPlacement => Sys2Proof.Machine.execPolicyNotchPlacement s
  | .rippleCaptureDone lines => Sys2Proof.Machine.execRippleCaptureDone lines s
  | .impStart v => Sys2Proof.Machine.execImpStart v s
  | .impSweep q d => Sys2Proof.Machine.execImpSweep q d s
  | .sweepAccept => Sys2Proof.Machine.execSweepAccept s
  | .impAbort v => Sys2Proof.Machine.execImpAbort v s
  | .impHostGo v => Sys2Proof.Machine.execImpHostGo v s
  | .impPassStart => Sys2Proof.Machine.execImpPassStart s
  | .impPointEnd refs cells => Sys2Proof.Machine.execImpPointEnd refs cells s
  | .fenStepComplete => Sys2Proof.Machine.execFenStepComplete s
  | .stepOverrun => Sys2Proof.Machine.execStepOverrun s
  | .fenHalt => Sys2Proof.Machine.execFenHalt s
  | .fenResume v => Sys2Proof.Machine.execFenResume v s
  | .fenStepWrite v => Sys2Proof.Machine.execFenStepWrite v s
  | .fenThrottleChange temp => Sys2Proof.Machine.execFenThrottleChange temp s
  | .currentHoldLimit => Sys2Proof.Machine.execCurrentHoldLimit s
  | .adaptRebuildStart => Sys2Proof.Machine.execAdaptRebuildStart s
  | .adaptRebuildDone cells crcOk => Sys2Proof.Machine.execAdaptRebuildDone cells crcOk s
  | .layoutStepDone => Sys2Proof.Machine.execLayoutStepDone s
  | .fenNodeSel v => Sys2Proof.Machine.execFenNodeSel v s
  | .fenImgWaddr v => Sys2Proof.Machine.execFenImgWaddr v s
  | .fenImgWdata v => Sys2Proof.Machine.execFenImgWdata v s
  | .imgValidate v => Sys2Proof.Machine.execImgValidate v s
  | .imgValidationDone => Sys2Proof.Machine.execImgValidationDone s
  | .imgSwapRequest v => Sys2Proof.Machine.execImgSwapRequest v s
  | .imgSwap q d => Sys2Proof.Machine.execImgSwap q d s
  | .imgClear v => Sys2Proof.Machine.execImgClear v s
  | .imgLoad q d data => Sys2Proof.Machine.execImgLoad q d data s
  | .imageBuildStart => Sys2Proof.Machine.execImageBuildStart s
  | .imageBuildDone crcOk => Sys2Proof.Machine.execImageBuildDone crcOk s
  | .policyModeChange => Sys2Proof.Machine.execPolicyModeChange s
  | .polOvrGo v => Sys2Proof.Machine.execPolOvrGo v s
  | .polOvrClear v => Sys2Proof.Machine.execPolOvrClear v s
  | .polOverride q d => Sys2Proof.Machine.execPolOverride q d s
  | .overrideTakeup => Sys2Proof.Machine.execOverrideTakeup s
  | .overrideExpiry => Sys2Proof.Machine.execOverrideExpiry s
  | .histogramSecond => Sys2Proof.Machine.execHistogramSecond s
  | .ledgerPeriodicFlush => Sys2Proof.Machine.execLedgerPeriodicFlush s
  | .ledFlush v => Sys2Proof.Machine.execLedFlush v s
  | .ledErase v => Sys2Proof.Machine.execLedErase v s
  | .ledgerFlushDone fail => Sys2Proof.Machine.execLedgerFlushDone fail s
  | .ledRdCtl v => Sys2Proof.Machine.execLedRdCtl v s
  | .ledRdData p => Sys2Proof.Machine.execLedRdData p s
  | .ledgerRead q d => Sys2Proof.Machine.execLedgerRead q d s
  | .balSetreg v => Sys2Proof.Machine.execBalSetreg v s
  | .balSet q d data => Sys2Proof.Machine.execBalSet q d data s
  | .balSetApply => Sys2Proof.Machine.execBalSetApply s
  | .balModeChange => Sys2Proof.Machine.execBalModeChange s
  | .autoTargetApply => Sys2Proof.Machine.execAutoTargetApply s
  | .balPeriodBoundary => Sys2Proof.Machine.execBalPeriodBoundary s
  | .balSlotBoundary => Sys2Proof.Machine.execBalSlotBoundary s
  | .balTimerExpiry c => Sys2Proof.Machine.execBalTimerExpiry c s
  | .chargeTargetMet => Sys2Proof.Machine.execChargeTargetMet s
  | .tierMarkerLoss t => Sys2Proof.Machine.execTierMarkerLoss t s
  | .bwReenum v e => Sys2Proof.Machine.execBwReenum v e s
  | .bwClrCnt v => Sys2Proof.Machine.execBwClrCnt v s
  | .hopBreak h up errs => Sys2Proof.Machine.execHopBreak h up errs s
  | .hopRestore x => Sys2Proof.Machine.execHopRestore x s
  | .controlBlock t missed => Sys2Proof.Machine.execControlBlock t missed s
  | .rlWalk v => Sys2Proof.Machine.execRlWalk v s
  | .rlLearn v => Sys2Proof.Machine.execRlLearn v s
  | .reedlineCycle xs => Sys2Proof.Machine.execReedlineCycle xs s
  | .rlLineShort t => Sys2Proof.Machine.execRlLineShort t s
  | .rlShortRecovery t => Sys2Proof.Machine.execRlShortRecovery t s
  | .rlTagSel v => Sys2Proof.Machine.execRlTagSel v s
  | .cwReenum v e => Sys2Proof.Machine.execCwReenum v e s
  | .cwEnumToken south node x => Sys2Proof.Machine.execCwEnumToken south node x s
  | .cwLearn v => Sys2Proof.Machine.execCwLearn v s
  | .cwReneg v => Sys2Proof.Machine.execCwReneg v s
  | .cwHopTraining h peer fails => Sys2Proof.Machine.execCwHopTraining h peer fails s
  | .cwWakeTx v => Sys2Proof.Machine.execCwWakeTx v s
  | .syncBlock x => Sys2Proof.Machine.execSyncBlock x s
  | .frameNumberJump x => Sys2Proof.Machine.execFrameNumberJump x s
  | .syncLoss => Sys2Proof.Machine.execSyncLoss s
  | .heartbeatReceive node fault sev => Sys2Proof.Machine.execHeartbeatReceive node fault sev s
  | .cwHbLost node => Sys2Proof.Machine.execCwHbLost node s
  | .chainRecordReceive r => Sys2Proof.Machine.execChainRecordReceive r s
  | .cwTagReceive node kind content tag => Sys2Proof.Machine.execCwTagReceive node kind content tag s
  | .cwHopBreak h fwd => Sys2Proof.Machine.execCwHopBreak h fwd s
  | .cwRouteRestore => Sys2Proof.Machine.execCwRouteRestore s
  | .cwProfileChange slow => Sys2Proof.Machine.execCwProfileChange slow s
  | .radioSuperframe => Sys2Proof.Machine.execRadioSuperframe s
  | .radioPacketReceive bytes => Sys2Proof.Machine.execRadioPacketReceive bytes s
  | .radioLoss => Sys2Proof.Machine.execRadioLoss s
  | .cwFwdGo v => Sys2Proof.Machine.execCwFwdGo v s
  | .cwForward q d data => Sys2Proof.Machine.execCwForward q d data s
  | .forwardRequest m => Sys2Proof.Machine.execForwardRequest m s
  | .forwardResponse node q x t => Sys2Proof.Machine.execForwardResponse node q x t s
  | .forwardTimeout => Sys2Proof.Machine.execForwardTimeout s
  | .hstDbbFetch => Sys2Proof.Machine.execHstDbbFetch s
  | .hstDbbFetchAll => Sys2Proof.Machine.execHstDbbFetchAll s
  | .hstDbbTime => Sys2Proof.Machine.execHstDbbTime s
  | .hstDbbSq q v => Sys2Proof.Machine.execHstDbbSq q v s
  | .cfgWrite q d data => Sys2Proof.Machine.execCfgWrite q d data s
  | .cfgRead q d data => Sys2Proof.Machine.execCfgRead q d data s
  | .capPull q d pace => Sys2Proof.Machine.execCapPull q d pace s
  | .bistRun q d => Sys2Proof.Machine.execBistRun q d s
  | .fwUpdate q d data readback => Sys2Proof.Machine.execFwUpdate q d data readback s
  | .timeSync q d => Sys2Proof.Machine.execTimeSync q d s
  | .completionPost c => Sys2Proof.Machine.execCompletionPost c s
  | .hstRingEnable => Sys2Proof.Machine.execHstRingEnable s
  | .hstQuotaWrite r v => Sys2Proof.Machine.execHstQuotaWrite r v s
  | .spiRead h ch cycles => Sys2Proof.Machine.execSpiRead h ch cycles s
  | .spiWrite h ch ws cw cycles => Sys2Proof.Machine.execSpiWrite h ch ws cw cycles s
  | .spiWriteFixed h ch ws cw cycles => Sys2Proof.Machine.execSpiWriteFixed h ch ws cw cycles s
  | .spiPop h ch cycles => Sys2Proof.Machine.execSpiPop h ch cycles s
  | .spiFifoSkip f v => Sys2Proof.Machine.execSpiFifoSkip f v s
  | .spiFifoFlush f v => Sys2Proof.Machine.execSpiFifoFlush f v s
  | .lowHalfRead p a => Sys2Proof.Machine.execLowHalfRead p a s
  | .highHalfRead p a => Sys2Proof.Machine.execHighHalfRead p a s
  | .capRingEnable => Sys2Proof.Machine.execCapRingEnable s
  | .capTrig r v => Sys2Proof.Machine.execCapTrig r v s
  | .capArm r v => Sys2Proof.Machine.execCapArm r v s
  | .captureDone => Sys2Proof.Machine.execCaptureDone s
  | .capMarkWrite r v => Sys2Proof.Machine.execCapMarkWrite r v s
  | .capRdData p => Sys2Proof.Machine.execCapRdData p s
  | .cntModeWrite n v => Sys2Proof.Machine.execCntModeWrite n v s
  | .cntClear n v => Sys2Proof.Machine.execCntClear n v s
  | .cntUnfreeze v => Sys2Proof.Machine.execCntUnfreeze v s
  | .supervisorDetector src detail => Sys2Proof.Machine.execSupervisorDetector src detail s
  | .blockReset d crcBad => Sys2Proof.Machine.execBlockReset d crcBad s
  | .slStickyClear w v => Sys2Proof.Machine.execSlStickyClear w v s
  | .slInjSet w v => Sys2Proof.Machine.execSlInjSet w v s
  | .slInjClr w v => Sys2Proof.Machine.execSlInjClr w v s
  | .bistCtlRun v => Sys2Proof.Machine.execBistCtlRun v s
  | .bistCtlAbort v => Sys2Proof.Machine.execBistCtlAbort v s
  | .bistRunStart => Sys2Proof.Machine.execBistRunStart s
  | .bistRunEnd x => Sys2Proof.Machine.execBistRunEnd x s
  | .rollingAbistStart => Sys2Proof.Machine.execRollingAbistStart s
  | .registerWrite p a v => Sys2Proof.Machine.execRegisterWrite p a v s
  | .safeInRelease => Sys2Proof.Machine.execSafeInRelease s
  | .detectorConditionEnd src => Sys2Proof.Machine.execDetectorConditionEnd src s
  | .jtagAccess o => Sys2Proof.Machine.execJtagAccess o s
  | .perstNRelease => Sys2Proof.Machine.execPerstNRelease s
  | .pcieLinkUp speed x2 => Sys2Proof.Machine.execPcieLinkUp speed x2 s
  | .aspmL1Entry => Sys2Proof.Machine.execAspmL1Entry s
  | .unknownOpcodeDescriptor q op d => Sys2Proof.Machine.execUnknownOpcodeDescriptor q op d s

end Sys2Proof.Machine
end

