-- ==== Sys2Proof/Safety.lean ====
section
/-! DEFINITION. What counts as a safe run, in the terms the statements use: the canonical form of the register file, what the nonvolatile side of the block keeps
(R81, R98), and, by family, what a command's effect looks like from outside: resets, wakes, registers written, commands of the rings that wait or complete. -/

namespace Sys2Proof.Machine

/-- The register file lists no register at its reset value and none twice. -/
def Canonical (b : Block) : Prop := mapWf resetWord b.regs = true

/-- The two life-cycle records are whole and give the state that is shown as stored (R97). -/
def LifeKept (b : Block) : Prop :=
  lifeStored b.lc = b.lc.life ∧ b.lc.records.length = 2 ∧ ∀ r, r ∈ b.lc.records → r.seq < 2 ^ 32

/-- The life-cycle records are whole, and a retired device holds no key and no configuration copy, and no commit is under way (R97, R98). -/
def RetiredClean (b : Block) : Prop :=
  LifeKept b ∧ (b.lc.life = .retired →
    b.lc.keySvc = none ∧ b.lc.keyCw = none ∧ b.cfg.copies = [{}, {}] ∧ b.cfg.requested = false ∧ b.cfg.captured = none)

/-- The life cycle moves only along the transitions of R98. -/
def LifeMoves (b c : Block) : Prop := c.lc.life = b.lc.life ∨ ∃ auth, lifeStep b.lc.life c.lc.life = some auth

/-! Registers. -/

/-- Every register but those listed reads as before. -/
def RegsBut (as : List Nat) (b c : Block) : Prop := ∀ a, a ∉ as → getR c a = getR b a

/-- Every field of register `f` beside field `f` reads as before. -/
def FieldsBeside (f : Fld) (b c : Block) : Prop :=
  ∀ lo len, lo + len ≤ f.lo ∨ f.lo + f.len ≤ lo → bitsOf (getR c f.reg).toNat lo len = bitsOf (getR b f.reg).toNat lo len

/-- Offset `a` below 0x8000 belongs to a register whose write does what its access codes say and no more (R12). -/
def plainLow (a : Nat) : Bool :=
  let between := fun (x : Nat) (y : Nat) => decide (x ≤ a ∧ a < y)
  a / 0x1000 != 2 && !([R.PWR_CTL, R.LC_CTL, R.CFG_CTL, R.BIST_CTL, R.BIST_ROLL, R.CNT_CTL].contains a) &&
    !(between 0xC40 0xCC0 || between 0x3100 0x3140 || between 0x4100 0x4140 || between 0x4180 0x4200 || between 0x4800 0x5000 || between 0x7100 0x7500)

/-- The same from offset 0x8000 on. -/
def plainHigh (a : Nat) : Bool :=
  let between := fun (x : Nat) (y : Nat) => decide (x ≤ a ∧ a < y)
  !([R.FE_COMMIT, R.FE_ALIGN_CTL, R.IMP_CTL, R.BAL_SETREG, R.BW_CTL, R.RL_CTL, R.RL_TAG_SEL, R.CW_CTL, R.CW_FWD_CTL, R.CW_TOPO, R.CAP_RD_POS, R.FEN_CTL,
    R.FEN_NODE_SEL, R.FEN_IMG_CTL, R.FEN_IMG_WADDR, R.FEN_IMG_WDATA, R.POL_OVR_CTL, R.LED_CTL, R.LED_RD_CTL].contains a) &&
    !(between 0xC200 0xCE00 || between 0xE204 0xE280 || between 0xD900 0xDD00 || between 0xF100 0xF500)

/-- Bit `j` of a register of row `r` after a write of `v` over `old` (R12): W1C bits written 1 clear, RW and RWS bits take the word, others stay. -/
def bitAfter (r : RegRow) (old v : Word) (j : Nat) : Bool :=
  if bitOf r.w1c j && bitOf v.toNat j then false else if bitOf (r.rw ||| r.rws) j then bitOf v.toNat j else bitOf old.toNat j

/-! Resets and power. -/

/-- What a module reset leaves (R76, R97, R100, R102, R494), for the cause at that bit of PWR_CAUSE. -/
def AfterReset (cause : Nat) (b c : Block) : Prop :=
  getR c R.PWR_CAUSE = w32 (2 ^ cause) ∧ (∀ a, a ≠ R.PWR_CAUSE → a ≠ R.LC_STATE → getR c a = resetWord a) ∧
  getF c F.LC_STATE_STATE = lifeCode (lifeStored b.lc) ∧ getF c F.LC_STATE_KEY_SVC = nat01 b.lc.keySvc.isSome ∧
  getF c F.LC_STATE_KEY_CW = nat01 b.lc.keyCw.isSome ∧ getF c F.LC_STATE_AUTH_FAIL = 0 ∧ getF c F.LC_STATE_RESULT = 0 ∧
  getF c F.LC_STATE_LOCKED = (if cause = 8 then 0 else getF b F.LC_STATE_LOCKED) ∧
  c.lc = { records := b.lc.records, life := lifeStored b.lc, acting := lifeStored b.lc, keySvc := b.lc.keySvc, keyCw := b.lc.keyCw } ∧
  c.cfg = { copies := b.cfg.copies } ∧ c.fw.copies = b.fw.copies ∧ c.fw.floor = b.fw.floor ∧ c.bist = { copies := b.bist.copies } ∧
  c.calib = b.calib ∧ c.dieIds = b.dieIds ∧ c.pwr = { supplyLost := b.pwr.supplyLost, state := c.pwr.state } ∧ c.clock = {} ∧ c.act = [] ∧
  c.sl = { cond := heldConds b } ∧ c.spi = {} ∧ c.latch = {} ∧ c.cap = {} ∧
  c.fe = {} ∧ c.bal = {} ∧ c.imp = {} ∧ c.bw = {} ∧ c.rl = {} ∧ c.cw = {} ∧ c.fen = {} ∧ c.pol = {} ∧ c.recs = [] ∧ c.carry = [] ∧
  c.hst = { inReset := !b.pins.perstN } ∧ c.out = b.out

/-- What the end of PARK leaves (R94, R95). -/
def Woken (w : WakeInput) (b c : Block) : Prop :=
  (c.pwr.state = .run ∨ c.pwr.state = .safe) ∧ (b.pins.safeIn = true → c.pwr.state = .safe) ∧ c.pwr.parked = false ∧ c.pwr.wakes = [] ∧
  c.clock.ticks = b.clock.ticks + (w.parked + w.frames) * 512 ∧ c.lc = b.lc ∧
  (b.cfg.requested = false → b.cfg.captured = none → c.cfg = b.cfg)

/-- What an evaluation of the slots `is` on the conditions `w` leaves (R456 to R458): a slot is live exactly where its condition holds, occurred since the last
evaluation, or is injected, and one that is live is uncleared. -/
def SourcesJudged (w : List (Nat × SrcCond)) (is : List Nat) (b c : Block) : Prop :=
  ∀ i, i ∈ is →
    (arrBit c (R.SL_LIVE 0) i = true ↔ (mapGet (fun _ => {}) w i).level = true ∨ (mapGet (fun _ => {}) w i).pulse = true ∨ arrBit b (R.SL_INJ_ACT 0) i = true) ∧
    (arrBit c (R.SL_LIVE 0) i = true → i ∈ uncleared c)

/-- The write of PWR_CTL that carries a request (R88): its stored fields take the word, and no other register and nothing but the request changes. -/
def PwrCtlWritten (v : Word) (b c : Block) : Prop :=
  c = { b with regs := c.regs, pwr := { b.pwr with request := c.pwr.request } } ∧ getF c F.PWR_CTL_RETAIN = bitsOf v.toNat 12 4 ∧
  getF c F.PWR_CTL_BAL_CONT = bitsOf v.toNat 11 1 ∧ RegsBut [R.PWR_CTL] b c

/-- The challenge is unused and the written signature verifies over the message of R99. -/
def challengeMet (b : Block) (t : Life) : Prop :=
  b.lc.challenge = true ∧ ecdsaVerify (b.lc.keySvc.getD []) (lcMessage b (lifeCode t)) (lcSignature b) = true

/-- What LC_NEW_CHALLENGE and the key operations do (R99, R101). -/
def KeyRequests (b : Block) (q : List Instr) : Prop :=
  (∃ c, exec .lcNewChallenge ⟨b, q⟩ = .next ⟨c, q⟩ ∧
    c = { b with regs := c.regs, lc := { b.lc with challenge := true }, freeCtr := b.freeCtr + 4 } ∧
    (∀ i, i < 4 → getR c (R.LC_CHALLENGE i) = w32 (Config.free (b.freeCtr + i))) ∧
    (∀ a, (∀ i, i < 4 → a ≠ R.LC_CHALLENGE i) → getR c a = getR b a)) ∧
  (b.lc.acting = .factory ∨ b.lc.acting = .provisioned → b.lc.life ≠ .retired →
    ∃ c, exec .lcStoreServiceKey ⟨b, q⟩ = .next ⟨c, q⟩ ∧
      c = { b with regs := c.regs, lc := { b.lc with keySvc := some (lcKey b 16), key := [] } } ∧
      getF c F.LC_STATE_RESULT = 1 ∧ getF c F.LC_STATE_KEY_SVC = 1 ∧ ∀ a, a ≠ R.LC_STATE → getR c a = getR b a) ∧
  (b.lc.acting = .factory ∨ b.lc.acting = .provisioned ∨ b.lc.acting = .service → b.lc.life ≠ .retired →
    ∃ c, exec .lcStoreCausewayKey ⟨b, q⟩ = .next ⟨c, q⟩ ∧
      c = { b with regs := c.regs, lc := { b.lc with keyCw := some (lcKey b 4), key := [] } } ∧
      getF c F.LC_STATE_RESULT = 1 ∧ getF c F.LC_STATE_KEY_CW = 1 ∧ ∀ a, a ≠ R.LC_STATE → getR c a = getR b a) ∧
  (b.lc.acting = .service → exec .lcStoreServiceKey ⟨b, q⟩ = .next ⟨setF F.LC_STATE_RESULT 2 b, q⟩) ∧
  (b.lc.life = .retired ∨ b.lc.acting = .field ∨ b.lc.acting = .retired →
    exec .lcStoreServiceKey ⟨b, q⟩ = .next ⟨setF F.LC_STATE_RESULT 2 b, q⟩ ∧
    exec .lcStoreCausewayKey ⟨b, q⟩ = .next ⟨setF F.LC_STATE_RESULT 2 b, q⟩)

/-- No firmware update asked for before the commit under way holds the store (R102). -/
def StoreAfter (b : Block) : Prop := ∀ j, b.fw.job = some j → j.afterCommit = true

/-- The words `ws` written to a firmware copy from word offset `at_` on (R405). -/
def fwContent (at_ : Nat) (ws : List Nat) (old : List (Nat × Nat)) : List (Nat × Nat) :=
  (List.range ws.length).foldl (fun m i => mapPut (fun _ => 0) m (at_ + i) (ws.getD i 0)) old

/-- The command of update `j`, where a ring still waits for it, completes (R399, R403). -/
def FwAnswer (j : FwJob) (detail status r1 : Nat) (b c : Block) : Prop :=
  ∀ r tag, j.ring = some r → (sqOf b r).running = some ⟨0x0B, tag, .fwUpdate⟩ → (cqOf b (cqNo b r)).en = true →
    cqOf c (cqNo b r) = { cqOf b (cqNo b r) with
      waiting := (cqOf b (cqNo b r)).waiting ++ [⟨0x0B, r, tag, detail, status, j.len % 2 ^ 32, r1 % 2 ^ 32⟩] } ∧
    ∀ p, p ≠ cqNo b r → cqOf c p = cqOf b p

/-- The sequence number of the next configuration copy (R105): one after the active valid copy's, or 1. -/
def nextSeq (b : Block) : Nat :=
  if cfgValid (b.cfg.copies.getD (getF b F.CFG_STATUS_ACTIVE) {}) then ((b.cfg.copies.getD (getF b F.CFG_STATUS_ACTIVE) {}).seq + 1) % 2 ^ 32 else 1

/-! Balancing. -/

/-- What sets and targets give cell `n` (R294, R301): timer in seconds, duty in sixteenths, target and delivered charge in mAs. -/
def bleedOf (b : Block) (n : Nat) : Nat × Nat × Option Nat × Rat :=
  ((balOf b n).timer, (balOf b n).duty, (balOf b n).target, (balOf b n).charge)

/-- What entry `w` of an accepted set leaves of cell `n`, whose tier is under forced bleed-off or not (R299, R300): STOP_ALL and STOP end the bleeding, and SET with a time gives it,
with its duty, and begins the charge anew, but for a forced tier's cell, which stops. -/
def entryGives (forced : Bool) (n : Nat) (w : Word) (x : Nat × Nat × Option Nat × Rat) : Nat × Nat × Option Nat × Rat :=
  if bitsOf w.toNat 16 4 = 2 then (0, 0, x.2.2.1, x.2.2.2)
  else if w.toNat / 2 ^ 24 ≠ n then x
  else if bitsOf w.toNat 16 4 = 0 ∧ w.toNat % 2 ^ 16 ≠ 0 ∧ forced = false then (w.toNat % 2 ^ 16, bitsOf w.toNat 20 4 + 1, x.2.2.1, 0)
  else (0, 0, x.2.2.1, x.2.2.2)

/-- Entry `w` is refused (R300): a reserved OP, a CELL outside 1 to 192 or absent, or a SET with a time of a cell whose RES is below 1,670. -/
def entryBad (b : Block) (w : Word) : Prop :=
  bitsOf w.toNat 16 4 ≠ 2 ∧ (2 < bitsOf w.toNat 16 4 ∨ w.toNat / 2 ^ 24 = 0 ∨ 192 < w.toNat / 2 ^ 24 ∨ present b (w.toNat / 2 ^ 24) = false ∨
    (bitsOf w.toNat 16 4 = 0 ∧ w.toNat % 2 ^ 16 ≠ 0 ∧ rBal b (w.toNat / 2 ^ 24) < 1670))

/-- The sets that wait for the tick, in their order: those of BAL_SET, then that of BAL_SETREG (R300). -/
def setsWaiting (b : Block) : List (List Word) := b.bal.sets.map (·.2) ++ (if b.bal.regSet = [] then [] else [b.bal.regSet])

/-- A write of `w` to FEN_CTL (R216, R221): the stored fields take the word; STEP only where it fits and no image swap waits or is being laid out, and then it awaits its boundary; RESUME is
kept for the boundary; ADAPT_EN may end a rebuild. -/
def FenCtlWritten (w : Word) (b c : Block) : Prop :=
  c = { b with regs := c.regs, fen := { b.fen with resume := b.fen.resume || bitOf w.toNat 6 } } ∧ RegsBut [R.FEN_CTL, R.FEN_STATUS, R.FEN_REBUILD] b c ∧
  getF c F.FEN_STATUS_STEP_ACT = getF b F.FEN_STATUS_STEP_ACT ∧ getF c F.FEN_CTL_FULL_EN = bitsOf w.toNat F.FEN_CTL_FULL_EN.lo 1 ∧
  (stepFits b (bitsOf w.toNat 0 2) = true → getF b F.FEN_IMG_STATUS_STATE ≠ 6 →
    getF c F.FEN_CTL_STEP = bitsOf w.toNat 0 2 ∧ getF c F.FEN_STATUS_STEP_PEND = nat01 (bitsOf w.toNat 0 2 != getF b F.FEN_STATUS_STEP_ACT)) ∧
  (stepFits b (bitsOf w.toNat 0 2) = false ∨ getF b F.FEN_IMG_STATUS_STATE = 6 →
    getF c F.FEN_CTL_STEP = getF b F.FEN_CTL_STEP ∧ getF c F.FEN_STATUS_STEP_REFUSED = 1 ∧ getF c F.FEN_STATUS_STEP_PEND = getF b F.FEN_STATUS_STEP_PEND)

/-- A write of `w` to POL_OVR_CTL with GO (R279): its request waits, or is refused with 3 where sixteen wait. -/
def OverrideAsked (w : Word) (b c : Block) : Prop :=
  (b.pol.wait.length < 16 → RegsBut [R.POL_OVR_CTL] b c ∧
    c = { b with regs := c.regs, pol := { b.pol with wait := b.pol.wait ++ [ovrWord w.toNat (getR b R.POL_OVR_ARG).toNat none] } }) ∧
  (16 ≤ b.pol.wait.length → c = { b with regs := c.regs } ∧ getF c F.POL_OVR_STATUS_RESULT = 3 ∧
    getF c F.POL_OVR_STATUS_REFUSED = min (getF b F.POL_OVR_STATUS_REFUSED + 1) 255 ∧ RegsBut [R.POL_OVR_CTL, R.POL_OVR_STATUS] b c)

/-- What an enumeration of the Causeway with result `e` leaves at the root (R354): the followers found from the north and, where the token did not come back, from the south,
the marks of exactly these, and every hop between two neighbours trained but the one behind the followers of a token that did not come back (R351). -/
def ChainEnumDone (e : CwEnum) (b c : Block) : Prop :=
  let start := if getF b F.CW_TOPO_N_EXPECT = 0 then 31 else min 31 (getF b F.CW_TOPO_N_EXPECT)
  let nodes := span 1 e.north.val ++ if e.whole then [] else span (start + 1 - min e.south.val (start - e.north.val)) start
  c.cw.nodes = nodes ∧ c.cw.enumRun = none ∧ getF c F.CW_STATUS_ENUM_BUSY = 0 ∧ getF c F.CW_STATUS_REVERSED = nat01 (!e.whole) ∧
  getF c F.CW_STATUS_N_FOLLOW = nodes.length % 64 ∧ roleAct c = roleAct b ∧ c.lc = b.lc ∧ c.clock = b.clock ∧
  c.cw.modules = e.north.val + (if e.whole then e.unas.toNat else min e.south.val (start - e.north.val)) ∧
  (∀ h, h ≤ c.cw.modules → (e.whole = true ∨ h ≠ e.north.val → (cwHop c h).trained = true ∧ (cwHop c h).fwdBroken = false ∧ (cwHop c h).retBroken = false) ∧
    (e.whole = false → h = e.north.val → (cwHop c h).trained = false ∧ (cwHop c h).fwdBroken = true ∧ (cwHop c h).retBroken = true)) ∧
  ∀ a, 1 ≤ a → a ≤ 31 → getF c (F.CW_NODE_STATUS_PRESENT a) = nat01 (nodes.contains a) ∧
    getR c (R.CW_NODE_ID a) = if nodes.contains a then e.ids.getD (a - 1) 0 else 0

/-- The module's use of the radio has ended (R357): nothing heard, nothing due, and inactive. -/
def radioSilent (x : Causeway) : Causeway := { x with sfHeard := [], sfNone := 0, sfOn := false, txAt := none, radio := [] }

/-- A root meets another root's message and passes it on as `o` (R357). -/
def InConflict (o : Output) (b c : Block) : Prop :=
  getF c F.CW_STATUS_CONFLICT = 1 ∧ getF c F.CW_RF_STATUS_ACTIVE = 0 ∧ (condOf c Slot.cwConflict).level = true ∧ RegsBut [R.CW_STATUS, R.CW_RF_STATUS] b c ∧
  c = { b with regs := c.regs, cw := { radioSilent b.cw with tagFails := c.cw.tagFails }, sl := { b.sl with cond := c.sl.cond }, out := b.out ++ [o] }

/-- What an enumeration of the Boardwalk with result `e` leaves (R317, R523): the numbers, the identifiers, the hops, the broken hop of a token that stopped, and the tiers
that took a number to be aligned. -/
def EnumDone (e : EnumResult) (b c : Block) : Prop :=
  (∀ t : Tier, (t.val ∈ c.bw.taken ↔ t.val < e.foot.val ∨ 16 ≤ t.val + e.head.val) ∧
    (t.val ∈ c.bw.numbered ↔ t.val ∈ c.bw.taken ∧ e.ids.getD t.val 0 = b.dieIds.getD t.val 0) ∧ tierAvail c t.val = false ∧
    getF c (F.BW_TIER_ENUM_NUMBERED t.val) = nat01 (c.bw.taken.contains t.val) ∧
    getF c (F.BW_TIER_ENUM_ID_OK t.val) = nat01 (c.bw.numbered.contains t.val) ∧
    (t.val ∈ c.bw.taken → getR c (R.BW_TIER_ID t.val) = e.ids.getD t.val 0 ∧ ∃ a, a ∈ c.fe.align ∧ t.val ∈ a.tiers ∧ a.start = none)) ∧
  (e.foot.val = 16 → (∀ h : HopNo, hopBroken c h.val = false) ∧ getF c F.FE_STATUS_ALIGN_VALID = 0) ∧
  (e.foot.val ≠ 16 → hopBroken c e.foot.val = true ∧ hopBroken c (16 - e.head.val) = true) ∧
  c.bw.enumRun = none ∧ c.lc = b.lc ∧ c.pwr = b.pwr ∧ c.clock.ticks = b.clock.ticks

/-! Commands of the submission rings (R397 to R403). -/

/-- The block with the next descriptor of ring `q` started. -/
def startedCmd (q op : Nat) (d : Desc) (b : Block) : Block :=
  putSq q { sqOf b q with running := some ⟨op, d.tag.toNat, .done⟩ } (setR (R.HST_SQ_STATUS q) (getR b (R.HST_SQ_STATUS q) + 1) b)

/-- The descriptor of ring `q` has started and its command waits for `w`: the count of started descriptors is one higher, no other ring changed and no completion is
posted. -/
def CmdWaits (q op : Nat) (d : Desc) (w : CmdWait) (b c : Block) : Prop :=
  getR c (R.HST_SQ_STATUS q) = getR b (R.HST_SQ_STATUS q) + 1 ∧ sqOf c q = { sqOf b q with running := some ⟨op, d.tag.toNat, w⟩ } ∧
  (∀ p, p ≠ q → sqOf c p = sqOf b p) ∧ ∀ p, cqOf c p = cqOf b p

/-- The descriptor of ring `q` has started and its command has completed: one completion waits, last, at its completion ring. -/
def CmdCompletes (q op : Nat) (d : Desc) (detail status r0 r1 : Nat) (b c : Block) : Prop :=
  getR c (R.HST_SQ_STATUS q) = getR b (R.HST_SQ_STATUS q) + 1 ∧ sqOf c q = { sqOf b q with running := some ⟨op, d.tag.toNat, .done⟩ } ∧
  (∀ p, p ≠ q → sqOf c p = sqOf b p) ∧ (∀ p, p ≠ cqNo b q → cqOf c p = cqOf b p) ∧
  cqOf c (cqNo b q) = { cqOf b (cqNo b q) with
    waiting := (cqOf b (cqNo b q)).waiting ++ [⟨op, q, d.tag.toNat, detail, status, r0 % 2 ^ 32, r1 % 2 ^ 32⟩] }

end Sys2Proof.Machine
end

