-- ==== Sys2Proof/Certificates/Slice0/Obligations.lean ====
section
/-! DEFINITION. The statements for the provers: what the commands of each family do and leave alone, and what every step keeps. -/

open Sys2Proof Sys2Proof.Machine

/-- O1. A step of a state with command c at the front of its queue is exec of c on the same block with the queue's rest. With an empty queue the step
answers the same state. The table has no row for the passing of time, and the model takes none (log entry 21). -/
def Obligations.StepRunsFront : Prop :=
  (∀ (c : Instr) (b : Block) (rest : List Instr), step ⟨b, c :: rest⟩ = exec c ⟨b, rest⟩) ∧
  (∀ b : Block, step ⟨b, []⟩ = .next ⟨b, []⟩)

/-- O2. Every command, with every operand and in every state, answers a next state whose queue is the one it was given: no command faults, is refused or
sends another. -/
def Obligations.EveryCommandAnswers : Prop :=
  ∀ (i : Instr) (b : Block) (q : List Instr), ∃ c, exec i ⟨b, q⟩ = .next ⟨c, q⟩

/-- O3. Whatever command a step runs, from every state whose life-cycle records give the state shown as stored (LifeKept), the stored life-cycle state
stays or moves along one transition of R98's table, and the records give it still: none is skipped, none goes back but SERVICE to FIELD, and RETIRED is
never left. -/
def Obligations.LifeMovesOnly : Prop :=
  ∀ s t : State, LifeKept s.block → step s = .next t → LifeMoves s.block t.block ∧ LifeKept t.block

/-- O4. For every command but FRAME_TICK, FRAME_NUMBER_JUMP and the four module resets the state whose capabilities are in force stays; FRAME_TICK, in a
device whose frames run, puts the stored state in force. -/
def Obligations.CapabilitiesAtTick : Prop :=
  (∀ (i : Instr) (b c : Block) (q : List Instr), (∀ n, i ≠ .frameTick n) → (∀ r, i ≠ .frameNumberJump r) →
    i ≠ .powerOnReset → i ≠ .externalReset → i ≠ .chipReset → i ≠ .watchdogExpiry → exec i ⟨b, q⟩ = .next ⟨c, q⟩ → c.lc.acting = b.lc.acting) ∧
  (∀ (n : BitVec 64) (b : Block) (q : List Instr), framesRun b = true →
    ∃ c, exec (.frameTick n) ⟨b, q⟩ = .next ⟨c, q⟩ ∧ c.lc.acting = b.lc.life)

/-- O5. RetiredClean (the life-cycle records are whole, and a device whose stored state is RETIRED holds no key and no configuration copy and has no commit
requested or captured) is kept by every step from every state that has it. -/
def Obligations.RetiredStaysClean : Prop :=
  ∀ s t : State, RetiredClean s.block → step s = .next t → RetiredClean t.block

/-- O6. After power-on the block is RetiredClean and its register file is in canonical form. -/
def Obligations.ResetRetiredClean : Prop :=
  RetiredClean State.reset.block ∧ Canonical State.reset.block

/-- O7. Whatever command a step runs, from every state whose register file lists each register once, in rising order, and none at its reset value, the
register file is in that form again: equal register files are equal data. -/
def Obligations.CanonicalKept : Prop :=
  ∀ s t : State, Canonical s.block → step s = .next t → Canonical t.block

/-- O8. Whatever command a step runs, from every state, resets and firmware updates among them, the anti-rollback security version in the nonvolatile store
never falls. -/
def Obligations.FloorNeverFalls : Prop :=
  ∀ s t : State, step s = .next t → s.block.fw.floor ≤ t.block.fw.floor

/-- O9. For every command but the four module resets, the timestamp at the last frame tick never falls. -/
def Obligations.TimestampOnward : Prop :=
  ∀ (i : Instr) (b c : Block) (q : List Instr), exec i ⟨b, q⟩ = .next ⟨c, q⟩ →
    i ≠ .powerOnReset → i ≠ .externalReset → i ≠ .chipReset → i ≠ .watchdogExpiry → b.clock.ticks ≤ c.clock.ticks

/-- O10. POWER_ON_RESET always, and in a device whose LV rails are up EXTERNAL_RESET, CHIP_RESET where a CHIP reaction was applied and WATCHDOG_EXPIRY
where four frame ticks passed without a restart answer a block as AfterReset says: PWR_CAUSE names that cause alone, every other register but LC_STATE is
at its reset value, LC_STATE shows the stored state and keys and keeps LOCKED except at power-on, the timestamp is 0, the nonvolatile store is as it was,
and the device is held in reset, in BOOT, or in OFF at power-on, where a rail is out of its limits until the boot that follows. Without its cause
CHIP_RESET or WATCHDOG_EXPIRY changes nothing (the model's choice, log entry 23). -/
def Obligations.ModuleResets : Prop :=
  ∀ (b : Block) (q : List Instr),
    (∃ c, exec .powerOnReset ⟨b, q⟩ = .next ⟨c, q⟩ ∧ AfterReset 8 b c ∧ c.pwr.state = .off) ∧
    (b.pwr.state ≠ .off → ∃ c, exec .externalReset ⟨b, q⟩ = .next ⟨c, q⟩ ∧ AfterReset 9 b c ∧ c.pwr.state = .boot) ∧
    (b.pwr.state ≠ .off → b.sl.chipOwed = true → ∃ c, exec .chipReset ⟨b, q⟩ = .next ⟨c, q⟩ ∧ AfterReset 10 b c ∧ c.pwr.state = .boot) ∧
    (b.sl.chipOwed = false → exec .chipReset ⟨b, q⟩ = .next ⟨b, q⟩) ∧
    (b.pwr.state ≠ .off → 4 ≤ b.sl.wd → ∃ c, exec .watchdogExpiry ⟨b, q⟩ = .next ⟨c, q⟩ ∧ AfterReset 11 b c ∧ c.pwr.state = .boot) ∧
    (b.sl.wd < 4 → exec .watchdogExpiry ⟨b, q⟩ = .next ⟨b, q⟩)

/-- O11. firmwarePick answers a copy that is valid with a security version at or above the stored floor and whose version no such copy exceeds, and answers
none only where neither copy is one. At the end of a reset, in BOOT or in OFF, where no check of the boot path and no self-test failure keeps the module in
reset, BOOT up to its end starts the firmware copy firmwarePick answers and reaches RUN or SAFE (SAFE where SAFE_IN is high) with the timestamp at the
first measurement frame, READY set, the reset hold ended, and the life cycle and, where no commit of it was asked for (none is after a reset), the
configuration store as they were. With no copy to start, or after a fatal failure, the module stays in BOOT and is halted, its registers as they were. -/
def Obligations.BootOutcome : Prop :=
  (∀ b : Block,
    (∀ i, firmwarePick b = some i → i < 2 ∧ firmwareOk b i = true ∧
      ∀ j, j < 2 → firmwareOk b j = true → (b.fw.copies.getD j {}).version ≤ (b.fw.copies.getD i {}).version) ∧
    (firmwarePick b = none → firmwareOk b 0 = false ∧ firmwareOk b 1 = false) ∧
    (∀ i, firmwareOk b i = true ↔ (b.fw.copies.getD i {}).valid = true ∧ b.fw.floor ≤ (b.fw.copies.getD i {}).security)) ∧
  (∀ (x : BootInput) (b : Block) (q : List Instr), b.pwr.state = .boot ∨ b.pwr.state = .off → b.pwr.halted = false → b.pwr.resetHold = true → b.pwr.fwReady = false → x.stage = .finish →
    (∀ i, x.rom = false → bootFatal x (bootLands x b) = false → firmwarePick b = some i →
      ∃ c, exec (.boot x) ⟨b, q⟩ = .next ⟨c, q⟩ ∧ (c.pwr.state = .run ∨ c.pwr.state = .safe) ∧ (x.safeIn = true → c.pwr.state = .safe) ∧
        c.fw.running = i ∧ c.clock.ticks = max b.clock.ticks (512 * x.frames) ∧ c.clock.running = true ∧ c.pwr.resetHold = false ∧
        getF c F.SPI_INT_STATUS_READY = 1 ∧ c.lc = b.lc ∧ (b.cfg.requested = false → b.cfg.captured = none → c.cfg = b.cfg)) ∧
    (x.rom = true ∨ bootFatal x (bootLands x b) = true ∨ firmwarePick b = none →
      ∃ c, exec (.boot x) ⟨b, q⟩ = .next ⟨c, q⟩ ∧ c.pwr.state = .boot ∧ c.pwr.halted = true ∧ c.pwr.resetHold = false ∧ c.regs = b.regs ∧
        c.lc = b.lc ∧ c.cfg = b.cfg ∧ c.out = b.out))

/-- O12. In the entry to PARK, with no commit of the configuration under way and no wake latched, PARK_ENTRY runs one more frame and stops: the device is
parked, the PCIe link is down, no record or event waits, a firmware update under way is given up (its copy stays as far as it was written), and the life
cycle, the firmware copies and the configuration store are as they were. Until a commit under way has ended it changes nothing. -/
def Obligations.ParkEntered : Prop :=
  ∀ (fail : Option (BitVec 21)) (w : WakeInput) (b : Block) (q : List Instr), b.pwr.state = .park → b.pwr.parking = true →
    (b.cfg.requested = false → b.cfg.captured = none → b.pwr.wakes = [] →
      ∃ c, exec (.parkEntry fail w) ⟨b, q⟩ = .next ⟨c, q⟩ ∧ c.pwr.state = .park ∧ c.pwr.parked = true ∧ c.pwr.parking = false ∧
        c.clock.ticks = b.clock.ticks + 512 ∧ c.hst.linkUp = false ∧ c.recs = [] ∧ c.carry = [] ∧ c.sl.events = [] ∧ c.spi = {} ∧
        c.lc = b.lc ∧ c.fw = { b.fw with job := none } ∧ c.cfg = b.cfg) ∧
    (b.cfg.requested = true ∨ b.cfg.captured.isSome = true → exec (.parkEntry fail w) ⟨b, q⟩ = .next ⟨b, q⟩)

/-- O13. In a complete PARK each of WAKE_IN_WAKE, WAKE_TIMER_EXPIRY, CAUSEWAY_WAKE_TONE and HOST_WAKE whose source is enabled (the timer: enabled, not 0,
and its seconds passed since PARK was complete) ends PARK in RUN or SAFE: the time in PARK and up to RUN has passed on the timestamp, WAKE_N is driven low
unless the host woke the device, and the life cycle and, where no commit of it is asked for (PARK begins with none), the configuration store are as they
were. In the entry to PARK an enabled WAKE_IN_WAKE or CAUSEWAY_WAKE_TONE is latched and changes nothing else. With its enable bit 0 an event changes
nothing (for HOST_WAKE by SPI; PERST_N also rises at its land), and neither does the timer before its seconds have passed. -/
def Obligations.WakesReachRun : Prop :=
  ∀ (w : WakeInput) (b : Block) (q : List Instr),
    (getF b F.PWR_WAKE_CTL_EN_WAKE_IN = 1 → b.pwr.parked = true →
      ∃ c, exec (.wakeInWake w) ⟨b, q⟩ = .next ⟨c, q⟩ ∧ Woken w b c ∧ c.pins.wakeNLow = true) ∧
    (getF b F.PWR_WAKE_CTL_EN_TIMER = 1 → b.pwr.parked = true → getR b R.PWR_WAKE_TIMER ≠ 0 → (getR b R.PWR_WAKE_TIMER).toNat * 20000 ≤ w.parked →
      ∃ c, exec (.wakeTimerExpiry w) ⟨b, q⟩ = .next ⟨c, q⟩ ∧ Woken w b c ∧ c.pins.wakeNLow = true) ∧
    (getF b F.PWR_WAKE_CTL_EN_CW = 1 → b.pwr.parked = true →
      ∃ c, exec (.causewayWakeTone w) ⟨b, q⟩ = .next ⟨c, q⟩ ∧ Woken w b c ∧ c.pins.wakeNLow = true) ∧
    (∀ perst : Bool, getF b F.PWR_WAKE_CTL_EN_HOST = 1 → b.pwr.state = .park → b.pwr.parked = true →
      (if perst then b.pins.perstN = false else spiActive b = true) →
        ∃ c, exec (.hostWake perst w) ⟨b, q⟩ = .next ⟨c, q⟩ ∧ Woken w b c ∧ c.pins.wakeNLow = false ∧ (perst = true → c.pins.perstN = true)) ∧
    (b.pwr.parked = false → b.pwr.parking = true →
      (getF b F.PWR_WAKE_CTL_EN_WAKE_IN = 1 →
        exec (.wakeInWake w) ⟨b, q⟩ = .next ⟨{ b with pwr := { b.pwr with wakes := addOnce 0 b.pwr.wakes } }, q⟩) ∧
      (getF b F.PWR_WAKE_CTL_EN_CW = 1 →
        exec (.causewayWakeTone w) ⟨b, q⟩ = .next ⟨{ b with pwr := { b.pwr with wakes := addOnce 2 b.pwr.wakes } }, q⟩)) ∧
    (getF b F.PWR_WAKE_CTL_EN_WAKE_IN = 0 → exec (.wakeInWake w) ⟨b, q⟩ = .next ⟨b, q⟩) ∧
    (getF b F.PWR_WAKE_CTL_EN_TIMER = 0 ∨ getR b R.PWR_WAKE_TIMER = 0 ∨ w.parked < (getR b R.PWR_WAKE_TIMER).toNat * 20000 →
      exec (.wakeTimerExpiry w) ⟨b, q⟩ = .next ⟨b, q⟩) ∧
    (getF b F.PWR_WAKE_CTL_EN_CW = 0 → exec (.causewayWakeTone w) ⟨b, q⟩ = .next ⟨b, q⟩) ∧
    (getF b F.PWR_WAKE_CTL_EN_HOST = 0 → exec (.hostWake false w) ⟨b, q⟩ = .next ⟨b, q⟩)

/-- O14. Where host links take accesses and the device is in RUN, STANDBY or SAFE, PWR_REQUEST_PARK is refused with PWR_CTL.REFUSED set and no request
waiting unless EN_WAKE_IN, EN_CW or EN_HOST is 1 or EN_TIMER is 1 with PWR_WAKE_TIMER not 0; otherwise the request waits for the frame tick and REFUSED is
as the write leaves it. PWR_CTL's stored fields take the word written either way; nothing else changes. -/
def Obligations.ParkRequestRefusal : Prop :=
  ∀ (v : Word) (b : Block) (q : List Instr), b.pwr.state = .run ∨ b.pwr.state = .standby ∨ b.pwr.state = .safe →
    b.pwr.parking = false →
    ∃ c, exec (.pwrRequestPark v) ⟨b, q⟩ = .next ⟨c, q⟩ ∧ PwrCtlWritten v b c ∧
      (getF b F.PWR_WAKE_CTL_EN_WAKE_IN = 1 ∨ getF b F.PWR_WAKE_CTL_EN_CW = 1 ∨ getF b F.PWR_WAKE_CTL_EN_HOST = 1 ∨
          (getF b F.PWR_WAKE_CTL_EN_TIMER = 1 ∧ getR b R.PWR_WAKE_TIMER ≠ 0) →
        c.pwr = { b.pwr with request := some .park } ∧
          getF c F.PWR_CTL_REFUSED = if bitsOf v.toNat 7 1 = 1 then 0 else getF b F.PWR_CTL_REFUSED) ∧
      (getF b F.PWR_WAKE_CTL_EN_WAKE_IN = 0 ∧ getF b F.PWR_WAKE_CTL_EN_CW = 0 ∧ getF b F.PWR_WAKE_CTL_EN_HOST = 0 ∧
          (getF b F.PWR_WAKE_CTL_EN_TIMER = 0 ∨ getR b R.PWR_WAKE_TIMER = 0) →
        c.pwr = { b.pwr with request := none } ∧ getF c F.PWR_CTL_REFUSED = 1)

/-- O15. Outside an entry to PARK: PWR_REQUEST_RUN in STANDBY, or in SAFE while nothing holds it, and PWR_REQUEST_STANDBY in RUN leave the request waiting
for the frame tick. RUN in SAFE while SAFE_IN is high or a source with NMT is uncleared, and STANDBY in SAFE, set PWR_CTL.REFUSED and leave no request. A
request for the state the device is in (RUN in RUN, STANDBY in STANDBY) only withdraws one that waits. Nothing but PWR_CTL and the request changes. -/
def Obligations.RunStandbyRequests : Prop :=
  ∀ (v : Word) (b : Block) (q : List Instr), b.pwr.parking = false →
    ((b.pwr.state = .standby ∨ (b.pwr.state = .safe ∧ safeHeld b = false)) →
      ∃ c, exec (.pwrRequestRun v) ⟨b, q⟩ = .next ⟨c, q⟩ ∧ PwrCtlWritten v b c ∧ c.pwr = { b.pwr with request := some .run }) ∧
    (b.pwr.state = .safe → safeHeld b = true →
      ∃ c, exec (.pwrRequestRun v) ⟨b, q⟩ = .next ⟨c, q⟩ ∧ PwrCtlWritten v b c ∧ c.pwr = { b.pwr with request := none } ∧
        getF c F.PWR_CTL_REFUSED = 1) ∧
    (b.pwr.state = .run →
      (∃ c, exec (.pwrRequestStandby v) ⟨b, q⟩ = .next ⟨c, q⟩ ∧ PwrCtlWritten v b c ∧ c.pwr = { b.pwr with request := some .standby }) ∧
      (∃ c, exec (.pwrRequestRun v) ⟨b, q⟩ = .next ⟨c, q⟩ ∧ PwrCtlWritten v b c ∧ c.pwr = { b.pwr with request := none })) ∧
    (b.pwr.state = .standby →
      ∃ c, exec (.pwrRequestStandby v) ⟨b, q⟩ = .next ⟨c, q⟩ ∧ PwrCtlWritten v b c ∧ c.pwr = { b.pwr with request := none }) ∧
    (b.pwr.state = .safe →
      ∃ c, exec (.pwrRequestStandby v) ⟨b, q⟩ = .next ⟨c, q⟩ ∧ PwrCtlWritten v b c ∧ c.pwr = { b.pwr with request := none } ∧
        getF c F.PWR_CTL_REFUSED = 1)

/-- O16. With no transition under way and not locked: along an unauthenticated transition of R98 (out of PROVISIONED only with a service key) LC_TRANSITION
stores the target, leaves one journal entry of it (kind 7, the new state's code) waiting for the end of the frame and reports RESULT 1; along an
authenticated one it does the same and resets AUTH_FAIL where the challenge is unused and the signature verifies, and else reports RESULT 3 with AUTH_FAIL
one higher (held at 255) and LOCKED set from the eighth failure on, the state staying. Along no transition it reports RESULT 2, out of PROVISIONED without
a service key RESULT 5; locked, RESULT 4. The state in force stays in every case, and only an entry to RETIRED touches keys or the configuration. Not
locked, LC_NEW_CHALLENGE puts four fresh free words into LC_CHALLENGE and makes the challenge usable; no other register changes. LC_STORE_SERVICE_KEY in
FACTORY or PROVISIONED stores the sixteen words of LC_KEY as the service key, LC_STORE_CAUSEWAY_KEY in FACTORY, PROVISIONED or SERVICE the first four as
the Causeway key; both report RESULT 1, show the key present and clear LC_KEY. In any other state they report RESULT 2 and change nothing else, and so they
do, before the tick that brings it into force, once the stored state is RETIRED (DEDUCED, log entry 32). While LOCKED is 1 all three act the same: R100
refuses every later request of a transition, and whether it means these too is open (DESIGN CHOICE, log entry 32). -/
def Obligations.LifeCycleRequests : Prop :=
  (∀ (target : BitVec 4) (b : Block) (q : List Instr), ready b = true → target ≠ 0xF →
    (getF b F.LC_STATE_LOCKED = 1 →
      exec (.lcTransition target) ⟨b, q⟩ = .next ⟨setF F.LC_STATE_RESULT 4 b, q⟩) ∧
    (getF b F.LC_STATE_LOCKED = 0 → b.lc.life = b.lc.acting →
      ((lifeOf target.toNat).bind (lifeStep b.lc.life) = none →
        exec (.lcTransition target) ⟨b, q⟩ = .next ⟨setF F.LC_STATE_RESULT 2 b, q⟩) ∧
      (∀ t auth, lifeOf target.toNat = some t → lifeStep b.lc.life t = some auth →
        (b.lc.life = .provisioned → b.lc.keySvc = none →
          exec (.lcTransition target) ⟨b, q⟩ = .next ⟨setF F.LC_STATE_RESULT 5 b, q⟩) ∧
        ((b.lc.life = .provisioned → b.lc.keySvc ≠ none) → (auth = true → challengeMet b t) →
          ∃ c, exec (.lcTransition target) ⟨b, q⟩ = .next ⟨c, q⟩ ∧ c.lc.life = t ∧ c.lc.acting = b.lc.acting ∧
            getF c F.LC_STATE_RESULT = 1 ∧ getF c F.LC_STATE_STATE = target.toNat ∧ getF c F.LC_STATE_LOCKED = 0 ∧
            c.led.queue = b.led.queue ++ [⟨7, target.toNat, 0, 0, devF b⟩] ∧
            (auth = true → c.lc.challenge = false ∧ getF c F.LC_STATE_AUTH_FAIL = 0) ∧
            (auth = false → getF c F.LC_STATE_AUTH_FAIL = getF b F.LC_STATE_AUTH_FAIL) ∧
            (t ≠ .retired → c.lc.keySvc = b.lc.keySvc ∧ c.lc.keyCw = b.lc.keyCw ∧ c.cfg = b.cfg ∧
              ∀ a, a ≠ R.LC_STATE → getR c a = getR b a) ∧
            (t = .retired → c.lc.keySvc = none ∧ c.lc.keyCw = none ∧ c.cfg = { copies := [{}, {}] } ∧
              getF c F.CFG_STATUS_VALID0 = 0 ∧ getF c F.CFG_STATUS_VALID1 = 0)) ∧
        (auth = true → ¬ challengeMet b t →
          ∃ c, exec (.lcTransition target) ⟨b, q⟩ = .next ⟨c, q⟩ ∧
            c = { b with regs := c.regs, lc := { b.lc with challenge := false } } ∧ getF c F.LC_STATE_RESULT = 3 ∧
            getF c F.LC_STATE_AUTH_FAIL = min (getF b F.LC_STATE_AUTH_FAIL + 1) 255 ∧
            getF c F.LC_STATE_LOCKED = (if 8 ≤ getF b F.LC_STATE_AUTH_FAIL + 1 then 1 else 0) ∧
            getF c F.LC_STATE_STATE = getF b F.LC_STATE_STATE ∧ ∀ a, a ≠ R.LC_STATE → getR c a = getR b a)))) ∧
  (∀ (b : Block) (q : List Instr), ready b = true →
    (getF b F.LC_STATE_LOCKED = 0 → KeyRequests b q) ∧ (getF b F.LC_STATE_LOCKED = 1 → KeyRequests b q))

/-- O17. Outside RETIRED and an entry to PARK, with none captured, CFG_COMMIT and NV_COMMIT set BUSY and leave a commit requested; the command waits for
its end. CONFIG_COMMIT_CAPTURE then captures the values in force and, where neither a ledger flush nor a firmware update asked for before holds the store,
writes MARKER of the inactive copy with 0, so that it is no longer valid. Until these have ended CONFIG_COMMIT_DONE does nothing; then, with a matching
read-back, it gives that copy the next sequence number, the captured entries, its CRC and its MARKER, and shows it as ACTIVE with RESULT 1 and BUSY 0; with
a failed one the copy stays without CRC and MARKER, and it reports RESULT 4 with SL_NVSTORE. A firmware update that waited for the commit waits no longer.
In RETIRED a request only reports RESULT 3, during a commit or an entry to PARK RESULT 2. -/
def Obligations.ConfigurationCommit : Prop :=
  ∀ (b : Block) (q : List Instr),
    (ready b = true → b.lc.acting ≠ .retired → b.lc.life ≠ .retired → b.cfg.captured = none → b.pwr.parking = false →
      exec .cfgCommit ⟨b, q⟩ = .next ⟨setF F.CFG_STATUS_BUSY 1 { b with cfg := { b.cfg with requested := true } }, q⟩) ∧
    (ready b = true → b.lc.acting = .retired ∨ b.lc.life = .retired → exec .cfgCommit ⟨b, q⟩ = .next ⟨setF F.CFG_STATUS_RESULT 3 b, q⟩) ∧
    (ready b = true → b.lc.acting ≠ .retired → b.lc.life ≠ .retired → b.cfg.captured ≠ none ∨ b.pwr.parking = true →
      exec .cfgCommit ⟨b, q⟩ = .next ⟨setF F.CFG_STATUS_RESULT 2 b, q⟩) ∧
    (∀ (r : Fin 16) (d : Desc), canStart b r.val = true → d.resvd = 0 → d.p0 = 0 → d.addr = 0 → tail0 d = true →
      b.lc.acting ≠ .retired → b.lc.life ≠ .retired → b.cfg.captured = none → b.pwr.parking = false →
      ∃ c, exec (.nvCommit r d) ⟨b, q⟩ = .next ⟨c, q⟩ ∧ CmdWaits r.val 0x0C d .nvCommit b c ∧
        c = { b with regs := c.regs, hst := c.hst, cfg := { b.cfg with requested := true } } ∧ getF c F.CFG_STATUS_BUSY = 1 ∧
        ∀ a, a ≠ R.CFG_STATUS → a ≠ R.HST_SQ_STATUS r.val → getR c a = getR b a) ∧
    (b.cfg.requested = true → b.cfg.captured = none → framesRun b = true →
      (b.led.flushing = none ∧ StoreAfter b →
        exec .configCommitCapture ⟨b, q⟩ = .next ⟨{ b with cfg := {
          copies := b.cfg.copies.set (1 - getF b F.CFG_STATUS_ACTIVE) { b.cfg.copies.getD (1 - getF b F.CFG_STATUS_ACTIVE) {} with marker := 0 }, requested := false, captured := some (cfgEntries b) } }, q⟩) ∧
      (b.led.flushing ≠ none ∨ ¬ StoreAfter b →
        exec .configCommitCapture ⟨b, q⟩ = .next ⟨{ b with cfg := { b.cfg with requested := false, captured := some (cfgEntries b) } }, q⟩)) ∧
    (b.led.flushing ≠ none ∨ ¬ StoreAfter b → ∀ ok, exec (.configCommitDone ok) ⟨b, q⟩ = .next ⟨b, q⟩) ∧
    (∀ es, b.cfg.captured = some es → b.led.flushing = none → StoreAfter b →
      (∃ c, exec (.configCommitDone true) ⟨b, q⟩ = .next ⟨c, q⟩ ∧
        c.cfg = { copies := b.cfg.copies.set (1 - getF b F.CFG_STATUS_ACTIVE) (cfgMake (nextSeq b) es (b.cfg.copies.getD (1 - getF b F.CFG_STATUS_ACTIVE) {})) } ∧
        getF c F.CFG_STATUS_BUSY = 0 ∧ getF c F.CFG_STATUS_RESULT = 1 ∧ getF c F.CFG_STATUS_NONE = 0 ∧
        getF c F.CFG_STATUS_ACTIVE = 1 - getF b F.CFG_STATUS_ACTIVE ∧ c.lc = b.lc ∧
        c.fw = { b.fw with job := b.fw.job.map fun j => { j with afterCommit := false } }) ∧
      (∃ c, exec (.configCommitDone false) ⟨b, q⟩ = .next ⟨c, q⟩ ∧
        c.cfg = { copies := b.cfg.copies.set (1 - getF b F.CFG_STATUS_ACTIVE) (cfgHeader (nextSeq b) es (b.cfg.copies.getD (1 - getF b F.CFG_STATUS_ACTIVE) {})) } ∧
        getF c F.CFG_STATUS_BUSY = 0 ∧ getF c F.CFG_STATUS_RESULT = 4 ∧ getF c F.CFG_STATUS_ACTIVE = getF b F.CFG_STATUS_ACTIVE ∧
        Slot.nvstore ∈ uncleared c ∧ c.lc = b.lc ∧ c.fw = { b.fw with job := b.fw.job.map fun j => { j with afterCommit := false } }))

/-- O18. A well-formed FW_UPDATE outside RETIRED whose data arrive waits for its words to be written, behind a commit or a flush asked for before it; while
one is in progress another completes with BUSY. A frame tick runs fwTick on the store. With more than 100 words left that writes the next 100 (log entry
34: the pace is the model's choice within R102); with no more it writes the rest and the command completes: FAILED with detail 4 and SL_NVSTORE uncleared
after a failed read-back, DONE without FINAL, and with FINAL DONE, the copy valid with the version and security version found and a journal entry waiting
(kind 8), where the signature verifies, the length fits and the security version is not below the floor, else FAILED with detail 1, 2 or 3. The copy that
does not run is invalid from the first words on in every other case; the running copy and the floor never change. -/
def Obligations.FirmwareUpdate : Prop :=
  (∀ (r : Fin 16) (d : Desc) (ws : List Word) (ok : Bool) (b : Block) (q : List Instr), canStart b r.val = true → d.resvd = 0 →
    d.p0.toNat < 2 → badAddr d.addr = false → d.p3 = 0 → d.p4 = 0 → d.p1.toNat % 4 = 0 → d.p2.toNat % 4 = 0 →
    d.p1.toNat + d.p2.toNat ≤ 524288 → b.lc.acting ≠ .retired → ws.length = d.p2.toNat / 4 →
    (b.fw.job = none → ∃ c, exec (.fwUpdate r d (some ws) ok) ⟨b, q⟩ = .next ⟨c, q⟩ ∧ CmdWaits r.val 0x0B d .fwUpdate b c ∧
      RegsBut [R.HST_SQ_STATUS r.val] b c ∧
      c = { b with regs := c.regs, hst := c.hst, fw := { b.fw with job := some ⟨some r.val, d.p1.toNat / 4, ws.map (·.toNat), 4 * ws.length, d.p0.toNat == 1, ok,
        b.cfg.captured.isSome, b.led.flushing.isSome || b.led.owed⟩ } }) ∧
    (b.fw.job ≠ none → ∃ c, exec (.fwUpdate r d (some ws) ok) ⟨b, q⟩ = .next ⟨c, q⟩ ∧ CmdCompletes r.val 0x0B d 0 St.busy 0 0 b c ∧ c.fw = b.fw)) ∧
  (∀ (n : BitVec 64) (b : Block) (q : List Instr), framesRun b = true →
    ∃ c m, exec (.frameTick n) ⟨b, q⟩ = .next ⟨c, q⟩ ∧ c.fw = (fwTick m).fw ∧ framesRun m = true ∧
      m.fw.job = b.fw.job ∧ m.fw.words = b.fw.words ∧ m.fw.copies = b.fw.copies ∧ m.fw.running = b.fw.running ∧ b.fw.floor ≤ m.fw.floor) ∧
  (∀ (j : FwJob) (b : Block), b.fw.job = some j → framesRun b = true → j.afterCommit = false → j.afterFlush = false → b.fw.running < 2 →
    b.fw.copies.length = 2 → b.fw.words.length = 2 →
    let other := 1 - b.fw.running
    let c := fwTick b
    c.fw.words.getD other [] = fwContent j.at_ (j.words.take 100) (b.fw.words.getD other []) ∧
      c.fw.words.getD b.fw.running [] = b.fw.words.getD b.fw.running [] ∧ c.fw.running = b.fw.running ∧ c.fw.floor = b.fw.floor ∧
      c.fw.copies.getD b.fw.running {} = b.fw.copies.getD b.fw.running {} ∧
      (100 < j.words.length → c.fw.copies.getD other {} = {} ∧ c = { b with fw := c.fw } ∧
        c.fw.job = some { j with at_ := j.at_ + 100, words := j.words.drop 100 }) ∧
      (j.words.length ≤ 100 → c.fw.job = none ∧ c.lc = b.lc ∧ c.clock = b.clock ∧
        (j.ok = false → c.fw.copies.getD other {} = {} ∧ Slot.nvstore ∈ uncleared c ∧ FwAnswer j 4 St.failed 0 b c) ∧
        (j.ok = true → j.final = false → c.fw.copies.getD other {} = {} ∧ FwAnswer j 0 St.done 0 b c) ∧
        (j.ok = true → j.final = true → ∀ sig len ver sec, Config.firmware (c.fw.words.getD other []) = (sig, len, ver, sec) →
          (sig = true → len = true → b.fw.floor ≤ sec → c.fw.copies.getD other {} = ⟨true, ver, sec⟩ ∧ FwAnswer j 0 St.done sec b c ∧
            c.led.queue = b.led.queue ++ [⟨8, other, 0, sec % 2 ^ 32, devF b⟩]) ∧
          (sig = false ∨ len = false ∨ sec < b.fw.floor → c.fw.copies.getD other {} = {} ∧
            FwAnswer j (if sig = false then 1 else if len = false then 2 else 3) St.failed sec b c))))

/-- O19. While the supervisor runs, SUPERVISOR_DETECTOR of a slot of 0 to 7 other than SAFE_IN's leaves that source live and uncleared with the detail bits
added to SL_DETAIL; in reset, in OFF or in PARK its condition is kept and no register changes. SAFE_IN_ASSERT, and SUPERVISOR_DETECTOR of SAFE_IN's slot,
in a device whose frames run leaves SL_SAFE_IN live and uncleared and the land high and, from RUN or STANDBY, the device in SAFE with no request waiting;
otherwise only the land's level is kept. Neither touches the life cycle, the configuration store or the firmware. DETECTOR_CONDITION_END and
SAFE_IN_RELEASE clear the slot's live bit at once unless an injection holds it; every other live bit, every sticky bit, every detail word and the power
state stay. SAFE_IN_RELEASE, and DETECTOR_CONDITION_END of its slot, also takes the land low. -/
def Obligations.DetectorConditions : Prop :=
  (∀ (b : Block) (q : List Instr),
    (∀ (src : Fin 8) (detail : Word), src.val ≠ Slot.safeIn → awake b = true →
      ∃ c, exec (.supervisorDetector src detail) ⟨b, q⟩ = .next ⟨c, q⟩ ∧ arrBit c (R.SL_LIVE 0) src.val = true ∧ src.val ∈ uncleared c ∧
        getR c (R.SL_DETAIL src.val) = getR b (R.SL_DETAIL src.val) ||| detail ∧ c.lc = b.lc ∧ c.cfg = b.cfg ∧ c.fw = b.fw ∧
        c.clock = b.clock) ∧
    (∀ (src : Fin 8) (detail : Word), src.val ≠ Slot.safeIn → awake b = false →
      ∃ c, exec (.supervisorDetector src detail) ⟨b, q⟩ = .next ⟨c, q⟩ ∧ (condOf c src.val).level = true ∧
        c = { b with sl := { b.sl with cond := c.sl.cond } }) ∧
    (∀ (src : Fin 8) (detail : Word), src.val = Slot.safeIn →
      exec (.supervisorDetector src detail) ⟨b, q⟩ = exec .safeInAssert ⟨b, q⟩) ∧
    (framesRun b = true →
      ∃ c, exec .safeInAssert ⟨b, q⟩ = .next ⟨c, q⟩ ∧ c.pins.safeIn = true ∧ arrBit c (R.SL_LIVE 0) Slot.safeIn = true ∧
        Slot.safeIn ∈ uncleared c ∧ (b.pwr.state = .run ∨ b.pwr.state = .standby → c.pwr.state = .safe ∧ c.pwr.request = none) ∧
        c.lc = b.lc ∧ c.cfg = b.cfg ∧ c.fw = b.fw ∧ c.clock = b.clock) ∧
    (framesRun b = false →
      exec .safeInAssert ⟨b, q⟩ = .next ⟨{ b with pins := { b.pins with safeIn := true } }, q⟩)) ∧
  (∀ (b : Block) (q : List Instr),
    (∀ src : Fin 8, src.val = Slot.safeIn → exec (.detectorConditionEnd src) ⟨b, q⟩ = exec .safeInRelease ⟨b, q⟩) ∧
    (∀ src : Fin 8, src.val ≠ Slot.safeIn →
      ∃ c, exec (.detectorConditionEnd src) ⟨b, q⟩ = .next ⟨c, q⟩ ∧ c = { b with regs := c.regs, sl := { b.sl with cond := c.sl.cond } } ∧
        arrBit c (R.SL_LIVE 0) src.val = arrBit b (R.SL_INJ_ACT 0) src.val ∧ (condOf c src.val).level = false ∧
        (∀ i, i ≠ src.val → arrBit c (R.SL_LIVE 0) i = arrBit b (R.SL_LIVE 0) i ∧ condOf c i = condOf b i) ∧ RegsBut [R.SL_LIVE 0] b c) ∧
    (∃ c, exec .safeInRelease ⟨b, q⟩ = .next ⟨c, q⟩ ∧
        c = { b with regs := c.regs, sl := { b.sl with cond := c.sl.cond }, pins := { b.pins with safeIn := false } } ∧
        arrBit c (R.SL_LIVE 0) Slot.safeIn = arrBit b (R.SL_INJ_ACT 0) Slot.safeIn ∧
        (∀ i, i ≠ Slot.safeIn → arrBit c (R.SL_LIVE 0) i = arrBit b (R.SL_LIVE 0) i ∧ condOf c i = condOf b i) ∧ RegsBut [R.SL_LIVE 0] b c))

/-- O20. Where the host links take accesses, SL_STICKY_CLEAR of word w leaves 0 every sticky bit it names and every other bit of the word as it was. A
named source that was sticky and is not live loses its detail; one that is live is kept among the refused clears, stays uncleared, and keeps its detail.
Sources not named keep their detail, and neither a live bit nor the power state changes. In FACTORY, where the host links take accesses, SL_INJ_SET leaves
every assigned slot its word names among the injections to begin at the tick, SL_INJ_CLR among those to end; nothing else changes. In any other life-cycle
state a write only sets INJ_REFUSED. -/
def Obligations.StickyAndInjection : Prop :=
  (∀ (w : Fin 16) (v : Word) (b : Block) (q : List Instr), ready b = true →
    ∃ c, exec (.slStickyClear w v) ⟨b, q⟩ = .next ⟨c, q⟩ ∧ c.pwr = b.pwr ∧ c.lc = b.lc ∧ c.cfg = b.cfg ∧
      (∀ p : Fin 16, getR c (R.SL_LIVE p.val) = getR b (R.SL_LIVE p.val)) ∧
      (∀ p : Fin 16, p ≠ w → getR c (R.SL_STICKY p.val) = getR b (R.SL_STICKY p.val)) ∧
      (∀ j : Fin 32, sticky c (32 * w.val + j.val) = (sticky b (32 * w.val + j.val) && !bitOf v.toNat j.val)) ∧
      (∀ j : Fin 32, bitOf v.toNat j.val = true → sticky b (32 * w.val + j.val) = true →
        (arrBit b (R.SL_LIVE 0) (32 * w.val + j.val) = true →
          32 * w.val + j.val ∈ c.sl.refused ∧ getR c (R.SL_DETAIL (32 * w.val + j.val)) = getR b (R.SL_DETAIL (32 * w.val + j.val))) ∧
        (arrBit b (R.SL_LIVE 0) (32 * w.val + j.val) = false → getR c (R.SL_DETAIL (32 * w.val + j.val)) = 0)) ∧
      (∀ i, i < 512 → (i / 32 ≠ w.val ∨ bitOf v.toNat (i % 32) = false) → getR c (R.SL_DETAIL i) = getR b (R.SL_DETAIL i)) ∧
      ∀ i, i ∈ b.sl.refused → i ∈ c.sl.refused) ∧
  (∀ (w : Fin 16) (v : Word) (b : Block) (q : List Instr), ready b = true →
    (b.lc.acting = .factory →
      (∃ l, exec (.slInjSet w v) ⟨b, q⟩ = .next ⟨{ b with sl := { b.sl with injSet := l } }, q⟩ ∧
        ∀ i, i ∈ l ↔ i ∈ b.sl.injSet ∨ (i / 32 = w.val ∧ bitOf v.toNat (i % 32) = true ∧ (srcOf i).isSome = true)) ∧
      (∃ l, exec (.slInjClr w v) ⟨b, q⟩ = .next ⟨{ b with sl := { b.sl with injClr := l } }, q⟩ ∧
        ∀ i, i ∈ l ↔ i ∈ b.sl.injClr ∨ (i / 32 = w.val ∧ bitOf v.toNat (i % 32) = true ∧ (srcOf i).isSome = true))) ∧
    (b.lc.acting ≠ .factory →
      exec (.slInjSet w v) ⟨b, q⟩ = .next ⟨setF F.SL_STATUS_INJ_REFUSED 1 b, q⟩ ∧
      exec (.slInjClr w v) ⟨b, q⟩ = .next ⟨setF F.SL_STATUS_INJ_REFUSED 1 b, q⟩))

/-- O21. Where frames run, FRAME_TICK moves the timestamp on by 512, so that the frame number rises by one modulo 2^55, keeps the PTM master time it is
given, puts the stored life-cycle state in force and counts the tick in the watchdog, which expires at the fourth without a restart. Where no frame-number
jump falls on it (on a follower, locked or not, or where the module counts its own frames), it owes the work of one more chain tick where the new number is
a multiple of 20, and else of none. Where no frames run it changes nothing. -/
def Obligations.FrameTick : Prop :=
  (∀ (n : Nat) (x : Block), frame (tickClock n x) = (frame x + 1) % 2 ^ 55 ∧ (tickClock n x).regs = x.regs) ∧
  ∀ (n : BitVec 64) (b : Block) (q : List Instr),
    (framesRun b = true →
      ∃ c, exec (.frameTick n) ⟨b, q⟩ = .next ⟨c, q⟩ ∧ c.clock.ticks = b.clock.ticks + 512 ∧ c.clock.ptmNs = n.toNat ∧
        c.lc = { b.lc with acting := b.lc.life } ∧ c.sl.wd = b.sl.wd + 1 ∧ (3 ≤ b.sl.wd → c.sl.wdExpired = true) ∧
        (b.sl.wdExpired = true → c.sl.wdExpired = true) ∧ (b.fw.job = none → c.fw = b.fw) ∧ c.pins = b.pins ∧
        (roleAct b = 2 ∨ frameOfs b = 0 → b.cw.jumpAt ≠ some (devF b + 1) →
          c.fe.jobs.length = b.fe.jobs.length + if (frame b + 1) % 2 ^ 55 % 20 = 0 then 1 else 0)) ∧
    (framesRun b = false → exec (.frameTick n) ⟨b, q⟩ = .next ⟨b, q⟩)

/-- O22. CHAIN_TICK does the work of the oldest chain tick that is owed, once: in it a present cell's average is valid exactly where the chain tick had all
twenty frames, with no missing data of its tier and no out-of-range sample of its channel among them. Without owed work it changes nothing. -/
def Obligations.ChainTick : Prop :=
  ∀ (x : ChainInput) (b : Block) (q : List Instr), framesRun b = true →
    (∀ j rest, b.fe.jobs = j :: rest →
      ∃ c, exec (.chainTick x) ⟨b, q⟩ = .next ⟨c, q⟩ ∧ c.fe.jobs = rest ∧ c.clock = b.clock ∧ c.lc = b.lc ∧
        c.cfg = b.cfg ∧ c.fw = b.fw ∧ c.pins = b.pins ∧ (j.formed = true → c.fe.avgOk = j.ok) ∧
        (j.formed = false → ∀ n, 1 ≤ n → n ≤ 192 → (n ∈ c.fe.avgOk ↔
          bitOf (fieldIn j.set (F.FE_TIER_CTL_CELL_EN (tierOf n))) (localOf n - 1) = true ∧ j.len = 20 ∧
          missEnd b (tierOf n) ≤ j.dev - 20 ∧ ovrEnd b (n - 1) ≤ j.dev - 20))) ∧
    (b.fe.jobs = [] → exec (.chainTick x) ⟨b, q⟩ = .next ⟨b, q⟩)

/-- O23. Where frames run, after the first measurement frame and while the watchdog has not expired, SLUICE_EVAL does one frame's evaluation: that of the
oldest frame whose evaluation a tick overtook, on the conditions found for it, else that of the present frame, once, on the conditions as its judgement of
the last frame's open-wire and check results leaves them. It leaves each kind-F source it evaluates live exactly where its condition holds, occurred since
the last evaluation, or is injected, and every such source uncleared; FRAME_OVR is among them while GEN_OVR_STATUS is not 0. It sets EVALUATED, restarts
the watchdog and keeps SL_SUMMARY for the status page. With the present frame's evaluation done, once the watchdog has expired, or before a measurement
frame is past, it changes nothing. -/
def Obligations.SluiceEvaluation : Prop :=
  ∀ (b : Block) (q : List Instr),
    (framesRun b = true → b.sl.wdExpired = false → b.fe.since < devF b → b.sl.evalLate = [] → b.sl.evalAt ≠ devF b + 1 →
      ∃ c, exec .sluiceEval ⟨b, q⟩ = .next ⟨c, q⟩ ∧ getF c F.SL_STATUS_EVALUATED = 1 ∧ c.sl.wd = 0 ∧ c.hst.summary = slSummary c ∧
        c.sl.evalAt = devF b + 1 ∧ c.sl.evalLate = [] ∧
        c.lc = b.lc ∧ c.cfg = b.cfg ∧ c.fw = b.fw ∧ c.pins = b.pins ∧ c.clock = b.clock ∧
        (let x := takeConds (judgeLast b); SourcesJudged x.1 (evalSlots x.1 x.2) b c) ∧
        (getR b R.GEN_OVR_STATUS ≠ 0 → arrBit c (R.SL_LIVE 0) Slot.frameOvr = true ∧ Slot.frameOvr ∈ uncleared c)) ∧
    (framesRun b = true → b.sl.wdExpired = false → b.fe.since < devF b → ∀ w rest, b.sl.evalLate = w :: rest →
      ∃ c, exec .sluiceEval ⟨b, q⟩ = .next ⟨c, q⟩ ∧ getF c F.SL_STATUS_EVALUATED = 1 ∧ c.sl.wd = 0 ∧ c.hst.summary = slSummary c ∧
        c.sl.evalAt = b.sl.evalAt ∧ c.sl.evalLate = rest ∧
        c.lc = b.lc ∧ c.cfg = b.cfg ∧ c.fw = b.fw ∧ c.pins = b.pins ∧ c.clock = b.clock ∧ SourcesJudged w (evalSlots w b) b c) ∧
    (b.sl.wdExpired = true ∨ devF b ≤ b.fe.since ∨ (b.sl.evalLate = [] ∧ b.sl.evalAt = devF b + 1) → exec .sluiceEval ⟨b, q⟩ = .next ⟨b, q⟩)

/-- O24. Where frames run, outside the frame of a jump, EMIT works on the oldest frame whose EMIT has not run: it takes every record of that frame's work
and every event of it, and all but the first n of the carried records, the EVENT records and the new records are carried on; after the present frame's work
a carried record is an overrun of the stage. With no frame's work owed it changes nothing. Where frames run and the stage has not yet overrun in this
frame, STAGE_OVERRUN sets its bit of GEN_OVR_STATUS; the frame's first overrun also adds one to GEN_OVR_CNT (held at its greatest value) and leaves one
event 0x10 with that bit, a later one adds its bit to that event. No register below the counters' other than these two changes. An overrun of DOORBELL
abandons a due fetch until the next tick, of STATUS_PAGE the frame's page, of COLLECT closes the frame's data, of chain-tick work marks the oldest work
still owed as late. -/
def Obligations.EmitAndOverruns : Prop :=
  (∀ (n : Nat) (b : Block) (q : List Instr), framesRun b = true → jumped b = false →
    (b.clock.emitLate = [] → b.clock.emitAt ≠ devF b + 1 →
      ∃ c, exec (.emit n) ⟨b, q⟩ = .next ⟨c, q⟩ ∧ c.clock.emitAt = devF b + 1 ∧ c.clock.ticks = b.clock.ticks ∧ c.recs = [] ∧
        c.carry.length = b.carry.length + b.recs.length + (takeEvents (eventsDue b) b).1.length - n ∧
        (∀ e, e ∈ c.sl.events → e.dev = devF b) ∧
        (c.carry ≠ [] → (∀ e, e ∈ b.sl.events → e.code = 0x10 → e.frame = frame b → bitOf e.v0 2 = false) →
          getF c ⟨R.GEN_OVR_STATUS, 2, 1⟩ = 1) ∧ c.lc = b.lc ∧ c.cfg = b.cfg ∧ c.fw = b.fw ∧ c.pwr = b.pwr) ∧
    (∀ w rest, b.clock.emitLate = w :: rest →
      ∃ c, exec (.emit n) ⟨b, q⟩ = .next ⟨c, q⟩ ∧ c.clock.emitLate = rest ∧ c.clock.emitAt = b.clock.emitAt ∧ c.clock.ticks = b.clock.ticks ∧
        c.recs = b.recs ∧ c.carry.length = b.carry.length + w.recs.length + (takeEvents w.events b).1.length - n ∧
        c.lc = b.lc ∧ c.cfg = b.cfg ∧ c.fw = b.fw ∧ c.pwr = b.pwr) ∧
    (b.clock.emitLate = [] → b.clock.emitAt = devF b + 1 → exec (.emit n) ⟨b, q⟩ = .next ⟨b, q⟩)) ∧
  (∀ (k : Fin 6) (b : Block) (q : List Instr), framesRun b = true →
    (∀ e, e ∈ b.sl.events → e.code = 0x10 → e.frame = frame b → bitOf e.v0 k.val = false) →
    ∃ c, exec (.stageOverrun k) ⟨b, q⟩ = .next ⟨c, q⟩ ∧ getF c ⟨R.GEN_OVR_STATUS, k.val, 1⟩ = 1 ∧
      (b.clock.ovrFrame ≠ frame b + 1 → (getR c R.GEN_OVR_CNT).toNat = min ((getR b R.GEN_OVR_CNT).toNat + 1) (2 ^ 32 - 1) ∧
        c.sl.events = b.sl.events ++ [⟨0x10, 0, 0, 2 ^ k.val, 0, frame b, devF b⟩] ∧ c.clock.ovrFrame = frame b + 1) ∧
      (b.clock.ovrFrame = frame b + 1 → getR c R.GEN_OVR_CNT = getR b R.GEN_OVR_CNT ∧
        c.sl.events = b.sl.events.map fun e => if e.code = 0x10 ∧ e.frame = frame b then { e with v0 := e.v0 ||| 2 ^ k.val } else e) ∧
      (∀ a, a < R.CNT_CTL → a ≠ R.GEN_OVR_STATUS → a ≠ R.GEN_OVR_CNT → getR c a = getR b a) ∧
      (∀ j : Fin 6, j ≠ k → getF c ⟨R.GEN_OVR_STATUS, j.val, 1⟩ = getF b ⟨R.GEN_OVR_STATUS, j.val, 1⟩) ∧
      (k = 0 → b.fe.started = true → c.fe.closed = true) ∧
      (k = 3 → b.hst.fetch = true ∨ b.hst.fetchAll = true → c.hst.fetch = false ∧ c.hst.fetchAll = false ∧ c.hst.fetchRetry = true ∧
        c.hst.retryAll = b.hst.fetchAll) ∧
      (k = 4 → c.hst.pageAt = devF b + 1) ∧
      (k = 5 → ∀ j rest, b.fe.jobs = j :: rest → c.fe.jobs = { j with late := true } :: rest) ∧
      c.lc = b.lc ∧ c.cfg = b.cfg ∧ c.fw = b.fw ∧ c.pwr = b.pwr ∧ c.pins = b.pins)

/-- O25. PERST_N_RESET, and FUNCTION_LEVEL_RESET where the endpoint takes accesses, return every HST register to its reset value and disable every ring,
with spill, completions and time context gone; PERST_N also takes the link down and holds the endpoint in reset, a Function Level Reset keeps the link's
speed and width. PERST_N_RELEASE outside a complete PARK ends the hold where the endpoint is active. PCIE_LINK_UP, out of reset, shows the trained speed
and width and releases WAKE_N. ASPM_L1_ENTRY in STANDBY shows L1. Nothing else changes, but that the commands in progress of a ring disabled so are no
longer waited for. -/
def Obligations.EndpointResets : Prop :=
  ∀ (b : Block) (q : List Instr),
    (∃ c, exec .perstNReset ⟨b, q⟩ = .next ⟨c, q⟩ ∧ c = { forgetRings b with regs := c.regs, pins := { b.pins with perstN := false }, hst := {
        perstAt := b.hst.perstAt, summary := b.hst.summary, pageAt := b.hst.pageAt } } ∧
      ∀ a, getR c a = if 0x2000 ≤ a ∧ a < 0x3000 then resetWord a else getR b a) ∧
    (pcieUp b = true → ∃ c, exec .functionLevelReset ⟨b, q⟩ = .next ⟨c, q⟩ ∧ c = { forgetRings b with regs := c.regs, hst := {
        linkUp := true, inReset := false, perstAt := b.hst.perstAt, summary := b.hst.summary, pageAt := b.hst.pageAt } } ∧
      (∀ a, a ≠ R.HST_LINK → getR c a = if 0x2000 ≤ a ∧ a < 0x3000 then resetWord a else getR b a) ∧
      getF c F.HST_LINK_SPEED = getF b F.HST_LINK_SPEED ∧ getF c F.HST_LINK_WIDTH = getF b F.HST_LINK_WIDTH ∧ getF c F.HST_LINK_L1 = 0) ∧
    (pcieUp b = false → exec .functionLevelReset ⟨b, q⟩ = .next ⟨b, q⟩) ∧
    (b.pwr.parked = false → exec .perstNRelease ⟨b, q⟩ = .next ⟨{ b with pins := { b.pins with perstN := true }, hst := { b.hst with
        inReset := !pcieActive b, perstAt := if b.pins.perstN then b.hst.perstAt else devF b } }, q⟩) ∧
    (∀ (speed : BitVec 2) (x2 : Bool), speed ≠ 0 → b.hst.inReset = false → pcieActive b = true → awake b = true →
      ∃ c, exec (.pcieLinkUp speed x2) ⟨b, q⟩ = .next ⟨c, q⟩ ∧ c = { b with
          regs := c.regs, hst := { b.hst with linkUp := true, resuming := c.hst.resuming }, pins := { b.pins with wakeNLow := false } } ∧
        getF c F.HST_LINK_SPEED = speed.toNat ∧ getF c F.HST_LINK_WIDTH = (if x2 then 2 else 1) ∧ getF c F.HST_LINK_L1 = 0 ∧
        RegsBut [R.HST_LINK] b c ∧ (dmaSuspended b = true → dmaSuspended c = false → c.hst.resuming = true)) ∧
    (b.pwr.state = .standby → pcieUp b = true →
      ∃ c, exec .aspmL1Entry ⟨b, q⟩ = .next ⟨c, q⟩ ∧ c = { b with regs := c.regs } ∧ getF c F.HST_LINK_L1 = 1 ∧ RegsBut [R.HST_LINK] b c) ∧
    (b.pwr.state ≠ .standby → exec .aspmL1Entry ⟨b, q⟩ = .next ⟨b, q⟩)

/-- O26. Where the endpoint takes accesses and PERST_N has been high for 100 ms and as long has passed since the reset, PCIE_CONFIG_REQUEST is answered
with retry status until the firmware is verified, and else performed: a read answers its dword, dword 0 the identity of R385, a write sets its control or
base alone, with the low bits of a base hard-wired. (The reset's end lies the sample master clock's lock time before timestamp 0: DEDUCED, log entry 48;
what the PCI Express Base Specification leaves open of a dword is log entry 49.) DMA_SUSPEND makes its cause hold, so DMA is suspended; DMA_RESUME ends it,
and where no cause is left work waits for the next frame. In reset, OFF and a complete PARK neither does anything. -/
def Obligations.ConfigurationRequests : Prop :=
  ∀ (b : Block) (q : List Instr),
    (pcieUp b = true → b.hst.perstAt + 2000 ≤ devF b ∨ (b.hst.perstAt = 0 ∧ 100000 ≤ 50 * devF b + b.clock.lockUs) →
      (b.pwr.fwReady = false → ∀ r, exec (.pcieConfigRequest r) ⟨b, q⟩ = .next ⟨{ b with out := b.out ++ [.pcieConfig true 0] }, q⟩) ∧
      (b.pwr.fwReady = true →
        (∀ o, exec (.pcieConfigRequest (.read o)) ⟨b, q⟩ = .next ⟨{ b with out := b.out ++ [.pcieConfig false (configDword b o.toNat)] }, q⟩) ∧
        (∀ on, ∃ c, exec (.pcieConfigRequest (.busMaster on)) ⟨b, q⟩ = .next ⟨c, q⟩ ∧ c = { b with
            hst := { b.hst with bme := on, resuming := c.hst.resuming }, out := b.out ++ [.pcieConfig false 0] } ∧
          (dmaSuspended b = true → dmaSuspended c = false → c.hst.resuming = true)) ∧
        (∀ on, ∃ c, exec (.pcieConfigRequest (.power on)) ⟨b, q⟩ = .next ⟨c, q⟩ ∧ c = { b with
            hst := { b.hst with d3hot := on, resuming := c.hst.resuming }, out := b.out ++ [.pcieConfig false 0] } ∧
          (dmaSuspended b = true → dmaSuspended c = false → c.hst.resuming = true)) ∧
        (∀ en m, exec (.pcieConfigRequest (.msix en m)) ⟨b, q⟩ =
          .next ⟨{ b with hst := { b.hst with msixEn := en, msixMask := m }, out := b.out ++ [.pcieConfig false 0] }, q⟩) ∧
        (∀ on, exec (.pcieConfigRequest (.ptm on)) ⟨b, q⟩ =
          .next ⟨{ b with hst := { b.hst with ptm := on }, out := b.out ++ [.pcieConfig false 0] }, q⟩) ∧
        (∀ (i : Fin 4) v, exec (.pcieConfigRequest (.bar i v)) ⟨b, q⟩ = .next ⟨{ b with
            hst := { b.hst with bars := b.hst.bars.set i.val (if i = 0 then v &&& 0xFFF00000 else if i = 2 then v &&& 0xFFFF0000 else v) },
            out := b.out ++ [.pcieConfig false 0] }, q⟩) ∧
        ∀ on, ∃ c, exec (.pcieConfigRequest (.aspmL1 on)) ⟨b, q⟩ = .next ⟨c, q⟩ ∧ c = { b with regs := c.regs } ∧
          getF c F.HST_LINK_L1 = nat01 on ∧ RegsBut [R.HST_LINK] b c)) ∧
    (pcieUp b = false ∨ (devF b < b.hst.perstAt + 2000 ∧ (b.hst.perstAt = 0 → 50 * devF b + b.clock.lockUs < 100000)) → ∀ r, exec (.pcieConfigRequest r) ⟨b, q⟩ = .next ⟨b, q⟩) ∧
    (configDword b 0 = 0x19161F2E) ∧
    (b.hst.inReset = true ∨ pcieActive b = false ∨ awake b = false → ∀ k : SuspendCause,
      exec (.dmaSuspend k) ⟨b, q⟩ = .next ⟨b, q⟩ ∧ exec (.dmaResume k) ⟨b, q⟩ = .next ⟨b, q⟩) ∧
    (b.hst.inReset = false → pcieActive b = true → awake b = true → ∀ k : SuspendCause,
      (∃ c, exec (.dmaSuspend k) ⟨b, q⟩ = .next ⟨c, q⟩ ∧ dmaSuspended c = true ∧ c = { b with hst := (match k with
        | .linkDown => { b.hst with linkUp := false }
        | .busMaster => { b.hst with bme := false }
        | .d3hot => { b.hst with d3hot := true }) }) ∧
      ∃ c, exec (.dmaResume k) ⟨b, q⟩ = .next ⟨c, q⟩ ∧ (dmaSuspended b = true → dmaSuspended c = false → c.hst.resuming = true) ∧
        c = { b with hst := (match k with
          | .linkDown => { b.hst with linkUp := true, resuming := c.hst.resuming }
          | .busMaster => { b.hst with bme := true, resuming := c.hst.resuming }
          | .d3hot => { b.hst with d3hot := false, resuming := c.hst.resuming }) })

/-- O27. Where the endpoint and its links take accesses, a write to Window B ends L1 and makes a fetch due (of all lines for FETCH_ALL) at the next
DOORBELL stage, this frame's unless it has run, else that of the next frame, latches the timestamp at its arrival, or keeps a candidate SQ_PI and makes a
fetch due so; no other register changes. A due fetch, the frame's first, moves SQ_PI of an enabled ring without a candidate to the value read where that is
later and at most the ring's size ahead of the descriptors started, and reports DB_ERR where it is too far ahead; a fetch that fails reports DB_ERR, moves
nothing and is repeated at the next frame. A frame has one fetch, and a block reset of HST DMA none. An aligned write of a reserved offset of Window B is
ignored but for L1, an aligned read answers 0, and every other request to it is answered with Unsupported Request and does nothing else. -/
def Obligations.Doorbells : Prop :=
  ∀ (b : Block) (q : List Instr),
    (pcieUp b = true → ready b = true →
      (∃ c, exec .hstDbbFetch ⟨b, q⟩ = .next ⟨c, q⟩ ∧ c = { b with regs := c.regs, hst := { b.hst with ask := true, fetch := b.hst.fetch || b.hst.fetchAt != devF b + 1 } } ∧
        getF c F.HST_LINK_L1 = 0 ∧ RegsBut [R.HST_LINK] b c) ∧
      (∃ c, exec .hstDbbFetchAll ⟨b, q⟩ = .next ⟨c, q⟩ ∧ c = { b with regs := c.regs, hst := { b.hst with
            ask := true, askAll := true, fetch := b.hst.fetch || b.hst.fetchAt != devF b + 1, fetchAll := b.hst.fetchAll || b.hst.fetchAt != devF b + 1 } } ∧
        getF c F.HST_LINK_L1 = 0 ∧ RegsBut [R.HST_LINK] b c) ∧
      (∃ c, exec .hstDbbTime ⟨b, q⟩ = .next ⟨c, q⟩ ∧ c = { b with regs := c.regs, freeCtr := b.freeCtr + 1 } ∧
        (let t := if b.clock.running then b.clock.ticks + Config.free b.freeCtr % 512 else 0
         getR c (R.HST_TIME 0) = w32 t ∧ getR c (R.HST_TIME 1) = w32 (t / 2 ^ 32)) ∧
        getF c F.HST_LINK_L1 = 0 ∧ RegsBut [R.HST_LINK, R.HST_TIME 0, R.HST_TIME 1] b c) ∧
      ∀ (r : Fin 16) (v : Word), ∃ c, exec (.hstDbbSq r v) ⟨b, q⟩ = .next ⟨c, q⟩ ∧ sqOf c r.val = { sqOf b r.val with cand := some v.toNat } ∧
        (∀ p, p ≠ r.val → sqOf c p = sqOf b p) ∧ c = { b with regs := c.regs, hst := { b.hst with
          ask := true, fetch := b.hst.fetch || b.hst.fetchAt != devF b + 1, sq := c.hst.sq } } ∧
        getF c F.HST_LINK_L1 = 0 ∧ RegsBut [R.HST_LINK] b c) ∧
    (pcieUp b = false ∨ ready b = false → ∀ i : Instr, i = .hstDbbFetch ∨ i = .hstDbbFetchAll ∨ i = .hstDbbTime ∨ (∃ r v, i = .hstDbbSq r v) →
      exec i ⟨b, q⟩ = .next ⟨b, q⟩) ∧
    (framesRun b = true → pcieActive b = true → pagesOn b = true → dmaOff b = false → hstResets b = false →
      b.hst.fetch = true ∨ b.hst.fetchAll = true → b.hst.fetchAt ≠ devF b + 1 → ∀ bad : List (Fin 16),
      (∃ c, exec (.doorbellFetch none bad) ⟨b, q⟩ = .next ⟨c, q⟩ ∧ c.hst = { b.hst with
            fetchAt := devF b + 1, ask := false, askAll := false, fetch := false, fetchAll := false, fetchRetry := true, retryAll := b.hst.fetchAll } ∧
        getF c F.HST_STATUS_DB_ERR = 1 ∧ c = { b with regs := c.regs, hst := c.hst, sl := { b.sl with cond := c.sl.cond } } ∧
        RegsBut [R.HST_LINK, R.HST_STATUS] b c) ∧
      ∀ ws : List Word, ∃ c, exec (.doorbellFetch (some ws) bad) ⟨b, q⟩ = .next ⟨c, q⟩ ∧
        c = { b with regs := c.regs, hst := c.hst, sl := { b.sl with cond := c.sl.cond } } ∧ c.hst.fetch = false ∧ c.hst.fetchAll = false ∧
        c.hst.fetchAt = devF b + 1 ∧ c.hst.ask = false ∧ c.hst.askAll = false ∧ ∀ r : Fin 16, (sqOf b r.val).en = true → (sqOf b r.val).cand = none →
          (piBad b r.val (ws.getD r.val 0).toNat = false →
            sqOf c r.val = { sqOf b r.val with
              pi := if later (ws.getD r.val 0).toNat (sqOf b r.val).pi then (ws.getD r.val 0).toNat else (sqOf b r.val).pi }) ∧
          (piBad b r.val (ws.getD r.val 0).toNat = true → sqOf c r.val = sqOf b r.val ∧ getF c F.HST_STATUS_DB_ERR = 1)) ∧
    (b.hst.fetchAt = devF b + 1 ∨ hstResets b = true → ∀ lines bad, exec (.doorbellFetch lines bad) ⟨b, q⟩ = .next ⟨b, q⟩) ∧
    (∀ v s, exec (.registerWrite .pcieB 0 v) s = exec .hstDbbFetch s ∧ exec (.registerWrite .pcieB 4 v) s = exec .hstDbbFetchAll s ∧
      exec (.registerWrite .pcieB 8 v) s = exec .hstDbbTime s ∧
      ∀ r : Fin 16, exec (.registerWrite .pcieB (BitVec.ofNat 20 (0x1000 + 0x100 * r.val)) v) s = exec (.hstDbbSq r v) s) ∧
    (∀ (a : BitVec 20) v, pcieUp b = true →
      (a.toNat % 4 = 0 → a.toNat < 65536 → (∀ r : Fin 16, a.toNat ≠ 0x1000 + 0x100 * r.val) → 12 ≤ a.toNat →
        exec (.registerWrite .pcieB a v) ⟨b, q⟩ = .next ⟨traffic b, q⟩) ∧
      (a.toNat % 4 = 0 → a.toNat < 65536 → exec (.lowHalfRead .pcieB a) ⟨b, q⟩ = .next ⟨{ traffic b with out := b.out ++ [.read .pcieB a.toNat 0] }, q⟩) ∧
      (a.toNat % 4 ≠ 0 ∨ 65536 ≤ a.toNat →
        exec (.registerWrite .pcieB a v) ⟨b, q⟩ = .next ⟨{ b with out := b.out ++ [.pcieUnsupported] }, q⟩ ∧
        exec (.lowHalfRead .pcieB a) ⟨b, q⟩ = .next ⟨{ b with out := b.out ++ [.pcieUnsupported] }, q⟩))

/-- O28. HST_RING_ENABLE puts the EN of both pages and of every ring in force, a submission or completion ring newly enabled with index 0 and its base as
written, one already enabled untouched. STATUS_PAGE_WRITE writes one page a frame, with the frame number first and last in its 64 words. HST_QUOTA_WRITE
sets a quota unless the quotas would then exceed 512, which sets QUOTA_REJ alone. -/
def Obligations.RingsAndPages : Prop :=
  ∀ (b : Block) (q : List Instr),
    (framesRun b = true →
      ∃ c, exec .hstRingEnable ⟨b, q⟩ = .next ⟨c, q⟩ ∧ c.hst.dbEn = isF b F.HST_DB_BASE_LO_EN ∧ c.hst.spEn = isF b F.HST_SP_BASE_LO_EN ∧
        c.hst.spBase = baseOf b R.HST_SP_BASE_LO R.HST_SP_BASE_HI ∧
        (∀ r : Fin 16, (sqOf c r.val).en = isF b (F.HST_SQ_CTL_EN r.val) ∧
          ((sqOf b r.val).en = false → (sqOf c r.val).en = true → (sqOf c r.val).pi = 0 ∧ getR c (R.HST_SQ_STATUS r.val) = 0 ∧
            (sqOf c r.val).base = baseOf b (R.HST_SQ_BASE_LO r.val) (R.HST_SQ_BASE_HI r.val)) ∧
          ((sqOf b r.val).en = true → (sqOf c r.val).en = true → (sqOf c r.val).pi = (sqOf b r.val).pi ∧
            (sqOf c r.val).base = (sqOf b r.val).base ∧ getR c (R.HST_SQ_STATUS r.val) = getR b (R.HST_SQ_STATUS r.val))) ∧
        (∀ r : Fin 16, (cqOf c r.val).en = isF b (F.HST_CQ_CTL_EN r.val) ∧
          ((cqOf b r.val).en = false → (cqOf c r.val).en = true → cqOf c r.val =
            { en := true, base := baseOf b (R.HST_CQ_BASE_LO r.val) (R.HST_CQ_BASE_HI r.val) } ∧ getR c (R.HST_CQ_STATUS r.val) = 0) ∧
          ((cqOf b r.val).en = true → (cqOf c r.val).en = true → cqOf c r.val = cqOf b r.val)) ∧
        (∀ r : Fin 32, (srOf c r.val).en = isF b (F.HST_SR_CTL_EN r.val) ∧ ((srOf c r.val).en = true →
          (srOf c r.val).types = getF b (F.HST_SR_CTL_TYPES r.val) ∧ (srOf c r.val).decim = getF b (F.HST_SR_CTL_DECIM r.val))) ∧
        c = { b with regs := c.regs, hst := c.hst, sl := { b.sl with cond := c.sl.cond } }) ∧
    (framesRun b = true → pcieActive b = true → dmaOff b = false → b.hst.pageAt ≠ devF b + 1 →
      ∃ c, exec .statusPageWrite ⟨b, q⟩ = .next ⟨c, q⟩ ∧ c.hst.pageAt = devF b + 1 ∧
        (b.hst.spEn = true → ∃ ws, Output.dma b.hst.spBase ws ∈ c.out ∧ ws.length = 64 ∧ ws.getD 0 0 = w32 (frame b) ∧
          ws.getD 63 0 = w32 (frame b) ∧ ws.getD 2 0 = w32 b.hst.summary) ∧
        (∀ o, o ∈ b.out → o ∈ c.out) ∧ c = { b with regs := c.regs, hst := c.hst, out := c.out }) ∧
    (b.hst.pageAt = devF b + 1 → exec .statusPageWrite ⟨b, q⟩ = .next ⟨b, q⟩) ∧
    (∀ (s : Fin 32) (v : Word), ready b = true →
      (quotaSum b - getF b (F.HST_SR_QUOTA_QUOTA s.val) + v.toNat % 1024 ≤ 512 →
        ∃ c, exec (.hstQuotaWrite s v) ⟨b, q⟩ = .next ⟨c, q⟩ ∧ c = { b with regs := c.regs } ∧
          getF c (F.HST_SR_QUOTA_QUOTA s.val) = v.toNat % 1024 ∧ RegsBut [R.HST_SR_QUOTA s.val] b c) ∧
      (512 < quotaSum b - getF b (F.HST_SR_QUOTA_QUOTA s.val) + v.toNat % 1024 →
        ∃ c, exec (.hstQuotaWrite s v) ⟨b, q⟩ = .next ⟨c, q⟩ ∧ c = { b with regs := c.regs } ∧
          getF c F.HST_STATUS_QUOTA_REJ = 1 ∧ RegsBut [R.HST_STATUS] b c))

/-- O29. A well-formed TIME_SYNC waits for its tick; one with a reserved or misaligned field completes INVALID; a descriptor whose opcode is not listed
completes UNKNOWN_OPCODE whatever its fields. COMPLETION_POST writes the completion that waits first at an enabled ring with room to the ring's next slot
in host memory, counts it, and lets its submission ring go on; with no room or nothing waiting it changes nothing. -/
def Obligations.CommandsAndCompletions : Prop :=
  ∀ (b : Block) (q : List Instr),
    (∀ (r : Fin 16) (d : Desc), canStart b r.val = true →
      (d.resvd = 0 → d.p0 = 0 → tail0 d = true → badAddr d.addr = false →
        ∃ c, exec (.timeSync r d) ⟨b, q⟩ = .next ⟨c, q⟩ ∧ CmdWaits r.val 0x0D d (.timeSync d.addr.toNat d.wfail) b c ∧
          c = { b with regs := c.regs, hst := c.hst } ∧ RegsBut [R.HST_SQ_STATUS r.val] b c) ∧
      (d.resvd ≠ 0 ∨ d.p0 ≠ 0 ∨ tail0 d = false ∨ badAddr d.addr = true →
        ∃ c, exec (.timeSync r d) ⟨b, q⟩ = .next ⟨c, q⟩ ∧ CmdCompletes r.val 0x0D d 0 St.invalid 0 0 b c ∧
          c = { b with regs := c.regs, hst := c.hst } ∧ RegsBut [R.HST_SQ_STATUS r.val] b c) ∧
      ∀ op : Byte, op.toNat = 0 ∨ 0x0E < op.toNat →
        ∃ c, exec (.unknownOpcodeDescriptor r op d) ⟨b, q⟩ = .next ⟨c, q⟩ ∧ CmdCompletes r.val op.toNat d 0 St.unknownOpcode 0 0 b c ∧
          c = { b with regs := c.regs, hst := c.hst } ∧ RegsBut [R.HST_SQ_STATUS r.val] b c) ∧
    (∀ (r : Fin 16) (e : Cpl) (rest : List Cpl), (cqOf b r.val).waiting = e :: rest →
      ((cqOf b r.val).en = true → pagesOn b = true → dmaOff b = false → cqFull b r.val = false →
        ∃ c, exec (.completionPost r) ⟨b, q⟩ = .next ⟨c, q⟩ ∧ cqOf c r.val = { cqOf b r.val with waiting := rest } ∧
          (∀ p, p ≠ r.val → cqOf c p = cqOf b p) ∧ (sqOf c e.sq).running = none ∧ (∀ p, p ≠ e.sq → sqOf c p = sqOf b p) ∧
          getR c (R.HST_CQ_STATUS r.val) = getR b (R.HST_CQ_STATUS r.val) + 1 ∧ c.hst.cplTotal = (b.hst.cplTotal + 1) % 2 ^ 32 ∧
          c.out = b.out ++ [.dma ((cqOf b r.val).base + 16 * ((getR b (R.HST_CQ_STATUS r.val)).toNat % ringEntries (getF b (F.HST_CQ_CTL_SIZE r.val))))
            (cplWords e)] ∧ c = { b with regs := c.regs, hst := c.hst, out := c.out }) ∧
      (cqFull b r.val = true → exec (.completionPost r) ⟨b, q⟩ = .next ⟨b, q⟩)) ∧
    (∀ r : Fin 16, (cqOf b r.val).waiting = [] → exec (.completionPost r) ⟨b, q⟩ = .next ⟨b, q⟩)

/-- O30. Where host links take accesses and the path reaches the offset, a write of a register without behaviour of its own leaves each bit as its access
code says; a write of an RWS field with AUTOCOMMIT also requests the commit, and one over PCIe ends L1. No other register and nothing else changes. Where
the path does not reach the offset nothing changes. Over PCIe a request that is not an aligned one of 32 bits is answered with Unsupported Request and does
nothing else. -/
def Obligations.RegisterWrites : Prop :=
  (∀ (p : Path) (a : BitVec 20) (v : Word) (b : Block) (q : List Instr), p = .pcieWide ∨ (p = .pcie ∧ a.toNat % 4 ≠ 0) → pcieUp b = true →
    exec (.registerWrite p a v) ⟨b, q⟩ = .next ⟨{ b with out := b.out ++ [.pcieUnsupported] }, q⟩) ∧
  ∀ (p : Path) (a : BitVec 20) (v : Word) (b : Block) (q : List Instr), p ≠ .pcieB → p ≠ .pcieWide → (p = .pcie → a.toNat % 4 = 0) →
    (ready b = true → pathUp p b = true → pathReach p a.toNat = true → (if a.toNat < 0x8000 then plainLow a.toNat else plainHigh a.toNat) = true →
      ∀ r, regRow a.toNat = some r → ∃ c, exec (.registerWrite p a v) ⟨b, q⟩ = .next ⟨c, q⟩ ∧ c = { b with regs := c.regs } ∧
        (∀ j, j < 32 → bitOf (getR c a.toNat).toNat j = bitAfter r (getR b a.toNat) v j) ∧
        RegsBut ([a.toNat, R.FE_COMMIT] ++ if p = .pcie then [R.HST_LINK] else []) b c ∧ (p = .pcie → getF c F.HST_LINK_L1 = 0) ∧
        getF c F.FE_COMMIT_PENDING = (if r.rws ≠ 0 ∧ getF b F.FE_COMMIT_AUTOCOMMIT = 1 then 1 else getF b F.FE_COMMIT_PENDING) ∧
        FieldsBeside F.FE_COMMIT_PENDING b c) ∧
    (ready b = false ∨ pathUp p b = false ∨ pathReach p a.toNat = false → exec (.registerWrite p a v) ⟨b, q⟩ = .next ⟨b, q⟩)

/-- O31. Where host links take accesses, LOW_HALF_READ of a low half answers its word and latches the whole value for the path alone. HIGH_HALF_READ with
that latch answers the high word of the latched value and changes nothing; with none, or another, it answers the live word and sets TORN of its path.
JTAG_ACCESS that reads a register answers, in FACTORY while the supervisor runs, an ordinary register's word and changes no register, and outside FACTORY
does nothing; a boundary scan captures one level for each land and changes nothing else (nothing in reset, where TDO is high impedance), or holds the lands
at the levels given until it releases them. A read over PCIe that is not an aligned one of 32 bits is answered with Unsupported Request. -/
def Obligations.HalfReads : Prop :=
  ∀ (b : Block) (q : List Instr),
    (∀ (p : Path) (a : BitVec 20) (x : Block), p ≠ .pcieB → p ≠ .pcieWide → ready b = true → pathUp p b = true → x = (if p = .pcie then traffic b else b) →
      (isLow a.toNat = true → ∃ c, exec (.lowHalfRead p a) ⟨b, q⟩ = .next ⟨c, q⟩ ∧ latchOf p c = some (a.toNat, (wholeAt a.toNat x).1) ∧
        c.out = b.out ++ [.read p a.toNat (w32 (wholeAt a.toNat x).1)] ∧ (∀ o, o ≠ p → o ≠ .pcieB → o ≠ .pcieWide → latchOf o c = latchOf o b) ∧
        c = { b with regs := x.regs, latch := c.latch, out := c.out, freeCtr := (wholeAt a.toNat x).2.freeCtr }) ∧
      (∀ lo v, isHigh a.toNat = true → latchOf p b = some (lo, v) → lo + 4 = a.toNat →
        exec (.highHalfRead p a) ⟨b, q⟩ = .next ⟨{ x with out := b.out ++ [.read p a.toNat (w32 (v / 2 ^ 32))] }, q⟩) ∧
      (isHigh a.toNat = true → (∀ v, latchOf p b ≠ some (a.toNat - 4, v)) →
        ∃ c, exec (.highHalfRead p a) ⟨b, q⟩ = .next ⟨c, q⟩ ∧
          c.out = b.out ++ [.read p a.toNat (w32 ((wholeAt (a.toNat - 4) x).1 / 2 ^ 32))] ∧
          (p = .pcie → getF c F.SPI_LATCH_STATUS_PCIE_TORN = 1) ∧ (p = .spi → getF c F.SPI_STATUS_TORN = 1) ∧
          c = { b with regs := c.regs, out := c.out, freeCtr := c.freeCtr })) ∧
    (∀ (p : Path) (a : BitVec 20), pathUp p b = false →
      exec (.lowHalfRead p a) ⟨b, q⟩ = .next ⟨b, q⟩ ∧ exec (.highHalfRead p a) ⟨b, q⟩ = .next ⟨b, q⟩) ∧
    (∀ a : BitVec 20, (b.lc.acting = .factory → awake b = true → isLow a.toNat = false → isHigh a.toNat = false →
        exec (.jtagAccess (.read a)) ⟨b, q⟩ = .next ⟨{ b with out := b.out ++ [.jtag (wordAt b a.toNat)] }, q⟩) ∧
      (b.lc.acting ≠ .factory → exec (.jtagAccess (.read a)) ⟨b, q⟩ = .next ⟨b, q⟩)) ∧
    (∀ (p : Path) (a : BitVec 20), p = .pcieWide ∨ (p = .pcie ∧ a.toNat % 4 ≠ 0) → pcieUp b = true →
      exec (.lowHalfRead p a) ⟨b, q⟩ = .next ⟨{ b with out := b.out ++ [.pcieUnsupported] }, q⟩ ∧
      exec (.highHalfRead p a) ⟨b, q⟩ = .next ⟨{ b with out := b.out ++ [.pcieUnsupported] }, q⟩) ∧
    (b.pwr.resetHold = false → ∃ ls, exec (.jtagAccess .sample) ⟨b, q⟩ = .next ⟨{ b with out := b.out ++ [.scan ls], freeCtr := b.freeCtr + 1 }, q⟩ ∧
      ls.length = (landLevels b).length) ∧
    (b.pwr.resetHold = true → exec (.jtagAccess .sample) ⟨b, q⟩ = .next ⟨b, q⟩) ∧
    (∀ ls, exec (.jtagAccess (.extest ls)) ⟨b, q⟩ = .next ⟨{ b with pins := { b.pins with extest := some ls } }, q⟩) ∧
    exec (.jtagAccess .release) ⟨b, q⟩ = .next ⟨{ b with pins := { b.pins with extest := none } }, q⟩

/-- O32. Where the SPI target answers and is ready: a whole READ frame with a good header answers the words read, S and their CRC; a whole POP frame the
words popped, zeros beyond the FIFO's end, each removed from the FIFO; a whole WRITE or WRITE_FIXED frame with good CRCs answers S and its CRC and then
writes its words in order, at rising addresses or at one. A frame whose C_H fails, or a write whose C_W does, sets CRC_ERR; a READ or WRITE that is
misaligned or runs past 0x0F_FFFC, a WRITE_FIXED at such an address and a POP with a reserved header bit set ERR, and READ and POP answer words of 0.
Neither has any other effect on registers below the counters' or on a FIFO's words. Where host links take accesses, SPI_FIFO_SKIP of a FIFO whose head
record is partly popped discards the words up to that record's end, and else none; SPI_FIFO_FLUSH leaves a flush to happen at the frame tick, the words
standing until then. Both write the control's other fields, of which ALT_EN and DECIM keep 0 where R435 gives none; no other FIFO and no other register
changes. -/
def Obligations.SpiPort : Prop :=
  (∀ (h : BitVec 30) (ch cw : Byte) (ws : List Word) (cycles : Nat) (b x : Block) (q : List Instr), ready b = true → b.pwr.parking = false →
    pathUp .spi b = true → 40 ≤ cycles →
    x = { b with pins := { b.pins with wakeNLow := false }, spi := { b.spi with crcFails := 0 } } →
    (headerCrc 0 h.toNat = ch.toNat → bitsOf h.toNat 0 24 % 4 = 0 → bitsOf h.toNat 0 24 + 4 * bitsOf h.toNat 24 6 ≤ 0xFFFFC →
      64 + 32 * (bitsOf h.toNat 24 6 + 1) ≤ cycles → ∃ c s, exec (.spiRead h ch cycles) ⟨b, q⟩ = .next ⟨c, q⟩ ∧
        let vs := (readList .spi ((List.range (bitsOf h.toNat 24 6 + 1)).map fun i =>
          if msixOffset (bitsOf h.toNat 0 24 + 4 * i) then 0xFFFFC else bitsOf h.toNat 0 24 + 4 * i) x).1
        c.out = b.out ++ [.spi vs [s, crc8 (wireBytes vs ++ [s])]] ∧ vs.length = bitsOf h.toNat 24 6 + 1) ∧
    (headerCrc 2 h.toNat = ch.toNat → bitsOf h.toNat 26 4 = 0 → bitsOf h.toNat 12 12 = 0 → 64 + 32 * (bitsOf h.toNat 0 12 + 1) ≤ cycles →
      ∃ c s, exec (.spiPop h ch cycles) ⟨b, q⟩ = .next ⟨c, q⟩ ∧
        let n := bitsOf h.toNat 0 12 + 1
        let f := bitsOf h.toNat 24 2
        let vs := ((fifoOf b f).words.map (·.1)).take n ++ List.replicate (n - (fifoOf b f).words.length) 0
        c.out = b.out ++ [.spi vs [s, crc8 (wireBytes vs ++ [s])]] ∧ (fifoOf c f).words = (fifoOf b f).words.drop n ∧
        (∀ g, g ≠ f → fifoOf c g = fifoOf b g) ∧ RegsBut [R.SPI_FIFO_DROP f] b c) ∧
    (headerCrc 1 h.toNat = ch.toNat → bitsOf h.toNat 0 24 % 4 = 0 → bitsOf h.toNat 0 24 + 4 * bitsOf h.toNat 24 6 ≤ 0xFFFFC → ws.length = bitsOf h.toNat 24 6 + 1 →
      crc8 (wireBytes ws) = cw.toNat → 72 + 32 * (bitsOf h.toNat 24 6 + 1) ≤ cycles →
      ∃ s, exec (.spiWrite h ch ws cw cycles) ⟨b, q⟩ =
        .next ⟨spiApply false (bitsOf h.toNat 0 24) ws { x with out := b.out ++ [.spi [] [s, crc8 [s]]] }, q⟩) ∧
    (headerCrc 3 h.toNat = ch.toNat → bitsOf h.toNat 0 24 % 4 = 0 → bitsOf h.toNat 0 24 ≤ 0xFFFFC → ws.length = bitsOf h.toNat 24 6 + 1 →
      crc8 (wireBytes ws) = cw.toNat → 72 + 32 * (bitsOf h.toNat 24 6 + 1) ≤ cycles →
      ∃ s, exec (.spiWriteFixed h ch ws cw cycles) ⟨b, q⟩ =
        .next ⟨spiApply true (bitsOf h.toNat 0 24) ws { x with out := b.out ++ [.spi [] [s, crc8 [s]]] }, q⟩) ∧
    (∀ (i : Instr) (op : Nat), (i, op) ∈ [(.spiRead h ch cycles, 0), (.spiWrite h ch ws cw cycles, 1), (.spiPop h ch cycles, 2),
        (.spiWriteFixed h ch ws cw cycles, 3)] → headerCrc op h.toNat ≠ ch.toNat →
      ∃ c, exec i ⟨b, q⟩ = .next ⟨c, q⟩ ∧ getF c F.SPI_STATUS_CRC_ERR = 1 ∧ c.spi = { b.spi with crcFails := b.spi.crcFails + 1 } ∧
        ∀ a, a < R.CNT_CTL → a ≠ R.SPI_STATUS → getR c a = getR b a) ∧
    (∀ (i : Instr) (op : Nat), (i, op) ∈ [(.spiWrite h ch ws cw cycles, 1), (.spiWriteFixed h ch ws cw cycles, 3)] → headerCrc op h.toNat = ch.toNat →
      ws.length = bitsOf h.toNat 24 6 + 1 → crc8 (wireBytes ws) ≠ cw.toNat → 56 + 32 * (bitsOf h.toNat 24 6 + 1) ≤ cycles →
      ∃ c, exec i ⟨b, q⟩ = .next ⟨c, q⟩ ∧ getF c F.SPI_STATUS_CRC_ERR = 1 ∧ c.spi = { b.spi with crcFails := b.spi.crcFails + 1 } ∧
        ∀ a, a < R.CNT_CTL → a ≠ R.SPI_STATUS → getR c a = getR b a) ∧
    (∀ (i : Instr) (n : Nat),
      (i = .spiRead h ch cycles ∧ n = bitsOf h.toNat 24 6 + 1 ∧ headerCrc 0 h.toNat = ch.toNat ∧
        (bitsOf h.toNat 0 24 % 4 ≠ 0 ∨ 0xFFFFC < bitsOf h.toNat 0 24 + 4 * bitsOf h.toNat 24 6)) ∨
      (i = .spiPop h ch cycles ∧ n = bitsOf h.toNat 0 12 + 1 ∧ headerCrc 2 h.toNat = ch.toNat ∧ (bitsOf h.toNat 26 4 ≠ 0 ∨ bitsOf h.toNat 12 12 ≠ 0)) →
      ∃ c s, exec i ⟨b, q⟩ = .next ⟨c, q⟩ ∧ getF c F.SPI_STATUS_ERR = 1 ∧ c = { x with regs := c.regs, out := c.out } ∧ RegsBut [R.SPI_STATUS] b c ∧
        (64 + 32 * n ≤ cycles → c.out = b.out ++ [.spi (List.replicate n 0) [s, crc8 (wireBytes (List.replicate n 0) ++ [s])]])) ∧
    (∀ i : Instr, ws.length = bitsOf h.toNat 24 6 + 1 → crc8 (wireBytes ws) = cw.toNat → 72 + 32 * (bitsOf h.toNat 24 6 + 1) ≤ cycles →
      (i = .spiWrite h ch ws cw cycles ∧ headerCrc 1 h.toNat = ch.toNat ∧
        (bitsOf h.toNat 0 24 % 4 ≠ 0 ∨ 0xFFFFC < bitsOf h.toNat 0 24 + 4 * bitsOf h.toNat 24 6)) ∨
      (i = .spiWriteFixed h ch ws cw cycles ∧ headerCrc 3 h.toNat = ch.toNat ∧ (bitsOf h.toNat 0 24 % 4 ≠ 0 ∨ 0xFFFFC < bitsOf h.toNat 0 24)) →
      ∃ c s, exec i ⟨b, q⟩ = .next ⟨c, q⟩ ∧ getF c F.SPI_STATUS_ERR = 1 ∧ c = { x with regs := c.regs, out := c.out } ∧ RegsBut [R.SPI_STATUS] b c ∧
        c.out = b.out ++ [.spi [] [s, crc8 [s]]])) ∧
  (∀ (f : Fin 4) (v : Word) (b : Block) (q : List Instr), ready b = true →
    (∃ c, exec (.spiFifoSkip f v) ⟨b, q⟩ = .next ⟨c, q⟩ ∧ fifoOf c f.val = { fifoOf b f.val with
        words := if (fifoOf b f.val).partly then afterMark (fifoOf b f.val).words else (fifoOf b f.val).words
        partly := false, flush := (fifoOf b f.val).flush || bitOf v.toNat 27 } ∧
      (∀ g, g ≠ f.val → fifoOf c g = fifoOf b g) ∧ c = { b with regs := c.regs, spi := { b.spi with fifos := c.spi.fifos } } ∧
      getF c (F.SPI_FIFO_CTL_EN f.val) = bitsOf v.toNat 31 1 ∧ getF c (F.SPI_FIFO_CTL_LEVEL f.val) = bitsOf v.toNat 0 15 ∧
      getF c (F.SPI_FIFO_CTL_ALT_EN f.val) = (if 2 ≤ f.val then 0 else bitsOf v.toNat 29 1) ∧
      getF c (F.SPI_FIFO_CTL_DECIM f.val) = (if f.val = 1 ∨ f.val = 2 then 0 else bitsOf v.toNat 16 8) ∧ RegsBut [R.SPI_FIFO_CTL f.val] b c) ∧
    (bitOf v.toNat 28 = false → ∃ c, exec (.spiFifoFlush f v) ⟨b, q⟩ = .next ⟨c, q⟩ ∧
      fifoOf c f.val = { fifoOf b f.val with flush := true } ∧ (∀ g, g ≠ f.val → fifoOf c g = fifoOf b g) ∧
      c = { b with regs := c.regs, spi := { b.spi with fifos := c.spi.fifos } } ∧
      getF c (F.SPI_FIFO_CTL_EN f.val) = bitsOf v.toNat 31 1 ∧ getF c (F.SPI_FIFO_CTL_LEVEL f.val) = bitsOf v.toNat 0 15 ∧
      getF c (F.SPI_FIFO_CTL_ALT_EN f.val) = (if 2 ≤ f.val then 0 else bitsOf v.toNat 29 1) ∧
      getF c (F.SPI_FIFO_CTL_DECIM f.val) = (if f.val = 1 ∨ f.val = 2 then 0 else bitsOf v.toNat 16 8) ∧ RegsBut [R.SPI_FIFO_CTL f.val] b c))

/-- O33. A well-formed CFG_WRITE whose entries all name writable offsets within reach writes them in order, requests the commit where one has an RWS field,
and waits for the tick; a wrong entry completes it INVALID with nothing written, a failed read with DMA_ERROR, or with ABORTED where a block reset of HST
DMA cuts it off. A well-formed CFG_READ reads its offsets in order under a fresh latch, writes each value after its entry's word 0, and completes with
whether one was torn and the frame number; where those writes fail it completes DMA_ERROR. A forward request at the follower it is for whose tag passes is
performed in order and answered with its values, or refused whole where it names the LC block; one whose tag fails is discarded. Another follower, an
UNASSIGNED module or a root in conflict passes it on as it came. -/
def Obligations.RegisterBatches : Prop :=
  ∀ (r : Fin 16) (d : Desc) (ws : List Word) (b : Block) (q : List Instr),
    (canStart b r.val = true → d.resvd = 0 → 1 ≤ d.p0.toNat → d.p0.toNat ≤ 4096 → badAddr d.addr = false → tail0 d = true →
      ((batchOf d.p0.toNat ws).all (fun e => entryOk e.1 && writable e.1 && pathReach .cmd e.1) = true →
        exec (.cfgWrite r d (some ws)) ⟨b, q⟩ = .next ⟨waitOn r.val (.cfgWrite ((batchOf d.p0.toNat ws).any (fun e => hasRws e.1) ||
            (batchOf d.p0.toNat ws).any fun e => decide (e.1 = R.FE_COMMIT) && bitOf e.2.toNat 0))
          (when ((batchOf d.p0.toNat ws).any fun e => hasRws e.1) (setF F.FE_COMMIT_PENDING 1)
            (each (batchOf d.p0.toNat ws) (fun e => writeReg e.1 e.2) (startedCmd r.val 0x01 d b))), q⟩) ∧
      ((batchOf d.p0.toNat ws).all (fun e => entryOk e.1 && writable e.1 && pathReach .cmd e.1) = false →
        ∃ c, exec (.cfgWrite r d (some ws)) ⟨b, q⟩ = .next ⟨c, q⟩ ∧ CmdCompletes r.val 0x01 d 0 St.invalid 0 0 b c ∧
          c = { b with regs := c.regs, hst := c.hst } ∧ RegsBut [R.HST_SQ_STATUS r.val] b c) ∧
      (b.sl.blkOwed.contains .hst = true → ∃ c, exec (.cfgWrite r d none) ⟨b, q⟩ = .next ⟨c, q⟩ ∧ CmdCompletes r.val 0x01 d 0 St.aborted 0 0 b c ∧
        c = { b with regs := c.regs, hst := c.hst } ∧ RegsBut [R.HST_SQ_STATUS r.val] b c) ∧
      (b.sl.blkOwed.contains .hst = false → ∃ c, exec (.cfgWrite r d none) ⟨b, q⟩ = .next ⟨c, q⟩ ∧ CmdCompletes r.val 0x01 d 0 St.dmaError 0 0 b c ∧
        getF c F.HST_STATUS_DMA_ERR = 1 ∧ c = { b with regs := c.regs, hst := c.hst, sl := { b.sl with cond := c.sl.cond } } ∧
        RegsBut [R.HST_SQ_STATUS r.val, R.HST_STATUS] b c) ∧
      ((batchOf d.p0.toNat ws).all (fun e => entryOk e.1) = true →
        ∃ c, exec (.cfgRead r d (some ws)) ⟨b, q⟩ = .next ⟨c, q⟩ ∧
          let got := readList .cmd ((batchOf d.p0.toNat ws).map (·.1)) (setLatch .cmd none (startedCmd r.val 0x02 d b))
          (d.wfail = false →
            c.out = b.out ++ (List.range d.p0.toNat).map (fun i => .dma (d.addr.toNat + 8 * i + 4) [got.1.getD i 0]) ∧
            CmdCompletes r.val 0x02 d (nat01 got.2.1) St.done (frame b) 0 b c) ∧
          (d.wfail = true → c.out = b.out ∧ CmdCompletes r.val 0x02 d 0 St.dmaError 0 0 b c))) ∧
    ∀ m : ForwardMessage, (ready b = true → isFollower b = true → getF b F.CW_STATUS_ADDR = m.target.val →
      (tagFits b 0 3 (requestBytes (getF b F.CW_STATUS_ADDR) (requestOps m.ops)) m.tagged = true →
        (m.ops.all (fun o => pathReach .fwd o.2.1.toNat) = true →
          exec (.forwardRequest m) ⟨b, q⟩ = .next ⟨let got := forwardAll (requestOps m.ops) (tagGood 0 b)
            sendResponse false m.ops.length got.1 got.2, q⟩) ∧
        (m.ops.all (fun o => pathReach .fwd o.2.1.toNat) = false →
          exec (.forwardRequest m) ⟨b, q⟩ = .next ⟨sendResponse true 0 [] (tagGood 0 b), q⟩)) ∧
      (tagFits b 0 3 (requestBytes (getF b F.CW_STATUS_ADDR) (requestOps m.ops)) m.tagged = false →
        ∃ c, exec (.forwardRequest m) ⟨b, q⟩ = .next ⟨c, q⟩ ∧ c.out = b.out ∧ ∀ a, a < R.CNT_CTL → getR c a = getR b a)) ∧
      (isFollower b = false ∨ getF b F.CW_STATUS_ADDR ≠ m.target.val →
        (framesRun b = true → passesOn b = true → exec (.forwardRequest m) ⟨b, q⟩ = .next ⟨{ b with
          out := b.out ++ [.causeway .forwardRequest (m.target.val :: forwardWords (requestOps m.ops) ++ m.tagged.tag.map (·.toNat))] }, q⟩) ∧
        (framesRun b = false ∨ passesOn b = false → exec (.forwardRequest m) ⟨b, q⟩ = .next ⟨b, q⟩))

/-- O34. Where links take accesses, outside FIELD and RETIRED and with no run or request, BIST_CTL_RUN and BIST_RUN of an engine the target has leave the
request for the tick; in FIELD or RETIRED they are refused with RESULT 5, or NOT_PERMITTED for the command. BIST_CTL_ABORT asks for the end of a run.
BIST_RUN_START, in RUN, STANDBY or SAFE, begins a waiting request and shows it; the entry to PARK begins none. BIST_RUN_END of a run that has lasted its
time ends it COMPLETE with its result, and with the failure registers 0 on a pass: a failure that cannot be repaired marks the target, a pass ends its
mark, a repair takes the rows into use. ROLLING_ABIST_START begins a due tier test once nothing stands in its way, never in RETIRED. -/
def Obligations.SelfTests : Prop :=
  ∀ (b : Block) (q : List Instr),
    (∀ v : Word, ready b = true → b.bist.host = none → b.bist.request = none →
      (b.lc.acting ≠ .field → b.lc.acting ≠ .retired → (∀ r, b.bist.rolling = some r → r.target ≠ bitsOf v.toNat 16 8) →
        (hostEngines (bitsOf v.toNat 16 8)).contains (bitsOf v.toNat 28 4) = true → (bitsOf v.toNat 16 8 = 0x12 → marchBarred b = false) →
        ∃ c, exec (.bistCtlRun v) ⟨b, q⟩ = .next ⟨c, q⟩ ∧ RegsBut [R.BIST_CTL] b c ∧
          c = { b with regs := c.regs, bist := { b.bist with request := some (bitsOf v.toNat 16 8, bitsOf v.toNat 28 4) } }) ∧
      (b.lc.acting = .field ∨ b.lc.acting = .retired → ∃ c, exec (.bistCtlRun v) ⟨b, q⟩ = .next ⟨c, q⟩ ∧ c = { b with regs := c.regs } ∧
        getF c F.BIST_STATUS_RESULT = 5 ∧ FieldsBeside F.BIST_STATUS_RESULT b c ∧ RegsBut [R.BIST_CTL, R.BIST_STATUS] b c)) ∧
    (∀ (r : Fin 16) (d : Desc), canStart b r.val = true → d.resvd = 0 → d.p0.toNat &&& 0x0F00FFFD = 0 → d.addr = 0 → tail0 d = true →
      b.bist.host = none → b.bist.request = none →
      (b.lc.acting ≠ .field → b.lc.acting ≠ .retired → (∀ x, b.bist.rolling = some x → x.target ≠ bitsOf d.p0.toNat 16 8) →
        (hostEngines (bitsOf d.p0.toNat 16 8)).contains (bitsOf d.p0.toNat 28 4) = true → (bitsOf d.p0.toNat 16 8 = 0x12 → marchBarred b = false) →
        ∃ c, exec (.bistRun r d) ⟨b, q⟩ = .next ⟨c, q⟩ ∧ CmdWaits r.val 0x08 d .bistRun b c ∧ RegsBut [R.HST_SQ_STATUS r.val] b c ∧
          c = { b with regs := c.regs, hst := c.hst, bist := { b.bist with request := some (bitsOf d.p0.toNat 16 8, bitsOf d.p0.toNat 28 4) } }) ∧
      (b.lc.acting = .field ∨ b.lc.acting = .retired → ∃ c, exec (.bistRun r d) ⟨b, q⟩ = .next ⟨c, q⟩ ∧
        CmdCompletes r.val 0x08 d 0 St.notPermitted 0 0 b c ∧ c = { b with regs := c.regs, hst := c.hst })) ∧
    (∀ v : Word, ready b = true → bitOf v.toNat 0 = false → ∃ c, exec (.bistCtlAbort v) ⟨b, q⟩ = .next ⟨c, q⟩ ∧ RegsBut [R.BIST_CTL] b c ∧
      c = { b with regs := c.regs, bist := { b.bist with abortReq := b.bist.abortReq || b.bist.host.isSome } }) ∧
    (∀ t e, b.bist.request = some (t, e) → t < 256 → e < 16 → serves b = true → (t = 0x10 → b.fen.step = none) →
      ∃ c, exec .bistRunStart ⟨b, q⟩ = .next ⟨c, q⟩ ∧ c.bist = { b.bist with request := none, host := some ⟨t, e, devF b⟩ } ∧
        getF c F.BIST_STATUS_STATE = 1 ∧ getF c F.BIST_STATUS_TARGET = t ∧ getF c F.BIST_STATUS_ENGINE = e ∧ getF c F.BIST_STATUS_RESULT = 0 ∧
        c.lc = b.lc ∧ c.cfg = b.cfg ∧ c.pwr = b.pwr) ∧
    (b.bist.request = none ∨ serves b = false → exec .bistRunStart ⟨b, q⟩ = .next ⟨b, q⟩) ∧
    (∀ (r : BistRun) (x : TestResult), framesRun b = true → b.bist.host = some r → r.target = x.target.toNat → r.engine = x.engine.toNat →
      runOver b r = true → ∃ c, exec (.bistRunEnd x) ⟨b, q⟩ = .next ⟨c, q⟩ ∧ c.bist.host = none ∧ c.bist.abortReq = false ∧
        getF c F.BIST_STATUS_STATE = 2 ∧ getF c F.BIST_STATUS_RESULT = testCode b x ∧ getR c R.BIST_FAIL_ADDR = (if x.fail then x.addr else 0) ∧
        getR c R.BIST_FAIL_COUNT = (if x.fail then x.count else 0) ∧ (testCode b x = 1 → (r.target, r.engine) ∉ c.bist.failed) ∧
        (testCode b x = 3 → (r.target, r.engine) ∈ c.bist.failed) ∧
        (testCode b x = 2 → c.bist.failed = b.bist.failed ∧ c.bist.repairs = b.bist.repairs ++ x.rows) ∧ c.lc = b.lc ∧ c.cfg = b.cfg) ∧
    (∀ x, b.bist.host = none → b.bist.rolling = none → exec (.bistRunEnd x) ⟨b, q⟩ = .next ⟨b, q⟩) ∧
    (serves b = true → frame b % 20 = 0 → b.lc.acting ≠ .retired → rollOn b = true → b.bist.again = true ∨ b.bist.nextDue ≤ devF b →
      b.bist.host = none → b.bist.rolling = none → b.imp.sweep = none → b.fe.fineFrom = none → b.fe.align = [] → b.bist.tier < 16 →
      ∃ c, exec .rollingAbistStart ⟨b, q⟩ = .next ⟨c, q⟩ ∧ c.bist = { b.bist with
          rolling := some ⟨b.bist.tier, 3, devF b⟩, nextDue := if b.bist.again then b.bist.nextDue else devF b + rollPeriod b } ∧
        c = { b with bist := c.bist, imp := c.imp }) ∧
    (b.lc.acting = .retired ∨ b.bist.rolling.isSome = true ∨ frame b % 20 ≠ 0 ∨ serves b = false → exec .rollingAbistStart ⟨b, q⟩ = .next ⟨b, q⟩)

/-- O35. Where links take accesses BAL_SETREG adds its entry to the frame's set; a well-formed BAL_SET adds a set and waits. BAL_SET_APPLY handles the sets
that wait in their order, those of BAL_SET and then that of BAL_SETREG: it refuses a set whole with 4 in the safe state, 2 outside HOST, 3 for an entry of
an absent cell, with a reserved OP or of a cell with too small a resistor; the entries of the accepted sets act one after the other, a SET giving its cell
timer and duty with charge 0 unless its tier is under forced bleed-off; LAST_SET shows the last set's code, and a BAL_SET completes with its own. A mode
change leaves no timer, duty, target or charge. An AUTO target becomes the timer of its cell, where no policy pass excites it (DEDUCED, log entry 9), at
the duty of AUTO_DUTY. -/
def Obligations.BalancingOrders : Prop :=
  ∀ (b : Block) (q : List Instr),
    (∀ v, ready b = true → exec (.balSetreg v) ⟨b, q⟩ = .next ⟨{ b with bal := { b.bal with regSet := b.bal.regSet ++ [v] } }, q⟩) ∧
    (∀ (r : Fin 16) (d : Desc) (ws : List Word), canStart b r.val = true → d.resvd = 0 → 1 ≤ d.p0.toNat → d.p0.toNat ≤ 192 →
      badAddr d.addr = false → tail0 d = true → ∃ c, exec (.balSet r d (some ws)) ⟨b, q⟩ = .next ⟨c, q⟩ ∧ CmdWaits r.val 0x03 d .balSet b c ∧
        c = { b with regs := c.regs, hst := c.hst, bal := { b.bal with
          sets := b.bal.sets ++ [(r.val, (ws ++ List.replicate 192 0).take d.p0.toNat)] } } ∧ RegsBut [R.HST_SQ_STATUS r.val] b c) ∧
    (∀ ws, (inSafe b = true → setCode b ws = 4) ∧ (inSafe b = false → b.bal.mode ≠ 1 → setCode b ws = 2) ∧
      (inSafe b = false → b.bal.mode = 1 → (∃ w, w ∈ ws ∧ entryBad b w) → setCode b ws = 3) ∧
      (inSafe b = false → b.bal.mode = 1 → (∀ w, w ∈ ws → ¬ entryBad b w) → setCode b ws = 1)) ∧
    (framesRun b = true → setsWaiting b ≠ [] →
      ∃ c, exec .balSetApply ⟨b, q⟩ = .next ⟨c, q⟩ ∧ c.bal.sets = [] ∧ c.bal.regSet = [] ∧ c.bal.mode = b.bal.mode ∧ c.lc = b.lc ∧ c.pwr = b.pwr ∧
        (∀ ws, (setsWaiting b).getLast? = some ws → c.bal.lastSet = setCode b ws) ∧
        (∀ n, 1 ≤ n → n ≤ 192 → bleedOf c n = (((setsWaiting b).filter (fun ws => setCode b ws == 1)).flatten).foldl
          (fun x w => entryGives (b.bal.forced.contains (tierOf n)) n w x) (bleedOf b n)) ∧
        (∀ (r : Fin 16) ws tag, b.bal.sets = [(r.val, ws)] → (sqOf b r.val).running = some ⟨0x03, tag, .balSet⟩ → (cqOf b (cqNo b r.val)).en = true →
          cqOf c (cqNo b r.val) = { cqOf b (cqNo b r.val) with waiting := (cqOf b (cqNo b r.val)).waiting ++
            [⟨0x03, r.val, tag, setCode b ws, if setCode b ws = 1 then St.done else St.refused, frame b % 2 ^ 32, 0⟩] })) ∧
    (setsWaiting b = [] → exec .balSetApply ⟨b, q⟩ = .next ⟨b, q⟩) ∧
    (framesRun b = true → modeWanted b ≠ b.bal.mode → ∃ c, exec .balModeChange ⟨b, q⟩ = .next ⟨c, q⟩ ∧ c.bal.mode = modeWanted b ∧
      c.bal.targets = [] ∧ (∀ n, 1 ≤ n → n ≤ 192 → bleedOf c n = (0, 0, none, 0)) ∧ c.lc = b.lc ∧ c.pwr = b.pwr) ∧
    (modeWanted b = b.bal.mode → exec .balModeChange ⟨b, q⟩ = .next ⟨b, q⟩) ∧
    (∀ n m, framesRun b = true → b.bal.targets = [(n, m)] → b.bal.mode = 2 → b.bal.forced.contains (tierOf n) = false → present b n = true →
      policyExcites b n = false → ∃ c, exec .autoTargetApply ⟨b, q⟩ = .next ⟨c, q⟩ ∧ c.bal.targets = [] ∧ c.lc = b.lc ∧ c.pwr = b.pwr ∧
        bleedOf c n = (let d := getF b F.BAL_CTL_AUTO_DUTY_M1 + 1
          let t := if m = 0 then 0 else min 65535 (secondsFor b n m d)
          (t, if t = 0 then 0 else d, some m, 0)))

/-- O36. The first BAL_PERIOD_BOUNDARY of a period takes one second from each timer that ran before the tick, the duty going with the last, and no applied
duty then exceeds the ordered one; the clause on timers is for cells without a target that no pass excites. The first BAL_SLOT_BOUNDARY of a slot sets
every cell's gate as its applied duty, its slot window and what bars bleeding say, and orders nothing else. BAL_TIMER_EXPIRY ends the bleeding of a cell
whose timer is 0; CHARGE_TARGET_MET stops the cells, but for one a policy pass excites (DEDUCED, log entry 9), whose charge has reached their target, and
no others. -/
def Obligations.BalancingClock : Prop :=
  ∀ (b : Block) (q : List Instr), framesRun b = true →
    (b.clock.periodOwed = true → ∃ c, exec .balPeriodBoundary ⟨b, q⟩ = .next ⟨c, q⟩ ∧ c.clock.periodOwed = false ∧ c.clock.ticks = b.clock.ticks ∧
      (∀ n, 1 ≤ n → n ≤ 192 → (balOf b n).excite = false → (balOf b n).target = none →
        (balOf c n).timer = (if (balOf b n).fresh then (balOf b n).timer else (balOf b n).timer - 1) ∧
        (balOf c n).charge = (balOf b n).charge ∧ ((balOf c n).timer ≠ 0 → (balOf c n).duty = (balOf b n).duty) ∧
        ((balOf b n).timer = 1 → (balOf b n).fresh = false → (balOf c n).duty = 0)) ∧
      (∀ n, 1 ≤ n → n ≤ 192 → (balOf c n).applied ≤ (balOf c n).duty) ∧ c.bal.mode = b.bal.mode ∧ c.lc = b.lc ∧ c.pwr = b.pwr) ∧
    (b.clock.periodOwed = false → exec .balPeriodBoundary ⟨b, q⟩ = .next ⟨b, q⟩) ∧
    (b.clock.slotOwed = true → ∃ c, exec .balSlotBoundary ⟨b, q⟩ = .next ⟨c, q⟩ ∧ c.clock = { b.clock with slotOwed := false } ∧
      (∀ n, 1 ≤ n → n ≤ 192 → (balOf c n).cmdOn = gateWanted b n ∧ bleedOf c n = bleedOf b n) ∧
      c = { b with regs := c.regs, clock := c.clock, bal := { b.bal with cells := c.bal.cells, prior := c.bal.prior } }) ∧
    (b.clock.slotOwed = false → exec .balSlotBoundary ⟨b, q⟩ = .next ⟨b, q⟩) ∧
    (∀ k : Cell, (balOf b (k.val + 1)).timer = 0 → (balOf b (k.val + 1)).cmdOn = true → (balOf b (k.val + 1)).excite = false →
      ∃ c, exec (.balTimerExpiry k) ⟨b, q⟩ = .next ⟨c, q⟩ ∧ (balOf c (k.val + 1)).cmdOn = false ∧ bleedOf c (k.val + 1) = bleedOf b (k.val + 1) ∧
        (∀ n, n ≠ k.val + 1 → balOf c n = balOf b n) ∧ c = { b with bal := { b.bal with cells := c.bal.cells } }) ∧
    (∀ k : Cell, (balOf b (k.val + 1)).timer ≠ 0 ∨ (balOf b (k.val + 1)).cmdOn = false → exec (.balTimerExpiry k) ⟨b, q⟩ = .next ⟨b, q⟩) ∧
    (∃ c, exec .chargeTargetMet ⟨b, q⟩ = .next ⟨c, q⟩ ∧ c.bal.mode = b.bal.mode ∧ c.lc = b.lc ∧ c.pwr = b.pwr ∧ ∀ n, 1 ≤ n → n ≤ 192 →
      (∀ m, (balOf b n).target = some m → (m : Rat) ≤ (balOf b n).charge → policyExcites b n = false →
        ((balOf b n).timer ≠ 0 → bleedOf c n = (0, 0, some m, (balOf b n).charge))) ∧
      ((∀ m, (balOf b n).target = some m → (balOf b n).charge < m) → bleedOf c n = bleedOf b n))

/-- O37. Where links take accesses the three actions of IMP_CTL leave a request for the written slot, an abort, or HOST_GO for a sweep that waits for it; a
well-formed IMP_SWEEP leaves its request and waits. SWEEP_ACCEPT of one request, with nothing running, refuses it with its code of R195 or starts a sweep
of the slot's cells and frequencies with the next number, its first pass at this tick unless the host is the source. IMP_PASS_START begins a pass that
waits and is free to go, and the second pass of a point when the first has taken its samples. IMP_POINT_END turns the first point due into an IMP record of
one entry per cell, and the sums of its passes are dropped. -/
def Obligations.ImpedanceSweeps : Prop :=
  ∀ (b : Block) (q : List Instr),
    (∀ v : Word, ready b = true →
      (∃ c, exec (.impStart v) ⟨b, q⟩ = .next ⟨c, q⟩ ∧ c = { b with regs := c.regs, imp := { b.imp with
          host := b.imp.host ++ [(v.toNat % 4, none)], abort := b.imp.abort || bitOf v.toNat 3
          go := b.imp.go || (bitOf v.toNat 4 && b.imp.sweep.any (·.waitGo)) } } ∧ RegsBut [R.IMP_CTL] b c ∧ getF c F.IMP_CTL_SLOT = v.toNat % 4) ∧
      (∃ c, exec (.impAbort v) ⟨b, q⟩ = .next ⟨c, q⟩ ∧ c = { b with regs := c.regs, imp := { b.imp with
          host := b.imp.host ++ (if bitOf v.toNat 2 then [(v.toNat % 4, none)] else []), abort := true
          go := b.imp.go || (bitOf v.toNat 4 && b.imp.sweep.any (·.waitGo)) } } ∧ RegsBut [R.IMP_CTL] b c) ∧
      ∃ c, exec (.impHostGo v) ⟨b, q⟩ = .next ⟨c, q⟩ ∧ c = { b with regs := c.regs, imp := { b.imp with
          host := b.imp.host ++ (if bitOf v.toNat 2 then [(v.toNat % 4, none)] else []), abort := b.imp.abort || bitOf v.toNat 3
          go := b.imp.go || b.imp.sweep.any (·.waitGo) } } ∧ RegsBut [R.IMP_CTL] b c) ∧
    (∀ (r : Fin 16) (d : Desc), canStart b r.val = true → d.resvd = 0 → d.p0.toNat < 512 → bitsOf d.p0.toNat 2 6 = 0 → d.addr = 0 → tail0 d = true →
      ∃ c, exec (.impSweep r d) ⟨b, q⟩ = .next ⟨c, q⟩ ∧ CmdWaits r.val 0x04 d (.impSweep (bitOf d.p0.toNat 8) (d.p0.toNat % 4) none) b c ∧
        c = { b with regs := c.regs, hst := c.hst, imp := { b.imp with host := b.imp.host ++ [(d.p0.toNat % 4, some r.val)] } } ∧
        RegsBut [R.HST_SQ_STATUS r.val] b c) ∧
    (∀ s, framesRun b = true → b.imp.host = [(s, none)] → b.imp.sweep = none → b.imp.next = none → b.imp.policy = none →
      ∃ c, exec .sweepAccept ⟨b, q⟩ = .next ⟨c, q⟩ ∧ c.imp.host = [] ∧ c.lc = b.lc ∧ c.pwr = b.pwr ∧
        (sweepCode b s ≠ 0 → c.imp.sweep = none ∧ c.imp.result = sweepCode b s ∧ c.imp.seq = b.imp.seq) ∧
        (sweepCode b s = 0 → c.imp.result = 2 ∧ c.imp.seq = (b.imp.seq + 1) % 256 ∧ ∃ w, c.imp.sweep = some w ∧ w.seq = (b.imp.seq + 1) % 256 ∧
          w.policy = false ∧ w.src = getF b (F.IMP_DEF_SRC s) ∧ w.nCyc = getF b (F.IMP_DEF_N_CYC s) ∧ w.point = 0 ∧ w.pass = 0 ∧
          w.freqs = (List.range (getF b (F.IMP_DEF_NPTS s))).map (fun i => (getR b (R.IMP_FREQ s i)).toNat) ∧
          w.cells = (presentCells b).filter (fun n => bitOf (getR b (R.IMP_CELLS s ((n - 1) / 32))).toNat ((n - 1) % 32)) ∧
          w.start = if w.src = 2 ∧ b.imp.go = false then none else some (devF b))) ∧
    (∀ s w, b.imp.sweep = some w → w.policy = false → sweepCode b s = 5) ∧
    (∀ w, framesRun b = true → b.imp.sweep = some w →
      (w.start = none → (w.waitGo = true → b.imp.go = true) → ∃ c w', exec .impPassStart ⟨b, q⟩ = .next ⟨c, q⟩ ∧ c.imp.sweep = some w' ∧
        w'.start = some (devF b) ∧ w'.pass = w.pass ∧ w'.point = w.point ∧ c.imp.go = false ∧ c.lc = b.lc ∧ c.pwr = b.pwr) ∧
      (∀ f, w.start = some f → f + passFrames w ≤ devF b → w.pass + 1 < passCount w → (w.waitGo = true → b.imp.go = true) →
        ∃ c w', exec .impPassStart ⟨b, q⟩ = .next ⟨c, q⟩ ∧
        c.imp.sweep = some w' ∧ w'.start = some (devF b) ∧ w'.pass = w.pass + 1 ∧ w'.point = w.point ∧ c.imp.due = b.imp.due)) ∧
    (∀ d rest refs cells, framesRun b = true → b.imp.sweep = none → b.imp.due = d :: rest →
      ∃ c r, exec (.impPointEnd refs cells) ⟨b, q⟩ = .next ⟨c, q⟩ ∧ c.recs = b.recs ++ [r] ∧ r.typ = 0x04 ∧ r.frame = d.frame ∧ r.node = ownNode b ∧
        r.payload.length = 4 + 3 * d.sweep.cells.length ∧
        (∀ x, x ∈ c.imp.demod ↔ x ∈ b.imp.demod ∧ d.sweep.starts.contains x.start = false) ∧
        c = { b with recs := c.recs, imp := { b.imp with due := rest, demod := c.imp.demod, results := c.imp.results }, sl := { b.sl with cond := c.sl.cond } })

/-- O38. When a second has passed since the last one was counted, no chain tick's work owed and the memory die in reach, HISTOGRAM_SECOND adds one, held at
2^32 - 1, to the bin that each present cell's mean voltage and temperature name, and to no other counter of any cell; LIFE advances by one. The store, the
journal and everything outside the ledger stay. -/
def Obligations.LedgerSecond : Prop :=
  ∀ (b : Block) (q : List Instr), framesRun b = true → memOut b = false → b.fe.jobs = [] → b.led.secFrom + 20000 ≤ devF b →
    ∃ c, exec .histogramSecond ⟨b, q⟩ = .next ⟨c, q⟩ ∧ c = { b with led := c.led } ∧ c.led.store = b.led.store ∧
      c.led.mirror.journal = b.led.mirror.journal ∧ c.led.mirror.life = (b.led.mirror.life + 1) % 2 ^ 32 ∧ c.led.secFrom = devF b - (devF b - b.led.secFrom) % 20000 ∧
      ∀ n bin, 1 ≤ n → n ≤ 192 → bin < 256 →
        mapGet (fun _ => 0) c.led.mirror.hist (256 * (n - 1) + bin) =
          if present b n = true ∧ bin = ledBin b.led.mirror (ledVolt b n) (ledTemp b n)
          then min (2 ^ 32 - 1) (mapGet (fun _ => 0) b.led.mirror.hist (256 * (n - 1) + bin) + 1)
          else mapGet (fun _ => 0) b.led.mirror.hist (256 * (n - 1) + bin)

/-- O39. LED_FLUSH, and LEDGER_PERIODIC_FLUSH 12,000,000 frames after the last flush, begin a flush of the mirror as it stands; a request during a flush
merges into it, and one during a configuration commit waits. LEDGER_FLUSH_DONE makes what was flushed the store's content with the next HSEQ, which the
older header copy takes; where its read-back failed it leaves the header copies, sets FLUSH_FAIL and raises SL_NVSTORE. Either way what waited for the
flush at the store goes on: a firmware update, or a configuration commit, which clears MARKER of the copy it writes; a flush asked for after a firmware
update does not end before it. -/
def Obligations.LedgerFlushes : Prop :=
  ∀ (b : Block) (q : List Instr), memOut b = false →
    (∀ v : Word, ready b = true →
      ∃ c, exec (.ledFlush v) ⟨b, q⟩ = .next ⟨c, q⟩ ∧ c = { b with regs := c.regs, led := c.led } ∧ RegsBut [R.LED_CTL] b c ∧
        getF c F.LED_CTL_SEV_MIN = bitsOf v.toNat 16 2 ∧ c.led.mirror = b.led.mirror ∧ c.led.queue = b.led.queue ∧ c.led.store = b.led.store ∧
        (b.led.flushing = none → b.cfg.captured = none → c.led.flushing = some b.led.mirror) ∧
        (b.led.flushing ≠ none → c.led.flushing = b.led.flushing) ∧
        (b.led.flushing = none → b.cfg.captured ≠ none → c.led.flushing = none ∧ c.led.owed = true)) ∧
    (framesRun b = true → b.led.last + 12000000 ≤ devF b → b.led.flushing = none → b.led.owed = false → b.cfg.captured = none →
      ∃ c, exec .ledgerPeriodicFlush ⟨b, q⟩ = .next ⟨c, q⟩ ∧ c = { b with led := c.led } ∧ c.led.mirror = b.led.mirror ∧
        c.led.flushing = some b.led.mirror ∧ c.led.store = b.led.store ∧ c.led.queue = b.led.queue) ∧
    (∀ a, (∃ j, b.fw.job = some j ∧ j.afterFlush = false) → exec (.ledgerFlushDone a) ⟨b, q⟩ = .next ⟨b, q⟩) ∧
    (∀ img, b.led.flushing = some img → (∀ j, b.fw.job = some j → j.afterFlush = true) →
      (∃ c, exec (.ledgerFlushDone none) ⟨b, q⟩ = .next ⟨c, q⟩ ∧ c = { b with led := c.led, fw := c.fw, cfg := c.cfg } ∧
          c.fw = { b.fw with job := b.fw.job.map fun j => { j with afterFlush := false } } ∧
          (b.cfg.captured = none → c.cfg = b.cfg) ∧
          (b.cfg.captured ≠ none → StoreAfter b → c.cfg = { b.cfg with
            copies := b.cfg.copies.set (1 - getF b F.CFG_STATUS_ACTIVE) { b.cfg.copies.getD (1 - getF b F.CFG_STATUS_ACTIVE) {} with marker := 0 } }) ∧ c.led.flushing = none ∧ c.led.eraseDue = b.led.eraseDue ∧
          c.led.headers = b.led.headers.set (olderHeader b) ((b.led.mirror.hseq + 1) % 2 ^ 32) ∧
          c.led.store = { img with hseq := (b.led.mirror.hseq + 1) % 2 ^ 32 } ∧
          c.led.mirror = { b.led.mirror with hseq := (b.led.mirror.hseq + 1) % 2 ^ 32 } ∧ c.led.last = devF b) ∧
      (∀ a : BitVec 21, ∃ c, exec (.ledgerFlushDone (some a)) ⟨b, q⟩ = .next ⟨c, q⟩ ∧ c.led.flushing = none ∧
          c.led.headers = b.led.headers ∧ c.led.store.hseq = b.led.store.hseq ∧ getF c F.LED_STATUS_FLUSH_FAIL = 1 ∧
          Slot.nvstore ∈ uncleared c ∧ c.lc = b.lc ∧ (b.cfg.captured = none → c.cfg = b.cfg) ∧ c.clock = b.clock))

/-- O40. In FACTORY or SERVICE with CONFIRM 0xA5, LED_ERASE flushes the mirror and leaves the erase due; at the end of the frame in which that flush has
ended (the operation journalTick, with which FRAME_TICK closes a frame's journal) the histograms, LIFE, PARK_LIFE and the journal are zero, the binning is
LED_VBIN's and LED_TBIN's, ERASES is one higher (at 65,535 open, log entry 6) and KIND 0x09 is the journal's first entry, no later one of the frame
waiting. In any other state, or without CONFIRM, it sets ERASE_REFUSED and nothing is due. LED_RD_CTL selects the item its word names and restarts the
read. Where the access path is up, host links take accesses, the memory die is in reach and an item is selected, LED_RD_DATA returns the item's next word
of the mirror and moves on by one. A well-formed LEDGER_READ writes COUNT words of its item to host memory and completes with DONE and COUNT, with
DMA_ERROR where those writes fail, and with BUSY_BIST where the memory die is out of reach. Registers, but for the link state that PCIe traffic ends and
the started count, and everything else stay. -/
def Obligations.LedgerEraseAndReads : Prop :=
  (∀ (b : Block) (q : List Instr), memOut b = false →
    (∀ v : Word, ready b = true →
      (v.toNat / 2 ^ 24 = 0xA5 → b.lc.acting = .factory ∨ b.lc.acting = .service → b.cfg.captured = none →
        ∃ c, exec (.ledErase v) ⟨b, q⟩ = .next ⟨c, q⟩ ∧ c = { b with regs := c.regs, led := c.led } ∧ RegsBut [R.LED_CTL] b c ∧
          c.led.eraseDue = true ∧ c.led.flushing ≠ none ∧ c.led.store = b.led.store ∧ c.led.mirror.hist = b.led.mirror.hist) ∧
      (v.toNat / 2 ^ 24 ≠ 0xA5 ∨ (b.lc.acting ≠ .factory ∧ b.lc.acting ≠ .service) → bitsOf v.toNat 1 1 = 0 →
        ∃ c, exec (.ledErase v) ⟨b, q⟩ = .next ⟨c, q⟩ ∧ c = { b with regs := c.regs } ∧ RegsBut [R.LED_CTL, R.LED_STATUS] b c ∧
          getF c F.LED_STATUS_ERASE_REFUSED = 1)) ∧
    (b.led.flushing = none → b.led.owed = false → b.led.eraseDue = true → (∀ e, e ∈ b.led.queue → e.kind ≤ 9) →
      ∃ c, journalTick b = c ∧ c = { b with led := c.led } ∧ c.led.flushing = none ∧ c.led.eraseDue = false ∧ c.led.queue = [] ∧
        c.led.mirror.hist = [] ∧ c.led.mirror.life = 0 ∧ c.led.mirror.parkLife = 0 ∧
        c.led.mirror.vLo = getF b F.LED_VBIN_V_LO ∧ c.led.mirror.vStep = getF b F.LED_VBIN_V_STEP ∧
        c.led.mirror.tLo = getF b F.LED_TBIN_T_LO ∧ c.led.mirror.tStep = getF b F.LED_TBIN_T_STEP ∧
        (b.led.mirror.erases ≠ 65535 → c.led.mirror.erases = b.led.mirror.erases + 1) ∧
        ∃ s, c.led.mirror.journal = [(8, [s, 0, 0x09000000, w32 c.led.mirror.erases])])) ∧
  (∀ (b : Block) (q : List Instr),
    (∀ v : Word, ready b = true →
      ∃ c, exec (.ledRdCtl v) ⟨b, q⟩ = .next ⟨c, q⟩ ∧ c = { b with regs := c.regs, led := { b.led with rdPos := 0 } } ∧
        RegsBut [R.LED_RD_CTL] b c ∧ getF c F.LED_RD_CTL_REGION = bitsOf v.toNat 30 2 ∧ getF c F.LED_RD_CTL_INDEX = bitsOf v.toNat 0 16) ∧
    (∀ p : Path, p ≠ .pcieB → p ≠ .pcieWide → ready b = true → pathUp p b = true → framesRun b = true → memOut b = false →
      ledItem (getF b F.LED_RD_CTL_REGION) (getF b F.LED_RD_CTL_INDEX) = true →
      ∃ c, exec (.ledRdData p) ⟨b, q⟩ = .next ⟨c, q⟩ ∧ c = { b with regs := c.regs, led := c.led, out := c.out } ∧
        RegsBut [R.HST_LINK] b c ∧ c.led = { b.led with rdPos := b.led.rdPos + 1 } ∧
        c.out = b.out ++ [.read p R.LED_RD_DATA
          (ledWord b.led.mirror (getF b F.LED_RD_CTL_REGION) (getF b F.LED_RD_CTL_INDEX) b.led.rdPos)]) ∧
    (∀ (r : Fin 16) (d : Desc), canStart b r.val = true → d.resvd = 0 → d.addr.toNat % 4 = 0 → 1 ≤ d.p1.toNat → d.p1.toNat ≤ 65536 →
      d.p2 = 0 → d.p3 = 0 → d.p4 = 0 → bitsOf d.p0.toNat 16 14 = 0 → ledItem (d.p0.toNat / 2 ^ 30) (d.p0.toNat % 2 ^ 16) = true →
      (d.p0.toNat / 2 ^ 30 = 0 → d.p0.toNat % 2 ^ 16 = 0) →
      ∃ c, exec (.ledgerRead r d) ⟨b, q⟩ = .next ⟨c, q⟩ ∧ c = { b with regs := c.regs, hst := c.hst, out := c.out } ∧ RegsBut [R.HST_SQ_STATUS r.val] b c ∧
        (memOut b = true → CmdCompletes r.val 0x09 d 0 St.busyBist 0 0 b c ∧ c.out = b.out) ∧
        (memOut b = false → d.wfail = true → CmdCompletes r.val 0x09 d 0 St.dmaError 0 0 b c ∧ c.out = b.out) ∧
        (memOut b = false → d.wfail = false → CmdCompletes r.val 0x09 d 0 St.done d.p1.toNat 0 b c ∧
          c.out = b.out ++ [.dma d.addr.toNat ((List.range d.p1.toNat).map
            (ledWord b.led.mirror (d.p0.toNat / 2 ^ 30) (d.p0.toNat % 2 ^ 16)))])))

/-- O41. At CAP_RING_ENABLE, for each ring r: with EN = 0 it is disabled. A ring with EN = 1 that is idle, or whose CAP_GEOM was written while EN was 0, is
enabled where its area ends within unit 1,023 and overlaps no other ring that is enabled or to be enabled: it starts at the present frame in state ARMED
with CAP_WR, CAP_OLDEST and CAP_DROP at 0. One whose area extends beyond unit 1,023, or overlaps that of a ring enabled before it (of rings enabled at one
tick, the lower numbers come first: DESIGN CHOICE, log entry 19), is disabled with CFG_BAD. One refused stays as it is until EN is written 0 (DEDUCED, log
entry 19). An enabled ring in DONE for which ARM was written returns to ARMED with EXTRA and the causes cleared and its positions kept. Where host links
take accesses, CAP_MARK_WRITE with a multiple of 4 that lies in the valid span (its end included: DEDUCED, log entry 19) stores the mark and sets
MARK_VALID; any other value is ignored and sets MARK_REJ. Where the mark gives the ring room for the record that stalled last (which record R443 leaves
open: DESIGN CHOICE, log entry 19) a stall ends, and its condition with it; else it stands. Nothing else changes. -/
def Obligations.CaptureRings : Prop :=
  (∀ (b : Block) (q : List Instr), framesRun b = true →
    ∃ c, exec .capRingEnable ⟨b, q⟩ = .next ⟨c, q⟩ ∧ c.lc = b.lc ∧ c.cfg = b.cfg ∧ c.clock = b.clock ∧ c.pwr = b.pwr ∧ c.out = b.out ∧
      ∀ r : Fin 8,
        (getF b (F.CAP_CTL_EN r.val) = 0 → (ringOf c r.val).en = false) ∧
        (getF b (F.CAP_CTL_EN r.val) = 1 →
          ((ringOf b r.val).en = false ∧ (ringOf b r.val).refused = false) ∨ ((ringOf b r.val).en = true ∧ (ringOf b r.val).moved = true) →
          (getF b (F.CAP_GEOM_BASE r.val) + capUnits b r.val ≤ 1024 →
            (∀ o : Fin 8, o ≠ r →
              (getF b (F.CAP_CTL_EN o.val) = 1 → getF b (F.CAP_GEOM_BASE r.val) + capUnits b r.val ≤ getF b (F.CAP_GEOM_BASE o.val) ∨
                getF b (F.CAP_GEOM_BASE o.val) + capUnits b o.val ≤ getF b (F.CAP_GEOM_BASE r.val)) ∧
              ((ringOf b o.val).en = true → getF b (F.CAP_GEOM_BASE r.val) + capUnits b r.val ≤ (ringOf b o.val).base ∨
                (ringOf b o.val).base + (ringOf b o.val).units ≤ getF b (F.CAP_GEOM_BASE r.val))) →
            (ringOf c r.val).en = true ∧ (ringOf c r.val).from_ = devF b ∧ (ringOf c r.val).base = getF b (F.CAP_GEOM_BASE r.val) ∧
              (ringOf c r.val).units = capUnits b r.val ∧ capState c r.val = 1 ∧
              getR c (R.CAP_WR r.val) = 0 ∧ getR c (R.CAP_OLDEST r.val) = 0 ∧ getR c (R.CAP_DROP r.val) = 0) ∧
          (1024 < getF b (F.CAP_GEOM_BASE r.val) + capUnits b r.val →
            (ringOf c r.val).en = false ∧ getF c (F.CAP_RSTAT_CFG_BAD r.val) = 1) ∧
          (∀ o : Fin 8, o ≠ r → (ringOf c o.val).en = true → o.val < r.val ∨ ((ringOf b o.val).en = true ∧ (ringOf b o.val).moved = false) →
            getF b (F.CAP_GEOM_BASE r.val) < (ringOf c o.val).base + (ringOf c o.val).units →
            (ringOf c o.val).base < getF b (F.CAP_GEOM_BASE r.val) + capUnits b r.val →
            (ringOf c r.val).en = false ∧ getF c (F.CAP_RSTAT_CFG_BAD r.val) = 1)) ∧
        (getF b (F.CAP_CTL_EN r.val) = 1 → (ringOf b r.val).en = false → (ringOf b r.val).refused = true → ringOf c r.val = ringOf b r.val) ∧
        (getF b (F.CAP_CTL_EN r.val) = 1 → (ringOf b r.val).en = true → (ringOf b r.val).moved = false → (ringOf b r.val).armReq = true →
          capState b r.val = 3 →
          capState c r.val = 1 ∧ getF c (F.CAP_RSTAT_EXTRA r.val) = 0 ∧ getF c (F.CAP_RSTAT_CAUSE_HOST r.val) = 0 ∧
            getF c (F.CAP_RSTAT_CAUSE_SL r.val) = 0 ∧ getF c (F.CAP_RSTAT_TSLOT r.val) = 0 ∧ getR c (R.CAP_WR r.val) = getR b (R.CAP_WR r.val) ∧
            getR c (R.CAP_OLDEST r.val) = getR b (R.CAP_OLDEST r.val) ∧ (ringOf c r.val).recs = (ringOf b r.val).recs)) ∧
  (∀ (r : Fin 8) (v : Word) (b : Block) (q : List Instr), ready b = true →
    (v.toNat % 4 = 0 → capAhead b r.val v.toNat ≤ capSpan b r.val →
      ∃ c, exec (.capMarkWrite r v) ⟨b, q⟩ = .next ⟨c, q⟩ ∧ c = { b with regs := c.regs, sl := { b.sl with cond := c.sl.cond } } ∧
        getR c (R.CAP_MARK r.val) = v ∧ getF c (F.CAP_RSTAT_MARK_VALID r.val) = 1 ∧
        RegsBut [R.CAP_MARK r.val, R.CAP_RSTAT r.val] b c ∧ capState c r.val = capState b r.val ∧
        (((getR b (R.CAP_WR r.val)).toNat + 4 * (ringOf b r.val).need + 2 ^ 32 - v.toNat) % 2 ^ 32 ≤ ringSize (ringOf b r.val) →
          getF c (F.CAP_RSTAT_STALL r.val) = 0 ∧
          (getF b (F.CAP_RSTAT_STALL r.val) = 1 → bitOf (condOf c Slot.capStall).levelDet r.val = false)) ∧
        (ringSize (ringOf b r.val) < ((getR b (R.CAP_WR r.val)).toNat + 4 * (ringOf b r.val).need + 2 ^ 32 - v.toNat) % 2 ^ 32 →
          getF c (F.CAP_RSTAT_STALL r.val) = getF b (F.CAP_RSTAT_STALL r.val) ∧ c.sl = b.sl)) ∧
    (v.toNat % 4 ≠ 0 ∨ capSpan b r.val < capAhead b r.val v.toNat →
      exec (.capMarkWrite r v) ⟨b, q⟩ = .next ⟨setF (F.CAP_RSTAT_MARK_REJ r.val) 1 b, q⟩))

/-- O42. Where host links take accesses, a CAP_TRIG that leaves MODE = 1 on a ring in state ARMED takes the present frame as trigger frame and the ring to
POST with CAUSE_HOST; in POST of an earlier trigger frame or in DONE it only counts in EXTRA (held at its largest value); on a disabled ring, or leaving
MODE = 0, it does neither. CAP_ARM in DONE leaves the re-arm for the tick; in any other state it leaves none. CAP_CTL takes the stored fields of the word
either way. At CAPTURE_DONE a ring in POST whose frame T + POST + 2 is reached, and whose RAW records up to T + POST are placed, enters DONE and raises
CAP_DONE; CAP_PRE_POS holds the position of its oldest record of frame T − PRE or later, and PRE_SHORT tells that this record's frame is later, or that T −
PRE lies before the enable's. Every other ring's state stays. -/
def Obligations.CaptureTriggerToEnd : Prop :=
  (∀ (r : Fin 8) (v : Word) (b : Block) (q : List Instr), ready b = true →
    (bitsOf v.toNat 27 1 = 0 →
      ∃ c, exec (.capTrig r v) ⟨b, q⟩ = .next ⟨c, q⟩ ∧ c = { b with regs := c.regs, cap := c.cap } ∧
        getF c (F.CAP_CTL_EN r.val) = bitsOf v.toNat 31 1 ∧ getF c (F.CAP_CTL_MODE r.val) = bitsOf v.toNat 30 1 ∧
        (bitsOf v.toNat 30 1 = 1 → capState b r.val = 1 →
          capState c r.val = 2 ∧ getR c (R.CAP_TRIG_FRAME r.val) = w32 (frame b) ∧ (ringOf c r.val).trig = some (devF b) ∧
            getF c (F.CAP_RSTAT_CAUSE_HOST r.val) = 1) ∧
        (bitsOf v.toNat 30 1 = 1 → capState b r.val = 3 ∨ (capState b r.val = 2 ∧ (ringOf b r.val).trig ≠ some (devF b)) →
          capState c r.val = capState b r.val ∧ c.cap = b.cap ∧
            getF c (F.CAP_RSTAT_EXTRA r.val) = min (getF b (F.CAP_RSTAT_EXTRA r.val) + 1) 255) ∧
        (bitsOf v.toNat 30 1 = 0 ∨ capState b r.val = 0 → c.cap = b.cap ∧ RegsBut [R.CAP_CTL r.val] b c)) ∧
    (bitsOf v.toNat 26 1 = 0 →
      ∃ c, exec (.capArm r v) ⟨b, q⟩ = .next ⟨c, q⟩ ∧ c = { b with regs := c.regs, cap := c.cap } ∧ RegsBut [R.CAP_CTL r.val] b c ∧
        getF c (F.CAP_CTL_EN r.val) = bitsOf v.toNat 31 1 ∧
        (capState b r.val = 3 → ringOf c r.val = { ringOf b r.val with armReq := true }) ∧
        (capState b r.val ≠ 3 → c.cap = b.cap) ∧ ∀ o : Fin 8, o ≠ r → ringOf c o.val = ringOf b o.val)) ∧
  (∀ (b : Block) (q : List Instr), framesRun b = true →
    ∃ c, exec .captureDone ⟨b, q⟩ = .next ⟨c, q⟩ ∧ c = { b with regs := c.regs, sl := { b.sl with cond := c.sl.cond } } ∧
      ∀ r : Fin 8,
        (∀ T, capState b r.val = 2 → (ringOf b r.val).trig = some T → T + getF b (F.CAP_WIN_POST r.val) + 2 ≤ devF b →
          (∀ x ∈ b.fe.rawQueue, T + getF b (F.CAP_WIN_POST r.val) < x.dev) →
          capState c r.val = 3 ∧ (condOf c Slot.capDone).pulse = true ∧ bitOf (condOf c Slot.capDone).pulseDet r.val = true ∧
          ∀ x, (ringOf b r.val).recs.find? (fun y => decide (T ≤ y.frame + getF b (F.CAP_WIN_PRE r.val))) = some x →
            getR c (R.CAP_PRE_POS r.val) = w32 x.pos ∧
            (getF c (F.CAP_RSTAT_PRE_SHORT r.val) = 1 ↔ T < x.frame + getF b (F.CAP_WIN_PRE r.val) ∨ T < (ringOf b r.val).from_ + getF b (F.CAP_WIN_PRE r.val))) ∧
        (∀ T, capState b r.val ≠ 2 ∨ ((ringOf b r.val).trig = some T ∧ (devF b < T + getF b (F.CAP_WIN_POST r.val) + 2 ∨
            ∃ x ∈ b.fe.rawQueue, x.dev ≤ T + getF b (F.CAP_WIN_POST r.val))) →
          capState c r.val = capState b r.val))

/-- O43. Where the access path is up and registers are readable, CAP_RD_DATA returns the word at CAP_RD_POS of the selected ring, where its valid span
holds it, and adds 4 to CAP_RD_POS; a position outside the valid span reads 0, adds 4 all the same, and sets LOST. No other register changes (but for the
link state that PCIe traffic ends) and nothing else does. -/
def Obligations.CaptureRegisterReads : Prop :=
  ∀ (p : Path) (b : Block) (q : List Instr), p ≠ .pcieB → p ≠ .pcieWide → ready b = true → pathUp p b = true →
    ∃ c, exec (.capRdData p) ⟨b, q⟩ = .next ⟨c, q⟩ ∧ c = { b with regs := c.regs, out := c.out } ∧
      RegsBut [R.HST_LINK, R.CAP_RD_POS, R.CAP_RD_CTL] b c ∧ getR c R.CAP_RD_POS = getR b R.CAP_RD_POS + 4 ∧
      getF c F.CAP_RD_CTL_RING = getF b F.CAP_RD_CTL_RING ∧
      (∀ w, capWord b (getF b F.CAP_RD_CTL_RING) (getR b R.CAP_RD_POS).toNat = some w →
        c.out = b.out ++ [.read p R.CAP_RD_DATA w] ∧ getF c F.CAP_RD_CTL_LOST = getF b F.CAP_RD_CTL_LOST) ∧
      (capSpan b (getF b F.CAP_RD_CTL_RING) ≤ capAhead b (getF b F.CAP_RD_CTL_RING) (getR b R.CAP_RD_POS).toNat →
        c.out = b.out ++ [.read p R.CAP_RD_DATA 0] ∧ getF c F.CAP_RD_CTL_LOST = 1)

/-- O44. A well-formed CAP_PULL whose range lies in the ring's valid span copies it, at the pace given in bytes a frame or at once (the rate is the spec's
bound alone: DESIGN CHOICE, log entry 19): it writes the range's words to host memory and completes with DONE and its length, or writes the first frame's
and waits; where those writes fail it ends with DMA_ERROR. Over an empty span it completes FAILED with detail 3, past the span's end FAILED with detail 1,
with the memory die out of reach BUSY_BIST, with nothing written. A copy that goes on (the operation pullOn, with which FRAME_TICK goes on with every copy)
ends FAILED with detail 2 and the bytes copied where the valid span no longer holds what is left, and else writes the next words. Nothing but the rings'
bookkeeping and the output changes. -/
def Obligations.CapturePull : Prop :=
  (∀ (r : Fin 16) (d : Desc) (pace : Option (BitVec 27)) (b : Block) (q : List Instr), canStart b r.val = true → d.resvd = 0 →
    d.p0.toNat ≤ 7 → d.addr.toNat % 4 = 0 → d.p3 = 0 → d.p4 = 0 → d.p1.toNat % 4 = 0 → d.p2.toNat % 4 = 0 → 4 ≤ d.p2.toNat →
    d.p2.toNat ≤ capSize b d.p0.toNat →
    ∃ c, exec (.capPull r d pace) ⟨b, q⟩ = .next ⟨c, q⟩ ∧ c = { b with regs := c.regs, hst := c.hst, out := c.out } ∧
      RegsBut [R.HST_SQ_STATUS r.val] b c ∧
      (memOut b = true → CmdCompletes r.val 0x05 d 0 St.busyBist 0 0 b c ∧ c.out = b.out) ∧
      (memOut b = false → capSpan b d.p0.toNat = 0 → CmdCompletes r.val 0x05 d 3 St.failed 0 0 b c ∧ c.out = b.out) ∧
      (memOut b = false → capSpan b d.p0.toNat ≠ 0 → capSpan b d.p0.toNat < capAhead b d.p0.toNat d.p1.toNat + d.p2.toNat →
        CmdCompletes r.val 0x05 d 1 St.failed 0 0 b c ∧ c.out = b.out) ∧
      (memOut b = false → capSpan b d.p0.toNat ≠ 0 → capAhead b d.p0.toNat d.p1.toNat + d.p2.toNat ≤ capSpan b d.p0.toNat →
        (pace = none ∨ (∃ n, pace = some n ∧ (n.toNat < 4 ∨ d.p2.toNat ≤ n.toNat)) →
          (d.wfail = false → CmdCompletes r.val 0x05 d 0 St.done d.p2.toNat 0 b c ∧
            c.out = b.out ++ [.dma d.addr.toNat (capBytes b d.p0.toNat d.p1.toNat d.p2.toNat)]) ∧
          (d.wfail = true → CmdCompletes r.val 0x05 d 0 St.dmaError 0 0 b c ∧ c.out = b.out)) ∧
        (∀ n, pace = some n → 4 ≤ n.toNat → n.toNat < d.p2.toNat →
          CmdWaits r.val 0x05 d (.capPull d.p0.toNat d.p1.toNat d.p2.toNat d.addr.toNat (n.toNat / 4 * 4) (n.toNat / 4 * 4) d.wfail) b c ∧
          (d.wfail = false → c.out = b.out ++ [.dma d.addr.toNat (capBytes b d.p0.toNat d.p1.toNat (n.toNat / 4 * 4))])))) ∧
  ∀ (b : Block) (r : Fin 16) (ring start len addr copied pace tag : Nat), copied < len → pace ≠ 0 →
    (sqOf b r.val).running = some ⟨0x05, tag, .capPull ring start len addr copied pace false⟩ → (cqOf b (cqNo b r.val)).en = true →
    ∃ c, pullOn r.val ring start len addr copied pace false b = c ∧ c = { b with hst := c.hst, out := c.out } ∧
      (capSpan b ring < capAhead b ring (start + copied) + (len - copied) → c.out = b.out ∧ cqOf c (cqNo b r.val) = { cqOf b (cqNo b r.val) with
        waiting := (cqOf b (cqNo b r.val)).waiting ++ [⟨0x05, r.val, tag, 2, St.failed, copied % 2 ^ 32, 0⟩] }) ∧
      (capAhead b ring (start + copied) + (len - copied) ≤ capSpan b ring →
        (len - copied ≤ pace → c.out = b.out ++ [.dma (addr + copied) (capBytes b ring (start + copied) (len - copied))] ∧
          cqOf c (cqNo b r.val) = { cqOf b (cqNo b r.val) with
            waiting := (cqOf b (cqNo b r.val)).waiting ++ [⟨0x05, r.val, tag, 0, St.done, len % 2 ^ 32, 0⟩] }) ∧
        (pace < len - copied → c.out = b.out ++ [.dma (addr + copied) (capBytes b ring (start + copied) pace)] ∧
          (sqOf c r.val).running = some ⟨0x05, tag, .capPull ring start len addr (copied + pace) pace false⟩))

/-- O45. Where host links take accesses, CNT_MODE_WRITE stores MODE, FREEZE, EVENT, QTYPE and QVAL of its word in CNT_CFG[i], leaves FROZEN, and marks the
counter to be cleared at the tick where CLEAR is 1 or EVENT, QTYPE or QVAL changes; CNT_CLEAR always marks it. CNT_UNFREEZE leaves the release of every
frozen counter for the tick. No count changes at the write. -/
def Obligations.CounterSettings : Prop :=
  ∀ (b : Block) (q : List Instr), ready b = true →
    (∀ (i : Fin 32) (v : Word),
      (∃ c, exec (.cntModeWrite i v) ⟨b, q⟩ = .next ⟨c, q⟩ ∧ c = { b with regs := c.regs, cap := { b.cap with cntClr := c.cap.cntClr } } ∧
        RegsBut [R.CNT_CFG i.val] b c ∧ getF c (F.CNT_CFG_MODE i.val) = bitsOf v.toNat 31 1 ∧
        getF c (F.CNT_CFG_FREEZE i.val) = bitsOf v.toNat 30 1 ∧ getF c (F.CNT_CFG_FROZEN i.val) = getF b (F.CNT_CFG_FROZEN i.val) ∧
        getF c (F.CNT_CFG_EVENT i.val) = bitsOf v.toNat 0 8 ∧ getF c (F.CNT_CFG_QTYPE i.val) = bitsOf v.toNat 24 2 ∧
        getF c (F.CNT_CFG_QVAL i.val) = bitsOf v.toNat 16 8 ∧
        (bitsOf v.toNat 29 1 = 1 ∨ getF b (F.CNT_CFG_EVENT i.val) ≠ bitsOf v.toNat 0 8 ∨
            getF b (F.CNT_CFG_QTYPE i.val) ≠ bitsOf v.toNat 24 2 ∨ getF b (F.CNT_CFG_QVAL i.val) ≠ bitsOf v.toNat 16 8 →
          i.val ∈ c.cap.cntClr) ∧
        (bitsOf v.toNat 29 1 = 0 → getF b (F.CNT_CFG_EVENT i.val) = bitsOf v.toNat 0 8 →
          getF b (F.CNT_CFG_QTYPE i.val) = bitsOf v.toNat 24 2 → getF b (F.CNT_CFG_QVAL i.val) = bitsOf v.toNat 16 8 →
          c.cap.cntClr = b.cap.cntClr)) ∧
      (∃ c, exec (.cntClear i v) ⟨b, q⟩ = .next ⟨c, q⟩ ∧ c = { b with regs := c.regs, cap := { b.cap with cntClr := c.cap.cntClr } } ∧
        RegsBut [R.CNT_CFG i.val] b c ∧ getF c (F.CNT_CFG_MODE i.val) = bitsOf v.toNat 31 1 ∧ i.val ∈ c.cap.cntClr)) ∧
    (∀ v : Word, exec (.cntUnfreeze v) ⟨b, q⟩ = .next ⟨{ b with cap := { b.cap with unfreeze := true } }, q⟩)

/-- O46. HOP_BREAK declares an unbroken hop broken in both directions, in BW_LAST_BREAK, the counts and BW_BREAK, and takes back a COLLECT overrun of the
same frame; a broken hop loses its lock. HOP_RESTORE at a chain tick ends the break of a hop that has trained in both directions and whose error-free
frames are complete, and only then. BW_REENUM whose foot token reaches the head numbers the sixteen tiers and leaves them to be aligned; where it stops,
the enumeration ends 21 frames later (DEDUCED, log entry 18), no tier available till then, and leaves the same of the tiers its tokens numbered (enumEnd,
with which a FRAME_TICK ends it). BW_CLR_CNT clears the counters. A tier that misses a control block keeps its gates of before and is noted where settings
were due; one that receives a block drops the acknowledged blocks it kept, and settles again where it was noted. A tier without markers for four frames is
LOST with its FETs off and its timers cleared. TIER_SUPPLY_LOSS of a supplied tier ends its bleeding, timers and targets included, abandons its string's
work for a walk, and where frames run breaks the hops on both sides of it and makes the last frame NODATA. TIER_SUPPLY_RETURN ends the loss and leaves the
tier to be walked and aligned, unavailable until then. Repeated, each changes nothing. -/
def Obligations.TierRingAndSupplies : Prop :=
  (∀ (b : Block) (q : List Instr),
    (∀ (h : HopNo) (up : Bool) (errs : BitVec 16), framesRun b = true →
      (hopBroken b h.val = false → ∃ c, exec (.hopBreak h up errs) ⟨b, q⟩ = .next ⟨c, q⟩ ∧ hopOf c h.val = { upBroken := true, downBroken := true, since := devF b } ∧
        (∀ k, k ≠ h.val → hopOf c k = hopOf b k) ∧ getR c R.BW_LAST_BREAK = w32 (frame b) ∧
        getF c F.BW_EVT_CNT_BREAKS = min (getF b F.BW_EVT_CNT_BREAKS + 1) 65535 ∧ c.bw.breakFrame = some (devF b) ∧
        (condOf c Slot.bwBreak).level = true ∧ c.lc = b.lc ∧ c.pwr = b.pwr ∧ c.bal = b.bal ∧ c.clock.ticks = b.clock.ticks ∧
        (∀ new, b.fe.missOvr = some (devF b, new) → c.fe.missOvr = none ∧ (new = true → bitOf (getR c R.GEN_OVR_STATUS).toNat 0 = false))) ∧
      (hopBroken b h.val = true → exec (.hopBreak h up errs) ⟨b, q⟩ = .next ⟨putHop h.val { hopOf b h.val with upLock := false, downLock := false } b, q⟩)) ∧
    (∀ (h : HopNo) (ids : List Word), (framesRun b = true → frame b % 20 = 0 → hopBroken b h.val = true → h.val ∉ b.pwr.supplyLost →
        (∀ t, t ∈ b.pwr.supplyLost → t + 1 ≠ h.val) → (hopOf b h.val).upLock = true → (hopOf b h.val).downLock = true →
        (hopOf b h.val).since + max 100 (getF b F.BW_CTL_RESTORE) ≤ devF b →
        ∃ c, exec (.hopRestore ⟨h, ids⟩) ⟨b, q⟩ = .next ⟨c, q⟩ ∧ hopBroken c h.val = false ∧ (∀ k, k ≠ h.val → hopOf c k = hopOf b k) ∧
          c.lc = b.lc ∧ c.pwr = b.pwr ∧ c.clock = b.clock) ∧
      (frame b % 20 ≠ 0 ∨ hopBroken b h.val = false ∨ (hopOf b h.val).upLock = false ∨ (hopOf b h.val).downLock = false ∨ devF b < (hopOf b h.val).since + max 100 (getF b F.BW_CTL_RESTORE) ∨ h.val ∈ b.pwr.supplyLost →
        exec (.hopRestore ⟨h, ids⟩) ⟨b, q⟩ = .next ⟨b, q⟩)) ∧
    (∀ (v : Word) (e : EnumResult), ready b = true → e.foot.val + e.head.val ≤ 16 →
      (e.foot.val = 16 → ∃ c, exec (.bwReenum v e) ⟨b, q⟩ = .next ⟨c, q⟩ ∧ EnumDone e b c) ∧
      (e.foot.val ≠ 16 → ∃ c, exec (.bwReenum v e) ⟨b, q⟩ = .next ⟨c, q⟩ ∧
        c = { b with regs := c.regs, bw := { b.bw with enumRun := some (devF b + 21, e) }, fe := { b.fe with align := [] } } ∧
        ∀ t : Tier, tierAvail c t.val = false) ∧
      EnumDone e b (enumEnd e b)) ∧
    (∀ v : Word, ready b = true → bitOf v.toNat 0 = false → ∃ c, exec (.bwClrCnt v) ⟨b, q⟩ = .next ⟨c, q⟩ ∧ c = { b with regs := c.regs } ∧
      getR c R.BW_EVT_CNT = 0 ∧ (∀ h : HopNo, getR c (R.BW_HOP_ERR h.val) = 0 ∧ getR c (R.BW_HOP_CRC h.val) = 0) ∧
      ∀ a, a ≠ R.BW_CTL → a ≠ R.BW_EVT_CNT → (∀ h : HopNo, a ≠ R.BW_HOP_ERR h.val ∧ a ≠ R.BW_HOP_CRC h.val) → getR c a = getR b a) ∧
    (∀ t : Tier, framesRun b = true → tierAvail b t.val = true →
      (∃ c, exec (.controlBlock t true) ⟨b, q⟩ = .next ⟨c, q⟩ ∧ c = { b with fe := { b.fe with ctlMiss := if b.fe.settingAt = some (devF b) then addOnce t.val b.fe.ctlMiss else b.fe.ctlMiss }, bal := { b.bal with cells := c.bal.cells } } ∧
        (∀ n g, tierOf n = t.val → (∃ x, (n, x) ∈ b.bal.prior) → (∀ x, (n, x) ∈ b.bal.prior → x.cmdOn = g) → (balOf c n).cmdOn = g) ∧
        ∀ n, tierOf n ≠ t.val ∨ (∀ x, (n, x) ∉ b.bal.prior) → balOf c n = balOf b n) ∧
      (∃ c, exec (.controlBlock t false) ⟨b, q⟩ = .next ⟨c, q⟩ ∧ ∀ x, x ∈ sramOf c t.val ↔ x ∈ sramOf b t.val ∧ x.whole = false) ∧
      (t.val ∈ b.fe.ctlMiss → ∃ c, exec (.controlBlock t false) ⟨b, q⟩ = .next ⟨c, q⟩ ∧ c = { b with fe := { b.fe with
          ctlMiss := b.fe.ctlMiss.filter (· != t.val), setl := c.fe.setl, sram := c.fe.sram } } ∧
        ∀ ch e, 12 * t.val ≤ ch → ch < 12 * t.val + 12 → nowNs b < e → e < nowNs b + settleUp b b.act → setlCovers c ch e = true) ∧
      (t.val ∉ b.fe.ctlMiss → ∃ c, exec (.controlBlock t false) ⟨b, q⟩ = .next ⟨c, q⟩ ∧ c = { b with fe := { b.fe with sram := c.fe.sram } })) ∧
    (∀ (t : Tier) (d : Nat), framesRun b = true → b.bw.unreach.find? (·.1 == t.val) = some (t.val, d) →
      (d + 4 ≤ devF b → t.val ∉ b.bal.lost → t.val ∉ b.pwr.supplyLost →
        ∃ c, exec (.tierMarkerLoss t) ⟨b, q⟩ = .next ⟨c, q⟩ ∧ t.val ∈ c.bal.lost ∧ c = { b with bal := { b.bal with
            cells := c.bal.cells, dirty := c.bal.dirty, lost := c.bal.lost } } ∧
          (∀ n, (tierCells t.val).contains n → (balOf c n).timer = 0 ∧ (balOf c n).target = none ∧ (balOf c n).cmdOn = false) ∧
          ∀ n, ¬ (tierCells t.val).contains n → balOf c n = balOf b n) ∧
      (devF b < d + 4 → exec (.tierMarkerLoss t) ⟨b, q⟩ = .next ⟨b, q⟩))) ∧
  (∀ (t : Tier) (b : Block) (q : List Instr),
    (t.val ∉ b.pwr.supplyLost → ∃ c, exec (.tierSupplyLoss t) ⟨b, q⟩ = .next ⟨c, q⟩ ∧
      c.pwr = { b.pwr with supplyLost := addOnce t.val b.pwr.supplyLost } ∧ tierAvail c t.val = false ∧
      (∀ n, (tierCells t.val).contains n → (balOf c n).timer = 0 ∧ (balOf c n).target = none ∧ (balOf c n).cmdOn = false) ∧
      (∀ n, ¬ (tierCells t.val).contains n → balOf c n = balOf b n) ∧ (stringOf c t.val).due = [] ∧ (stringOf c t.val).walkDue = true ∧
      (framesRun b = true → b.fe.started = true → hopBroken c t.val = true ∧ hopBroken c (t.val + 1) = true ∧ devF b ≤ missEnd c t.val) ∧
      c.lc = b.lc ∧ c.cfg = b.cfg ∧ c.clock.ticks = b.clock.ticks) ∧
    (t.val ∈ b.pwr.supplyLost → exec (.tierSupplyLoss t) ⟨b, q⟩ = .next ⟨b, q⟩) ∧
    (t.val ∈ b.pwr.supplyLost → ∃ c, exec (.tierSupplyReturn t) ⟨b, q⟩ = .next ⟨c, q⟩ ∧ t.val ∉ c.pwr.supplyLost ∧
      c = { b with pwr := { b.pwr with supplyLost := b.pwr.supplyLost.filter (· != t.val) }, rl := c.rl, fe := { b.fe with align := c.fe.align } } ∧
      stringOf c t.val = { stringOf b t.val with walkDue := true } ∧ (∀ u, u ≠ t.val → stringOf c u = stringOf b u) ∧
      (framesRun b = true → b.fe.started = true → (⟨[t.val], none, false⟩ : AlignSeq) ∈ c.fe.align ∧ tierAvail c t.val = false)) ∧
    (t.val ∉ b.pwr.supplyLost → exec (.tierSupplyReturn t) ⟨b, q⟩ = .next ⟨b, q⟩))

/-- O47. RL_WALK leaves a walk due on every string, RL_LEARN copies every COUNT into EXPECT. REEDLINE_CYCLE at a chain tick, once: a string that runs makes
the walk it owes at once, and at a cycle boundary its walk or its cycle, or skips it while busy; a string that does not run stays. A short stops its
string, what it had to deliver kept, until RL_SHORT_RECOVERY, which leaves a walk due. RL_TAG_SEL shows the selected tag. -/
def Obligations.SensorStrings : Prop :=
  ∀ (b : Block) (q : List Instr),
    (∀ v : Word, ready b = true →
      (∃ c, exec (.rlWalk v) ⟨b, q⟩ = .next ⟨c, q⟩ ∧ (∀ t : Tier, stringOf c t.val = { stringOf b t.val with walkDue := true }) ∧
        c = { b with regs := c.regs, rl := { b.rl with strings := c.rl.strings }, sl := { b.sl with cond := c.sl.cond } } ∧
        (bitOf v.toNat 3 = false → RegsBut [R.RL_CTL] b c)) ∧
      (∃ c, exec (.rlLearn v) ⟨b, q⟩ = .next ⟨c, q⟩ ∧ (∀ t : Tier, getF c (F.RL_TOPO_EXPECT t.val) = getF b (F.RL_TIER_STATUS_COUNT t.val)) ∧
        c = { b with regs := c.regs, rl := { b.rl with strings := c.rl.strings }, sl := { b.sl with cond := c.sl.cond } } ∧
        (bitOf v.toNat 2 = false → c.rl.strings = b.rl.strings) ∧
        ∀ a, a ≠ R.RL_CTL → (∀ t : Tier, a ≠ R.RL_TOPO t.val) → getR c a = getR b a) ∧
      ∃ c, exec (.rlTagSel v) ⟨b, q⟩ = .next ⟨c, q⟩ ∧ c = { b with regs := c.regs } ∧
        RegsBut [R.RL_TAG_SEL, R.RL_TAG_ID_LO, R.RL_TAG_ID_HI, R.RL_TAG_DATA] b c ∧ getF c F.RL_TAG_SEL_TIER = bitsOf v.toNat 8 4 ∧
        getF c F.RL_TAG_SEL_POS_M1 = bitsOf v.toNat 0 5 ∧ (let g := tagOf b (bitsOf v.toNat 8 4) (bitsOf v.toNat 0 5 + 1)
          getR c R.RL_TAG_ID_LO = w32 g.serial ∧ getF c ⟨R.RL_TAG_DATA, 0, 1⟩ = nat01 g.valid ∧ (g.cnt.getD 0 < 256 → getF c ⟨R.RL_TAG_DATA, 16, 16⟩ = g.temp % 65536))) ∧
    (∀ xs, framesRun b = true → frame b % 20 = 0 → b.rl.ran ≠ some (devF b) → ∃ c, exec (.reedlineCycle xs) ⟨b, q⟩ = .next ⟨c, q⟩ ∧
      c = { b with regs := c.regs, rl := { b.rl with strings := c.rl.strings, ran := some (devF b) }, out := c.out } ∧ ∀ t : Tier,
        (stringOn b t.val = false → stringOf c t.val = stringOf b t.val) ∧
        (stringOn b t.val = true → (stringOf b t.val).walkNow = true → ∃ d, (stringOf c t.val).due = (stringOf b t.val).due ++ [d] ∧ d.walk = true ∧
          (stringOf c t.val).walkDue = false ∧ (stringOf c t.val).walkNow = false ∧ (stringOf c t.val).count ≤ 32) ∧
        (stringOn b t.val = true → (stringOf b t.val).walkNow = false →
          (frame b / 20 % max 20 (getF b F.RL_CTL_PERIOD) ≠ 0 → stringOf c t.val = stringOf b t.val) ∧
          (frame b / 20 % max 20 (getF b F.RL_CTL_PERIOD) = 0 → nowNs b < (stringOf b t.val).busyTo → stringOf c t.val = stringOf b t.val ∧
            getF c (F.RL_ERR_CNT_SKIP t.val) = min (getF b (F.RL_ERR_CNT_SKIP t.val) + 1) 255) ∧
          (frame b / 20 % max 20 (getF b F.RL_CTL_PERIOD) = 0 → (stringOf b t.val).busyTo ≤ nowNs b →
            ∃ d, (stringOf c t.val).due = (stringOf b t.val).due ++ [d] ∧ d.walk = (stringOf b t.val).walkDue ∧ (stringOf c t.val).busyTo = d.endNs ∧
              ((stringOf b t.val).walkDue = false → d.endNs = nowNs b + 1000 * cycleUs b t.val (stringOf b t.val).count)))) ∧
    (∀ xs, frame b % 20 ≠ 0 ∨ b.rl.ran = some (devF b) → exec (.reedlineCycle xs) ⟨b, q⟩ = .next ⟨b, q⟩) ∧
    (∀ t : Tier,
      (framesRun b = true → t.val ∉ b.pwr.supplyLost → (stringOf b t.val).short = false → ∃ c, exec (.rlLineShort t) ⟨b, q⟩ = .next ⟨c, q⟩ ∧
        stringOf c t.val = { stringOf b t.val with short := true, due := rlEnded (stringOf b t.val) b, busyTo := 0, fastFrom := none } ∧ stringOn c t.val = false ∧
        (condOf c (Slot.rlShort t.val)).level = true ∧
        c = { b with rl := { b.rl with strings := c.rl.strings }, sl := { b.sl with cond := c.sl.cond } }) ∧
      ((stringOf b t.val).short = true → exec (.rlLineShort t) ⟨b, q⟩ = .next ⟨b, q⟩ ∧ ∃ c, exec (.rlShortRecovery t) ⟨b, q⟩ = .next ⟨c, q⟩ ∧
        stringOf c t.val = { stringOf b t.val with short := false, walkDue := true } ∧ (condOf c (Slot.rlShort t.val)).level = false ∧
        c = { b with rl := { b.rl with strings := c.rl.strings }, sl := { b.sl with cond := c.sl.cond } }) ∧
      ((stringOf b t.val).short = false → exec (.rlShortRecovery t) ⟨b, q⟩ = .next ⟨b, q⟩))

/-- O48. The first sound TIER_RESULT_BLOCK of a tier that sends delivers it, and marks every channel of it that holds an out-of-range sample; one whose CRC
fails counts at its hop and is kept for the deadline, and like one cut by a break it has not arrived, so that a sound copy may follow; a second copy and a
block of a tier that sends none change nothing (where no hop stands at ERR_N errored frames undeclared). COLLECT_DEADLINE leaves exactly the tiers that had
not delivered without data, reports the hops of blocks whose CRC failed by BW_LINKERR, and overruns COLLECT where a sending tier missed without such a
block and no break was declared; in the first measurement frame it collects nothing. FILTER_OUTPUT places one FRAME record of the frame that ended, with
its 196 words, and nothing where no output is due. -/
def Obligations.TierData : Prop :=
  ∀ (b : Block) (q : List Instr), framesRun b = true →
    (∀ (t : Tier) (k : TierBlock), tierSends b t.val = true → b.fe.blocks.contains t.val = false →
      ∃ c, exec (.tierResultBlock t k) ⟨b, q⟩ = .next ⟨c, q⟩ ∧ c.lc = b.lc ∧ c.clock.ticks = b.clock.ticks ∧ c.act = b.act ∧ (∀ u, missEnd c u = missEnd b u) ∧
        (∀ h : HopNo, k.crcFail = some h → c.fe.blocks = b.fe.blocks ∧ c.fe.samples = b.fe.samples ∧
          c.fe.crcBad = (if b.fe.closed then b.fe.crcBad else b.fe.crcBad ++ [(t.val, h.val)]) ∧
          (let f := if k.fromFoot then F.BW_HOP_CRC_DOWN h.val else F.BW_HOP_CRC_UP h.val;
            getF c f = min (getF b f + 1) 65535)) ∧
        (k.crcFail = none → k.cut = true → c.fe.blocks = b.fe.blocks ∧ c.fe.samples = b.fe.samples ∧ c.fe.crcBad = b.fe.crcBad) ∧
        (k.crcFail = none → k.cut = false → c.fe.blocks = b.fe.blocks ++ [t.val] ∧ c.fe.samples = mapPut (fun _ => []) b.fe.samples t.val k.samples ∧
          c.fe.anyFoot = (b.fe.anyFoot || k.fromFoot) ∧
          ∀ n, b.fe.closed = false → n ∈ tierCells t.val →
            ovrEnd c (n - 1) = if (k.samples.getD (localOf n - 1) []).all (inRange (n - 1)) then ovrEnd b (n - 1) else devF b - 1 + 1)) ∧
    (∀ (t : Tier) (k : TierBlock), tierSends b t.val = false ∨ b.fe.blocks.contains t.val = true → (∀ h : HopNo, errBreak h.val b = b) →
      exec (.tierResultBlock t k) ⟨b, q⟩ = .next ⟨b, q⟩) ∧
    (b.fe.closed = false → b.fe.started = true → b.fe.since < devF b →
      ∃ c, exec .collectDeadline ⟨b, q⟩ = .next ⟨c, q⟩ ∧ c.fe.closed = true ∧ c.lc = b.lc ∧ c.act = b.act ∧ c.recs = b.recs ∧
        (∀ t, t < 16 → missEnd c t = if b.fe.blocks.contains t then missEnd b t else max (missEnd b t) (devF b - 1 + 1)) ∧
        (∀ t h, t < 16 → (t, h) ∈ b.fe.crcBad → b.fe.blocks.contains t = false → (condOf c Slot.bwLinkErr).pulse = true) ∧
        ((∀ t, t < 16 → tierSends b t = true → b.fe.blocks.contains t = true ∨ ∃ h, (t, h) ∈ b.fe.crcBad) ∨ b.bw.breakFrame = some (devF b) →
          c.regs = b.regs) ∧
        (∀ t, t < 16 → tierSends b t = true → b.fe.blocks.contains t = false → (∀ h, (t, h) ∉ b.fe.crcBad) → b.bw.breakFrame ≠ some (devF b) →
          b.clock.ovrFrame ≠ frame b + 1 → (∀ e ∈ b.sl.events, e.code ≠ 0x10) →
          bitOf (getR c R.GEN_OVR_STATUS).toNat 0 = true ∧ ∃ e ∈ c.sl.events, e.code = 0x10 ∧ bitOf e.v0 0 = true ∧ e.frame = frame b)) ∧
    (b.fe.closed = false → b.fe.started = true → devF b ≤ b.fe.since →
      exec .collectDeadline ⟨b, q⟩ = .next ⟨{ b with fe := { b.fe with closed := true } }, q⟩) ∧
    (b.fe.closed = true ∨ b.fe.started = false → exec .collectDeadline ⟨b, q⟩ = .next ⟨b, q⟩) ∧
    (∀ (codes : List Int) (o : OutDue), b.fe.outDue = some o →
      ∃ c r, exec (.filterOutput codes) ⟨b, q⟩ = .next ⟨c, q⟩ ∧ c.fe.outDue = none ∧ c.recs = b.recs ++ [r] ∧ c.lc = b.lc ∧ c.clock = b.clock ∧ c.act = b.act ∧
        r.typ = 0x01 ∧ r.frame = o.frame ∧ r.node = ownNode b ∧ r.payload.length = 196 ∧
        bitsOf (r.payload.getD 195 0).toNat 28 4 = fieldIn o.set F.FLT_CTL_RATE ∧ bitsOf (r.payload.getD 195 0).toNat 25 3 = fieldIn o.set F.FLT_CTL_ORDER ∧
        bitsOf (r.payload.getD 195 0).toNat 16 4 = o.count % 16 ∧ bitsOf (r.payload.getD 195 0).toNat 0 16 = o.f0 % 2 ^ 16 ∧
        ∀ n, 1 ≤ n → n ≤ 192 → o.endDev - rateK (fieldIn o.set F.FLT_CTL_RATE) < missEnd b (tierOf n) → r.payload.getD (n - 1) 0 = 1) ∧
    (∀ codes : List Int, b.fe.outDue = none → exec (.filterOutput codes) ⟨b, q⟩ = .next ⟨b, q⟩)

/-- O49. In a diagnostic frame OPEN_WIRE_TEST begins, on each tier enabled under the set it runs on, the test of the tap whose turn it is, unless a QUIET
interval, a frame-number jump or a bleed FET of a cell concerned bars it; outside it nothing happens. CHECK_CONVERSION in the first two frames of chain
ticks 0 to 11 keeps one comparison per converted cell that the cycle's schedule covers. CHECK_REF_CROSS in chain tick 12 publishes each disagreement of a
tier that checks and leaves the source's condition by REF_THR for the next tick, where levelsTick, part of FRAME_TICK, takes it up. A cycle that a
frame-number jump cut does neither. AUX_CONVERSION_DONE publishes each available tier's temperatures and voltage; a powered tier that cannot be heard keeps
its own. -/
def Obligations.TierChecks : Prop :=
  ∀ (b : Block) (q : List Instr), framesRun b = true →
    (b.fe.started = true → actF b F.FE_OW_CTL_PERIOD ≠ 0 → frame b % actF b F.FE_OW_CTL_PERIOD = 0 → b.fe.owFrame ≠ some (devF b) →
      ∃ c, exec .openWireTest ⟨b, q⟩ = .next ⟨c, q⟩ ∧ c.fe.owFrame = some (devF b) ∧ c.lc = b.lc ∧ c.bal = b.bal ∧ c.clock = b.clock ∧
        ∀ t, t < 16 →
          (fieldIn (tierSet b t) (F.FE_TIER_CTL_OW_EN t) = 0 → ∀ x, x ∈ c.fe.owTest → x.tier ≠ t) ∧
          (fieldIn (tierSet b t) (F.FE_TIER_CTL_OW_EN t) ≠ 0 → getF c (F.FE_OW_STATUS_NEXT t) = owNext b t ∧
            ∀ x : OwTest, x.tier = t → (x ∈ c.fe.owTest ↔
              x = ⟨t, owNext b t, (owCells b t (owNext b t)).1, (owCells b t (owNext b t)).2, decide (owNext b t = 0 ∨ owNext b t = populated b t)⟩ ∧
              quietNow b = false ∧ b.cw.jumpAt ≠ some (devF b) ∧ ∀ n ∈ owList (owCells b t (owNext b t)), owBusy b n (devF b) = false))) ∧
    (actF b F.FE_OW_CTL_PERIOD = 0 ∨ frame b % actF b F.FE_OW_CTL_PERIOD ≠ 0 ∨ b.fe.owFrame = some (devF b) →
      exec .openWireTest ⟨b, q⟩ = .next ⟨b, q⟩) ∧
    (∀ ks : List CheckInput, chkTick b < 12 → frame b % 20 ≤ 1 → chkCut b = false →
      ∃ l, exec (.checkConversion ks) ⟨b, q⟩ = .next ⟨{ b with fe := { b.fe with chkPend := l } }, q⟩ ∧
        (∀ p, p ∈ b.fe.chkPend → (∀ k ∈ ks, p.cell ≠ 12 * k.tier.val + chkTick b + 1) → p ∈ l) ∧
        ∀ k ∈ ks, ks.Pairwise (fun x y => x.tier ≠ y.tier) →
          fieldIn (tierSet b k.tier.val) (F.FE_TIER_CTL_CHK_EN k.tier.val) ≠ 0 →
          present b (12 * k.tier.val + chkTick b + 1) = true → (b.fe.chkSet.any fun x => x.1 == k.tier.val && bitOf x.2 (chkTick b)) = true →
          ∀ p, p ∈ l ∧ p.cell = 12 * k.tier.val + chkTick b + 1 ↔
            p = ⟨12 * k.tier.val + chkTick b + 1, devF b - frame b % 20, k.sar.sum, k.sd.sum⟩) ∧
    (∀ ks : List CheckInput, 12 ≤ chkTick b ∨ 1 < frame b % 20 ∨ chkCut b = true → exec (.checkConversion ks) ⟨b, q⟩ = .next ⟨b, q⟩) ∧
    (∀ ks : List RefCross, chkTick b = 12 → chkCut b = false → ks.Pairwise (fun x y => x.tier ≠ y.tier) →
      ∃ c, exec (.checkRefCross ks) ⟨b, q⟩ = .next ⟨c, q⟩ ∧ c = { b with regs := c.regs, fe := { b.fe with levelsDue := c.fe.levelsDue } } ∧
        (∀ k ∈ ks, fieldIn (tierSet b k.tier.val) (F.FE_TIER_CTL_CHK_EN k.tier.val) = 0 → getR c (R.FE_CHK_REF_LAST k.tier.val) = getR b (R.FE_CHK_REF_LAST k.tier.val)) ∧
        (∀ k ∈ ks, fieldIn (tierSet b k.tier.val) (F.FE_TIER_CTL_CHK_EN k.tier.val) ≠ 0 → getF c (F.FE_CHK_REF_LAST_VALID k.tier.val) = 1 ∧
          getF c (F.FE_CHK_REF_LAST_DIFF k.tier.val) = unsigned 16 (clampInt (-32768) 32767 k.diff) ∧
          (Slot.feChkRef k.tier.val, decide (actF b F.FE_CHK_CTL_REF_THR < k.diff.natAbs), 0) ∈ c.fe.levelsDue) ∧
        (∀ x ∈ b.fe.levelsDue, x ∈ c.fe.levelsDue) ∧
        RegsBut (ks.map fun k => R.FE_CHK_REF_LAST k.tier.val) b c) ∧
    (∀ ks : List RefCross, chkTick b ≠ 12 ∨ chkCut b = true → exec (.checkRefCross ks) ⟨b, q⟩ = .next ⟨b, q⟩) ∧
    (∀ i on det, b.fe.levelsDue = [(i, on, det)] → (levelsTick b).fe.levelsDue = [] ∧ (condOf (levelsTick b) i).level = on) ∧
    (∀ xs : List AuxInput, frame b % 20 ≤ 1 → xs.Pairwise (fun x y => x.tier ≠ y.tier) →
      ∃ c, exec (.auxConversionDone xs) ⟨b, q⟩ = .next ⟨c, q⟩ ∧ c.lc = b.lc ∧ c.clock = b.clock ∧ c.bal = b.bal ∧ c.act = b.act ∧
        (∀ x ∈ xs, tierAvail b x.tier.val = false → tierPowered b x.tier.val = true → x ∈ c.fe.auxKept) ∧
        ∀ x ∈ xs, tierAvail b x.tier.val = true →
          getF c (F.FE_AUX_T_DIE x.tier.val) = unsigned 16 (clampInt (-32767) 32767 x.die) ∧ getF c (F.FE_AUX_T_VT x.tier.val) = min 65535 x.vt ∧
          getF c (F.FE_AUX_NTC_TA x.tier.val) =
            (ntcInput 14 (actF b (F.FE_TIER_CTL_NTCA_EN x.tier.val) = 1) x.ratioA (actF b (F.FE_NTC_BETA_BETA_A x.tier.val))).1 ∧
          getF c (F.FE_AUX_NTC_TB x.tier.val) =
            (ntcInput 15 (actF b (F.FE_TIER_CTL_NTCB_EN x.tier.val) = 1) x.ratioB (actF b (F.FE_NTC_BETA_BETA_B x.tier.val))).1 ∧
          x.tier.val ∈ c.fe.auxTiers) ∧
    (∀ xs : List AuxInput, 1 < frame b % 20 → exec (.auxConversionDone xs) ⟨b, q⟩ = .next ⟨b, q⟩)

/-- O50. FE_COMMIT records a request and changes no active value. MEASUREMENT_COMMIT_APPLY puts the whole shadow set in force where no cause of R164 holds,
counting it; otherwise it changes no active value, publishes the causes, sets CFG_REJ and reports an event. POLICY_NOTCH_PLACEMENT applies a placement or
withdrawal of a notch whose source is the policy; where it is not, a withdrawal still clears the placement and a placement is dropped. A QUIET interval
begins L frames before the tick after its output with every gate off, and ends at that tick with the gates as ordered. -/
def Obligations.MeasurementCommits : Prop :=
  ∀ (b : Block) (q : List Instr),
    (∀ v, ready b = true → ∃ c, exec (.feCommit v) ⟨b, q⟩ = .next ⟨c, q⟩ ∧ c = { b with regs := c.regs } ∧ getF c F.FE_COMMIT_PENDING = 1 ∧
      RegsBut [R.FE_COMMIT] b c) ∧
    (framesRun b = true →
      (isF b F.FE_COMMIT_PENDING = true →
        let b' := setF F.FE_COMMIT_PENDING 0 b
        let rej := rejCauses b' (shadowSet b')
        ∃ c, exec .measurementCommitApply ⟨b, q⟩ = .next ⟨c, q⟩ ∧ getF c F.FE_COMMIT_PENDING = 0 ∧ c.lc = b.lc ∧ c.clock.ticks = b.clock.ticks ∧
          (rej = 0 → c.act = shadowSet b' ∧ getF c F.FLT_ACTIVE_COMMIT_CNT = (getF b F.FLT_ACTIVE_COMMIT_CNT + 1) % 256 ∧
            getF c F.FLT_ACTIVE_RATE = fieldIn (shadowSet b') F.FLT_CTL_RATE ∧ getF c F.FLT_ACTIVE_ORDER = fieldIn (shadowSet b') F.FLT_CTL_ORDER ∧
            getR c R.FLT_REJ = getR b R.FLT_REJ ∧ c.fe.settingAt = some (devF b)) ∧
          (rej ≠ 0 → c.act = b.act ∧ getR c R.FLT_REJ = w32 rej ∧ getF c F.FE_COMMIT_CFG_REJ = 1 ∧ getR c R.FLT_ACTIVE = getR b R.FLT_ACTIVE ∧
            c.fe = b.fe ∧ ∃ e ∈ c.sl.events, e.code = 0x11 ∧ e.v0 = rej ∧ e.frame = frame b)) ∧
      (isF b F.FE_COMMIT_PENDING = false → ∃ c, exec .measurementCommitApply ⟨b, q⟩ = .next ⟨c, q⟩ ∧ c = { b with hst := c.hst }) ∧
      (∀ k p, (k = 1 ∨ k = 2) → b.fe.notchDue = [(k, p)] →
        ∃ c, exec .policyNotchPlacement ⟨b, q⟩ = .next ⟨c, q⟩ ∧ c.fe.notchDue = [] ∧ c.lc = b.lc ∧ c.clock = b.clock ∧ c.act = b.act ∧
          (actF b (F.FLT_NOTCH_SRC k) = 1 →
            getF c (F.FLT_NOTCH_POL_ACTIVE k) = nat01 p.isSome ∧ getF c (F.FLT_NOTCH_POL_F0 k) = (p.elim 0 (·.1)) % 2 ^ 16 ∧
            getF c (F.FLT_NOTCH_POL_Q k) = (p.elim 0 (·.2)) % 2 ^ 8 ∧ c.fe.filtFrom = devF b ∧ getR c (R.FLT_NOTCH_POL (3 - k)) = getR b (R.FLT_NOTCH_POL (3 - k)) ∧
            ∃ s ∈ c.fe.setl, s.lo = 0 ∧ s.hi = 193 ∧ s.filter = true ∧ s.after ≤ nowNs b ∧ nowNs b < s.until_) ∧
          (p = none → getR c (R.FLT_NOTCH_POL k) = 0) ∧
          (actF b (F.FLT_NOTCH_SRC k) ≠ 1 → p ≠ none → c = { b with fe := { b.fe with notchDue := [] } })) ∧
      (b.fe.quiet = none → actF b F.FLT_BAL_CTL_QUIET_EN ≠ 0 → actF b F.FLT_BAL_CTL_QUIET_N * activeK b ≠ 0 →
        (frame b + quietLen b b.act) % (actF b F.FLT_BAL_CTL_QUIET_N * activeK b) = 0 → quietLen b b.act ≠ 0 →
        ∃ c, exec .quietIntervalStart ⟨b, q⟩ = .next ⟨c, q⟩ ∧ c.fe = { b.fe with quiet := some (devF b, devF b + quietLen b b.act) } ∧ c.act = b.act ∧
          c.lc = b.lc ∧ ∀ n, 1 ≤ n → n ≤ 192 → (balOf c n).cmdOn = false ∧ bleedOf c n = bleedOf b n) ∧
      (b.fe.quiet.isSome = true → exec .quietIntervalStart ⟨b, q⟩ = .next ⟨b, q⟩) ∧
      (∀ lo hi, b.fe.quiet = some (lo, hi) → hi ≤ devF b →
        ∃ c, exec .quietIntervalEnd ⟨b, q⟩ = .next ⟨c, q⟩ ∧ c.fe = { b.fe with quiet := none } ∧ c.act = b.act ∧ c.lc = b.lc ∧
          ∀ n, 1 ≤ n → n ≤ 192 →
            (balOf c n).cmdOn = gateWanted { b with fe := { b.fe with quiet := none } } n ∧ bleedOf c n = bleedOf b n))

/-- O51. FE_ALIGN_RUN records a request where no fine alignment, that of a tier alignment included, is under way. FINE_ALIGNMENT_START takes a request at a
chain tick and nowhere else. FINE_ALIGNMENT_APPLY, 20 frames later and no earlier, puts the new delays in force, sets ALIGN_VALID, clears DRIFT and gives
SETL to every channel. TIER_ALIGNMENT, 40 frames after its chain tick and no earlier, puts the delays of its tiers in force and lets them deliver with
SETL, and as the fine alignment it contains it clears DRIFT and FE_SKEW; ALIGN_VALID sets where no other sequence is left. -/
def Obligations.Alignment : Prop :=
  ∀ (b : Block) (q : List Instr),
    (ready b = true →
      exec .feAlignRun ⟨b, q⟩ = .next ⟨if alignBusy b then b else { b with fe := { b.fe with fineReq := true } }, q⟩) ∧
    (framesRun b = true →
      (frame b % 20 = 0 → alignBusy b = false → b.fe.fineReq = true →
        exec .fineAlignmentStart ⟨b, q⟩ =
          .next ⟨{ b with fe := { b.fe with fineReq := false, fineAgain := false, fineFrom := some (devF b) } }, q⟩) ∧
      (frame b % 20 ≠ 0 ∨ alignBusy b = true ∨ (b.fe.fineReq = false ∧ b.fe.fineAgain = false) →
        exec .fineAlignmentStart ⟨b, q⟩ = .next ⟨b, q⟩) ∧
      (∀ (ds : List PathDelay) (d0 : Nat), b.fe.fineFrom = some d0 → d0 + 20 ≤ devF b → ds.Pairwise (fun x y => x.tier ≠ y.tier) →
        ∃ c, exec (.fineAlignmentApply ds) ⟨b, q⟩ = .next ⟨c, q⟩ ∧ c = { b with regs := c.regs, fe := c.fe, sl := { b.sl with cond := c.sl.cond } } ∧
          c.fe.fineFrom = none ∧ getF c F.FE_STATUS_ALIGN_VALID = 1 ∧ getF c F.FE_STATUS_DRIFT = 0 ∧ (condOf c Slot.feSkew).level = false ∧
          (∀ d ∈ ds, getF c (F.FE_TIER_DLY_HEAD d.tier.val) = d.head.toNat ∧ getF c (F.FE_TIER_DLY_FOOT d.tier.val) = d.foot.toNat) ∧
          RegsBut (R.FE_STATUS :: ds.map fun d => R.FE_TIER_DLY d.tier.val) b c ∧
          ∃ s ∈ c.fe.setl, s.lo = 0 ∧ s.hi = 193 ∧ s.filter = true ∧ s.after ≤ nowNs b ∧ nowNs b + settleUp b b.act ≤ s.until_) ∧
      (∀ ds : List PathDelay, (∀ d0, b.fe.fineFrom = some d0 → devF b < d0 + 20) → exec (.fineAlignmentApply ds) ⟨b, q⟩ = .next ⟨b, q⟩) ∧
      (∀ (ds : List PathDelay) (ts : List Nat) (d0 : Nat) (br : Bool), b.fe.align = [⟨ts, some d0, br⟩] → ts ≠ [] → d0 + 40 ≤ devF b →
        ds.Pairwise (fun x y => x.tier ≠ y.tier) →
        ∃ c, exec (.tierAlignment ds) ⟨b, q⟩ = .next ⟨c, q⟩ ∧ c = { b with regs := c.regs, fe := c.fe, sl := { b.sl with cond := c.sl.cond } } ∧ c.fe.align = [] ∧
          getF c F.FE_STATUS_ALIGN_VALID = 1 ∧ getF c F.FE_STATUS_DRIFT = 0 ∧ (condOf c Slot.feSkew).level = false ∧ c.fe.fineBad = false ∧
          (∀ d ∈ ds, d.tier.val ∈ ts → getF c (F.FE_TIER_DLY_HEAD d.tier.val) = d.head.toNat ∧ getF c (F.FE_TIER_DLY_FOOT d.tier.val) = d.foot.toNat) ∧
          ∀ t ∈ ts, ∃ s ∈ c.fe.setl, s.lo = 12 * t ∧ s.hi = 12 * t + 11 ∧ s.after ≤ nowNs b ∧ nowNs b + settleUp b b.act ≤ s.until_) ∧
      (∀ ds : List PathDelay, (∀ a ∈ b.fe.align, ∀ d0, a.start = some d0 → devF b < d0 + 40) → exec (.tierAlignment ds) ⟨b, q⟩ = .next ⟨b, q⟩))

/-- O52. Where an output is due, FILTER_OUTPUT places one record in whose 194 words a word with NODATA is exactly 1 (code 0 and no other flag), a word with
QUIET carries neither BAL nor CMP, and a word with OVR also carries SETL; and every word that keeps these three is the word of some code and flags, so the
other flags are independent. -/
def Obligations.WordFlags : Prop :=
  (∀ (b : Block) (q : List Instr) (codes : List Int) (o : OutDue), framesRun b = true → b.fe.outDue = some o →
    ∃ c r, exec (.filterOutput codes) ⟨b, q⟩ = .next ⟨c, q⟩ ∧ c.recs = b.recs ++ [r] ∧ r.typ = 0x01 ∧ ∀ i, i < 194 →
      (bitOf (r.payload.getD i 0).toNat 0 = true → r.payload.getD i 0 = 1) ∧
      (bitOf (r.payload.getD i 0).toNat 3 = true → bitOf (r.payload.getD i 0).toNat 5 = false ∧ bitOf (r.payload.getD i 0).toNat 4 = false) ∧
      (bitOf (r.payload.getD i 0).toNat 7 = true → bitOf (r.payload.getD i 0).toNat 2 = true)) ∧
  ∀ w, w < 2 ^ 32 → (bitOf w 0 = true → w = 1) → (bitOf w 3 = true → bitOf w 5 = false ∧ bitOf w 4 = false) → (bitOf w 7 = true → bitOf w 2 = true) →
    ∃ code ovr ow bal cmp quiet setl chk nodata, mkWord code ovr ow bal cmp quiet setl chk nodata = w

/-- O53. With no swap and no step length pending, MODEL_STEP_BOUNDARY begins a step over the interval from this boundary where an image is in force,
FULL_EN is 1, the device is in RUN or SAFE and the engine works; under self-test it counts a skip, in HALTED it begins none unless RESUME was written.
STEP_LENGTH_CHANGE takes a pending length at a boundary of both lengths alone. FEN_STEP_COMPLETE ends a closed step: FEN_STEP_NUM and HALF move on and
CONSEC is 0. STEP_OVERRUN abandons a step at its deadline, counting it, with HALTED at eight in a row; FEN_HALT follows that count. -/
def Obligations.ModelSteps : Prop :=
  ∀ (b : Block) (q : List Instr), framesRun b = true →
    (b.clock.stepOwed = true → b.fen.step = none → isF b F.FEN_STATUS_SWAP_PEND = false → isF b F.FEN_STATUS_STEP_PEND = false →
      isF b F.FEN_STATUS_IMG_VALID = true → isF b F.FEN_CTL_FULL_EN = true → (b.pwr.state = .run ∨ b.pwr.state = .safe) → b.lc.acting ≠ .retired →
      fenReset b = false → isF b F.BIST_FAILED_FEN = false → isF b F.BIST_FAILED_MEM = false →
      ∃ c, exec .modelStepBoundary ⟨b, q⟩ = .next ⟨c, q⟩ ∧ c.clock.stepOwed = false ∧ c.clock.ticks = b.clock.ticks ∧ c.lc = b.lc ∧
        (fenTest b = false → (isF b F.FEN_STATUS_HALTED = false ∨ b.fen.resume = true) → ∃ s, c.fen.step = some s ∧ s.start = devF b ∧
          s.frameNo = frame b ∧ s.frames = stepFrames b ∧ s.from_ = b.fen.from_ ∧ s.layout = false ∧ s.closed = false ∧ s.safe = inSafe b ∧
          getF c F.FEN_STATUS_HALTED = 0) ∧
        (fenTest b = false → isF b F.FEN_STATUS_HALTED = true → b.fen.resume = false → c.fen.step = none) ∧
        (fenTest b = true → c.fen.step = none ∧ getF c F.FEN_OVR_CNT_SKIP = min (getF b F.FEN_OVR_CNT_SKIP + 1) 255)) ∧
    (b.clock.stepOwed = false → exec .modelStepBoundary ⟨b, q⟩ = .next ⟨b, q⟩) ∧
    (isF b F.FEN_STATUS_STEP_PEND = true → frame b % (20 * stepMs (getF b F.FEN_CTL_STEP)) = 0 → frame b % stepFrames b = 0 →
      ∃ c, exec .stepLengthChange ⟨b, q⟩ = .next ⟨c, q⟩ ∧ getF c F.FEN_STATUS_STEP_ACT = getF b F.FEN_CTL_STEP ∧ getF c F.FEN_STATUS_STEP_PEND = 0 ∧
        getF c F.FEN_STATUS_HALTED = 0 ∧ c = { b with regs := c.regs, fen := { b.fen with resume := false }, sl := { b.sl with cond := c.sl.cond } } ∧
        RegsBut [R.FEN_STATUS, R.FEN_OVR_CNT, R.FEN_UTIL] b c) ∧
    (isF b F.FEN_STATUS_STEP_PEND = false ∨ frame b % (20 * stepMs (getF b F.FEN_CTL_STEP)) ≠ 0 ∨ frame b % stepFrames b ≠ 0 →
      exec .stepLengthChange ⟨b, q⟩ = .next ⟨b, q⟩) ∧
    (∀ s, b.fen.step = some s → s.layout = false → s.closed = true →
      ∃ c, exec .fenStepComplete ⟨b, q⟩ = .next ⟨c, q⟩ ∧ c.fen.step = none ∧ c.fen.from_ = s.start ∧ getR c R.FEN_STEP_NUM = getR b R.FEN_STEP_NUM + 1 ∧
        getF c F.FEN_STATUS_HALF = 1 - getF b F.FEN_STATUS_HALF ∧ getF c F.FEN_OVR_CNT_CONSEC = 0 ∧ c.lc = b.lc ∧ c.clock = b.clock ∧ c.fen.image = b.fen.image ∧
        c.fen.own = b.fen.own) ∧
    (b.fen.step = none → exec .fenStepComplete ⟨b, q⟩ = .next ⟨b, q⟩ ∧ exec .stepOverrun ⟨b, q⟩ = .next ⟨b, q⟩) ∧
    (∀ s, b.fen.step = some s → (s.closed = false ∨ s.layout = true → exec .fenStepComplete ⟨b, q⟩ = .next ⟨b, q⟩) ∧
      (s.layout = true ∨ devF b < s.start + s.frames → exec .stepOverrun ⟨b, q⟩ = .next ⟨b, q⟩) ∧
      (s.layout = false → s.start + s.frames ≤ devF b →
        ∃ c, exec .stepOverrun ⟨b, q⟩ = .next ⟨c, q⟩ ∧ c.fen = { b.fen with step := none } ∧
          getF c F.FEN_OVR_CNT_OVR = min (getF b F.FEN_OVR_CNT_OVR + 1) 65535 ∧ getF c F.FEN_OVR_CNT_CONSEC = min (getF b F.FEN_OVR_CNT_CONSEC + 1) 255 ∧
          (condOf c Slot.fenStepOvr).pulse = true ∧ (7 ≤ getF b F.FEN_OVR_CNT_CONSEC → getF c F.FEN_STATUS_HALTED = 1) ∧
          (getF b F.FEN_OVR_CNT_CONSEC < 7 → getR c R.FEN_STATUS = getR b R.FEN_STATUS) ∧
          c = { b with regs := c.regs, fen := c.fen, sl := { b.sl with cond := c.sl.cond } })) ∧
    (8 ≤ getF b F.FEN_OVR_CNT_CONSEC → isF b F.FEN_STATUS_HALTED = false →
      ∃ c, exec .fenHalt ⟨b, q⟩ = .next ⟨c, q⟩ ∧ getF c F.FEN_STATUS_HALTED = 1 ∧ (condOf c Slot.fenHalt).level = true ∧ RegsBut [R.FEN_STATUS] b c ∧
        c = { b with regs := c.regs, sl := { b.sl with cond := c.sl.cond } }) ∧
    (getF b F.FEN_OVR_CNT_CONSEC < 8 ∨ isF b F.FEN_STATUS_HALTED = true → exec .fenHalt ⟨b, q⟩ = .next ⟨b, q⟩)

/-- O54. FEN_RESUME and FEN_STEP_WRITE store FEN_CTL; a step length that fits while no image swap is pending or being laid out becomes pending unless it is
in force, any other is refused and STEP kept; RESUME waits for the boundary. FEN_NODE_SEL loads the values of the node its index names. FEN_THROTTLE_CHANGE
throttles from 118 °C and stops below 112 °C, and keeps what holds between. CURRENT_HOLD_LIMIT sets NOCUR of the engine and of every cell once the
integrator has held 1,000 chain ticks in a row. BLOCK_RESET begins the reset a domain is owed, that of the engine cancelling a build or swap with result 5
and leaving the integrator's count, the image in staging and SIG_REQ alone (DEDUCED, DESIGN CHOICE: log entry 16); where none is owed and the Fen engine is
not in reset it does nothing. -/
def Obligations.FenControl : Prop :=
  ∀ (b : Block) (q : List Instr),
    (∀ v : Word, ready b = true →
      (∃ c, exec (.fenStepWrite v) ⟨b, q⟩ = .next ⟨c, q⟩ ∧ FenCtlWritten v b c) ∧
      ∃ c, exec (.fenResume v) ⟨b, q⟩ = .next ⟨c, q⟩ ∧ FenCtlWritten (v ||| 64) b c) ∧
    (∀ v : Word, ready b = true → ∃ c, exec (.fenNodeSel v) ⟨b, q⟩ = .next ⟨c, q⟩ ∧ c = { b with regs := c.regs } ∧
      RegsBut [R.FEN_NODE_SEL, R.FEN_NODE_V0, R.FEN_NODE_V1] b c ∧ getF c F.FEN_NODE_SEL_INDEX = bitsOf v.toNat 0 23 ∧
      getF c F.FEN_NODE_SEL_VALID = 1 ∧ getF c F.FEN_NODE_SEL_KIND = (nodeAt b (bitsOf v.toNat 0 23)).1 % 8 ∧
      getR c R.FEN_NODE_V0 = w32 (nodeAt b (bitsOf v.toNat 0 23)).2.1 ∧ getR c R.FEN_NODE_V1 = w32 (nodeAt b (bitsOf v.toNat 0 23)).2.2) ∧
    (framesRun b = true →
      (∀ temp : Int, ∃ c, exec (.fenThrottleChange temp) ⟨b, q⟩ = .next ⟨c, q⟩ ∧ (118 * 128 ≤ temp → getF c F.FEN_STATUS_THROTTLE = 1) ∧
        (temp < 112 * 128 → getF c F.FEN_STATUS_THROTTLE = 0) ∧ (112 * 128 ≤ temp → temp < 118 * 128 → c = b) ∧
        (getF c F.FEN_STATUS_THROTTLE ≠ getF b F.FEN_STATUS_THROTTLE → (condOf c Slot.fenThrottle).pulse = true) ∧
        RegsBut [R.FEN_STATUS] b c ∧ c = { b with regs := c.regs, sl := { b.sl with cond := c.sl.cond } }) ∧
      (1000 ≤ b.fen.holds → isF b F.FEN_STATUS_NOCUR = false →
        ∃ c, exec .currentHoldLimit ⟨b, q⟩ = .next ⟨c, q⟩ ∧ getF c F.FEN_STATUS_NOCUR = 1 ∧ (condOf c Slot.fenNocur).level = true ∧
          (∀ n, 1 ≤ n → n ≤ 192 → getF c (F.FEN_CELL_STATUS_NOCUR n) = 1) ∧ c = { b with regs := c.regs, sl := { b.sl with cond := c.sl.cond } }) ∧
      (b.fen.holds < 1000 ∨ isF b F.FEN_STATUS_NOCUR = true → exec .currentHoldLimit ⟨b, q⟩ = .next ⟨b, q⟩) ∧
      (∀ (d : Domain) (bad : Bool), d ∈ b.sl.blkOwed →
        ∃ c, exec (.blockReset d bad) ⟨b, q⟩ = .next ⟨c, q⟩ ∧ d ∉ c.sl.blkOwed ∧ (d, devF b + resetFrames d) ∈ c.sl.blkRun ∧ c.lc = b.lc ∧ c.cfg = b.cfg ∧
          c.clock.ticks = b.clock.ticks ∧ (d = .fen → c.fen.step = none ∧ c.fen.crcBad = bad ∧ getR c R.FEN_STEP_NUM = resetWord R.FEN_STEP_NUM ∧
            getF c F.FEN_STATUS_HALTED = 0 ∧ c.fen.holds = b.fen.holds ∧ c.fen.staged = b.fen.staged ∧ getF c F.FEN_IMG_CTL_SIG_REQ = getF b F.FEN_IMG_CTL_SIG_REQ ∧
            (imgState b = 5 ∨ imgState b = 6 → imgState c = 3 ∧ getF c F.FEN_IMG_STATUS_SWAP_RESULT = 5) ∧ (imgState b < 5 → imgState c = imgState b)) ∧
          (d = .radio → getF c F.CW_RF_STATUS_ACTIVE = 0) ∧ (d = .hst → c = { b with sl := c.sl })) ∧
      (∀ (d : Domain) (bad : Bool), d ∉ b.sl.blkOwed → (d ≠ .fen ∨ fenReset b = false) → exec (.blockReset d bad) ⟨b, q⟩ = .next ⟨b, q⟩))

/-- O55. ADAPT_REBUILD_START, where adaptation may run, makes the inactive copy the active one's; ADAPT_REBUILD_DONE, which leaves cells without anything
to refit from as they were, leaves a pending adaptation swap where the CRC check passed and every adapted value lies within its limits, else counts a
failure. IMAGE_BUILD_START begins to build after an accepted swap. IMAGE_BUILD_DONE leaves an image swap pending, or VALID with result 7 (read-back) or 6
(fit). LAYOUT_STEP_DONE puts the image in force: IMG_VALID, its identity and swap frame, result 1. -/
def Obligations.CopiesAndSwaps : Prop :=
  ∀ (b : Block) (q : List Instr),
    (isF b F.FEN_CTL_ADAPT_EN = true → isF b F.FEN_STATUS_IMG_VALID = true → b.pwr.state = .run → isF b F.FEN_STATUS_REBUILD_BUSY = false →
      imgState b ≠ 5 → imgState b ≠ 6 → b.fen.swapAsk = false → isF b F.FEN_STATUS_SWAP_PEND = false → isF b F.BIST_FAILED_APP = false → fenReset b = false →
      exec .adaptRebuildStart ⟨b, q⟩ = .next ⟨setF F.FEN_STATUS_REBUILD_BUSY 1 { b with fen := { b.fen with other := b.fen.own } }, q⟩) ∧
    (isF b F.FEN_CTL_ADAPT_EN = false ∨ isF b F.FEN_STATUS_IMG_VALID = false ∨ b.pwr.state ≠ .run ∨ isF b F.FEN_STATUS_REBUILD_BUSY = true ∨
      imgState b = 5 ∨ imgState b = 6 ∨ b.fen.swapAsk = true ∨ isF b F.FEN_STATUS_SWAP_PEND = true ∨ isF b F.BIST_FAILED_APP = true ∨ fenReset b = true →
      exec .adaptRebuildStart ⟨b, q⟩ = .next ⟨b, q⟩) ∧
    (framesRun b = true →
      (∀ (cells : List RefitCell) (ok : Bool), isF b F.FEN_STATUS_REBUILD_BUSY = true →
        ∃ c, exec (.adaptRebuildDone cells ok) ⟨b, q⟩ = .next ⟨c, q⟩ ∧ getF c F.FEN_STATUS_REBUILD_BUSY = 0 ∧ c.fen = { b.fen with other := c.fen.other } ∧
          c = { b with regs := c.regs, fen := c.fen, sl := { b.sl with cond := c.sl.cond } } ∧
          (∀ n, refitInput b n = false → mapGet (fun _ => []) c.fen.other n = mapGet (fun _ => []) b.fen.other n) ∧
          (if ok = true ∧ ∀ n ∈ b.fen.cells, withinLimits b.fen.image (mapGet (fun _ => []) c.fen.other n) (classOf b n) = true
            then getF c F.FEN_STATUS_SWAP_PEND = 1 ∧ getF c F.FEN_STATUS_SWAP_SRC = 0 ∧ getR c R.FEN_REBUILD = getR b R.FEN_REBUILD
            else getF c F.FEN_REBUILD_FAIL = min (getF b F.FEN_REBUILD_FAIL + 1) 255 ∧ (condOf c Slot.fenRebuild).pulse = true ∧
              getF c F.FEN_STATUS_SWAP_PEND = getF b F.FEN_STATUS_SWAP_PEND)) ∧
      (∀ (cells : List RefitCell) (ok : Bool), isF b F.FEN_STATUS_REBUILD_BUSY = false → exec (.adaptRebuildDone cells ok) ⟨b, q⟩ = .next ⟨b, q⟩) ∧
      (b.fen.swapAsk = true → ∃ c, exec .imageBuildStart ⟨b, q⟩ = .next ⟨c, q⟩ ∧ c = { b with regs := c.regs, fen := { b.fen with swapAsk := false } } ∧
        (imgState b = 3 → imgState c = 5 ∧ getF c F.FEN_STATUS_REBUILD_BUSY = 0) ∧ (imgState b ≠ 3 → c.regs = b.regs)) ∧
      (b.fen.swapAsk = false → exec .imageBuildStart ⟨b, q⟩ = .next ⟨b, q⟩) ∧
      (∀ ok : Bool, imgState b = 5 → memOut b = false → ∃ c, exec (.imageBuildDone ok) ⟨b, q⟩ = .next ⟨c, q⟩ ∧
        c = { b with regs := c.regs, fen := { b.fen with other := c.fen.other } } ∧ RegsBut [R.FEN_IMG_STATUS, R.FEN_STATUS] b c ∧
        (ok = false → imgState c = 3 ∧ getF c F.FEN_IMG_STATUS_SWAP_RESULT = 7 ∧ getR c R.FEN_STATUS = getR b R.FEN_STATUS) ∧
        (ok = true → chkFit b.fen.staged (presentCells b) (stepMs (getF b F.FEN_CTL_STEP)) ≠ none →
          imgState c = 3 ∧ getF c F.FEN_IMG_STATUS_SWAP_RESULT = 6 ∧ getR c R.FEN_STATUS = getR b R.FEN_STATUS) ∧
        (ok = true → chkFit b.fen.staged (presentCells b) (stepMs (getF b F.FEN_CTL_STEP)) = none →
          imgState c = 6 ∧ getF c F.FEN_STATUS_SWAP_PEND = 1 ∧ getF c F.FEN_STATUS_SWAP_SRC = 1)) ∧
      (∀ ok : Bool, imgState b ≠ 5 ∨ memOut b = true → exec (.imageBuildDone ok) ⟨b, q⟩ = .next ⟨b, q⟩) ∧
      (∀ s, b.fen.step = some s → s.layout = true → ∃ c, exec .layoutStepDone ⟨b, q⟩ = .next ⟨c, q⟩ ∧ c.fen = { b.fen with step := none } ∧
        getF c F.FEN_STATUS_LAYOUT = 0 ∧ getF c F.FEN_STATUS_IMG_VALID = 1 ∧ imgState c = 3 ∧ getF c F.FEN_IMG_STATUS_SWAP_RESULT = 1 ∧
        getR c R.FEN_IMG_ID = w32 (imgW b.fen.image 0x10) ∧ getR c R.FEN_IMG_SWAP_FRAME = w32 s.frameNo ∧
        getR c R.FEN_STEP_NUM = getR b R.FEN_STEP_NUM + 1 ∧ getF c F.FEN_STATUS_HALF = 1 - getF b F.FEN_STATUS_HALF ∧ (condOf c Slot.fenImg).level = false ∧
        c.lc = b.lc ∧ c.clock = b.clock ∧ c.led.queue = b.led.queue ++ [⟨0x06, 0, 0, imgW b.fen.image 0x10 % 2 ^ 32, devF b⟩]) ∧
      ((∀ s, b.fen.step = some s → s.layout = false) → exec .layoutStepDone ⟨b, q⟩ = .next ⟨b, q⟩))

/-- O56. A write of FEN_IMG_WADDR or FEN_IMG_WDATA moves STATE to LOADING, storing its word at the offset and moving it on by 4, or sets WR_IGN in RETIRED,
while a validation, build or swap keeps staging, without the memory die, or for data past the last word; each ends a swap request that waits. In RETIRED
validation, swap and clearing change nothing else but WR_IGN of a clear. IMG_VALIDATE goes from EMPTY to REJECTED with code 1 and from LOADING or REJECTED
to VALIDATING; IMG_VALIDATION_DONE ends it in VALID, or in REJECTED with the code and offset the checks find. A swap is asked for from VALID alone, with
the checks repeated, else refused with 2. IMG_CLEAR empties staging from VALID or REJECTED, else sets WR_IGN. The ring commands answer with IMG_STATUS. -/
def Obligations.ImageStaging : Prop :=
  ∀ (b : Block) (q : List Instr),
    (∀ v : Word, ready b = true →
      (b.lc.acting = .retired → stageShut b = true) ∧
      (stageShut b = true → exec (.fenImgWaddr v) ⟨b, q⟩ = .next ⟨setF F.FEN_IMG_STATUS_WR_IGN 1 b, q⟩ ∧
        exec (.fenImgWdata v) ⟨b, q⟩ = .next ⟨setF F.FEN_IMG_STATUS_WR_IGN 1 b, q⟩) ∧
      (stageShut b = false →
        (∃ c, exec (.fenImgWaddr v) ⟨b, q⟩ = .next ⟨c, q⟩ ∧ c = { b with regs := c.regs, fen := { b.fen with wPast := false, swapAsk := false } } ∧ imgState c = 1 ∧
          getF c F.FEN_IMG_WADDR_ADDR = bitsOf v.toNat 2 22 ∧ RegsBut [R.FEN_IMG_WADDR, R.FEN_IMG_STATUS] b c) ∧
        (b.fen.wPast = true → exec (.fenImgWdata v) ⟨b, q⟩ = .next ⟨setF F.FEN_IMG_STATUS_WR_IGN 1 b, q⟩) ∧
        (b.fen.wPast = false → ∃ c, exec (.fenImgWdata v) ⟨b, q⟩ = .next ⟨c, q⟩ ∧ imgState c = 1 ∧
          c = { b with regs := c.regs, fen := { b.fen with staged := c.fen.staged, wPast := decide (getF b F.FEN_IMG_WADDR_ADDR = 0x3FFFFF), swapAsk := false } } ∧
          (∀ i, mapGet (fun _ => 0) c.fen.staged i = if i = getF b F.FEN_IMG_WADDR_ADDR then v else mapGet (fun _ => 0) b.fen.staged i) ∧
          getF c F.FEN_IMG_WADDR_ADDR = (getF b F.FEN_IMG_WADDR_ADDR + 1) % 2 ^ 22 ∧ RegsBut [R.FEN_IMG_WADDR, R.FEN_IMG_STATUS] b c)) ∧
      (bitsOf v.toNat 0 3 = 0 →
        ∃ c d e, exec (.imgValidate v) ⟨b, q⟩ = .next ⟨c, q⟩ ∧ exec (.imgSwapRequest v) ⟨b, q⟩ = .next ⟨d, q⟩ ∧ exec (.imgClear v) ⟨b, q⟩ = .next ⟨e, q⟩ ∧
          c = { b with regs := c.regs } ∧ d = { b with regs := d.regs, fen := { b.fen with swapAsk := d.fen.swapAsk } } ∧
          e = { b with regs := e.regs, fen := { b.fen with staged := e.fen.staged, swapAsk := e.fen.swapAsk } } ∧
          (b.lc.acting = .retired → imgState c = imgState b ∧ imgState d = imgState b ∧ d.fen = b.fen ∧ imgState e = imgState b ∧ e.fen = b.fen ∧
            getF e F.FEN_IMG_STATUS_WR_IGN = 1) ∧
          (b.lc.acting ≠ .retired →
            (imgState b = 0 → imgState c = 4 ∧ getF c F.FEN_IMG_STATUS_REJECT = 1 ∧ getR c R.FEN_IMG_DETAIL = 0) ∧
            (imgState b = 1 ∨ imgState b = 4 → imgState c = 2) ∧
            (imgState b = 2 ∨ imgState b = 3 ∨ imgState b = 5 ∨ imgState b = 6 → getR c R.FEN_IMG_STATUS = getR b R.FEN_IMG_STATUS) ∧
            (imgState b ≠ 3 → d.fen = b.fen ∧ getF d F.FEN_IMG_STATUS_SWAP_RESULT = 2 ∧ imgState d = imgState b) ∧
            (imgState b = 3 →
              (imgRecheck b.fen.staged (presentCells b) (stepMsNow b) = none → d.fen.swapAsk = true ∧ getR d R.FEN_IMG_STATUS = getR b R.FEN_IMG_STATUS) ∧
              ∀ x, imgRecheck b.fen.staged (presentCells b) (stepMsNow b) = some x → d.fen = b.fen ∧ imgState d = 4 ∧
                getF d F.FEN_IMG_STATUS_REJECT = x.1 % 256 ∧ getR d R.FEN_IMG_DETAIL = w32 x.2 ∧ getF d F.FEN_IMG_STATUS_SWAP_RESULT = 2) ∧
            (imgState b = 3 ∨ imgState b = 4 → imgState e = 0 ∧ e.fen.staged = [] ∧ e.fen.swapAsk = false) ∧
            (imgState b ≠ 3 → imgState b ≠ 4 → e.fen = b.fen ∧ getF e F.FEN_IMG_STATUS_WR_IGN = 1 ∧ imgState e = imgState b)))) ∧
    (framesRun b = true → imgState b = 2 → b.fen.load = none →
      ∃ c, exec .imgValidationDone ⟨b, q⟩ = .next ⟨c, q⟩ ∧ c = { b with regs := c.regs } ∧
        (let v := imgVerdict b.fen.staged (presentCells b) (stepMs (getF b F.FEN_CTL_STEP)) (if isF b F.LC_STATE_KEY_SVC then b.lc.keySvc else none)
            (isF b F.FEN_IMG_CTL_SIG_REQ);
          (v = none → imgState c = 3 ∧ getF c F.FEN_IMG_STATUS_REJECT = 0 ∧ getR c R.FEN_IMG_STAGED_ID = w32 (imgW b.fen.staged 0x10) ∧
            getR c R.FEN_IMG_NCALC = w32 (imgNodes b.fen.staged (presentCells b))) ∧
          ∀ x, v = some x → imgState c = 4 ∧ getF c F.FEN_IMG_STATUS_REJECT = x.1 % 256 ∧ getR c R.FEN_IMG_DETAIL = w32 x.2)) ∧
    (framesRun b = true → imgState b ≠ 2 → exec .imgValidationDone ⟨b, q⟩ = .next ⟨b, q⟩) ∧
    (∀ (r : Fin 16) (d : Desc), canStart b r.val = true → d.resvd = 0 → tail0 d = true → d.p0 = 0 → d.addr = 0 →
      ∃ c, exec (.imgSwap r d) ⟨b, q⟩ = .next ⟨c, q⟩ ∧ c.lc = b.lc ∧
        (b.lc.acting = .retired → CmdCompletes r.val 0x07 d 0 St.notPermitted 0 0 b c) ∧
        (b.lc.acting ≠ .retired → imgState b ≠ 3 →
          CmdCompletes r.val 0x07 d 2 St.refused (getR c R.FEN_IMG_STATUS).toNat 0 b c ∧ getF c F.FEN_IMG_STATUS_SWAP_RESULT = 2) ∧
        (b.lc.acting ≠ .retired → imgState b = 3 → imgRecheck b.fen.staged (presentCells b) (stepMsNow b) = none →
          CmdCompletes r.val 0x07 d 0 St.done (getR b R.FEN_IMG_STATUS).toNat 0 b c ∧ c.fen.swapAsk = true) ∧
        (∀ x, b.lc.acting ≠ .retired → imgState b = 3 → imgRecheck b.fen.staged (presentCells b) (stepMsNow b) = some x →
          CmdCompletes r.val 0x07 d 2 St.refused (getR c R.FEN_IMG_STATUS).toNat 0 b c ∧ imgState c = 4 ∧ c.fen.swapAsk = b.fen.swapAsk)) ∧
    (∀ (r : Fin 16) (d : Desc) (ws : List Word), canStart b r.val = true → d.resvd = 0 → d.p0 = 0 → badAddr d.addr = false → d.p3 = 0 → d.p4 = 0 →
      b.lc.acting ≠ .retired → memOut b = false → stageShut b = false → d.p1.toNat % 4 = 0 → d.p2.toNat % 4 = 0 → d.p1.toNat + d.p2.toNat ≤ 16777216 →
      ∃ c, exec (.imgLoad r d (some ws)) ⟨b, q⟩ = .next ⟨c, q⟩ ∧ CmdCompletes r.val 0x06 d 0 St.done (getR c R.FEN_IMG_STATUS).toNat 0 b c ∧ imgState c = 1 ∧
        (∀ i, mapGet (fun _ => 0) c.fen.staged i =
          if d.p1.toNat / 4 ≤ i ∧ i < d.p1.toNat / 4 + d.p2.toNat / 4 then ws.getD (i - d.p1.toNat / 4) 0 else mapGet (fun _ => 0) b.fen.staged i) ∧
        RegsBut [R.HST_SQ_STATUS r.val, R.FEN_IMG_STATUS] b c)

/-- O57. A POL_OVR_GO, POL_OVR_CLEAR or POL_OVERRIDE waits with its fields, or is refused with 3 where sixteen wait. OVERRIDE_TAKEUP at a step boundary
answers a request: 4 for a kind out of range, 2 in a mode that does not permit it, 5 or 6 for a clear with and without an override in force, 4 for a field
out of range, 3 where sixteen are in force, else 1 with the override in force. OVERRIDE_EXPIRY ends and journals the overrides whose steps have run out.
POLICY_MODE_CHANGE puts the wanted mode in force and keeps the overrides it permits. RIPPLE_CAPTURE_DONE, once a step in AUTO, orders a notch at the
strongest line in range (the lines are those handed in where the block does not hold the capture whole: log entry 22). -/
def Obligations.PolicyOverrides : Prop :=
  ∀ (b : Block) (q : List Instr),
    (∀ v : Word, ready b = true →
      (∃ c, exec (.polOvrGo v) ⟨b, q⟩ = .next ⟨c, q⟩ ∧ OverrideAsked (v ||| 0x1000000) b c) ∧
      ∃ c, exec (.polOvrClear v) ⟨b, q⟩ = .next ⟨c, q⟩ ∧ OverrideAsked (v ||| 0x3000000) b c) ∧
    (∀ (r : Fin 16) (d : Desc), canStart b r.val = true → d.resvd = 0 → bitsOf d.p0.toNat 26 2 = 0 → d.addr = 0 → d.p2 = 0 → d.p3 = 0 → d.p4 = 0 →
      ∃ c, exec (.polOverride r d) ⟨b, q⟩ = .next ⟨c, q⟩ ∧ c.lc = b.lc ∧
        (b.pol.wait.length < 16 → CmdWaits r.val 0x0E d (.override 0) b c ∧
          c.pol = { b.pol with wait := b.pol.wait ++ [ovrWord d.p0.toNat d.p1.toNat (some r.val)] }) ∧
        (16 ≤ b.pol.wait.length → CmdCompletes r.val 0x0E d 3 St.refused 0 0 b c ∧ c.pol = b.pol)) ∧
    (framesRun b = true → frame b % stepFrames b = 0 →
      (∀ o : Override, b.pol.wait = [o] → o.ring = none → ∃ c, exec .overrideTakeup ⟨b, q⟩ = .next ⟨c, q⟩ ∧ c.pol.wait = [] ∧ c.lc = b.lc ∧ c.clock = b.clock ∧
        getF c F.POL_STATUS_N_OVR = c.pol.ovr.length % 32 ∧
        (o.kind < 1 ∨ 5 < o.kind → getF c F.POL_OVR_STATUS_RESULT = 4 ∧ c.pol.ovr = b.pol.ovr) ∧
        (1 ≤ o.kind → o.kind ≤ 5 → kindOk (polMode b) o.kind = false → getF c F.POL_OVR_STATUS_RESULT = 2 ∧ c.pol.ovr = b.pol.ovr) ∧
        (1 ≤ o.kind → o.kind ≤ 5 → kindOk (polMode b) o.kind = true → o.clear = true →
          c.pol.ovr = b.pol.ovr.filter (fun y => !(y.kind == o.kind && y.target == o.target)) ∧
          getF c F.POL_OVR_STATUS_RESULT = if b.pol.ovr.any (fun y => y.kind == o.kind && y.target == o.target) then 5
            else if ovrTarget b o then 6 else 4) ∧
        (1 ≤ o.kind → o.kind ≤ 5 → o.clear = false →
          (kindOk (polMode b) o.kind = true → ovrFields b o = false → getF c F.POL_OVR_STATUS_RESULT = 4 ∧ c.pol.ovr = b.pol.ovr) ∧
          (kindOk (polMode b) o.kind = true → ovrFields b o = true →
            (∀ y ∈ b.pol.ovr, ¬ (y.kind = o.kind ∧ y.target = o.target)) → 16 ≤ b.pol.ovr.length →
            getF c F.POL_OVR_STATUS_RESULT = 3 ∧ c.pol.ovr = b.pol.ovr) ∧
          (kindOk (polMode b) o.kind = true → ovrFields b o = true →
            (b.pol.ovr.length < 16 ∨ ∃ y ∈ b.pol.ovr, y.kind = o.kind ∧ y.target = o.target) →
            getF c F.POL_OVR_STATUS_RESULT = 1 ∧ getF c F.POL_OVR_STATUS_CNT = min (getF b F.POL_OVR_STATUS_CNT + 1) 65535 ∧
            c.pol.ovr = b.pol.ovr.filter (fun y => !(y.kind == o.kind && y.target == o.target)) ++ [{ o with clear := false, ring := none }]))) ∧
      (polWanted b ≠ polMode b → ∃ c, exec .policyModeChange ⟨b, q⟩ = .next ⟨c, q⟩ ∧ polMode c = polWanted b ∧
        c.pol.ovr = b.pol.ovr.filter (fun o => kindOk (polWanted b) o.kind) ∧ c.lc = b.lc ∧ c.clock = b.clock ∧ c.pwr = b.pwr ∧
        (polMode b = 2 → c.imp.policy = none ∧ c.pol.notch = [] ∧ c.bal.targets = []) ∧ (polWanted b = 0 → c.pol.eval = [])) ∧
      (polWanted b = polMode b → exec .policyModeChange ⟨b, q⟩ = .next ⟨b, q⟩)) ∧
    (framesRun b = true → frame b % stepFrames b ≠ 0 →
      exec .overrideTakeup ⟨b, q⟩ = .next ⟨b, q⟩ ∧ exec .policyModeChange ⟨b, q⟩ = .next ⟨b, q⟩) ∧
    (framesRun b = true →
      (b.pol.ovr.any (·.clear) = true → ∃ c, exec .overrideExpiry ⟨b, q⟩ = .next ⟨c, q⟩ ∧ c.pol = { b.pol with ovr := b.pol.ovr.filter fun o => !o.clear } ∧
        c.led.queue = b.led.queue ++ (b.pol.ovr.filter (·.clear)).map (fun o => ⟨0x05, o.kind * 16 + 4, o.target, o.arg % 2 ^ 32, devF b⟩) ∧
        c.sl.events = b.sl.events ++ (b.pol.ovr.filter (·.clear)).map (fun o => ⟨0x17, o.kind * 16 + 4, o.target, o.arg, 0, frame b, devF b⟩) ∧
        RegsBut [R.POL_STATUS] b c) ∧
      (b.pol.ovr.any (·.clear) = false → exec .overrideExpiry ⟨b, q⟩ = .next ⟨b, q⟩) ∧
      (∀ lines : List (Nat × Nat), polMode b = 2 → b.pol.rippled = false → (b.pwr.state = .run ∨ b.pwr.state = .safe) →
        ∃ c, exec (.rippleCaptureDone lines) ⟨b, q⟩ = .next ⟨c, q⟩ ∧ c.pol.rippled = true ∧
          c = { b with pol := { b.pol with rippled := true, notch := c.pol.notch }, fe := { b.fe with notchDue := c.fe.notchDue } } ∧
          ∀ mhz amp, b.pol.ripple.length < 4096 → lines = [(mhz, amp)] → 200000 ≤ mhz → mhz ≤ 30000000 → getF b F.POL_NOTCH_CTL_MIN_AMP ≤ amp → actF b (F.FLT_NOTCH_SRC 1) = 1 →
            isF b (F.FLT_NOTCH_POL_ACTIVE 1) = false → ovrOf b 3 1 = none →
            (1, some ((roundDiv mhz 1000).toNat, getF b F.POL_NOTCH_CTL_Q)) ∈ c.fe.notchDue) ∧
      (∀ lines : List (Nat × Nat), polMode b ≠ 2 ∨ b.pol.rippled = true → exec (.rippleCaptureDone lines) ⟨b, q⟩ = .next ⟨b, q⟩))

/-- O58. CW_REENUM at a module with a key, ROLE root and a MODE makes it root and sends the token north; the enumeration ends at a later tick (cwEnumEnd,
which FRAME_TICK runs) with the followers found from the north and, where the token did not come back, from the south numbered, and exactly these marked;
without a key or a MODE the Causeway is off. CW_ENUM_TOKEN, discarded where its tag fails, gives a module that is no root the address it carries, or leaves
it UNASSIGNED, from the south only where no token from the north has numbered it (DESIGN CHOICE, log entry 38); it puts a MODE or ROLE written since in
force; a root that meets a token is in conflict, off the radio, and passes it on. CW_LEARN takes what was found for what is expected; CW_RENEG waits for
the chain tick; CW_WAKE_TX sends a wake tone where the wire is in use. CW_HOP_TRAINING trains a hop at the first rate that passes or leaves it broken;
CW_HOP_BREAK breaks one direction at the root, whose next tick (breakShow, part of FRAME_TICK) shows the ring reversed, and makes any other module on the
wire send its notice, whose type is open (log entry 38), and outside an enumeration resend the record it has kept; CW_ROUTE_RESTORE ends the reversal at a
chain tick, at the root once its conditions hold, at any other module on the wire as the root brings it about. -/
def Obligations.CausewayRoles : Prop :=
  ∀ (b : Block) (q : List Instr),
    (∀ (v : Word) (e : CwEnum), ready b = true → bitsOf v.toNat 13 3 = 0 →
      (noKey b = false → bitsOf v.toNat 0 2 ≠ 0 → bitsOf v.toNat 2 1 = 1 →
        ∃ c, exec (.cwReenum v e) ⟨b, q⟩ = .next ⟨c, q⟩ ∧ c.cw.enumRun = some (devF b + (if e.whole then 1 else 22), e) ∧ c.cw.mode = bitsOf v.toNat 0 2 ∧
          c.cw.root = true ∧ roleAct c = 1 ∧ getF c F.CW_STATUS_ADDR = 0 ∧ getF c F.CW_STATUS_CONFLICT = 0 ∧ getF c F.CW_STATUS_ENUM_BUSY = 1 ∧
          c.lc = b.lc ∧ c.clock = b.clock ∧ c.out = b.out ++ [.causeway .token ([1, 0] ++ cwTag b 0 0 6 [1, 0])]) ∧
      ChainEnumDone e b (cwEnumEnd e b) ∧
      (noKey b = true ∨ bitsOf v.toNat 0 2 = 0 → ∃ c, exec (.cwReenum v e) ⟨b, q⟩ = .next ⟨c, q⟩ ∧ c.cw.nodes = [] ∧
        getR c R.CW_STATUS = resetWord R.CW_STATUS ∧ c.lc = b.lc ∧ c.out = b.out)) ∧
    (∀ v : Word, ready b = true →
      (bitOf v.toNat 12 = false → bitsOf v.toNat 14 2 = 0 → (∀ a ∈ b.cw.nodes, 1 ≤ a ∧ a ≤ 31) →
        ∃ c, exec (.cwLearn v) ⟨b, q⟩ = .next ⟨c, q⟩ ∧ c = { b with regs := c.regs, sl := { b.sl with cond := c.sl.cond } } ∧
          getF c F.CW_TOPO_N_EXPECT = getF b F.CW_STATUS_N_FOLLOW ∧ (∀ a, 1 ≤ a → a ≤ 31 → getR c (R.CW_EXPECT_ID a) = getR b (R.CW_NODE_ID a)) ∧
          (cwMode b ≠ 0 → roleAct b = 1 → ∀ a ∈ b.cw.nodes, getF c (F.CW_NODE_STATUS_ID_OK a) = 1)) ∧
      (bitsOf v.toNat 12 2 = 0 → bitOf v.toNat 15 = false → ∃ c, exec (.cwReneg v) ⟨b, q⟩ = .next ⟨c, q⟩ ∧
        c = { b with regs := c.regs, cw := { b.cw with reneg := b.cw.reneg || isRoot b } } ∧ RegsBut [R.CW_CTL] b c) ∧
      (bitsOf v.toNat 12 3 = 0 → ∃ c, exec (.cwWakeTx v) ⟨b, q⟩ = .next ⟨c, q⟩ ∧ RegsBut [R.CW_CTL] b c ∧
        c = { b with regs := c.regs, out := b.out ++ if wired b then [.causeway .wakeTone []] else [] })) ∧
    (framesRun b = true →
      (∀ (south : Bool) (node : Fin 32) (next unas : BitVec 6) (m : Tagged),
        (tagFits b node.val 6 [next.toNat, unas.toNat] m = false → ∃ c, exec (.cwEnumToken south node ⟨next, unas, m⟩) ⟨b, q⟩ = .next ⟨c, q⟩ ∧
          getR c R.CW_STATUS = getR b R.CW_STATUS ∧
          c = { b with regs := c.regs, cw := { b.cw with tagFails := c.cw.tagFails }, sl := { b.sl with cond := c.sl.cond } }) ∧
        (tagFits b node.val 6 [next.toNat, unas.toNat] m = true →
          (roleAct b = 1 → cwMode b ≠ 0 → ∃ c, exec (.cwEnumToken south node ⟨next, unas, m⟩) ⟨b, q⟩ = .next ⟨c, q⟩ ∧
            InConflict (.causeway .token ([next.toNat, unas.toNat] ++ cwTag b 0 node.val 6 [next.toNat, unas.toNat])) b c) ∧
          (cwMode b = 0 → noKey b = true ∨ getF b F.CW_CTL_MODE = 0 ∨ getF b F.CW_CTL_ROLE = 1 →
            exec (.cwEnumToken south node ⟨next, unas, m⟩) ⟨b, q⟩ = .next ⟨tagGood node.val b, q⟩) ∧
          (roleAct b ≠ 1 → south = true → b.cw.tokenAt.any (fun d => decide (devF b ≤ d + 100)) = true →
            exec (.cwEnumToken south node ⟨next, unas, m⟩) ⟨b, q⟩ = .next ⟨tagGood node.val b, q⟩) ∧
          (roleAct b ≠ 1 → cwMode b ≠ 0 → south = false ∨ b.cw.tokenAt = none →
            (getF b F.CW_CTL_MODE = 0 → ∃ c, exec (.cwEnumToken south node ⟨next, unas, m⟩) ⟨b, q⟩ = .next ⟨c, q⟩ ∧ cwMode c = 0 ∧ c.cw.nodes = [] ∧
              getR c R.CW_STATUS = resetWord R.CW_STATUS ∧ c.lc = b.lc ∧ c.out = b.out) ∧
            (getF b F.CW_CTL_MODE ≠ 0 → getF b F.CW_CTL_ROLE = 1 → ∃ c, exec (.cwEnumToken south node ⟨next, unas, m⟩) ⟨b, q⟩ = .next ⟨c, q⟩ ∧ roleAct c = 1 ∧
              getF c F.CW_STATUS_CONFLICT = 1 ∧ getF c F.CW_STATUS_ADDR = 0 ∧ c.lc = b.lc ∧
              c.out = b.out ++ [.causeway .token ([next.toNat, unas.toNat] ++ cwTag b 0 node.val 6 [next.toNat, unas.toNat])])) ∧
          (roleAct b ≠ 1 → noKey b = false → getF b F.CW_CTL_MODE ≠ 0 → getF b F.CW_CTL_ROLE = 0 → south = false ∨ b.cw.tokenAt = none →
            ∃ c, exec (.cwEnumToken south node ⟨next, unas, m⟩) ⟨b, q⟩ = .next ⟨c, q⟩ ∧ c.cw.tokenAt = some (devF b) ∧ c.cw.mode = getF b F.CW_CTL_MODE ∧
              c.cw.root = false ∧ c.lc = b.lc ∧ getF c F.CW_STATUS_REVERSED = nat01 south ∧
              (1 ≤ next.toNat → next.toNat ≤ 31 → roleAct c = 2 ∧ getF c F.CW_STATUS_ADDR = next.toNat ∧ ∃ id,
                c.out = b.out ++ .causeway .identifier (next.toNat :: id :: cwTag b 0 next.toNat 6 (next.toNat :: le4 id)) ::
                  (if south = false then [.causeway .token ([next.toNat + 1, unas.toNat] ++ cwTag b 0 next.toNat 6 [next.toNat + 1, unas.toNat])]
                    else if next.toNat = 1 then []
                    else [.causeway .token ([next.toNat - 1, unas.toNat] ++ cwTag b 0 next.toNat 6 [next.toNat - 1, unas.toNat])])) ∧
              (south = false → next.toNat = 0 ∨ 31 < next.toNat → roleAct c = 3 ∧ getF c F.CW_STATUS_ADDR = 0 ∧ c.cw.kept = none ∧
                c.out = b.out ++ [.causeway .token ([next.toNat, min 63 (unas.toNat + 1)] ++
                  cwTag b 0 node.val 6 [next.toNat, min 63 (unas.toNat + 1)])])))) ∧
      (∀ (h : BitVec 7) (peer : BitVec 2) (fails : Fin 5),
        (wired b = false ∨ roleAct b = 1 ∧ b.cw.modules < h.toNat → exec (.cwHopTraining h peer fails) ⟨b, q⟩ = .next ⟨b, q⟩) ∧
        (wired b = true → (roleAct b = 1 → h.toNat ≤ b.cw.modules) →
          ∃ c, exec (.cwHopTraining h peer fails) ⟨b, q⟩ = .next ⟨c, q⟩ ∧ (∀ k, k ≠ h.toNat → cwHop c k = cwHop b k) ∧ c.cw.nodes = b.cw.nodes ∧
            c.lc = b.lc ∧
            (let r := (if hopEnd b h.toNat then max b.cw.maxRate peer.toNat else peer.toNat) + fails.val;
              (r ≤ 3 → (cwHop c h.toNat).trained = true ∧ (cwHop c h.toNat).rate = r ∧ (cwHop c h.toNat).fwdBroken = false ∧
                (cwHop c h.toNat).retBroken = false ∧ (h.toNat ≤ 31 → getF c (F.CW_HOP_STATUS_TRAINED h.toNat) = 1 ∧
                  getF c (F.CW_HOP_STATUS_RATE h.toNat) = r)) ∧
              (3 < r → (cwHop c h.toNat).trained = false ∧ (cwHop c h.toNat).fwdBroken = true ∧ (cwHop c h.toNat).retBroken = true ∧
                (isRoot b = true → (cwHop b h.toNat).fwdBroken = false → (cwHop b h.toNat).retBroken = false → c.cw.breakOwed = true))))) ∧
      (∀ (h : BitVec 7) (fwd : Bool),
        (wired b = false → exec (.cwHopBreak h fwd) ⟨b, q⟩ = .next ⟨b, q⟩) ∧
        (wired b = true → isRoot b = true → h.toNat ≤ b.cw.modules →
          (if fwd then (cwHop b h.toNat).fwdBroken else (cwHop b h.toNat).retBroken) = false →
          ∃ c, exec (.cwHopBreak h fwd) ⟨b, q⟩ = .next ⟨c, q⟩ ∧ c.cw = { b.cw with hops := c.cw.hops, breakOwed := true } ∧ (∀ k, k ≠ h.toNat → cwHop c k = cwHop b k) ∧
            cwHop c h.toNat = { cwHop b h.toNat with
              fwdBroken := (cwHop b h.toNat).fwdBroken || fwd, retBroken := (cwHop b h.toNat).retBroken || !fwd, trained := false, since := devF b } ∧
            getF c F.CW_EVT_CNT_BREAKS = min (getF b F.CW_EVT_CNT_BREAKS + 1) 65535 ∧ RegsBut [R.CW_EVT_CNT, R.CW_HOP_STATUS h.toNat] b c ∧ c.lc = b.lc) ∧
        (wired b = true → isRoot b = false → ∃ c, exec (.cwHopBreak h fwd) ⟨b, q⟩ = .next ⟨c, q⟩ ∧ getF c F.CW_STATUS_REVERSED = 1 ∧
          c = { b with regs := c.regs, out := b.out ++ .causeway .breakNotice (h.toNat :: cwTag b (frame b) (getF b F.CW_STATUS_ADDR) noticeKind [h.toNat]) :: (if enumerating b then [] else b.cw.kept.toList).map fun r => .chainRecord { r with rerouted := true } (cwTag b (frame b) (getF b F.CW_STATUS_ADDR) 2 (recBytes { r with rerouted := true })) })) ∧
      (b.cw.breakOwed = true → getF (breakShow b) F.CW_STATUS_REVERSED = 1 ∧ (breakShow b).cw.breakOwed = false ∧
        (roleAct b = 1 → (condOf (breakShow b) Slot.cwBreak).level = true)) ∧
      (isRoot b = true → getF b F.CW_STATUS_REVERSED = 1 → frame b % 20 = 0 →
        (∀ h, h ≤ b.cw.modules → (cwHop b h).trained = true ∧ (cwHop b h).since + max 100 (getF b F.CW_CTL_RESTORE) ≤ devF b) →
        (∀ a ∈ b.cw.nodes, wiredReach b a = true) →
        ∃ c, exec .cwRouteRestore ⟨b, q⟩ = .next ⟨c, q⟩ ∧ c = { b with regs := c.regs, sl := { b.sl with cond := c.sl.cond } } ∧
          getF c F.CW_STATUS_REVERSED = 0 ∧ getF c F.CW_EVT_CNT_RESTORES = min (getF b F.CW_EVT_CNT_RESTORES + 1) 65535 ∧
          (condOf c Slot.cwBreak).level = false ∧ RegsBut [R.CW_STATUS, R.CW_EVT_CNT] b c) ∧
      (wired b = true → 2 ≤ roleAct b → frame b % 20 = 0 → exec .cwRouteRestore ⟨b, q⟩ = .next ⟨setF F.CW_STATUS_REVERSED 0 b, q⟩) ∧
      (frame b % 20 ≠ 0 ∨ ((roleAct b < 2 ∨ wired b = false) ∧ (isRoot b = false ∨ getF b F.CW_STATUS_REVERSED = 0)) →
        exec .cwRouteRestore ⟨b, q⟩ = .next ⟨b, q⟩))

/-- O59. A wired follower passes sync blocks on, counts the frames with one within 100 phase units, locks at the twentieth in a row and drops a record the
root has acknowledged; a root that hears another root is in conflict. FRAME_NUMBER_JUMP is the tick at which the frame number of a follower locked by wire
or radio becomes the root's, the timestamp moving on as at any tick (jumpNow, its part of that tick, abandons the model step and checks in progress).
SYNC_LOSS unlocks a follower 20 frames after its last sync, unless the radio keeps it. HEARTBEAT_RECEIVE records a follower's FAULT and severity at the
root and ends its misses, and any other module on the wire passes it on; CW_HB_LOST raises the follower's source at the limit. CHAIN_RECORD_RECEIVE keeps a
record whose tag passes once, and any other module passes it on; none travels during an enumeration, which a follower takes to last 100 frames from its
token (DESIGN CHOICE, log entry 38). A failed tag counts for its sender, a passing one clears the count. CW_PROFILE_CHANGE follows the slowest hop every
200 frames alone. -/
def Obligations.CausewaySync : Prop :=
  ∀ (b : Block) (q : List Instr),
    (framesRun b = true →
      (∀ x : SyncBlock,
        (wired b = false → exec (.syncBlock x) ⟨b, q⟩ = .next ⟨b, q⟩) ∧
        (wired b = true → isFollower b = true → b.cw.syncAt = some (devF b) → exec (.syncBlock x) ⟨b, q⟩ = .next ⟨{ b with
          cw := { b.cw with kept := if bitOf x.acks.toNat (getF b F.CW_STATUS_ADDR) then none else b.cw.kept }
          out := b.out ++ [.causeway .sync [x.frame.toNat, x.acks.toNat, x.unas.toNat]] }, q⟩) ∧
        (wired b = true → isFollower b = true → b.cw.syncAt ≠ some (devF b) →
          ∃ c, exec (.syncBlock x) ⟨b, q⟩ = .next ⟨c, q⟩ ∧ c.cw.lastSync = devF b ∧ c.cw.syncAt = some (devF b) ∧
            c.cw.locked = (if x.phase.natAbs ≤ 100 then min 20 ((if b.cw.syncAt.any (fun d => devF b == d + 1) then b.cw.locked else 0) + 1) else 0) ∧
            c.cw.kept = (if bitOf x.acks.toNat (getF b F.CW_STATUS_ADDR) then none else b.cw.kept) ∧
            getF c F.CW_SYNC_PHASE = unsigned 16 (clampInt (-32768) 32767 x.phase) ∧ getF c F.CW_SYNC_TRIM = unsigned 16 (clampInt (-5000) 5000 x.trim) ∧
            getF c F.CW_STATUS_LOCKED = (if c.cw.locked = 20 then 1 else getF b F.CW_STATUS_LOCKED) ∧ getF c F.CW_STATUS_SYNC_RADIO = 0 ∧
            (condOf c Slot.cwSync).level = false ∧ RegsBut [R.CW_SYNC, R.CW_STATUS] b c ∧ c.clock = b.clock ∧ c.lc = b.lc ∧
            c.out = b.out ++ .causeway .sync [x.frame.toNat, x.acks.toNat, x.unas.toNat] :: if hbtWave b then [.causeway .heartbeat [ownChar b]] else []) ∧
        (wired b = true → roleAct b = 1 → x.foreign = true → ∃ c, exec (.syncBlock x) ⟨b, q⟩ = .next ⟨c, q⟩ ∧
          InConflict (.causeway .sync [x.frame.toNat, x.acks.toNat, x.unas.toNat]) b c) ∧
        (wired b = true → roleAct b = 3 → exec (.syncBlock x) ⟨b, q⟩ =
          .next ⟨{ b with out := b.out ++ [.causeway .sync [x.frame.toNat, x.acks.toNat, min 63 (x.unas.toNat + 1)]] }, q⟩) ∧
        (wired b = true → isRoot b = true → x.foreign = false →
          ∃ c, exec (.syncBlock x) ⟨b, q⟩ = .next ⟨c, q⟩ ∧ getF c F.CW_TOPO_N_UNASSIGNED = x.unas.toNat ∧ c.cw = { b.cw with hops := c.cw.hops } ∧
            (x.viol = [] → c.cw = b.cw) ∧ (∀ h n, x.viol = [(h, n)] → n ≠ 0 → h.toNat ≤ b.cw.modules → h.toNat ≤ 31 →
              (cwHop c h.toNat).since = devF b ∧ getF c (F.CW_HOP_STATUS_CV h.toNat) = min (getF b (F.CW_HOP_STATUS_CV h.toNat) + n) 65535) ∧ c.lc = b.lc)) ∧
      (∀ (root : BitVec 55) (ptm : BitVec 64),
        (isFollower b = true → isF b F.CW_STATUS_LOCKED = true ∨ isF b F.CW_STATUS_SYNC_RADIO = true → (frame b + 1) % 2 ^ 55 ≠ root.toNat →
          ∃ c, exec (.frameNumberJump ⟨root, ptm⟩) ⟨b, q⟩ = .next ⟨c, q⟩ ∧ frame c = root.toNat ∧ c.clock.ticks = b.clock.ticks + 512 ∧ c.clock.ptmNs = ptm.toNat ∧
            c.cw.jumpAt = some (devF b + 1) ∧ c.lc = { b.lc with acting := b.lc.life } ∧ (b.fw.job = none → c.fw = b.fw) ∧ c.pins = b.pins ∧
            ∃ e ∈ c.sl.events, e.code = 0x16 ∧ e.v0 = (frame b + 1) % 2 ^ 55 % 2 ^ 32 ∧ e.v1 = root.toNat % 2 ^ 32) ∧
        (isFollower b = false ∨ isF b F.CW_STATUS_LOCKED = false ∧ isF b F.CW_STATUS_SYNC_RADIO = false ∨ (frame b + 1) % 2 ^ 55 = root.toNat →
          exec (.frameNumberJump ⟨root, ptm⟩) ⟨b, q⟩ = .next ⟨b, q⟩) ∧
        frame (jumpNow root.toNat b) = root.toNat ∧ (jumpNow root.toNat b).clock.ticks = b.clock.ticks ∧ (jumpNow root.toNat b).act = b.act ∧
        (jumpNow root.toNat b).fe.chkPend = [] ∧ (jumpNow root.toNat b).fe.quiet = none ∧
        (∀ s, b.fen.step = some s → s.layout = false → (jumpNow root.toNat b).fen.step = none)) ∧
      (isFollower b = true → isF b F.CW_STATUS_SYNC_RADIO = false → b.cw.lastSync + 20 ≤ devF b →
        ∃ c, exec .syncLoss ⟨b, q⟩ = .next ⟨c, q⟩ ∧ getF c F.CW_STATUS_LOCKED = 0 ∧ (condOf c Slot.cwSync).level = true ∧ RegsBut [R.CW_STATUS] b c ∧
          c = { b with regs := c.regs, cw := { b.cw with locked := 0 }, sl := { b.sl with cond := c.sl.cond } }) ∧
      (isFollower b = false ∨ isF b F.CW_STATUS_SYNC_RADIO = true ∨ devF b < b.cw.lastSync + 20 → exec .syncLoss ⟨b, q⟩ = .next ⟨b, q⟩) ∧
      (∀ (node : Fin 32) (fault : Bool) (sev : BitVec 2),
        (isRoot b = true → wired b = true → node.val ∈ b.cw.nodes →
          ∃ c, exec (.heartbeatReceive node fault sev) ⟨b, q⟩ = .next ⟨c, q⟩ ∧ getF c (F.CW_NODE_STATUS_HB_MISS node.val) = 0 ∧
            getF c (F.CW_NODE_STATUS_HB_OK node.val) = 1 ∧ getF c (F.CW_NODE_STATUS_FAULT node.val) = nat01 fault ∧
            getF c (F.CW_NODE_STATUS_HB_SEV node.val) = sev.toNat ∧ (condOf c (Slot.cwHbLost node.val)).level = false ∧ node.val ∈ c.cw.heard ∧
            RegsBut [R.CW_NODE_STATUS node.val] b c ∧ c = { b with regs := c.regs, cw := { b.cw with heard := c.cw.heard }, sl := { b.sl with cond := c.sl.cond } }) ∧
        (passesOn b = true → exec (.heartbeatReceive node fault sev) ⟨b, q⟩ =
          .next ⟨{ b with out := b.out ++ [.causeway .heartbeat [node.val * 8 + nat01 fault * 4 + sev.toNat]] }, q⟩) ∧
        (passesOn b = false → isRoot b = false ∨ wired b = false ∨ node.val ∉ b.cw.nodes → exec (.heartbeatReceive node fault sev) ⟨b, q⟩ = .next ⟨b, q⟩)) ∧
      (∀ node : Fin 32,
        (isRoot b = true → node.val ∈ b.cw.nodes → hbLimit b (radioOnly b node.val && !wiredReach b node.val) ≤ getF b (F.CW_NODE_STATUS_HB_MISS node.val) →
          ∃ c, exec (.cwHbLost node) ⟨b, q⟩ = .next ⟨c, q⟩ ∧ (condOf c (Slot.cwHbLost node.val)).level = true ∧ c = { b with sl := { b.sl with cond := c.sl.cond } } ∧
            ∀ i, i ≠ Slot.cwHbLost node.val → condOf c i = condOf b i) ∧
        (isRoot b = false ∨ node.val ∉ b.cw.nodes ∨ getF b (F.CW_NODE_STATUS_HB_MISS node.val) < hbLimit b (radioOnly b node.val && !wiredReach b node.val) →
          exec (.cwHbLost node) ⟨b, q⟩ = .next ⟨b, q⟩)) ∧
      (∀ r : ChainRecord,
        (wired b = true → enumerating b = false →
          (isRoot b = false → roleAct b ≠ 0 → exec (.chainRecordReceive r) ⟨b, q⟩ =
            .next ⟨{ b with out := b.out ++ [.chainRecord (recvRec r) (r.tagged.tag.map (·.toNat))] }, q⟩) ∧
          (isRoot b = true → r.node.val ∈ b.cw.nodes → mapGet (fun _ => 0) b.cw.done r.node.val ≠ r.frame.toNat + 1 →
            (tagFits b r.node.val 2 (recBytes (recvRec r)) r.tagged = true →
              ∃ c x, exec (.chainRecordReceive r) ⟨b, q⟩ = .next ⟨c, q⟩ ∧ c.cw.inbox = b.cw.inbox ++ [(devF b, x)] ∧ x.typ = 0x07 ∧ x.node = r.node.val ∧
                x.frame = r.frame.toNat ∧ x.payload = r.payload ∧ x.rerouted = (r.resent || !(cwBroken b).isEmpty) ∧ r.node.val ∈ c.cw.acks ∧
                mapGet (fun _ => 0) c.cw.done r.node.val = r.frame.toNat + 1 ∧ mapGet (fun _ => (0, 0)) c.cw.tagFails r.node.val = (0, 0) ∧
                getF c (F.CW_NODE_STATUS_SEV r.node.val) = bitsOf (r.payload.getD 0 0).toNat 12 4 % 8 ∧ c.lc = b.lc ∧ c.clock = b.clock) ∧
            (tagFits b r.node.val 2 (recBytes (recvRec r)) r.tagged = false →
              ∃ c, exec (.chainRecordReceive r) ⟨b, q⟩ = .next ⟨c, q⟩ ∧ c.cw = { b.cw with lossOwed := true, tagFails := c.cw.tagFails } ∧
                mapGet (fun _ => (0, 0)) c.cw.tagFails r.node.val = (devF b, tagRun b r.node.val) ∧ c.recs = b.recs ∧ c.lc = b.lc))) ∧
        (wired b = false ∨ enumerating b = true ∨ roleAct b = 0 ∨
            isRoot b = true ∧ (r.node.val ∉ b.cw.nodes ∨ mapGet (fun _ => 0) b.cw.done r.node.val = r.frame.toNat + 1) →
          exec (.chainRecordReceive r) ⟨b, q⟩ = .next ⟨b, q⟩)) ∧
      (∀ (node : Fin 32) (kind : Byte) (content tag : List Byte),
        let sent := b.out ++ if passesOn b && kind == 1 then [.causeway .tag (tag.map (·.toNat))] else []
        (isRoot b = false → isFollower b = false → exec (.cwTagReceive node kind content tag) ⟨b, q⟩ = .next ⟨{ b with out := sent }, q⟩) ∧
        (isRoot b = true ∨ isFollower b = true →
          let fr := if kind = 6 then 0 else if kind = 1 then frame b - frame b % 20 else if kind = 5 then frame b - frame b % 200 else frame b
          let ok := tagPasses b fr node.val kind.toNat (content.map (·.toNat)) (tag.map (·.toNat))
          ∃ c, exec (.cwTagReceive node kind content tag) ⟨b, q⟩ = .next ⟨c, q⟩ ∧ c.lc = b.lc ∧ c.clock = b.clock ∧ c.recs = b.recs ∧ c.out = sent ∧
            (ok = true → mapGet (fun _ => (0, 0)) c.cw.tagFails node.val = (0, 0) ∧ c.regs = b.regs) ∧
            (ok = false → mapGet (fun _ => (0, 0)) c.cw.tagFails node.val = (devF b, tagRun b node.val) ∧
              (4 ≤ tagRun b node.val → (condOf c Slot.cwAuth).level = true ∧ bitOf (condOf c Slot.cwAuth).levelDet node.val = true) ∧
              (kind = 1 → isRoot b = true → node.val ∈ b.cw.nodes →
                getF c (F.CW_NODE_STATUS_HB_MISS node.val) = min (getF b (F.CW_NODE_STATUS_HB_MISS node.val) + 20) 65535) ∧
              (kind = 2 → isRoot b = true → c.cw.lossOwed = true))))) ∧
    (∀ slow : BitVec 2,
      (framesRun b = true → frame b % 200 = 0 → isFollower b = true → isRoot b = false → wired b = true →
        ∃ c, exec (.cwProfileChange slow) ⟨b, q⟩ = .next ⟨c, q⟩ ∧ getF c F.CW_STATUS_SLOW_RATE = slow.toNat ∧ getF c F.CW_STATUS_PROFILE = min slow.toNat 2 ∧
          c = { b with regs := c.regs, sl := { b.sl with events := c.sl.events } } ∧ RegsBut [R.CW_STATUS] b c) ∧
      (framesRun b = false ∨ frame b % 200 ≠ 0 → exec (.cwProfileChange slow) ⟨b, q⟩ = .next ⟨b, q⟩))

/-- O60. Every 200 frames, and once, a module whose radio is in use takes the superframe's channel and, where it has sync, sends its packet in the slot of
its address: the root at once, a follower when its slot has come and it still has sync. A packet whose tag passes is heard: at the root from a follower, at
a follower from the root, which it locks to where no sync comes by wire; its clock's error is free within 5 µs (log entry 38). RADIO_LOSS sets the source's
condition at ten silent superframes. CW_FWD_GO and CW_FORWARD send the operations and wait, or end at once with 5 or 3; a response, which any other module
on the wire passes on, or 40 frames without one end them. -/
def Obligations.RadioAndForwarding : Prop :=
  ∀ (b : Block) (q : List Instr),
    (framesRun b = true → frame b % 200 = 0 → b.cw.sfAt ≠ devF b + 1 → radioUsed b = true → isRoot b = true ∨ isFollower b = true →
      (∀ a ∈ b.cw.nodes, 1 ≤ a ∧ a ≤ 31) →
      ∃ c, exec .radioSuperframe ⟨b, q⟩ = .next ⟨c, q⟩ ∧ c.cw.sfAt = devF b + 1 ∧ c.cw.sfOn = true ∧ c.cw.sfHeard = [] ∧ c.cw.phy = getF b F.CW_RF_CTL_PHY ∧ c.cw.rfAa = (getR b R.CW_RF_AA).toNat ∧ c.cw.rfTx = getF b F.CW_RF_CTL_TXPWR ∧
        getF c F.CW_RF_STATUS_CH = (radioChannel b (frame b / 200)).1 ∧ getF c F.CW_RF_STATUS_CHMAP_BAD = nat01 (radioChannel b (frame b / 200)).2 ∧
        c.lc = b.lc ∧ c.clock = b.clock ∧
        (isRoot b = false → isF b F.CW_STATUS_LOCKED = false → isF b F.CW_STATUS_SYNC_RADIO = false → getF c F.CW_RF_STATUS_ACTIVE = 0 ∧ c.out = b.out) ∧
        (isRoot b = true ∨ isF b F.CW_STATUS_LOCKED = true → getF c F.CW_RF_STATUS_ACTIVE = 1 ∧
          (getF b F.CW_STATUS_ADDR ≠ 0 → c.out = b.out ∧ c.cw.txAt = some (frame b / 200, devF b + getF b F.CW_STATUS_ADDR * 25 / 4)) ∧
          (getF b F.CW_STATUS_ADDR = 0 → c.cw.txAt = none ∧ ∃ bytes, c.out = b.out ++ [.causeway .radioPacket
            ((radioChannel b (frame b / 200)).1 :: (getR b R.CW_RF_AA).toNat :: getF b F.CW_RF_CTL_TXPWR :: bytes)]))) ∧
    (framesRun b = true → radioUsed b = true → isRoot b = true ∨ isFollower b = true → frame b % 200 ≠ 0 ∨ b.cw.sfAt = devF b + 1 →
      (∀ n d, b.cw.txAt = some (n, d) → d ≤ devF b → ∃ c bytes, exec .radioSuperframe ⟨b, q⟩ = .next ⟨c, q⟩ ∧ c.cw = { b.cw with txAt := none } ∧
        c.regs = b.regs ∧ c.out = b.out ++ if cwSynced b then [.causeway .radioPacket (getF b F.CW_RF_STATUS_CH :: b.cw.rfAa :: b.cw.rfTx :: bytes)] else []) ∧
      ((∀ n d, b.cw.txAt = some (n, d) → devF b < d) → exec .radioSuperframe ⟨b, q⟩ = .next ⟨b, q⟩)) ∧
    (framesRun b = false ∨ radioUsed b = false ∨ (isRoot b = false ∧ isFollower b = false) → exec .radioSuperframe ⟨b, q⟩ = .next ⟨b, q⟩) ∧
    (framesRun b = true →
      (∀ bytes : List Byte,
        let bs := bytes.map (·.toNat)
        let a := bs.getD 0 0 % 256 / 8
        let len := if b.cw.phy = 0 then 52 else 20
        let heard := isRoot b = true ∧ bs.getD 0 0 % 8 = 0 ∧ a ∈ b.cw.nodes ∨ isRoot b = false ∧ isFollower b = true ∧ bs.getD 0 0 % 8 = 1
        (radioUsed b = false ∨ b.cw.sfOn = false ∨ bs.length ≠ len ∨ ¬ heard → exec (.radioPacketReceive bytes) ⟨b, q⟩ = .next ⟨b, q⟩) ∧
        (isFollower b = false ∨ cwSynced b = true → radioFirst bs b = frame b - frame b % 200) ∧
        (radioUsed b = true → b.cw.sfOn = true → bs.length = len →
          (heard → tagPasses b (radioFirst bs b) a 5 (bs.take (len - 4)) (bs.drop (len - 4)) = false →
            ∃ c, exec (.radioPacketReceive bytes) ⟨b, q⟩ = .next ⟨c, q⟩ ∧
              c = { b with regs := c.regs, cw := { b.cw with tagFails := c.cw.tagFails }, sl := { b.sl with cond := c.sl.cond } }) ∧
          (tagPasses b (radioFirst bs b) a 5 (bs.take (len - 4)) (bs.drop (len - 4)) = true →
            (isRoot b = true → bs.getD 0 0 % 8 = 0 → a ∈ b.cw.nodes →
              ∃ c, exec (.radioPacketReceive bytes) ⟨b, q⟩ = .next ⟨c, q⟩ ∧ a ∈ c.cw.sfHeard ∧ c.cw.sfNone = 0 ∧ (condOf c Slot.cwRadio).level = false ∧
                c.lc = b.lc ∧ c.clock = b.clock ∧ getF c (F.CW_NODE_STATUS_HB_MISS a) = 0 ∧ getF c (F.CW_NODE_STATUS_HB_OK a) = 1 ∧
                getF c (F.CW_NODE_STATUS_FAULT a) = nat01 (bitOf (bs.getD 1 0 % 256) 7)) ∧
            (isRoot b = false → isFollower b = true → bs.getD 0 0 % 8 = 1 →
              ∃ c, exec (.radioPacketReceive bytes) ⟨b, q⟩ = .next ⟨c, q⟩ ∧ a ∈ c.cw.sfHeard ∧ c.cw.sfNone = 0 ∧ c.lc = b.lc ∧ c.clock = b.clock ∧
                (wired b = false ∨ b.cw.lastSync + 20 ≤ devF b → getF c F.CW_STATUS_SYNC_RADIO = 1 ∧ (condOf c Slot.cwSync).level = false ∧
                  (signed 16 (getF c F.CW_SYNC_PHASE)).natAbs ≤ 500))))) ∧
      (∃ c, exec .radioLoss ⟨b, q⟩ = .next ⟨c, q⟩ ∧ c = { b with regs := c.regs, sl := { b.sl with cond := c.sl.cond } } ∧ RegsBut [R.CW_STATUS] b c ∧
        (condOf c Slot.cwRadio).level = (decide (10 ≤ b.cw.sfNone) && radioUsed b && (isFollower b || (isRoot b && !b.cw.nodes.isEmpty))) ∧
        (10 ≤ b.cw.sfNone → radioUsed b = true → isFollower b = true → getF c F.CW_STATUS_SYNC_RADIO = 0) ∧
        ∀ i, i ≠ Slot.cwRadio → condOf c i = condOf b i)) ∧
    (∀ v : Word, ready b = true →
      ∃ c, exec (.cwFwdGo v) ⟨b, q⟩ = .next ⟨c, q⟩ ∧ RegsBut [R.CW_FWD_CTL] b c ∧ getF c F.CW_FWD_CTL_ADDR = bitsOf v.toNat 24 5 ∧
        getF c F.CW_FWD_CTL_OFFSET = bitsOf v.toNat 2 18 * 4 ∧
        (isF b F.CW_FWD_CTL_BUSY = true → c = { b with regs := c.regs } ∧ getF c F.CW_FWD_CTL_BUSY = 1) ∧
        (isF b F.CW_FWD_CTL_BUSY = false → forwardCode b (bitsOf v.toNat 24 5) ≠ 0 →
          c = { b with regs := c.regs } ∧ getF c F.CW_FWD_CTL_RESULT = forwardCode b (bitsOf v.toNat 24 5) ∧ getF c F.CW_FWD_CTL_BUSY = 0) ∧
        (isF b F.CW_FWD_CTL_BUSY = false → forwardCode b (bitsOf v.toNat 24 5) = 0 → getF c F.CW_FWD_CTL_BUSY = 1 ∧ getF c F.CW_FWD_CTL_RESULT = 0 ∧
          (let ops := [(bitOf v.toNat 30, bitsOf v.toNat 2 18 * 4, getR b R.CW_FWD_DATA)];
            c = { b with regs := c.regs, cw := { b.cw with fwd := some (devF b, bitOf v.toNat 30) }, out := b.out ++ [.causeway .forwardRequest (bitsOf v.toNat 24 5 :: forwardWords ops ++ cwTag b (frame b) 0 3 (requestBytes (bitsOf v.toNat 24 5) ops))] }))) ∧
    (∀ (r : Fin 16) (d : Desc) (ws : List Word), canStart b r.val = true → d.resvd = 0 → d.p0.toNat &&& 0xFFFFF0E0 = 0 → d.p0.toNat % 32 ≠ 0 →
      badAddr d.addr = false → tail0 d = true →
      ∃ c, exec (.cwForward r d (some ws)) ⟨b, q⟩ = .next ⟨c, q⟩ ∧ RegsBut [R.HST_SQ_STATUS r.val] b c ∧ c.cw = b.cw ∧ c.lc = b.lc ∧
        (roleAct b ≠ 1 → CmdCompletes r.val 0x0A d 0 St.notPermitted 0 0 b c ∧ c.out = b.out) ∧
        (roleAct b = 1 →
          (forwardOps (bitsOf d.p0.toNat 8 4 + 1) ws = none → CmdCompletes r.val 0x0A d 0 St.invalid 0 0 b c ∧ c.out = b.out) ∧
          ∀ ops, forwardOps (bitsOf d.p0.toNat 8 4 + 1) ws = some ops →
            (forwardCode b (d.p0.toNat % 32) ≠ 0 → CmdCompletes r.val 0x0A d (forwardCode b (d.p0.toNat % 32)) St.failed 0 0 b c ∧ c.out = b.out) ∧
            (forwardCode b (d.p0.toNat % 32) = 0 → CmdWaits r.val 0x0A d (.forward (d.p0.toNat % 32) d.addr.toNat (devF b) ops) b c ∧
              c.out = b.out ++ [.causeway .forwardRequest (d.p0.toNat % 32 :: forwardWords ops ++
                cwTag b (frame b) 0 3 (requestBytes (d.p0.toNat % 32) ops))]))) ∧
    (framesRun b = true →
      (∀ (node : Fin 32) (refused : Bool) (n : BitVec 5) (vals : List Word) (m : Tagged),
        (passesOn b = true → ∀ p : Option (Fin 16), exec (.forwardResponse node p ⟨refused, n, vals⟩ m) ⟨b, q⟩ = .next ⟨{ b with
          out := b.out ++ [.causeway .forwardResponse ([nat01 refused, n.toNat] ++ vals.map (·.toNat) ++ m.tag.map (·.toNat))] }, q⟩) ∧
        (passesOn b = false → tagFits b node.val 4 (responseBytes refused n.toNat (vals.map (·.toNat))) m = false → ∀ p : Option (Fin 16),
          ∃ c, exec (.forwardResponse node p ⟨refused, n, vals⟩ m) ⟨b, q⟩ = .next ⟨c, q⟩ ∧
            c = { b with regs := c.regs, cw := { b.cw with tagFails := c.cw.tagFails }, sl := { b.sl with cond := c.sl.cond } }) ∧
        (passesOn b = false → tagFits b node.val 4 (responseBytes refused n.toNat (vals.map (·.toNat))) m = true →
          (b.cw.fwd = none → exec (.forwardResponse node none ⟨refused, n, vals⟩ m) ⟨b, q⟩ = .next ⟨tagGood node.val b, q⟩) ∧
          (∀ d wr, b.cw.fwd = some (d, wr) → ∃ c, exec (.forwardResponse node none ⟨refused, n, vals⟩ m) ⟨b, q⟩ = .next ⟨c, q⟩ ∧
            c = { b with regs := c.regs, cw := { b.cw with fwd := none, tagFails := c.cw.tagFails }, sl := { b.sl with cond := c.sl.cond } } ∧
            RegsBut [R.CW_FWD_CTL, R.CW_FWD_DATA] b c ∧ getF c F.CW_FWD_CTL_BUSY = 0 ∧ getF c F.CW_FWD_CTL_RESULT = (if refused then 4 else 1) ∧
            getR c R.CW_FWD_DATA = (if refused = false ∧ wr = false then vals.headD 0 else getR b R.CW_FWD_DATA)) ∧
          (∀ (r : Fin 16) (op tag target addr since : Nat) (ops : List (Bool × Nat × Word)),
            (sqOf b r.val).running = some ⟨op, tag, .forward target addr since ops⟩ → (cqOf b (cqNo b r.val)).en = true →
            ∃ c, exec (.forwardResponse node (some r) ⟨refused, n, vals⟩ m) ⟨b, q⟩ = .next ⟨c, q⟩ ∧ c.regs = b.regs ∧
              c.cw = { b.cw with tagFails := c.cw.tagFails } ∧ c.lc = b.lc ∧ (sqOf c r.val).running = some ⟨op, tag, .done⟩ ∧
              (cqOf c (cqNo b r.val)).waiting = (cqOf b (cqNo b r.val)).waiting ++
                [⟨op, r.val, tag, if refused then 4 else 1, if refused then St.failed else St.done, n.toNat % 2 ^ 32, 0⟩]))) ∧
      (∀ d wr, b.cw.fwd = some (d, wr) → d + 40 ≤ devF b → ∃ c, exec .forwardTimeout ⟨b, q⟩ = .next ⟨c, q⟩ ∧ c.cw = { b.cw with fwd := none } ∧
        getF c F.CW_FWD_CTL_BUSY = 0 ∧ getF c F.CW_FWD_CTL_RESULT = 2 ∧ RegsBut [R.CW_FWD_CTL] b c) ∧
      (∀ (r : Fin 16) (op tag target addr since : Nat) (ops : List (Bool × Nat × Word)),
        (sqOf b r.val).running = some ⟨op, tag, .forward target addr since ops⟩ → (cqOf b (cqNo b r.val)).en = true →
        ∃ c, exec .forwardTimeout ⟨b, q⟩ = .next ⟨c, q⟩ ∧ (since + 40 ≤ devF b → (sqOf c r.val).running = some ⟨op, tag, .done⟩) ∧
          (devF b < since + 40 → (sqOf c r.val).running = (sqOf b r.val).running)))
end

