-- ==== Sys2Proof/Laws/State.lean ====
section
/-! SUPPORT. Small lemmas: what each named update of the block leaves alone, field by field, and how a register reads through an update of other fields. -/

namespace Sys2Proof.Machine

@[simp] theorem run_eq (f : Block → Block) (s : State) : run f s = .next ⟨f s.block, s.pending⟩ := rfl

/-- A projection that every step of a fold keeps is kept by the fold. -/
theorem each_proj {α β : Type} (p : Block → β) (l : List α) (f : α → Block → Block) (b : Block) (h : ∀ x c, p (f x c) = p c) : p (each l f b) = p b := by
  unfold each
  induction l generalizing b with
  | nil => rfl
  | cons x l ih => exact (ih _).trans (h x b)

theorem when_proj {β : Type} (p : Block → β) (c : Bool) (f : Block → Block) (b : Block) (h : p (f b) = p b) : p (when c f b) = p b := by
  unfold when; split
  · exact h
  · rfl

theorem when_true (f : Block → Block) (b : Block) : when true f b = f b := rfl
theorem when_false (f : Block → Block) (b : Block) : when false f b = b := rfl

/-! Folds, options and choices, field by field. -/

@[simp] theorem each_regs {α : Type} (l : List α) (f : α → Block → Block) (b : Block) (h : ∀ x c, (f x c).regs = c.regs) :
    (each l f b).regs = b.regs := each_proj Block.regs l f b h
@[simp] theorem when_regs (c : Bool) (f : Block → Block) (b : Block) (h : (f b).regs = b.regs) : (when c f b).regs = b.regs := when_proj Block.regs c f b h
@[simp] theorem ite_regs (c : Prop) [Decidable c] (x y : Block) : (if c then x else y).regs = if c then x.regs else y.regs := by split <;> rfl
@[simp] theorem each_act {α : Type} (l : List α) (f : α → Block → Block) (b : Block) (h : ∀ x c, (f x c).act = c.act) :
    (each l f b).act = b.act := each_proj Block.act l f b h
@[simp] theorem when_act (c : Bool) (f : Block → Block) (b : Block) (h : (f b).act = b.act) : (when c f b).act = b.act := when_proj Block.act c f b h
@[simp] theorem ite_act (c : Prop) [Decidable c] (x y : Block) : (if c then x else y).act = if c then x.act else y.act := by split <;> rfl
@[simp] theorem each_clock {α : Type} (l : List α) (f : α → Block → Block) (b : Block) (h : ∀ x c, (f x c).clock = c.clock) :
    (each l f b).clock = b.clock := each_proj Block.clock l f b h
@[simp] theorem when_clock (c : Bool) (f : Block → Block) (b : Block) (h : (f b).clock = b.clock) : (when c f b).clock = b.clock := when_proj Block.clock c f b h
@[simp] theorem ite_clock (c : Prop) [Decidable c] (x y : Block) : (if c then x else y).clock = if c then x.clock else y.clock := by split <;> rfl
@[simp] theorem each_pins {α : Type} (l : List α) (f : α → Block → Block) (b : Block) (h : ∀ x c, (f x c).pins = c.pins) :
    (each l f b).pins = b.pins := each_proj Block.pins l f b h
@[simp] theorem when_pins (c : Bool) (f : Block → Block) (b : Block) (h : (f b).pins = b.pins) : (when c f b).pins = b.pins := when_proj Block.pins c f b h
@[simp] theorem ite_pins (c : Prop) [Decidable c] (x y : Block) : (if c then x else y).pins = if c then x.pins else y.pins := by split <;> rfl
@[simp] theorem each_pwr {α : Type} (l : List α) (f : α → Block → Block) (b : Block) (h : ∀ x c, (f x c).pwr = c.pwr) :
    (each l f b).pwr = b.pwr := each_proj Block.pwr l f b h
@[simp] theorem when_pwr (c : Bool) (f : Block → Block) (b : Block) (h : (f b).pwr = b.pwr) : (when c f b).pwr = b.pwr := when_proj Block.pwr c f b h
@[simp] theorem ite_pwr (c : Prop) [Decidable c] (x y : Block) : (if c then x else y).pwr = if c then x.pwr else y.pwr := by split <;> rfl
@[simp] theorem each_fw {α : Type} (l : List α) (f : α → Block → Block) (b : Block) (h : ∀ x c, (f x c).fw = c.fw) :
    (each l f b).fw = b.fw := each_proj Block.fw l f b h
@[simp] theorem when_fw (c : Bool) (f : Block → Block) (b : Block) (h : (f b).fw = b.fw) : (when c f b).fw = b.fw := when_proj Block.fw c f b h
@[simp] theorem ite_fw (c : Prop) [Decidable c] (x y : Block) : (if c then x else y).fw = if c then x.fw else y.fw := by split <;> rfl
@[simp] theorem each_lc {α : Type} (l : List α) (f : α → Block → Block) (b : Block) (h : ∀ x c, (f x c).lc = c.lc) :
    (each l f b).lc = b.lc := each_proj Block.lc l f b h
@[simp] theorem when_lc (c : Bool) (f : Block → Block) (b : Block) (h : (f b).lc = b.lc) : (when c f b).lc = b.lc := when_proj Block.lc c f b h
@[simp] theorem ite_lc (c : Prop) [Decidable c] (x y : Block) : (if c then x else y).lc = if c then x.lc else y.lc := by split <;> rfl
@[simp] theorem each_cfg {α : Type} (l : List α) (f : α → Block → Block) (b : Block) (h : ∀ x c, (f x c).cfg = c.cfg) :
    (each l f b).cfg = b.cfg := each_proj Block.cfg l f b h
@[simp] theorem when_cfg (c : Bool) (f : Block → Block) (b : Block) (h : (f b).cfg = b.cfg) : (when c f b).cfg = b.cfg := when_proj Block.cfg c f b h
@[simp] theorem ite_cfg (c : Prop) [Decidable c] (x y : Block) : (if c then x else y).cfg = if c then x.cfg else y.cfg := by split <;> rfl
@[simp] theorem each_sl {α : Type} (l : List α) (f : α → Block → Block) (b : Block) (h : ∀ x c, (f x c).sl = c.sl) :
    (each l f b).sl = b.sl := each_proj Block.sl l f b h
@[simp] theorem when_sl (c : Bool) (f : Block → Block) (b : Block) (h : (f b).sl = b.sl) : (when c f b).sl = b.sl := when_proj Block.sl c f b h
@[simp] theorem ite_sl (c : Prop) [Decidable c] (x y : Block) : (if c then x else y).sl = if c then x.sl else y.sl := by split <;> rfl
@[simp] theorem each_hst {α : Type} (l : List α) (f : α → Block → Block) (b : Block) (h : ∀ x c, (f x c).hst = c.hst) :
    (each l f b).hst = b.hst := each_proj Block.hst l f b h
@[simp] theorem when_hst (c : Bool) (f : Block → Block) (b : Block) (h : (f b).hst = b.hst) : (when c f b).hst = b.hst := when_proj Block.hst c f b h
@[simp] theorem ite_hst (c : Prop) [Decidable c] (x y : Block) : (if c then x else y).hst = if c then x.hst else y.hst := by split <;> rfl
@[simp] theorem each_spi {α : Type} (l : List α) (f : α → Block → Block) (b : Block) (h : ∀ x c, (f x c).spi = c.spi) :
    (each l f b).spi = b.spi := each_proj Block.spi l f b h
@[simp] theorem when_spi (c : Bool) (f : Block → Block) (b : Block) (h : (f b).spi = b.spi) : (when c f b).spi = b.spi := when_proj Block.spi c f b h
@[simp] theorem ite_spi (c : Prop) [Decidable c] (x y : Block) : (if c then x else y).spi = if c then x.spi else y.spi := by split <;> rfl
@[simp] theorem each_latch {α : Type} (l : List α) (f : α → Block → Block) (b : Block) (h : ∀ x c, (f x c).latch = c.latch) :
    (each l f b).latch = b.latch := each_proj Block.latch l f b h
@[simp] theorem when_latch (c : Bool) (f : Block → Block) (b : Block) (h : (f b).latch = b.latch) : (when c f b).latch = b.latch := when_proj Block.latch c f b h
@[simp] theorem ite_latch (c : Prop) [Decidable c] (x y : Block) : (if c then x else y).latch = if c then x.latch else y.latch := by split <;> rfl
@[simp] theorem each_cap {α : Type} (l : List α) (f : α → Block → Block) (b : Block) (h : ∀ x c, (f x c).cap = c.cap) :
    (each l f b).cap = b.cap := each_proj Block.cap l f b h
@[simp] theorem when_cap (c : Bool) (f : Block → Block) (b : Block) (h : (f b).cap = b.cap) : (when c f b).cap = b.cap := when_proj Block.cap c f b h
@[simp] theorem ite_cap (c : Prop) [Decidable c] (x y : Block) : (if c then x else y).cap = if c then x.cap else y.cap := by split <;> rfl
@[simp] theorem each_fe {α : Type} (l : List α) (f : α → Block → Block) (b : Block) (h : ∀ x c, (f x c).fe = c.fe) :
    (each l f b).fe = b.fe := each_proj Block.fe l f b h
@[simp] theorem when_fe (c : Bool) (f : Block → Block) (b : Block) (h : (f b).fe = b.fe) : (when c f b).fe = b.fe := when_proj Block.fe c f b h
@[simp] theorem ite_fe (c : Prop) [Decidable c] (x y : Block) : (if c then x else y).fe = if c then x.fe else y.fe := by split <;> rfl
@[simp] theorem each_bal {α : Type} (l : List α) (f : α → Block → Block) (b : Block) (h : ∀ x c, (f x c).bal = c.bal) :
    (each l f b).bal = b.bal := each_proj Block.bal l f b h
@[simp] theorem when_bal (c : Bool) (f : Block → Block) (b : Block) (h : (f b).bal = b.bal) : (when c f b).bal = b.bal := when_proj Block.bal c f b h
@[simp] theorem ite_bal (c : Prop) [Decidable c] (x y : Block) : (if c then x else y).bal = if c then x.bal else y.bal := by split <;> rfl
@[simp] theorem each_imp {α : Type} (l : List α) (f : α → Block → Block) (b : Block) (h : ∀ x c, (f x c).imp = c.imp) :
    (each l f b).imp = b.imp := each_proj Block.imp l f b h
@[simp] theorem when_imp (c : Bool) (f : Block → Block) (b : Block) (h : (f b).imp = b.imp) : (when c f b).imp = b.imp := when_proj Block.imp c f b h
@[simp] theorem ite_imp (c : Prop) [Decidable c] (x y : Block) : (if c then x else y).imp = if c then x.imp else y.imp := by split <;> rfl
@[simp] theorem each_bw {α : Type} (l : List α) (f : α → Block → Block) (b : Block) (h : ∀ x c, (f x c).bw = c.bw) :
    (each l f b).bw = b.bw := each_proj Block.bw l f b h
@[simp] theorem when_bw (c : Bool) (f : Block → Block) (b : Block) (h : (f b).bw = b.bw) : (when c f b).bw = b.bw := when_proj Block.bw c f b h
@[simp] theorem ite_bw (c : Prop) [Decidable c] (x y : Block) : (if c then x else y).bw = if c then x.bw else y.bw := by split <;> rfl
@[simp] theorem each_rl {α : Type} (l : List α) (f : α → Block → Block) (b : Block) (h : ∀ x c, (f x c).rl = c.rl) :
    (each l f b).rl = b.rl := each_proj Block.rl l f b h
@[simp] theorem when_rl (c : Bool) (f : Block → Block) (b : Block) (h : (f b).rl = b.rl) : (when c f b).rl = b.rl := when_proj Block.rl c f b h
@[simp] theorem ite_rl (c : Prop) [Decidable c] (x y : Block) : (if c then x else y).rl = if c then x.rl else y.rl := by split <;> rfl
@[simp] theorem each_cw {α : Type} (l : List α) (f : α → Block → Block) (b : Block) (h : ∀ x c, (f x c).cw = c.cw) :
    (each l f b).cw = b.cw := each_proj Block.cw l f b h
@[simp] theorem when_cw (c : Bool) (f : Block → Block) (b : Block) (h : (f b).cw = b.cw) : (when c f b).cw = b.cw := when_proj Block.cw c f b h
@[simp] theorem ite_cw (c : Prop) [Decidable c] (x y : Block) : (if c then x else y).cw = if c then x.cw else y.cw := by split <;> rfl
@[simp] theorem each_fen {α : Type} (l : List α) (f : α → Block → Block) (b : Block) (h : ∀ x c, (f x c).fen = c.fen) :
    (each l f b).fen = b.fen := each_proj Block.fen l f b h
@[simp] theorem when_fen (c : Bool) (f : Block → Block) (b : Block) (h : (f b).fen = b.fen) : (when c f b).fen = b.fen := when_proj Block.fen c f b h
@[simp] theorem ite_fen (c : Prop) [Decidable c] (x y : Block) : (if c then x else y).fen = if c then x.fen else y.fen := by split <;> rfl
@[simp] theorem each_pol {α : Type} (l : List α) (f : α → Block → Block) (b : Block) (h : ∀ x c, (f x c).pol = c.pol) :
    (each l f b).pol = b.pol := each_proj Block.pol l f b h
@[simp] theorem when_pol (c : Bool) (f : Block → Block) (b : Block) (h : (f b).pol = b.pol) : (when c f b).pol = b.pol := when_proj Block.pol c f b h
@[simp] theorem ite_pol (c : Prop) [Decidable c] (x y : Block) : (if c then x else y).pol = if c then x.pol else y.pol := by split <;> rfl
@[simp] theorem each_led {α : Type} (l : List α) (f : α → Block → Block) (b : Block) (h : ∀ x c, (f x c).led = c.led) :
    (each l f b).led = b.led := each_proj Block.led l f b h
@[simp] theorem when_led (c : Bool) (f : Block → Block) (b : Block) (h : (f b).led = b.led) : (when c f b).led = b.led := when_proj Block.led c f b h
@[simp] theorem ite_led (c : Prop) [Decidable c] (x y : Block) : (if c then x else y).led = if c then x.led else y.led := by split <;> rfl
@[simp] theorem each_bist {α : Type} (l : List α) (f : α → Block → Block) (b : Block) (h : ∀ x c, (f x c).bist = c.bist) :
    (each l f b).bist = b.bist := each_proj Block.bist l f b h
@[simp] theorem when_bist (c : Bool) (f : Block → Block) (b : Block) (h : (f b).bist = b.bist) : (when c f b).bist = b.bist := when_proj Block.bist c f b h
@[simp] theorem ite_bist (c : Prop) [Decidable c] (x y : Block) : (if c then x else y).bist = if c then x.bist else y.bist := by split <;> rfl
@[simp] theorem each_calib {α : Type} (l : List α) (f : α → Block → Block) (b : Block) (h : ∀ x c, (f x c).calib = c.calib) :
    (each l f b).calib = b.calib := each_proj Block.calib l f b h
@[simp] theorem when_calib (c : Bool) (f : Block → Block) (b : Block) (h : (f b).calib = b.calib) : (when c f b).calib = b.calib := when_proj Block.calib c f b h
@[simp] theorem ite_calib (c : Prop) [Decidable c] (x y : Block) : (if c then x else y).calib = if c then x.calib else y.calib := by split <;> rfl
@[simp] theorem each_dieIds {α : Type} (l : List α) (f : α → Block → Block) (b : Block) (h : ∀ x c, (f x c).dieIds = c.dieIds) :
    (each l f b).dieIds = b.dieIds := each_proj Block.dieIds l f b h
@[simp] theorem when_dieIds (c : Bool) (f : Block → Block) (b : Block) (h : (f b).dieIds = b.dieIds) : (when c f b).dieIds = b.dieIds := when_proj Block.dieIds c f b h
@[simp] theorem ite_dieIds (c : Prop) [Decidable c] (x y : Block) : (if c then x else y).dieIds = if c then x.dieIds else y.dieIds := by split <;> rfl
@[simp] theorem each_carry {α : Type} (l : List α) (f : α → Block → Block) (b : Block) (h : ∀ x c, (f x c).carry = c.carry) :
    (each l f b).carry = b.carry := each_proj Block.carry l f b h
@[simp] theorem when_carry (c : Bool) (f : Block → Block) (b : Block) (h : (f b).carry = b.carry) : (when c f b).carry = b.carry := when_proj Block.carry c f b h
@[simp] theorem ite_carry (c : Prop) [Decidable c] (x y : Block) : (if c then x else y).carry = if c then x.carry else y.carry := by split <;> rfl
@[simp] theorem each_recs {α : Type} (l : List α) (f : α → Block → Block) (b : Block) (h : ∀ x c, (f x c).recs = c.recs) :
    (each l f b).recs = b.recs := each_proj Block.recs l f b h
@[simp] theorem when_recs (c : Bool) (f : Block → Block) (b : Block) (h : (f b).recs = b.recs) : (when c f b).recs = b.recs := when_proj Block.recs c f b h
@[simp] theorem ite_recs (c : Prop) [Decidable c] (x y : Block) : (if c then x else y).recs = if c then x.recs else y.recs := by split <;> rfl
@[simp] theorem each_out {α : Type} (l : List α) (f : α → Block → Block) (b : Block) (h : ∀ x c, (f x c).out = c.out) :
    (each l f b).out = b.out := each_proj Block.out l f b h
@[simp] theorem when_out (c : Bool) (f : Block → Block) (b : Block) (h : (f b).out = b.out) : (when c f b).out = b.out := when_proj Block.out c f b h
@[simp] theorem ite_out (c : Prop) [Decidable c] (x y : Block) : (if c then x else y).out = if c then x.out else y.out := by split <;> rfl
@[simp] theorem each_freeCtr {α : Type} (l : List α) (f : α → Block → Block) (b : Block) (h : ∀ x c, (f x c).freeCtr = c.freeCtr) :
    (each l f b).freeCtr = b.freeCtr := each_proj Block.freeCtr l f b h
@[simp] theorem when_freeCtr (c : Bool) (f : Block → Block) (b : Block) (h : (f b).freeCtr = b.freeCtr) : (when c f b).freeCtr = b.freeCtr := when_proj Block.freeCtr c f b h
@[simp] theorem ite_freeCtr (c : Prop) [Decidable c] (x y : Block) : (if c then x else y).freeCtr = if c then x.freeCtr else y.freeCtr := by split <;> rfl

/-! Registers read from the map alone. -/

@[simp] theorem getR_mk (a : Nat) {r x1 x2 x3 x4 x5 x6 x7 x8 x9 x10 x11 x12 x13 x14 x15 x16 x17 x18 x19 x20 x21 x22 x23 x24 x25 x26 x27 x28} :
    getR (Block.mk r x1 x2 x3 x4 x5 x6 x7 x8 x9 x10 x11 x12 x13 x14 x15 x16 x17 x18 x19 x20 x21 x22 x23 x24 x25 x26 x27 x28) a = mapGet resetWord r a := rfl
@[simp] theorem mapGet_regs (b : Block) (a : Nat) : mapGet resetWord b.regs a = getR b a := rfl
@[simp] theorem getF_mk (f : Fld) {r x1 x2 x3 x4 x5 x6 x7 x8 x9 x10 x11 x12 x13 x14 x15 x16 x17 x18 x19 x20 x21 x22 x23 x24 x25 x26 x27 x28} :
    getF (Block.mk r x1 x2 x3 x4 x5 x6 x7 x8 x9 x10 x11 x12 x13 x14 x15 x16 x17 x18 x19 x20 x21 x22 x23 x24 x25 x26 x27 x28) f = bitsOf (mapGet resetWord r f.reg).toNat f.lo f.len := rfl
@[simp] theorem bitsOf_getR (b : Block) (f : Fld) : bitsOf (getR b f.reg).toNat f.lo f.len = getF b f := rfl

theorem getR_congr {b c : Block} (h : c.regs = b.regs) (a : Nat) : getR c a = getR b a := by unfold getR; rw [h]
theorem getF_congr {b c : Block} (h : c.regs = b.regs) (f : Fld) : getF c f = getF b f := by unfold getF; rw [getR_congr h]

@[simp] theorem setR_rest (a : Nat) (w : Word) (b : Block) :
    (setR a w b).act = b.act ∧ (setR a w b).clock = b.clock ∧ (setR a w b).pins = b.pins ∧ (setR a w b).pwr = b.pwr ∧ (setR a w b).fw = b.fw ∧
    (setR a w b).lc = b.lc ∧ (setR a w b).cfg = b.cfg ∧ (setR a w b).sl = b.sl ∧ (setR a w b).hst = b.hst ∧ (setR a w b).spi = b.spi ∧
    (setR a w b).latch = b.latch ∧ (setR a w b).cap = b.cap ∧ (setR a w b).fe = b.fe ∧ (setR a w b).bal = b.bal ∧ (setR a w b).imp = b.imp ∧
    (setR a w b).bw = b.bw ∧ (setR a w b).rl = b.rl ∧ (setR a w b).cw = b.cw ∧ (setR a w b).fen = b.fen ∧ (setR a w b).pol = b.pol ∧
    (setR a w b).led = b.led ∧ (setR a w b).bist = b.bist ∧ (setR a w b).calib = b.calib ∧ (setR a w b).dieIds = b.dieIds ∧
    (setR a w b).carry = b.carry ∧ (setR a w b).recs = b.recs ∧ (setR a w b).out = b.out ∧ (setR a w b).freeCtr = b.freeCtr := by
  refine ⟨rfl, rfl, rfl, rfl, rfl, rfl, rfl, rfl, rfl, rfl, rfl, rfl, rfl, rfl, rfl, rfl, rfl, rfl, rfl, rfl, rfl, rfl, rfl, rfl, rfl, rfl, rfl, rfl⟩

@[simp] theorem setF_rest (f : Fld) (v : Nat) (b : Block) :
    (setF f v b).act = b.act ∧ (setF f v b).clock = b.clock ∧ (setF f v b).pins = b.pins ∧ (setF f v b).pwr = b.pwr ∧ (setF f v b).fw = b.fw ∧
    (setF f v b).lc = b.lc ∧ (setF f v b).cfg = b.cfg ∧ (setF f v b).sl = b.sl ∧ (setF f v b).hst = b.hst ∧ (setF f v b).spi = b.spi ∧
    (setF f v b).latch = b.latch ∧ (setF f v b).cap = b.cap ∧ (setF f v b).fe = b.fe ∧ (setF f v b).bal = b.bal ∧ (setF f v b).imp = b.imp ∧
    (setF f v b).bw = b.bw ∧ (setF f v b).rl = b.rl ∧ (setF f v b).cw = b.cw ∧ (setF f v b).fen = b.fen ∧ (setF f v b).pol = b.pol ∧
    (setF f v b).led = b.led ∧ (setF f v b).bist = b.bist ∧ (setF f v b).calib = b.calib ∧ (setF f v b).dieIds = b.dieIds ∧
    (setF f v b).carry = b.carry ∧ (setF f v b).recs = b.recs ∧ (setF f v b).out = b.out ∧ (setF f v b).freeCtr = b.freeCtr := by
  refine ⟨rfl, rfl, rfl, rfl, rfl, rfl, rfl, rfl, rfl, rfl, rfl, rfl, rfl, rfl, rfl, rfl, rfl, rfl, rfl, rfl, rfl, rfl, rfl, rfl, rfl, rfl, rfl, rfl⟩

@[simp] theorem putF_rest (f : Fld) (v : Bool) (b : Block) :
    (putF f v b).act = b.act ∧ (putF f v b).clock = b.clock ∧ (putF f v b).pins = b.pins ∧ (putF f v b).pwr = b.pwr ∧ (putF f v b).fw = b.fw ∧
    (putF f v b).lc = b.lc ∧ (putF f v b).cfg = b.cfg ∧ (putF f v b).sl = b.sl ∧ (putF f v b).hst = b.hst ∧ (putF f v b).spi = b.spi ∧
    (putF f v b).latch = b.latch ∧ (putF f v b).cap = b.cap ∧ (putF f v b).fe = b.fe ∧ (putF f v b).bal = b.bal ∧ (putF f v b).imp = b.imp ∧
    (putF f v b).bw = b.bw ∧ (putF f v b).rl = b.rl ∧ (putF f v b).cw = b.cw ∧ (putF f v b).fen = b.fen ∧ (putF f v b).pol = b.pol ∧
    (putF f v b).led = b.led ∧ (putF f v b).bist = b.bist ∧ (putF f v b).calib = b.calib ∧ (putF f v b).dieIds = b.dieIds ∧
    (putF f v b).carry = b.carry ∧ (putF f v b).recs = b.recs ∧ (putF f v b).out = b.out ∧ (putF f v b).freeCtr = b.freeCtr := by
  refine ⟨rfl, rfl, rfl, rfl, rfl, rfl, rfl, rfl, rfl, rfl, rfl, rfl, rfl, rfl, rfl, rfl, rfl, rfl, rfl, rfl, rfl, rfl, rfl, rfl, rfl, rfl, rfl, rfl⟩

@[simp] theorem addF_rest (f : Fld) (v : Nat) (b : Block) :
    (addF f v b).act = b.act ∧ (addF f v b).clock = b.clock ∧ (addF f v b).pins = b.pins ∧ (addF f v b).pwr = b.pwr ∧ (addF f v b).fw = b.fw ∧
    (addF f v b).lc = b.lc ∧ (addF f v b).cfg = b.cfg ∧ (addF f v b).sl = b.sl ∧ (addF f v b).hst = b.hst ∧ (addF f v b).spi = b.spi ∧
    (addF f v b).latch = b.latch ∧ (addF f v b).cap = b.cap ∧ (addF f v b).fe = b.fe ∧ (addF f v b).bal = b.bal ∧ (addF f v b).imp = b.imp ∧
    (addF f v b).bw = b.bw ∧ (addF f v b).rl = b.rl ∧ (addF f v b).cw = b.cw ∧ (addF f v b).fen = b.fen ∧ (addF f v b).pol = b.pol ∧
    (addF f v b).led = b.led ∧ (addF f v b).bist = b.bist ∧ (addF f v b).calib = b.calib ∧ (addF f v b).dieIds = b.dieIds ∧
    (addF f v b).carry = b.carry ∧ (addF f v b).recs = b.recs ∧ (addF f v b).out = b.out ∧ (addF f v b).freeCtr = b.freeCtr := by
  refine ⟨rfl, rfl, rfl, rfl, rfl, rfl, rfl, rfl, rfl, rfl, rfl, rfl, rfl, rfl, rfl, rfl, rfl, rfl, rfl, rfl, rfl, rfl, rfl, rfl, rfl, rfl, rfl, rfl⟩

@[simp] theorem incF_rest (f : Fld) (b : Block) :
    (incF f b).act = b.act ∧ (incF f b).clock = b.clock ∧ (incF f b).pins = b.pins ∧ (incF f b).pwr = b.pwr ∧ (incF f b).fw = b.fw ∧
    (incF f b).lc = b.lc ∧ (incF f b).cfg = b.cfg ∧ (incF f b).sl = b.sl ∧ (incF f b).hst = b.hst ∧ (incF f b).spi = b.spi ∧
    (incF f b).latch = b.latch ∧ (incF f b).cap = b.cap ∧ (incF f b).fe = b.fe ∧ (incF f b).bal = b.bal ∧ (incF f b).imp = b.imp ∧
    (incF f b).bw = b.bw ∧ (incF f b).rl = b.rl ∧ (incF f b).cw = b.cw ∧ (incF f b).fen = b.fen ∧ (incF f b).pol = b.pol ∧ (incF f b).led = b.led ∧
    (incF f b).bist = b.bist ∧ (incF f b).calib = b.calib ∧ (incF f b).dieIds = b.dieIds ∧ (incF f b).carry = b.carry ∧ (incF f b).recs = b.recs ∧
    (incF f b).out = b.out ∧ (incF f b).freeCtr = b.freeCtr := by
  refine ⟨rfl, rfl, rfl, rfl, rfl, rfl, rfl, rfl, rfl, rfl, rfl, rfl, rfl, rfl, rfl, rfl, rfl, rfl, rfl, rfl, rfl, rfl, rfl, rfl, rfl, rfl, rfl, rfl⟩

@[simp] theorem putArrBit_rest (a i : Nat) (v : Bool) (b : Block) :
    (putArrBit a i v b).act = b.act ∧ (putArrBit a i v b).clock = b.clock ∧ (putArrBit a i v b).pins = b.pins ∧ (putArrBit a i v b).pwr = b.pwr ∧
    (putArrBit a i v b).fw = b.fw ∧ (putArrBit a i v b).lc = b.lc ∧ (putArrBit a i v b).cfg = b.cfg ∧ (putArrBit a i v b).sl = b.sl ∧
    (putArrBit a i v b).hst = b.hst ∧ (putArrBit a i v b).spi = b.spi ∧ (putArrBit a i v b).latch = b.latch ∧ (putArrBit a i v b).cap = b.cap ∧
    (putArrBit a i v b).fe = b.fe ∧ (putArrBit a i v b).bal = b.bal ∧ (putArrBit a i v b).imp = b.imp ∧ (putArrBit a i v b).bw = b.bw ∧
    (putArrBit a i v b).rl = b.rl ∧ (putArrBit a i v b).cw = b.cw ∧ (putArrBit a i v b).fen = b.fen ∧ (putArrBit a i v b).pol = b.pol ∧
    (putArrBit a i v b).led = b.led ∧ (putArrBit a i v b).bist = b.bist ∧ (putArrBit a i v b).calib = b.calib ∧
    (putArrBit a i v b).dieIds = b.dieIds ∧ (putArrBit a i v b).carry = b.carry ∧ (putArrBit a i v b).recs = b.recs ∧
    (putArrBit a i v b).out = b.out ∧ (putArrBit a i v b).freeCtr = b.freeCtr := by
  refine ⟨rfl, rfl, rfl, rfl, rfl, rfl, rfl, rfl, rfl, rfl, rfl, rfl, rfl, rfl, rfl, rfl, rfl, rfl, rfl, rfl, rfl, rfl, rfl, rfl, rfl, rfl, rfl, rfl⟩

@[simp] theorem writeBits_rest (a : Nat) (v : Word) (b : Block) :
    (writeBits a v b).act = b.act ∧ (writeBits a v b).clock = b.clock ∧ (writeBits a v b).pins = b.pins ∧ (writeBits a v b).pwr = b.pwr ∧
    (writeBits a v b).fw = b.fw ∧ (writeBits a v b).lc = b.lc ∧ (writeBits a v b).cfg = b.cfg ∧ (writeBits a v b).sl = b.sl ∧
    (writeBits a v b).hst = b.hst ∧ (writeBits a v b).spi = b.spi ∧ (writeBits a v b).latch = b.latch ∧ (writeBits a v b).cap = b.cap ∧
    (writeBits a v b).fe = b.fe ∧ (writeBits a v b).bal = b.bal ∧ (writeBits a v b).imp = b.imp ∧ (writeBits a v b).bw = b.bw ∧
    (writeBits a v b).rl = b.rl ∧ (writeBits a v b).cw = b.cw ∧ (writeBits a v b).fen = b.fen ∧ (writeBits a v b).pol = b.pol ∧
    (writeBits a v b).led = b.led ∧ (writeBits a v b).bist = b.bist ∧ (writeBits a v b).calib = b.calib ∧ (writeBits a v b).dieIds = b.dieIds ∧
    (writeBits a v b).carry = b.carry ∧ (writeBits a v b).recs = b.recs ∧ (writeBits a v b).out = b.out ∧ (writeBits a v b).freeCtr = b.freeCtr := by
  unfold writeBits; (try simp only []); (repeat' split) <;> simp

@[simp] theorem emitOut_rest (o : Output) (b : Block) :
    (emitOut o b).regs = b.regs ∧ (emitOut o b).act = b.act ∧ (emitOut o b).clock = b.clock ∧ (emitOut o b).pins = b.pins ∧
    (emitOut o b).pwr = b.pwr ∧ (emitOut o b).fw = b.fw ∧ (emitOut o b).lc = b.lc ∧ (emitOut o b).cfg = b.cfg ∧ (emitOut o b).sl = b.sl ∧
    (emitOut o b).hst = b.hst ∧ (emitOut o b).spi = b.spi ∧ (emitOut o b).latch = b.latch ∧ (emitOut o b).cap = b.cap ∧ (emitOut o b).fe = b.fe ∧
    (emitOut o b).bal = b.bal ∧ (emitOut o b).imp = b.imp ∧ (emitOut o b).bw = b.bw ∧ (emitOut o b).rl = b.rl ∧ (emitOut o b).cw = b.cw ∧
    (emitOut o b).fen = b.fen ∧ (emitOut o b).pol = b.pol ∧ (emitOut o b).led = b.led ∧ (emitOut o b).bist = b.bist ∧ (emitOut o b).calib = b.calib ∧
    (emitOut o b).dieIds = b.dieIds ∧ (emitOut o b).carry = b.carry ∧ (emitOut o b).recs = b.recs ∧ (emitOut o b).freeCtr = b.freeCtr := by
  refine ⟨rfl, rfl, rfl, rfl, rfl, rfl, rfl, rfl, rfl, rfl, rfl, rfl, rfl, rfl, rfl, rfl, rfl, rfl, rfl, rfl, rfl, rfl, rfl, rfl, rfl, rfl, rfl, rfl⟩

@[simp] theorem putCond_rest (i : Nat) (c : SrcCond) (b : Block) :
    (putCond i c b).regs = b.regs ∧ (putCond i c b).act = b.act ∧ (putCond i c b).clock = b.clock ∧ (putCond i c b).pins = b.pins ∧
    (putCond i c b).pwr = b.pwr ∧ (putCond i c b).fw = b.fw ∧ (putCond i c b).lc = b.lc ∧ (putCond i c b).cfg = b.cfg ∧ (putCond i c b).hst = b.hst ∧
    (putCond i c b).spi = b.spi ∧ (putCond i c b).latch = b.latch ∧ (putCond i c b).cap = b.cap ∧ (putCond i c b).fe = b.fe ∧
    (putCond i c b).bal = b.bal ∧ (putCond i c b).imp = b.imp ∧ (putCond i c b).bw = b.bw ∧ (putCond i c b).rl = b.rl ∧ (putCond i c b).cw = b.cw ∧
    (putCond i c b).fen = b.fen ∧ (putCond i c b).pol = b.pol ∧ (putCond i c b).led = b.led ∧ (putCond i c b).bist = b.bist ∧
    (putCond i c b).calib = b.calib ∧ (putCond i c b).dieIds = b.dieIds ∧ (putCond i c b).carry = b.carry ∧ (putCond i c b).recs = b.recs ∧
    (putCond i c b).out = b.out ∧ (putCond i c b).freeCtr = b.freeCtr := by
  refine ⟨rfl, rfl, rfl, rfl, rfl, rfl, rfl, rfl, rfl, rfl, rfl, rfl, rfl, rfl, rfl, rfl, rfl, rfl, rfl, rfl, rfl, rfl, rfl, rfl, rfl, rfl, rfl, rfl⟩

@[simp] theorem setLevel_rest (i : Nat) (on : Bool) (d : Nat) (b : Block) :
    (setLevel i on d b).regs = b.regs ∧ (setLevel i on d b).act = b.act ∧ (setLevel i on d b).clock = b.clock ∧ (setLevel i on d b).pins = b.pins ∧
    (setLevel i on d b).pwr = b.pwr ∧ (setLevel i on d b).fw = b.fw ∧ (setLevel i on d b).lc = b.lc ∧ (setLevel i on d b).cfg = b.cfg ∧
    (setLevel i on d b).hst = b.hst ∧ (setLevel i on d b).spi = b.spi ∧ (setLevel i on d b).latch = b.latch ∧ (setLevel i on d b).cap = b.cap ∧
    (setLevel i on d b).fe = b.fe ∧ (setLevel i on d b).bal = b.bal ∧ (setLevel i on d b).imp = b.imp ∧ (setLevel i on d b).bw = b.bw ∧
    (setLevel i on d b).rl = b.rl ∧ (setLevel i on d b).cw = b.cw ∧ (setLevel i on d b).fen = b.fen ∧ (setLevel i on d b).pol = b.pol ∧
    (setLevel i on d b).led = b.led ∧ (setLevel i on d b).bist = b.bist ∧ (setLevel i on d b).calib = b.calib ∧
    (setLevel i on d b).dieIds = b.dieIds ∧ (setLevel i on d b).carry = b.carry ∧ (setLevel i on d b).recs = b.recs ∧
    (setLevel i on d b).out = b.out ∧ (setLevel i on d b).freeCtr = b.freeCtr := by
  refine ⟨rfl, rfl, rfl, rfl, rfl, rfl, rfl, rfl, rfl, rfl, rfl, rfl, rfl, rfl, rfl, rfl, rfl, rfl, rfl, rfl, rfl, rfl, rfl, rfl, rfl, rfl, rfl, rfl⟩

@[simp] theorem levelBit_rest (i k : Nat) (on : Bool) (b : Block) :
    (levelBit i k on b).regs = b.regs ∧ (levelBit i k on b).act = b.act ∧ (levelBit i k on b).clock = b.clock ∧ (levelBit i k on b).pins = b.pins ∧
    (levelBit i k on b).pwr = b.pwr ∧ (levelBit i k on b).fw = b.fw ∧ (levelBit i k on b).lc = b.lc ∧ (levelBit i k on b).cfg = b.cfg ∧
    (levelBit i k on b).hst = b.hst ∧ (levelBit i k on b).spi = b.spi ∧ (levelBit i k on b).latch = b.latch ∧ (levelBit i k on b).cap = b.cap ∧
    (levelBit i k on b).fe = b.fe ∧ (levelBit i k on b).bal = b.bal ∧ (levelBit i k on b).imp = b.imp ∧ (levelBit i k on b).bw = b.bw ∧
    (levelBit i k on b).rl = b.rl ∧ (levelBit i k on b).cw = b.cw ∧ (levelBit i k on b).fen = b.fen ∧ (levelBit i k on b).pol = b.pol ∧
    (levelBit i k on b).led = b.led ∧ (levelBit i k on b).bist = b.bist ∧ (levelBit i k on b).calib = b.calib ∧
    (levelBit i k on b).dieIds = b.dieIds ∧ (levelBit i k on b).carry = b.carry ∧ (levelBit i k on b).recs = b.recs ∧
    (levelBit i k on b).out = b.out ∧ (levelBit i k on b).freeCtr = b.freeCtr := by
  refine ⟨rfl, rfl, rfl, rfl, rfl, rfl, rfl, rfl, rfl, rfl, rfl, rfl, rfl, rfl, rfl, rfl, rfl, rfl, rfl, rfl, rfl, rfl, rfl, rfl, rfl, rfl, rfl, rfl⟩

@[simp] theorem pulse_rest (i d : Nat) (b : Block) :
    (pulse i d b).regs = b.regs ∧ (pulse i d b).act = b.act ∧ (pulse i d b).clock = b.clock ∧ (pulse i d b).pins = b.pins ∧
    (pulse i d b).pwr = b.pwr ∧ (pulse i d b).fw = b.fw ∧ (pulse i d b).lc = b.lc ∧ (pulse i d b).cfg = b.cfg ∧ (pulse i d b).hst = b.hst ∧
    (pulse i d b).spi = b.spi ∧ (pulse i d b).latch = b.latch ∧ (pulse i d b).cap = b.cap ∧ (pulse i d b).fe = b.fe ∧ (pulse i d b).bal = b.bal ∧
    (pulse i d b).imp = b.imp ∧ (pulse i d b).bw = b.bw ∧ (pulse i d b).rl = b.rl ∧ (pulse i d b).cw = b.cw ∧ (pulse i d b).fen = b.fen ∧
    (pulse i d b).pol = b.pol ∧ (pulse i d b).led = b.led ∧ (pulse i d b).bist = b.bist ∧ (pulse i d b).calib = b.calib ∧
    (pulse i d b).dieIds = b.dieIds ∧ (pulse i d b).carry = b.carry ∧ (pulse i d b).recs = b.recs ∧ (pulse i d b).out = b.out ∧
    (pulse i d b).freeCtr = b.freeCtr := by
  refine ⟨rfl, rfl, rfl, rfl, rfl, rfl, rfl, rfl, rfl, rfl, rfl, rfl, rfl, rfl, rfl, rfl, rfl, rfl, rfl, rfl, rfl, rfl, rfl, rfl, rfl, rfl, rfl, rfl⟩

@[simp] theorem event_rest (k s i v w : Nat) (b : Block) :
    (event k s i v w b).regs = b.regs ∧ (event k s i v w b).act = b.act ∧ (event k s i v w b).clock = b.clock ∧ (event k s i v w b).pins = b.pins ∧
    (event k s i v w b).pwr = b.pwr ∧ (event k s i v w b).fw = b.fw ∧ (event k s i v w b).lc = b.lc ∧ (event k s i v w b).cfg = b.cfg ∧
    (event k s i v w b).hst = b.hst ∧ (event k s i v w b).spi = b.spi ∧ (event k s i v w b).latch = b.latch ∧ (event k s i v w b).cap = b.cap ∧
    (event k s i v w b).fe = b.fe ∧ (event k s i v w b).bal = b.bal ∧ (event k s i v w b).imp = b.imp ∧ (event k s i v w b).bw = b.bw ∧
    (event k s i v w b).rl = b.rl ∧ (event k s i v w b).cw = b.cw ∧ (event k s i v w b).fen = b.fen ∧ (event k s i v w b).pol = b.pol ∧
    (event k s i v w b).led = b.led ∧ (event k s i v w b).bist = b.bist ∧ (event k s i v w b).calib = b.calib ∧
    (event k s i v w b).dieIds = b.dieIds ∧ (event k s i v w b).carry = b.carry ∧ (event k s i v w b).recs = b.recs ∧
    (event k s i v w b).out = b.out ∧ (event k s i v w b).freeCtr = b.freeCtr := by
  refine ⟨rfl, rfl, rfl, rfl, rfl, rfl, rfl, rfl, rfl, rfl, rfl, rfl, rfl, rfl, rfl, rfl, rfl, rfl, rfl, rfl, rfl, rfl, rfl, rfl, rfl, rfl, rfl, rfl⟩

@[simp] theorem journal_rest (k s i v : Nat) (b : Block) :
    (journal k s i v b).regs = b.regs ∧ (journal k s i v b).act = b.act ∧ (journal k s i v b).clock = b.clock ∧ (journal k s i v b).pins = b.pins ∧
    (journal k s i v b).pwr = b.pwr ∧ (journal k s i v b).fw = b.fw ∧ (journal k s i v b).lc = b.lc ∧ (journal k s i v b).cfg = b.cfg ∧
    (journal k s i v b).sl = b.sl ∧ (journal k s i v b).hst = b.hst ∧ (journal k s i v b).spi = b.spi ∧ (journal k s i v b).latch = b.latch ∧
    (journal k s i v b).cap = b.cap ∧ (journal k s i v b).fe = b.fe ∧ (journal k s i v b).bal = b.bal ∧ (journal k s i v b).imp = b.imp ∧
    (journal k s i v b).bw = b.bw ∧ (journal k s i v b).rl = b.rl ∧ (journal k s i v b).cw = b.cw ∧ (journal k s i v b).fen = b.fen ∧
    (journal k s i v b).pol = b.pol ∧ (journal k s i v b).bist = b.bist ∧ (journal k s i v b).calib = b.calib ∧
    (journal k s i v b).dieIds = b.dieIds ∧ (journal k s i v b).carry = b.carry ∧ (journal k s i v b).recs = b.recs ∧
    (journal k s i v b).out = b.out ∧ (journal k s i v b).freeCtr = b.freeCtr := by
  refine ⟨rfl, rfl, rfl, rfl, rfl, rfl, rfl, rfl, rfl, rfl, rfl, rfl, rfl, rfl, rfl, rfl, rfl, rfl, rfl, rfl, rfl, rfl, rfl, rfl, rfl, rfl, rfl, rfl⟩

@[simp] theorem fresh_rest  (b : Block) :
    ((fresh b).2).regs = b.regs ∧ ((fresh b).2).act = b.act ∧ ((fresh b).2).clock = b.clock ∧ ((fresh b).2).pins = b.pins ∧
    ((fresh b).2).pwr = b.pwr ∧ ((fresh b).2).fw = b.fw ∧ ((fresh b).2).lc = b.lc ∧ ((fresh b).2).cfg = b.cfg ∧ ((fresh b).2).sl = b.sl ∧
    ((fresh b).2).hst = b.hst ∧ ((fresh b).2).spi = b.spi ∧ ((fresh b).2).latch = b.latch ∧ ((fresh b).2).cap = b.cap ∧ ((fresh b).2).fe = b.fe ∧
    ((fresh b).2).bal = b.bal ∧ ((fresh b).2).imp = b.imp ∧ ((fresh b).2).bw = b.bw ∧ ((fresh b).2).rl = b.rl ∧ ((fresh b).2).cw = b.cw ∧
    ((fresh b).2).fen = b.fen ∧ ((fresh b).2).pol = b.pol ∧ ((fresh b).2).led = b.led ∧ ((fresh b).2).bist = b.bist ∧ ((fresh b).2).calib = b.calib ∧
    ((fresh b).2).dieIds = b.dieIds ∧ ((fresh b).2).carry = b.carry ∧ ((fresh b).2).recs = b.recs ∧ ((fresh b).2).out = b.out := by
  refine ⟨rfl, rfl, rfl, rfl, rfl, rfl, rfl, rfl, rfl, rfl, rfl, rfl, rfl, rfl, rfl, rfl, rfl, rfl, rfl, rfl, rfl, rfl, rfl, rfl, rfl, rfl, rfl, rfl⟩

@[simp] theorem stampNow_rest  (b : Block) :
    ((stampNow b).2).regs = b.regs ∧ ((stampNow b).2).act = b.act ∧ ((stampNow b).2).clock = b.clock ∧ ((stampNow b).2).pins = b.pins ∧
    ((stampNow b).2).pwr = b.pwr ∧ ((stampNow b).2).fw = b.fw ∧ ((stampNow b).2).lc = b.lc ∧ ((stampNow b).2).cfg = b.cfg ∧
    ((stampNow b).2).sl = b.sl ∧ ((stampNow b).2).hst = b.hst ∧ ((stampNow b).2).spi = b.spi ∧ ((stampNow b).2).latch = b.latch ∧
    ((stampNow b).2).cap = b.cap ∧ ((stampNow b).2).fe = b.fe ∧ ((stampNow b).2).bal = b.bal ∧ ((stampNow b).2).imp = b.imp ∧
    ((stampNow b).2).bw = b.bw ∧ ((stampNow b).2).rl = b.rl ∧ ((stampNow b).2).cw = b.cw ∧ ((stampNow b).2).fen = b.fen ∧
    ((stampNow b).2).pol = b.pol ∧ ((stampNow b).2).led = b.led ∧ ((stampNow b).2).bist = b.bist ∧ ((stampNow b).2).calib = b.calib ∧
    ((stampNow b).2).dieIds = b.dieIds ∧ ((stampNow b).2).carry = b.carry ∧ ((stampNow b).2).recs = b.recs ∧ ((stampNow b).2).out = b.out := by
  refine ⟨rfl, rfl, rfl, rfl, rfl, rfl, rfl, rfl, rfl, rfl, rfl, rfl, rfl, rfl, rfl, rfl, rfl, rfl, rfl, rfl, rfl, rfl, rfl, rfl, rfl, rfl, rfl, rfl⟩

@[simp] theorem pendVec_rest (v : Nat) (b : Block) :
    (pendVec v b).regs = b.regs ∧ (pendVec v b).act = b.act ∧ (pendVec v b).clock = b.clock ∧ (pendVec v b).pins = b.pins ∧
    (pendVec v b).pwr = b.pwr ∧ (pendVec v b).fw = b.fw ∧ (pendVec v b).lc = b.lc ∧ (pendVec v b).cfg = b.cfg ∧ (pendVec v b).sl = b.sl ∧
    (pendVec v b).spi = b.spi ∧ (pendVec v b).latch = b.latch ∧ (pendVec v b).cap = b.cap ∧ (pendVec v b).fe = b.fe ∧ (pendVec v b).bal = b.bal ∧
    (pendVec v b).imp = b.imp ∧ (pendVec v b).bw = b.bw ∧ (pendVec v b).rl = b.rl ∧ (pendVec v b).cw = b.cw ∧ (pendVec v b).fen = b.fen ∧
    (pendVec v b).pol = b.pol ∧ (pendVec v b).led = b.led ∧ (pendVec v b).bist = b.bist ∧ (pendVec v b).calib = b.calib ∧
    (pendVec v b).dieIds = b.dieIds ∧ (pendVec v b).carry = b.carry ∧ (pendVec v b).recs = b.recs ∧ (pendVec v b).out = b.out ∧
    (pendVec v b).freeCtr = b.freeCtr := by
  unfold pendVec; (try simp only []); (repeat' split) <;> simp

@[simp] theorem sendVec0_rest  (b : Block) :
    (sendVec0 b).regs = b.regs ∧ (sendVec0 b).act = b.act ∧ (sendVec0 b).clock = b.clock ∧ (sendVec0 b).pins = b.pins ∧ (sendVec0 b).pwr = b.pwr ∧
    (sendVec0 b).fw = b.fw ∧ (sendVec0 b).lc = b.lc ∧ (sendVec0 b).cfg = b.cfg ∧ (sendVec0 b).sl = b.sl ∧ (sendVec0 b).spi = b.spi ∧
    (sendVec0 b).latch = b.latch ∧ (sendVec0 b).cap = b.cap ∧ (sendVec0 b).fe = b.fe ∧ (sendVec0 b).bal = b.bal ∧ (sendVec0 b).imp = b.imp ∧
    (sendVec0 b).bw = b.bw ∧ (sendVec0 b).rl = b.rl ∧ (sendVec0 b).cw = b.cw ∧ (sendVec0 b).fen = b.fen ∧ (sendVec0 b).pol = b.pol ∧
    (sendVec0 b).led = b.led ∧ (sendVec0 b).bist = b.bist ∧ (sendVec0 b).calib = b.calib ∧ (sendVec0 b).dieIds = b.dieIds ∧
    (sendVec0 b).carry = b.carry ∧ (sendVec0 b).recs = b.recs ∧ (sendVec0 b).freeCtr = b.freeCtr := by
  unfold sendVec0; (try simp only []); (repeat' split) <;> simp

@[simp] theorem putSq_rest (q : Nat) (x : Sq) (b : Block) :
    (putSq q x b).regs = b.regs ∧ (putSq q x b).act = b.act ∧ (putSq q x b).clock = b.clock ∧ (putSq q x b).pins = b.pins ∧
    (putSq q x b).pwr = b.pwr ∧ (putSq q x b).fw = b.fw ∧ (putSq q x b).lc = b.lc ∧ (putSq q x b).cfg = b.cfg ∧ (putSq q x b).sl = b.sl ∧
    (putSq q x b).spi = b.spi ∧ (putSq q x b).latch = b.latch ∧ (putSq q x b).cap = b.cap ∧ (putSq q x b).fe = b.fe ∧ (putSq q x b).bal = b.bal ∧
    (putSq q x b).imp = b.imp ∧ (putSq q x b).bw = b.bw ∧ (putSq q x b).rl = b.rl ∧ (putSq q x b).cw = b.cw ∧ (putSq q x b).fen = b.fen ∧
    (putSq q x b).pol = b.pol ∧ (putSq q x b).led = b.led ∧ (putSq q x b).bist = b.bist ∧ (putSq q x b).calib = b.calib ∧
    (putSq q x b).dieIds = b.dieIds ∧ (putSq q x b).carry = b.carry ∧ (putSq q x b).recs = b.recs ∧ (putSq q x b).out = b.out ∧
    (putSq q x b).freeCtr = b.freeCtr := by
  refine ⟨rfl, rfl, rfl, rfl, rfl, rfl, rfl, rfl, rfl, rfl, rfl, rfl, rfl, rfl, rfl, rfl, rfl, rfl, rfl, rfl, rfl, rfl, rfl, rfl, rfl, rfl, rfl, rfl⟩

@[simp] theorem putCq_rest (q : Nat) (x : Cq) (b : Block) :
    (putCq q x b).regs = b.regs ∧ (putCq q x b).act = b.act ∧ (putCq q x b).clock = b.clock ∧ (putCq q x b).pins = b.pins ∧
    (putCq q x b).pwr = b.pwr ∧ (putCq q x b).fw = b.fw ∧ (putCq q x b).lc = b.lc ∧ (putCq q x b).cfg = b.cfg ∧ (putCq q x b).sl = b.sl ∧
    (putCq q x b).spi = b.spi ∧ (putCq q x b).latch = b.latch ∧ (putCq q x b).cap = b.cap ∧ (putCq q x b).fe = b.fe ∧ (putCq q x b).bal = b.bal ∧
    (putCq q x b).imp = b.imp ∧ (putCq q x b).bw = b.bw ∧ (putCq q x b).rl = b.rl ∧ (putCq q x b).cw = b.cw ∧ (putCq q x b).fen = b.fen ∧
    (putCq q x b).pol = b.pol ∧ (putCq q x b).led = b.led ∧ (putCq q x b).bist = b.bist ∧ (putCq q x b).calib = b.calib ∧
    (putCq q x b).dieIds = b.dieIds ∧ (putCq q x b).carry = b.carry ∧ (putCq q x b).recs = b.recs ∧ (putCq q x b).out = b.out ∧
    (putCq q x b).freeCtr = b.freeCtr := by
  refine ⟨rfl, rfl, rfl, rfl, rfl, rfl, rfl, rfl, rfl, rfl, rfl, rfl, rfl, rfl, rfl, rfl, rfl, rfl, rfl, rfl, rfl, rfl, rfl, rfl, rfl, rfl, rfl, rfl⟩

@[simp] theorem putSr_rest (q : Nat) (x : Sr) (b : Block) :
    (putSr q x b).regs = b.regs ∧ (putSr q x b).act = b.act ∧ (putSr q x b).clock = b.clock ∧ (putSr q x b).pins = b.pins ∧
    (putSr q x b).pwr = b.pwr ∧ (putSr q x b).fw = b.fw ∧ (putSr q x b).lc = b.lc ∧ (putSr q x b).cfg = b.cfg ∧ (putSr q x b).sl = b.sl ∧
    (putSr q x b).spi = b.spi ∧ (putSr q x b).latch = b.latch ∧ (putSr q x b).cap = b.cap ∧ (putSr q x b).fe = b.fe ∧ (putSr q x b).bal = b.bal ∧
    (putSr q x b).imp = b.imp ∧ (putSr q x b).bw = b.bw ∧ (putSr q x b).rl = b.rl ∧ (putSr q x b).cw = b.cw ∧ (putSr q x b).fen = b.fen ∧
    (putSr q x b).pol = b.pol ∧ (putSr q x b).led = b.led ∧ (putSr q x b).bist = b.bist ∧ (putSr q x b).calib = b.calib ∧
    (putSr q x b).dieIds = b.dieIds ∧ (putSr q x b).carry = b.carry ∧ (putSr q x b).recs = b.recs ∧ (putSr q x b).out = b.out ∧
    (putSr q x b).freeCtr = b.freeCtr := by
  refine ⟨rfl, rfl, rfl, rfl, rfl, rfl, rfl, rfl, rfl, rfl, rfl, rfl, rfl, rfl, rfl, rfl, rfl, rfl, rfl, rfl, rfl, rfl, rfl, rfl, rfl, rfl, rfl, rfl⟩

@[simp] theorem putFifo_rest (q : Nat) (x : Fifo) (b : Block) :
    (putFifo q x b).regs = b.regs ∧ (putFifo q x b).act = b.act ∧ (putFifo q x b).clock = b.clock ∧ (putFifo q x b).pins = b.pins ∧
    (putFifo q x b).pwr = b.pwr ∧ (putFifo q x b).fw = b.fw ∧ (putFifo q x b).lc = b.lc ∧ (putFifo q x b).cfg = b.cfg ∧ (putFifo q x b).sl = b.sl ∧
    (putFifo q x b).hst = b.hst ∧ (putFifo q x b).latch = b.latch ∧ (putFifo q x b).cap = b.cap ∧ (putFifo q x b).fe = b.fe ∧
    (putFifo q x b).bal = b.bal ∧ (putFifo q x b).imp = b.imp ∧ (putFifo q x b).bw = b.bw ∧ (putFifo q x b).rl = b.rl ∧ (putFifo q x b).cw = b.cw ∧
    (putFifo q x b).fen = b.fen ∧ (putFifo q x b).pol = b.pol ∧ (putFifo q x b).led = b.led ∧ (putFifo q x b).bist = b.bist ∧
    (putFifo q x b).calib = b.calib ∧ (putFifo q x b).dieIds = b.dieIds ∧ (putFifo q x b).carry = b.carry ∧ (putFifo q x b).recs = b.recs ∧
    (putFifo q x b).out = b.out ∧ (putFifo q x b).freeCtr = b.freeCtr := by
  refine ⟨rfl, rfl, rfl, rfl, rfl, rfl, rfl, rfl, rfl, rfl, rfl, rfl, rfl, rfl, rfl, rfl, rfl, rfl, rfl, rfl, rfl, rfl, rfl, rfl, rfl, rfl, rfl, rfl⟩

@[simp] theorem putRing_rest (q : Nat) (x : CapRing) (b : Block) :
    (putRing q x b).regs = b.regs ∧ (putRing q x b).act = b.act ∧ (putRing q x b).clock = b.clock ∧ (putRing q x b).pins = b.pins ∧
    (putRing q x b).pwr = b.pwr ∧ (putRing q x b).fw = b.fw ∧ (putRing q x b).lc = b.lc ∧ (putRing q x b).cfg = b.cfg ∧ (putRing q x b).sl = b.sl ∧
    (putRing q x b).hst = b.hst ∧ (putRing q x b).spi = b.spi ∧ (putRing q x b).latch = b.latch ∧ (putRing q x b).fe = b.fe ∧
    (putRing q x b).bal = b.bal ∧ (putRing q x b).imp = b.imp ∧ (putRing q x b).bw = b.bw ∧ (putRing q x b).rl = b.rl ∧ (putRing q x b).cw = b.cw ∧
    (putRing q x b).fen = b.fen ∧ (putRing q x b).pol = b.pol ∧ (putRing q x b).led = b.led ∧ (putRing q x b).bist = b.bist ∧
    (putRing q x b).calib = b.calib ∧ (putRing q x b).dieIds = b.dieIds ∧ (putRing q x b).carry = b.carry ∧ (putRing q x b).recs = b.recs ∧
    (putRing q x b).out = b.out ∧ (putRing q x b).freeCtr = b.freeCtr := by
  refine ⟨rfl, rfl, rfl, rfl, rfl, rfl, rfl, rfl, rfl, rfl, rfl, rfl, rfl, rfl, rfl, rfl, rfl, rfl, rfl, rfl, rfl, rfl, rfl, rfl, rfl, rfl, rfl, rfl⟩

@[simp] theorem putBal_rest (q : Nat) (x : BalCell) (b : Block) :
    (putBal q x b).regs = b.regs ∧ (putBal q x b).act = b.act ∧ (putBal q x b).clock = b.clock ∧ (putBal q x b).pins = b.pins ∧
    (putBal q x b).pwr = b.pwr ∧ (putBal q x b).fw = b.fw ∧ (putBal q x b).lc = b.lc ∧ (putBal q x b).cfg = b.cfg ∧ (putBal q x b).sl = b.sl ∧
    (putBal q x b).hst = b.hst ∧ (putBal q x b).spi = b.spi ∧ (putBal q x b).latch = b.latch ∧ (putBal q x b).cap = b.cap ∧ (putBal q x b).fe = b.fe ∧
    (putBal q x b).imp = b.imp ∧ (putBal q x b).bw = b.bw ∧ (putBal q x b).rl = b.rl ∧ (putBal q x b).cw = b.cw ∧ (putBal q x b).fen = b.fen ∧
    (putBal q x b).pol = b.pol ∧ (putBal q x b).led = b.led ∧ (putBal q x b).bist = b.bist ∧ (putBal q x b).calib = b.calib ∧
    (putBal q x b).dieIds = b.dieIds ∧ (putBal q x b).carry = b.carry ∧ (putBal q x b).recs = b.recs ∧ (putBal q x b).out = b.out ∧
    (putBal q x b).freeCtr = b.freeCtr := by
  refine ⟨rfl, rfl, rfl, rfl, rfl, rfl, rfl, rfl, rfl, rfl, rfl, rfl, rfl, rfl, rfl, rfl, rfl, rfl, rfl, rfl, rfl, rfl, rfl, rfl, rfl, rfl, rfl, rfl⟩

@[simp] theorem finish_rest (q st dt r0 r1 : Nat) (b : Block) :
    (finish q st dt r0 r1 b).regs = b.regs ∧ (finish q st dt r0 r1 b).act = b.act ∧ (finish q st dt r0 r1 b).clock = b.clock ∧
    (finish q st dt r0 r1 b).pins = b.pins ∧ (finish q st dt r0 r1 b).pwr = b.pwr ∧ (finish q st dt r0 r1 b).fw = b.fw ∧
    (finish q st dt r0 r1 b).lc = b.lc ∧ (finish q st dt r0 r1 b).cfg = b.cfg ∧ (finish q st dt r0 r1 b).sl = b.sl ∧
    (finish q st dt r0 r1 b).spi = b.spi ∧ (finish q st dt r0 r1 b).latch = b.latch ∧ (finish q st dt r0 r1 b).cap = b.cap ∧
    (finish q st dt r0 r1 b).fe = b.fe ∧ (finish q st dt r0 r1 b).bal = b.bal ∧ (finish q st dt r0 r1 b).imp = b.imp ∧
    (finish q st dt r0 r1 b).bw = b.bw ∧ (finish q st dt r0 r1 b).rl = b.rl ∧ (finish q st dt r0 r1 b).cw = b.cw ∧
    (finish q st dt r0 r1 b).fen = b.fen ∧ (finish q st dt r0 r1 b).pol = b.pol ∧ (finish q st dt r0 r1 b).led = b.led ∧
    (finish q st dt r0 r1 b).bist = b.bist ∧ (finish q st dt r0 r1 b).calib = b.calib ∧ (finish q st dt r0 r1 b).dieIds = b.dieIds ∧
    (finish q st dt r0 r1 b).carry = b.carry ∧ (finish q st dt r0 r1 b).recs = b.recs ∧ (finish q st dt r0 r1 b).out = b.out ∧
    (finish q st dt r0 r1 b).freeCtr = b.freeCtr := by
  unfold finish; (try simp only []); (repeat' split) <;> simp

@[simp] theorem waitOn_rest (q : Nat) (w : CmdWait) (b : Block) :
    (waitOn q w b).regs = b.regs ∧ (waitOn q w b).act = b.act ∧ (waitOn q w b).clock = b.clock ∧ (waitOn q w b).pins = b.pins ∧
    (waitOn q w b).pwr = b.pwr ∧ (waitOn q w b).fw = b.fw ∧ (waitOn q w b).lc = b.lc ∧ (waitOn q w b).cfg = b.cfg ∧ (waitOn q w b).sl = b.sl ∧
    (waitOn q w b).spi = b.spi ∧ (waitOn q w b).latch = b.latch ∧ (waitOn q w b).cap = b.cap ∧ (waitOn q w b).fe = b.fe ∧ (waitOn q w b).bal = b.bal ∧
    (waitOn q w b).imp = b.imp ∧ (waitOn q w b).bw = b.bw ∧ (waitOn q w b).rl = b.rl ∧ (waitOn q w b).cw = b.cw ∧ (waitOn q w b).fen = b.fen ∧
    (waitOn q w b).pol = b.pol ∧ (waitOn q w b).led = b.led ∧ (waitOn q w b).bist = b.bist ∧ (waitOn q w b).calib = b.calib ∧
    (waitOn q w b).dieIds = b.dieIds ∧ (waitOn q w b).carry = b.carry ∧ (waitOn q w b).recs = b.recs ∧ (waitOn q w b).out = b.out ∧
    (waitOn q w b).freeCtr = b.freeCtr := by
  unfold waitOn; (try simp only []); (repeat' split) <;> simp

@[simp] theorem cntAdd_rest (i n : Nat) (b : Block) :
    (cntAdd i n b).act = b.act ∧ (cntAdd i n b).clock = b.clock ∧ (cntAdd i n b).pins = b.pins ∧ (cntAdd i n b).pwr = b.pwr ∧
    (cntAdd i n b).fw = b.fw ∧ (cntAdd i n b).lc = b.lc ∧ (cntAdd i n b).cfg = b.cfg ∧ (cntAdd i n b).sl = b.sl ∧ (cntAdd i n b).hst = b.hst ∧
    (cntAdd i n b).spi = b.spi ∧ (cntAdd i n b).latch = b.latch ∧ (cntAdd i n b).cap = b.cap ∧ (cntAdd i n b).fe = b.fe ∧ (cntAdd i n b).bal = b.bal ∧
    (cntAdd i n b).imp = b.imp ∧ (cntAdd i n b).bw = b.bw ∧ (cntAdd i n b).rl = b.rl ∧ (cntAdd i n b).cw = b.cw ∧ (cntAdd i n b).fen = b.fen ∧
    (cntAdd i n b).pol = b.pol ∧ (cntAdd i n b).led = b.led ∧ (cntAdd i n b).bist = b.bist ∧ (cntAdd i n b).calib = b.calib ∧
    (cntAdd i n b).dieIds = b.dieIds ∧ (cntAdd i n b).carry = b.carry ∧ (cntAdd i n b).recs = b.recs ∧ (cntAdd i n b).out = b.out ∧
    (cntAdd i n b).freeCtr = b.freeCtr := by
  unfold cntAdd; simp

@[simp] theorem count_rest (k n : Nat) (q : Qual) (b : Block) :
    (count k n q b).act = b.act ∧ (count k n q b).clock = b.clock ∧ (count k n q b).pins = b.pins ∧ (count k n q b).pwr = b.pwr ∧
    (count k n q b).fw = b.fw ∧ (count k n q b).lc = b.lc ∧ (count k n q b).cfg = b.cfg ∧ (count k n q b).sl = b.sl ∧ (count k n q b).hst = b.hst ∧
    (count k n q b).spi = b.spi ∧ (count k n q b).latch = b.latch ∧ (count k n q b).cap = b.cap ∧ (count k n q b).fe = b.fe ∧
    (count k n q b).bal = b.bal ∧ (count k n q b).imp = b.imp ∧ (count k n q b).bw = b.bw ∧ (count k n q b).rl = b.rl ∧ (count k n q b).cw = b.cw ∧
    (count k n q b).fen = b.fen ∧ (count k n q b).pol = b.pol ∧ (count k n q b).led = b.led ∧ (count k n q b).bist = b.bist ∧
    (count k n q b).calib = b.calib ∧ (count k n q b).dieIds = b.dieIds ∧ (count k n q b).carry = b.carry ∧ (count k n q b).recs = b.recs ∧
    (count k n q b).out = b.out ∧ (count k n q b).freeCtr = b.freeCtr := by
  unfold count; split
  · simp
  · refine ⟨?_, ?_, ?_, ?_, ?_, ?_, ?_, ?_, ?_, ?_, ?_, ?_, ?_, ?_, ?_, ?_, ?_, ?_, ?_, ?_, ?_, ?_, ?_, ?_, ?_, ?_, ?_, ?_⟩ <;> (apply each_proj; intro x c; simp only [when]; (repeat' split) <;> simp)

end Sys2Proof.Machine
end

