-- ==== Sys2Proof/Laws/KeepOps.lean ====
section
/-! SUPPORT. What each operation of Machine/Ops.lean leaves alone: a `…_keeps` lemma lists the fields of the block that read after it as before. -/

namespace Sys2Proof.Machine

set_option linter.all false

/-- What a change of power state or of the request leaves of the power state. -/
def Power.rest (p : Power) : Bool × Bool × List Nat × Nat × Bool × Bool × List Nat :=
  (p.parking, p.parked, p.wakes, p.retain, p.halted, p.resetHold, p.supplyLost)
@[simp] theorem Power.rest_mk (s t : PowerState) (r : Option PowerState) (p : Power) :
    Power.rest { p with state := s, prev := t, request := r } = p.rest := rfl
@[simp] theorem ite_ticks (c : Prop) [Decidable c] (x y : Clock) : (if c then x else y).ticks = if c then x.ticks else y.ticks := by split <;> rfl
@[simp] theorem ite_running (c : Prop) [Decidable c] (x y : Clock) : (if c then x else y).running = if c then x.running else y.running := by split <;> rfl
@[simp] theorem ite_rest (c : Prop) [Decidable c] (x y : Power) : (if c then x else y).rest = if c then x.rest else y.rest := by split <;> rfl

@[simp] theorem each_ticks {α : Type} (l : List α) (f : α → Block → Block) (b : Block) (h : ∀ x c, (f x c).clock.ticks = c.clock.ticks) :
    (each l f b).clock.ticks = b.clock.ticks := each_proj (fun b => b.clock.ticks) l f b h
@[simp] theorem when_ticks (c : Bool) (f : Block → Block) (b : Block) (h : (f b).clock.ticks = b.clock.ticks) : (when c f b).clock.ticks = b.clock.ticks :=
  when_proj (fun b => b.clock.ticks) c f b h
@[simp] theorem each_running {α : Type} (l : List α) (f : α → Block → Block) (b : Block) (h : ∀ x c, (f x c).clock.running = c.clock.running) :
    (each l f b).clock.running = b.clock.running := each_proj (fun b => b.clock.running) l f b h
@[simp] theorem when_running (c : Bool) (f : Block → Block) (b : Block) (h : (f b).clock.running = b.clock.running) : (when c f b).clock.running = b.clock.running :=
  when_proj (fun b => b.clock.running) c f b h
@[simp] theorem each_prest {α : Type} (l : List α) (f : α → Block → Block) (b : Block) (h : ∀ x c, (f x c).pwr.rest = c.pwr.rest) :
    (each l f b).pwr.rest = b.pwr.rest := each_proj (fun b => b.pwr.rest) l f b h
@[simp] theorem when_prest (c : Bool) (f : Block → Block) (b : Block) (h : (f b).pwr.rest = b.pwr.rest) : (when c f b).pwr.rest = b.pwr.rest :=
  when_proj (fun b => b.pwr.rest) c f b h
@[simp] theorem inFrame_lc (f : Block → Block) (b : Block) (h : (f b).lc = b.lc) : (inFrame f b).lc = b.lc := by
  unfold inFrame; split <;> simp [h]
@[simp] theorem inFrame_fw (f : Block → Block) (b : Block) (h : (f b).fw = b.fw) : (inFrame f b).fw = b.fw := by
  unfold inFrame; split <;> simp [h]
@[simp] theorem inFrame_cfg (f : Block → Block) (b : Block) (h : (f b).cfg = b.cfg) : (inFrame f b).cfg = b.cfg := by
  unfold inFrame; split <;> simp [h]
@[simp] theorem inFrame_ticks (f : Block → Block) (b : Block) (h : (f b).clock.ticks = b.clock.ticks) : (inFrame f b).clock.ticks = b.clock.ticks := by
  unfold inFrame; split <;> simp [h]
@[simp] theorem inFrame_running (f : Block → Block) (b : Block) (h : (f b).clock.running = b.clock.running) : (inFrame f b).clock.running = b.clock.running := by
  unfold inFrame; split <;> simp [h]
@[simp] theorem inFrame_pins (f : Block → Block) (b : Block) (h : (f b).pins = b.pins) : (inFrame f b).pins = b.pins := by
  unfold inFrame; split <;> simp [h]
@[simp] theorem inFrame_prest (f : Block → Block) (b : Block) (h : (f b).pwr.rest = b.pwr.rest) : (inFrame f b).pwr.rest = b.pwr.rest := by
  unfold inFrame; split <;> simp [h]
@[simp] theorem inFrame_act (f : Block → Block) (b : Block) (h : (f b).act = b.act) : (inFrame f b).act = b.act := by
  unfold inFrame; split <;> simp [h]
@[simp] theorem inFrame_recs (f : Block → Block) (b : Block) (h : (f b).recs = b.recs) : (inFrame f b).recs = b.recs := by
  unfold inFrame; split <;> simp [h]
@[simp] theorem inFrame_out (f : Block → Block) (b : Block) (h : (f b).out = b.out) : (inFrame f b).out = b.out := by
  unfold inFrame; split <;> simp [h]
@[simp] theorem inFrame_bist (f : Block → Block) (b : Block) (h : (f b).bist = b.bist) : (inFrame f b).bist = b.bist := by
  unfold inFrame; split <;> simp [h]
@[simp] theorem inFrame_bal (f : Block → Block) (b : Block) (h : (f b).bal = b.bal) : (inFrame f b).bal = b.bal := by
  unfold inFrame; split <;> simp [h]
@[simp] theorem inFrame_cw (f : Block → Block) (b : Block) (h : (f b).cw = b.cw) : (inFrame f b).cw = b.cw := by
  unfold inFrame; split <;> simp [h]
@[simp] theorem inFrame_fen (f : Block → Block) (b : Block) (h : (f b).fen = b.fen) : (inFrame f b).fen = b.fen := by
  unfold inFrame; split <;> simp [h]
@[simp] theorem inFrame_cap (f : Block → Block) (b : Block) (h : (f b).cap = b.cap) : (inFrame f b).cap = b.cap := by
  unfold inFrame; split <;> simp [h]
@[simp] theorem inFrame_spi (f : Block → Block) (b : Block) (h : (f b).spi = b.spi) : (inFrame f b).spi = b.spi := by
  unfold inFrame; split <;> simp [h]
@[simp] theorem dmaWrite_keeps (addr : Nat) (ws : List Word) (b : Block) :
    (dmaWrite addr ws b).lc = b.lc ∧ (dmaWrite addr ws b).fw = b.fw ∧ (dmaWrite addr ws b).cfg = b.cfg ∧
    (dmaWrite addr ws b).clock.ticks = b.clock.ticks ∧ (dmaWrite addr ws b).clock.running = b.clock.running ∧ (dmaWrite addr ws b).pins = b.pins ∧
    (dmaWrite addr ws b).pwr.rest = b.pwr.rest ∧ (dmaWrite addr ws b).act = b.act ∧ (dmaWrite addr ws b).recs = b.recs ∧
    (dmaWrite addr ws b).bist = b.bist ∧ (dmaWrite addr ws b).bal = b.bal ∧ (dmaWrite addr ws b).cw = b.cw ∧ (dmaWrite addr ws b).fen = b.fen ∧
    (dmaWrite addr ws b).cap = b.cap ∧ (dmaWrite addr ws b).spi = b.spi := by
  unfold dmaWrite; simp
@[simp] theorem resumeAfter_lc (f : Block → Block) (b : Block) (h : (f b).lc = b.lc) : (resumeAfter f b).lc = b.lc := by
  unfold resumeAfter; simp only []; split <;> simp [h]
@[simp] theorem resumeAfter_fw (f : Block → Block) (b : Block) (h : (f b).fw = b.fw) : (resumeAfter f b).fw = b.fw := by
  unfold resumeAfter; simp only []; split <;> simp [h]
@[simp] theorem resumeAfter_cfg (f : Block → Block) (b : Block) (h : (f b).cfg = b.cfg) : (resumeAfter f b).cfg = b.cfg := by
  unfold resumeAfter; simp only []; split <;> simp [h]
@[simp] theorem resumeAfter_ticks (f : Block → Block) (b : Block) (h : (f b).clock.ticks = b.clock.ticks) : (resumeAfter f b).clock.ticks = b.clock.ticks := by
  unfold resumeAfter; simp only []; split <;> simp [h]
@[simp] theorem resumeAfter_running (f : Block → Block) (b : Block) (h : (f b).clock.running = b.clock.running) : (resumeAfter f b).clock.running = b.clock.running := by
  unfold resumeAfter; simp only []; split <;> simp [h]
@[simp] theorem resumeAfter_pins (f : Block → Block) (b : Block) (h : (f b).pins = b.pins) : (resumeAfter f b).pins = b.pins := by
  unfold resumeAfter; simp only []; split <;> simp [h]
@[simp] theorem resumeAfter_prest (f : Block → Block) (b : Block) (h : (f b).pwr.rest = b.pwr.rest) : (resumeAfter f b).pwr.rest = b.pwr.rest := by
  unfold resumeAfter; simp only []; split <;> simp [h]
@[simp] theorem resumeAfter_act (f : Block → Block) (b : Block) (h : (f b).act = b.act) : (resumeAfter f b).act = b.act := by
  unfold resumeAfter; simp only []; split <;> simp [h]
@[simp] theorem resumeAfter_recs (f : Block → Block) (b : Block) (h : (f b).recs = b.recs) : (resumeAfter f b).recs = b.recs := by
  unfold resumeAfter; simp only []; split <;> simp [h]
@[simp] theorem resumeAfter_out (f : Block → Block) (b : Block) (h : (f b).out = b.out) : (resumeAfter f b).out = b.out := by
  unfold resumeAfter; simp only []; split <;> simp [h]
@[simp] theorem resumeAfter_bist (f : Block → Block) (b : Block) (h : (f b).bist = b.bist) : (resumeAfter f b).bist = b.bist := by
  unfold resumeAfter; simp only []; split <;> simp [h]
@[simp] theorem resumeAfter_bal (f : Block → Block) (b : Block) (h : (f b).bal = b.bal) : (resumeAfter f b).bal = b.bal := by
  unfold resumeAfter; simp only []; split <;> simp [h]
@[simp] theorem resumeAfter_cw (f : Block → Block) (b : Block) (h : (f b).cw = b.cw) : (resumeAfter f b).cw = b.cw := by
  unfold resumeAfter; simp only []; split <;> simp [h]
@[simp] theorem resumeAfter_fen (f : Block → Block) (b : Block) (h : (f b).fen = b.fen) : (resumeAfter f b).fen = b.fen := by
  unfold resumeAfter; simp only []; split <;> simp [h]
@[simp] theorem resumeAfter_cap (f : Block → Block) (b : Block) (h : (f b).cap = b.cap) : (resumeAfter f b).cap = b.cap := by
  unfold resumeAfter; simp only []; split <;> simp [h]
@[simp] theorem resumeAfter_spi (f : Block → Block) (b : Block) (h : (f b).spi = b.spi) : (resumeAfter f b).spi = b.spi := by
  unfold resumeAfter; simp only []; split <;> simp [h]

end Sys2Proof.Machine
end

