-- ==== Sys2Proof/Laws/KeepRecords.lean ====
section
/-! SUPPORT. What each operation of Machine/Records.lean leaves alone: a `…_keeps` lemma lists the fields of the block that read after it as before. -/

namespace Sys2Proof.Machine

set_option linter.all false

@[simp] theorem srPut_keeps (s : Nat) (ws : List Word) (b : Block) :
    (srPut s ws b).lc = b.lc ∧ (srPut s ws b).fw = b.fw ∧ (srPut s ws b).cfg = b.cfg ∧ (srPut s ws b).clock.ticks = b.clock.ticks ∧
    (srPut s ws b).clock.running = b.clock.running ∧ (srPut s ws b).pins = b.pins ∧ (srPut s ws b).pwr.rest = b.pwr.rest ∧
    (srPut s ws b).act = b.act ∧ (srPut s ws b).recs = b.recs ∧ (srPut s ws b).bist = b.bist ∧ (srPut s ws b).bal = b.bal ∧
    (srPut s ws b).cw = b.cw ∧ (srPut s ws b).fen = b.fen ∧ (srPut s ws b).cap = b.cap ∧ (srPut s ws b).spi = b.spi := by
  unfold srPut; simp
@[simp] theorem srPlace_keeps (s : Nat) (r : Rec) (b : Block) :
    (srPlace s r b).lc = b.lc ∧ (srPlace s r b).fw = b.fw ∧ (srPlace s r b).cfg = b.cfg ∧ (srPlace s r b).clock.ticks = b.clock.ticks ∧
    (srPlace s r b).clock.running = b.clock.running ∧ (srPlace s r b).pins = b.pins ∧ (srPlace s r b).pwr.rest = b.pwr.rest ∧
    (srPlace s r b).act = b.act ∧ (srPlace s r b).recs = b.recs ∧ (srPlace s r b).bist = b.bist ∧ (srPlace s r b).bal = b.bal ∧
    (srPlace s r b).cw = b.cw ∧ (srPlace s r b).fen = b.fen ∧ (srPlace s r b).cap = b.cap ∧ (srPlace s r b).spi = b.spi := by
  unfold srPlace; simp
@[simp] theorem srDrop_keeps (s n : Nat) (b : Block) :
    (srDrop s n b).lc = b.lc ∧ (srDrop s n b).fw = b.fw ∧ (srDrop s n b).cfg = b.cfg ∧ (srDrop s n b).clock.ticks = b.clock.ticks ∧
    (srDrop s n b).clock.running = b.clock.running ∧ (srDrop s n b).pins = b.pins ∧ (srDrop s n b).pwr.rest = b.pwr.rest ∧
    (srDrop s n b).act = b.act ∧ (srDrop s n b).recs = b.recs ∧ (srDrop s n b).out = b.out ∧ (srDrop s n b).bist = b.bist ∧
    (srDrop s n b).bal = b.bal ∧ (srDrop s n b).cw = b.cw ∧ (srDrop s n b).fen = b.fen ∧ (srDrop s n b).cap = b.cap ∧ (srDrop s n b).spi = b.spi := by
  unfold srDrop; simp
@[simp] theorem srOffer_keeps (s : Nat) (r : Rec) (b : Block) :
    (srOffer s r b).lc = b.lc ∧ (srOffer s r b).fw = b.fw ∧ (srOffer s r b).cfg = b.cfg ∧ (srOffer s r b).clock.ticks = b.clock.ticks ∧
    (srOffer s r b).clock.running = b.clock.running ∧ (srOffer s r b).pins = b.pins ∧ (srOffer s r b).pwr.rest = b.pwr.rest ∧
    (srOffer s r b).act = b.act ∧ (srOffer s r b).recs = b.recs ∧ (srOffer s r b).bist = b.bist ∧ (srOffer s r b).bal = b.bal ∧
    (srOffer s r b).cw = b.cw ∧ (srOffer s r b).fen = b.fen ∧ (srOffer s r b).cap = b.cap ∧ (srOffer s r b).spi = b.spi := by
  unfold srOffer; simp
@[simp] theorem fifoCross_keeps (f before : Nat) (b : Block) :
    (fifoCross f before b).lc = b.lc ∧ (fifoCross f before b).fw = b.fw ∧ (fifoCross f before b).cfg = b.cfg ∧
    (fifoCross f before b).clock.ticks = b.clock.ticks ∧ (fifoCross f before b).clock.running = b.clock.running ∧
    (fifoCross f before b).pins = b.pins ∧ (fifoCross f before b).pwr.rest = b.pwr.rest ∧ (fifoCross f before b).act = b.act ∧
    (fifoCross f before b).recs = b.recs ∧ (fifoCross f before b).out = b.out ∧ (fifoCross f before b).bist = b.bist ∧
    (fifoCross f before b).bal = b.bal ∧ (fifoCross f before b).cw = b.cw ∧ (fifoCross f before b).fen = b.fen ∧ (fifoCross f before b).cap = b.cap ∧
    (fifoCross f before b).spi = b.spi := by
  unfold fifoCross; simp
@[simp] theorem fifoOffer_keeps (f : Nat) (r : Rec) (b : Block) :
    (fifoOffer f r b).lc = b.lc ∧ (fifoOffer f r b).fw = b.fw ∧ (fifoOffer f r b).cfg = b.cfg ∧ (fifoOffer f r b).clock.ticks = b.clock.ticks ∧
    (fifoOffer f r b).clock.running = b.clock.running ∧ (fifoOffer f r b).pins = b.pins ∧ (fifoOffer f r b).pwr.rest = b.pwr.rest ∧
    (fifoOffer f r b).act = b.act ∧ (fifoOffer f r b).recs = b.recs ∧ (fifoOffer f r b).out = b.out ∧ (fifoOffer f r b).bist = b.bist ∧
    (fifoOffer f r b).bal = b.bal ∧ (fifoOffer f r b).cw = b.cw ∧ (fifoOffer f r b).fen = b.fen ∧ (fifoOffer f r b).cap = b.cap := by
  unfold fifoOffer; simp
@[simp] theorem capLoseMark_keeps (r : Nat) (b : Block) :
    (capLoseMark r b).lc = b.lc ∧ (capLoseMark r b).fw = b.fw ∧ (capLoseMark r b).cfg = b.cfg ∧ (capLoseMark r b).clock.ticks = b.clock.ticks ∧
    (capLoseMark r b).clock.running = b.clock.running ∧ (capLoseMark r b).pins = b.pins ∧ (capLoseMark r b).pwr.rest = b.pwr.rest ∧
    (capLoseMark r b).act = b.act ∧ (capLoseMark r b).recs = b.recs ∧ (capLoseMark r b).out = b.out ∧ (capLoseMark r b).bist = b.bist ∧
    (capLoseMark r b).bal = b.bal ∧ (capLoseMark r b).cw = b.cw ∧ (capLoseMark r b).fen = b.fen ∧ (capLoseMark r b).cap = b.cap ∧
    (capLoseMark r b).spi = b.spi := by
  unfold capLoseMark; simp
@[simp] theorem capOverlay_keeps (area : List (Nat × Nat)) (o : Nat) (b : Block) :
    (capOverlay area o b).lc = b.lc ∧ (capOverlay area o b).fw = b.fw ∧ (capOverlay area o b).cfg = b.cfg ∧
    (capOverlay area o b).clock.ticks = b.clock.ticks ∧ (capOverlay area o b).clock.running = b.clock.running ∧ (capOverlay area o b).pins = b.pins ∧
    (capOverlay area o b).pwr.rest = b.pwr.rest ∧ (capOverlay area o b).act = b.act ∧ (capOverlay area o b).recs = b.recs ∧
    (capOverlay area o b).out = b.out ∧ (capOverlay area o b).bist = b.bist ∧ (capOverlay area o b).bal = b.bal ∧ (capOverlay area o b).cw = b.cw ∧
    (capOverlay area o b).fen = b.fen ∧ (capOverlay area o b).spi = b.spi := by
  unfold capOverlay; simp
@[simp] theorem capOffer_keeps (r : Nat) (rc : Rec) (b : Block) :
    (capOffer r rc b).lc = b.lc ∧ (capOffer r rc b).fw = b.fw ∧ (capOffer r rc b).cfg = b.cfg ∧ (capOffer r rc b).clock.ticks = b.clock.ticks ∧
    (capOffer r rc b).clock.running = b.clock.running ∧ (capOffer r rc b).pins = b.pins ∧ (capOffer r rc b).pwr.rest = b.pwr.rest ∧
    (capOffer r rc b).act = b.act ∧ (capOffer r rc b).recs = b.recs ∧ (capOffer r rc b).out = b.out ∧ (capOffer r rc b).bist = b.bist ∧
    (capOffer r rc b).bal = b.bal ∧ (capOffer r rc b).cw = b.cw ∧ (capOffer r rc b).fen = b.fen ∧ (capOffer r rc b).spi = b.spi := by
  unfold capOffer; simp
@[simp] theorem capGive_keeps (r : Nat) (rc : Rec) (b : Block) :
    (capGive r rc b).lc = b.lc ∧ (capGive r rc b).fw = b.fw ∧ (capGive r rc b).cfg = b.cfg ∧ (capGive r rc b).clock.ticks = b.clock.ticks ∧
    (capGive r rc b).clock.running = b.clock.running ∧ (capGive r rc b).pins = b.pins ∧ (capGive r rc b).pwr.rest = b.pwr.rest ∧
    (capGive r rc b).act = b.act ∧ (capGive r rc b).recs = b.recs ∧ (capGive r rc b).out = b.out ∧ (capGive r rc b).bist = b.bist ∧
    (capGive r rc b).bal = b.bal ∧ (capGive r rc b).cw = b.cw ∧ (capGive r rc b).fen = b.fen ∧ (capGive r rc b).spi = b.spi := by
  unfold capGive; simp
@[simp] theorem capAll_keeps (rc : Rec) (b : Block) :
    (capAll rc b).lc = b.lc ∧ (capAll rc b).fw = b.fw ∧ (capAll rc b).cfg = b.cfg ∧ (capAll rc b).clock.ticks = b.clock.ticks ∧
    (capAll rc b).clock.running = b.clock.running ∧ (capAll rc b).pins = b.pins ∧ (capAll rc b).pwr.rest = b.pwr.rest ∧ (capAll rc b).act = b.act ∧
    (capAll rc b).recs = b.recs ∧ (capAll rc b).out = b.out ∧ (capAll rc b).bist = b.bist ∧ (capAll rc b).bal = b.bal ∧ (capAll rc b).cw = b.cw ∧
    (capAll rc b).fen = b.fen ∧ (capAll rc b).spi = b.spi := by
  unfold capAll; simp
@[simp] theorem capRaw_keeps (fr : RawFrame) (b : Block) :
    (capRaw fr b).lc = b.lc ∧ (capRaw fr b).fw = b.fw ∧ (capRaw fr b).cfg = b.cfg ∧ (capRaw fr b).clock.ticks = b.clock.ticks ∧
    (capRaw fr b).clock.running = b.clock.running ∧ (capRaw fr b).pins = b.pins ∧ (capRaw fr b).pwr.rest = b.pwr.rest ∧ (capRaw fr b).act = b.act ∧
    (capRaw fr b).recs = b.recs ∧ (capRaw fr b).out = b.out ∧ (capRaw fr b).bist = b.bist ∧ (capRaw fr b).bal = b.bal ∧ (capRaw fr b).cw = b.cw ∧
    (capRaw fr b).fen = b.fen ∧ (capRaw fr b).spi = b.spi := by
  unfold capRaw; simp
@[simp] theorem setWords_keeps (a : Nat) (ws : List Word) (b : Block) :
    (setWords a ws b).lc = b.lc ∧ (setWords a ws b).fw = b.fw ∧ (setWords a ws b).cfg = b.cfg ∧ (setWords a ws b).clock.ticks = b.clock.ticks ∧
    (setWords a ws b).clock.running = b.clock.running ∧ (setWords a ws b).pins = b.pins ∧ (setWords a ws b).pwr.rest = b.pwr.rest ∧
    (setWords a ws b).act = b.act ∧ (setWords a ws b).recs = b.recs ∧ (setWords a ws b).out = b.out ∧ (setWords a ws b).bist = b.bist ∧
    (setWords a ws b).bal = b.bal ∧ (setWords a ws b).cw = b.cw ∧ (setWords a ws b).fen = b.fen ∧ (setWords a ws b).cap = b.cap ∧
    (setWords a ws b).spi = b.spi := by
  induction ws generalizing a b with
  | nil => simp [setWords]
  | cons w ws ih => simp [setWords, ih]
@[simp] theorem setPair_keeps (a v : Nat) (b : Block) :
    (setPair a v b).lc = b.lc ∧ (setPair a v b).fw = b.fw ∧ (setPair a v b).cfg = b.cfg ∧ (setPair a v b).clock.ticks = b.clock.ticks ∧
    (setPair a v b).clock.running = b.clock.running ∧ (setPair a v b).pins = b.pins ∧ (setPair a v b).pwr.rest = b.pwr.rest ∧
    (setPair a v b).act = b.act ∧ (setPair a v b).recs = b.recs ∧ (setPair a v b).out = b.out ∧ (setPair a v b).bist = b.bist ∧
    (setPair a v b).bal = b.bal ∧ (setPair a v b).cw = b.cw ∧ (setPair a v b).fen = b.fen ∧ (setPair a v b).cap = b.cap ∧
    (setPair a v b).spi = b.spi := by
  unfold setPair; simp
@[simp] theorem setStamp_keeps (a d : Nat) (b : Block) :
    (setStamp a d b).lc = b.lc ∧ (setStamp a d b).fw = b.fw ∧ (setStamp a d b).cfg = b.cfg ∧ (setStamp a d b).clock.ticks = b.clock.ticks ∧
    (setStamp a d b).clock.running = b.clock.running ∧ (setStamp a d b).pins = b.pins ∧ (setStamp a d b).pwr.rest = b.pwr.rest ∧
    (setStamp a d b).act = b.act ∧ (setStamp a d b).recs = b.recs ∧ (setStamp a d b).out = b.out ∧ (setStamp a d b).bist = b.bist ∧
    (setStamp a d b).bal = b.bal ∧ (setStamp a d b).cw = b.cw ∧ (setStamp a d b).fen = b.fen ∧ (setStamp a d b).cap = b.cap ∧
    (setStamp a d b).spi = b.spi := by
  unfold setStamp; simp
@[simp] theorem windows_keeps (r : Rec) (b : Block) :
    (windows r b).lc = b.lc ∧ (windows r b).fw = b.fw ∧ (windows r b).cfg = b.cfg ∧ (windows r b).clock.ticks = b.clock.ticks ∧
    (windows r b).clock.running = b.clock.running ∧ (windows r b).pins = b.pins ∧ (windows r b).pwr.rest = b.pwr.rest ∧ (windows r b).act = b.act ∧
    (windows r b).recs = b.recs ∧ (windows r b).out = b.out ∧ (windows r b).bist = b.bist ∧ (windows r b).bal = b.bal ∧ (windows r b).cw = b.cw ∧
    (windows r b).fen = b.fen ∧ (windows r b).cap = b.cap ∧ (windows r b).spi = b.spi := by
  unfold windows; (try dsimp only); (repeat' split) <;> simp
@[simp] theorem takeWork_keeps (b : Block) :
    (takeWork b).lc = b.lc ∧ (takeWork b).fw = b.fw ∧ (takeWork b).cfg = b.cfg ∧ (takeWork b).clock.ticks = b.clock.ticks ∧
    (takeWork b).clock.running = b.clock.running ∧ (takeWork b).pins = b.pins ∧ (takeWork b).pwr.rest = b.pwr.rest ∧ (takeWork b).act = b.act ∧
    (takeWork b).out = b.out ∧ (takeWork b).bist = b.bist ∧ (takeWork b).bal = b.bal ∧ (takeWork b).cw = b.cw ∧ (takeWork b).fen = b.fen ∧
    (takeWork b).cap = b.cap ∧ (takeWork b).spi = b.spi := by
  unfold takeWork; simp
@[simp] theorem emitOvertaken_keeps (b : Block) :
    (emitOvertaken b).lc = b.lc ∧ (emitOvertaken b).fw = b.fw ∧ (emitOvertaken b).cfg = b.cfg ∧ (emitOvertaken b).clock.ticks = b.clock.ticks ∧
    (emitOvertaken b).clock.running = b.clock.running ∧ (emitOvertaken b).pins = b.pins ∧ (emitOvertaken b).pwr.rest = b.pwr.rest ∧
    (emitOvertaken b).act = b.act ∧ (emitOvertaken b).out = b.out ∧ (emitOvertaken b).bist = b.bist ∧ (emitOvertaken b).bal = b.bal ∧
    (emitOvertaken b).cw = b.cw ∧ (emitOvertaken b).fen = b.fen ∧ (emitOvertaken b).cap = b.cap ∧ (emitOvertaken b).spi = b.spi := by
  unfold emitOvertaken; simp
@[simp] theorem takeEvents_keeps (due : List EventRec) (b : Block) :
    (takeEvents due b).2.lc = b.lc ∧ (takeEvents due b).2.fw = b.fw ∧ (takeEvents due b).2.cfg = b.cfg ∧
    (takeEvents due b).2.clock.ticks = b.clock.ticks ∧ (takeEvents due b).2.clock.running = b.clock.running ∧ (takeEvents due b).2.pins = b.pins ∧
    (takeEvents due b).2.pwr.rest = b.pwr.rest ∧ (takeEvents due b).2.act = b.act ∧ (takeEvents due b).2.recs = b.recs ∧
    (takeEvents due b).2.out = b.out ∧ (takeEvents due b).2.bist = b.bist ∧ (takeEvents due b).2.bal = b.bal ∧ (takeEvents due b).2.cw = b.cw ∧
    (takeEvents due b).2.fen = b.fen ∧ (takeEvents due b).2.cap = b.cap ∧ (takeEvents due b).2.spi = b.spi := by
  unfold takeEvents; simp
@[simp] theorem placeOne_keeps (r : Rec) (b : Block) :
    (placeOne r b).lc = b.lc ∧ (placeOne r b).fw = b.fw ∧ (placeOne r b).cfg = b.cfg ∧ (placeOne r b).clock.ticks = b.clock.ticks ∧
    (placeOne r b).clock.running = b.clock.running ∧ (placeOne r b).pins = b.pins ∧ (placeOne r b).pwr.rest = b.pwr.rest ∧
    (placeOne r b).act = b.act ∧ (placeOne r b).recs = b.recs ∧ (placeOne r b).out = b.out ∧ (placeOne r b).bist = b.bist ∧
    (placeOne r b).bal = b.bal ∧ (placeOne r b).cw = b.cw ∧ (placeOne r b).fen = b.fen := by
  unfold placeOne; simp
@[simp] theorem fifoFlush_keeps (f : Nat) (b : Block) :
    (fifoFlush f b).lc = b.lc ∧ (fifoFlush f b).fw = b.fw ∧ (fifoFlush f b).cfg = b.cfg ∧ (fifoFlush f b).clock.ticks = b.clock.ticks ∧
    (fifoFlush f b).clock.running = b.clock.running ∧ (fifoFlush f b).pins = b.pins ∧ (fifoFlush f b).pwr.rest = b.pwr.rest ∧
    (fifoFlush f b).act = b.act ∧ (fifoFlush f b).recs = b.recs ∧ (fifoFlush f b).out = b.out ∧ (fifoFlush f b).bist = b.bist ∧
    (fifoFlush f b).bal = b.bal ∧ (fifoFlush f b).cw = b.cw ∧ (fifoFlush f b).fen = b.fen ∧ (fifoFlush f b).cap = b.cap := by
  unfold fifoFlush; simp
@[simp] theorem queueRec_keeps (r : Rec) (b : Block) :
    (queueRec r b).lc = b.lc ∧ (queueRec r b).fw = b.fw ∧ (queueRec r b).cfg = b.cfg ∧ (queueRec r b).clock.ticks = b.clock.ticks ∧
    (queueRec r b).clock.running = b.clock.running ∧ (queueRec r b).pins = b.pins ∧ (queueRec r b).pwr.rest = b.pwr.rest ∧
    (queueRec r b).act = b.act ∧ (queueRec r b).out = b.out ∧ (queueRec r b).bist = b.bist ∧ (queueRec r b).bal = b.bal ∧ (queueRec r b).cw = b.cw ∧
    (queueRec r b).fen = b.fen ∧ (queueRec r b).cap = b.cap ∧ (queueRec r b).spi = b.spi := by
  unfold queueRec; simp

end Sys2Proof.Machine
end

