-- ==== Sys2Proof/Laws/KeepSluice.lean ====
section
/-! SUPPORT. What each operation of Machine/Sluice.lean leaves alone: a `…_keeps` lemma lists the fields of the block that read after it as before. -/

namespace Sys2Proof.Machine

set_option linter.all false

@[simp] theorem abandonRebuild_keeps (b : Block) :
    (abandonRebuild b).lc = b.lc ∧ (abandonRebuild b).fw = b.fw ∧ (abandonRebuild b).cfg = b.cfg ∧ (abandonRebuild b).clock.ticks = b.clock.ticks ∧
    (abandonRebuild b).clock.running = b.clock.running ∧ (abandonRebuild b).pins = b.pins ∧ (abandonRebuild b).pwr.rest = b.pwr.rest ∧
    (abandonRebuild b).act = b.act ∧ (abandonRebuild b).recs = b.recs ∧ (abandonRebuild b).out = b.out ∧ (abandonRebuild b).bist = b.bist ∧
    (abandonRebuild b).bal = b.bal ∧ (abandonRebuild b).cw = b.cw ∧ (abandonRebuild b).fen = b.fen ∧ (abandonRebuild b).cap = b.cap ∧
    (abandonRebuild b).spi = b.spi := by
  unfold abandonRebuild; simp
@[simp] theorem setPower_keeps (p : PowerState) (b : Block) :
    (setPower p b).lc = b.lc ∧ (setPower p b).fw = b.fw ∧ (setPower p b).cfg = b.cfg ∧ (setPower p b).clock.ticks = b.clock.ticks ∧
    (setPower p b).clock.running = b.clock.running ∧ (setPower p b).pins = b.pins ∧ (setPower p b).pwr.rest = b.pwr.rest ∧
    (setPower p b).act = b.act ∧ (setPower p b).recs = b.recs ∧ (setPower p b).out = b.out ∧ (setPower p b).bist = b.bist ∧
    (setPower p b).bal = b.bal ∧ (setPower p b).cw = b.cw ∧ (setPower p b).fen = b.fen ∧ (setPower p b).cap = b.cap ∧ (setPower p b).spi = b.spi := by
  unfold setPower; simp
@[simp] theorem capTrigger_keeps (r : Nat) (slot : Option Nat) (b : Block) :
    (capTrigger r slot b).lc = b.lc ∧ (capTrigger r slot b).fw = b.fw ∧ (capTrigger r slot b).cfg = b.cfg ∧
    (capTrigger r slot b).clock.ticks = b.clock.ticks ∧ (capTrigger r slot b).clock.running = b.clock.running ∧ (capTrigger r slot b).pins = b.pins ∧
    (capTrigger r slot b).pwr.rest = b.pwr.rest ∧ (capTrigger r slot b).act = b.act ∧ (capTrigger r slot b).recs = b.recs ∧
    (capTrigger r slot b).out = b.out ∧ (capTrigger r slot b).bist = b.bist ∧ (capTrigger r slot b).bal = b.bal ∧ (capTrigger r slot b).cw = b.cw ∧
    (capTrigger r slot b).fen = b.fen ∧ (capTrigger r slot b).spi = b.spi := by
  unfold capTrigger; (try dsimp only); (repeat' split) <;> simp
@[simp] theorem capSlTrigger_keeps (i sev : Nat) (b : Block) :
    (capSlTrigger i sev b).lc = b.lc ∧ (capSlTrigger i sev b).fw = b.fw ∧ (capSlTrigger i sev b).cfg = b.cfg ∧
    (capSlTrigger i sev b).clock.ticks = b.clock.ticks ∧ (capSlTrigger i sev b).clock.running = b.clock.running ∧
    (capSlTrigger i sev b).pins = b.pins ∧ (capSlTrigger i sev b).pwr.rest = b.pwr.rest ∧ (capSlTrigger i sev b).act = b.act ∧
    (capSlTrigger i sev b).recs = b.recs ∧ (capSlTrigger i sev b).out = b.out ∧ (capSlTrigger i sev b).bist = b.bist ∧
    (capSlTrigger i sev b).bal = b.bal ∧ (capSlTrigger i sev b).cw = b.cw ∧ (capSlTrigger i sev b).fen = b.fen ∧
    (capSlTrigger i sev b).spi = b.spi := by
  unfold capSlTrigger; simp
@[simp] theorem freezeCounters_keeps (b : Block) :
    (freezeCounters b).lc = b.lc ∧ (freezeCounters b).fw = b.fw ∧ (freezeCounters b).cfg = b.cfg ∧ (freezeCounters b).clock.ticks = b.clock.ticks ∧
    (freezeCounters b).clock.running = b.clock.running ∧ (freezeCounters b).pins = b.pins ∧ (freezeCounters b).pwr.rest = b.pwr.rest ∧
    (freezeCounters b).act = b.act ∧ (freezeCounters b).recs = b.recs ∧ (freezeCounters b).out = b.out ∧ (freezeCounters b).bist = b.bist ∧
    (freezeCounters b).bal = b.bal ∧ (freezeCounters b).cw = b.cw ∧ (freezeCounters b).fen = b.fen ∧ (freezeCounters b).spi = b.spi := by
  unfold freezeCounters; simp
@[simp] theorem enterSafe_keeps (sub index : Nat) (b : Block) :
    (enterSafe sub index b).lc = b.lc ∧ (enterSafe sub index b).fw = b.fw ∧ (enterSafe sub index b).cfg = b.cfg ∧
    (enterSafe sub index b).clock.ticks = b.clock.ticks ∧ (enterSafe sub index b).clock.running = b.clock.running ∧
    (enterSafe sub index b).pins = b.pins ∧ (enterSafe sub index b).pwr.rest = b.pwr.rest ∧ (enterSafe sub index b).act = b.act ∧
    (enterSafe sub index b).recs = b.recs ∧ (enterSafe sub index b).bist = b.bist ∧ (enterSafe sub index b).bal = b.bal ∧
    (enterSafe sub index b).cw = b.cw ∧ (enterSafe sub index b).fen = b.fen ∧ (enterSafe sub index b).cap = b.cap ∧
    (enterSafe sub index b).spi = b.spi := by
  unfold enterSafe; (try dsimp only); (repeat' split) <;> simp
@[simp] theorem setSticky_keeps (i det : Nat) (b : Block) :
    (setSticky i det b).lc = b.lc ∧ (setSticky i det b).fw = b.fw ∧ (setSticky i det b).cfg = b.cfg ∧
    (setSticky i det b).clock.ticks = b.clock.ticks ∧ (setSticky i det b).clock.running = b.clock.running ∧ (setSticky i det b).pins = b.pins ∧
    (setSticky i det b).pwr.rest = b.pwr.rest ∧ (setSticky i det b).act = b.act ∧ (setSticky i det b).recs = b.recs ∧
    (setSticky i det b).out = b.out ∧ (setSticky i det b).bist = b.bist ∧ (setSticky i det b).bal = b.bal ∧ (setSticky i det b).cw = b.cw ∧
    (setSticky i det b).fen = b.fen ∧ (setSticky i det b).spi = b.spi := by
  unfold setSticky; simp
@[simp] theorem react_keeps (new : List Nat) (b : Block) :
    (react new b).lc = b.lc ∧ (react new b).fw = b.fw ∧ (react new b).cfg = b.cfg ∧ (react new b).clock.ticks = b.clock.ticks ∧
    (react new b).clock.running = b.clock.running ∧ (react new b).pins = b.pins ∧ (react new b).pwr.rest = b.pwr.rest ∧ (react new b).act = b.act ∧
    (react new b).recs = b.recs ∧ (react new b).bist = b.bist ∧ (react new b).bal = b.bal ∧ (react new b).cw = b.cw ∧ (react new b).fen = b.fen ∧
    (react new b).spi = b.spi := by
  unfold react; simp
@[simp] theorem hbtFollow_keeps (b : Block) :
    (hbtFollow b).lc = b.lc ∧ (hbtFollow b).fw = b.fw ∧ (hbtFollow b).cfg = b.cfg ∧ (hbtFollow b).clock.ticks = b.clock.ticks ∧
    (hbtFollow b).clock.running = b.clock.running ∧ (hbtFollow b).pins = b.pins ∧ (hbtFollow b).pwr.rest = b.pwr.rest ∧ (hbtFollow b).act = b.act ∧
    (hbtFollow b).recs = b.recs ∧ (hbtFollow b).out = b.out ∧ (hbtFollow b).bist = b.bist ∧ (hbtFollow b).bal = b.bal ∧ (hbtFollow b).cw = b.cw ∧
    (hbtFollow b).fen = b.fen ∧ (hbtFollow b).cap = b.cap ∧ (hbtFollow b).spi = b.spi := by
  unfold hbtFollow; simp
@[simp] theorem hbtStart_keeps (b : Block) :
    (hbtStart b).lc = b.lc ∧ (hbtStart b).fw = b.fw ∧ (hbtStart b).cfg = b.cfg ∧ (hbtStart b).clock.ticks = b.clock.ticks ∧
    (hbtStart b).clock.running = b.clock.running ∧ (hbtStart b).pins = b.pins ∧ (hbtStart b).pwr.rest = b.pwr.rest ∧ (hbtStart b).act = b.act ∧
    (hbtStart b).recs = b.recs ∧ (hbtStart b).out = b.out ∧ (hbtStart b).bist = b.bist ∧ (hbtStart b).bal = b.bal ∧ (hbtStart b).cw = b.cw ∧
    (hbtStart b).fen = b.fen ∧ (hbtStart b).cap = b.cap ∧ (hbtStart b).spi = b.spi := by
  unfold hbtStart; simp
@[simp] theorem detect_keeps (found : List (Nat × Nat)) (b : Block) :
    (detect found b).lc = b.lc ∧ (detect found b).fw = b.fw ∧ (detect found b).cfg = b.cfg ∧ (detect found b).clock.ticks = b.clock.ticks ∧
    (detect found b).clock.running = b.clock.running ∧ (detect found b).pins = b.pins ∧ (detect found b).pwr.rest = b.pwr.rest ∧
    (detect found b).act = b.act ∧ (detect found b).recs = b.recs ∧ (detect found b).bist = b.bist ∧ (detect found b).bal = b.bal ∧
    (detect found b).cw = b.cw ∧ (detect found b).fen = b.fen ∧ (detect found b).spi = b.spi := by
  unfold detect; simp
@[simp] theorem detectNow_keeps (i det : Nat) (b : Block) :
    (detectNow i det b).lc = b.lc ∧ (detectNow i det b).fw = b.fw ∧ (detectNow i det b).cfg = b.cfg ∧
    (detectNow i det b).clock.ticks = b.clock.ticks ∧ (detectNow i det b).clock.running = b.clock.running ∧ (detectNow i det b).pins = b.pins ∧
    (detectNow i det b).pwr.rest = b.pwr.rest ∧ (detectNow i det b).act = b.act ∧ (detectNow i det b).recs = b.recs ∧
    (detectNow i det b).bist = b.bist ∧ (detectNow i det b).bal = b.bal ∧ (detectNow i det b).cw = b.cw ∧ (detectNow i det b).fen = b.fen ∧
    (detectNow i det b).spi = b.spi := by
  unfold detectNow; simp
@[simp] theorem endNow_keeps (i : Nat) (b : Block) :
    (endNow i b).lc = b.lc ∧ (endNow i b).fw = b.fw ∧ (endNow i b).cfg = b.cfg ∧ (endNow i b).clock.ticks = b.clock.ticks ∧
    (endNow i b).clock.running = b.clock.running ∧ (endNow i b).pins = b.pins ∧ (endNow i b).pwr.rest = b.pwr.rest ∧ (endNow i b).act = b.act ∧
    (endNow i b).recs = b.recs ∧ (endNow i b).out = b.out ∧ (endNow i b).bist = b.bist ∧ (endNow i b).bal = b.bal ∧ (endNow i b).cw = b.cw ∧
    (endNow i b).fen = b.fen ∧ (endNow i b).cap = b.cap ∧ (endNow i b).spi = b.spi := by
  unfold endNow; simp
@[simp] theorem detectOnce_keeps (i det : Nat) (b : Block) :
    (detectOnce i det b).lc = b.lc ∧ (detectOnce i det b).fw = b.fw ∧ (detectOnce i det b).cfg = b.cfg ∧
    (detectOnce i det b).clock.ticks = b.clock.ticks ∧ (detectOnce i det b).clock.running = b.clock.running ∧ (detectOnce i det b).pins = b.pins ∧
    (detectOnce i det b).pwr.rest = b.pwr.rest ∧ (detectOnce i det b).act = b.act ∧ (detectOnce i det b).recs = b.recs ∧
    (detectOnce i det b).bist = b.bist ∧ (detectOnce i det b).bal = b.bal ∧ (detectOnce i det b).cw = b.cw ∧ (detectOnce i det b).fen = b.fen ∧
    (detectOnce i det b).spi = b.spi := by
  unfold detectOnce; simp
@[simp] theorem refreshLevels_keeps (b : Block) :
    (refreshLevels b).lc = b.lc ∧ (refreshLevels b).fw = b.fw ∧ (refreshLevels b).cfg = b.cfg ∧ (refreshLevels b).clock.ticks = b.clock.ticks ∧
    (refreshLevels b).clock.running = b.clock.running ∧ (refreshLevels b).pins = b.pins ∧ (refreshLevels b).pwr.rest = b.pwr.rest ∧
    (refreshLevels b).act = b.act ∧ (refreshLevels b).recs = b.recs ∧ (refreshLevels b).out = b.out ∧ (refreshLevels b).bist = b.bist ∧
    (refreshLevels b).bal = b.bal ∧ (refreshLevels b).cw = b.cw ∧ (refreshLevels b).fen = b.fen ∧ (refreshLevels b).cap = b.cap ∧
    (refreshLevels b).spi = b.spi := by
  unfold refreshLevels; simp
@[simp] theorem evaluateWork_keeps (w : List (Nat × SrcCond)) (b : Block) :
    (evaluateWork w b).lc = b.lc ∧ (evaluateWork w b).fw = b.fw ∧ (evaluateWork w b).cfg = b.cfg ∧ (evaluateWork w b).clock.ticks = b.clock.ticks ∧
    (evaluateWork w b).clock.running = b.clock.running ∧ (evaluateWork w b).pins = b.pins ∧ (evaluateWork w b).pwr.rest = b.pwr.rest ∧
    (evaluateWork w b).act = b.act ∧ (evaluateWork w b).recs = b.recs ∧ (evaluateWork w b).bist = b.bist ∧ (evaluateWork w b).bal = b.bal ∧
    (evaluateWork w b).cw = b.cw ∧ (evaluateWork w b).fen = b.fen ∧ (evaluateWork w b).spi = b.spi := by
  unfold evaluateWork; simp
@[simp] theorem clearSticky_keeps (i : Nat) (b : Block) :
    (clearSticky i b).lc = b.lc ∧ (clearSticky i b).fw = b.fw ∧ (clearSticky i b).cfg = b.cfg ∧ (clearSticky i b).clock.ticks = b.clock.ticks ∧
    (clearSticky i b).clock.running = b.clock.running ∧ (clearSticky i b).pins = b.pins ∧ (clearSticky i b).pwr.rest = b.pwr.rest ∧
    (clearSticky i b).act = b.act ∧ (clearSticky i b).recs = b.recs ∧ (clearSticky i b).out = b.out ∧ (clearSticky i b).bist = b.bist ∧
    (clearSticky i b).bal = b.bal ∧ (clearSticky i b).cw = b.cw ∧ (clearSticky i b).fen = b.fen ∧ (clearSticky i b).cap = b.cap ∧
    (clearSticky i b).spi = b.spi := by
  unfold clearSticky; simp
@[simp] theorem writeSticky_keeps (w : Nat) (v : Word) (b : Block) :
    (writeSticky w v b).lc = b.lc ∧ (writeSticky w v b).fw = b.fw ∧ (writeSticky w v b).cfg = b.cfg ∧
    (writeSticky w v b).clock.ticks = b.clock.ticks ∧ (writeSticky w v b).clock.running = b.clock.running ∧ (writeSticky w v b).pins = b.pins ∧
    (writeSticky w v b).pwr.rest = b.pwr.rest ∧ (writeSticky w v b).act = b.act ∧ (writeSticky w v b).recs = b.recs ∧
    (writeSticky w v b).out = b.out ∧ (writeSticky w v b).bist = b.bist ∧ (writeSticky w v b).bal = b.bal ∧ (writeSticky w v b).cw = b.cw ∧
    (writeSticky w v b).fen = b.fen ∧ (writeSticky w v b).cap = b.cap ∧ (writeSticky w v b).spi = b.spi := by
  unfold writeSticky; simp
@[simp] theorem writeInj_keeps (set : Bool) (w : Nat) (v : Word) (b : Block) :
    (writeInj set w v b).lc = b.lc ∧ (writeInj set w v b).fw = b.fw ∧ (writeInj set w v b).cfg = b.cfg ∧
    (writeInj set w v b).clock.ticks = b.clock.ticks ∧ (writeInj set w v b).clock.running = b.clock.running ∧ (writeInj set w v b).pins = b.pins ∧
    (writeInj set w v b).pwr.rest = b.pwr.rest ∧ (writeInj set w v b).act = b.act ∧ (writeInj set w v b).recs = b.recs ∧
    (writeInj set w v b).out = b.out ∧ (writeInj set w v b).bist = b.bist ∧ (writeInj set w v b).bal = b.bal ∧ (writeInj set w v b).cw = b.cw ∧
    (writeInj set w v b).fen = b.fen ∧ (writeInj set w v b).cap = b.cap ∧ (writeInj set w v b).spi = b.spi := by
  unfold writeInj; simp
@[simp] theorem injEnd_keeps (i : Nat) (b : Block) :
    (injEnd i b).lc = b.lc ∧ (injEnd i b).fw = b.fw ∧ (injEnd i b).cfg = b.cfg ∧ (injEnd i b).clock.ticks = b.clock.ticks ∧
    (injEnd i b).clock.running = b.clock.running ∧ (injEnd i b).pins = b.pins ∧ (injEnd i b).pwr.rest = b.pwr.rest ∧ (injEnd i b).act = b.act ∧
    (injEnd i b).recs = b.recs ∧ (injEnd i b).out = b.out ∧ (injEnd i b).bist = b.bist ∧ (injEnd i b).bal = b.bal ∧ (injEnd i b).cw = b.cw ∧
    (injEnd i b).fen = b.fen ∧ (injEnd i b).cap = b.cap ∧ (injEnd i b).spi = b.spi := by
  unfold injEnd; simp
@[simp] theorem liveResume_keeps (t : Nat) (b : Block) :
    (liveResume t b).lc = b.lc ∧ (liveResume t b).fw = b.fw ∧ (liveResume t b).cfg = b.cfg ∧ (liveResume t b).clock.ticks = b.clock.ticks ∧
    (liveResume t b).clock.running = b.clock.running ∧ (liveResume t b).pins = b.pins ∧ (liveResume t b).pwr.rest = b.pwr.rest ∧
    (liveResume t b).act = b.act ∧ (liveResume t b).recs = b.recs ∧ (liveResume t b).bist = b.bist ∧ (liveResume t b).bal = b.bal ∧
    (liveResume t b).cw = b.cw ∧ (liveResume t b).fen = b.fen ∧ (liveResume t b).spi = b.spi := by
  unfold liveResume; simp
@[simp] theorem injTick_keeps (b : Block) :
    (injTick b).lc = b.lc ∧ (injTick b).fw = b.fw ∧ (injTick b).cfg = b.cfg ∧ (injTick b).clock.ticks = b.clock.ticks ∧
    (injTick b).clock.running = b.clock.running ∧ (injTick b).pins = b.pins ∧ (injTick b).pwr.rest = b.pwr.rest ∧ (injTick b).act = b.act ∧
    (injTick b).recs = b.recs ∧ (injTick b).bist = b.bist ∧ (injTick b).bal = b.bal ∧ (injTick b).cw = b.cw ∧ (injTick b).fen = b.fen ∧
    (injTick b).spi = b.spi := by
  unfold injTick; simp
@[simp] theorem slCfgTake_keeps (b : Block) :
    (slCfgTake b).lc = b.lc ∧ (slCfgTake b).fw = b.fw ∧ (slCfgTake b).cfg = b.cfg ∧ (slCfgTake b).clock.ticks = b.clock.ticks ∧
    (slCfgTake b).clock.running = b.clock.running ∧ (slCfgTake b).pins = b.pins ∧ (slCfgTake b).pwr.rest = b.pwr.rest ∧ (slCfgTake b).act = b.act ∧
    (slCfgTake b).recs = b.recs ∧ (slCfgTake b).out = b.out ∧ (slCfgTake b).bist = b.bist ∧ (slCfgTake b).bal = b.bal ∧ (slCfgTake b).cw = b.cw ∧
    (slCfgTake b).fen = b.fen ∧ (slCfgTake b).cap = b.cap ∧ (slCfgTake b).spi = b.spi := by
  unfold slCfgTake; simp
@[simp] theorem sluiceTick_keeps (b : Block) :
    (sluiceTick b).lc = b.lc ∧ (sluiceTick b).fw = b.fw ∧ (sluiceTick b).cfg = b.cfg ∧ (sluiceTick b).clock.ticks = b.clock.ticks ∧
    (sluiceTick b).clock.running = b.clock.running ∧ (sluiceTick b).pins = b.pins ∧ (sluiceTick b).pwr.rest = b.pwr.rest ∧
    (sluiceTick b).act = b.act ∧ (sluiceTick b).recs = b.recs ∧ (sluiceTick b).bist = b.bist ∧ (sluiceTick b).bal = b.bal ∧
    (sluiceTick b).cw = b.cw ∧ (sluiceTick b).fen = b.fen ∧ (sluiceTick b).spi = b.spi := by
  unfold sluiceTick; simp
@[simp] theorem holdCond_keeps (i det : Nat) (b : Block) :
    (holdCond i det b).lc = b.lc ∧ (holdCond i det b).fw = b.fw ∧ (holdCond i det b).cfg = b.cfg ∧ (holdCond i det b).clock.ticks = b.clock.ticks ∧
    (holdCond i det b).clock.running = b.clock.running ∧ (holdCond i det b).pins = b.pins ∧ (holdCond i det b).pwr.rest = b.pwr.rest ∧
    (holdCond i det b).act = b.act ∧ (holdCond i det b).recs = b.recs ∧ (holdCond i det b).out = b.out ∧ (holdCond i det b).bist = b.bist ∧
    (holdCond i det b).bal = b.bal ∧ (holdCond i det b).cw = b.cw ∧ (holdCond i det b).fen = b.fen ∧ (holdCond i det b).cap = b.cap ∧
    (holdCond i det b).spi = b.spi := by
  unfold holdCond; simp
@[simp] theorem safeInHigh_keeps (b : Block) :
    (safeInHigh b).lc = b.lc ∧ (safeInHigh b).fw = b.fw ∧ (safeInHigh b).cfg = b.cfg ∧ (safeInHigh b).clock.ticks = b.clock.ticks ∧
    (safeInHigh b).clock.running = b.clock.running ∧ (safeInHigh b).pwr.rest = b.pwr.rest ∧ (safeInHigh b).act = b.act ∧
    (safeInHigh b).recs = b.recs ∧ (safeInHigh b).bist = b.bist ∧ (safeInHigh b).bal = b.bal ∧ (safeInHigh b).cw = b.cw ∧
    (safeInHigh b).fen = b.fen ∧ (safeInHigh b).spi = b.spi := by
  unfold safeInHigh; simp
@[simp] theorem safeInLow_keeps (b : Block) :
    (safeInLow b).lc = b.lc ∧ (safeInLow b).fw = b.fw ∧ (safeInLow b).cfg = b.cfg ∧ (safeInLow b).clock.ticks = b.clock.ticks ∧
    (safeInLow b).clock.running = b.clock.running ∧ (safeInLow b).pwr.rest = b.pwr.rest ∧ (safeInLow b).act = b.act ∧ (safeInLow b).recs = b.recs ∧
    (safeInLow b).out = b.out ∧ (safeInLow b).bist = b.bist ∧ (safeInLow b).bal = b.bal ∧ (safeInLow b).cw = b.cw ∧ (safeInLow b).fen = b.fen ∧
    (safeInLow b).cap = b.cap ∧ (safeInLow b).spi = b.spi := by
  unfold safeInLow; simp

end Sys2Proof.Machine
end

