-- ==== Sys2Proof/Laws/KeepRings.lean ====
section
/-! SUPPORT. What each operation of Machine/Rings.lean leaves alone: a `…_keeps` lemma lists the fields of the block that read after it as before. -/

namespace Sys2Proof.Machine

set_option linter.all false

@[simp] theorem finishAll_lc (p : CmdWait → Bool) (f : Nat → Block → Block) (b : Block) (h : ∀ q c, (f q c).lc = c.lc) : (finishAll p f b).lc = b.lc := by
  unfold finishAll; apply each_lc; intro q c; (repeat' split) <;> simp [h]
@[simp] theorem finishAll_fw (p : CmdWait → Bool) (f : Nat → Block → Block) (b : Block) (h : ∀ q c, (f q c).fw = c.fw) : (finishAll p f b).fw = b.fw := by
  unfold finishAll; apply each_fw; intro q c; (repeat' split) <;> simp [h]
@[simp] theorem finishAll_cfg (p : CmdWait → Bool) (f : Nat → Block → Block) (b : Block) (h : ∀ q c, (f q c).cfg = c.cfg) : (finishAll p f b).cfg = b.cfg := by
  unfold finishAll; apply each_cfg; intro q c; (repeat' split) <;> simp [h]
@[simp] theorem finishAll_ticks (p : CmdWait → Bool) (f : Nat → Block → Block) (b : Block) (h : ∀ q c, (f q c).clock.ticks = c.clock.ticks) : (finishAll p f b).clock.ticks = b.clock.ticks := by
  unfold finishAll; apply each_ticks; intro q c; (repeat' split) <;> simp [h]
@[simp] theorem finishAll_running (p : CmdWait → Bool) (f : Nat → Block → Block) (b : Block) (h : ∀ q c, (f q c).clock.running = c.clock.running) : (finishAll p f b).clock.running = b.clock.running := by
  unfold finishAll; apply each_running; intro q c; (repeat' split) <;> simp [h]
@[simp] theorem finishAll_pins (p : CmdWait → Bool) (f : Nat → Block → Block) (b : Block) (h : ∀ q c, (f q c).pins = c.pins) : (finishAll p f b).pins = b.pins := by
  unfold finishAll; apply each_pins; intro q c; (repeat' split) <;> simp [h]
@[simp] theorem finishAll_prest (p : CmdWait → Bool) (f : Nat → Block → Block) (b : Block) (h : ∀ q c, (f q c).pwr.rest = c.pwr.rest) : (finishAll p f b).pwr.rest = b.pwr.rest := by
  unfold finishAll; apply each_prest; intro q c; (repeat' split) <;> simp [h]
@[simp] theorem finishAll_act (p : CmdWait → Bool) (f : Nat → Block → Block) (b : Block) (h : ∀ q c, (f q c).act = c.act) : (finishAll p f b).act = b.act := by
  unfold finishAll; apply each_act; intro q c; (repeat' split) <;> simp [h]
@[simp] theorem finishAll_recs (p : CmdWait → Bool) (f : Nat → Block → Block) (b : Block) (h : ∀ q c, (f q c).recs = c.recs) : (finishAll p f b).recs = b.recs := by
  unfold finishAll; apply each_recs; intro q c; (repeat' split) <;> simp [h]
@[simp] theorem finishAll_out (p : CmdWait → Bool) (f : Nat → Block → Block) (b : Block) (h : ∀ q c, (f q c).out = c.out) : (finishAll p f b).out = b.out := by
  unfold finishAll; apply each_out; intro q c; (repeat' split) <;> simp [h]
@[simp] theorem finishAll_bist (p : CmdWait → Bool) (f : Nat → Block → Block) (b : Block) (h : ∀ q c, (f q c).bist = c.bist) : (finishAll p f b).bist = b.bist := by
  unfold finishAll; apply each_bist; intro q c; (repeat' split) <;> simp [h]
@[simp] theorem finishAll_bal (p : CmdWait → Bool) (f : Nat → Block → Block) (b : Block) (h : ∀ q c, (f q c).bal = c.bal) : (finishAll p f b).bal = b.bal := by
  unfold finishAll; apply each_bal; intro q c; (repeat' split) <;> simp [h]
@[simp] theorem finishAll_cw (p : CmdWait → Bool) (f : Nat → Block → Block) (b : Block) (h : ∀ q c, (f q c).cw = c.cw) : (finishAll p f b).cw = b.cw := by
  unfold finishAll; apply each_cw; intro q c; (repeat' split) <;> simp [h]
@[simp] theorem finishAll_fen (p : CmdWait → Bool) (f : Nat → Block → Block) (b : Block) (h : ∀ q c, (f q c).fen = c.fen) : (finishAll p f b).fen = b.fen := by
  unfold finishAll; apply each_fen; intro q c; (repeat' split) <;> simp [h]
@[simp] theorem finishAll_cap (p : CmdWait → Bool) (f : Nat → Block → Block) (b : Block) (h : ∀ q c, (f q c).cap = c.cap) : (finishAll p f b).cap = b.cap := by
  unfold finishAll; apply each_cap; intro q c; (repeat' split) <;> simp [h]
@[simp] theorem finishAll_spi (p : CmdWait → Bool) (f : Nat → Block → Block) (b : Block) (h : ∀ q c, (f q c).spi = c.spi) : (finishAll p f b).spi = b.spi := by
  unfold finishAll; apply each_spi; intro q c; (repeat' split) <;> simp [h]
@[simp] theorem startCmd_lc (q op : Nat) (d : Desc) (i p : Bool) (f : Block → Block) (b : Block) (h : ∀ c, (f c).lc = c.lc) : (startCmd q op d i p f b).lc = b.lc := by
  unfold startCmd; (repeat' split) <;> simp [h]
@[simp] theorem startCmd_fw (q op : Nat) (d : Desc) (i p : Bool) (f : Block → Block) (b : Block) (h : ∀ c, (f c).fw = c.fw) : (startCmd q op d i p f b).fw = b.fw := by
  unfold startCmd; (repeat' split) <;> simp [h]
@[simp] theorem startCmd_cfg (q op : Nat) (d : Desc) (i p : Bool) (f : Block → Block) (b : Block) (h : ∀ c, (f c).cfg = c.cfg) : (startCmd q op d i p f b).cfg = b.cfg := by
  unfold startCmd; (repeat' split) <;> simp [h]
@[simp] theorem startCmd_ticks (q op : Nat) (d : Desc) (i p : Bool) (f : Block → Block) (b : Block) (h : ∀ c, (f c).clock.ticks = c.clock.ticks) : (startCmd q op d i p f b).clock.ticks = b.clock.ticks := by
  unfold startCmd; (repeat' split) <;> simp [h]
@[simp] theorem startCmd_running (q op : Nat) (d : Desc) (i p : Bool) (f : Block → Block) (b : Block) (h : ∀ c, (f c).clock.running = c.clock.running) : (startCmd q op d i p f b).clock.running = b.clock.running := by
  unfold startCmd; (repeat' split) <;> simp [h]
@[simp] theorem startCmd_pins (q op : Nat) (d : Desc) (i p : Bool) (f : Block → Block) (b : Block) (h : ∀ c, (f c).pins = c.pins) : (startCmd q op d i p f b).pins = b.pins := by
  unfold startCmd; (repeat' split) <;> simp [h]
@[simp] theorem startCmd_prest (q op : Nat) (d : Desc) (i p : Bool) (f : Block → Block) (b : Block) (h : ∀ c, (f c).pwr.rest = c.pwr.rest) : (startCmd q op d i p f b).pwr.rest = b.pwr.rest := by
  unfold startCmd; (repeat' split) <;> simp [h]
@[simp] theorem startCmd_act (q op : Nat) (d : Desc) (i p : Bool) (f : Block → Block) (b : Block) (h : ∀ c, (f c).act = c.act) : (startCmd q op d i p f b).act = b.act := by
  unfold startCmd; (repeat' split) <;> simp [h]
@[simp] theorem startCmd_recs (q op : Nat) (d : Desc) (i p : Bool) (f : Block → Block) (b : Block) (h : ∀ c, (f c).recs = c.recs) : (startCmd q op d i p f b).recs = b.recs := by
  unfold startCmd; (repeat' split) <;> simp [h]
@[simp] theorem startCmd_out (q op : Nat) (d : Desc) (i p : Bool) (f : Block → Block) (b : Block) (h : ∀ c, (f c).out = c.out) : (startCmd q op d i p f b).out = b.out := by
  unfold startCmd; (repeat' split) <;> simp [h]
@[simp] theorem startCmd_bist (q op : Nat) (d : Desc) (i p : Bool) (f : Block → Block) (b : Block) (h : ∀ c, (f c).bist = c.bist) : (startCmd q op d i p f b).bist = b.bist := by
  unfold startCmd; (repeat' split) <;> simp [h]
@[simp] theorem startCmd_bal (q op : Nat) (d : Desc) (i p : Bool) (f : Block → Block) (b : Block) (h : ∀ c, (f c).bal = c.bal) : (startCmd q op d i p f b).bal = b.bal := by
  unfold startCmd; (repeat' split) <;> simp [h]
@[simp] theorem startCmd_cw (q op : Nat) (d : Desc) (i p : Bool) (f : Block → Block) (b : Block) (h : ∀ c, (f c).cw = c.cw) : (startCmd q op d i p f b).cw = b.cw := by
  unfold startCmd; (repeat' split) <;> simp [h]
@[simp] theorem startCmd_fen (q op : Nat) (d : Desc) (i p : Bool) (f : Block → Block) (b : Block) (h : ∀ c, (f c).fen = c.fen) : (startCmd q op d i p f b).fen = b.fen := by
  unfold startCmd; (repeat' split) <;> simp [h]
@[simp] theorem startCmd_cap (q op : Nat) (d : Desc) (i p : Bool) (f : Block → Block) (b : Block) (h : ∀ c, (f c).cap = c.cap) : (startCmd q op d i p f b).cap = b.cap := by
  unfold startCmd; (repeat' split) <;> simp [h]
@[simp] theorem startCmd_spi (q op : Nat) (d : Desc) (i p : Bool) (f : Block → Block) (b : Block) (h : ∀ c, (f c).spi = c.spi) : (startCmd q op d i p f b).spi = b.spi := by
  unfold startCmd; (repeat' split) <;> simp [h]
@[simp] theorem dmaFail_keeps (q : Nat) (b : Block) :
    (dmaFail q b).lc = b.lc ∧ (dmaFail q b).fw = b.fw ∧ (dmaFail q b).cfg = b.cfg ∧ (dmaFail q b).clock.ticks = b.clock.ticks ∧
    (dmaFail q b).clock.running = b.clock.running ∧ (dmaFail q b).pins = b.pins ∧ (dmaFail q b).pwr.rest = b.pwr.rest ∧ (dmaFail q b).act = b.act ∧
    (dmaFail q b).recs = b.recs ∧ (dmaFail q b).out = b.out ∧ (dmaFail q b).bist = b.bist ∧ (dmaFail q b).bal = b.bal ∧ (dmaFail q b).cw = b.cw ∧
    (dmaFail q b).fen = b.fen ∧ (dmaFail q b).cap = b.cap ∧ (dmaFail q b).spi = b.spi := by
  unfold dmaFail; simp
@[simp] theorem withData_lc (q : Nat) (d : Option (List Word)) (f : List Word → Block → Block) (b : Block) (h : ∀ l c, (f l c).lc = c.lc) : (withData q d f b).lc = b.lc := by
  unfold withData; (repeat' split) <;> simp [h]
@[simp] theorem withData_fw (q : Nat) (d : Option (List Word)) (f : List Word → Block → Block) (b : Block) (h : ∀ l c, (f l c).fw = c.fw) : (withData q d f b).fw = b.fw := by
  unfold withData; (repeat' split) <;> simp [h]
@[simp] theorem withData_cfg (q : Nat) (d : Option (List Word)) (f : List Word → Block → Block) (b : Block) (h : ∀ l c, (f l c).cfg = c.cfg) : (withData q d f b).cfg = b.cfg := by
  unfold withData; (repeat' split) <;> simp [h]
@[simp] theorem withData_ticks (q : Nat) (d : Option (List Word)) (f : List Word → Block → Block) (b : Block) (h : ∀ l c, (f l c).clock.ticks = c.clock.ticks) : (withData q d f b).clock.ticks = b.clock.ticks := by
  unfold withData; (repeat' split) <;> simp [h]
@[simp] theorem withData_running (q : Nat) (d : Option (List Word)) (f : List Word → Block → Block) (b : Block) (h : ∀ l c, (f l c).clock.running = c.clock.running) : (withData q d f b).clock.running = b.clock.running := by
  unfold withData; (repeat' split) <;> simp [h]
@[simp] theorem withData_pins (q : Nat) (d : Option (List Word)) (f : List Word → Block → Block) (b : Block) (h : ∀ l c, (f l c).pins = c.pins) : (withData q d f b).pins = b.pins := by
  unfold withData; (repeat' split) <;> simp [h]
@[simp] theorem withData_prest (q : Nat) (d : Option (List Word)) (f : List Word → Block → Block) (b : Block) (h : ∀ l c, (f l c).pwr.rest = c.pwr.rest) : (withData q d f b).pwr.rest = b.pwr.rest := by
  unfold withData; (repeat' split) <;> simp [h]
@[simp] theorem withData_act (q : Nat) (d : Option (List Word)) (f : List Word → Block → Block) (b : Block) (h : ∀ l c, (f l c).act = c.act) : (withData q d f b).act = b.act := by
  unfold withData; (repeat' split) <;> simp [h]
@[simp] theorem withData_recs (q : Nat) (d : Option (List Word)) (f : List Word → Block → Block) (b : Block) (h : ∀ l c, (f l c).recs = c.recs) : (withData q d f b).recs = b.recs := by
  unfold withData; (repeat' split) <;> simp [h]
@[simp] theorem withData_out (q : Nat) (d : Option (List Word)) (f : List Word → Block → Block) (b : Block) (h : ∀ l c, (f l c).out = c.out) : (withData q d f b).out = b.out := by
  unfold withData; (repeat' split) <;> simp [h]
@[simp] theorem withData_bist (q : Nat) (d : Option (List Word)) (f : List Word → Block → Block) (b : Block) (h : ∀ l c, (f l c).bist = c.bist) : (withData q d f b).bist = b.bist := by
  unfold withData; (repeat' split) <;> simp [h]
@[simp] theorem withData_bal (q : Nat) (d : Option (List Word)) (f : List Word → Block → Block) (b : Block) (h : ∀ l c, (f l c).bal = c.bal) : (withData q d f b).bal = b.bal := by
  unfold withData; (repeat' split) <;> simp [h]
@[simp] theorem withData_cw (q : Nat) (d : Option (List Word)) (f : List Word → Block → Block) (b : Block) (h : ∀ l c, (f l c).cw = c.cw) : (withData q d f b).cw = b.cw := by
  unfold withData; (repeat' split) <;> simp [h]
@[simp] theorem withData_fen (q : Nat) (d : Option (List Word)) (f : List Word → Block → Block) (b : Block) (h : ∀ l c, (f l c).fen = c.fen) : (withData q d f b).fen = b.fen := by
  unfold withData; (repeat' split) <;> simp [h]
@[simp] theorem withData_cap (q : Nat) (d : Option (List Word)) (f : List Word → Block → Block) (b : Block) (h : ∀ l c, (f l c).cap = c.cap) : (withData q d f b).cap = b.cap := by
  unfold withData; (repeat' split) <;> simp [h]
@[simp] theorem withData_spi (q : Nat) (d : Option (List Word)) (f : List Word → Block → Block) (b : Block) (h : ∀ l c, (f l c).spi = c.spi) : (withData q d f b).spi = b.spi := by
  unfold withData; (repeat' split) <;> simp [h]
@[simp] theorem dmaOut_keeps (q : Nat) (fail : Bool) (addr : Nat) (ws : List Word) (status detail r0 r1 : Nat) (b : Block) :
    (dmaOut q fail addr ws status detail r0 r1 b).lc = b.lc ∧ (dmaOut q fail addr ws status detail r0 r1 b).fw = b.fw ∧
    (dmaOut q fail addr ws status detail r0 r1 b).cfg = b.cfg ∧ (dmaOut q fail addr ws status detail r0 r1 b).clock.ticks = b.clock.ticks ∧
    (dmaOut q fail addr ws status detail r0 r1 b).clock.running = b.clock.running ∧ (dmaOut q fail addr ws status detail r0 r1 b).pins = b.pins ∧
    (dmaOut q fail addr ws status detail r0 r1 b).pwr.rest = b.pwr.rest ∧ (dmaOut q fail addr ws status detail r0 r1 b).act = b.act ∧
    (dmaOut q fail addr ws status detail r0 r1 b).recs = b.recs ∧ (dmaOut q fail addr ws status detail r0 r1 b).bist = b.bist ∧
    (dmaOut q fail addr ws status detail r0 r1 b).bal = b.bal ∧ (dmaOut q fail addr ws status detail r0 r1 b).cw = b.cw ∧
    (dmaOut q fail addr ws status detail r0 r1 b).fen = b.fen ∧ (dmaOut q fail addr ws status detail r0 r1 b).cap = b.cap ∧
    (dmaOut q fail addr ws status detail r0 r1 b).spi = b.spi := by
  unfold dmaOut; simp
@[simp] theorem postOne_keeps (c : Nat) (b : Block) :
    (postOne c b).lc = b.lc ∧ (postOne c b).fw = b.fw ∧ (postOne c b).cfg = b.cfg ∧ (postOne c b).clock.ticks = b.clock.ticks ∧
    (postOne c b).clock.running = b.clock.running ∧ (postOne c b).pins = b.pins ∧ (postOne c b).pwr.rest = b.pwr.rest ∧ (postOne c b).act = b.act ∧
    (postOne c b).recs = b.recs ∧ (postOne c b).bist = b.bist ∧ (postOne c b).bal = b.bal ∧ (postOne c b).cw = b.cw ∧ (postOne c b).fen = b.fen ∧
    (postOne c b).cap = b.cap ∧ (postOne c b).spi = b.spi := by
  unfold postOne; (try dsimp only); (repeat' split) <;> simp
@[simp] theorem postAll_keeps (b : Block) :
    (postAll b).lc = b.lc ∧ (postAll b).fw = b.fw ∧ (postAll b).cfg = b.cfg ∧ (postAll b).clock.ticks = b.clock.ticks ∧
    (postAll b).clock.running = b.clock.running ∧ (postAll b).pins = b.pins ∧ (postAll b).pwr.rest = b.pwr.rest ∧ (postAll b).act = b.act ∧
    (postAll b).recs = b.recs ∧ (postAll b).bist = b.bist ∧ (postAll b).bal = b.bal ∧ (postAll b).cw = b.cw ∧ (postAll b).fen = b.fen ∧
    (postAll b).cap = b.cap ∧ (postAll b).spi = b.spi := by
  unfold postAll; simp

end Sys2Proof.Machine
end

