-- ==== Sys2Proof/Laws/KeepBalance.lean ====
section
/-! SUPPORT. What each operation of Machine/Balance.lean leaves alone: a `…_keeps` lemma lists the fields of the block that read after it as before. -/

namespace Sys2Proof.Machine

set_option linter.all false

@[simp] theorem putBalDirty_keeps (n : Nat) (c : BalCell) (b : Block) :
    (putBalDirty n c b).lc = b.lc ∧ (putBalDirty n c b).fw = b.fw ∧ (putBalDirty n c b).cfg = b.cfg ∧
    (putBalDirty n c b).clock.ticks = b.clock.ticks ∧ (putBalDirty n c b).clock.running = b.clock.running ∧ (putBalDirty n c b).pins = b.pins ∧
    (putBalDirty n c b).pwr.rest = b.pwr.rest ∧ (putBalDirty n c b).act = b.act ∧ (putBalDirty n c b).recs = b.recs ∧
    (putBalDirty n c b).out = b.out ∧ (putBalDirty n c b).bist = b.bist ∧ (putBalDirty n c b).cw = b.cw ∧ (putBalDirty n c b).fen = b.fen ∧
    (putBalDirty n c b).cap = b.cap ∧ (putBalDirty n c b).spi = b.spi := by
  unfold putBalDirty; simp
@[simp] theorem putGate_keeps (n : Nat) (c : BalCell) (b : Block) :
    (putGate n c b).lc = b.lc ∧ (putGate n c b).fw = b.fw ∧ (putGate n c b).cfg = b.cfg ∧ (putGate n c b).clock.ticks = b.clock.ticks ∧
    (putGate n c b).clock.running = b.clock.running ∧ (putGate n c b).pins = b.pins ∧ (putGate n c b).pwr.rest = b.pwr.rest ∧
    (putGate n c b).act = b.act ∧ (putGate n c b).recs = b.recs ∧ (putGate n c b).out = b.out ∧ (putGate n c b).bist = b.bist ∧
    (putGate n c b).cw = b.cw ∧ (putGate n c b).fen = b.fen ∧ (putGate n c b).cap = b.cap ∧ (putGate n c b).spi = b.spi := by
  unfold putGate; simp
@[simp] theorem balAccrue_keeps (b : Block) :
    (balAccrue b).lc = b.lc ∧ (balAccrue b).fw = b.fw ∧ (balAccrue b).cfg = b.cfg ∧ (balAccrue b).clock.ticks = b.clock.ticks ∧
    (balAccrue b).clock.running = b.clock.running ∧ (balAccrue b).pins = b.pins ∧ (balAccrue b).pwr.rest = b.pwr.rest ∧ (balAccrue b).act = b.act ∧
    (balAccrue b).recs = b.recs ∧ (balAccrue b).out = b.out ∧ (balAccrue b).bist = b.bist ∧ (balAccrue b).cw = b.cw ∧ (balAccrue b).fen = b.fen ∧
    (balAccrue b).cap = b.cap ∧ (balAccrue b).spi = b.spi := by
  unfold balAccrue; simp
@[simp] theorem stopCell_keeps (n : Nat) (b : Block) :
    (stopCell n b).lc = b.lc ∧ (stopCell n b).fw = b.fw ∧ (stopCell n b).cfg = b.cfg ∧ (stopCell n b).clock.ticks = b.clock.ticks ∧
    (stopCell n b).clock.running = b.clock.running ∧ (stopCell n b).pins = b.pins ∧ (stopCell n b).pwr.rest = b.pwr.rest ∧
    (stopCell n b).act = b.act ∧ (stopCell n b).recs = b.recs ∧ (stopCell n b).out = b.out ∧ (stopCell n b).bist = b.bist ∧
    (stopCell n b).cw = b.cw ∧ (stopCell n b).fen = b.fen ∧ (stopCell n b).cap = b.cap ∧ (stopCell n b).spi = b.spi := by
  unfold stopCell; simp
@[simp] theorem dropCell_keeps (n : Nat) (b : Block) :
    (dropCell n b).lc = b.lc ∧ (dropCell n b).fw = b.fw ∧ (dropCell n b).cfg = b.cfg ∧ (dropCell n b).clock.ticks = b.clock.ticks ∧
    (dropCell n b).clock.running = b.clock.running ∧ (dropCell n b).pins = b.pins ∧ (dropCell n b).pwr.rest = b.pwr.rest ∧
    (dropCell n b).act = b.act ∧ (dropCell n b).recs = b.recs ∧ (dropCell n b).out = b.out ∧ (dropCell n b).bist = b.bist ∧
    (dropCell n b).cw = b.cw ∧ (dropCell n b).fen = b.fen ∧ (dropCell n b).cap = b.cap ∧ (dropCell n b).spi = b.spi := by
  unfold dropCell; simp
@[simp] theorem zeroCell_keeps (n : Nat) (b : Block) :
    (zeroCell n b).lc = b.lc ∧ (zeroCell n b).fw = b.fw ∧ (zeroCell n b).cfg = b.cfg ∧ (zeroCell n b).clock.ticks = b.clock.ticks ∧
    (zeroCell n b).clock.running = b.clock.running ∧ (zeroCell n b).pins = b.pins ∧ (zeroCell n b).pwr.rest = b.pwr.rest ∧
    (zeroCell n b).act = b.act ∧ (zeroCell n b).recs = b.recs ∧ (zeroCell n b).out = b.out ∧ (zeroCell n b).bist = b.bist ∧
    (zeroCell n b).cw = b.cw ∧ (zeroCell n b).fen = b.fen ∧ (zeroCell n b).cap = b.cap ∧ (zeroCell n b).spi = b.spi := by
  unfold zeroCell; simp
@[simp] theorem tierOff_keeps (t : Nat) (b : Block) :
    (tierOff t b).lc = b.lc ∧ (tierOff t b).fw = b.fw ∧ (tierOff t b).cfg = b.cfg ∧ (tierOff t b).clock.ticks = b.clock.ticks ∧
    (tierOff t b).clock.running = b.clock.running ∧ (tierOff t b).pins = b.pins ∧ (tierOff t b).pwr.rest = b.pwr.rest ∧ (tierOff t b).act = b.act ∧
    (tierOff t b).recs = b.recs ∧ (tierOff t b).out = b.out ∧ (tierOff t b).bist = b.bist ∧ (tierOff t b).cw = b.cw ∧ (tierOff t b).fen = b.fen ∧
    (tierOff t b).cap = b.cap ∧ (tierOff t b).spi = b.spi := by
  unfold tierOff; simp
@[simp] theorem balForce_keeps (b : Block) :
    (balForce b).lc = b.lc ∧ (balForce b).fw = b.fw ∧ (balForce b).cfg = b.cfg ∧ (balForce b).clock.ticks = b.clock.ticks ∧
    (balForce b).clock.running = b.clock.running ∧ (balForce b).pins = b.pins ∧ (balForce b).pwr.rest = b.pwr.rest ∧ (balForce b).act = b.act ∧
    (balForce b).recs = b.recs ∧ (balForce b).out = b.out ∧ (balForce b).bist = b.bist ∧ (balForce b).cw = b.cw ∧ (balForce b).fen = b.fen ∧
    (balForce b).cap = b.cap ∧ (balForce b).spi = b.spi := by
  unfold balForce; simp
@[simp] theorem balMode_keeps (b : Block) :
    (balMode b).lc = b.lc ∧ (balMode b).fw = b.fw ∧ (balMode b).cfg = b.cfg ∧ (balMode b).clock.ticks = b.clock.ticks ∧
    (balMode b).clock.running = b.clock.running ∧ (balMode b).pins = b.pins ∧ (balMode b).pwr.rest = b.pwr.rest ∧ (balMode b).act = b.act ∧
    (balMode b).recs = b.recs ∧ (balMode b).out = b.out ∧ (balMode b).bist = b.bist ∧ (balMode b).cw = b.cw ∧ (balMode b).fen = b.fen ∧
    (balMode b).cap = b.cap ∧ (balMode b).spi = b.spi := by
  unfold balMode; simp
@[simp] theorem setEntry_keeps (w : Word) (b : Block) :
    (setEntry w b).lc = b.lc ∧ (setEntry w b).fw = b.fw ∧ (setEntry w b).cfg = b.cfg ∧ (setEntry w b).clock.ticks = b.clock.ticks ∧
    (setEntry w b).clock.running = b.clock.running ∧ (setEntry w b).pins = b.pins ∧ (setEntry w b).pwr.rest = b.pwr.rest ∧
    (setEntry w b).act = b.act ∧ (setEntry w b).recs = b.recs ∧ (setEntry w b).out = b.out ∧ (setEntry w b).bist = b.bist ∧
    (setEntry w b).cw = b.cw ∧ (setEntry w b).fen = b.fen ∧ (setEntry w b).cap = b.cap ∧ (setEntry w b).spi = b.spi := by
  unfold setEntry; (try dsimp only); (repeat' split) <;> simp
@[simp] theorem applySet_keeps (ws : List Word) (b : Block) :
    (applySet ws b).2.lc = b.lc ∧ (applySet ws b).2.fw = b.fw ∧ (applySet ws b).2.cfg = b.cfg ∧ (applySet ws b).2.clock.ticks = b.clock.ticks ∧
    (applySet ws b).2.clock.running = b.clock.running ∧ (applySet ws b).2.pins = b.pins ∧ (applySet ws b).2.pwr.rest = b.pwr.rest ∧
    (applySet ws b).2.act = b.act ∧ (applySet ws b).2.recs = b.recs ∧ (applySet ws b).2.out = b.out ∧ (applySet ws b).2.bist = b.bist ∧
    (applySet ws b).2.cw = b.cw ∧ (applySet ws b).2.fen = b.fen ∧ (applySet ws b).2.cap = b.cap ∧ (applySet ws b).2.spi = b.spi := by
  unfold applySet; simp
@[simp] theorem balSets_keeps (b : Block) :
    (balSets b).lc = b.lc ∧ (balSets b).fw = b.fw ∧ (balSets b).cfg = b.cfg ∧ (balSets b).clock.ticks = b.clock.ticks ∧
    (balSets b).clock.running = b.clock.running ∧ (balSets b).pins = b.pins ∧ (balSets b).pwr.rest = b.pwr.rest ∧ (balSets b).act = b.act ∧
    (balSets b).recs = b.recs ∧ (balSets b).out = b.out ∧ (balSets b).bist = b.bist ∧ (balSets b).cw = b.cw ∧ (balSets b).fen = b.fen ∧
    (balSets b).cap = b.cap ∧ (balSets b).spi = b.spi := by
  unfold balSets; (try dsimp only); (repeat' split) <;> simp (disch := (intros; (try dsimp only); (repeat' split) <;> (try simp)))
@[simp] theorem balCleared_keeps (b : Block) :
    (balCleared b).lc = b.lc ∧ (balCleared b).fw = b.fw ∧ (balCleared b).cfg = b.cfg ∧ (balCleared b).clock.ticks = b.clock.ticks ∧
    (balCleared b).clock.running = b.clock.running ∧ (balCleared b).pins = b.pins ∧ (balCleared b).pwr.rest = b.pwr.rest ∧
    (balCleared b).act = b.act ∧ (balCleared b).recs = b.recs ∧ (balCleared b).out = b.out ∧ (balCleared b).bist = b.bist ∧
    (balCleared b).cw = b.cw ∧ (balCleared b).fen = b.fen ∧ (balCleared b).cap = b.cap ∧ (balCleared b).spi = b.spi := by
  unfold balCleared; simp
@[simp] theorem balTargets_keeps (b : Block) :
    (balTargets b).lc = b.lc ∧ (balTargets b).fw = b.fw ∧ (balTargets b).cfg = b.cfg ∧ (balTargets b).clock.ticks = b.clock.ticks ∧
    (balTargets b).clock.running = b.clock.running ∧ (balTargets b).pins = b.pins ∧ (balTargets b).pwr.rest = b.pwr.rest ∧
    (balTargets b).act = b.act ∧ (balTargets b).recs = b.recs ∧ (balTargets b).out = b.out ∧ (balTargets b).bist = b.bist ∧
    (balTargets b).cw = b.cw ∧ (balTargets b).fen = b.fen ∧ (balTargets b).cap = b.cap ∧ (balTargets b).spi = b.spi := by
  unfold balTargets; simp
@[simp] theorem balPeriod_keeps (b : Block) :
    (balPeriod b).lc = b.lc ∧ (balPeriod b).fw = b.fw ∧ (balPeriod b).cfg = b.cfg ∧ (balPeriod b).clock.ticks = b.clock.ticks ∧
    (balPeriod b).clock.running = b.clock.running ∧ (balPeriod b).pins = b.pins ∧ (balPeriod b).pwr.rest = b.pwr.rest ∧ (balPeriod b).act = b.act ∧
    (balPeriod b).recs = b.recs ∧ (balPeriod b).out = b.out ∧ (balPeriod b).bist = b.bist ∧ (balPeriod b).cw = b.cw ∧ (balPeriod b).fen = b.fen ∧
    (balPeriod b).cap = b.cap ∧ (balPeriod b).spi = b.spi := by
  unfold balPeriod; simp
@[simp] theorem balMet_keeps (b : Block) :
    (balMet b).lc = b.lc ∧ (balMet b).fw = b.fw ∧ (balMet b).cfg = b.cfg ∧ (balMet b).clock.ticks = b.clock.ticks ∧
    (balMet b).clock.running = b.clock.running ∧ (balMet b).pins = b.pins ∧ (balMet b).pwr.rest = b.pwr.rest ∧ (balMet b).act = b.act ∧
    (balMet b).recs = b.recs ∧ (balMet b).out = b.out ∧ (balMet b).bist = b.bist ∧ (balMet b).cw = b.cw ∧ (balMet b).fen = b.fen ∧
    (balMet b).cap = b.cap ∧ (balMet b).spi = b.spi := by
  unfold balMet; (try dsimp only); (repeat' split) <;> simp (disch := (intros; (try dsimp only); (repeat' split) <;> (try simp)))
@[simp] theorem govern_keeps (t : Nat) (b : Block) :
    (govern t b).lc = b.lc ∧ (govern t b).fw = b.fw ∧ (govern t b).cfg = b.cfg ∧ (govern t b).clock.ticks = b.clock.ticks ∧
    (govern t b).clock.running = b.clock.running ∧ (govern t b).pins = b.pins ∧ (govern t b).pwr.rest = b.pwr.rest ∧ (govern t b).act = b.act ∧
    (govern t b).recs = b.recs ∧ (govern t b).out = b.out ∧ (govern t b).bist = b.bist ∧ (govern t b).cw = b.cw ∧ (govern t b).fen = b.fen ∧
    (govern t b).cap = b.cap ∧ (govern t b).spi = b.spi := by
  unfold govern; simp
@[simp] theorem balGovern_keeps (b : Block) :
    (balGovern b).lc = b.lc ∧ (balGovern b).fw = b.fw ∧ (balGovern b).cfg = b.cfg ∧ (balGovern b).clock.ticks = b.clock.ticks ∧
    (balGovern b).clock.running = b.clock.running ∧ (balGovern b).pins = b.pins ∧ (balGovern b).pwr.rest = b.pwr.rest ∧ (balGovern b).act = b.act ∧
    (balGovern b).recs = b.recs ∧ (balGovern b).out = b.out ∧ (balGovern b).bist = b.bist ∧ (balGovern b).cw = b.cw ∧ (balGovern b).fen = b.fen ∧
    (balGovern b).cap = b.cap ∧ (balGovern b).spi = b.spi := by
  unfold balGovern; simp
@[simp] theorem balGates_keeps (b : Block) :
    (balGates b).lc = b.lc ∧ (balGates b).fw = b.fw ∧ (balGates b).cfg = b.cfg ∧ (balGates b).clock.ticks = b.clock.ticks ∧
    (balGates b).clock.running = b.clock.running ∧ (balGates b).pins = b.pins ∧ (balGates b).pwr.rest = b.pwr.rest ∧ (balGates b).act = b.act ∧
    (balGates b).recs = b.recs ∧ (balGates b).out = b.out ∧ (balGates b).bist = b.bist ∧ (balGates b).cw = b.cw ∧ (balGates b).fen = b.fen ∧
    (balGates b).cap = b.cap ∧ (balGates b).spi = b.spi := by
  unfold balGates; simp
@[simp] theorem balRbal_keeps (b : Block) :
    (balRbal b).lc = b.lc ∧ (balRbal b).fw = b.fw ∧ (balRbal b).cfg = b.cfg ∧ (balRbal b).clock.ticks = b.clock.ticks ∧
    (balRbal b).clock.running = b.clock.running ∧ (balRbal b).pins = b.pins ∧ (balRbal b).pwr.rest = b.pwr.rest ∧ (balRbal b).act = b.act ∧
    (balRbal b).recs = b.recs ∧ (balRbal b).out = b.out ∧ (balRbal b).bist = b.bist ∧ (balRbal b).cw = b.cw ∧ (balRbal b).fen = b.fen ∧
    (balRbal b).cap = b.cap ∧ (balRbal b).spi = b.spi := by
  unfold balRbal; simp
@[simp] theorem balActs_keeps (b : Block) :
    (balActs b).lc = b.lc ∧ (balActs b).fw = b.fw ∧ (balActs b).cfg = b.cfg ∧ (balActs b).clock.ticks = b.clock.ticks ∧
    (balActs b).clock.running = b.clock.running ∧ (balActs b).pins = b.pins ∧ (balActs b).pwr.rest = b.pwr.rest ∧ (balActs b).act = b.act ∧
    (balActs b).recs = b.recs ∧ (balActs b).out = b.out ∧ (balActs b).bist = b.bist ∧ (balActs b).cw = b.cw ∧ (balActs b).fen = b.fen ∧
    (balActs b).cap = b.cap ∧ (balActs b).spi = b.spi := by
  unfold balActs; simp
@[simp] theorem fetCheck_keeps (avail : Nat → Bool) (vds : List Nat) (b : Block) :
    (fetCheck avail vds b).lc = b.lc ∧ (fetCheck avail vds b).fw = b.fw ∧ (fetCheck avail vds b).cfg = b.cfg ∧
    (fetCheck avail vds b).clock.ticks = b.clock.ticks ∧ (fetCheck avail vds b).clock.running = b.clock.running ∧
    (fetCheck avail vds b).pins = b.pins ∧ (fetCheck avail vds b).pwr.rest = b.pwr.rest ∧ (fetCheck avail vds b).act = b.act ∧
    (fetCheck avail vds b).recs = b.recs ∧ (fetCheck avail vds b).out = b.out ∧ (fetCheck avail vds b).bist = b.bist ∧
    (fetCheck avail vds b).cw = b.cw ∧ (fetCheck avail vds b).fen = b.fen ∧ (fetCheck avail vds b).cap = b.cap ∧
    (fetCheck avail vds b).spi = b.spi := by
  unfold fetCheck; simp
@[simp] theorem fetReport_keeps (t : Nat) (b : Block) :
    (fetReport t b).lc = b.lc ∧ (fetReport t b).fw = b.fw ∧ (fetReport t b).cfg = b.cfg ∧ (fetReport t b).clock.ticks = b.clock.ticks ∧
    (fetReport t b).clock.running = b.clock.running ∧ (fetReport t b).pins = b.pins ∧ (fetReport t b).pwr.rest = b.pwr.rest ∧
    (fetReport t b).act = b.act ∧ (fetReport t b).recs = b.recs ∧ (fetReport t b).bist = b.bist ∧ (fetReport t b).cw = b.cw ∧
    (fetReport t b).fen = b.fen ∧ (fetReport t b).spi = b.spi := by
  unfold fetReport; simp
@[simp] theorem parkAuto_keeps (t : Nat) (b : Block) :
    (parkAuto t b).lc = b.lc ∧ (parkAuto t b).fw = b.fw ∧ (parkAuto t b).cfg = b.cfg ∧ (parkAuto t b).clock.ticks = b.clock.ticks ∧
    (parkAuto t b).clock.running = b.clock.running ∧ (parkAuto t b).pins = b.pins ∧ (parkAuto t b).pwr.rest = b.pwr.rest ∧
    (parkAuto t b).act = b.act ∧ (parkAuto t b).recs = b.recs ∧ (parkAuto t b).out = b.out ∧ (parkAuto t b).bist = b.bist ∧
    (parkAuto t b).cw = b.cw ∧ (parkAuto t b).fen = b.fen ∧ (parkAuto t b).cap = b.cap ∧ (parkAuto t b).spi = b.spi := by
  unfold parkAuto; simp
@[simp] theorem balPark_keeps (b : Block) :
    (balPark b).lc = b.lc ∧ (balPark b).fw = b.fw ∧ (balPark b).cfg = b.cfg ∧ (balPark b).clock.ticks = b.clock.ticks ∧
    (balPark b).clock.running = b.clock.running ∧ (balPark b).pins = b.pins ∧ (balPark b).pwr.rest = b.pwr.rest ∧ (balPark b).act = b.act ∧
    (balPark b).recs = b.recs ∧ (balPark b).out = b.out ∧ (balPark b).bist = b.bist ∧ (balPark b).cw = b.cw ∧ (balPark b).fen = b.fen ∧
    (balPark b).cap = b.cap ∧ (balPark b).spi = b.spi := by
  unfold balPark; simp
@[simp] theorem parkBleed_keeps (lo span n : Nat) (b : Block) :
    (parkBleed lo span n b).lc = b.lc ∧ (parkBleed lo span n b).fw = b.fw ∧ (parkBleed lo span n b).cfg = b.cfg ∧
    (parkBleed lo span n b).clock.ticks = b.clock.ticks ∧ (parkBleed lo span n b).clock.running = b.clock.running ∧
    (parkBleed lo span n b).pins = b.pins ∧ (parkBleed lo span n b).pwr.rest = b.pwr.rest ∧ (parkBleed lo span n b).act = b.act ∧
    (parkBleed lo span n b).recs = b.recs ∧ (parkBleed lo span n b).out = b.out ∧ (parkBleed lo span n b).bist = b.bist ∧
    (parkBleed lo span n b).cw = b.cw ∧ (parkBleed lo span n b).fen = b.fen ∧ (parkBleed lo span n b).cap = b.cap ∧
    (parkBleed lo span n b).spi = b.spi := by
  unfold parkBleed; split
  · simp
  · (repeat' apply And.intro) <;> rfl
@[simp] theorem parkSpan_keeps (lo stop : Nat) (b : Block) :
    (parkSpan lo stop b).lc = b.lc ∧ (parkSpan lo stop b).fw = b.fw ∧ (parkSpan lo stop b).cfg = b.cfg ∧
    (parkSpan lo stop b).clock.ticks = b.clock.ticks ∧ (parkSpan lo stop b).clock.running = b.clock.running ∧ (parkSpan lo stop b).pins = b.pins ∧
    (parkSpan lo stop b).pwr.rest = b.pwr.rest ∧ (parkSpan lo stop b).act = b.act ∧ (parkSpan lo stop b).recs = b.recs ∧
    (parkSpan lo stop b).out = b.out ∧ (parkSpan lo stop b).bist = b.bist ∧ (parkSpan lo stop b).cw = b.cw ∧ (parkSpan lo stop b).fen = b.fen ∧
    (parkSpan lo stop b).cap = b.cap ∧ (parkSpan lo stop b).spi = b.spi := by
  unfold parkSpan; simp
@[simp] theorem balParked_keeps (n lo hi : Nat) (b : Block) :
    (balParked n lo hi b).lc = b.lc ∧ (balParked n lo hi b).fw = b.fw ∧ (balParked n lo hi b).cfg = b.cfg ∧
    (balParked n lo hi b).clock.ticks = b.clock.ticks ∧ (balParked n lo hi b).clock.running = b.clock.running ∧ (balParked n lo hi b).pins = b.pins ∧
    (balParked n lo hi b).pwr.rest = b.pwr.rest ∧ (balParked n lo hi b).act = b.act ∧ (balParked n lo hi b).recs = b.recs ∧
    (balParked n lo hi b).out = b.out ∧ (balParked n lo hi b).bist = b.bist ∧ (balParked n lo hi b).cw = b.cw ∧ (balParked n lo hi b).fen = b.fen ∧
    (balParked n lo hi b).cap = b.cap ∧ (balParked n lo hi b).spi = b.spi := by
  induction n generalizing lo b with
  | zero => simp [balParked]
  | succ n ih => unfold balParked; split <;> simp [ih]
@[simp] theorem writeSetReg_keeps (v : Word) (b : Block) :
    (writeSetReg v b).lc = b.lc ∧ (writeSetReg v b).fw = b.fw ∧ (writeSetReg v b).cfg = b.cfg ∧ (writeSetReg v b).clock.ticks = b.clock.ticks ∧
    (writeSetReg v b).clock.running = b.clock.running ∧ (writeSetReg v b).pins = b.pins ∧ (writeSetReg v b).pwr.rest = b.pwr.rest ∧
    (writeSetReg v b).act = b.act ∧ (writeSetReg v b).recs = b.recs ∧ (writeSetReg v b).out = b.out ∧ (writeSetReg v b).bist = b.bist ∧
    (writeSetReg v b).cw = b.cw ∧ (writeSetReg v b).fen = b.fen ∧ (writeSetReg v b).cap = b.cap ∧ (writeSetReg v b).spi = b.spi := by
  unfold writeSetReg; simp

end Sys2Proof.Machine
end

