-- ==== Sys2Proof/Laws/KeepFrontEnd.lean ====
section
/-! SUPPORT. What each operation of Machine/FrontEnd.lean leaves alone: a `…_keeps` lemma lists the fields of the block that read after it as before. -/

namespace Sys2Proof.Machine

set_option linter.all false

@[simp] theorem addSetl_keeps (x : Setl) (b : Block) :
    (addSetl x b).lc = b.lc ∧ (addSetl x b).fw = b.fw ∧ (addSetl x b).cfg = b.cfg ∧ (addSetl x b).clock.ticks = b.clock.ticks ∧
    (addSetl x b).clock.running = b.clock.running ∧ (addSetl x b).pins = b.pins ∧ (addSetl x b).pwr.rest = b.pwr.rest ∧ (addSetl x b).act = b.act ∧
    (addSetl x b).recs = b.recs ∧ (addSetl x b).out = b.out ∧ (addSetl x b).bist = b.bist ∧ (addSetl x b).bal = b.bal ∧ (addSetl x b).cw = b.cw ∧
    (addSetl x b).fen = b.fen ∧ (addSetl x b).cap = b.cap ∧ (addSetl x b).spi = b.spi := by
  unfold addSetl; simp
@[simp] theorem setlNow_keeps (lo hi : Nat) (filter : Bool) (b : Block) :
    (setlNow lo hi filter b).lc = b.lc ∧ (setlNow lo hi filter b).fw = b.fw ∧ (setlNow lo hi filter b).cfg = b.cfg ∧
    (setlNow lo hi filter b).clock.ticks = b.clock.ticks ∧ (setlNow lo hi filter b).clock.running = b.clock.running ∧
    (setlNow lo hi filter b).pins = b.pins ∧ (setlNow lo hi filter b).pwr.rest = b.pwr.rest ∧ (setlNow lo hi filter b).act = b.act ∧
    (setlNow lo hi filter b).recs = b.recs ∧ (setlNow lo hi filter b).out = b.out ∧ (setlNow lo hi filter b).bist = b.bist ∧
    (setlNow lo hi filter b).bal = b.bal ∧ (setlNow lo hi filter b).cw = b.cw ∧ (setlNow lo hi filter b).fen = b.fen ∧
    (setlNow lo hi filter b).cap = b.cap ∧ (setlNow lo hi filter b).spi = b.spi := by
  unfold setlNow; simp
@[simp] theorem tierReturn_keeps (t : Nat) (b : Block) :
    (tierReturn t b).lc = b.lc ∧ (tierReturn t b).fw = b.fw ∧ (tierReturn t b).cfg = b.cfg ∧ (tierReturn t b).clock.ticks = b.clock.ticks ∧
    (tierReturn t b).clock.running = b.clock.running ∧ (tierReturn t b).pins = b.pins ∧ (tierReturn t b).pwr.rest = b.pwr.rest ∧
    (tierReturn t b).act = b.act ∧ (tierReturn t b).recs = b.recs ∧ (tierReturn t b).out = b.out ∧ (tierReturn t b).bist = b.bist ∧
    (tierReturn t b).bal = b.bal ∧ (tierReturn t b).cw = b.cw ∧ (tierReturn t b).fen = b.fen ∧ (tierReturn t b).cap = b.cap ∧
    (tierReturn t b).spi = b.spi := by
  unfold tierReturn; simp
@[simp] theorem overrun_keeps (bit : Nat) (b : Block) :
    (overrun bit b).lc = b.lc ∧ (overrun bit b).fw = b.fw ∧ (overrun bit b).cfg = b.cfg ∧ (overrun bit b).clock.ticks = b.clock.ticks ∧
    (overrun bit b).clock.running = b.clock.running ∧ (overrun bit b).pins = b.pins ∧ (overrun bit b).pwr.rest = b.pwr.rest ∧
    (overrun bit b).act = b.act ∧ (overrun bit b).recs = b.recs ∧ (overrun bit b).out = b.out ∧ (overrun bit b).bist = b.bist ∧
    (overrun bit b).bal = b.bal ∧ (overrun bit b).cw = b.cw ∧ (overrun bit b).fen = b.fen ∧ (overrun bit b).cap = b.cap ∧
    (overrun bit b).spi = b.spi := by
  unfold overrun; simp
@[simp] theorem markPoints_keeps (d : Nat) (f : Sweep → Sweep) (b : Block) :
    (markPoints d f b).lc = b.lc ∧ (markPoints d f b).fw = b.fw ∧ (markPoints d f b).cfg = b.cfg ∧ (markPoints d f b).clock.ticks = b.clock.ticks ∧
    (markPoints d f b).clock.running = b.clock.running ∧ (markPoints d f b).pins = b.pins ∧ (markPoints d f b).pwr.rest = b.pwr.rest ∧
    (markPoints d f b).act = b.act ∧ (markPoints d f b).recs = b.recs ∧ (markPoints d f b).out = b.out ∧ (markPoints d f b).bist = b.bist ∧
    (markPoints d f b).bal = b.bal ∧ (markPoints d f b).cw = b.cw ∧ (markPoints d f b).fen = b.fen ∧ (markPoints d f b).cap = b.cap ∧
    (markPoints d f b).spi = b.spi := by
  unfold markPoints; simp
@[simp] theorem spoil_keeps (cs : List Nat) (d : Nat) (b : Block) :
    (spoil cs d b).lc = b.lc ∧ (spoil cs d b).fw = b.fw ∧ (spoil cs d b).cfg = b.cfg ∧ (spoil cs d b).clock.ticks = b.clock.ticks ∧
    (spoil cs d b).clock.running = b.clock.running ∧ (spoil cs d b).pins = b.pins ∧ (spoil cs d b).pwr.rest = b.pwr.rest ∧
    (spoil cs d b).act = b.act ∧ (spoil cs d b).recs = b.recs ∧ (spoil cs d b).out = b.out ∧ (spoil cs d b).bist = b.bist ∧
    (spoil cs d b).bal = b.bal ∧ (spoil cs d b).cw = b.cw ∧ (spoil cs d b).fen = b.fen ∧ (spoil cs d b).cap = b.cap ∧ (spoil cs d b).spi = b.spi := by
  unfold spoil; simp
@[simp] theorem overrange_keeps (ch : Nat) (xs : List Int) (b : Block) :
    (overrange ch xs b).lc = b.lc ∧ (overrange ch xs b).fw = b.fw ∧ (overrange ch xs b).cfg = b.cfg ∧
    (overrange ch xs b).clock.ticks = b.clock.ticks ∧ (overrange ch xs b).clock.running = b.clock.running ∧ (overrange ch xs b).pins = b.pins ∧
    (overrange ch xs b).pwr.rest = b.pwr.rest ∧ (overrange ch xs b).act = b.act ∧ (overrange ch xs b).recs = b.recs ∧
    (overrange ch xs b).out = b.out ∧ (overrange ch xs b).bist = b.bist ∧ (overrange ch xs b).bal = b.bal ∧ (overrange ch xs b).cw = b.cw ∧
    (overrange ch xs b).fen = b.fen ∧ (overrange ch xs b).cap = b.cap ∧ (overrange ch xs b).spi = b.spi := by
  unfold overrange; (try dsimp only); (repeat' split) <;> simp
@[simp] theorem spoilRange_keeps (d ch : Nat) (xs : List Int) (b : Block) :
    (spoilRange d ch xs b).lc = b.lc ∧ (spoilRange d ch xs b).fw = b.fw ∧ (spoilRange d ch xs b).cfg = b.cfg ∧
    (spoilRange d ch xs b).clock.ticks = b.clock.ticks ∧ (spoilRange d ch xs b).clock.running = b.clock.running ∧
    (spoilRange d ch xs b).pins = b.pins ∧ (spoilRange d ch xs b).pwr.rest = b.pwr.rest ∧ (spoilRange d ch xs b).act = b.act ∧
    (spoilRange d ch xs b).recs = b.recs ∧ (spoilRange d ch xs b).out = b.out ∧ (spoilRange d ch xs b).bist = b.bist ∧
    (spoilRange d ch xs b).bal = b.bal ∧ (spoilRange d ch xs b).cw = b.cw ∧ (spoilRange d ch xs b).fen = b.fen ∧ (spoilRange d ch xs b).cap = b.cap ∧
    (spoilRange d ch xs b).spi = b.spi := by
  unfold spoilRange; simp
@[simp] theorem markMiss_keeps (t d : Nat) (b : Block) :
    (markMiss t d b).lc = b.lc ∧ (markMiss t d b).fw = b.fw ∧ (markMiss t d b).cfg = b.cfg ∧ (markMiss t d b).clock.ticks = b.clock.ticks ∧
    (markMiss t d b).clock.running = b.clock.running ∧ (markMiss t d b).pins = b.pins ∧ (markMiss t d b).pwr.rest = b.pwr.rest ∧
    (markMiss t d b).act = b.act ∧ (markMiss t d b).recs = b.recs ∧ (markMiss t d b).out = b.out ∧ (markMiss t d b).bist = b.bist ∧
    (markMiss t d b).bal = b.bal ∧ (markMiss t d b).cw = b.cw ∧ (markMiss t d b).fen = b.fen ∧ (markMiss t d b).cap = b.cap ∧
    (markMiss t d b).spi = b.spi := by
  unfold markMiss; simp
@[simp] theorem firstVn_keeps (n : Nat) (xs : List Int) (b : Block) :
    (firstVn n xs b).lc = b.lc ∧ (firstVn n xs b).fw = b.fw ∧ (firstVn n xs b).cfg = b.cfg ∧ (firstVn n xs b).clock.ticks = b.clock.ticks ∧
    (firstVn n xs b).clock.running = b.clock.running ∧ (firstVn n xs b).pins = b.pins ∧ (firstVn n xs b).pwr.rest = b.pwr.rest ∧
    (firstVn n xs b).act = b.act ∧ (firstVn n xs b).recs = b.recs ∧ (firstVn n xs b).out = b.out ∧ (firstVn n xs b).bist = b.bist ∧
    (firstVn n xs b).cw = b.cw ∧ (firstVn n xs b).fen = b.fen ∧ (firstVn n xs b).cap = b.cap ∧ (firstVn n xs b).spi = b.spi := by
  unfold firstVn; (try dsimp only); (repeat' split) <;> simp
@[simp] theorem filterIn_keeps (t d : Nat) (xs : List (List Int)) (b : Block) :
    (filterIn t d xs b).lc = b.lc ∧ (filterIn t d xs b).fw = b.fw ∧ (filterIn t d xs b).cfg = b.cfg ∧
    (filterIn t d xs b).clock.ticks = b.clock.ticks ∧ (filterIn t d xs b).clock.running = b.clock.running ∧ (filterIn t d xs b).pins = b.pins ∧
    (filterIn t d xs b).pwr.rest = b.pwr.rest ∧ (filterIn t d xs b).act = b.act ∧ (filterIn t d xs b).recs = b.recs ∧
    (filterIn t d xs b).out = b.out ∧ (filterIn t d xs b).bist = b.bist ∧ (filterIn t d xs b).bal = b.bal ∧ (filterIn t d xs b).cw = b.cw ∧
    (filterIn t d xs b).fen = b.fen ∧ (filterIn t d xs b).cap = b.cap ∧ (filterIn t d xs b).spi = b.spi := by
  unfold filterIn; simp
@[simp] theorem keepBlock_keeps (t d : Nat) (xs : List (List Int)) (whole : Bool) (b : Block) :
    (keepBlock t d xs whole b).lc = b.lc ∧ (keepBlock t d xs whole b).fw = b.fw ∧ (keepBlock t d xs whole b).cfg = b.cfg ∧
    (keepBlock t d xs whole b).clock.ticks = b.clock.ticks ∧ (keepBlock t d xs whole b).clock.running = b.clock.running ∧
    (keepBlock t d xs whole b).pins = b.pins ∧ (keepBlock t d xs whole b).pwr.rest = b.pwr.rest ∧ (keepBlock t d xs whole b).act = b.act ∧
    (keepBlock t d xs whole b).recs = b.recs ∧ (keepBlock t d xs whole b).out = b.out ∧ (keepBlock t d xs whole b).bist = b.bist ∧
    (keepBlock t d xs whole b).bal = b.bal ∧ (keepBlock t d xs whole b).cw = b.cw ∧ (keepBlock t d xs whole b).fen = b.fen ∧
    (keepBlock t d xs whole b).cap = b.cap ∧ (keepBlock t d xs whole b).spi = b.spi := by
  unfold keepBlock; simp
@[simp] theorem hopErrored_keeps (h : Nat) (up : Bool) (b : Block) :
    (hopErrored h up b).lc = b.lc ∧ (hopErrored h up b).fw = b.fw ∧ (hopErrored h up b).cfg = b.cfg ∧
    (hopErrored h up b).clock.ticks = b.clock.ticks ∧ (hopErrored h up b).clock.running = b.clock.running ∧ (hopErrored h up b).pins = b.pins ∧
    (hopErrored h up b).pwr.rest = b.pwr.rest ∧ (hopErrored h up b).act = b.act ∧ (hopErrored h up b).recs = b.recs ∧
    (hopErrored h up b).out = b.out ∧ (hopErrored h up b).bist = b.bist ∧ (hopErrored h up b).bal = b.bal ∧ (hopErrored h up b).cw = b.cw ∧
    (hopErrored h up b).fen = b.fen ∧ (hopErrored h up b).cap = b.cap ∧ (hopErrored h up b).spi = b.spi := by
  unfold hopErrored; simp
@[simp] theorem hopViol_keeps (e : HopErrs) (b : Block) :
    (hopViol e b).lc = b.lc ∧ (hopViol e b).fw = b.fw ∧ (hopViol e b).cfg = b.cfg ∧ (hopViol e b).clock.ticks = b.clock.ticks ∧
    (hopViol e b).clock.running = b.clock.running ∧ (hopViol e b).pins = b.pins ∧ (hopViol e b).pwr.rest = b.pwr.rest ∧ (hopViol e b).act = b.act ∧
    (hopViol e b).recs = b.recs ∧ (hopViol e b).out = b.out ∧ (hopViol e b).bist = b.bist ∧ (hopViol e b).bal = b.bal ∧ (hopViol e b).cw = b.cw ∧
    (hopViol e b).fen = b.fen ∧ (hopViol e b).cap = b.cap ∧ (hopViol e b).spi = b.spi := by
  unfold hopViol; simp
@[simp] theorem takeBlock_keeps (t : Nat) (k : TierBlock) (b : Block) :
    (takeBlock t k b).lc = b.lc ∧ (takeBlock t k b).fw = b.fw ∧ (takeBlock t k b).cfg = b.cfg ∧ (takeBlock t k b).clock.ticks = b.clock.ticks ∧
    (takeBlock t k b).clock.running = b.clock.running ∧ (takeBlock t k b).pins = b.pins ∧ (takeBlock t k b).pwr.rest = b.pwr.rest ∧
    (takeBlock t k b).act = b.act ∧ (takeBlock t k b).recs = b.recs ∧ (takeBlock t k b).bist = b.bist ∧ (takeBlock t k b).cw = b.cw ∧
    (takeBlock t k b).fen = b.fen ∧ (takeBlock t k b).spi = b.spi := by
  unfold takeBlock; simp
@[simp] theorem tierBlock_keeps (t : Nat) (k : TierBlock) (b : Block) :
    (tierBlock t k b).lc = b.lc ∧ (tierBlock t k b).fw = b.fw ∧ (tierBlock t k b).cfg = b.cfg ∧ (tierBlock t k b).clock.ticks = b.clock.ticks ∧
    (tierBlock t k b).clock.running = b.clock.running ∧ (tierBlock t k b).pins = b.pins ∧ (tierBlock t k b).pwr.rest = b.pwr.rest ∧
    (tierBlock t k b).act = b.act ∧ (tierBlock t k b).recs = b.recs ∧ (tierBlock t k b).bist = b.bist ∧ (tierBlock t k b).cw = b.cw ∧
    (tierBlock t k b).fen = b.fen ∧ (tierBlock t k b).spi = b.spi := by
  unfold tierBlock; (try dsimp only); (repeat' split) <;> simp
@[simp] theorem collectOverrun_keeps (b : Block) :
    (collectOverrun b).lc = b.lc ∧ (collectOverrun b).fw = b.fw ∧ (collectOverrun b).cfg = b.cfg ∧ (collectOverrun b).clock.ticks = b.clock.ticks ∧
    (collectOverrun b).clock.running = b.clock.running ∧ (collectOverrun b).pins = b.pins ∧ (collectOverrun b).pwr.rest = b.pwr.rest ∧
    (collectOverrun b).act = b.act ∧ (collectOverrun b).recs = b.recs ∧ (collectOverrun b).out = b.out ∧ (collectOverrun b).bist = b.bist ∧
    (collectOverrun b).bal = b.bal ∧ (collectOverrun b).cw = b.cw ∧ (collectOverrun b).fen = b.fen ∧ (collectOverrun b).cap = b.cap ∧
    (collectOverrun b).spi = b.spi := by
  unfold collectOverrun; simp
@[simp] theorem collectForgive_keeps (b : Block) :
    (collectForgive b).lc = b.lc ∧ (collectForgive b).fw = b.fw ∧ (collectForgive b).cfg = b.cfg ∧ (collectForgive b).clock.ticks = b.clock.ticks ∧
    (collectForgive b).clock.running = b.clock.running ∧ (collectForgive b).pins = b.pins ∧ (collectForgive b).pwr.rest = b.pwr.rest ∧
    (collectForgive b).act = b.act ∧ (collectForgive b).recs = b.recs ∧ (collectForgive b).out = b.out ∧ (collectForgive b).bist = b.bist ∧
    (collectForgive b).bal = b.bal ∧ (collectForgive b).cw = b.cw ∧ (collectForgive b).fen = b.fen ∧ (collectForgive b).cap = b.cap ∧
    (collectForgive b).spi = b.spi := by
  unfold collectForgive; (try dsimp only); (repeat' split) <;> simp
@[simp] theorem collectDeadline_keeps (b : Block) :
    (collectDeadline b).lc = b.lc ∧ (collectDeadline b).fw = b.fw ∧ (collectDeadline b).cfg = b.cfg ∧
    (collectDeadline b).clock.ticks = b.clock.ticks ∧ (collectDeadline b).clock.running = b.clock.running ∧ (collectDeadline b).pins = b.pins ∧
    (collectDeadline b).pwr.rest = b.pwr.rest ∧ (collectDeadline b).act = b.act ∧ (collectDeadline b).recs = b.recs ∧
    (collectDeadline b).out = b.out ∧ (collectDeadline b).bist = b.bist ∧ (collectDeadline b).bal = b.bal ∧ (collectDeadline b).cw = b.cw ∧
    (collectDeadline b).fen = b.fen ∧ (collectDeadline b).cap = b.cap ∧ (collectDeadline b).spi = b.spi := by
  unfold collectDeadline; simp
@[simp] theorem plausibility_keeps (o : OutDue) (w1 w2 : Nat) (b : Block) :
    (plausibility o w1 w2 b).lc = b.lc ∧ (plausibility o w1 w2 b).fw = b.fw ∧ (plausibility o w1 w2 b).cfg = b.cfg ∧
    (plausibility o w1 w2 b).clock.ticks = b.clock.ticks ∧ (plausibility o w1 w2 b).clock.running = b.clock.running ∧
    (plausibility o w1 w2 b).pins = b.pins ∧ (plausibility o w1 w2 b).pwr.rest = b.pwr.rest ∧ (plausibility o w1 w2 b).act = b.act ∧
    (plausibility o w1 w2 b).recs = b.recs ∧ (plausibility o w1 w2 b).out = b.out ∧ (plausibility o w1 w2 b).bist = b.bist ∧
    (plausibility o w1 w2 b).bal = b.bal ∧ (plausibility o w1 w2 b).cw = b.cw ∧ (plausibility o w1 w2 b).fen = b.fen ∧
    (plausibility o w1 w2 b).cap = b.cap ∧ (plausibility o w1 w2 b).spi = b.spi := by
  unfold plausibility; simp
@[simp] theorem countWord_keeps (w : Nat) (q : Qual) (b : Block) :
    (countWord w q b).lc = b.lc ∧ (countWord w q b).fw = b.fw ∧ (countWord w q b).cfg = b.cfg ∧ (countWord w q b).clock.ticks = b.clock.ticks ∧
    (countWord w q b).clock.running = b.clock.running ∧ (countWord w q b).pins = b.pins ∧ (countWord w q b).pwr.rest = b.pwr.rest ∧
    (countWord w q b).act = b.act ∧ (countWord w q b).recs = b.recs ∧ (countWord w q b).out = b.out ∧ (countWord w q b).bist = b.bist ∧
    (countWord w q b).bal = b.bal ∧ (countWord w q b).cw = b.cw ∧ (countWord w q b).fen = b.fen ∧ (countWord w q b).cap = b.cap ∧
    (countWord w q b).spi = b.spi := by
  unfold countWord; simp
@[simp] theorem filterOutput_keeps (codes : List Int) (b : Block) :
    (filterOutput codes b).lc = b.lc ∧ (filterOutput codes b).fw = b.fw ∧ (filterOutput codes b).cfg = b.cfg ∧
    (filterOutput codes b).clock.ticks = b.clock.ticks ∧ (filterOutput codes b).clock.running = b.clock.running ∧
    (filterOutput codes b).pins = b.pins ∧ (filterOutput codes b).pwr.rest = b.pwr.rest ∧ (filterOutput codes b).act = b.act ∧
    (filterOutput codes b).out = b.out ∧ (filterOutput codes b).bist = b.bist ∧ (filterOutput codes b).bal = b.bal ∧
    (filterOutput codes b).cw = b.cw ∧ (filterOutput codes b).fen = b.fen ∧ (filterOutput codes b).cap = b.cap ∧
    (filterOutput codes b).spi = b.spi := by
  unfold filterOutput; (try dsimp only); (repeat' split) <;> simp
@[simp] theorem owPostpone_keeps (t j : Nat) (b : Block) :
    (owPostpone t j b).lc = b.lc ∧ (owPostpone t j b).fw = b.fw ∧ (owPostpone t j b).cfg = b.cfg ∧ (owPostpone t j b).clock.ticks = b.clock.ticks ∧
    (owPostpone t j b).clock.running = b.clock.running ∧ (owPostpone t j b).pins = b.pins ∧ (owPostpone t j b).pwr.rest = b.pwr.rest ∧
    (owPostpone t j b).act = b.act ∧ (owPostpone t j b).recs = b.recs ∧ (owPostpone t j b).out = b.out ∧ (owPostpone t j b).bist = b.bist ∧
    (owPostpone t j b).bal = b.bal ∧ (owPostpone t j b).cw = b.cw ∧ (owPostpone t j b).fen = b.fen ∧ (owPostpone t j b).cap = b.cap ∧
    (owPostpone t j b).spi = b.spi := by
  unfold owPostpone; simp
@[simp] theorem openWireTest_keeps (b : Block) :
    (openWireTest b).lc = b.lc ∧ (openWireTest b).fw = b.fw ∧ (openWireTest b).cfg = b.cfg ∧ (openWireTest b).clock.ticks = b.clock.ticks ∧
    (openWireTest b).clock.running = b.clock.running ∧ (openWireTest b).pins = b.pins ∧ (openWireTest b).pwr.rest = b.pwr.rest ∧
    (openWireTest b).act = b.act ∧ (openWireTest b).recs = b.recs ∧ (openWireTest b).out = b.out ∧ (openWireTest b).bist = b.bist ∧
    (openWireTest b).bal = b.bal ∧ (openWireTest b).cw = b.cw ∧ (openWireTest b).fen = b.fen ∧ (openWireTest b).cap = b.cap ∧
    (openWireTest b).spi = b.spi := by
  unfold openWireTest; simp
@[simp] theorem owHarness_keeps (x : OwTest) (shift8 : Int) (b : Block) :
    (owHarness x shift8 b).lc = b.lc ∧ (owHarness x shift8 b).fw = b.fw ∧ (owHarness x shift8 b).cfg = b.cfg ∧
    (owHarness x shift8 b).clock.ticks = b.clock.ticks ∧ (owHarness x shift8 b).clock.running = b.clock.running ∧
    (owHarness x shift8 b).pins = b.pins ∧ (owHarness x shift8 b).pwr.rest = b.pwr.rest ∧ (owHarness x shift8 b).act = b.act ∧
    (owHarness x shift8 b).recs = b.recs ∧ (owHarness x shift8 b).out = b.out ∧ (owHarness x shift8 b).bist = b.bist ∧
    (owHarness x shift8 b).bal = b.bal ∧ (owHarness x shift8 b).cw = b.cw ∧ (owHarness x shift8 b).fen = b.fen ∧ (owHarness x shift8 b).cap = b.cap ∧
    (owHarness x shift8 b).spi = b.spi := by
  unfold owHarness; simp
@[simp] theorem owJudge_keeps (x : OwTest) (b : Block) :
    (owJudge x b).lc = b.lc ∧ (owJudge x b).fw = b.fw ∧ (owJudge x b).cfg = b.cfg ∧ (owJudge x b).clock.ticks = b.clock.ticks ∧
    (owJudge x b).clock.running = b.clock.running ∧ (owJudge x b).pins = b.pins ∧ (owJudge x b).pwr.rest = b.pwr.rest ∧ (owJudge x b).act = b.act ∧
    (owJudge x b).recs = b.recs ∧ (owJudge x b).out = b.out ∧ (owJudge x b).bist = b.bist ∧ (owJudge x b).bal = b.bal ∧ (owJudge x b).cw = b.cw ∧
    (owJudge x b).fen = b.fen ∧ (owJudge x b).cap = b.cap ∧ (owJudge x b).spi = b.spi := by
  unfold owJudge; simp
@[simp] theorem owEval_keeps (b : Block) :
    (owEval b).lc = b.lc ∧ (owEval b).fw = b.fw ∧ (owEval b).cfg = b.cfg ∧ (owEval b).clock.ticks = b.clock.ticks ∧
    (owEval b).clock.running = b.clock.running ∧ (owEval b).pins = b.pins ∧ (owEval b).pwr.rest = b.pwr.rest ∧ (owEval b).act = b.act ∧
    (owEval b).recs = b.recs ∧ (owEval b).out = b.out ∧ (owEval b).bist = b.bist ∧ (owEval b).bal = b.bal ∧ (owEval b).cw = b.cw ∧
    (owEval b).fen = b.fen ∧ (owEval b).cap = b.cap ∧ (owEval b).spi = b.spi := by
  unfold owEval; (try dsimp only); (repeat' split) <;> simp
@[simp] theorem chkCycle_keeps (b : Block) :
    (chkCycle b).lc = b.lc ∧ (chkCycle b).fw = b.fw ∧ (chkCycle b).cfg = b.cfg ∧ (chkCycle b).clock.ticks = b.clock.ticks ∧
    (chkCycle b).clock.running = b.clock.running ∧ (chkCycle b).pins = b.pins ∧ (chkCycle b).pwr.rest = b.pwr.rest ∧ (chkCycle b).act = b.act ∧
    (chkCycle b).recs = b.recs ∧ (chkCycle b).out = b.out ∧ (chkCycle b).bist = b.bist ∧ (chkCycle b).bal = b.bal ∧ (chkCycle b).cw = b.cw ∧
    (chkCycle b).fen = b.fen ∧ (chkCycle b).cap = b.cap ∧ (chkCycle b).spi = b.spi := by
  unfold chkCycle; simp
@[simp] theorem checkConversion_keeps (ks : List CheckInput) (b : Block) :
    (checkConversion ks b).lc = b.lc ∧ (checkConversion ks b).fw = b.fw ∧ (checkConversion ks b).cfg = b.cfg ∧
    (checkConversion ks b).clock.ticks = b.clock.ticks ∧ (checkConversion ks b).clock.running = b.clock.running ∧
    (checkConversion ks b).pins = b.pins ∧ (checkConversion ks b).pwr.rest = b.pwr.rest ∧ (checkConversion ks b).act = b.act ∧
    (checkConversion ks b).recs = b.recs ∧ (checkConversion ks b).out = b.out ∧ (checkConversion ks b).bist = b.bist ∧
    (checkConversion ks b).bal = b.bal ∧ (checkConversion ks b).cw = b.cw ∧ (checkConversion ks b).fen = b.fen ∧ (checkConversion ks b).cap = b.cap ∧
    (checkConversion ks b).spi = b.spi := by
  unfold checkConversion; simp
@[simp] theorem chkJudge_keeps (p : ChkPend) (b : Block) :
    (chkJudge p b).lc = b.lc ∧ (chkJudge p b).fw = b.fw ∧ (chkJudge p b).cfg = b.cfg ∧ (chkJudge p b).clock.ticks = b.clock.ticks ∧
    (chkJudge p b).clock.running = b.clock.running ∧ (chkJudge p b).pins = b.pins ∧ (chkJudge p b).pwr.rest = b.pwr.rest ∧
    (chkJudge p b).act = b.act ∧ (chkJudge p b).recs = b.recs ∧ (chkJudge p b).out = b.out ∧ (chkJudge p b).bist = b.bist ∧
    (chkJudge p b).bal = b.bal ∧ (chkJudge p b).cw = b.cw ∧ (chkJudge p b).fen = b.fen ∧ (chkJudge p b).cap = b.cap ∧ (chkJudge p b).spi = b.spi := by
  unfold chkJudge; simp
@[simp] theorem chkEval_keeps (b : Block) :
    (chkEval b).lc = b.lc ∧ (chkEval b).fw = b.fw ∧ (chkEval b).cfg = b.cfg ∧ (chkEval b).clock.ticks = b.clock.ticks ∧
    (chkEval b).clock.running = b.clock.running ∧ (chkEval b).pins = b.pins ∧ (chkEval b).pwr.rest = b.pwr.rest ∧ (chkEval b).act = b.act ∧
    (chkEval b).recs = b.recs ∧ (chkEval b).out = b.out ∧ (chkEval b).bist = b.bist ∧ (chkEval b).bal = b.bal ∧ (chkEval b).cw = b.cw ∧
    (chkEval b).fen = b.fen ∧ (chkEval b).cap = b.cap ∧ (chkEval b).spi = b.spi := by
  unfold chkEval; simp
@[simp] theorem judgeLast_keeps (b : Block) :
    (judgeLast b).lc = b.lc ∧ (judgeLast b).fw = b.fw ∧ (judgeLast b).cfg = b.cfg ∧ (judgeLast b).clock.ticks = b.clock.ticks ∧
    (judgeLast b).clock.running = b.clock.running ∧ (judgeLast b).pins = b.pins ∧ (judgeLast b).pwr.rest = b.pwr.rest ∧ (judgeLast b).act = b.act ∧
    (judgeLast b).recs = b.recs ∧ (judgeLast b).out = b.out ∧ (judgeLast b).bist = b.bist ∧ (judgeLast b).bal = b.bal ∧ (judgeLast b).cw = b.cw ∧
    (judgeLast b).fen = b.fen ∧ (judgeLast b).cap = b.cap ∧ (judgeLast b).spi = b.spi := by
  unfold judgeLast; simp
@[simp] theorem outputFormed_keeps (codes : List Int) (b : Block) :
    (outputFormed codes b).lc = b.lc ∧ (outputFormed codes b).fw = b.fw ∧ (outputFormed codes b).cfg = b.cfg ∧
    (outputFormed codes b).clock.ticks = b.clock.ticks ∧ (outputFormed codes b).clock.running = b.clock.running ∧
    (outputFormed codes b).pins = b.pins ∧ (outputFormed codes b).pwr.rest = b.pwr.rest ∧ (outputFormed codes b).act = b.act ∧
    (outputFormed codes b).out = b.out ∧ (outputFormed codes b).bist = b.bist ∧ (outputFormed codes b).bal = b.bal ∧
    (outputFormed codes b).cw = b.cw ∧ (outputFormed codes b).fen = b.fen ∧ (outputFormed codes b).cap = b.cap ∧
    (outputFormed codes b).spi = b.spi := by
  unfold outputFormed; simp
@[simp] theorem levelLater_keeps (i : Nat) (on : Bool) (det : Nat) (b : Block) :
    (levelLater i on det b).lc = b.lc ∧ (levelLater i on det b).fw = b.fw ∧ (levelLater i on det b).cfg = b.cfg ∧
    (levelLater i on det b).clock.ticks = b.clock.ticks ∧ (levelLater i on det b).clock.running = b.clock.running ∧
    (levelLater i on det b).pins = b.pins ∧ (levelLater i on det b).pwr.rest = b.pwr.rest ∧ (levelLater i on det b).act = b.act ∧
    (levelLater i on det b).recs = b.recs ∧ (levelLater i on det b).out = b.out ∧ (levelLater i on det b).bist = b.bist ∧
    (levelLater i on det b).bal = b.bal ∧ (levelLater i on det b).cw = b.cw ∧ (levelLater i on det b).fen = b.fen ∧
    (levelLater i on det b).cap = b.cap ∧ (levelLater i on det b).spi = b.spi := by
  unfold levelLater; simp
@[simp] theorem levelsTick_keeps (b : Block) :
    (levelsTick b).lc = b.lc ∧ (levelsTick b).fw = b.fw ∧ (levelsTick b).cfg = b.cfg ∧ (levelsTick b).clock.ticks = b.clock.ticks ∧
    (levelsTick b).clock.running = b.clock.running ∧ (levelsTick b).pins = b.pins ∧ (levelsTick b).pwr.rest = b.pwr.rest ∧
    (levelsTick b).act = b.act ∧ (levelsTick b).recs = b.recs ∧ (levelsTick b).out = b.out ∧ (levelsTick b).bist = b.bist ∧
    (levelsTick b).bal = b.bal ∧ (levelsTick b).cw = b.cw ∧ (levelsTick b).fen = b.fen ∧ (levelsTick b).cap = b.cap ∧ (levelsTick b).spi = b.spi := by
  unfold levelsTick; simp
@[simp] theorem checkRefCross_keeps (ks : List RefCross) (b : Block) :
    (checkRefCross ks b).lc = b.lc ∧ (checkRefCross ks b).fw = b.fw ∧ (checkRefCross ks b).cfg = b.cfg ∧
    (checkRefCross ks b).clock.ticks = b.clock.ticks ∧ (checkRefCross ks b).clock.running = b.clock.running ∧ (checkRefCross ks b).pins = b.pins ∧
    (checkRefCross ks b).pwr.rest = b.pwr.rest ∧ (checkRefCross ks b).act = b.act ∧ (checkRefCross ks b).recs = b.recs ∧
    (checkRefCross ks b).out = b.out ∧ (checkRefCross ks b).bist = b.bist ∧ (checkRefCross ks b).bal = b.bal ∧ (checkRefCross ks b).cw = b.cw ∧
    (checkRefCross ks b).fen = b.fen ∧ (checkRefCross ks b).cap = b.cap ∧ (checkRefCross ks b).spi = b.spi := by
  unfold checkRefCross; simp
@[simp] theorem driftCheck_keeps (b : Block) :
    (driftCheck b).lc = b.lc ∧ (driftCheck b).fw = b.fw ∧ (driftCheck b).cfg = b.cfg ∧ (driftCheck b).clock.ticks = b.clock.ticks ∧
    (driftCheck b).clock.running = b.clock.running ∧ (driftCheck b).pins = b.pins ∧ (driftCheck b).pwr.rest = b.pwr.rest ∧
    (driftCheck b).act = b.act ∧ (driftCheck b).recs = b.recs ∧ (driftCheck b).out = b.out ∧ (driftCheck b).bist = b.bist ∧
    (driftCheck b).bal = b.bal ∧ (driftCheck b).cw = b.cw ∧ (driftCheck b).fen = b.fen ∧ (driftCheck b).cap = b.cap ∧ (driftCheck b).spi = b.spi := by
  unfold driftCheck; simp
@[simp] theorem auxTake_keeps (x : AuxInput) (b : Block) :
    (auxTake x b).lc = b.lc ∧ (auxTake x b).fw = b.fw ∧ (auxTake x b).cfg = b.cfg ∧ (auxTake x b).clock.ticks = b.clock.ticks ∧
    (auxTake x b).clock.running = b.clock.running ∧ (auxTake x b).pins = b.pins ∧ (auxTake x b).pwr.rest = b.pwr.rest ∧ (auxTake x b).act = b.act ∧
    (auxTake x b).recs = b.recs ∧ (auxTake x b).out = b.out ∧ (auxTake x b).bist = b.bist ∧ (auxTake x b).bal = b.bal ∧ (auxTake x b).cw = b.cw ∧
    (auxTake x b).fen = b.fen ∧ (auxTake x b).cap = b.cap ∧ (auxTake x b).spi = b.spi := by
  unfold auxTake; simp
@[simp] theorem auxTier_keeps (x : AuxInput) (b : Block) :
    (auxTier x b).lc = b.lc ∧ (auxTier x b).fw = b.fw ∧ (auxTier x b).cfg = b.cfg ∧ (auxTier x b).clock.ticks = b.clock.ticks ∧
    (auxTier x b).clock.running = b.clock.running ∧ (auxTier x b).pins = b.pins ∧ (auxTier x b).pwr.rest = b.pwr.rest ∧ (auxTier x b).act = b.act ∧
    (auxTier x b).recs = b.recs ∧ (auxTier x b).out = b.out ∧ (auxTier x b).bist = b.bist ∧ (auxTier x b).bal = b.bal ∧ (auxTier x b).cw = b.cw ∧
    (auxTier x b).fen = b.fen ∧ (auxTier x b).cap = b.cap ∧ (auxTier x b).spi = b.spi := by
  unfold auxTier; simp
@[simp] theorem auxLate_keeps (b : Block) :
    (auxLate b).lc = b.lc ∧ (auxLate b).fw = b.fw ∧ (auxLate b).cfg = b.cfg ∧ (auxLate b).clock.ticks = b.clock.ticks ∧
    (auxLate b).clock.running = b.clock.running ∧ (auxLate b).pins = b.pins ∧ (auxLate b).pwr.rest = b.pwr.rest ∧ (auxLate b).act = b.act ∧
    (auxLate b).recs = b.recs ∧ (auxLate b).out = b.out ∧ (auxLate b).bist = b.bist ∧ (auxLate b).bal = b.bal ∧ (auxLate b).cw = b.cw ∧
    (auxLate b).fen = b.fen ∧ (auxLate b).cap = b.cap ∧ (auxLate b).spi = b.spi := by
  unfold auxLate; simp
@[simp] theorem stackCheck_keeps (v1 v2 : Nat) (b : Block) :
    (stackCheck v1 v2 b).lc = b.lc ∧ (stackCheck v1 v2 b).fw = b.fw ∧ (stackCheck v1 v2 b).cfg = b.cfg ∧
    (stackCheck v1 v2 b).clock.ticks = b.clock.ticks ∧ (stackCheck v1 v2 b).clock.running = b.clock.running ∧ (stackCheck v1 v2 b).pins = b.pins ∧
    (stackCheck v1 v2 b).pwr.rest = b.pwr.rest ∧ (stackCheck v1 v2 b).act = b.act ∧ (stackCheck v1 v2 b).recs = b.recs ∧
    (stackCheck v1 v2 b).out = b.out ∧ (stackCheck v1 v2 b).bist = b.bist ∧ (stackCheck v1 v2 b).bal = b.bal ∧ (stackCheck v1 v2 b).cw = b.cw ∧
    (stackCheck v1 v2 b).fen = b.fen ∧ (stackCheck v1 v2 b).cap = b.cap ∧ (stackCheck v1 v2 b).spi = b.spi := by
  unfold stackCheck; simp
@[simp] theorem tierSumCheck_keeps (x : AuxInput) (b : Block) :
    (tierSumCheck x b).lc = b.lc ∧ (tierSumCheck x b).fw = b.fw ∧ (tierSumCheck x b).cfg = b.cfg ∧ (tierSumCheck x b).clock.ticks = b.clock.ticks ∧
    (tierSumCheck x b).clock.running = b.clock.running ∧ (tierSumCheck x b).pins = b.pins ∧ (tierSumCheck x b).pwr.rest = b.pwr.rest ∧
    (tierSumCheck x b).act = b.act ∧ (tierSumCheck x b).recs = b.recs ∧ (tierSumCheck x b).out = b.out ∧ (tierSumCheck x b).bist = b.bist ∧
    (tierSumCheck x b).bal = b.bal ∧ (tierSumCheck x b).cw = b.cw ∧ (tierSumCheck x b).fen = b.fen ∧ (tierSumCheck x b).cap = b.cap ∧
    (tierSumCheck x b).spi = b.spi := by
  unfold tierSumCheck; simp
@[simp] theorem auxDone_keeps (xs : List AuxInput) (b : Block) :
    (auxDone xs b).lc = b.lc ∧ (auxDone xs b).fw = b.fw ∧ (auxDone xs b).cfg = b.cfg ∧ (auxDone xs b).clock.ticks = b.clock.ticks ∧
    (auxDone xs b).clock.running = b.clock.running ∧ (auxDone xs b).pins = b.pins ∧ (auxDone xs b).pwr.rest = b.pwr.rest ∧
    (auxDone xs b).act = b.act ∧ (auxDone xs b).recs = b.recs ∧ (auxDone xs b).out = b.out ∧ (auxDone xs b).bist = b.bist ∧
    (auxDone xs b).bal = b.bal ∧ (auxDone xs b).cw = b.cw ∧ (auxDone xs b).fen = b.fen ∧ (auxDone xs b).cap = b.cap ∧ (auxDone xs b).spi = b.spi := by
  unfold auxDone; (try dsimp only); (repeat' split) <;> simp
@[simp] theorem auxRecord_keeps (first dev : Nat) (b : Block) :
    (auxRecord first dev b).lc = b.lc ∧ (auxRecord first dev b).fw = b.fw ∧ (auxRecord first dev b).cfg = b.cfg ∧
    (auxRecord first dev b).clock.ticks = b.clock.ticks ∧ (auxRecord first dev b).clock.running = b.clock.running ∧
    (auxRecord first dev b).pins = b.pins ∧ (auxRecord first dev b).pwr.rest = b.pwr.rest ∧ (auxRecord first dev b).act = b.act ∧
    (auxRecord first dev b).out = b.out ∧ (auxRecord first dev b).bist = b.bist ∧ (auxRecord first dev b).bal = b.bal ∧
    (auxRecord first dev b).cw = b.cw ∧ (auxRecord first dev b).fen = b.fen ∧ (auxRecord first dev b).cap = b.cap ∧
    (auxRecord first dev b).spi = b.spi := by
  unfold auxRecord; simp
@[simp] theorem auxClose_keeps (first dev : Nat) (b : Block) :
    (auxClose first dev b).lc = b.lc ∧ (auxClose first dev b).fw = b.fw ∧ (auxClose first dev b).cfg = b.cfg ∧
    (auxClose first dev b).clock.ticks = b.clock.ticks ∧ (auxClose first dev b).clock.running = b.clock.running ∧
    (auxClose first dev b).pins = b.pins ∧ (auxClose first dev b).pwr.rest = b.pwr.rest ∧ (auxClose first dev b).act = b.act ∧
    (auxClose first dev b).out = b.out ∧ (auxClose first dev b).bist = b.bist ∧ (auxClose first dev b).bal = b.bal ∧
    (auxClose first dev b).cw = b.cw ∧ (auxClose first dev b).fen = b.fen ∧ (auxClose first dev b).cap = b.cap ∧
    (auxClose first dev b).spi = b.spi := by
  unfold auxClose; simp
@[simp] theorem chainEnds_keeps (jump : Bool) (b : Block) :
    (chainEnds jump b).lc = b.lc ∧ (chainEnds jump b).fw = b.fw ∧ (chainEnds jump b).cfg = b.cfg ∧ (chainEnds jump b).clock.ticks = b.clock.ticks ∧
    (chainEnds jump b).clock.running = b.clock.running ∧ (chainEnds jump b).pins = b.pins ∧ (chainEnds jump b).pwr.rest = b.pwr.rest ∧
    (chainEnds jump b).act = b.act ∧ (chainEnds jump b).recs = b.recs ∧ (chainEnds jump b).out = b.out ∧ (chainEnds jump b).bist = b.bist ∧
    (chainEnds jump b).bal = b.bal ∧ (chainEnds jump b).fen = b.fen ∧ (chainEnds jump b).cap = b.cap ∧ (chainEnds jump b).spi = b.spi := by
  unfold chainEnds; simp
@[simp] theorem formJobs_keeps (b : Block) :
    (formJobs b).lc = b.lc ∧ (formJobs b).fw = b.fw ∧ (formJobs b).cfg = b.cfg ∧ (formJobs b).clock.ticks = b.clock.ticks ∧
    (formJobs b).clock.running = b.clock.running ∧ (formJobs b).pins = b.pins ∧ (formJobs b).pwr.rest = b.pwr.rest ∧ (formJobs b).act = b.act ∧
    (formJobs b).recs = b.recs ∧ (formJobs b).out = b.out ∧ (formJobs b).bist = b.bist ∧ (formJobs b).bal = b.bal ∧ (formJobs b).cw = b.cw ∧
    (formJobs b).fen = b.fen ∧ (formJobs b).cap = b.cap ∧ (formJobs b).spi = b.spi := by
  unfold formJobs; simp
@[simp] theorem jobsOvertaken_keeps (b : Block) :
    (jobsOvertaken b).lc = b.lc ∧ (jobsOvertaken b).fw = b.fw ∧ (jobsOvertaken b).cfg = b.cfg ∧ (jobsOvertaken b).clock.ticks = b.clock.ticks ∧
    (jobsOvertaken b).clock.running = b.clock.running ∧ (jobsOvertaken b).pins = b.pins ∧ (jobsOvertaken b).pwr.rest = b.pwr.rest ∧
    (jobsOvertaken b).act = b.act ∧ (jobsOvertaken b).recs = b.recs ∧ (jobsOvertaken b).out = b.out ∧ (jobsOvertaken b).bist = b.bist ∧
    (jobsOvertaken b).bal = b.bal ∧ (jobsOvertaken b).cw = b.cw ∧ (jobsOvertaken b).fen = b.fen ∧ (jobsOvertaken b).cap = b.cap ∧
    (jobsOvertaken b).spi = b.spi := by
  unfold jobsOvertaken; simp
@[simp] theorem chainAverages_keeps (x : ChainInput) (j : ChainJob) (b : Block) :
    (chainAverages x j b).lc = b.lc ∧ (chainAverages x j b).fw = b.fw ∧ (chainAverages x j b).cfg = b.cfg ∧
    (chainAverages x j b).clock.ticks = b.clock.ticks ∧ (chainAverages x j b).clock.running = b.clock.running ∧ (chainAverages x j b).pins = b.pins ∧
    (chainAverages x j b).pwr.rest = b.pwr.rest ∧ (chainAverages x j b).act = b.act ∧ (chainAverages x j b).recs = b.recs ∧
    (chainAverages x j b).out = b.out ∧ (chainAverages x j b).bist = b.bist ∧ (chainAverages x j b).cw = b.cw ∧ (chainAverages x j b).fen = b.fen ∧
    (chainAverages x j b).cap = b.cap ∧ (chainAverages x j b).spi = b.spi := by
  unfold chainAverages; simp
@[simp] theorem putDelays_keeps (ds : List PathDelay) (b : Block) :
    (putDelays ds b).lc = b.lc ∧ (putDelays ds b).fw = b.fw ∧ (putDelays ds b).cfg = b.cfg ∧ (putDelays ds b).clock.ticks = b.clock.ticks ∧
    (putDelays ds b).clock.running = b.clock.running ∧ (putDelays ds b).pins = b.pins ∧ (putDelays ds b).pwr.rest = b.pwr.rest ∧
    (putDelays ds b).act = b.act ∧ (putDelays ds b).recs = b.recs ∧ (putDelays ds b).out = b.out ∧ (putDelays ds b).bist = b.bist ∧
    (putDelays ds b).bal = b.bal ∧ (putDelays ds b).cw = b.cw ∧ (putDelays ds b).fen = b.fen ∧ (putDelays ds b).cap = b.cap ∧
    (putDelays ds b).spi = b.spi := by
  unfold putDelays; simp
@[simp] theorem alignRun_keeps (b : Block) :
    (alignRun b).lc = b.lc ∧ (alignRun b).fw = b.fw ∧ (alignRun b).cfg = b.cfg ∧ (alignRun b).clock.ticks = b.clock.ticks ∧
    (alignRun b).clock.running = b.clock.running ∧ (alignRun b).pins = b.pins ∧ (alignRun b).pwr.rest = b.pwr.rest ∧ (alignRun b).act = b.act ∧
    (alignRun b).recs = b.recs ∧ (alignRun b).out = b.out ∧ (alignRun b).bist = b.bist ∧ (alignRun b).bal = b.bal ∧ (alignRun b).cw = b.cw ∧
    (alignRun b).fen = b.fen ∧ (alignRun b).cap = b.cap ∧ (alignRun b).spi = b.spi := by
  unfold alignRun; simp
@[simp] theorem fineStart_keeps (b : Block) :
    (fineStart b).lc = b.lc ∧ (fineStart b).fw = b.fw ∧ (fineStart b).cfg = b.cfg ∧ (fineStart b).clock.ticks = b.clock.ticks ∧
    (fineStart b).clock.running = b.clock.running ∧ (fineStart b).pins = b.pins ∧ (fineStart b).pwr.rest = b.pwr.rest ∧ (fineStart b).act = b.act ∧
    (fineStart b).recs = b.recs ∧ (fineStart b).out = b.out ∧ (fineStart b).bist = b.bist ∧ (fineStart b).bal = b.bal ∧ (fineStart b).cw = b.cw ∧
    (fineStart b).fen = b.fen ∧ (fineStart b).cap = b.cap ∧ (fineStart b).spi = b.spi := by
  unfold fineStart; simp
@[simp] theorem fineDone_keeps (b : Block) :
    (fineDone b).lc = b.lc ∧ (fineDone b).fw = b.fw ∧ (fineDone b).cfg = b.cfg ∧ (fineDone b).clock.ticks = b.clock.ticks ∧
    (fineDone b).clock.running = b.clock.running ∧ (fineDone b).pins = b.pins ∧ (fineDone b).pwr.rest = b.pwr.rest ∧ (fineDone b).act = b.act ∧
    (fineDone b).recs = b.recs ∧ (fineDone b).out = b.out ∧ (fineDone b).bist = b.bist ∧ (fineDone b).bal = b.bal ∧ (fineDone b).cw = b.cw ∧
    (fineDone b).fen = b.fen ∧ (fineDone b).cap = b.cap ∧ (fineDone b).spi = b.spi := by
  unfold fineDone; simp
@[simp] theorem fineApply_keeps (ds : List PathDelay) (b : Block) :
    (fineApply ds b).lc = b.lc ∧ (fineApply ds b).fw = b.fw ∧ (fineApply ds b).cfg = b.cfg ∧ (fineApply ds b).clock.ticks = b.clock.ticks ∧
    (fineApply ds b).clock.running = b.clock.running ∧ (fineApply ds b).pins = b.pins ∧ (fineApply ds b).pwr.rest = b.pwr.rest ∧
    (fineApply ds b).act = b.act ∧ (fineApply ds b).recs = b.recs ∧ (fineApply ds b).out = b.out ∧ (fineApply ds b).bist = b.bist ∧
    (fineApply ds b).bal = b.bal ∧ (fineApply ds b).cw = b.cw ∧ (fineApply ds b).fen = b.fen ∧ (fineApply ds b).cap = b.cap ∧
    (fineApply ds b).spi = b.spi := by
  unfold fineApply; (try dsimp only); (repeat' split) <;> simp
@[simp] theorem fineAbort_keeps (b : Block) :
    (fineAbort b).lc = b.lc ∧ (fineAbort b).fw = b.fw ∧ (fineAbort b).cfg = b.cfg ∧ (fineAbort b).clock.ticks = b.clock.ticks ∧
    (fineAbort b).clock.running = b.clock.running ∧ (fineAbort b).pins = b.pins ∧ (fineAbort b).pwr.rest = b.pwr.rest ∧ (fineAbort b).act = b.act ∧
    (fineAbort b).recs = b.recs ∧ (fineAbort b).out = b.out ∧ (fineAbort b).bist = b.bist ∧ (fineAbort b).bal = b.bal ∧ (fineAbort b).cw = b.cw ∧
    (fineAbort b).fen = b.fen ∧ (fineAbort b).cap = b.cap ∧ (fineAbort b).spi = b.spi := by
  unfold fineAbort; simp
@[simp] theorem alignTiers_keeps (ts : List Nat) (b : Block) :
    (alignTiers ts b).lc = b.lc ∧ (alignTiers ts b).fw = b.fw ∧ (alignTiers ts b).cfg = b.cfg ∧ (alignTiers ts b).clock.ticks = b.clock.ticks ∧
    (alignTiers ts b).clock.running = b.clock.running ∧ (alignTiers ts b).pins = b.pins ∧ (alignTiers ts b).pwr.rest = b.pwr.rest ∧
    (alignTiers ts b).act = b.act ∧ (alignTiers ts b).recs = b.recs ∧ (alignTiers ts b).out = b.out ∧ (alignTiers ts b).bist = b.bist ∧
    (alignTiers ts b).bal = b.bal ∧ (alignTiers ts b).cw = b.cw ∧ (alignTiers ts b).fen = b.fen ∧ (alignTiers ts b).cap = b.cap ∧
    (alignTiers ts b).spi = b.spi := by
  unfold alignTiers; simp
@[simp] theorem alignStart_keeps (b : Block) :
    (alignStart b).lc = b.lc ∧ (alignStart b).fw = b.fw ∧ (alignStart b).cfg = b.cfg ∧ (alignStart b).clock.ticks = b.clock.ticks ∧
    (alignStart b).clock.running = b.clock.running ∧ (alignStart b).pins = b.pins ∧ (alignStart b).pwr.rest = b.pwr.rest ∧
    (alignStart b).act = b.act ∧ (alignStart b).recs = b.recs ∧ (alignStart b).out = b.out ∧ (alignStart b).bist = b.bist ∧
    (alignStart b).bal = b.bal ∧ (alignStart b).cw = b.cw ∧ (alignStart b).fen = b.fen ∧ (alignStart b).cap = b.cap ∧ (alignStart b).spi = b.spi := by
  unfold alignStart; simp
@[simp] theorem alignDone_keeps (ds : List PathDelay) (b : Block) :
    (alignDone ds b).lc = b.lc ∧ (alignDone ds b).fw = b.fw ∧ (alignDone ds b).cfg = b.cfg ∧ (alignDone ds b).clock.ticks = b.clock.ticks ∧
    (alignDone ds b).clock.running = b.clock.running ∧ (alignDone ds b).pins = b.pins ∧ (alignDone ds b).pwr.rest = b.pwr.rest ∧
    (alignDone ds b).act = b.act ∧ (alignDone ds b).recs = b.recs ∧ (alignDone ds b).out = b.out ∧ (alignDone ds b).bist = b.bist ∧
    (alignDone ds b).bal = b.bal ∧ (alignDone ds b).cw = b.cw ∧ (alignDone ds b).fen = b.fen ∧ (alignDone ds b).cap = b.cap ∧
    (alignDone ds b).spi = b.spi := by
  unfold alignDone; simp

end Sys2Proof.Machine
end

