-- ==== Sys2Proof/Laws/KeepImpedance.lean ====
section
/-! SUPPORT. What each operation of Machine/Impedance.lean leaves alone: a `…_keeps` lemma lists the fields of the block that read after it as before. -/

namespace Sys2Proof.Machine

set_option linter.all false

@[simp] theorem putSweep_keeps (w : Option Sweep) (b : Block) :
    (putSweep w b).lc = b.lc ∧ (putSweep w b).fw = b.fw ∧ (putSweep w b).cfg = b.cfg ∧ (putSweep w b).clock.ticks = b.clock.ticks ∧
    (putSweep w b).clock.running = b.clock.running ∧ (putSweep w b).pins = b.pins ∧ (putSweep w b).pwr.rest = b.pwr.rest ∧
    (putSweep w b).act = b.act ∧ (putSweep w b).recs = b.recs ∧ (putSweep w b).out = b.out ∧ (putSweep w b).bist = b.bist ∧
    (putSweep w b).bal = b.bal ∧ (putSweep w b).cw = b.cw ∧ (putSweep w b).fen = b.fen ∧ (putSweep w b).cap = b.cap ∧ (putSweep w b).spi = b.spi := by
  unfold putSweep; simp
@[simp] theorem endExcite_keeps (n : Nat) (b : Block) :
    (endExcite n b).lc = b.lc ∧ (endExcite n b).fw = b.fw ∧ (endExcite n b).cfg = b.cfg ∧ (endExcite n b).clock.ticks = b.clock.ticks ∧
    (endExcite n b).clock.running = b.clock.running ∧ (endExcite n b).pins = b.pins ∧ (endExcite n b).pwr.rest = b.pwr.rest ∧
    (endExcite n b).act = b.act ∧ (endExcite n b).recs = b.recs ∧ (endExcite n b).out = b.out ∧ (endExcite n b).bist = b.bist ∧
    (endExcite n b).cw = b.cw ∧ (endExcite n b).fen = b.fen ∧ (endExcite n b).cap = b.cap ∧ (endExcite n b).spi = b.spi := by
  unfold endExcite; simp
@[simp] theorem endHolds_keeps (b : Block) :
    (endHolds b).lc = b.lc ∧ (endHolds b).fw = b.fw ∧ (endHolds b).cfg = b.cfg ∧ (endHolds b).clock.ticks = b.clock.ticks ∧
    (endHolds b).clock.running = b.clock.running ∧ (endHolds b).pins = b.pins ∧ (endHolds b).pwr.rest = b.pwr.rest ∧ (endHolds b).act = b.act ∧
    (endHolds b).recs = b.recs ∧ (endHolds b).out = b.out ∧ (endHolds b).bist = b.bist ∧ (endHolds b).cw = b.cw ∧ (endHolds b).fen = b.fen ∧
    (endHolds b).cap = b.cap ∧ (endHolds b).spi = b.spi := by
  unfold endHolds; simp
@[simp] theorem startExcite_keeps (w : Sweep) (b : Block) :
    (startExcite w b).2.lc = b.lc ∧ (startExcite w b).2.fw = b.fw ∧ (startExcite w b).2.cfg = b.cfg ∧
    (startExcite w b).2.clock.ticks = b.clock.ticks ∧ (startExcite w b).2.clock.running = b.clock.running ∧ (startExcite w b).2.pins = b.pins ∧
    (startExcite w b).2.pwr.rest = b.pwr.rest ∧ (startExcite w b).2.act = b.act ∧ (startExcite w b).2.recs = b.recs ∧
    (startExcite w b).2.out = b.out ∧ (startExcite w b).2.bist = b.bist ∧ (startExcite w b).2.cw = b.cw ∧ (startExcite w b).2.fen = b.fen ∧
    (startExcite w b).2.cap = b.cap ∧ (startExcite w b).2.spi = b.spi := by
  unfold startExcite; simp
@[simp] theorem passStart_keeps (b : Block) :
    (passStart b).lc = b.lc ∧ (passStart b).fw = b.fw ∧ (passStart b).cfg = b.cfg ∧ (passStart b).clock.ticks = b.clock.ticks ∧
    (passStart b).clock.running = b.clock.running ∧ (passStart b).pins = b.pins ∧ (passStart b).pwr.rest = b.pwr.rest ∧ (passStart b).act = b.act ∧
    (passStart b).recs = b.recs ∧ (passStart b).out = b.out ∧ (passStart b).bist = b.bist ∧ (passStart b).cw = b.cw ∧ (passStart b).fen = b.fen ∧
    (passStart b).cap = b.cap ∧ (passStart b).spi = b.spi := by
  unfold passStart; (try dsimp only); (repeat' split) <;> simp
@[simp] theorem sweepEnd_keeps (w : Sweep) (result : Nat) (b : Block) :
    (sweepEnd w result b).lc = b.lc ∧ (sweepEnd w result b).fw = b.fw ∧ (sweepEnd w result b).cfg = b.cfg ∧
    (sweepEnd w result b).clock.ticks = b.clock.ticks ∧ (sweepEnd w result b).clock.running = b.clock.running ∧ (sweepEnd w result b).pins = b.pins ∧
    (sweepEnd w result b).pwr.rest = b.pwr.rest ∧ (sweepEnd w result b).act = b.act ∧ (sweepEnd w result b).recs = b.recs ∧
    (sweepEnd w result b).out = b.out ∧ (sweepEnd w result b).bist = b.bist ∧ (sweepEnd w result b).cw = b.cw ∧ (sweepEnd w result b).fen = b.fen ∧
    (sweepEnd w result b).cap = b.cap ∧ (sweepEnd w result b).spi = b.spi := by
  unfold sweepEnd; simp
@[simp] theorem sweepAbort_keeps (result : Nat) (b : Block) :
    (sweepAbort result b).lc = b.lc ∧ (sweepAbort result b).fw = b.fw ∧ (sweepAbort result b).cfg = b.cfg ∧
    (sweepAbort result b).clock.ticks = b.clock.ticks ∧ (sweepAbort result b).clock.running = b.clock.running ∧ (sweepAbort result b).pins = b.pins ∧
    (sweepAbort result b).pwr.rest = b.pwr.rest ∧ (sweepAbort result b).act = b.act ∧ (sweepAbort result b).recs = b.recs ∧
    (sweepAbort result b).out = b.out ∧ (sweepAbort result b).bist = b.bist ∧ (sweepAbort result b).cw = b.cw ∧ (sweepAbort result b).fen = b.fen ∧
    (sweepAbort result b).cap = b.cap ∧ (sweepAbort result b).spi = b.spi := by
  unfold sweepAbort; (try dsimp only); (repeat' split) <;> simp
@[simp] theorem passEnd_keeps (b : Block) :
    (passEnd b).lc = b.lc ∧ (passEnd b).fw = b.fw ∧ (passEnd b).cfg = b.cfg ∧ (passEnd b).clock.ticks = b.clock.ticks ∧
    (passEnd b).clock.running = b.clock.running ∧ (passEnd b).pins = b.pins ∧ (passEnd b).pwr.rest = b.pwr.rest ∧ (passEnd b).act = b.act ∧
    (passEnd b).recs = b.recs ∧ (passEnd b).out = b.out ∧ (passEnd b).bist = b.bist ∧ (passEnd b).cw = b.cw ∧ (passEnd b).fen = b.fen ∧
    (passEnd b).cap = b.cap ∧ (passEnd b).spi = b.spi := by
  unfold passEnd; (try dsimp only); (repeat' split) <;> simp
@[simp] theorem stopLowered_keeps (b : Block) :
    (stopLowered b).lc = b.lc ∧ (stopLowered b).fw = b.fw ∧ (stopLowered b).cfg = b.cfg ∧ (stopLowered b).clock.ticks = b.clock.ticks ∧
    (stopLowered b).clock.running = b.clock.running ∧ (stopLowered b).pins = b.pins ∧ (stopLowered b).pwr.rest = b.pwr.rest ∧
    (stopLowered b).act = b.act ∧ (stopLowered b).recs = b.recs ∧ (stopLowered b).out = b.out ∧ (stopLowered b).bist = b.bist ∧
    (stopLowered b).cw = b.cw ∧ (stopLowered b).fen = b.fen ∧ (stopLowered b).cap = b.cap ∧ (stopLowered b).spi = b.spi := by
  unfold stopLowered; (try dsimp only); (repeat' split) <;> simp
@[simp] theorem passNote_keeps (b : Block) :
    (passNote b).lc = b.lc ∧ (passNote b).fw = b.fw ∧ (passNote b).cfg = b.cfg ∧ (passNote b).clock.ticks = b.clock.ticks ∧
    (passNote b).clock.running = b.clock.running ∧ (passNote b).pins = b.pins ∧ (passNote b).pwr.rest = b.pwr.rest ∧ (passNote b).act = b.act ∧
    (passNote b).recs = b.recs ∧ (passNote b).out = b.out ∧ (passNote b).bist = b.bist ∧ (passNote b).bal = b.bal ∧ (passNote b).cw = b.cw ∧
    (passNote b).fen = b.fen ∧ (passNote b).cap = b.cap ∧ (passNote b).spi = b.spi := by
  unfold passNote; (try dsimp only); (repeat' split) <;> simp
@[simp] theorem demodIn_keeps (t d : Nat) (xs : List (List Int)) (b : Block) :
    (demodIn t d xs b).lc = b.lc ∧ (demodIn t d xs b).fw = b.fw ∧ (demodIn t d xs b).cfg = b.cfg ∧ (demodIn t d xs b).clock.ticks = b.clock.ticks ∧
    (demodIn t d xs b).clock.running = b.clock.running ∧ (demodIn t d xs b).pins = b.pins ∧ (demodIn t d xs b).pwr.rest = b.pwr.rest ∧
    (demodIn t d xs b).act = b.act ∧ (demodIn t d xs b).recs = b.recs ∧ (demodIn t d xs b).out = b.out ∧ (demodIn t d xs b).bist = b.bist ∧
    (demodIn t d xs b).bal = b.bal ∧ (demodIn t d xs b).cw = b.cw ∧ (demodIn t d xs b).fen = b.fen ∧ (demodIn t d xs b).cap = b.cap ∧
    (demodIn t d xs b).spi = b.spi := by
  unfold demodIn; simp
@[simp] theorem sweepRequest_keeps (s : Nat) (q : Option Nat) (b : Block) :
    (sweepRequest s q b).lc = b.lc ∧ (sweepRequest s q b).fw = b.fw ∧ (sweepRequest s q b).cfg = b.cfg ∧
    (sweepRequest s q b).clock.ticks = b.clock.ticks ∧ (sweepRequest s q b).clock.running = b.clock.running ∧ (sweepRequest s q b).pins = b.pins ∧
    (sweepRequest s q b).pwr.rest = b.pwr.rest ∧ (sweepRequest s q b).act = b.act ∧ (sweepRequest s q b).recs = b.recs ∧
    (sweepRequest s q b).out = b.out ∧ (sweepRequest s q b).bist = b.bist ∧ (sweepRequest s q b).bal = b.bal ∧ (sweepRequest s q b).cw = b.cw ∧
    (sweepRequest s q b).fen = b.fen ∧ (sweepRequest s q b).cap = b.cap ∧ (sweepRequest s q b).spi = b.spi := by
  unfold sweepRequest; (try dsimp only); (repeat' split) <;> simp
@[simp] theorem nextStart_keeps (b : Block) :
    (nextStart b).lc = b.lc ∧ (nextStart b).fw = b.fw ∧ (nextStart b).cfg = b.cfg ∧ (nextStart b).clock.ticks = b.clock.ticks ∧
    (nextStart b).clock.running = b.clock.running ∧ (nextStart b).pins = b.pins ∧ (nextStart b).pwr.rest = b.pwr.rest ∧ (nextStart b).act = b.act ∧
    (nextStart b).recs = b.recs ∧ (nextStart b).out = b.out ∧ (nextStart b).bist = b.bist ∧ (nextStart b).bal = b.bal ∧ (nextStart b).cw = b.cw ∧
    (nextStart b).fen = b.fen ∧ (nextStart b).cap = b.cap ∧ (nextStart b).spi = b.spi := by
  unfold nextStart; (try dsimp only); (repeat' split) <;> simp
@[simp] theorem sweepAccept_keeps (b : Block) :
    (sweepAccept b).lc = b.lc ∧ (sweepAccept b).fw = b.fw ∧ (sweepAccept b).cfg = b.cfg ∧ (sweepAccept b).clock.ticks = b.clock.ticks ∧
    (sweepAccept b).clock.running = b.clock.running ∧ (sweepAccept b).pins = b.pins ∧ (sweepAccept b).pwr.rest = b.pwr.rest ∧
    (sweepAccept b).act = b.act ∧ (sweepAccept b).recs = b.recs ∧ (sweepAccept b).out = b.out ∧ (sweepAccept b).bist = b.bist ∧
    (sweepAccept b).bal = b.bal ∧ (sweepAccept b).cw = b.cw ∧ (sweepAccept b).fen = b.fen ∧ (sweepAccept b).cap = b.cap ∧
    (sweepAccept b).spi = b.spi := by
  unfold sweepAccept; (try dsimp only); (repeat' split) <;> simp
@[simp] theorem passRelease_keeps (b : Block) :
    (passRelease b).lc = b.lc ∧ (passRelease b).fw = b.fw ∧ (passRelease b).cfg = b.cfg ∧ (passRelease b).clock.ticks = b.clock.ticks ∧
    (passRelease b).clock.running = b.clock.running ∧ (passRelease b).pins = b.pins ∧ (passRelease b).pwr.rest = b.pwr.rest ∧
    (passRelease b).act = b.act ∧ (passRelease b).recs = b.recs ∧ (passRelease b).out = b.out ∧ (passRelease b).bist = b.bist ∧
    (passRelease b).cw = b.cw ∧ (passRelease b).fen = b.fen ∧ (passRelease b).cap = b.cap ∧ (passRelease b).spi = b.spi := by
  unfold passRelease; simp
@[simp] theorem sweepAborts_keeps (b : Block) :
    (sweepAborts b).lc = b.lc ∧ (sweepAborts b).fw = b.fw ∧ (sweepAborts b).cfg = b.cfg ∧ (sweepAborts b).clock.ticks = b.clock.ticks ∧
    (sweepAborts b).clock.running = b.clock.running ∧ (sweepAborts b).pins = b.pins ∧ (sweepAborts b).pwr.rest = b.pwr.rest ∧
    (sweepAborts b).act = b.act ∧ (sweepAborts b).recs = b.recs ∧ (sweepAborts b).out = b.out ∧ (sweepAborts b).bist = b.bist ∧
    (sweepAborts b).cw = b.cw ∧ (sweepAborts b).fen = b.fen ∧ (sweepAborts b).cap = b.cap ∧ (sweepAborts b).spi = b.spi := by
  unfold sweepAborts; simp
@[simp] theorem impTick_keeps (b : Block) :
    (impTick b).lc = b.lc ∧ (impTick b).fw = b.fw ∧ (impTick b).cfg = b.cfg ∧ (impTick b).clock.ticks = b.clock.ticks ∧
    (impTick b).clock.running = b.clock.running ∧ (impTick b).pins = b.pins ∧ (impTick b).pwr.rest = b.pwr.rest ∧ (impTick b).act = b.act ∧
    (impTick b).recs = b.recs ∧ (impTick b).out = b.out ∧ (impTick b).bist = b.bist ∧ (impTick b).cw = b.cw ∧ (impTick b).fen = b.fen ∧
    (impTick b).cap = b.cap ∧ (impTick b).spi = b.spi := by
  unfold impTick; simp
@[simp] theorem keepResult_keeps (d : PointDue) (ws : List Word) (b : Block) :
    (keepResult d ws b).lc = b.lc ∧ (keepResult d ws b).fw = b.fw ∧ (keepResult d ws b).cfg = b.cfg ∧
    (keepResult d ws b).clock.ticks = b.clock.ticks ∧ (keepResult d ws b).clock.running = b.clock.running ∧ (keepResult d ws b).pins = b.pins ∧
    (keepResult d ws b).pwr.rest = b.pwr.rest ∧ (keepResult d ws b).act = b.act ∧ (keepResult d ws b).recs = b.recs ∧
    (keepResult d ws b).out = b.out ∧ (keepResult d ws b).bist = b.bist ∧ (keepResult d ws b).bal = b.bal ∧ (keepResult d ws b).cw = b.cw ∧
    (keepResult d ws b).fen = b.fen ∧ (keepResult d ws b).cap = b.cap ∧ (keepResult d ws b).spi = b.spi := by
  unfold keepResult; simp
@[simp] theorem pointEnd_keeps (refs : List (List (Int × Int))) (cells : List PointCell) (b : Block) :
    (pointEnd refs cells b).lc = b.lc ∧ (pointEnd refs cells b).fw = b.fw ∧ (pointEnd refs cells b).cfg = b.cfg ∧
    (pointEnd refs cells b).clock.ticks = b.clock.ticks ∧ (pointEnd refs cells b).clock.running = b.clock.running ∧
    (pointEnd refs cells b).pins = b.pins ∧ (pointEnd refs cells b).pwr.rest = b.pwr.rest ∧ (pointEnd refs cells b).act = b.act ∧
    (pointEnd refs cells b).out = b.out ∧ (pointEnd refs cells b).bist = b.bist ∧ (pointEnd refs cells b).bal = b.bal ∧
    (pointEnd refs cells b).cw = b.cw ∧ (pointEnd refs cells b).fen = b.fen ∧ (pointEnd refs cells b).cap = b.cap ∧
    (pointEnd refs cells b).spi = b.spi := by
  unfold pointEnd; (try dsimp only); (repeat' split) <;> simp
@[simp] theorem writeImpCtl_keeps (v : Word) (b : Block) :
    (writeImpCtl v b).lc = b.lc ∧ (writeImpCtl v b).fw = b.fw ∧ (writeImpCtl v b).cfg = b.cfg ∧ (writeImpCtl v b).clock.ticks = b.clock.ticks ∧
    (writeImpCtl v b).clock.running = b.clock.running ∧ (writeImpCtl v b).pins = b.pins ∧ (writeImpCtl v b).pwr.rest = b.pwr.rest ∧
    (writeImpCtl v b).act = b.act ∧ (writeImpCtl v b).recs = b.recs ∧ (writeImpCtl v b).out = b.out ∧ (writeImpCtl v b).bist = b.bist ∧
    (writeImpCtl v b).bal = b.bal ∧ (writeImpCtl v b).cw = b.cw ∧ (writeImpCtl v b).fen = b.fen ∧ (writeImpCtl v b).cap = b.cap ∧
    (writeImpCtl v b).spi = b.spi := by
  unfold writeImpCtl; simp

end Sys2Proof.Machine
end

