-- ==== Sys2Proof/Laws/KeepReedline.lean ====
section
/-! SUPPORT. What each operation of Machine/Reedline.lean leaves alone: a `…_keeps` lemma lists the fields of the block that read after it as before. -/

namespace Sys2Proof.Machine

set_option linter.all false

@[simp] theorem putString_keeps (t : Nat) (x : RlString) (b : Block) :
    (putString t x b).lc = b.lc ∧ (putString t x b).fw = b.fw ∧ (putString t x b).cfg = b.cfg ∧ (putString t x b).clock.ticks = b.clock.ticks ∧
    (putString t x b).clock.running = b.clock.running ∧ (putString t x b).pins = b.pins ∧ (putString t x b).pwr.rest = b.pwr.rest ∧
    (putString t x b).act = b.act ∧ (putString t x b).recs = b.recs ∧ (putString t x b).out = b.out ∧ (putString t x b).bist = b.bist ∧
    (putString t x b).bal = b.bal ∧ (putString t x b).cw = b.cw ∧ (putString t x b).fen = b.fen ∧ (putString t x b).cap = b.cap ∧
    (putString t x b).spi = b.spi := by
  unfold putString; simp
@[simp] theorem walkNext_keeps (t : Nat) (b : Block) :
    (walkNext t b).lc = b.lc ∧ (walkNext t b).fw = b.fw ∧ (walkNext t b).cfg = b.cfg ∧ (walkNext t b).clock.ticks = b.clock.ticks ∧
    (walkNext t b).clock.running = b.clock.running ∧ (walkNext t b).pins = b.pins ∧ (walkNext t b).pwr.rest = b.pwr.rest ∧
    (walkNext t b).act = b.act ∧ (walkNext t b).recs = b.recs ∧ (walkNext t b).out = b.out ∧ (walkNext t b).bist = b.bist ∧
    (walkNext t b).bal = b.bal ∧ (walkNext t b).cw = b.cw ∧ (walkNext t b).fen = b.fen ∧ (walkNext t b).cap = b.cap ∧ (walkNext t b).spi = b.spi := by
  unfold walkNext; simp
@[simp] theorem walkSoon_keeps (t : Nat) (b : Block) :
    (walkSoon t b).lc = b.lc ∧ (walkSoon t b).fw = b.fw ∧ (walkSoon t b).cfg = b.cfg ∧ (walkSoon t b).clock.ticks = b.clock.ticks ∧
    (walkSoon t b).clock.running = b.clock.running ∧ (walkSoon t b).pins = b.pins ∧ (walkSoon t b).pwr.rest = b.pwr.rest ∧
    (walkSoon t b).act = b.act ∧ (walkSoon t b).recs = b.recs ∧ (walkSoon t b).out = b.out ∧ (walkSoon t b).bist = b.bist ∧
    (walkSoon t b).bal = b.bal ∧ (walkSoon t b).cw = b.cw ∧ (walkSoon t b).fen = b.fen ∧ (walkSoon t b).cap = b.cap ∧ (walkSoon t b).spi = b.spi := by
  unfold walkSoon; simp
@[simp] theorem runWalk_keeps (t : Nat) (x : StringRun) (b : Block) :
    (runWalk t x b).lc = b.lc ∧ (runWalk t x b).fw = b.fw ∧ (runWalk t x b).cfg = b.cfg ∧ (runWalk t x b).clock.ticks = b.clock.ticks ∧
    (runWalk t x b).clock.running = b.clock.running ∧ (runWalk t x b).pins = b.pins ∧ (runWalk t x b).pwr.rest = b.pwr.rest ∧
    (runWalk t x b).act = b.act ∧ (runWalk t x b).recs = b.recs ∧ (runWalk t x b).bist = b.bist ∧ (runWalk t x b).bal = b.bal ∧
    (runWalk t x b).cw = b.cw ∧ (runWalk t x b).fen = b.fen ∧ (runWalk t x b).cap = b.cap ∧ (runWalk t x b).spi = b.spi := by
  unfold runWalk; simp
@[simp] theorem runCycle_keeps (t : Nat) (x : StringRun) (b : Block) :
    (runCycle t x b).lc = b.lc ∧ (runCycle t x b).fw = b.fw ∧ (runCycle t x b).cfg = b.cfg ∧ (runCycle t x b).clock.ticks = b.clock.ticks ∧
    (runCycle t x b).clock.running = b.clock.running ∧ (runCycle t x b).pins = b.pins ∧ (runCycle t x b).pwr.rest = b.pwr.rest ∧
    (runCycle t x b).act = b.act ∧ (runCycle t x b).recs = b.recs ∧ (runCycle t x b).bist = b.bist ∧ (runCycle t x b).bal = b.bal ∧
    (runCycle t x b).cw = b.cw ∧ (runCycle t x b).fen = b.fen ∧ (runCycle t x b).cap = b.cap ∧ (runCycle t x b).spi = b.spi := by
  unfold runCycle; simp
@[simp] theorem stringsRun_keeps (xs : List StringRun) (b : Block) :
    (stringsRun xs b).lc = b.lc ∧ (stringsRun xs b).fw = b.fw ∧ (stringsRun xs b).cfg = b.cfg ∧ (stringsRun xs b).clock.ticks = b.clock.ticks ∧
    (stringsRun xs b).clock.running = b.clock.running ∧ (stringsRun xs b).pins = b.pins ∧ (stringsRun xs b).pwr.rest = b.pwr.rest ∧
    (stringsRun xs b).act = b.act ∧ (stringsRun xs b).recs = b.recs ∧ (stringsRun xs b).bist = b.bist ∧ (stringsRun xs b).bal = b.bal ∧
    (stringsRun xs b).cw = b.cw ∧ (stringsRun xs b).fen = b.fen ∧ (stringsRun xs b).cap = b.cap ∧ (stringsRun xs b).spi = b.spi := by
  unfold stringsRun; simp
@[simp] theorem countCheck_keeps (t count : Nat) (b : Block) :
    (countCheck t count b).lc = b.lc ∧ (countCheck t count b).fw = b.fw ∧ (countCheck t count b).cfg = b.cfg ∧
    (countCheck t count b).clock.ticks = b.clock.ticks ∧ (countCheck t count b).clock.running = b.clock.running ∧
    (countCheck t count b).pins = b.pins ∧ (countCheck t count b).pwr.rest = b.pwr.rest ∧ (countCheck t count b).act = b.act ∧
    (countCheck t count b).recs = b.recs ∧ (countCheck t count b).out = b.out ∧ (countCheck t count b).bist = b.bist ∧
    (countCheck t count b).bal = b.bal ∧ (countCheck t count b).cw = b.cw ∧ (countCheck t count b).fen = b.fen ∧ (countCheck t count b).cap = b.cap ∧
    (countCheck t count b).spi = b.spi := by
  unfold countCheck; simp
@[simp] theorem topoCheck_keeps (t : Nat) (b : Block) :
    (topoCheck t b).lc = b.lc ∧ (topoCheck t b).fw = b.fw ∧ (topoCheck t b).cfg = b.cfg ∧ (topoCheck t b).clock.ticks = b.clock.ticks ∧
    (topoCheck t b).clock.running = b.clock.running ∧ (topoCheck t b).pins = b.pins ∧ (topoCheck t b).pwr.rest = b.pwr.rest ∧
    (topoCheck t b).act = b.act ∧ (topoCheck t b).recs = b.recs ∧ (topoCheck t b).out = b.out ∧ (topoCheck t b).bist = b.bist ∧
    (topoCheck t b).bal = b.bal ∧ (topoCheck t b).cw = b.cw ∧ (topoCheck t b).fen = b.fen ∧ (topoCheck t b).cap = b.cap ∧
    (topoCheck t b).spi = b.spi := by
  unfold topoCheck; simp
@[simp] theorem surface_keeps (j : ChainJob) (t : Nat) (d : StringDue) (b : Block) :
    (surface j t d b).lc = b.lc ∧ (surface j t d b).fw = b.fw ∧ (surface j t d b).cfg = b.cfg ∧ (surface j t d b).clock.ticks = b.clock.ticks ∧
    (surface j t d b).clock.running = b.clock.running ∧ (surface j t d b).pins = b.pins ∧ (surface j t d b).pwr.rest = b.pwr.rest ∧
    (surface j t d b).act = b.act ∧ (surface j t d b).recs = b.recs ∧ (surface j t d b).out = b.out ∧ (surface j t d b).bist = b.bist ∧
    (surface j t d b).bal = b.bal ∧ (surface j t d b).cw = b.cw ∧ (surface j t d b).cap = b.cap ∧ (surface j t d b).spi = b.spi := by
  unfold surface; simp
@[simp] theorem deliver_keeps (j : ChainJob) (t : Nat) (d : StringDue) (b : Block) :
    (deliver j t d b).lc = b.lc ∧ (deliver j t d b).fw = b.fw ∧ (deliver j t d b).cfg = b.cfg ∧ (deliver j t d b).clock.ticks = b.clock.ticks ∧
    (deliver j t d b).clock.running = b.clock.running ∧ (deliver j t d b).pins = b.pins ∧ (deliver j t d b).pwr.rest = b.pwr.rest ∧
    (deliver j t d b).act = b.act ∧ (deliver j t d b).recs = b.recs ∧ (deliver j t d b).out = b.out ∧ (deliver j t d b).bist = b.bist ∧
    (deliver j t d b).bal = b.bal ∧ (deliver j t d b).cw = b.cw ∧ (deliver j t d b).cap = b.cap ∧ (deliver j t d b).spi = b.spi := by
  unfold deliver; simp
@[simp] theorem deliverAll_keeps (j : ChainJob) (b : Block) :
    (deliverAll j b).lc = b.lc ∧ (deliverAll j b).fw = b.fw ∧ (deliverAll j b).cfg = b.cfg ∧ (deliverAll j b).clock.ticks = b.clock.ticks ∧
    (deliverAll j b).clock.running = b.clock.running ∧ (deliverAll j b).pins = b.pins ∧ (deliverAll j b).pwr.rest = b.pwr.rest ∧
    (deliverAll j b).act = b.act ∧ (deliverAll j b).recs = b.recs ∧ (deliverAll j b).out = b.out ∧ (deliverAll j b).bist = b.bist ∧
    (deliverAll j b).bal = b.bal ∧ (deliverAll j b).cw = b.cw ∧ (deliverAll j b).cap = b.cap ∧ (deliverAll j b).spi = b.spi := by
  unfold deliverAll; simp
@[simp] theorem stringDrop_keeps (t : Nat) (soon : Bool) (b : Block) :
    (stringDrop t soon b).lc = b.lc ∧ (stringDrop t soon b).fw = b.fw ∧ (stringDrop t soon b).cfg = b.cfg ∧
    (stringDrop t soon b).clock.ticks = b.clock.ticks ∧ (stringDrop t soon b).clock.running = b.clock.running ∧ (stringDrop t soon b).pins = b.pins ∧
    (stringDrop t soon b).pwr.rest = b.pwr.rest ∧ (stringDrop t soon b).act = b.act ∧ (stringDrop t soon b).recs = b.recs ∧
    (stringDrop t soon b).out = b.out ∧ (stringDrop t soon b).bist = b.bist ∧ (stringDrop t soon b).bal = b.bal ∧ (stringDrop t soon b).cw = b.cw ∧
    (stringDrop t soon b).fen = b.fen ∧ (stringDrop t soon b).cap = b.cap ∧ (stringDrop t soon b).spi = b.spi := by
  unfold stringDrop; simp
@[simp] theorem rlLearn_keeps (b : Block) :
    (rlLearn b).lc = b.lc ∧ (rlLearn b).fw = b.fw ∧ (rlLearn b).cfg = b.cfg ∧ (rlLearn b).clock.ticks = b.clock.ticks ∧
    (rlLearn b).clock.running = b.clock.running ∧ (rlLearn b).pins = b.pins ∧ (rlLearn b).pwr.rest = b.pwr.rest ∧ (rlLearn b).act = b.act ∧
    (rlLearn b).recs = b.recs ∧ (rlLearn b).out = b.out ∧ (rlLearn b).bist = b.bist ∧ (rlLearn b).bal = b.bal ∧ (rlLearn b).cw = b.cw ∧
    (rlLearn b).fen = b.fen ∧ (rlLearn b).cap = b.cap ∧ (rlLearn b).spi = b.spi := by
  unfold rlLearn; simp
@[simp] theorem writeRlCtl_keeps (v : Word) (b : Block) :
    (writeRlCtl v b).lc = b.lc ∧ (writeRlCtl v b).fw = b.fw ∧ (writeRlCtl v b).cfg = b.cfg ∧ (writeRlCtl v b).clock.ticks = b.clock.ticks ∧
    (writeRlCtl v b).clock.running = b.clock.running ∧ (writeRlCtl v b).pins = b.pins ∧ (writeRlCtl v b).pwr.rest = b.pwr.rest ∧
    (writeRlCtl v b).act = b.act ∧ (writeRlCtl v b).recs = b.recs ∧ (writeRlCtl v b).out = b.out ∧ (writeRlCtl v b).bist = b.bist ∧
    (writeRlCtl v b).bal = b.bal ∧ (writeRlCtl v b).cw = b.cw ∧ (writeRlCtl v b).fen = b.fen ∧ (writeRlCtl v b).cap = b.cap ∧
    (writeRlCtl v b).spi = b.spi := by
  unfold writeRlCtl; simp
@[simp] theorem writeTagSel_keeps (v : Word) (b : Block) :
    (writeTagSel v b).lc = b.lc ∧ (writeTagSel v b).fw = b.fw ∧ (writeTagSel v b).cfg = b.cfg ∧ (writeTagSel v b).clock.ticks = b.clock.ticks ∧
    (writeTagSel v b).clock.running = b.clock.running ∧ (writeTagSel v b).pins = b.pins ∧ (writeTagSel v b).pwr.rest = b.pwr.rest ∧
    (writeTagSel v b).act = b.act ∧ (writeTagSel v b).recs = b.recs ∧ (writeTagSel v b).out = b.out ∧ (writeTagSel v b).bist = b.bist ∧
    (writeTagSel v b).bal = b.bal ∧ (writeTagSel v b).cw = b.cw ∧ (writeTagSel v b).fen = b.fen ∧ (writeTagSel v b).cap = b.cap ∧
    (writeTagSel v b).spi = b.spi := by
  unfold writeTagSel; simp

end Sys2Proof.Machine
end

