-- ==== Sys2Proof/Laws/KeepFast.lean ====
section
/-! SUPPORT. What each operation of Machine/Fast.lean leaves alone: a `…_keeps` lemma lists the fields of the block that read after it as before. -/

namespace Sys2Proof.Machine

set_option linter.all false

@[simp] theorem putFast_keeps (n : Nat) (c : FastCell) (b : Block) :
    (putFast n c b).lc = b.lc ∧ (putFast n c b).fw = b.fw ∧ (putFast n c b).cfg = b.cfg ∧ (putFast n c b).clock.ticks = b.clock.ticks ∧
    (putFast n c b).clock.running = b.clock.running ∧ (putFast n c b).pins = b.pins ∧ (putFast n c b).pwr.rest = b.pwr.rest ∧
    (putFast n c b).act = b.act ∧ (putFast n c b).recs = b.recs ∧ (putFast n c b).out = b.out ∧ (putFast n c b).bist = b.bist ∧
    (putFast n c b).bal = b.bal ∧ (putFast n c b).cw = b.cw ∧ (putFast n c b).cap = b.cap ∧ (putFast n c b).spi = b.spi := by
  unfold putFast; simp
@[simp] theorem integrate_keeps (n : Nat) (q : Rat) (b : Block) :
    (integrate n q b).lc = b.lc ∧ (integrate n q b).fw = b.fw ∧ (integrate n q b).cfg = b.cfg ∧ (integrate n q b).clock.ticks = b.clock.ticks ∧
    (integrate n q b).clock.running = b.clock.running ∧ (integrate n q b).pins = b.pins ∧ (integrate n q b).pwr.rest = b.pwr.rest ∧
    (integrate n q b).act = b.act ∧ (integrate n q b).recs = b.recs ∧ (integrate n q b).out = b.out ∧ (integrate n q b).bist = b.bist ∧
    (integrate n q b).bal = b.bal ∧ (integrate n q b).cw = b.cw ∧ (integrate n q b).cap = b.cap ∧ (integrate n q b).spi = b.spi := by
  unfold integrate; simp
@[simp] theorem holdLimit_keeps (b : Block) :
    (holdLimit b).lc = b.lc ∧ (holdLimit b).fw = b.fw ∧ (holdLimit b).cfg = b.cfg ∧ (holdLimit b).clock.ticks = b.clock.ticks ∧
    (holdLimit b).clock.running = b.clock.running ∧ (holdLimit b).pins = b.pins ∧ (holdLimit b).pwr.rest = b.pwr.rest ∧ (holdLimit b).act = b.act ∧
    (holdLimit b).recs = b.recs ∧ (holdLimit b).out = b.out ∧ (holdLimit b).bist = b.bist ∧ (holdLimit b).bal = b.bal ∧ (holdLimit b).cw = b.cw ∧
    (holdLimit b).fen = b.fen ∧ (holdLimit b).cap = b.cap ∧ (holdLimit b).spi = b.spi := by
  unfold holdLimit; simp
@[simp] theorem currentTaken_keeps (j : ChainJob) (b : Block) :
    (currentTaken j b).lc = b.lc ∧ (currentTaken j b).fw = b.fw ∧ (currentTaken j b).cfg = b.cfg ∧ (currentTaken j b).clock.ticks = b.clock.ticks ∧
    (currentTaken j b).clock.running = b.clock.running ∧ (currentTaken j b).pins = b.pins ∧ (currentTaken j b).pwr.rest = b.pwr.rest ∧
    (currentTaken j b).act = b.act ∧ (currentTaken j b).recs = b.recs ∧ (currentTaken j b).out = b.out ∧ (currentTaken j b).bist = b.bist ∧
    (currentTaken j b).bal = b.bal ∧ (currentTaken j b).cw = b.cw ∧ (currentTaken j b).cap = b.cap ∧ (currentTaken j b).spi = b.spi := by
  unfold currentTaken; (try dsimp only); (repeat' split) <;> simp
@[simp] theorem tickSums_keeps (j : ChainJob) (b : Block) :
    (tickSums j b).lc = b.lc ∧ (tickSums j b).fw = b.fw ∧ (tickSums j b).cfg = b.cfg ∧ (tickSums j b).clock.ticks = b.clock.ticks ∧
    (tickSums j b).clock.running = b.clock.running ∧ (tickSums j b).pins = b.pins ∧ (tickSums j b).pwr.rest = b.pwr.rest ∧
    (tickSums j b).act = b.act ∧ (tickSums j b).recs = b.recs ∧ (tickSums j b).out = b.out ∧ (tickSums j b).bist = b.bist ∧
    (tickSums j b).bal = b.bal ∧ (tickSums j b).cw = b.cw ∧ (tickSums j b).cap = b.cap ∧ (tickSums j b).spi = b.spi := by
  unfold tickSums; simp
@[simp] theorem tickCharge_keeps (j : ChainJob) (b : Block) :
    (tickCharge j b).lc = b.lc ∧ (tickCharge j b).fw = b.fw ∧ (tickCharge j b).cfg = b.cfg ∧ (tickCharge j b).clock.ticks = b.clock.ticks ∧
    (tickCharge j b).clock.running = b.clock.running ∧ (tickCharge j b).pins = b.pins ∧ (tickCharge j b).pwr.rest = b.pwr.rest ∧
    (tickCharge j b).act = b.act ∧ (tickCharge j b).recs = b.recs ∧ (tickCharge j b).out = b.out ∧ (tickCharge j b).bist = b.bist ∧
    (tickCharge j b).bal = b.bal ∧ (tickCharge j b).cw = b.cw ∧ (tickCharge j b).cap = b.cap ∧ (tickCharge j b).spi = b.spi := by
  unfold tickCharge; simp
@[simp] theorem integrator_keeps (j : ChainJob) (b : Block) :
    (integrator j b).lc = b.lc ∧ (integrator j b).fw = b.fw ∧ (integrator j b).cfg = b.cfg ∧ (integrator j b).clock.ticks = b.clock.ticks ∧
    (integrator j b).clock.running = b.clock.running ∧ (integrator j b).pins = b.pins ∧ (integrator j b).pwr.rest = b.pwr.rest ∧
    (integrator j b).act = b.act ∧ (integrator j b).recs = b.recs ∧ (integrator j b).out = b.out ∧ (integrator j b).bist = b.bist ∧
    (integrator j b).bal = b.bal ∧ (integrator j b).cw = b.cw ∧ (integrator j b).cap = b.cap ∧ (integrator j b).spi = b.spi := by
  unfold integrator; simp
@[simp] theorem fastLookup_keeps (n : Nat) (b : Block) :
    (fastLookup n b).lc = b.lc ∧ (fastLookup n b).fw = b.fw ∧ (fastLookup n b).cfg = b.cfg ∧ (fastLookup n b).clock.ticks = b.clock.ticks ∧
    (fastLookup n b).clock.running = b.clock.running ∧ (fastLookup n b).pins = b.pins ∧ (fastLookup n b).pwr.rest = b.pwr.rest ∧
    (fastLookup n b).act = b.act ∧ (fastLookup n b).recs = b.recs ∧ (fastLookup n b).out = b.out ∧ (fastLookup n b).bist = b.bist ∧
    (fastLookup n b).bal = b.bal ∧ (fastLookup n b).cw = b.cw ∧ (fastLookup n b).cap = b.cap ∧ (fastLookup n b).spi = b.spi := by
  unfold fastLookup; simp
@[simp] theorem fastPublish_keeps (n : Nat) (b : Block) :
    (fastPublish n b).lc = b.lc ∧ (fastPublish n b).fw = b.fw ∧ (fastPublish n b).cfg = b.cfg ∧ (fastPublish n b).clock.ticks = b.clock.ticks ∧
    (fastPublish n b).clock.running = b.clock.running ∧ (fastPublish n b).pins = b.pins ∧ (fastPublish n b).pwr.rest = b.pwr.rest ∧
    (fastPublish n b).act = b.act ∧ (fastPublish n b).recs = b.recs ∧ (fastPublish n b).out = b.out ∧ (fastPublish n b).bist = b.bist ∧
    (fastPublish n b).bal = b.bal ∧ (fastPublish n b).cw = b.cw ∧ (fastPublish n b).fen = b.fen ∧ (fastPublish n b).cap = b.cap ∧
    (fastPublish n b).spi = b.spi := by
  unfold fastPublish; simp
@[simp] theorem fastStep_keeps (n : Nat) (i dt : Rat) (held : Bool) (bad : List Nat) (b : Block) :
    (fastStep n i dt held bad b).lc = b.lc ∧ (fastStep n i dt held bad b).fw = b.fw ∧ (fastStep n i dt held bad b).cfg = b.cfg ∧
    (fastStep n i dt held bad b).clock.ticks = b.clock.ticks ∧ (fastStep n i dt held bad b).clock.running = b.clock.running ∧
    (fastStep n i dt held bad b).pins = b.pins ∧ (fastStep n i dt held bad b).pwr.rest = b.pwr.rest ∧ (fastStep n i dt held bad b).act = b.act ∧
    (fastStep n i dt held bad b).recs = b.recs ∧ (fastStep n i dt held bad b).out = b.out ∧ (fastStep n i dt held bad b).bist = b.bist ∧
    (fastStep n i dt held bad b).bal = b.bal ∧ (fastStep n i dt held bad b).cw = b.cw ∧ (fastStep n i dt held bad b).cap = b.cap ∧
    (fastStep n i dt held bad b).spi = b.spi := by
  unfold fastStep; simp
@[simp] theorem fastLayer_keeps (j : ChainJob) (b : Block) :
    (fastLayer j b).lc = b.lc ∧ (fastLayer j b).fw = b.fw ∧ (fastLayer j b).cfg = b.cfg ∧ (fastLayer j b).clock.ticks = b.clock.ticks ∧
    (fastLayer j b).clock.running = b.clock.running ∧ (fastLayer j b).pins = b.pins ∧ (fastLayer j b).pwr.rest = b.pwr.rest ∧
    (fastLayer j b).act = b.act ∧ (fastLayer j b).recs = b.recs ∧ (fastLayer j b).out = b.out ∧ (fastLayer j b).bist = b.bist ∧
    (fastLayer j b).bal = b.bal ∧ (fastLayer j b).cw = b.cw ∧ (fastLayer j b).cap = b.cap ∧ (fastLayer j b).spi = b.spi := by
  unfold fastLayer; simp
@[simp] theorem closeInterval_keeps (j : ChainJob) (b : Block) :
    (closeInterval j b).lc = b.lc ∧ (closeInterval j b).fw = b.fw ∧ (closeInterval j b).cfg = b.cfg ∧
    (closeInterval j b).clock.ticks = b.clock.ticks ∧ (closeInterval j b).clock.running = b.clock.running ∧ (closeInterval j b).pins = b.pins ∧
    (closeInterval j b).pwr.rest = b.pwr.rest ∧ (closeInterval j b).act = b.act ∧ (closeInterval j b).recs = b.recs ∧
    (closeInterval j b).out = b.out ∧ (closeInterval j b).bist = b.bist ∧ (closeInterval j b).bal = b.bal ∧ (closeInterval j b).cw = b.cw ∧
    (closeInterval j b).cap = b.cap ∧ (closeInterval j b).spi = b.spi := by
  unfold closeInterval; (try dsimp only); (repeat' split) <;> simp
@[simp] theorem dropInterval_keeps (s : FenStep) (b : Block) :
    (dropInterval s b).lc = b.lc ∧ (dropInterval s b).fw = b.fw ∧ (dropInterval s b).cfg = b.cfg ∧ (dropInterval s b).clock.ticks = b.clock.ticks ∧
    (dropInterval s b).clock.running = b.clock.running ∧ (dropInterval s b).pins = b.pins ∧ (dropInterval s b).pwr.rest = b.pwr.rest ∧
    (dropInterval s b).act = b.act ∧ (dropInterval s b).recs = b.recs ∧ (dropInterval s b).out = b.out ∧ (dropInterval s b).bist = b.bist ∧
    (dropInterval s b).bal = b.bal ∧ (dropInterval s b).cw = b.cw ∧ (dropInterval s b).cap = b.cap ∧ (dropInterval s b).spi = b.spi := by
  unfold dropInterval; simp
@[simp] theorem parkCharge_keeps (secs : Nat) (cont : List (Nat × Nat)) (bleed : List (Nat × Rat)) (b : Block) :
    (parkCharge secs cont bleed b).lc = b.lc ∧ (parkCharge secs cont bleed b).fw = b.fw ∧ (parkCharge secs cont bleed b).cfg = b.cfg ∧
    (parkCharge secs cont bleed b).clock.ticks = b.clock.ticks ∧ (parkCharge secs cont bleed b).clock.running = b.clock.running ∧
    (parkCharge secs cont bleed b).pins = b.pins ∧ (parkCharge secs cont bleed b).pwr.rest = b.pwr.rest ∧
    (parkCharge secs cont bleed b).act = b.act ∧ (parkCharge secs cont bleed b).recs = b.recs ∧ (parkCharge secs cont bleed b).out = b.out ∧
    (parkCharge secs cont bleed b).bist = b.bist ∧ (parkCharge secs cont bleed b).bal = b.bal ∧ (parkCharge secs cont bleed b).cw = b.cw ∧
    (parkCharge secs cont bleed b).cap = b.cap ∧ (parkCharge secs cont bleed b).spi = b.spi := by
  unfold parkCharge; simp
@[simp] theorem fastWake_keeps (kept : Bool) (b : Block) :
    (fastWake kept b).lc = b.lc ∧ (fastWake kept b).fw = b.fw ∧ (fastWake kept b).cfg = b.cfg ∧ (fastWake kept b).clock.ticks = b.clock.ticks ∧
    (fastWake kept b).clock.running = b.clock.running ∧ (fastWake kept b).pins = b.pins ∧ (fastWake kept b).pwr.rest = b.pwr.rest ∧
    (fastWake kept b).act = b.act ∧ (fastWake kept b).recs = b.recs ∧ (fastWake kept b).out = b.out ∧ (fastWake kept b).bist = b.bist ∧
    (fastWake kept b).bal = b.bal ∧ (fastWake kept b).cw = b.cw ∧ (fastWake kept b).cap = b.cap ∧ (fastWake kept b).spi = b.spi := by
  unfold fastWake; (try dsimp only); (repeat' split) <;> simp (disch := (intros; (try dsimp only); (repeat' split) <;> (try simp)))
@[simp] theorem putHalf_keeps (x : List (Nat × NodeSrc)) (b : Block) :
    (putHalf x b).lc = b.lc ∧ (putHalf x b).fw = b.fw ∧ (putHalf x b).cfg = b.cfg ∧ (putHalf x b).clock.ticks = b.clock.ticks ∧
    (putHalf x b).clock.running = b.clock.running ∧ (putHalf x b).pins = b.pins ∧ (putHalf x b).pwr.rest = b.pwr.rest ∧ (putHalf x b).act = b.act ∧
    (putHalf x b).recs = b.recs ∧ (putHalf x b).out = b.out ∧ (putHalf x b).bist = b.bist ∧ (putHalf x b).bal = b.bal ∧ (putHalf x b).cw = b.cw ∧
    (putHalf x b).cap = b.cap ∧ (putHalf x b).spi = b.spi := by
  unfold putHalf; simp
@[simp] theorem writeNodeSel_keeps (v : Word) (b : Block) :
    (writeNodeSel v b).lc = b.lc ∧ (writeNodeSel v b).fw = b.fw ∧ (writeNodeSel v b).cfg = b.cfg ∧ (writeNodeSel v b).clock.ticks = b.clock.ticks ∧
    (writeNodeSel v b).clock.running = b.clock.running ∧ (writeNodeSel v b).pins = b.pins ∧ (writeNodeSel v b).pwr.rest = b.pwr.rest ∧
    (writeNodeSel v b).act = b.act ∧ (writeNodeSel v b).recs = b.recs ∧ (writeNodeSel v b).out = b.out ∧ (writeNodeSel v b).bist = b.bist ∧
    (writeNodeSel v b).bal = b.bal ∧ (writeNodeSel v b).cw = b.cw ∧ (writeNodeSel v b).fen = b.fen ∧ (writeNodeSel v b).cap = b.cap ∧
    (writeNodeSel v b).spi = b.spi := by
  unfold writeNodeSel; simp

end Sys2Proof.Machine
end

