-- ==== Sys2Proof/Laws/KeepPolicy.lean ====
section
/-! SUPPORT. What each operation of Machine/Policy.lean leaves alone: a `…_keeps` lemma lists the fields of the block that read after it as before. -/

namespace Sys2Proof.Machine

set_option linter.all false

@[simp] theorem putPolCell_keeps (n : Nat) (c : PolCell) (b : Block) :
    (putPolCell n c b).lc = b.lc ∧ (putPolCell n c b).fw = b.fw ∧ (putPolCell n c b).cfg = b.cfg ∧ (putPolCell n c b).clock.ticks = b.clock.ticks ∧
    (putPolCell n c b).clock.running = b.clock.running ∧ (putPolCell n c b).pins = b.pins ∧ (putPolCell n c b).pwr.rest = b.pwr.rest ∧
    (putPolCell n c b).act = b.act ∧ (putPolCell n c b).recs = b.recs ∧ (putPolCell n c b).out = b.out ∧ (putPolCell n c b).bist = b.bist ∧
    (putPolCell n c b).bal = b.bal ∧ (putPolCell n c b).cw = b.cw ∧ (putPolCell n c b).fen = b.fen ∧ (putPolCell n c b).cap = b.cap ∧
    (putPolCell n c b).spi = b.spi := by
  unfold putPolCell; simp
@[simp] theorem autoTargets_keeps (es : List EstCell) (b : Block) :
    (autoTargets es b).lc = b.lc ∧ (autoTargets es b).fw = b.fw ∧ (autoTargets es b).cfg = b.cfg ∧ (autoTargets es b).clock.ticks = b.clock.ticks ∧
    (autoTargets es b).clock.running = b.clock.running ∧ (autoTargets es b).pins = b.pins ∧ (autoTargets es b).pwr.rest = b.pwr.rest ∧
    (autoTargets es b).act = b.act ∧ (autoTargets es b).recs = b.recs ∧ (autoTargets es b).out = b.out ∧ (autoTargets es b).bist = b.bist ∧
    (autoTargets es b).cw = b.cw ∧ (autoTargets es b).fen = b.fen ∧ (autoTargets es b).cap = b.cap ∧ (autoTargets es b).spi = b.spi := by
  unfold autoTargets; simp
@[simp] theorem autoSweep_keeps (s : FenStep) (b : Block) :
    (autoSweep s b).lc = b.lc ∧ (autoSweep s b).fw = b.fw ∧ (autoSweep s b).cfg = b.cfg ∧ (autoSweep s b).clock.ticks = b.clock.ticks ∧
    (autoSweep s b).clock.running = b.clock.running ∧ (autoSweep s b).pins = b.pins ∧ (autoSweep s b).pwr.rest = b.pwr.rest ∧
    (autoSweep s b).act = b.act ∧ (autoSweep s b).recs = b.recs ∧ (autoSweep s b).out = b.out ∧ (autoSweep s b).bist = b.bist ∧
    (autoSweep s b).bal = b.bal ∧ (autoSweep s b).cw = b.cw ∧ (autoSweep s b).fen = b.fen ∧ (autoSweep s b).cap = b.cap ∧
    (autoSweep s b).spi = b.spi := by
  unfold autoSweep; simp
@[simp] theorem selfDischarge_keeps (s : FenStep) (es : List EstCell) (b : Block) :
    (selfDischarge s es b).lc = b.lc ∧ (selfDischarge s es b).fw = b.fw ∧ (selfDischarge s es b).cfg = b.cfg ∧
    (selfDischarge s es b).clock.ticks = b.clock.ticks ∧ (selfDischarge s es b).clock.running = b.clock.running ∧
    (selfDischarge s es b).pins = b.pins ∧ (selfDischarge s es b).pwr.rest = b.pwr.rest ∧ (selfDischarge s es b).act = b.act ∧
    (selfDischarge s es b).recs = b.recs ∧ (selfDischarge s es b).out = b.out ∧ (selfDischarge s es b).bist = b.bist ∧
    (selfDischarge s es b).bal = b.bal ∧ (selfDischarge s es b).cw = b.cw ∧ (selfDischarge s es b).fen = b.fen ∧ (selfDischarge s es b).cap = b.cap ∧
    (selfDischarge s es b).spi = b.spi := by
  unfold selfDischarge; simp
@[simp] theorem polSources_keeps (s : FenStep) (es : List EstCell) (b : Block) :
    (polSources s es b).lc = b.lc ∧ (polSources s es b).fw = b.fw ∧ (polSources s es b).cfg = b.cfg ∧
    (polSources s es b).clock.ticks = b.clock.ticks ∧ (polSources s es b).clock.running = b.clock.running ∧ (polSources s es b).pins = b.pins ∧
    (polSources s es b).pwr.rest = b.pwr.rest ∧ (polSources s es b).act = b.act ∧ (polSources s es b).recs = b.recs ∧
    (polSources s es b).out = b.out ∧ (polSources s es b).bist = b.bist ∧ (polSources s es b).bal = b.bal ∧ (polSources s es b).cw = b.cw ∧
    (polSources s es b).fen = b.fen ∧ (polSources s es b).cap = b.cap ∧ (polSources s es b).spi = b.spi := by
  unfold polSources; simp
@[simp] theorem zriseCheck_keeps (b : Block) :
    (zriseCheck b).lc = b.lc ∧ (zriseCheck b).fw = b.fw ∧ (zriseCheck b).cfg = b.cfg ∧ (zriseCheck b).clock.ticks = b.clock.ticks ∧
    (zriseCheck b).clock.running = b.clock.running ∧ (zriseCheck b).pins = b.pins ∧ (zriseCheck b).pwr.rest = b.pwr.rest ∧
    (zriseCheck b).act = b.act ∧ (zriseCheck b).recs = b.recs ∧ (zriseCheck b).out = b.out ∧ (zriseCheck b).bist = b.bist ∧
    (zriseCheck b).bal = b.bal ∧ (zriseCheck b).cw = b.cw ∧ (zriseCheck b).fen = b.fen ∧ (zriseCheck b).cap = b.cap ∧ (zriseCheck b).spi = b.spi := by
  unfold zriseCheck; simp
@[simp] theorem polPublish_keeps (s : FenStep) (seed : Nat) (es : List EstCell) (b : Block) :
    (polPublish s seed es b).lc = b.lc ∧ (polPublish s seed es b).fw = b.fw ∧ (polPublish s seed es b).cfg = b.cfg ∧
    (polPublish s seed es b).clock.ticks = b.clock.ticks ∧ (polPublish s seed es b).clock.running = b.clock.running ∧
    (polPublish s seed es b).pins = b.pins ∧ (polPublish s seed es b).pwr.rest = b.pwr.rest ∧ (polPublish s seed es b).act = b.act ∧
    (polPublish s seed es b).recs = b.recs ∧ (polPublish s seed es b).out = b.out ∧ (polPublish s seed es b).bist = b.bist ∧
    (polPublish s seed es b).bal = b.bal ∧ (polPublish s seed es b).cw = b.cw ∧ (polPublish s seed es b).cap = b.cap ∧
    (polPublish s seed es b).spi = b.spi := by
  unfold polPublish; simp
@[simp] theorem polKeep_keeps (es : List EstCell) (b : Block) :
    (polKeep es b).lc = b.lc ∧ (polKeep es b).fw = b.fw ∧ (polKeep es b).cfg = b.cfg ∧ (polKeep es b).clock.ticks = b.clock.ticks ∧
    (polKeep es b).clock.running = b.clock.running ∧ (polKeep es b).pins = b.pins ∧ (polKeep es b).pwr.rest = b.pwr.rest ∧
    (polKeep es b).act = b.act ∧ (polKeep es b).recs = b.recs ∧ (polKeep es b).out = b.out ∧ (polKeep es b).bist = b.bist ∧
    (polKeep es b).bal = b.bal ∧ (polKeep es b).cw = b.cw ∧ (polKeep es b).fen = b.fen ∧ (polKeep es b).cap = b.cap ∧ (polKeep es b).spi = b.spi := by
  unfold polKeep; simp
@[simp] theorem polTargets_keeps (mode : Nat) (es : List EstCell) (b : Block) :
    (polTargets mode es b).lc = b.lc ∧ (polTargets mode es b).fw = b.fw ∧ (polTargets mode es b).cfg = b.cfg ∧
    (polTargets mode es b).clock.ticks = b.clock.ticks ∧ (polTargets mode es b).clock.running = b.clock.running ∧
    (polTargets mode es b).pins = b.pins ∧ (polTargets mode es b).pwr.rest = b.pwr.rest ∧ (polTargets mode es b).act = b.act ∧
    (polTargets mode es b).recs = b.recs ∧ (polTargets mode es b).out = b.out ∧ (polTargets mode es b).bist = b.bist ∧
    (polTargets mode es b).cw = b.cw ∧ (polTargets mode es b).fen = b.fen ∧ (polTargets mode es b).cap = b.cap ∧
    (polTargets mode es b).spi = b.spi := by
  unfold polTargets; simp
@[simp] theorem polAge_keeps (b : Block) :
    (polAge b).lc = b.lc ∧ (polAge b).fw = b.fw ∧ (polAge b).cfg = b.cfg ∧ (polAge b).clock.ticks = b.clock.ticks ∧
    (polAge b).clock.running = b.clock.running ∧ (polAge b).pins = b.pins ∧ (polAge b).pwr.rest = b.pwr.rest ∧ (polAge b).act = b.act ∧
    (polAge b).recs = b.recs ∧ (polAge b).out = b.out ∧ (polAge b).bist = b.bist ∧ (polAge b).bal = b.bal ∧ (polAge b).cw = b.cw ∧
    (polAge b).fen = b.fen ∧ (polAge b).cap = b.cap ∧ (polAge b).spi = b.spi := by
  unfold polAge; simp
@[simp] theorem policyStep_keeps (s : FenStep) (seed : Nat) (b : Block) :
    (policyStep s seed b).lc = b.lc ∧ (policyStep s seed b).fw = b.fw ∧ (policyStep s seed b).cfg = b.cfg ∧
    (policyStep s seed b).clock.ticks = b.clock.ticks ∧ (policyStep s seed b).clock.running = b.clock.running ∧ (policyStep s seed b).pins = b.pins ∧
    (policyStep s seed b).pwr.rest = b.pwr.rest ∧ (policyStep s seed b).act = b.act ∧ (policyStep s seed b).recs = b.recs ∧
    (policyStep s seed b).out = b.out ∧ (policyStep s seed b).bist = b.bist ∧ (policyStep s seed b).cw = b.cw ∧ (policyStep s seed b).cap = b.cap ∧
    (policyStep s seed b).spi = b.spi := by
  unfold policyStep; simp
@[simp] theorem putNotchState_keeps (k : Nat) (x : PolNotch) (b : Block) :
    (putNotchState k x b).lc = b.lc ∧ (putNotchState k x b).fw = b.fw ∧ (putNotchState k x b).cfg = b.cfg ∧
    (putNotchState k x b).clock.ticks = b.clock.ticks ∧ (putNotchState k x b).clock.running = b.clock.running ∧ (putNotchState k x b).pins = b.pins ∧
    (putNotchState k x b).pwr.rest = b.pwr.rest ∧ (putNotchState k x b).act = b.act ∧ (putNotchState k x b).recs = b.recs ∧
    (putNotchState k x b).out = b.out ∧ (putNotchState k x b).bist = b.bist ∧ (putNotchState k x b).bal = b.bal ∧ (putNotchState k x b).cw = b.cw ∧
    (putNotchState k x b).fen = b.fen ∧ (putNotchState k x b).cap = b.cap ∧ (putNotchState k x b).spi = b.spi := by
  unfold putNotchState; simp
@[simp] theorem placeNotch_keeps (k : Nat) (p : Option (Nat × Nat)) (b : Block) :
    (placeNotch k p b).lc = b.lc ∧ (placeNotch k p b).fw = b.fw ∧ (placeNotch k p b).cfg = b.cfg ∧ (placeNotch k p b).clock.ticks = b.clock.ticks ∧
    (placeNotch k p b).clock.running = b.clock.running ∧ (placeNotch k p b).pins = b.pins ∧ (placeNotch k p b).pwr.rest = b.pwr.rest ∧
    (placeNotch k p b).act = b.act ∧ (placeNotch k p b).recs = b.recs ∧ (placeNotch k p b).out = b.out ∧ (placeNotch k p b).bist = b.bist ∧
    (placeNotch k p b).bal = b.bal ∧ (placeNotch k p b).cw = b.cw ∧ (placeNotch k p b).fen = b.fen ∧ (placeNotch k p b).cap = b.cap ∧
    (placeNotch k p b).spi = b.spi := by
  unfold placeNotch; simp
@[simp] theorem rippleIn_keeps (d : Nat) (xs : List (List Int)) (b : Block) :
    (rippleIn d xs b).lc = b.lc ∧ (rippleIn d xs b).fw = b.fw ∧ (rippleIn d xs b).cfg = b.cfg ∧ (rippleIn d xs b).clock.ticks = b.clock.ticks ∧
    (rippleIn d xs b).clock.running = b.clock.running ∧ (rippleIn d xs b).pins = b.pins ∧ (rippleIn d xs b).pwr.rest = b.pwr.rest ∧
    (rippleIn d xs b).act = b.act ∧ (rippleIn d xs b).recs = b.recs ∧ (rippleIn d xs b).out = b.out ∧ (rippleIn d xs b).bist = b.bist ∧
    (rippleIn d xs b).bal = b.bal ∧ (rippleIn d xs b).cw = b.cw ∧ (rippleIn d xs b).fen = b.fen ∧ (rippleIn d xs b).cap = b.cap ∧
    (rippleIn d xs b).spi = b.spi := by
  unfold rippleIn; simp
@[simp] theorem rippleDone_keeps (given : List (Nat × Nat)) (b : Block) :
    (rippleDone given b).lc = b.lc ∧ (rippleDone given b).fw = b.fw ∧ (rippleDone given b).cfg = b.cfg ∧
    (rippleDone given b).clock.ticks = b.clock.ticks ∧ (rippleDone given b).clock.running = b.clock.running ∧ (rippleDone given b).pins = b.pins ∧
    (rippleDone given b).pwr.rest = b.pwr.rest ∧ (rippleDone given b).act = b.act ∧ (rippleDone given b).recs = b.recs ∧
    (rippleDone given b).out = b.out ∧ (rippleDone given b).bist = b.bist ∧ (rippleDone given b).bal = b.bal ∧ (rippleDone given b).cw = b.cw ∧
    (rippleDone given b).fen = b.fen ∧ (rippleDone given b).cap = b.cap ∧ (rippleDone given b).spi = b.spi := by
  unfold rippleDone; (try dsimp only); (repeat' split) <;> simp (disch := (intros; (try dsimp only); (repeat' split) <;> (try simp)))
@[simp] theorem ovrEvent_keeps (o : Override) (what : Nat) (b : Block) :
    (ovrEvent o what b).lc = b.lc ∧ (ovrEvent o what b).fw = b.fw ∧ (ovrEvent o what b).cfg = b.cfg ∧
    (ovrEvent o what b).clock.ticks = b.clock.ticks ∧ (ovrEvent o what b).clock.running = b.clock.running ∧ (ovrEvent o what b).pins = b.pins ∧
    (ovrEvent o what b).pwr.rest = b.pwr.rest ∧ (ovrEvent o what b).act = b.act ∧ (ovrEvent o what b).recs = b.recs ∧
    (ovrEvent o what b).out = b.out ∧ (ovrEvent o what b).bist = b.bist ∧ (ovrEvent o what b).bal = b.bal ∧ (ovrEvent o what b).cw = b.cw ∧
    (ovrEvent o what b).fen = b.fen ∧ (ovrEvent o what b).cap = b.cap ∧ (ovrEvent o what b).spi = b.spi := by
  unfold ovrEvent; simp
@[simp] theorem countOvr_keeps (b : Block) :
    (countOvr b).lc = b.lc ∧ (countOvr b).fw = b.fw ∧ (countOvr b).cfg = b.cfg ∧ (countOvr b).clock.ticks = b.clock.ticks ∧
    (countOvr b).clock.running = b.clock.running ∧ (countOvr b).pins = b.pins ∧ (countOvr b).pwr.rest = b.pwr.rest ∧ (countOvr b).act = b.act ∧
    (countOvr b).recs = b.recs ∧ (countOvr b).out = b.out ∧ (countOvr b).bist = b.bist ∧ (countOvr b).bal = b.bal ∧ (countOvr b).cw = b.cw ∧
    (countOvr b).fen = b.fen ∧ (countOvr b).cap = b.cap ∧ (countOvr b).spi = b.spi := by
  unfold countOvr; simp
@[simp] theorem dropOvr_keeps (keep : Override → Bool) (b : Block) :
    (dropOvr keep b).lc = b.lc ∧ (dropOvr keep b).fw = b.fw ∧ (dropOvr keep b).cfg = b.cfg ∧ (dropOvr keep b).clock.ticks = b.clock.ticks ∧
    (dropOvr keep b).clock.running = b.clock.running ∧ (dropOvr keep b).pins = b.pins ∧ (dropOvr keep b).pwr.rest = b.pwr.rest ∧
    (dropOvr keep b).act = b.act ∧ (dropOvr keep b).recs = b.recs ∧ (dropOvr keep b).out = b.out ∧ (dropOvr keep b).bist = b.bist ∧
    (dropOvr keep b).bal = b.bal ∧ (dropOvr keep b).cw = b.cw ∧ (dropOvr keep b).fen = b.fen ∧ (dropOvr keep b).cap = b.cap ∧
    (dropOvr keep b).spi = b.spi := by
  unfold dropOvr; simp
@[simp] theorem askOverride_keeps (o : Override) (b : Block) :
    (askOverride o b).lc = b.lc ∧ (askOverride o b).fw = b.fw ∧ (askOverride o b).cfg = b.cfg ∧ (askOverride o b).clock.ticks = b.clock.ticks ∧
    (askOverride o b).clock.running = b.clock.running ∧ (askOverride o b).pins = b.pins ∧ (askOverride o b).pwr.rest = b.pwr.rest ∧
    (askOverride o b).act = b.act ∧ (askOverride o b).recs = b.recs ∧ (askOverride o b).out = b.out ∧ (askOverride o b).bist = b.bist ∧
    (askOverride o b).bal = b.bal ∧ (askOverride o b).cw = b.cw ∧ (askOverride o b).fen = b.fen ∧ (askOverride o b).cap = b.cap ∧
    (askOverride o b).spi = b.spi := by
  unfold askOverride; (try dsimp only); (repeat' split) <;> simp
@[simp] theorem ovrAct_keeps (o : Override) (b : Block) :
    (ovrAct o b).lc = b.lc ∧ (ovrAct o b).fw = b.fw ∧ (ovrAct o b).cfg = b.cfg ∧ (ovrAct o b).clock.ticks = b.clock.ticks ∧
    (ovrAct o b).clock.running = b.clock.running ∧ (ovrAct o b).pins = b.pins ∧ (ovrAct o b).pwr.rest = b.pwr.rest ∧ (ovrAct o b).act = b.act ∧
    (ovrAct o b).recs = b.recs ∧ (ovrAct o b).out = b.out ∧ (ovrAct o b).bist = b.bist ∧ (ovrAct o b).bal = b.bal ∧ (ovrAct o b).cw = b.cw ∧
    (ovrAct o b).fen = b.fen ∧ (ovrAct o b).cap = b.cap ∧ (ovrAct o b).spi = b.spi := by
  unfold ovrAct; simp
@[simp] theorem takeOne_keeps (o : Override) (b : Block) :
    (takeOne o b).2.lc = b.lc ∧ (takeOne o b).2.fw = b.fw ∧ (takeOne o b).2.cfg = b.cfg ∧ (takeOne o b).2.clock.ticks = b.clock.ticks ∧
    (takeOne o b).2.clock.running = b.clock.running ∧ (takeOne o b).2.pins = b.pins ∧ (takeOne o b).2.pwr.rest = b.pwr.rest ∧
    (takeOne o b).2.act = b.act ∧ (takeOne o b).2.recs = b.recs ∧ (takeOne o b).2.out = b.out ∧ (takeOne o b).2.bist = b.bist ∧
    (takeOne o b).2.bal = b.bal ∧ (takeOne o b).2.cw = b.cw ∧ (takeOne o b).2.fen = b.fen ∧ (takeOne o b).2.cap = b.cap ∧
    (takeOne o b).2.spi = b.spi := by
  unfold takeOne; (try dsimp only); (repeat' split) <;> simp
@[simp] theorem takeUp_keeps (b : Block) :
    (takeUp b).lc = b.lc ∧ (takeUp b).fw = b.fw ∧ (takeUp b).cfg = b.cfg ∧ (takeUp b).clock.ticks = b.clock.ticks ∧
    (takeUp b).clock.running = b.clock.running ∧ (takeUp b).pins = b.pins ∧ (takeUp b).pwr.rest = b.pwr.rest ∧ (takeUp b).act = b.act ∧
    (takeUp b).recs = b.recs ∧ (takeUp b).out = b.out ∧ (takeUp b).bist = b.bist ∧ (takeUp b).bal = b.bal ∧ (takeUp b).cw = b.cw ∧
    (takeUp b).fen = b.fen ∧ (takeUp b).cap = b.cap ∧ (takeUp b).spi = b.spi := by
  unfold takeUp; (try dsimp only); (repeat' split) <;> simp (disch := (intros; (try dsimp only); (repeat' split) <;> (try simp)))
@[simp] theorem expireOvr_keeps (b : Block) :
    (expireOvr b).lc = b.lc ∧ (expireOvr b).fw = b.fw ∧ (expireOvr b).cfg = b.cfg ∧ (expireOvr b).clock.ticks = b.clock.ticks ∧
    (expireOvr b).clock.running = b.clock.running ∧ (expireOvr b).pins = b.pins ∧ (expireOvr b).pwr.rest = b.pwr.rest ∧ (expireOvr b).act = b.act ∧
    (expireOvr b).recs = b.recs ∧ (expireOvr b).out = b.out ∧ (expireOvr b).bist = b.bist ∧ (expireOvr b).bal = b.bal ∧ (expireOvr b).cw = b.cw ∧
    (expireOvr b).fen = b.fen ∧ (expireOvr b).cap = b.cap ∧ (expireOvr b).spi = b.spi := by
  unfold expireOvr; simp
@[simp] theorem ovrPark_keeps (b : Block) :
    (ovrPark b).lc = b.lc ∧ (ovrPark b).fw = b.fw ∧ (ovrPark b).cfg = b.cfg ∧ (ovrPark b).clock.ticks = b.clock.ticks ∧
    (ovrPark b).clock.running = b.clock.running ∧ (ovrPark b).pins = b.pins ∧ (ovrPark b).pwr.rest = b.pwr.rest ∧ (ovrPark b).act = b.act ∧
    (ovrPark b).recs = b.recs ∧ (ovrPark b).out = b.out ∧ (ovrPark b).bist = b.bist ∧ (ovrPark b).bal = b.bal ∧ (ovrPark b).cw = b.cw ∧
    (ovrPark b).fen = b.fen ∧ (ovrPark b).cap = b.cap ∧ (ovrPark b).spi = b.spi := by
  unfold ovrPark; simp
@[simp] theorem polModeChange_keeps (b : Block) :
    (polModeChange b).lc = b.lc ∧ (polModeChange b).fw = b.fw ∧ (polModeChange b).cfg = b.cfg ∧ (polModeChange b).clock.ticks = b.clock.ticks ∧
    (polModeChange b).clock.running = b.clock.running ∧ (polModeChange b).pins = b.pins ∧ (polModeChange b).pwr.rest = b.pwr.rest ∧
    (polModeChange b).act = b.act ∧ (polModeChange b).recs = b.recs ∧ (polModeChange b).out = b.out ∧ (polModeChange b).bist = b.bist ∧
    (polModeChange b).cw = b.cw ∧ (polModeChange b).fen = b.fen ∧ (polModeChange b).cap = b.cap ∧ (polModeChange b).spi = b.spi := by
  unfold polModeChange; simp
@[simp] theorem polTick_keeps (b : Block) :
    (polTick b).lc = b.lc ∧ (polTick b).fw = b.fw ∧ (polTick b).cfg = b.cfg ∧ (polTick b).clock.ticks = b.clock.ticks ∧
    (polTick b).clock.running = b.clock.running ∧ (polTick b).pins = b.pins ∧ (polTick b).pwr.rest = b.pwr.rest ∧ (polTick b).act = b.act ∧
    (polTick b).out = b.out ∧ (polTick b).bist = b.bist ∧ (polTick b).bal = b.bal ∧ (polTick b).cw = b.cw ∧ (polTick b).fen = b.fen ∧
    (polTick b).cap = b.cap ∧ (polTick b).spi = b.spi := by
  unfold polTick; (try dsimp only); (repeat' split) <;> simp
@[simp] theorem writeOvrCtl_keeps (v : Word) (b : Block) :
    (writeOvrCtl v b).lc = b.lc ∧ (writeOvrCtl v b).fw = b.fw ∧ (writeOvrCtl v b).cfg = b.cfg ∧ (writeOvrCtl v b).clock.ticks = b.clock.ticks ∧
    (writeOvrCtl v b).clock.running = b.clock.running ∧ (writeOvrCtl v b).pins = b.pins ∧ (writeOvrCtl v b).pwr.rest = b.pwr.rest ∧
    (writeOvrCtl v b).act = b.act ∧ (writeOvrCtl v b).recs = b.recs ∧ (writeOvrCtl v b).out = b.out ∧ (writeOvrCtl v b).bist = b.bist ∧
    (writeOvrCtl v b).bal = b.bal ∧ (writeOvrCtl v b).cw = b.cw ∧ (writeOvrCtl v b).fen = b.fen ∧ (writeOvrCtl v b).cap = b.cap ∧
    (writeOvrCtl v b).spi = b.spi := by
  unfold writeOvrCtl; simp

end Sys2Proof.Machine
end

