-- ==== Sys2Proof/Laws/KeepFen.lean ====
section
/-! SUPPORT. What each operation of Machine/Fen.lean leaves alone: a `…_keeps` lemma lists the fields of the block that read after it as before. -/

namespace Sys2Proof.Machine

set_option linter.all false

@[simp] theorem describePred_keeps (b : Block) :
    (describePred b).lc = b.lc ∧ (describePred b).fw = b.fw ∧ (describePred b).cfg = b.cfg ∧ (describePred b).clock.ticks = b.clock.ticks ∧
    (describePred b).clock.running = b.clock.running ∧ (describePred b).pins = b.pins ∧ (describePred b).pwr.rest = b.pwr.rest ∧
    (describePred b).act = b.act ∧ (describePred b).recs = b.recs ∧ (describePred b).out = b.out ∧ (describePred b).bist = b.bist ∧
    (describePred b).bal = b.bal ∧ (describePred b).cw = b.cw ∧ (describePred b).fen = b.fen ∧ (describePred b).cap = b.cap ∧
    (describePred b).spi = b.spi := by
  unfold describePred; simp
@[simp] theorem describeImage_keeps (b : Block) :
    (describeImage b).lc = b.lc ∧ (describeImage b).fw = b.fw ∧ (describeImage b).cfg = b.cfg ∧ (describeImage b).clock.ticks = b.clock.ticks ∧
    (describeImage b).clock.running = b.clock.running ∧ (describeImage b).pins = b.pins ∧ (describeImage b).pwr.rest = b.pwr.rest ∧
    (describeImage b).act = b.act ∧ (describeImage b).recs = b.recs ∧ (describeImage b).out = b.out ∧ (describeImage b).bist = b.bist ∧
    (describeImage b).bal = b.bal ∧ (describeImage b).cw = b.cw ∧ (describeImage b).fen = b.fen ∧ (describeImage b).cap = b.cap ∧
    (describeImage b).spi = b.spi := by
  unfold describeImage; simp
@[simp] theorem unhalt_keeps (b : Block) :
    (unhalt b).lc = b.lc ∧ (unhalt b).fw = b.fw ∧ (unhalt b).cfg = b.cfg ∧ (unhalt b).clock.ticks = b.clock.ticks ∧
    (unhalt b).clock.running = b.clock.running ∧ (unhalt b).pins = b.pins ∧ (unhalt b).pwr.rest = b.pwr.rest ∧ (unhalt b).act = b.act ∧
    (unhalt b).recs = b.recs ∧ (unhalt b).out = b.out ∧ (unhalt b).bist = b.bist ∧ (unhalt b).bal = b.bal ∧ (unhalt b).cw = b.cw ∧
    (unhalt b).cap = b.cap ∧ (unhalt b).spi = b.spi := by
  unfold unhalt; simp
@[simp] theorem haltCheck_keeps (b : Block) :
    (haltCheck b).lc = b.lc ∧ (haltCheck b).fw = b.fw ∧ (haltCheck b).cfg = b.cfg ∧ (haltCheck b).clock.ticks = b.clock.ticks ∧
    (haltCheck b).clock.running = b.clock.running ∧ (haltCheck b).pins = b.pins ∧ (haltCheck b).pwr.rest = b.pwr.rest ∧ (haltCheck b).act = b.act ∧
    (haltCheck b).recs = b.recs ∧ (haltCheck b).out = b.out ∧ (haltCheck b).bist = b.bist ∧ (haltCheck b).bal = b.bal ∧ (haltCheck b).cw = b.cw ∧
    (haltCheck b).fen = b.fen ∧ (haltCheck b).cap = b.cap ∧ (haltCheck b).spi = b.spi := by
  unfold haltCheck; simp
@[simp] theorem stepAbandon_keeps (b : Block) :
    (stepAbandon b).lc = b.lc ∧ (stepAbandon b).fw = b.fw ∧ (stepAbandon b).cfg = b.cfg ∧ (stepAbandon b).clock.ticks = b.clock.ticks ∧
    (stepAbandon b).clock.running = b.clock.running ∧ (stepAbandon b).pins = b.pins ∧ (stepAbandon b).pwr.rest = b.pwr.rest ∧
    (stepAbandon b).act = b.act ∧ (stepAbandon b).recs = b.recs ∧ (stepAbandon b).out = b.out ∧ (stepAbandon b).bist = b.bist ∧
    (stepAbandon b).bal = b.bal ∧ (stepAbandon b).cw = b.cw ∧ (stepAbandon b).cap = b.cap ∧ (stepAbandon b).spi = b.spi := by
  unfold stepAbandon; (try dsimp only); (repeat' split) <;> simp
@[simp] theorem stepLength_keeps (b : Block) :
    (stepLength b).lc = b.lc ∧ (stepLength b).fw = b.fw ∧ (stepLength b).cfg = b.cfg ∧ (stepLength b).clock.ticks = b.clock.ticks ∧
    (stepLength b).clock.running = b.clock.running ∧ (stepLength b).pins = b.pins ∧ (stepLength b).pwr.rest = b.pwr.rest ∧
    (stepLength b).act = b.act ∧ (stepLength b).recs = b.recs ∧ (stepLength b).out = b.out ∧ (stepLength b).bist = b.bist ∧
    (stepLength b).bal = b.bal ∧ (stepLength b).cw = b.cw ∧ (stepLength b).cap = b.cap ∧ (stepLength b).spi = b.spi := by
  unfold stepLength; simp
@[simp] theorem swapCopies_keeps (b : Block) :
    (swapCopies b).lc = b.lc ∧ (swapCopies b).fw = b.fw ∧ (swapCopies b).cfg = b.cfg ∧ (swapCopies b).clock.ticks = b.clock.ticks ∧
    (swapCopies b).clock.running = b.clock.running ∧ (swapCopies b).pins = b.pins ∧ (swapCopies b).pwr.rest = b.pwr.rest ∧
    (swapCopies b).act = b.act ∧ (swapCopies b).recs = b.recs ∧ (swapCopies b).out = b.out ∧ (swapCopies b).bist = b.bist ∧
    (swapCopies b).bal = b.bal ∧ (swapCopies b).cw = b.cw ∧ (swapCopies b).cap = b.cap ∧ (swapCopies b).spi = b.spi := by
  unfold swapCopies; simp
@[simp] theorem adaptSwap_keeps (b : Block) :
    (adaptSwap b).lc = b.lc ∧ (adaptSwap b).fw = b.fw ∧ (adaptSwap b).cfg = b.cfg ∧ (adaptSwap b).clock.ticks = b.clock.ticks ∧
    (adaptSwap b).clock.running = b.clock.running ∧ (adaptSwap b).pins = b.pins ∧ (adaptSwap b).pwr.rest = b.pwr.rest ∧ (adaptSwap b).act = b.act ∧
    (adaptSwap b).recs = b.recs ∧ (adaptSwap b).out = b.out ∧ (adaptSwap b).bist = b.bist ∧ (adaptSwap b).bal = b.bal ∧ (adaptSwap b).cw = b.cw ∧
    (adaptSwap b).cap = b.cap ∧ (adaptSwap b).spi = b.spi := by
  unfold adaptSwap; simp
@[simp] theorem applyDefaults_keeps (b : Block) :
    (applyDefaults b).lc = b.lc ∧ (applyDefaults b).fw = b.fw ∧ (applyDefaults b).cfg = b.cfg ∧ (applyDefaults b).clock.ticks = b.clock.ticks ∧
    (applyDefaults b).clock.running = b.clock.running ∧ (applyDefaults b).pins = b.pins ∧ (applyDefaults b).pwr.rest = b.pwr.rest ∧
    (applyDefaults b).act = b.act ∧ (applyDefaults b).recs = b.recs ∧ (applyDefaults b).out = b.out ∧ (applyDefaults b).bist = b.bist ∧
    (applyDefaults b).bal = b.bal ∧ (applyDefaults b).cw = b.cw ∧ (applyDefaults b).fen = b.fen ∧ (applyDefaults b).cap = b.cap ∧
    (applyDefaults b).spi = b.spi := by
  unfold applyDefaults; simp
@[simp] theorem imageSwap_keeps (b : Block) :
    (imageSwap b).lc = b.lc ∧ (imageSwap b).fw = b.fw ∧ (imageSwap b).cfg = b.cfg ∧ (imageSwap b).clock.ticks = b.clock.ticks ∧
    (imageSwap b).clock.running = b.clock.running ∧ (imageSwap b).pins = b.pins ∧ (imageSwap b).pwr.rest = b.pwr.rest ∧ (imageSwap b).act = b.act ∧
    (imageSwap b).recs = b.recs ∧ (imageSwap b).out = b.out ∧ (imageSwap b).bist = b.bist ∧ (imageSwap b).bal = b.bal ∧ (imageSwap b).cw = b.cw ∧
    (imageSwap b).cap = b.cap ∧ (imageSwap b).spi = b.spi := by
  unfold imageSwap; simp
@[simp] theorem stepBegin_keeps (b : Block) :
    (stepBegin b).lc = b.lc ∧ (stepBegin b).fw = b.fw ∧ (stepBegin b).cfg = b.cfg ∧ (stepBegin b).clock.ticks = b.clock.ticks ∧
    (stepBegin b).clock.running = b.clock.running ∧ (stepBegin b).pins = b.pins ∧ (stepBegin b).pwr.rest = b.pwr.rest ∧ (stepBegin b).act = b.act ∧
    (stepBegin b).recs = b.recs ∧ (stepBegin b).out = b.out ∧ (stepBegin b).bist = b.bist ∧ (stepBegin b).bal = b.bal ∧ (stepBegin b).cw = b.cw ∧
    (stepBegin b).cap = b.cap ∧ (stepBegin b).spi = b.spi := by
  unfold stepBegin; simp
@[simp] theorem stepBoundary_keeps (b : Block) :
    (stepBoundary b).lc = b.lc ∧ (stepBoundary b).fw = b.fw ∧ (stepBoundary b).cfg = b.cfg ∧ (stepBoundary b).clock.ticks = b.clock.ticks ∧
    (stepBoundary b).clock.running = b.clock.running ∧ (stepBoundary b).pins = b.pins ∧ (stepBoundary b).pwr.rest = b.pwr.rest ∧
    (stepBoundary b).act = b.act ∧ (stepBoundary b).recs = b.recs ∧ (stepBoundary b).out = b.out ∧ (stepBoundary b).bist = b.bist ∧
    (stepBoundary b).cw = b.cw ∧ (stepBoundary b).cap = b.cap ∧ (stepBoundary b).spi = b.spi := by
  unfold stepBoundary; simp
@[simp] theorem sinceUs_keeps (start : Nat) (b : Block) :
    (sinceUs start b).2.lc = b.lc ∧ (sinceUs start b).2.fw = b.fw ∧ (sinceUs start b).2.cfg = b.cfg ∧
    (sinceUs start b).2.clock.ticks = b.clock.ticks ∧ (sinceUs start b).2.clock.running = b.clock.running ∧ (sinceUs start b).2.pins = b.pins ∧
    (sinceUs start b).2.pwr.rest = b.pwr.rest ∧ (sinceUs start b).2.act = b.act ∧ (sinceUs start b).2.recs = b.recs ∧
    (sinceUs start b).2.out = b.out ∧ (sinceUs start b).2.bist = b.bist ∧ (sinceUs start b).2.bal = b.bal ∧ (sinceUs start b).2.cw = b.cw ∧
    (sinceUs start b).2.fen = b.fen ∧ (sinceUs start b).2.cap = b.cap ∧ (sinceUs start b).2.spi = b.spi := by
  unfold sinceUs; simp
@[simp] theorem stepDone_keeps (b : Block) :
    (stepDone b).lc = b.lc ∧ (stepDone b).fw = b.fw ∧ (stepDone b).cfg = b.cfg ∧ (stepDone b).clock.ticks = b.clock.ticks ∧
    (stepDone b).clock.running = b.clock.running ∧ (stepDone b).pins = b.pins ∧ (stepDone b).pwr.rest = b.pwr.rest ∧ (stepDone b).act = b.act ∧
    (stepDone b).recs = b.recs ∧ (stepDone b).out = b.out ∧ (stepDone b).bist = b.bist ∧ (stepDone b).bal = b.bal ∧ (stepDone b).cw = b.cw ∧
    (stepDone b).fen = b.fen ∧ (stepDone b).cap = b.cap ∧ (stepDone b).spi = b.spi := by
  unfold stepDone; simp
@[simp] theorem fenStepComplete_keeps (b : Block) :
    (fenStepComplete b).lc = b.lc ∧ (fenStepComplete b).fw = b.fw ∧ (fenStepComplete b).cfg = b.cfg ∧
    (fenStepComplete b).clock.ticks = b.clock.ticks ∧ (fenStepComplete b).clock.running = b.clock.running ∧ (fenStepComplete b).pins = b.pins ∧
    (fenStepComplete b).pwr.rest = b.pwr.rest ∧ (fenStepComplete b).act = b.act ∧ (fenStepComplete b).recs = b.recs ∧
    (fenStepComplete b).out = b.out ∧ (fenStepComplete b).bist = b.bist ∧ (fenStepComplete b).cw = b.cw ∧ (fenStepComplete b).cap = b.cap ∧
    (fenStepComplete b).spi = b.spi := by
  unfold fenStepComplete; (try dsimp only); (repeat' split) <;> simp
@[simp] theorem layoutDone_keeps (b : Block) :
    (layoutDone b).lc = b.lc ∧ (layoutDone b).fw = b.fw ∧ (layoutDone b).cfg = b.cfg ∧ (layoutDone b).clock.ticks = b.clock.ticks ∧
    (layoutDone b).clock.running = b.clock.running ∧ (layoutDone b).pins = b.pins ∧ (layoutDone b).pwr.rest = b.pwr.rest ∧
    (layoutDone b).act = b.act ∧ (layoutDone b).recs = b.recs ∧ (layoutDone b).out = b.out ∧ (layoutDone b).bist = b.bist ∧
    (layoutDone b).bal = b.bal ∧ (layoutDone b).cw = b.cw ∧ (layoutDone b).cap = b.cap ∧ (layoutDone b).spi = b.spi := by
  unfold layoutDone; (try dsimp only); (repeat' split) <;> simp
@[simp] theorem setImgState_keeps (n : Nat) (b : Block) :
    (setImgState n b).lc = b.lc ∧ (setImgState n b).fw = b.fw ∧ (setImgState n b).cfg = b.cfg ∧ (setImgState n b).clock.ticks = b.clock.ticks ∧
    (setImgState n b).clock.running = b.clock.running ∧ (setImgState n b).pins = b.pins ∧ (setImgState n b).pwr.rest = b.pwr.rest ∧
    (setImgState n b).act = b.act ∧ (setImgState n b).recs = b.recs ∧ (setImgState n b).out = b.out ∧ (setImgState n b).bist = b.bist ∧
    (setImgState n b).bal = b.bal ∧ (setImgState n b).cw = b.cw ∧ (setImgState n b).fen = b.fen ∧ (setImgState n b).cap = b.cap ∧
    (setImgState n b).spi = b.spi := by
  unfold setImgState; simp
@[simp] theorem writeFenCtl_keeps (v : Word) (b : Block) :
    (writeFenCtl v b).lc = b.lc ∧ (writeFenCtl v b).fw = b.fw ∧ (writeFenCtl v b).cfg = b.cfg ∧ (writeFenCtl v b).clock.ticks = b.clock.ticks ∧
    (writeFenCtl v b).clock.running = b.clock.running ∧ (writeFenCtl v b).pins = b.pins ∧ (writeFenCtl v b).pwr.rest = b.pwr.rest ∧
    (writeFenCtl v b).act = b.act ∧ (writeFenCtl v b).recs = b.recs ∧ (writeFenCtl v b).out = b.out ∧ (writeFenCtl v b).bist = b.bist ∧
    (writeFenCtl v b).bal = b.bal ∧ (writeFenCtl v b).cw = b.cw ∧ (writeFenCtl v b).cap = b.cap ∧ (writeFenCtl v b).spi = b.spi := by
  unfold writeFenCtl; simp
@[simp] theorem throttle_keeps (temp : Int) (b : Block) :
    (throttle temp b).lc = b.lc ∧ (throttle temp b).fw = b.fw ∧ (throttle temp b).cfg = b.cfg ∧ (throttle temp b).clock.ticks = b.clock.ticks ∧
    (throttle temp b).clock.running = b.clock.running ∧ (throttle temp b).pins = b.pins ∧ (throttle temp b).pwr.rest = b.pwr.rest ∧
    (throttle temp b).act = b.act ∧ (throttle temp b).recs = b.recs ∧ (throttle temp b).out = b.out ∧ (throttle temp b).bist = b.bist ∧
    (throttle temp b).bal = b.bal ∧ (throttle temp b).cw = b.cw ∧ (throttle temp b).fen = b.fen ∧ (throttle temp b).cap = b.cap ∧
    (throttle temp b).spi = b.spi := by
  unfold throttle; simp
@[simp] theorem rebuildStart_keeps (b : Block) :
    (rebuildStart b).lc = b.lc ∧ (rebuildStart b).fw = b.fw ∧ (rebuildStart b).cfg = b.cfg ∧ (rebuildStart b).clock.ticks = b.clock.ticks ∧
    (rebuildStart b).clock.running = b.clock.running ∧ (rebuildStart b).pins = b.pins ∧ (rebuildStart b).pwr.rest = b.pwr.rest ∧
    (rebuildStart b).act = b.act ∧ (rebuildStart b).recs = b.recs ∧ (rebuildStart b).out = b.out ∧ (rebuildStart b).bist = b.bist ∧
    (rebuildStart b).bal = b.bal ∧ (rebuildStart b).cw = b.cw ∧ (rebuildStart b).cap = b.cap ∧ (rebuildStart b).spi = b.spi := by
  unfold rebuildStart; simp
@[simp] theorem rebuildDone_keeps (cells : List RefitCell) (crcOk : Bool) (b : Block) :
    (rebuildDone cells crcOk b).lc = b.lc ∧ (rebuildDone cells crcOk b).fw = b.fw ∧ (rebuildDone cells crcOk b).cfg = b.cfg ∧
    (rebuildDone cells crcOk b).clock.ticks = b.clock.ticks ∧ (rebuildDone cells crcOk b).clock.running = b.clock.running ∧
    (rebuildDone cells crcOk b).pins = b.pins ∧ (rebuildDone cells crcOk b).pwr.rest = b.pwr.rest ∧ (rebuildDone cells crcOk b).act = b.act ∧
    (rebuildDone cells crcOk b).recs = b.recs ∧ (rebuildDone cells crcOk b).out = b.out ∧ (rebuildDone cells crcOk b).bist = b.bist ∧
    (rebuildDone cells crcOk b).bal = b.bal ∧ (rebuildDone cells crcOk b).cw = b.cw ∧ (rebuildDone cells crcOk b).cap = b.cap ∧
    (rebuildDone cells crcOk b).spi = b.spi := by
  unfold rebuildDone; simp
@[simp] theorem stageMoved_keeps (n : Nat) (b : Block) :
    (stageMoved n b).lc = b.lc ∧ (stageMoved n b).fw = b.fw ∧ (stageMoved n b).cfg = b.cfg ∧ (stageMoved n b).clock.ticks = b.clock.ticks ∧
    (stageMoved n b).clock.running = b.clock.running ∧ (stageMoved n b).pins = b.pins ∧ (stageMoved n b).pwr.rest = b.pwr.rest ∧
    (stageMoved n b).act = b.act ∧ (stageMoved n b).recs = b.recs ∧ (stageMoved n b).out = b.out ∧ (stageMoved n b).bist = b.bist ∧
    (stageMoved n b).bal = b.bal ∧ (stageMoved n b).cw = b.cw ∧ (stageMoved n b).cap = b.cap ∧ (stageMoved n b).spi = b.spi := by
  unfold stageMoved; simp
@[simp] theorem writeWaddr_keeps (v : Word) (b : Block) :
    (writeWaddr v b).lc = b.lc ∧ (writeWaddr v b).fw = b.fw ∧ (writeWaddr v b).cfg = b.cfg ∧ (writeWaddr v b).clock.ticks = b.clock.ticks ∧
    (writeWaddr v b).clock.running = b.clock.running ∧ (writeWaddr v b).pins = b.pins ∧ (writeWaddr v b).pwr.rest = b.pwr.rest ∧
    (writeWaddr v b).act = b.act ∧ (writeWaddr v b).recs = b.recs ∧ (writeWaddr v b).out = b.out ∧ (writeWaddr v b).bist = b.bist ∧
    (writeWaddr v b).bal = b.bal ∧ (writeWaddr v b).cw = b.cw ∧ (writeWaddr v b).cap = b.cap ∧ (writeWaddr v b).spi = b.spi := by
  unfold writeWaddr; simp
@[simp] theorem writeWdata_keeps (v : Word) (b : Block) :
    (writeWdata v b).lc = b.lc ∧ (writeWdata v b).fw = b.fw ∧ (writeWdata v b).cfg = b.cfg ∧ (writeWdata v b).clock.ticks = b.clock.ticks ∧
    (writeWdata v b).clock.running = b.clock.running ∧ (writeWdata v b).pins = b.pins ∧ (writeWdata v b).pwr.rest = b.pwr.rest ∧
    (writeWdata v b).act = b.act ∧ (writeWdata v b).recs = b.recs ∧ (writeWdata v b).out = b.out ∧ (writeWdata v b).bist = b.bist ∧
    (writeWdata v b).bal = b.bal ∧ (writeWdata v b).cw = b.cw ∧ (writeWdata v b).cap = b.cap ∧ (writeWdata v b).spi = b.spi := by
  unfold writeWdata; simp
@[simp] theorem imgClear_keeps (b : Block) :
    (imgClear b).lc = b.lc ∧ (imgClear b).fw = b.fw ∧ (imgClear b).cfg = b.cfg ∧ (imgClear b).clock.ticks = b.clock.ticks ∧
    (imgClear b).clock.running = b.clock.running ∧ (imgClear b).pins = b.pins ∧ (imgClear b).pwr.rest = b.pwr.rest ∧ (imgClear b).act = b.act ∧
    (imgClear b).recs = b.recs ∧ (imgClear b).out = b.out ∧ (imgClear b).bist = b.bist ∧ (imgClear b).bal = b.bal ∧ (imgClear b).cw = b.cw ∧
    (imgClear b).cap = b.cap ∧ (imgClear b).spi = b.spi := by
  unfold imgClear; (try dsimp only); (repeat' split) <;> simp
@[simp] theorem imgValidate_keeps (b : Block) :
    (imgValidate b).lc = b.lc ∧ (imgValidate b).fw = b.fw ∧ (imgValidate b).cfg = b.cfg ∧ (imgValidate b).clock.ticks = b.clock.ticks ∧
    (imgValidate b).clock.running = b.clock.running ∧ (imgValidate b).pins = b.pins ∧ (imgValidate b).pwr.rest = b.pwr.rest ∧
    (imgValidate b).act = b.act ∧ (imgValidate b).recs = b.recs ∧ (imgValidate b).out = b.out ∧ (imgValidate b).bist = b.bist ∧
    (imgValidate b).bal = b.bal ∧ (imgValidate b).cw = b.cw ∧ (imgValidate b).fen = b.fen ∧ (imgValidate b).cap = b.cap ∧
    (imgValidate b).spi = b.spi := by
  unfold imgValidate; (try dsimp only); (repeat' split) <;> simp
@[simp] theorem imgSwapAsk_keeps (b : Block) :
    (imgSwapAsk b).lc = b.lc ∧ (imgSwapAsk b).fw = b.fw ∧ (imgSwapAsk b).cfg = b.cfg ∧ (imgSwapAsk b).clock.ticks = b.clock.ticks ∧
    (imgSwapAsk b).clock.running = b.clock.running ∧ (imgSwapAsk b).pins = b.pins ∧ (imgSwapAsk b).pwr.rest = b.pwr.rest ∧
    (imgSwapAsk b).act = b.act ∧ (imgSwapAsk b).recs = b.recs ∧ (imgSwapAsk b).out = b.out ∧ (imgSwapAsk b).bist = b.bist ∧
    (imgSwapAsk b).bal = b.bal ∧ (imgSwapAsk b).cw = b.cw ∧ (imgSwapAsk b).cap = b.cap ∧ (imgSwapAsk b).spi = b.spi := by
  unfold imgSwapAsk; (try dsimp only); (repeat' split) <;> simp
@[simp] theorem validationDone_keeps (b : Block) :
    (validationDone b).lc = b.lc ∧ (validationDone b).fw = b.fw ∧ (validationDone b).cfg = b.cfg ∧ (validationDone b).clock.ticks = b.clock.ticks ∧
    (validationDone b).clock.running = b.clock.running ∧ (validationDone b).pins = b.pins ∧ (validationDone b).pwr.rest = b.pwr.rest ∧
    (validationDone b).act = b.act ∧ (validationDone b).recs = b.recs ∧ (validationDone b).out = b.out ∧ (validationDone b).bist = b.bist ∧
    (validationDone b).bal = b.bal ∧ (validationDone b).cw = b.cw ∧ (validationDone b).cap = b.cap ∧ (validationDone b).spi = b.spi := by
  unfold validationDone; (try dsimp only); (repeat' split) <;> simp
@[simp] theorem buildStart_keeps (b : Block) :
    (buildStart b).lc = b.lc ∧ (buildStart b).fw = b.fw ∧ (buildStart b).cfg = b.cfg ∧ (buildStart b).clock.ticks = b.clock.ticks ∧
    (buildStart b).clock.running = b.clock.running ∧ (buildStart b).pins = b.pins ∧ (buildStart b).pwr.rest = b.pwr.rest ∧
    (buildStart b).act = b.act ∧ (buildStart b).recs = b.recs ∧ (buildStart b).out = b.out ∧ (buildStart b).bist = b.bist ∧
    (buildStart b).bal = b.bal ∧ (buildStart b).cw = b.cw ∧ (buildStart b).cap = b.cap ∧ (buildStart b).spi = b.spi := by
  unfold buildStart; simp
@[simp] theorem buildDone_keeps (crcOk : Bool) (b : Block) :
    (buildDone crcOk b).lc = b.lc ∧ (buildDone crcOk b).fw = b.fw ∧ (buildDone crcOk b).cfg = b.cfg ∧
    (buildDone crcOk b).clock.ticks = b.clock.ticks ∧ (buildDone crcOk b).clock.running = b.clock.running ∧ (buildDone crcOk b).pins = b.pins ∧
    (buildDone crcOk b).pwr.rest = b.pwr.rest ∧ (buildDone crcOk b).act = b.act ∧ (buildDone crcOk b).recs = b.recs ∧
    (buildDone crcOk b).out = b.out ∧ (buildDone crcOk b).bist = b.bist ∧ (buildDone crcOk b).bal = b.bal ∧ (buildDone crcOk b).cw = b.cw ∧
    (buildDone crcOk b).cap = b.cap ∧ (buildDone crcOk b).spi = b.spi := by
  unfold buildDone; (try dsimp only); (repeat' split) <;> simp
@[simp] theorem estimatesInvalid_keeps (b : Block) :
    (estimatesInvalid b).lc = b.lc ∧ (estimatesInvalid b).fw = b.fw ∧ (estimatesInvalid b).cfg = b.cfg ∧
    (estimatesInvalid b).clock.ticks = b.clock.ticks ∧ (estimatesInvalid b).clock.running = b.clock.running ∧ (estimatesInvalid b).pins = b.pins ∧
    (estimatesInvalid b).pwr.rest = b.pwr.rest ∧ (estimatesInvalid b).act = b.act ∧ (estimatesInvalid b).recs = b.recs ∧
    (estimatesInvalid b).out = b.out ∧ (estimatesInvalid b).bist = b.bist ∧ (estimatesInvalid b).bal = b.bal ∧ (estimatesInvalid b).cw = b.cw ∧
    (estimatesInvalid b).fen = b.fen ∧ (estimatesInvalid b).cap = b.cap ∧ (estimatesInvalid b).spi = b.spi := by
  unfold estimatesInvalid; simp
@[simp] theorem noImage_keeps (b : Block) :
    (noImage b).lc = b.lc ∧ (noImage b).fw = b.fw ∧ (noImage b).cfg = b.cfg ∧ (noImage b).clock.ticks = b.clock.ticks ∧
    (noImage b).clock.running = b.clock.running ∧ (noImage b).pins = b.pins ∧ (noImage b).pwr.rest = b.pwr.rest ∧ (noImage b).act = b.act ∧
    (noImage b).recs = b.recs ∧ (noImage b).out = b.out ∧ (noImage b).bist = b.bist ∧ (noImage b).bal = b.bal ∧ (noImage b).cw = b.cw ∧
    (noImage b).cap = b.cap ∧ (noImage b).spi = b.spi := by
  unfold noImage; simp
@[simp] theorem cancelSwap_keeps (result : Nat) (b : Block) :
    (cancelSwap result b).lc = b.lc ∧ (cancelSwap result b).fw = b.fw ∧ (cancelSwap result b).cfg = b.cfg ∧
    (cancelSwap result b).clock.ticks = b.clock.ticks ∧ (cancelSwap result b).clock.running = b.clock.running ∧ (cancelSwap result b).pins = b.pins ∧
    (cancelSwap result b).pwr.rest = b.pwr.rest ∧ (cancelSwap result b).act = b.act ∧ (cancelSwap result b).recs = b.recs ∧
    (cancelSwap result b).out = b.out ∧ (cancelSwap result b).bist = b.bist ∧ (cancelSwap result b).bal = b.bal ∧ (cancelSwap result b).cw = b.cw ∧
    (cancelSwap result b).cap = b.cap ∧ (cancelSwap result b).spi = b.spi := by
  unfold cancelSwap; simp
@[simp] theorem imageInvalid_keeps (b : Block) :
    (imageInvalid b).lc = b.lc ∧ (imageInvalid b).fw = b.fw ∧ (imageInvalid b).cfg = b.cfg ∧ (imageInvalid b).clock.ticks = b.clock.ticks ∧
    (imageInvalid b).clock.running = b.clock.running ∧ (imageInvalid b).pins = b.pins ∧ (imageInvalid b).pwr.rest = b.pwr.rest ∧
    (imageInvalid b).act = b.act ∧ (imageInvalid b).recs = b.recs ∧ (imageInvalid b).out = b.out ∧ (imageInvalid b).bist = b.bist ∧
    (imageInvalid b).bal = b.bal ∧ (imageInvalid b).cw = b.cw ∧ (imageInvalid b).cap = b.cap ∧ (imageInvalid b).spi = b.spi := by
  unfold imageInvalid; simp
@[simp] theorem stageLost_keeps (b : Block) :
    (stageLost b).lc = b.lc ∧ (stageLost b).fw = b.fw ∧ (stageLost b).cfg = b.cfg ∧ (stageLost b).clock.ticks = b.clock.ticks ∧
    (stageLost b).clock.running = b.clock.running ∧ (stageLost b).pins = b.pins ∧ (stageLost b).pwr.rest = b.pwr.rest ∧ (stageLost b).act = b.act ∧
    (stageLost b).recs = b.recs ∧ (stageLost b).out = b.out ∧ (stageLost b).bist = b.bist ∧ (stageLost b).bal = b.bal ∧ (stageLost b).cw = b.cw ∧
    (stageLost b).cap = b.cap ∧ (stageLost b).spi = b.spi := by
  unfold stageLost; (try dsimp only); (repeat' split) <;> simp
@[simp] theorem resetBut_keeps (kept a : Nat) (b : Block) :
    (resetBut kept a b).lc = b.lc ∧ (resetBut kept a b).fw = b.fw ∧ (resetBut kept a b).cfg = b.cfg ∧
    (resetBut kept a b).clock.ticks = b.clock.ticks ∧ (resetBut kept a b).clock.running = b.clock.running ∧ (resetBut kept a b).pins = b.pins ∧
    (resetBut kept a b).pwr.rest = b.pwr.rest ∧ (resetBut kept a b).act = b.act ∧ (resetBut kept a b).recs = b.recs ∧
    (resetBut kept a b).out = b.out ∧ (resetBut kept a b).bist = b.bist ∧ (resetBut kept a b).bal = b.bal ∧ (resetBut kept a b).cw = b.cw ∧
    (resetBut kept a b).fen = b.fen ∧ (resetBut kept a b).cap = b.cap ∧ (resetBut kept a b).spi = b.spi := by
  unfold resetBut; simp
@[simp] theorem fenResetStart_keeps (crcBad : Bool) (b : Block) :
    (fenResetStart crcBad b).lc = b.lc ∧ (fenResetStart crcBad b).fw = b.fw ∧ (fenResetStart crcBad b).cfg = b.cfg ∧
    (fenResetStart crcBad b).clock.ticks = b.clock.ticks ∧ (fenResetStart crcBad b).clock.running = b.clock.running ∧
    (fenResetStart crcBad b).pins = b.pins ∧ (fenResetStart crcBad b).pwr.rest = b.pwr.rest ∧ (fenResetStart crcBad b).act = b.act ∧
    (fenResetStart crcBad b).recs = b.recs ∧ (fenResetStart crcBad b).out = b.out ∧ (fenResetStart crcBad b).bist = b.bist ∧
    (fenResetStart crcBad b).bal = b.bal ∧ (fenResetStart crcBad b).cw = b.cw ∧ (fenResetStart crcBad b).cap = b.cap ∧
    (fenResetStart crcBad b).spi = b.spi := by
  unfold fenResetStart; simp
@[simp] theorem fenResetEnd_keeps (b : Block) :
    (fenResetEnd b).lc = b.lc ∧ (fenResetEnd b).fw = b.fw ∧ (fenResetEnd b).cfg = b.cfg ∧ (fenResetEnd b).clock.ticks = b.clock.ticks ∧
    (fenResetEnd b).clock.running = b.clock.running ∧ (fenResetEnd b).pins = b.pins ∧ (fenResetEnd b).pwr.rest = b.pwr.rest ∧
    (fenResetEnd b).act = b.act ∧ (fenResetEnd b).recs = b.recs ∧ (fenResetEnd b).out = b.out ∧ (fenResetEnd b).bist = b.bist ∧
    (fenResetEnd b).bal = b.bal ∧ (fenResetEnd b).cw = b.cw ∧ (fenResetEnd b).cap = b.cap ∧ (fenResetEnd b).spi = b.spi := by
  unfold fenResetEnd; simp
@[simp] theorem writeImgCtl_keeps (v : Word) (b : Block) :
    (writeImgCtl v b).lc = b.lc ∧ (writeImgCtl v b).fw = b.fw ∧ (writeImgCtl v b).cfg = b.cfg ∧ (writeImgCtl v b).clock.ticks = b.clock.ticks ∧
    (writeImgCtl v b).clock.running = b.clock.running ∧ (writeImgCtl v b).pins = b.pins ∧ (writeImgCtl v b).pwr.rest = b.pwr.rest ∧
    (writeImgCtl v b).act = b.act ∧ (writeImgCtl v b).recs = b.recs ∧ (writeImgCtl v b).out = b.out ∧ (writeImgCtl v b).bist = b.bist ∧
    (writeImgCtl v b).bal = b.bal ∧ (writeImgCtl v b).cw = b.cw ∧ (writeImgCtl v b).cap = b.cap ∧ (writeImgCtl v b).spi = b.spi := by
  unfold writeImgCtl; simp

end Sys2Proof.Machine
end

