-- ==== Sys2Proof/Laws/KeepLedger.lean ====
section
/-! SUPPORT. What each operation of Machine/Ledger.lean leaves alone: a `…_keeps` lemma lists the fields of the block that read after it as before. -/

namespace Sys2Proof.Machine

set_option linter.all false

@[simp] theorem journalWrite_keeps (b : Block) :
    (journalWrite b).lc = b.lc ∧ (journalWrite b).fw = b.fw ∧ (journalWrite b).cfg = b.cfg ∧ (journalWrite b).clock.ticks = b.clock.ticks ∧
    (journalWrite b).clock.running = b.clock.running ∧ (journalWrite b).pins = b.pins ∧ (journalWrite b).pwr.rest = b.pwr.rest ∧
    (journalWrite b).act = b.act ∧ (journalWrite b).recs = b.recs ∧ (journalWrite b).out = b.out ∧ (journalWrite b).bist = b.bist ∧
    (journalWrite b).bal = b.bal ∧ (journalWrite b).cw = b.cw ∧ (journalWrite b).fen = b.fen ∧ (journalWrite b).cap = b.cap ∧
    (journalWrite b).spi = b.spi := by
  unfold journalWrite; simp
@[simp] theorem ledAccumulate_keeps (b : Block) :
    (ledAccumulate b).lc = b.lc ∧ (ledAccumulate b).fw = b.fw ∧ (ledAccumulate b).cfg = b.cfg ∧ (ledAccumulate b).clock.ticks = b.clock.ticks ∧
    (ledAccumulate b).clock.running = b.clock.running ∧ (ledAccumulate b).pins = b.pins ∧ (ledAccumulate b).pwr.rest = b.pwr.rest ∧
    (ledAccumulate b).act = b.act ∧ (ledAccumulate b).recs = b.recs ∧ (ledAccumulate b).out = b.out ∧ (ledAccumulate b).bist = b.bist ∧
    (ledAccumulate b).bal = b.bal ∧ (ledAccumulate b).cw = b.cw ∧ (ledAccumulate b).fen = b.fen ∧ (ledAccumulate b).cap = b.cap ∧
    (ledAccumulate b).spi = b.spi := by
  unfold ledAccumulate; simp
@[simp] theorem histogramSecond_keeps (b : Block) :
    (histogramSecond b).lc = b.lc ∧ (histogramSecond b).fw = b.fw ∧ (histogramSecond b).cfg = b.cfg ∧
    (histogramSecond b).clock.ticks = b.clock.ticks ∧ (histogramSecond b).clock.running = b.clock.running ∧ (histogramSecond b).pins = b.pins ∧
    (histogramSecond b).pwr.rest = b.pwr.rest ∧ (histogramSecond b).act = b.act ∧ (histogramSecond b).recs = b.recs ∧
    (histogramSecond b).out = b.out ∧ (histogramSecond b).bist = b.bist ∧ (histogramSecond b).bal = b.bal ∧ (histogramSecond b).cw = b.cw ∧
    (histogramSecond b).fen = b.fen ∧ (histogramSecond b).cap = b.cap ∧ (histogramSecond b).spi = b.spi := by
  unfold histogramSecond; simp
@[simp] theorem parkSeconds_keeps (secs : Nat) (b : Block) :
    (parkSeconds secs b).lc = b.lc ∧ (parkSeconds secs b).fw = b.fw ∧ (parkSeconds secs b).cfg = b.cfg ∧
    (parkSeconds secs b).clock.ticks = b.clock.ticks ∧ (parkSeconds secs b).clock.running = b.clock.running ∧ (parkSeconds secs b).pins = b.pins ∧
    (parkSeconds secs b).pwr.rest = b.pwr.rest ∧ (parkSeconds secs b).act = b.act ∧ (parkSeconds secs b).recs = b.recs ∧
    (parkSeconds secs b).out = b.out ∧ (parkSeconds secs b).bist = b.bist ∧ (parkSeconds secs b).bal = b.bal ∧ (parkSeconds secs b).cw = b.cw ∧
    (parkSeconds secs b).fen = b.fen ∧ (parkSeconds secs b).cap = b.cap ∧ (parkSeconds secs b).spi = b.spi := by
  unfold parkSeconds; simp
@[simp] theorem flushStart_keeps (b : Block) :
    (flushStart b).lc = b.lc ∧ (flushStart b).fw = b.fw ∧ (flushStart b).cfg = b.cfg ∧ (flushStart b).clock.ticks = b.clock.ticks ∧
    (flushStart b).clock.running = b.clock.running ∧ (flushStart b).pins = b.pins ∧ (flushStart b).pwr.rest = b.pwr.rest ∧
    (flushStart b).act = b.act ∧ (flushStart b).recs = b.recs ∧ (flushStart b).out = b.out ∧ (flushStart b).bist = b.bist ∧
    (flushStart b).bal = b.bal ∧ (flushStart b).cw = b.cw ∧ (flushStart b).fen = b.fen ∧ (flushStart b).cap = b.cap ∧ (flushStart b).spi = b.spi := by
  unfold flushStart; simp
@[simp] theorem flushDone_keeps (img : LedImage) (b : Block) :
    (flushDone img b).lc = b.lc ∧ (flushDone img b).fw = b.fw ∧ (flushDone img b).cfg = b.cfg ∧ (flushDone img b).clock.ticks = b.clock.ticks ∧
    (flushDone img b).clock.running = b.clock.running ∧ (flushDone img b).pins = b.pins ∧ (flushDone img b).pwr.rest = b.pwr.rest ∧
    (flushDone img b).act = b.act ∧ (flushDone img b).recs = b.recs ∧ (flushDone img b).out = b.out ∧ (flushDone img b).bist = b.bist ∧
    (flushDone img b).bal = b.bal ∧ (flushDone img b).cw = b.cw ∧ (flushDone img b).fen = b.fen ∧ (flushDone img b).cap = b.cap ∧
    (flushDone img b).spi = b.spi := by
  unfold flushDone; simp
@[simp] theorem flushFail_keeps (img : LedImage) (addr : Nat) (b : Block) :
    (flushFail img addr b).lc = b.lc ∧ (flushFail img addr b).fw = b.fw ∧ (flushFail img addr b).cfg = b.cfg ∧
    (flushFail img addr b).clock.ticks = b.clock.ticks ∧ (flushFail img addr b).clock.running = b.clock.running ∧
    (flushFail img addr b).pins = b.pins ∧ (flushFail img addr b).pwr.rest = b.pwr.rest ∧ (flushFail img addr b).act = b.act ∧
    (flushFail img addr b).recs = b.recs ∧ (flushFail img addr b).bist = b.bist ∧ (flushFail img addr b).bal = b.bal ∧
    (flushFail img addr b).cw = b.cw ∧ (flushFail img addr b).fen = b.fen ∧ (flushFail img addr b).spi = b.spi := by
  unfold flushFail; simp
@[simp] theorem eraseNow_keeps (b : Block) :
    (eraseNow b).lc = b.lc ∧ (eraseNow b).fw = b.fw ∧ (eraseNow b).cfg = b.cfg ∧ (eraseNow b).clock.ticks = b.clock.ticks ∧
    (eraseNow b).clock.running = b.clock.running ∧ (eraseNow b).pins = b.pins ∧ (eraseNow b).pwr.rest = b.pwr.rest ∧ (eraseNow b).act = b.act ∧
    (eraseNow b).recs = b.recs ∧ (eraseNow b).out = b.out ∧ (eraseNow b).bist = b.bist ∧ (eraseNow b).bal = b.bal ∧ (eraseNow b).cw = b.cw ∧
    (eraseNow b).fen = b.fen ∧ (eraseNow b).cap = b.cap ∧ (eraseNow b).spi = b.spi := by
  unfold eraseNow; simp
@[simp] theorem commitTurn_keeps (b : Block) :
    (commitTurn b).lc = b.lc ∧ (commitTurn b).fw = b.fw ∧ (commitTurn b).clock.ticks = b.clock.ticks ∧
    (commitTurn b).clock.running = b.clock.running ∧ (commitTurn b).pins = b.pins ∧ (commitTurn b).pwr.rest = b.pwr.rest ∧
    (commitTurn b).act = b.act ∧ (commitTurn b).recs = b.recs ∧ (commitTurn b).out = b.out ∧ (commitTurn b).bist = b.bist ∧
    (commitTurn b).bal = b.bal ∧ (commitTurn b).cw = b.cw ∧ (commitTurn b).fen = b.fen ∧ (commitTurn b).cap = b.cap ∧ (commitTurn b).spi = b.spi := by
  unfold commitTurn; simp
@[simp] theorem flushEnd_keeps (fail : Option Nat) (b : Block) :
    (flushEnd fail b).lc = b.lc ∧ (flushEnd fail b).clock.ticks = b.clock.ticks ∧ (flushEnd fail b).clock.running = b.clock.running ∧
    (flushEnd fail b).pins = b.pins ∧ (flushEnd fail b).pwr.rest = b.pwr.rest ∧ (flushEnd fail b).act = b.act ∧ (flushEnd fail b).recs = b.recs ∧
    (flushEnd fail b).bist = b.bist ∧ (flushEnd fail b).bal = b.bal ∧ (flushEnd fail b).cw = b.cw ∧ (flushEnd fail b).fen = b.fen ∧
    (flushEnd fail b).spi = b.spi := by
  unfold flushEnd; (try dsimp only); (repeat' split) <;> simp
@[simp] theorem journalTick_keeps (b : Block) :
    (journalTick b).lc = b.lc ∧ (journalTick b).fw = b.fw ∧ (journalTick b).cfg = b.cfg ∧ (journalTick b).clock.ticks = b.clock.ticks ∧
    (journalTick b).clock.running = b.clock.running ∧ (journalTick b).pins = b.pins ∧ (journalTick b).pwr.rest = b.pwr.rest ∧
    (journalTick b).act = b.act ∧ (journalTick b).recs = b.recs ∧ (journalTick b).out = b.out ∧ (journalTick b).bist = b.bist ∧
    (journalTick b).bal = b.bal ∧ (journalTick b).cw = b.cw ∧ (journalTick b).fen = b.fen ∧ (journalTick b).cap = b.cap ∧
    (journalTick b).spi = b.spi := by
  unfold journalTick; simp
@[simp] theorem flushOwed_keeps (b : Block) :
    (flushOwed b).lc = b.lc ∧ (flushOwed b).fw = b.fw ∧ (flushOwed b).cfg = b.cfg ∧ (flushOwed b).clock.ticks = b.clock.ticks ∧
    (flushOwed b).clock.running = b.clock.running ∧ (flushOwed b).pins = b.pins ∧ (flushOwed b).pwr.rest = b.pwr.rest ∧ (flushOwed b).act = b.act ∧
    (flushOwed b).recs = b.recs ∧ (flushOwed b).out = b.out ∧ (flushOwed b).bist = b.bist ∧ (flushOwed b).bal = b.bal ∧ (flushOwed b).cw = b.cw ∧
    (flushOwed b).fen = b.fen ∧ (flushOwed b).cap = b.cap ∧ (flushOwed b).spi = b.spi := by
  unfold flushOwed; simp
@[simp] theorem flushPeriodic_keeps (b : Block) :
    (flushPeriodic b).lc = b.lc ∧ (flushPeriodic b).fw = b.fw ∧ (flushPeriodic b).cfg = b.cfg ∧ (flushPeriodic b).clock.ticks = b.clock.ticks ∧
    (flushPeriodic b).clock.running = b.clock.running ∧ (flushPeriodic b).pins = b.pins ∧ (flushPeriodic b).pwr.rest = b.pwr.rest ∧
    (flushPeriodic b).act = b.act ∧ (flushPeriodic b).recs = b.recs ∧ (flushPeriodic b).out = b.out ∧ (flushPeriodic b).bist = b.bist ∧
    (flushPeriodic b).bal = b.bal ∧ (flushPeriodic b).cw = b.cw ∧ (flushPeriodic b).fen = b.fen ∧ (flushPeriodic b).cap = b.cap ∧
    (flushPeriodic b).spi = b.spi := by
  unfold flushPeriodic; simp
@[simp] theorem eraseAsk_keeps (b : Block) :
    (eraseAsk b).lc = b.lc ∧ (eraseAsk b).fw = b.fw ∧ (eraseAsk b).cfg = b.cfg ∧ (eraseAsk b).clock.ticks = b.clock.ticks ∧
    (eraseAsk b).clock.running = b.clock.running ∧ (eraseAsk b).pins = b.pins ∧ (eraseAsk b).pwr.rest = b.pwr.rest ∧ (eraseAsk b).act = b.act ∧
    (eraseAsk b).recs = b.recs ∧ (eraseAsk b).out = b.out ∧ (eraseAsk b).bist = b.bist ∧ (eraseAsk b).bal = b.bal ∧ (eraseAsk b).cw = b.cw ∧
    (eraseAsk b).fen = b.fen ∧ (eraseAsk b).cap = b.cap ∧ (eraseAsk b).spi = b.spi := by
  unfold eraseAsk; simp
@[simp] theorem writeLedCtl_keeps (v : Word) (b : Block) :
    (writeLedCtl v b).lc = b.lc ∧ (writeLedCtl v b).fw = b.fw ∧ (writeLedCtl v b).cfg = b.cfg ∧ (writeLedCtl v b).clock.ticks = b.clock.ticks ∧
    (writeLedCtl v b).clock.running = b.clock.running ∧ (writeLedCtl v b).pins = b.pins ∧ (writeLedCtl v b).pwr.rest = b.pwr.rest ∧
    (writeLedCtl v b).act = b.act ∧ (writeLedCtl v b).recs = b.recs ∧ (writeLedCtl v b).out = b.out ∧ (writeLedCtl v b).bist = b.bist ∧
    (writeLedCtl v b).bal = b.bal ∧ (writeLedCtl v b).cw = b.cw ∧ (writeLedCtl v b).fen = b.fen ∧ (writeLedCtl v b).cap = b.cap ∧
    (writeLedCtl v b).spi = b.spi := by
  unfold writeLedCtl; simp
@[simp] theorem ledgerRestart_keeps (b : Block) :
    (ledgerRestart b).lc = b.lc ∧ (ledgerRestart b).fw = b.fw ∧ (ledgerRestart b).cfg = b.cfg ∧ (ledgerRestart b).clock.ticks = b.clock.ticks ∧
    (ledgerRestart b).clock.running = b.clock.running ∧ (ledgerRestart b).pins = b.pins ∧ (ledgerRestart b).pwr.rest = b.pwr.rest ∧
    (ledgerRestart b).act = b.act ∧ (ledgerRestart b).recs = b.recs ∧ (ledgerRestart b).out = b.out ∧ (ledgerRestart b).bist = b.bist ∧
    (ledgerRestart b).bal = b.bal ∧ (ledgerRestart b).cw = b.cw ∧ (ledgerRestart b).fen = b.fen ∧ (ledgerRestart b).cap = b.cap ∧
    (ledgerRestart b).spi = b.spi := by
  unfold ledgerRestart; simp
@[simp] theorem readLedData_keeps (b : Block) :
    (readLedData b).2.lc = b.lc ∧ (readLedData b).2.fw = b.fw ∧ (readLedData b).2.cfg = b.cfg ∧ (readLedData b).2.clock.ticks = b.clock.ticks ∧
    (readLedData b).2.clock.running = b.clock.running ∧ (readLedData b).2.pins = b.pins ∧ (readLedData b).2.pwr.rest = b.pwr.rest ∧
    (readLedData b).2.act = b.act ∧ (readLedData b).2.recs = b.recs ∧ (readLedData b).2.out = b.out ∧ (readLedData b).2.bist = b.bist ∧
    (readLedData b).2.bal = b.bal ∧ (readLedData b).2.cw = b.cw ∧ (readLedData b).2.fen = b.fen ∧ (readLedData b).2.cap = b.cap ∧
    (readLedData b).2.spi = b.spi := by
  unfold readLedData; simp
@[simp] theorem writeLedRd_keeps (v : Word) (b : Block) :
    (writeLedRd v b).lc = b.lc ∧ (writeLedRd v b).fw = b.fw ∧ (writeLedRd v b).cfg = b.cfg ∧ (writeLedRd v b).clock.ticks = b.clock.ticks ∧
    (writeLedRd v b).clock.running = b.clock.running ∧ (writeLedRd v b).pins = b.pins ∧ (writeLedRd v b).pwr.rest = b.pwr.rest ∧
    (writeLedRd v b).act = b.act ∧ (writeLedRd v b).recs = b.recs ∧ (writeLedRd v b).out = b.out ∧ (writeLedRd v b).bist = b.bist ∧
    (writeLedRd v b).bal = b.bal ∧ (writeLedRd v b).cw = b.cw ∧ (writeLedRd v b).fen = b.fen ∧ (writeLedRd v b).cap = b.cap ∧
    (writeLedRd v b).spi = b.spi := by
  unfold writeLedRd; simp

end Sys2Proof.Machine
end

