-- ==== Sys2Proof/Laws/KeepCommit.lean ====
section
/-! SUPPORT. What each operation of Machine/Commit.lean leaves alone: a `…_keeps` lemma lists the fields of the block that read after it as before. -/

namespace Sys2Proof.Machine

set_option linter.all false

@[simp] theorem commitAsk_keeps (b : Block) :
    (commitAsk b).lc = b.lc ∧ (commitAsk b).fw = b.fw ∧ (commitAsk b).cfg = b.cfg ∧ (commitAsk b).clock.ticks = b.clock.ticks ∧
    (commitAsk b).clock.running = b.clock.running ∧ (commitAsk b).pins = b.pins ∧ (commitAsk b).pwr.rest = b.pwr.rest ∧ (commitAsk b).act = b.act ∧
    (commitAsk b).recs = b.recs ∧ (commitAsk b).out = b.out ∧ (commitAsk b).bist = b.bist ∧ (commitAsk b).bal = b.bal ∧ (commitAsk b).cw = b.cw ∧
    (commitAsk b).fen = b.fen ∧ (commitAsk b).cap = b.cap ∧ (commitAsk b).spi = b.spi := by
  unfold commitAsk; simp
@[simp] theorem writeFeCommit_keeps (v : Word) (b : Block) :
    (writeFeCommit v b).lc = b.lc ∧ (writeFeCommit v b).fw = b.fw ∧ (writeFeCommit v b).cfg = b.cfg ∧
    (writeFeCommit v b).clock.ticks = b.clock.ticks ∧ (writeFeCommit v b).clock.running = b.clock.running ∧ (writeFeCommit v b).pins = b.pins ∧
    (writeFeCommit v b).pwr.rest = b.pwr.rest ∧ (writeFeCommit v b).act = b.act ∧ (writeFeCommit v b).recs = b.recs ∧
    (writeFeCommit v b).out = b.out ∧ (writeFeCommit v b).bist = b.bist ∧ (writeFeCommit v b).bal = b.bal ∧ (writeFeCommit v b).cw = b.cw ∧
    (writeFeCommit v b).fen = b.fen ∧ (writeFeCommit v b).cap = b.cap ∧ (writeFeCommit v b).spi = b.spi := by
  unfold writeFeCommit; simp
@[simp] theorem activeRegs_keeps (b : Block) :
    (activeRegs b).lc = b.lc ∧ (activeRegs b).fw = b.fw ∧ (activeRegs b).cfg = b.cfg ∧ (activeRegs b).clock.ticks = b.clock.ticks ∧
    (activeRegs b).clock.running = b.clock.running ∧ (activeRegs b).pins = b.pins ∧ (activeRegs b).pwr.rest = b.pwr.rest ∧
    (activeRegs b).act = b.act ∧ (activeRegs b).recs = b.recs ∧ (activeRegs b).out = b.out ∧ (activeRegs b).bist = b.bist ∧
    (activeRegs b).bal = b.bal ∧ (activeRegs b).cw = b.cw ∧ (activeRegs b).fen = b.fen ∧ (activeRegs b).cap = b.cap ∧ (activeRegs b).spi = b.spi := by
  unfold activeRegs; simp
@[simp] theorem cellEnChange_keeps (old : List (Nat × Word)) (b : Block) :
    (cellEnChange old b).lc = b.lc ∧ (cellEnChange old b).fw = b.fw ∧ (cellEnChange old b).cfg = b.cfg ∧
    (cellEnChange old b).clock.ticks = b.clock.ticks ∧ (cellEnChange old b).clock.running = b.clock.running ∧ (cellEnChange old b).pins = b.pins ∧
    (cellEnChange old b).pwr.rest = b.pwr.rest ∧ (cellEnChange old b).act = b.act ∧ (cellEnChange old b).recs = b.recs ∧
    (cellEnChange old b).out = b.out ∧ (cellEnChange old b).bist = b.bist ∧ (cellEnChange old b).cw = b.cw ∧ (cellEnChange old b).cap = b.cap ∧
    (cellEnChange old b).spi = b.spi := by
  unfold cellEnChange; simp
@[simp] theorem spoilAll_keeps (used : Sweep → Bool) (b : Block) :
    (spoilAll used b).lc = b.lc ∧ (spoilAll used b).fw = b.fw ∧ (spoilAll used b).cfg = b.cfg ∧ (spoilAll used b).clock.ticks = b.clock.ticks ∧
    (spoilAll used b).clock.running = b.clock.running ∧ (spoilAll used b).pins = b.pins ∧ (spoilAll used b).pwr.rest = b.pwr.rest ∧
    (spoilAll used b).act = b.act ∧ (spoilAll used b).recs = b.recs ∧ (spoilAll used b).out = b.out ∧ (spoilAll used b).bist = b.bist ∧
    (spoilAll used b).bal = b.bal ∧ (spoilAll used b).cw = b.cw ∧ (spoilAll used b).fen = b.fen ∧ (spoilAll used b).cap = b.cap ∧
    (spoilAll used b).spi = b.spi := by
  unfold spoilAll; (try dsimp only); (repeat' split) <;> simp
@[simp] theorem applySet2_keeps (s : List (Nat × Word)) (b : Block) :
    (applySet2 s b).lc = b.lc ∧ (applySet2 s b).fw = b.fw ∧ (applySet2 s b).cfg = b.cfg ∧ (applySet2 s b).clock.ticks = b.clock.ticks ∧
    (applySet2 s b).clock.running = b.clock.running ∧ (applySet2 s b).pins = b.pins ∧ (applySet2 s b).pwr.rest = b.pwr.rest ∧
    (applySet2 s b).recs = b.recs ∧ (applySet2 s b).out = b.out ∧ (applySet2 s b).bist = b.bist ∧ (applySet2 s b).cw = b.cw ∧
    (applySet2 s b).cap = b.cap ∧ (applySet2 s b).spi = b.spi := by
  unfold applySet2; simp
@[simp] theorem cfgWriteDone_keeps (rejected : Bool) (b : Block) :
    (cfgWriteDone rejected b).lc = b.lc ∧ (cfgWriteDone rejected b).fw = b.fw ∧ (cfgWriteDone rejected b).cfg = b.cfg ∧
    (cfgWriteDone rejected b).clock.ticks = b.clock.ticks ∧ (cfgWriteDone rejected b).clock.running = b.clock.running ∧
    (cfgWriteDone rejected b).pins = b.pins ∧ (cfgWriteDone rejected b).pwr.rest = b.pwr.rest ∧ (cfgWriteDone rejected b).act = b.act ∧
    (cfgWriteDone rejected b).recs = b.recs ∧ (cfgWriteDone rejected b).out = b.out ∧ (cfgWriteDone rejected b).bist = b.bist ∧
    (cfgWriteDone rejected b).bal = b.bal ∧ (cfgWriteDone rejected b).cw = b.cw ∧ (cfgWriteDone rejected b).fen = b.fen ∧
    (cfgWriteDone rejected b).cap = b.cap ∧ (cfgWriteDone rejected b).spi = b.spi := by
  unfold cfgWriteDone; simp
@[simp] theorem commitApply_keeps (b : Block) :
    (commitApply b).lc = b.lc ∧ (commitApply b).fw = b.fw ∧ (commitApply b).cfg = b.cfg ∧ (commitApply b).clock.ticks = b.clock.ticks ∧
    (commitApply b).clock.running = b.clock.running ∧ (commitApply b).pins = b.pins ∧ (commitApply b).pwr.rest = b.pwr.rest ∧
    (commitApply b).recs = b.recs ∧ (commitApply b).out = b.out ∧ (commitApply b).bist = b.bist ∧ (commitApply b).cw = b.cw ∧
    (commitApply b).cap = b.cap ∧ (commitApply b).spi = b.spi := by
  unfold commitApply; simp
@[simp] theorem notchPlace_keeps (b : Block) :
    (notchPlace b).lc = b.lc ∧ (notchPlace b).fw = b.fw ∧ (notchPlace b).cfg = b.cfg ∧ (notchPlace b).clock.ticks = b.clock.ticks ∧
    (notchPlace b).clock.running = b.clock.running ∧ (notchPlace b).pins = b.pins ∧ (notchPlace b).pwr.rest = b.pwr.rest ∧
    (notchPlace b).act = b.act ∧ (notchPlace b).recs = b.recs ∧ (notchPlace b).out = b.out ∧ (notchPlace b).bist = b.bist ∧
    (notchPlace b).bal = b.bal ∧ (notchPlace b).cw = b.cw ∧ (notchPlace b).fen = b.fen ∧ (notchPlace b).cap = b.cap ∧ (notchPlace b).spi = b.spi := by
  unfold notchPlace; (try dsimp only); (repeat' split) <;> simp (disch := (intros; (try dsimp only); (repeat' split) <;> (try simp)))
@[simp] theorem quietEnd_keeps (b : Block) :
    (quietEnd b).lc = b.lc ∧ (quietEnd b).fw = b.fw ∧ (quietEnd b).cfg = b.cfg ∧ (quietEnd b).clock.ticks = b.clock.ticks ∧
    (quietEnd b).clock.running = b.clock.running ∧ (quietEnd b).pins = b.pins ∧ (quietEnd b).pwr.rest = b.pwr.rest ∧ (quietEnd b).act = b.act ∧
    (quietEnd b).recs = b.recs ∧ (quietEnd b).out = b.out ∧ (quietEnd b).bist = b.bist ∧ (quietEnd b).bal = b.bal ∧ (quietEnd b).cw = b.cw ∧
    (quietEnd b).fen = b.fen ∧ (quietEnd b).cap = b.cap ∧ (quietEnd b).spi = b.spi := by
  unfold quietEnd; (try dsimp only); (repeat' split) <;> simp
@[simp] theorem quietStart_keeps (b : Block) :
    (quietStart b).lc = b.lc ∧ (quietStart b).fw = b.fw ∧ (quietStart b).cfg = b.cfg ∧ (quietStart b).clock.ticks = b.clock.ticks ∧
    (quietStart b).clock.running = b.clock.running ∧ (quietStart b).pins = b.pins ∧ (quietStart b).pwr.rest = b.pwr.rest ∧
    (quietStart b).act = b.act ∧ (quietStart b).recs = b.recs ∧ (quietStart b).out = b.out ∧ (quietStart b).bist = b.bist ∧
    (quietStart b).bal = b.bal ∧ (quietStart b).cw = b.cw ∧ (quietStart b).fen = b.fen ∧ (quietStart b).cap = b.cap ∧ (quietStart b).spi = b.spi := by
  unfold quietStart; simp

end Sys2Proof.Machine
end

