-- ==== Sys2Proof/Laws/KeepBoardwalk.lean ====
section
/-! SUPPORT. What each operation of Machine/Boardwalk.lean leaves alone: a `…_keeps` lemma lists the fields of the block that read after it as before. -/

namespace Sys2Proof.Machine

set_option linter.all false

@[simp] theorem putHop_keeps (h : Nat) (x : Hop) (b : Block) :
    (putHop h x b).lc = b.lc ∧ (putHop h x b).fw = b.fw ∧ (putHop h x b).cfg = b.cfg ∧ (putHop h x b).clock.ticks = b.clock.ticks ∧
    (putHop h x b).clock.running = b.clock.running ∧ (putHop h x b).pins = b.pins ∧ (putHop h x b).pwr.rest = b.pwr.rest ∧
    (putHop h x b).act = b.act ∧ (putHop h x b).recs = b.recs ∧ (putHop h x b).out = b.out ∧ (putHop h x b).bist = b.bist ∧
    (putHop h x b).bal = b.bal ∧ (putHop h x b).cw = b.cw ∧ (putHop h x b).fen = b.fen ∧ (putHop h x b).cap = b.cap ∧ (putHop h x b).spi = b.spi := by
  unfold putHop; simp
@[simp] theorem headSwitch_keeps (b : Block) :
    (headSwitch b).lc = b.lc ∧ (headSwitch b).fw = b.fw ∧ (headSwitch b).cfg = b.cfg ∧ (headSwitch b).clock.ticks = b.clock.ticks ∧
    (headSwitch b).clock.running = b.clock.running ∧ (headSwitch b).pins = b.pins ∧ (headSwitch b).pwr.rest = b.pwr.rest ∧
    (headSwitch b).act = b.act ∧ (headSwitch b).recs = b.recs ∧ (headSwitch b).out = b.out ∧ (headSwitch b).bist = b.bist ∧
    (headSwitch b).bal = b.bal ∧ (headSwitch b).cw = b.cw ∧ (headSwitch b).fen = b.fen ∧ (headSwitch b).cap = b.cap ∧ (headSwitch b).spi = b.spi := by
  unfold headSwitch; simp
@[simp] theorem ringLevels_keeps (b : Block) :
    (ringLevels b).lc = b.lc ∧ (ringLevels b).fw = b.fw ∧ (ringLevels b).cfg = b.cfg ∧ (ringLevels b).clock.ticks = b.clock.ticks ∧
    (ringLevels b).clock.running = b.clock.running ∧ (ringLevels b).pins = b.pins ∧ (ringLevels b).pwr.rest = b.pwr.rest ∧
    (ringLevels b).act = b.act ∧ (ringLevels b).recs = b.recs ∧ (ringLevels b).out = b.out ∧ (ringLevels b).bist = b.bist ∧
    (ringLevels b).bal = b.bal ∧ (ringLevels b).cw = b.cw ∧ (ringLevels b).fen = b.fen ∧ (ringLevels b).cap = b.cap ∧ (ringLevels b).spi = b.spi := by
  unfold ringLevels; simp
@[simp] theorem markersBack_keeps (b : Block) :
    (markersBack b).lc = b.lc ∧ (markersBack b).fw = b.fw ∧ (markersBack b).cfg = b.cfg ∧ (markersBack b).clock.ticks = b.clock.ticks ∧
    (markersBack b).clock.running = b.clock.running ∧ (markersBack b).pins = b.pins ∧ (markersBack b).pwr.rest = b.pwr.rest ∧
    (markersBack b).act = b.act ∧ (markersBack b).recs = b.recs ∧ (markersBack b).out = b.out ∧ (markersBack b).bist = b.bist ∧
    (markersBack b).cw = b.cw ∧ (markersBack b).fen = b.fen ∧ (markersBack b).cap = b.cap ∧ (markersBack b).spi = b.spi := by
  unfold markersBack; simp
@[simp] theorem hopBreak_keeps (h : Nat) (up : Bool) (errs : Nat) (b : Block) :
    (hopBreak h up errs b).lc = b.lc ∧ (hopBreak h up errs b).fw = b.fw ∧ (hopBreak h up errs b).cfg = b.cfg ∧
    (hopBreak h up errs b).clock.ticks = b.clock.ticks ∧ (hopBreak h up errs b).clock.running = b.clock.running ∧
    (hopBreak h up errs b).pins = b.pins ∧ (hopBreak h up errs b).pwr.rest = b.pwr.rest ∧ (hopBreak h up errs b).act = b.act ∧
    (hopBreak h up errs b).recs = b.recs ∧ (hopBreak h up errs b).out = b.out ∧ (hopBreak h up errs b).bist = b.bist ∧
    (hopBreak h up errs b).bal = b.bal ∧ (hopBreak h up errs b).cw = b.cw ∧ (hopBreak h up errs b).fen = b.fen ∧ (hopBreak h up errs b).cap = b.cap ∧
    (hopBreak h up errs b).spi = b.spi := by
  unfold hopBreak; simp
@[simp] theorem hopTrain_keeps (b : Block) :
    (hopTrain b).lc = b.lc ∧ (hopTrain b).fw = b.fw ∧ (hopTrain b).cfg = b.cfg ∧ (hopTrain b).clock.ticks = b.clock.ticks ∧
    (hopTrain b).clock.running = b.clock.running ∧ (hopTrain b).pins = b.pins ∧ (hopTrain b).pwr.rest = b.pwr.rest ∧ (hopTrain b).act = b.act ∧
    (hopTrain b).recs = b.recs ∧ (hopTrain b).out = b.out ∧ (hopTrain b).bist = b.bist ∧ (hopTrain b).bal = b.bal ∧ (hopTrain b).cw = b.cw ∧
    (hopTrain b).fen = b.fen ∧ (hopTrain b).cap = b.cap ∧ (hopTrain b).spi = b.spi := by
  unfold hopTrain; simp
@[simp] theorem errBreak_keeps (h : Nat) (b : Block) :
    (errBreak h b).lc = b.lc ∧ (errBreak h b).fw = b.fw ∧ (errBreak h b).cfg = b.cfg ∧ (errBreak h b).clock.ticks = b.clock.ticks ∧
    (errBreak h b).clock.running = b.clock.running ∧ (errBreak h b).pins = b.pins ∧ (errBreak h b).pwr.rest = b.pwr.rest ∧
    (errBreak h b).act = b.act ∧ (errBreak h b).recs = b.recs ∧ (errBreak h b).out = b.out ∧ (errBreak h b).bist = b.bist ∧
    (errBreak h b).bal = b.bal ∧ (errBreak h b).cw = b.cw ∧ (errBreak h b).fen = b.fen ∧ (errBreak h b).cap = b.cap ∧ (errBreak h b).spi = b.spi := by
  unfold errBreak; simp
@[simp] theorem rawTaken_keeps (t : Nat) (k : TierBlock) (b : Block) :
    (rawTaken t k b).lc = b.lc ∧ (rawTaken t k b).fw = b.fw ∧ (rawTaken t k b).cfg = b.cfg ∧ (rawTaken t k b).clock.ticks = b.clock.ticks ∧
    (rawTaken t k b).clock.running = b.clock.running ∧ (rawTaken t k b).pins = b.pins ∧ (rawTaken t k b).pwr.rest = b.pwr.rest ∧
    (rawTaken t k b).act = b.act ∧ (rawTaken t k b).recs = b.recs ∧ (rawTaken t k b).out = b.out ∧ (rawTaken t k b).bist = b.bist ∧
    (rawTaken t k b).bal = b.bal ∧ (rawTaken t k b).cw = b.cw ∧ (rawTaken t k b).fen = b.fen ∧ (rawTaken t k b).cap = b.cap ∧
    (rawTaken t k b).spi = b.spi := by
  unfold rawTaken; simp
@[simp] theorem blockArrives_keeps (t : Nat) (k : TierBlock) (b : Block) :
    (blockArrives t k b).lc = b.lc ∧ (blockArrives t k b).fw = b.fw ∧ (blockArrives t k b).cfg = b.cfg ∧
    (blockArrives t k b).clock.ticks = b.clock.ticks ∧ (blockArrives t k b).clock.running = b.clock.running ∧ (blockArrives t k b).pins = b.pins ∧
    (blockArrives t k b).pwr.rest = b.pwr.rest ∧ (blockArrives t k b).act = b.act ∧ (blockArrives t k b).recs = b.recs ∧
    (blockArrives t k b).bist = b.bist ∧ (blockArrives t k b).cw = b.cw ∧ (blockArrives t k b).fen = b.fen ∧ (blockArrives t k b).spi = b.spi := by
  unfold blockArrives; simp
@[simp] theorem repairLoad_keeps (ts : List Nat) (b : Block) :
    (repairLoad ts b).lc = b.lc ∧ (repairLoad ts b).fw = b.fw ∧ (repairLoad ts b).cfg = b.cfg ∧ (repairLoad ts b).clock.ticks = b.clock.ticks ∧
    (repairLoad ts b).clock.running = b.clock.running ∧ (repairLoad ts b).pins = b.pins ∧ (repairLoad ts b).pwr.rest = b.pwr.rest ∧
    (repairLoad ts b).act = b.act ∧ (repairLoad ts b).recs = b.recs ∧ (repairLoad ts b).out = b.out ∧ (repairLoad ts b).bal = b.bal ∧
    (repairLoad ts b).cw = b.cw ∧ (repairLoad ts b).fen = b.fen ∧ (repairLoad ts b).cap = b.cap ∧ (repairLoad ts b).spi = b.spi := by
  unfold repairLoad; simp
@[simp] theorem enumerate_keeps (e : EnumResult) (b : Block) :
    (enumerate e b).lc = b.lc ∧ (enumerate e b).fw = b.fw ∧ (enumerate e b).cfg = b.cfg ∧ (enumerate e b).clock.ticks = b.clock.ticks ∧
    (enumerate e b).clock.running = b.clock.running ∧ (enumerate e b).pins = b.pins ∧ (enumerate e b).pwr.rest = b.pwr.rest ∧
    (enumerate e b).act = b.act ∧ (enumerate e b).recs = b.recs ∧ (enumerate e b).out = b.out ∧ (enumerate e b).bist = b.bist ∧
    (enumerate e b).cw = b.cw ∧ (enumerate e b).fen = b.fen ∧ (enumerate e b).cap = b.cap ∧ (enumerate e b).spi = b.spi := by
  unfold enumerate; simp
@[simp] theorem enumEnd_keeps (e : EnumResult) (b : Block) :
    (enumEnd e b).lc = b.lc ∧ (enumEnd e b).fw = b.fw ∧ (enumEnd e b).cfg = b.cfg ∧ (enumEnd e b).clock.ticks = b.clock.ticks ∧
    (enumEnd e b).clock.running = b.clock.running ∧ (enumEnd e b).pins = b.pins ∧ (enumEnd e b).pwr.rest = b.pwr.rest ∧ (enumEnd e b).act = b.act ∧
    (enumEnd e b).recs = b.recs ∧ (enumEnd e b).out = b.out ∧ (enumEnd e b).cw = b.cw ∧ (enumEnd e b).fen = b.fen ∧ (enumEnd e b).cap = b.cap ∧
    (enumEnd e b).spi = b.spi := by
  unfold enumEnd; simp
@[simp] theorem enumTick_keeps (b : Block) :
    (enumTick b).lc = b.lc ∧ (enumTick b).fw = b.fw ∧ (enumTick b).cfg = b.cfg ∧ (enumTick b).clock.ticks = b.clock.ticks ∧
    (enumTick b).clock.running = b.clock.running ∧ (enumTick b).pins = b.pins ∧ (enumTick b).pwr.rest = b.pwr.rest ∧ (enumTick b).act = b.act ∧
    (enumTick b).recs = b.recs ∧ (enumTick b).out = b.out ∧ (enumTick b).cw = b.cw ∧ (enumTick b).fen = b.fen ∧ (enumTick b).cap = b.cap ∧
    (enumTick b).spi = b.spi := by
  unfold enumTick; (try dsimp only); (repeat' split) <;> simp
@[simp] theorem reenum_keeps (e : Option EnumResult) (b : Block) :
    (reenum e b).lc = b.lc ∧ (reenum e b).fw = b.fw ∧ (reenum e b).cfg = b.cfg ∧ (reenum e b).clock.ticks = b.clock.ticks ∧
    (reenum e b).clock.running = b.clock.running ∧ (reenum e b).pins = b.pins ∧ (reenum e b).pwr.rest = b.pwr.rest ∧ (reenum e b).act = b.act ∧
    (reenum e b).recs = b.recs ∧ (reenum e b).out = b.out ∧ (reenum e b).cw = b.cw ∧ (reenum e b).fen = b.fen ∧ (reenum e b).cap = b.cap ∧
    (reenum e b).spi = b.spi := by
  unfold reenum; simp
@[simp] theorem writeBwCtl_keeps (v : Word) (e : Option EnumResult) (b : Block) :
    (writeBwCtl v e b).lc = b.lc ∧ (writeBwCtl v e b).fw = b.fw ∧ (writeBwCtl v e b).cfg = b.cfg ∧ (writeBwCtl v e b).clock.ticks = b.clock.ticks ∧
    (writeBwCtl v e b).clock.running = b.clock.running ∧ (writeBwCtl v e b).pins = b.pins ∧ (writeBwCtl v e b).pwr.rest = b.pwr.rest ∧
    (writeBwCtl v e b).act = b.act ∧ (writeBwCtl v e b).recs = b.recs ∧ (writeBwCtl v e b).out = b.out ∧ (writeBwCtl v e b).cw = b.cw ∧
    (writeBwCtl v e b).fen = b.fen ∧ (writeBwCtl v e b).cap = b.cap ∧ (writeBwCtl v e b).spi = b.spi := by
  unfold writeBwCtl; simp
@[simp] theorem renumber_keeps (ts : List Nat) (ids : List Word) (b : Block) :
    (renumber ts ids b).lc = b.lc ∧ (renumber ts ids b).fw = b.fw ∧ (renumber ts ids b).cfg = b.cfg ∧
    (renumber ts ids b).clock.ticks = b.clock.ticks ∧ (renumber ts ids b).clock.running = b.clock.running ∧ (renumber ts ids b).pins = b.pins ∧
    (renumber ts ids b).pwr.rest = b.pwr.rest ∧ (renumber ts ids b).act = b.act ∧ (renumber ts ids b).recs = b.recs ∧
    (renumber ts ids b).out = b.out ∧ (renumber ts ids b).bist = b.bist ∧ (renumber ts ids b).bal = b.bal ∧ (renumber ts ids b).cw = b.cw ∧
    (renumber ts ids b).fen = b.fen ∧ (renumber ts ids b).cap = b.cap ∧ (renumber ts ids b).spi = b.spi := by
  unfold renumber; simp
@[simp] theorem hopRestore_keeps (h : Nat) (ids : List Word) (b : Block) :
    (hopRestore h ids b).lc = b.lc ∧ (hopRestore h ids b).fw = b.fw ∧ (hopRestore h ids b).cfg = b.cfg ∧
    (hopRestore h ids b).clock.ticks = b.clock.ticks ∧ (hopRestore h ids b).clock.running = b.clock.running ∧ (hopRestore h ids b).pins = b.pins ∧
    (hopRestore h ids b).pwr.rest = b.pwr.rest ∧ (hopRestore h ids b).act = b.act ∧ (hopRestore h ids b).recs = b.recs ∧
    (hopRestore h ids b).out = b.out ∧ (hopRestore h ids b).cw = b.cw ∧ (hopRestore h ids b).fen = b.fen ∧ (hopRestore h ids b).cap = b.cap ∧
    (hopRestore h ids b).spi = b.spi := by
  unfold hopRestore; simp
@[simp] theorem markerLoss_keeps (t : Nat) (b : Block) :
    (markerLoss t b).lc = b.lc ∧ (markerLoss t b).fw = b.fw ∧ (markerLoss t b).cfg = b.cfg ∧ (markerLoss t b).clock.ticks = b.clock.ticks ∧
    (markerLoss t b).clock.running = b.clock.running ∧ (markerLoss t b).pins = b.pins ∧ (markerLoss t b).pwr.rest = b.pwr.rest ∧
    (markerLoss t b).act = b.act ∧ (markerLoss t b).recs = b.recs ∧ (markerLoss t b).out = b.out ∧ (markerLoss t b).bist = b.bist ∧
    (markerLoss t b).cw = b.cw ∧ (markerLoss t b).fen = b.fen ∧ (markerLoss t b).cap = b.cap ∧ (markerLoss t b).spi = b.spi := by
  unfold markerLoss; (try dsimp only); (repeat' split) <;> simp
@[simp] theorem gatesMissed_keeps (t : Nat) (b : Block) :
    (gatesMissed t b).lc = b.lc ∧ (gatesMissed t b).fw = b.fw ∧ (gatesMissed t b).cfg = b.cfg ∧ (gatesMissed t b).clock.ticks = b.clock.ticks ∧
    (gatesMissed t b).clock.running = b.clock.running ∧ (gatesMissed t b).pins = b.pins ∧ (gatesMissed t b).pwr.rest = b.pwr.rest ∧
    (gatesMissed t b).act = b.act ∧ (gatesMissed t b).recs = b.recs ∧ (gatesMissed t b).out = b.out ∧ (gatesMissed t b).bist = b.bist ∧
    (gatesMissed t b).cw = b.cw ∧ (gatesMissed t b).fen = b.fen ∧ (gatesMissed t b).cap = b.cap ∧ (gatesMissed t b).spi = b.spi := by
  unfold gatesMissed; simp
@[simp] theorem ackBlocks_keeps (t : Nat) (b : Block) :
    (ackBlocks t b).lc = b.lc ∧ (ackBlocks t b).fw = b.fw ∧ (ackBlocks t b).cfg = b.cfg ∧ (ackBlocks t b).clock.ticks = b.clock.ticks ∧
    (ackBlocks t b).clock.running = b.clock.running ∧ (ackBlocks t b).pins = b.pins ∧ (ackBlocks t b).pwr.rest = b.pwr.rest ∧
    (ackBlocks t b).act = b.act ∧ (ackBlocks t b).recs = b.recs ∧ (ackBlocks t b).out = b.out ∧ (ackBlocks t b).bist = b.bist ∧
    (ackBlocks t b).bal = b.bal ∧ (ackBlocks t b).cw = b.cw ∧ (ackBlocks t b).fen = b.fen ∧ (ackBlocks t b).cap = b.cap ∧
    (ackBlocks t b).spi = b.spi := by
  unfold ackBlocks; simp
@[simp] theorem controlBlock_keeps (t : Nat) (missed : Bool) (b : Block) :
    (controlBlock t missed b).lc = b.lc ∧ (controlBlock t missed b).fw = b.fw ∧ (controlBlock t missed b).cfg = b.cfg ∧
    (controlBlock t missed b).clock.ticks = b.clock.ticks ∧ (controlBlock t missed b).clock.running = b.clock.running ∧
    (controlBlock t missed b).pins = b.pins ∧ (controlBlock t missed b).pwr.rest = b.pwr.rest ∧ (controlBlock t missed b).act = b.act ∧
    (controlBlock t missed b).recs = b.recs ∧ (controlBlock t missed b).out = b.out ∧ (controlBlock t missed b).bist = b.bist ∧
    (controlBlock t missed b).cw = b.cw ∧ (controlBlock t missed b).fen = b.fen ∧ (controlBlock t missed b).cap = b.cap ∧
    (controlBlock t missed b).spi = b.spi := by
  unfold controlBlock; simp
@[simp] theorem supplyLoss_keeps (t : Nat) (b : Block) :
    (supplyLoss t b).lc = b.lc ∧ (supplyLoss t b).fw = b.fw ∧ (supplyLoss t b).cfg = b.cfg ∧ (supplyLoss t b).clock.ticks = b.clock.ticks ∧
    (supplyLoss t b).clock.running = b.clock.running ∧ (supplyLoss t b).pins = b.pins ∧ (supplyLoss t b).act = b.act ∧
    (supplyLoss t b).recs = b.recs ∧ (supplyLoss t b).out = b.out ∧ (supplyLoss t b).bist = b.bist ∧ (supplyLoss t b).cw = b.cw ∧
    (supplyLoss t b).fen = b.fen ∧ (supplyLoss t b).cap = b.cap ∧ (supplyLoss t b).spi = b.spi := by
  unfold supplyLoss; simp
@[simp] theorem supplyReturn_keeps (t : Nat) (b : Block) :
    (supplyReturn t b).lc = b.lc ∧ (supplyReturn t b).fw = b.fw ∧ (supplyReturn t b).cfg = b.cfg ∧ (supplyReturn t b).clock.ticks = b.clock.ticks ∧
    (supplyReturn t b).clock.running = b.clock.running ∧ (supplyReturn t b).pins = b.pins ∧ (supplyReturn t b).act = b.act ∧
    (supplyReturn t b).recs = b.recs ∧ (supplyReturn t b).out = b.out ∧ (supplyReturn t b).bist = b.bist ∧ (supplyReturn t b).bal = b.bal ∧
    (supplyReturn t b).cw = b.cw ∧ (supplyReturn t b).fen = b.fen ∧ (supplyReturn t b).cap = b.cap ∧ (supplyReturn t b).spi = b.spi := by
  unfold supplyReturn; simp
@[simp] theorem ringRetrain_keeps (b : Block) :
    (ringRetrain b).lc = b.lc ∧ (ringRetrain b).fw = b.fw ∧ (ringRetrain b).cfg = b.cfg ∧ (ringRetrain b).clock.ticks = b.clock.ticks ∧
    (ringRetrain b).clock.running = b.clock.running ∧ (ringRetrain b).pins = b.pins ∧ (ringRetrain b).pwr.rest = b.pwr.rest ∧
    (ringRetrain b).act = b.act ∧ (ringRetrain b).recs = b.recs ∧ (ringRetrain b).out = b.out ∧ (ringRetrain b).bist = b.bist ∧
    (ringRetrain b).bal = b.bal ∧ (ringRetrain b).cw = b.cw ∧ (ringRetrain b).fen = b.fen ∧ (ringRetrain b).cap = b.cap ∧
    (ringRetrain b).spi = b.spi := by
  unfold ringRetrain; simp

end Sys2Proof.Machine
end

