-- ==== Sys2Proof/Laws/KeepBist.lean ====
section
/-! SUPPORT. What each operation of Machine/Bist.lean leaves alone: a `…_keeps` lemma lists the fields of the block that read after it as before. -/

namespace Sys2Proof.Machine

set_option linter.all false

@[simp] theorem markLevels_keeps (b : Block) :
    (markLevels b).lc = b.lc ∧ (markLevels b).fw = b.fw ∧ (markLevels b).cfg = b.cfg ∧ (markLevels b).clock.ticks = b.clock.ticks ∧
    (markLevels b).clock.running = b.clock.running ∧ (markLevels b).pins = b.pins ∧ (markLevels b).pwr.rest = b.pwr.rest ∧
    (markLevels b).act = b.act ∧ (markLevels b).recs = b.recs ∧ (markLevels b).out = b.out ∧ (markLevels b).bist = b.bist ∧
    (markLevels b).bal = b.bal ∧ (markLevels b).cw = b.cw ∧ (markLevels b).fen = b.fen ∧ (markLevels b).cap = b.cap ∧ (markLevels b).spi = b.spi := by
  unfold markLevels; simp
@[simp] theorem markFail_keeps (target engine : Nat) (b : Block) :
    (markFail target engine b).lc = b.lc ∧ (markFail target engine b).fw = b.fw ∧ (markFail target engine b).cfg = b.cfg ∧
    (markFail target engine b).clock.ticks = b.clock.ticks ∧ (markFail target engine b).clock.running = b.clock.running ∧
    (markFail target engine b).pins = b.pins ∧ (markFail target engine b).pwr.rest = b.pwr.rest ∧ (markFail target engine b).act = b.act ∧
    (markFail target engine b).recs = b.recs ∧ (markFail target engine b).out = b.out ∧ (markFail target engine b).bal = b.bal ∧
    (markFail target engine b).cw = b.cw ∧ (markFail target engine b).cap = b.cap ∧ (markFail target engine b).spi = b.spi := by
  unfold markFail; simp
@[simp] theorem markPass_keeps (target engine : Nat) (b : Block) :
    (markPass target engine b).lc = b.lc ∧ (markPass target engine b).fw = b.fw ∧ (markPass target engine b).cfg = b.cfg ∧
    (markPass target engine b).clock.ticks = b.clock.ticks ∧ (markPass target engine b).clock.running = b.clock.running ∧
    (markPass target engine b).pins = b.pins ∧ (markPass target engine b).pwr.rest = b.pwr.rest ∧ (markPass target engine b).act = b.act ∧
    (markPass target engine b).recs = b.recs ∧ (markPass target engine b).out = b.out ∧ (markPass target engine b).bal = b.bal ∧
    (markPass target engine b).cw = b.cw ∧ (markPass target engine b).fen = b.fen ∧ (markPass target engine b).cap = b.cap ∧
    (markPass target engine b).spi = b.spi := by
  unfold markPass; simp
@[simp] theorem repair_keeps (r : TestResult) (b : Block) :
    (repair r b).lc = b.lc ∧ (repair r b).fw = b.fw ∧ (repair r b).cfg = b.cfg ∧ (repair r b).clock.ticks = b.clock.ticks ∧
    (repair r b).clock.running = b.clock.running ∧ (repair r b).pins = b.pins ∧ (repair r b).pwr.rest = b.pwr.rest ∧ (repair r b).act = b.act ∧
    (repair r b).recs = b.recs ∧ (repair r b).bal = b.bal ∧ (repair r b).cw = b.cw ∧ (repair r b).fen = b.fen ∧ (repair r b).spi = b.spi := by
  unfold repair; simp
@[simp] theorem failRegs_keeps (addr row bit count : Nat) (b : Block) :
    (failRegs addr row bit count b).lc = b.lc ∧ (failRegs addr row bit count b).fw = b.fw ∧ (failRegs addr row bit count b).cfg = b.cfg ∧
    (failRegs addr row bit count b).clock.ticks = b.clock.ticks ∧ (failRegs addr row bit count b).clock.running = b.clock.running ∧
    (failRegs addr row bit count b).pins = b.pins ∧ (failRegs addr row bit count b).pwr.rest = b.pwr.rest ∧
    (failRegs addr row bit count b).act = b.act ∧ (failRegs addr row bit count b).recs = b.recs ∧ (failRegs addr row bit count b).out = b.out ∧
    (failRegs addr row bit count b).bist = b.bist ∧ (failRegs addr row bit count b).bal = b.bal ∧ (failRegs addr row bit count b).cw = b.cw ∧
    (failRegs addr row bit count b).fen = b.fen ∧ (failRegs addr row bit count b).cap = b.cap ∧ (failRegs addr row bit count b).spi = b.spi := by
  unfold failRegs; simp
@[simp] theorem bistAsk_keeps (target engine : Nat) (q : Option Nat) (b : Block) :
    (bistAsk target engine q b).lc = b.lc ∧ (bistAsk target engine q b).fw = b.fw ∧ (bistAsk target engine q b).cfg = b.cfg ∧
    (bistAsk target engine q b).clock.ticks = b.clock.ticks ∧ (bistAsk target engine q b).clock.running = b.clock.running ∧
    (bistAsk target engine q b).pins = b.pins ∧ (bistAsk target engine q b).pwr.rest = b.pwr.rest ∧ (bistAsk target engine q b).act = b.act ∧
    (bistAsk target engine q b).recs = b.recs ∧ (bistAsk target engine q b).out = b.out ∧ (bistAsk target engine q b).bal = b.bal ∧
    (bistAsk target engine q b).cw = b.cw ∧ (bistAsk target engine q b).fen = b.fen ∧ (bistAsk target engine q b).cap = b.cap ∧
    (bistAsk target engine q b).spi = b.spi := by
  unfold bistAsk; (try dsimp only); (repeat' split) <;> simp
@[simp] theorem writeBistCtl_keeps (v : Word) (b : Block) :
    (writeBistCtl v b).lc = b.lc ∧ (writeBistCtl v b).fw = b.fw ∧ (writeBistCtl v b).cfg = b.cfg ∧ (writeBistCtl v b).clock.ticks = b.clock.ticks ∧
    (writeBistCtl v b).clock.running = b.clock.running ∧ (writeBistCtl v b).pins = b.pins ∧ (writeBistCtl v b).pwr.rest = b.pwr.rest ∧
    (writeBistCtl v b).act = b.act ∧ (writeBistCtl v b).recs = b.recs ∧ (writeBistCtl v b).out = b.out ∧ (writeBistCtl v b).bal = b.bal ∧
    (writeBistCtl v b).cw = b.cw ∧ (writeBistCtl v b).fen = b.fen ∧ (writeBistCtl v b).cap = b.cap ∧ (writeBistCtl v b).spi = b.spi := by
  unfold writeBistCtl; simp
@[simp] theorem marchStart_keeps (b : Block) :
    (marchStart b).lc = b.lc ∧ (marchStart b).fw = b.fw ∧ (marchStart b).cfg = b.cfg ∧ (marchStart b).clock.ticks = b.clock.ticks ∧
    (marchStart b).clock.running = b.clock.running ∧ (marchStart b).pins = b.pins ∧ (marchStart b).pwr.rest = b.pwr.rest ∧
    (marchStart b).act = b.act ∧ (marchStart b).recs = b.recs ∧ (marchStart b).out = b.out ∧ (marchStart b).bist = b.bist ∧
    (marchStart b).bal = b.bal ∧ (marchStart b).cw = b.cw ∧ (marchStart b).cap = b.cap ∧ (marchStart b).spi = b.spi := by
  unfold marchStart; simp
@[simp] theorem marchEnd_keeps (b : Block) :
    (marchEnd b).lc = b.lc ∧ (marchEnd b).fw = b.fw ∧ (marchEnd b).cfg = b.cfg ∧ (marchEnd b).clock.ticks = b.clock.ticks ∧
    (marchEnd b).clock.running = b.clock.running ∧ (marchEnd b).pins = b.pins ∧ (marchEnd b).pwr.rest = b.pwr.rest ∧ (marchEnd b).act = b.act ∧
    (marchEnd b).recs = b.recs ∧ (marchEnd b).out = b.out ∧ (marchEnd b).bist = b.bist ∧ (marchEnd b).bal = b.bal ∧ (marchEnd b).cw = b.cw ∧
    (marchEnd b).fen = b.fen ∧ (marchEnd b).spi = b.spi := by
  unfold marchEnd; simp
@[simp] theorem isolate_keeps (target engine : Nat) (b : Block) :
    (isolate target engine b).lc = b.lc ∧ (isolate target engine b).fw = b.fw ∧ (isolate target engine b).cfg = b.cfg ∧
    (isolate target engine b).clock.ticks = b.clock.ticks ∧ (isolate target engine b).clock.running = b.clock.running ∧
    (isolate target engine b).pins = b.pins ∧ (isolate target engine b).pwr.rest = b.pwr.rest ∧ (isolate target engine b).act = b.act ∧
    (isolate target engine b).recs = b.recs ∧ (isolate target engine b).out = b.out ∧ (isolate target engine b).bist = b.bist ∧
    (isolate target engine b).bal = b.bal ∧ (isolate target engine b).cw = b.cw ∧ (isolate target engine b).cap = b.cap ∧
    (isolate target engine b).spi = b.spi := by
  unfold isolate; simp
@[simp] theorem resume_keeps (target : Nat) (b : Block) :
    (resume target b).lc = b.lc ∧ (resume target b).fw = b.fw ∧ (resume target b).cfg = b.cfg ∧ (resume target b).clock.ticks = b.clock.ticks ∧
    (resume target b).clock.running = b.clock.running ∧ (resume target b).pins = b.pins ∧ (resume target b).pwr.rest = b.pwr.rest ∧
    (resume target b).act = b.act ∧ (resume target b).recs = b.recs ∧ (resume target b).out = b.out ∧ (resume target b).bist = b.bist ∧
    (resume target b).bal = b.bal ∧ (resume target b).cw = b.cw ∧ (resume target b).fen = b.fen ∧ (resume target b).spi = b.spi := by
  unfold resume; simp
@[simp] theorem bistStart_keeps (b : Block) :
    (bistStart b).lc = b.lc ∧ (bistStart b).fw = b.fw ∧ (bistStart b).cfg = b.cfg ∧ (bistStart b).clock.ticks = b.clock.ticks ∧
    (bistStart b).clock.running = b.clock.running ∧ (bistStart b).pins = b.pins ∧ (bistStart b).pwr.rest = b.pwr.rest ∧ (bistStart b).act = b.act ∧
    (bistStart b).recs = b.recs ∧ (bistStart b).out = b.out ∧ (bistStart b).bal = b.bal ∧ (bistStart b).cw = b.cw ∧ (bistStart b).cap = b.cap ∧
    (bistStart b).spi = b.spi := by
  unfold bistStart; (try dsimp only); (repeat' split) <;> simp
@[simp] theorem hostEnd_keeps (state result : Nat) (r : BistRun) (b : Block) :
    (hostEnd state result r b).lc = b.lc ∧ (hostEnd state result r b).fw = b.fw ∧ (hostEnd state result r b).cfg = b.cfg ∧
    (hostEnd state result r b).clock.ticks = b.clock.ticks ∧ (hostEnd state result r b).clock.running = b.clock.running ∧
    (hostEnd state result r b).pins = b.pins ∧ (hostEnd state result r b).pwr.rest = b.pwr.rest ∧ (hostEnd state result r b).act = b.act ∧
    (hostEnd state result r b).recs = b.recs ∧ (hostEnd state result r b).out = b.out ∧ (hostEnd state result r b).bal = b.bal ∧
    (hostEnd state result r b).cw = b.cw ∧ (hostEnd state result r b).fen = b.fen ∧ (hostEnd state result r b).spi = b.spi := by
  unfold hostEnd; simp
@[simp] theorem hostAbort_keeps (r : BistRun) (b : Block) :
    (hostAbort r b).lc = b.lc ∧ (hostAbort r b).fw = b.fw ∧ (hostAbort r b).cfg = b.cfg ∧ (hostAbort r b).clock.ticks = b.clock.ticks ∧
    (hostAbort r b).clock.running = b.clock.running ∧ (hostAbort r b).pins = b.pins ∧ (hostAbort r b).pwr.rest = b.pwr.rest ∧
    (hostAbort r b).act = b.act ∧ (hostAbort r b).recs = b.recs ∧ (hostAbort r b).out = b.out ∧ (hostAbort r b).bal = b.bal ∧
    (hostAbort r b).cw = b.cw ∧ (hostAbort r b).fen = b.fen ∧ (hostAbort r b).spi = b.spi := by
  unfold hostAbort; simp
@[simp] theorem rollNext_keeps (r : BistRun) (b : Block) :
    (rollNext r b).lc = b.lc ∧ (rollNext r b).fw = b.fw ∧ (rollNext r b).cfg = b.cfg ∧ (rollNext r b).clock.ticks = b.clock.ticks ∧
    (rollNext r b).clock.running = b.clock.running ∧ (rollNext r b).pins = b.pins ∧ (rollNext r b).pwr.rest = b.pwr.rest ∧
    (rollNext r b).act = b.act ∧ (rollNext r b).recs = b.recs ∧ (rollNext r b).out = b.out ∧ (rollNext r b).bal = b.bal ∧ (rollNext r b).cw = b.cw ∧
    (rollNext r b).fen = b.fen ∧ (rollNext r b).spi = b.spi := by
  unfold rollNext; simp
@[simp] theorem bistCut_keeps (all : Bool) (b : Block) :
    (bistCut all b).lc = b.lc ∧ (bistCut all b).fw = b.fw ∧ (bistCut all b).cfg = b.cfg ∧ (bistCut all b).clock.ticks = b.clock.ticks ∧
    (bistCut all b).clock.running = b.clock.running ∧ (bistCut all b).pins = b.pins ∧ (bistCut all b).pwr.rest = b.pwr.rest ∧
    (bistCut all b).act = b.act ∧ (bistCut all b).recs = b.recs ∧ (bistCut all b).out = b.out ∧ (bistCut all b).bal = b.bal ∧
    (bistCut all b).cw = b.cw ∧ (bistCut all b).fen = b.fen ∧ (bistCut all b).spi = b.spi := by
  unfold bistCut; (try dsimp only); (repeat' split) <;> simp
@[simp] theorem rollStart_keeps (b : Block) :
    (rollStart b).lc = b.lc ∧ (rollStart b).fw = b.fw ∧ (rollStart b).cfg = b.cfg ∧ (rollStart b).clock.ticks = b.clock.ticks ∧
    (rollStart b).clock.running = b.clock.running ∧ (rollStart b).pins = b.pins ∧ (rollStart b).pwr.rest = b.pwr.rest ∧ (rollStart b).act = b.act ∧
    (rollStart b).recs = b.recs ∧ (rollStart b).out = b.out ∧ (rollStart b).bal = b.bal ∧ (rollStart b).cw = b.cw ∧ (rollStart b).cap = b.cap ∧
    (rollStart b).spi = b.spi := by
  unfold rollStart; simp
@[simp] theorem bistEnd_keeps (x : TestResult) (b : Block) :
    (bistEnd x b).lc = b.lc ∧ (bistEnd x b).fw = b.fw ∧ (bistEnd x b).cfg = b.cfg ∧ (bistEnd x b).clock.ticks = b.clock.ticks ∧
    (bistEnd x b).clock.running = b.clock.running ∧ (bistEnd x b).pins = b.pins ∧ (bistEnd x b).pwr.rest = b.pwr.rest ∧ (bistEnd x b).act = b.act ∧
    (bistEnd x b).recs = b.recs ∧ (bistEnd x b).bal = b.bal ∧ (bistEnd x b).cw = b.cw ∧ (bistEnd x b).spi = b.spi := by
  unfold bistEnd; (try dsimp only); (repeat' split) <;> simp
@[simp] theorem writeBistRoll_keeps (v : Word) (b : Block) :
    (writeBistRoll v b).lc = b.lc ∧ (writeBistRoll v b).fw = b.fw ∧ (writeBistRoll v b).cfg = b.cfg ∧
    (writeBistRoll v b).clock.ticks = b.clock.ticks ∧ (writeBistRoll v b).clock.running = b.clock.running ∧ (writeBistRoll v b).pins = b.pins ∧
    (writeBistRoll v b).pwr.rest = b.pwr.rest ∧ (writeBistRoll v b).act = b.act ∧ (writeBistRoll v b).recs = b.recs ∧
    (writeBistRoll v b).out = b.out ∧ (writeBistRoll v b).bist = b.bist ∧ (writeBistRoll v b).bal = b.bal ∧ (writeBistRoll v b).cw = b.cw ∧
    (writeBistRoll v b).fen = b.fen ∧ (writeBistRoll v b).cap = b.cap ∧ (writeBistRoll v b).spi = b.spi := by
  unfold writeBistRoll; simp

end Sys2Proof.Machine
end

