-- ==== Sys2Proof/Laws/KeepEndpoint.lean ====
section
/-! SUPPORT. What each operation of Machine/Endpoint.lean leaves alone: a `…_keeps` lemma lists the fields of the block that read after it as before. -/

namespace Sys2Proof.Machine

set_option linter.all false

@[simp] theorem traffic_keeps (b : Block) :
    (traffic b).lc = b.lc ∧ (traffic b).fw = b.fw ∧ (traffic b).cfg = b.cfg ∧ (traffic b).clock.ticks = b.clock.ticks ∧
    (traffic b).clock.running = b.clock.running ∧ (traffic b).pins = b.pins ∧ (traffic b).pwr.rest = b.pwr.rest ∧ (traffic b).act = b.act ∧
    (traffic b).recs = b.recs ∧ (traffic b).out = b.out ∧ (traffic b).bist = b.bist ∧ (traffic b).bal = b.bal ∧ (traffic b).cw = b.cw ∧
    (traffic b).fen = b.fen ∧ (traffic b).cap = b.cap ∧ (traffic b).spi = b.spi := by
  unfold traffic; simp
@[simp] theorem forgetRings_keeps (b : Block) :
    (forgetRings b).lc = b.lc ∧ (forgetRings b).cfg = b.cfg ∧ (forgetRings b).clock.ticks = b.clock.ticks ∧
    (forgetRings b).clock.running = b.clock.running ∧ (forgetRings b).pins = b.pins ∧ (forgetRings b).pwr.rest = b.pwr.rest ∧
    (forgetRings b).act = b.act ∧ (forgetRings b).recs = b.recs ∧ (forgetRings b).out = b.out ∧ (forgetRings b).bist = b.bist ∧
    (forgetRings b).bal = b.bal ∧ (forgetRings b).cw = b.cw ∧ (forgetRings b).cap = b.cap ∧ (forgetRings b).spi = b.spi := by
  unfold forgetRings; simp
@[simp] theorem barWrite_keeps (i : Nat) (v : Word) (b : Block) :
    (barWrite i v b).lc = b.lc ∧ (barWrite i v b).fw = b.fw ∧ (barWrite i v b).cfg = b.cfg ∧ (barWrite i v b).clock.ticks = b.clock.ticks ∧
    (barWrite i v b).clock.running = b.clock.running ∧ (barWrite i v b).pins = b.pins ∧ (barWrite i v b).pwr.rest = b.pwr.rest ∧
    (barWrite i v b).act = b.act ∧ (barWrite i v b).recs = b.recs ∧ (barWrite i v b).out = b.out ∧ (barWrite i v b).bist = b.bist ∧
    (barWrite i v b).bal = b.bal ∧ (barWrite i v b).cw = b.cw ∧ (barWrite i v b).fen = b.fen ∧ (barWrite i v b).cap = b.cap ∧
    (barWrite i v b).spi = b.spi := by
  unfold barWrite; simp
@[simp] theorem configRequest_keeps (r : CfgRequest) (b : Block) :
    (configRequest r b).lc = b.lc ∧ (configRequest r b).fw = b.fw ∧ (configRequest r b).cfg = b.cfg ∧
    (configRequest r b).clock.ticks = b.clock.ticks ∧ (configRequest r b).clock.running = b.clock.running ∧ (configRequest r b).pins = b.pins ∧
    (configRequest r b).pwr.rest = b.pwr.rest ∧ (configRequest r b).act = b.act ∧ (configRequest r b).recs = b.recs ∧
    (configRequest r b).bist = b.bist ∧ (configRequest r b).bal = b.bal ∧ (configRequest r b).cw = b.cw ∧ (configRequest r b).fen = b.fen ∧
    (configRequest r b).cap = b.cap ∧ (configRequest r b).spi = b.spi := by
  unfold configRequest; (try dsimp only); (repeat' split) <;> simp
@[simp] theorem suspend_keeps (c : SuspendCause) (on : Bool) (b : Block) :
    (suspend c on b).lc = b.lc ∧ (suspend c on b).fw = b.fw ∧ (suspend c on b).cfg = b.cfg ∧ (suspend c on b).clock.ticks = b.clock.ticks ∧
    (suspend c on b).clock.running = b.clock.running ∧ (suspend c on b).pins = b.pins ∧ (suspend c on b).pwr.rest = b.pwr.rest ∧
    (suspend c on b).act = b.act ∧ (suspend c on b).recs = b.recs ∧ (suspend c on b).out = b.out ∧ (suspend c on b).bist = b.bist ∧
    (suspend c on b).bal = b.bal ∧ (suspend c on b).cw = b.cw ∧ (suspend c on b).fen = b.fen ∧ (suspend c on b).cap = b.cap ∧
    (suspend c on b).spi = b.spi := by
  unfold suspend; (try dsimp only); (repeat' split) <;> simp
@[simp] theorem lateWrites_keeps (b : Block) :
    (lateWrites b).lc = b.lc ∧ (lateWrites b).fw = b.fw ∧ (lateWrites b).cfg = b.cfg ∧ (lateWrites b).clock.ticks = b.clock.ticks ∧
    (lateWrites b).clock.running = b.clock.running ∧ (lateWrites b).pins = b.pins ∧ (lateWrites b).pwr.rest = b.pwr.rest ∧
    (lateWrites b).act = b.act ∧ (lateWrites b).recs = b.recs ∧ (lateWrites b).bist = b.bist ∧ (lateWrites b).bal = b.bal ∧
    (lateWrites b).cw = b.cw ∧ (lateWrites b).fen = b.fen ∧ (lateWrites b).cap = b.cap ∧ (lateWrites b).spi = b.spi := by
  unfold lateWrites; simp
@[simp] theorem resendVec0_keeps (b : Block) :
    (resendVec0 b).lc = b.lc ∧ (resendVec0 b).fw = b.fw ∧ (resendVec0 b).cfg = b.cfg ∧ (resendVec0 b).clock.ticks = b.clock.ticks ∧
    (resendVec0 b).clock.running = b.clock.running ∧ (resendVec0 b).pins = b.pins ∧ (resendVec0 b).pwr.rest = b.pwr.rest ∧
    (resendVec0 b).act = b.act ∧ (resendVec0 b).recs = b.recs ∧ (resendVec0 b).bist = b.bist ∧ (resendVec0 b).bal = b.bal ∧
    (resendVec0 b).cw = b.cw ∧ (resendVec0 b).fen = b.fen ∧ (resendVec0 b).cap = b.cap ∧ (resendVec0 b).spi = b.spi := by
  unfold resendVec0; simp
@[simp] theorem sqTick_keeps (q : Nat) (b : Block) :
    (sqTick q b).lc = b.lc ∧ (sqTick q b).fw = b.fw ∧ (sqTick q b).cfg = b.cfg ∧ (sqTick q b).clock.ticks = b.clock.ticks ∧
    (sqTick q b).clock.running = b.clock.running ∧ (sqTick q b).pins = b.pins ∧ (sqTick q b).pwr.rest = b.pwr.rest ∧ (sqTick q b).act = b.act ∧
    (sqTick q b).recs = b.recs ∧ (sqTick q b).out = b.out ∧ (sqTick q b).bist = b.bist ∧ (sqTick q b).bal = b.bal ∧ (sqTick q b).cw = b.cw ∧
    (sqTick q b).fen = b.fen ∧ (sqTick q b).cap = b.cap ∧ (sqTick q b).spi = b.spi := by
  unfold sqTick; simp
@[simp] theorem cqTick_keeps (c : Nat) (b : Block) :
    (cqTick c b).lc = b.lc ∧ (cqTick c b).fw = b.fw ∧ (cqTick c b).cfg = b.cfg ∧ (cqTick c b).clock.ticks = b.clock.ticks ∧
    (cqTick c b).clock.running = b.clock.running ∧ (cqTick c b).pins = b.pins ∧ (cqTick c b).pwr.rest = b.pwr.rest ∧ (cqTick c b).act = b.act ∧
    (cqTick c b).recs = b.recs ∧ (cqTick c b).out = b.out ∧ (cqTick c b).bist = b.bist ∧ (cqTick c b).bal = b.bal ∧ (cqTick c b).cw = b.cw ∧
    (cqTick c b).fen = b.fen ∧ (cqTick c b).cap = b.cap ∧ (cqTick c b).spi = b.spi := by
  unfold cqTick; simp
@[simp] theorem srTick_keeps (s : Nat) (b : Block) :
    (srTick s b).lc = b.lc ∧ (srTick s b).fw = b.fw ∧ (srTick s b).cfg = b.cfg ∧ (srTick s b).clock.ticks = b.clock.ticks ∧
    (srTick s b).clock.running = b.clock.running ∧ (srTick s b).pins = b.pins ∧ (srTick s b).pwr.rest = b.pwr.rest ∧ (srTick s b).act = b.act ∧
    (srTick s b).recs = b.recs ∧ (srTick s b).out = b.out ∧ (srTick s b).bist = b.bist ∧ (srTick s b).bal = b.bal ∧ (srTick s b).cw = b.cw ∧
    (srTick s b).fen = b.fen ∧ (srTick s b).cap = b.cap ∧ (srTick s b).spi = b.spi := by
  unfold srTick; simp
@[simp] theorem ringTick_keeps (b : Block) :
    (ringTick b).lc = b.lc ∧ (ringTick b).fw = b.fw ∧ (ringTick b).cfg = b.cfg ∧ (ringTick b).clock.ticks = b.clock.ticks ∧
    (ringTick b).clock.running = b.clock.running ∧ (ringTick b).pins = b.pins ∧ (ringTick b).pwr.rest = b.pwr.rest ∧ (ringTick b).act = b.act ∧
    (ringTick b).recs = b.recs ∧ (ringTick b).out = b.out ∧ (ringTick b).bist = b.bist ∧ (ringTick b).bal = b.bal ∧ (ringTick b).cw = b.cw ∧
    (ringTick b).fen = b.fen ∧ (ringTick b).cap = b.cap ∧ (ringTick b).spi = b.spi := by
  unfold ringTick; simp
@[simp] theorem fetchTick_keeps (b : Block) :
    (fetchTick b).lc = b.lc ∧ (fetchTick b).fw = b.fw ∧ (fetchTick b).cfg = b.cfg ∧ (fetchTick b).clock.ticks = b.clock.ticks ∧
    (fetchTick b).clock.running = b.clock.running ∧ (fetchTick b).pins = b.pins ∧ (fetchTick b).pwr.rest = b.pwr.rest ∧ (fetchTick b).act = b.act ∧
    (fetchTick b).recs = b.recs ∧ (fetchTick b).out = b.out ∧ (fetchTick b).bist = b.bist ∧ (fetchTick b).bal = b.bal ∧ (fetchTick b).cw = b.cw ∧
    (fetchTick b).fen = b.fen ∧ (fetchTick b).cap = b.cap ∧ (fetchTick b).spi = b.spi := by
  unfold fetchTick; simp
@[simp] theorem doorbellAsk_keeps (wide : Bool) (b : Block) :
    (doorbellAsk wide b).lc = b.lc ∧ (doorbellAsk wide b).fw = b.fw ∧ (doorbellAsk wide b).cfg = b.cfg ∧
    (doorbellAsk wide b).clock.ticks = b.clock.ticks ∧ (doorbellAsk wide b).clock.running = b.clock.running ∧ (doorbellAsk wide b).pins = b.pins ∧
    (doorbellAsk wide b).pwr.rest = b.pwr.rest ∧ (doorbellAsk wide b).act = b.act ∧ (doorbellAsk wide b).recs = b.recs ∧
    (doorbellAsk wide b).out = b.out ∧ (doorbellAsk wide b).bist = b.bist ∧ (doorbellAsk wide b).bal = b.bal ∧ (doorbellAsk wide b).cw = b.cw ∧
    (doorbellAsk wide b).fen = b.fen ∧ (doorbellAsk wide b).cap = b.cap ∧ (doorbellAsk wide b).spi = b.spi := by
  unfold doorbellAsk; simp
@[simp] theorem fetchAgain_keeps (b : Block) :
    (fetchAgain b).lc = b.lc ∧ (fetchAgain b).fw = b.fw ∧ (fetchAgain b).cfg = b.cfg ∧ (fetchAgain b).clock.ticks = b.clock.ticks ∧
    (fetchAgain b).clock.running = b.clock.running ∧ (fetchAgain b).pins = b.pins ∧ (fetchAgain b).pwr.rest = b.pwr.rest ∧
    (fetchAgain b).act = b.act ∧ (fetchAgain b).recs = b.recs ∧ (fetchAgain b).out = b.out ∧ (fetchAgain b).bist = b.bist ∧
    (fetchAgain b).bal = b.bal ∧ (fetchAgain b).cw = b.cw ∧ (fetchAgain b).fen = b.fen ∧ (fetchAgain b).cap = b.cap ∧ (fetchAgain b).spi = b.spi := by
  unfold fetchAgain; simp
@[simp] theorem takePi_keeps (q fetched : Nat) (b : Block) :
    (takePi q fetched b).lc = b.lc ∧ (takePi q fetched b).fw = b.fw ∧ (takePi q fetched b).cfg = b.cfg ∧
    (takePi q fetched b).clock.ticks = b.clock.ticks ∧ (takePi q fetched b).clock.running = b.clock.running ∧ (takePi q fetched b).pins = b.pins ∧
    (takePi q fetched b).pwr.rest = b.pwr.rest ∧ (takePi q fetched b).act = b.act ∧ (takePi q fetched b).recs = b.recs ∧
    (takePi q fetched b).out = b.out ∧ (takePi q fetched b).bist = b.bist ∧ (takePi q fetched b).bal = b.bal ∧ (takePi q fetched b).cw = b.cw ∧
    (takePi q fetched b).fen = b.fen ∧ (takePi q fetched b).cap = b.cap ∧ (takePi q fetched b).spi = b.spi := by
  unfold takePi; simp
@[simp] theorem takeCi_keeps (c fetched : Nat) (b : Block) :
    (takeCi c fetched b).lc = b.lc ∧ (takeCi c fetched b).fw = b.fw ∧ (takeCi c fetched b).cfg = b.cfg ∧
    (takeCi c fetched b).clock.ticks = b.clock.ticks ∧ (takeCi c fetched b).clock.running = b.clock.running ∧ (takeCi c fetched b).pins = b.pins ∧
    (takeCi c fetched b).pwr.rest = b.pwr.rest ∧ (takeCi c fetched b).act = b.act ∧ (takeCi c fetched b).recs = b.recs ∧
    (takeCi c fetched b).out = b.out ∧ (takeCi c fetched b).bist = b.bist ∧ (takeCi c fetched b).bal = b.bal ∧ (takeCi c fetched b).cw = b.cw ∧
    (takeCi c fetched b).fen = b.fen ∧ (takeCi c fetched b).cap = b.cap ∧ (takeCi c fetched b).spi = b.spi := by
  unfold takeCi; simp
@[simp] theorem takeRd_keeps (s fetched : Nat) (b : Block) :
    (takeRd s fetched b).lc = b.lc ∧ (takeRd s fetched b).fw = b.fw ∧ (takeRd s fetched b).cfg = b.cfg ∧
    (takeRd s fetched b).clock.ticks = b.clock.ticks ∧ (takeRd s fetched b).clock.running = b.clock.running ∧ (takeRd s fetched b).pins = b.pins ∧
    (takeRd s fetched b).pwr.rest = b.pwr.rest ∧ (takeRd s fetched b).act = b.act ∧ (takeRd s fetched b).recs = b.recs ∧
    (takeRd s fetched b).out = b.out ∧ (takeRd s fetched b).bist = b.bist ∧ (takeRd s fetched b).bal = b.bal ∧ (takeRd s fetched b).cw = b.cw ∧
    (takeRd s fetched b).fen = b.fen ∧ (takeRd s fetched b).cap = b.cap ∧ (takeRd s fetched b).spi = b.spi := by
  unfold takeRd; simp
@[simp] theorem descFail_keeps (q : Nat) (b : Block) :
    (descFail q b).lc = b.lc ∧ (descFail q b).fw = b.fw ∧ (descFail q b).cfg = b.cfg ∧ (descFail q b).clock.ticks = b.clock.ticks ∧
    (descFail q b).clock.running = b.clock.running ∧ (descFail q b).pins = b.pins ∧ (descFail q b).pwr.rest = b.pwr.rest ∧
    (descFail q b).act = b.act ∧ (descFail q b).recs = b.recs ∧ (descFail q b).out = b.out ∧ (descFail q b).bist = b.bist ∧
    (descFail q b).bal = b.bal ∧ (descFail q b).cw = b.cw ∧ (descFail q b).fen = b.fen ∧ (descFail q b).cap = b.cap ∧ (descFail q b).spi = b.spi := by
  unfold descFail; simp
@[simp] theorem doorbellFetch_keeps (lines : Option (List Word)) (bad : List Nat) (b : Block) :
    (doorbellFetch lines bad b).lc = b.lc ∧ (doorbellFetch lines bad b).fw = b.fw ∧ (doorbellFetch lines bad b).cfg = b.cfg ∧
    (doorbellFetch lines bad b).clock.ticks = b.clock.ticks ∧ (doorbellFetch lines bad b).clock.running = b.clock.running ∧
    (doorbellFetch lines bad b).pins = b.pins ∧ (doorbellFetch lines bad b).pwr.rest = b.pwr.rest ∧ (doorbellFetch lines bad b).act = b.act ∧
    (doorbellFetch lines bad b).recs = b.recs ∧ (doorbellFetch lines bad b).out = b.out ∧ (doorbellFetch lines bad b).bist = b.bist ∧
    (doorbellFetch lines bad b).bal = b.bal ∧ (doorbellFetch lines bad b).cw = b.cw ∧ (doorbellFetch lines bad b).fen = b.fen ∧
    (doorbellFetch lines bad b).cap = b.cap ∧ (doorbellFetch lines bad b).spi = b.spi := by
  unfold doorbellFetch; (try dsimp only); (repeat' split) <;> simp
@[simp] theorem sendVectors_keeps (b : Block) :
    (sendVectors b).lc = b.lc ∧ (sendVectors b).fw = b.fw ∧ (sendVectors b).cfg = b.cfg ∧ (sendVectors b).clock.ticks = b.clock.ticks ∧
    (sendVectors b).clock.running = b.clock.running ∧ (sendVectors b).pins = b.pins ∧ (sendVectors b).pwr.rest = b.pwr.rest ∧
    (sendVectors b).act = b.act ∧ (sendVectors b).recs = b.recs ∧ (sendVectors b).bist = b.bist ∧ (sendVectors b).bal = b.bal ∧
    (sendVectors b).cw = b.cw ∧ (sendVectors b).fen = b.fen ∧ (sendVectors b).cap = b.cap ∧ (sendVectors b).spi = b.spi := by
  unfold sendVectors; simp
@[simp] theorem statusPage_keeps (b : Block) :
    (statusPage b).lc = b.lc ∧ (statusPage b).fw = b.fw ∧ (statusPage b).cfg = b.cfg ∧ (statusPage b).clock.ticks = b.clock.ticks ∧
    (statusPage b).clock.running = b.clock.running ∧ (statusPage b).pins = b.pins ∧ (statusPage b).pwr.rest = b.pwr.rest ∧
    (statusPage b).act = b.act ∧ (statusPage b).recs = b.recs ∧ (statusPage b).bist = b.bist ∧ (statusPage b).bal = b.bal ∧
    (statusPage b).cw = b.cw ∧ (statusPage b).fen = b.fen ∧ (statusPage b).cap = b.cap ∧ (statusPage b).spi = b.spi := by
  unfold statusPage; simp
@[simp] theorem ptmPair_keeps (b : Block) :
    (ptmPair b).lc = b.lc ∧ (ptmPair b).fw = b.fw ∧ (ptmPair b).cfg = b.cfg ∧ (ptmPair b).clock.ticks = b.clock.ticks ∧
    (ptmPair b).clock.running = b.clock.running ∧ (ptmPair b).pins = b.pins ∧ (ptmPair b).pwr.rest = b.pwr.rest ∧ (ptmPair b).act = b.act ∧
    (ptmPair b).recs = b.recs ∧ (ptmPair b).out = b.out ∧ (ptmPair b).bist = b.bist ∧ (ptmPair b).bal = b.bal ∧ (ptmPair b).cw = b.cw ∧
    (ptmPair b).fen = b.fen ∧ (ptmPair b).cap = b.cap ∧ (ptmPair b).spi = b.spi := by
  unfold ptmPair; simp
@[simp] theorem timeSyncTick_keeps (b : Block) :
    (timeSyncTick b).lc = b.lc ∧ (timeSyncTick b).fw = b.fw ∧ (timeSyncTick b).cfg = b.cfg ∧ (timeSyncTick b).clock.ticks = b.clock.ticks ∧
    (timeSyncTick b).clock.running = b.clock.running ∧ (timeSyncTick b).pins = b.pins ∧ (timeSyncTick b).pwr.rest = b.pwr.rest ∧
    (timeSyncTick b).act = b.act ∧ (timeSyncTick b).recs = b.recs ∧ (timeSyncTick b).bist = b.bist ∧ (timeSyncTick b).bal = b.bal ∧
    (timeSyncTick b).cw = b.cw ∧ (timeSyncTick b).fen = b.fen ∧ (timeSyncTick b).cap = b.cap ∧ (timeSyncTick b).spi = b.spi := by
  unfold timeSyncTick; simp
@[simp] theorem ptmTick_keeps (b : Block) :
    (ptmTick b).lc = b.lc ∧ (ptmTick b).fw = b.fw ∧ (ptmTick b).cfg = b.cfg ∧ (ptmTick b).clock.ticks = b.clock.ticks ∧
    (ptmTick b).clock.running = b.clock.running ∧ (ptmTick b).pins = b.pins ∧ (ptmTick b).pwr.rest = b.pwr.rest ∧ (ptmTick b).act = b.act ∧
    (ptmTick b).recs = b.recs ∧ (ptmTick b).out = b.out ∧ (ptmTick b).bist = b.bist ∧ (ptmTick b).bal = b.bal ∧ (ptmTick b).cw = b.cw ∧
    (ptmTick b).fen = b.fen ∧ (ptmTick b).cap = b.cap ∧ (ptmTick b).spi = b.spi := by
  unfold ptmTick; simp
@[simp] theorem writeQuota_keeps (s : Nat) (v : Word) (b : Block) :
    (writeQuota s v b).lc = b.lc ∧ (writeQuota s v b).fw = b.fw ∧ (writeQuota s v b).cfg = b.cfg ∧ (writeQuota s v b).clock.ticks = b.clock.ticks ∧
    (writeQuota s v b).clock.running = b.clock.running ∧ (writeQuota s v b).pins = b.pins ∧ (writeQuota s v b).pwr.rest = b.pwr.rest ∧
    (writeQuota s v b).act = b.act ∧ (writeQuota s v b).recs = b.recs ∧ (writeQuota s v b).out = b.out ∧ (writeQuota s v b).bist = b.bist ∧
    (writeQuota s v b).bal = b.bal ∧ (writeQuota s v b).cw = b.cw ∧ (writeQuota s v b).fen = b.fen ∧ (writeQuota s v b).cap = b.cap ∧
    (writeQuota s v b).spi = b.spi := by
  unfold writeQuota; simp
@[simp] theorem writeHst_keeps (a : Nat) (v : Word) (b : Block) :
    (writeHst a v b).lc = b.lc ∧ (writeHst a v b).fw = b.fw ∧ (writeHst a v b).cfg = b.cfg ∧ (writeHst a v b).clock.ticks = b.clock.ticks ∧
    (writeHst a v b).clock.running = b.clock.running ∧ (writeHst a v b).pins = b.pins ∧ (writeHst a v b).pwr.rest = b.pwr.rest ∧
    (writeHst a v b).act = b.act ∧ (writeHst a v b).recs = b.recs ∧ (writeHst a v b).out = b.out ∧ (writeHst a v b).bist = b.bist ∧
    (writeHst a v b).bal = b.bal ∧ (writeHst a v b).cw = b.cw ∧ (writeHst a v b).fen = b.fen ∧ (writeHst a v b).cap = b.cap ∧
    (writeHst a v b).spi = b.spi := by
  unfold writeHst; simp
@[simp] theorem windowB_keeps (a : Nat) (v : Word) (b : Block) :
    (windowB a v b).lc = b.lc ∧ (windowB a v b).fw = b.fw ∧ (windowB a v b).cfg = b.cfg ∧ (windowB a v b).clock.ticks = b.clock.ticks ∧
    (windowB a v b).clock.running = b.clock.running ∧ (windowB a v b).pins = b.pins ∧ (windowB a v b).pwr.rest = b.pwr.rest ∧
    (windowB a v b).act = b.act ∧ (windowB a v b).recs = b.recs ∧ (windowB a v b).out = b.out ∧ (windowB a v b).bist = b.bist ∧
    (windowB a v b).bal = b.bal ∧ (windowB a v b).cw = b.cw ∧ (windowB a v b).fen = b.fen ∧ (windowB a v b).cap = b.cap ∧
    (windowB a v b).spi = b.spi := by
  unfold windowB; simp

end Sys2Proof.Machine
end

