-- ==== Sys2Proof/Laws/KeepCapture.lean ====
section
/-! SUPPORT. What each operation of Machine/Capture.lean leaves alone: a `…_keeps` lemma lists the fields of the block that read after it as before. -/

namespace Sys2Proof.Machine

set_option linter.all false

@[simp] theorem capStop_keeps (r : Nat) (b : Block) :
    (capStop r b).lc = b.lc ∧ (capStop r b).fw = b.fw ∧ (capStop r b).cfg = b.cfg ∧ (capStop r b).clock.ticks = b.clock.ticks ∧
    (capStop r b).clock.running = b.clock.running ∧ (capStop r b).pins = b.pins ∧ (capStop r b).pwr.rest = b.pwr.rest ∧ (capStop r b).act = b.act ∧
    (capStop r b).recs = b.recs ∧ (capStop r b).out = b.out ∧ (capStop r b).bist = b.bist ∧ (capStop r b).bal = b.bal ∧ (capStop r b).cw = b.cw ∧
    (capStop r b).fen = b.fen ∧ (capStop r b).spi = b.spi := by
  unfold capStop; simp
@[simp] theorem capTick_keeps (r : Nat) (b : Block) :
    (capTick r b).lc = b.lc ∧ (capTick r b).fw = b.fw ∧ (capTick r b).cfg = b.cfg ∧ (capTick r b).clock.ticks = b.clock.ticks ∧
    (capTick r b).clock.running = b.clock.running ∧ (capTick r b).pins = b.pins ∧ (capTick r b).pwr.rest = b.pwr.rest ∧ (capTick r b).act = b.act ∧
    (capTick r b).recs = b.recs ∧ (capTick r b).out = b.out ∧ (capTick r b).bist = b.bist ∧ (capTick r b).bal = b.bal ∧ (capTick r b).cw = b.cw ∧
    (capTick r b).fen = b.fen ∧ (capTick r b).spi = b.spi := by
  unfold capTick; simp
@[simp] theorem capTicks_keeps (b : Block) :
    (capTicks b).lc = b.lc ∧ (capTicks b).fw = b.fw ∧ (capTicks b).cfg = b.cfg ∧ (capTicks b).clock.ticks = b.clock.ticks ∧
    (capTicks b).clock.running = b.clock.running ∧ (capTicks b).pins = b.pins ∧ (capTicks b).pwr.rest = b.pwr.rest ∧ (capTicks b).act = b.act ∧
    (capTicks b).recs = b.recs ∧ (capTicks b).out = b.out ∧ (capTicks b).bist = b.bist ∧ (capTicks b).bal = b.bal ∧ (capTicks b).cw = b.cw ∧
    (capTicks b).fen = b.fen ∧ (capTicks b).spi = b.spi := by
  unfold capTicks; simp
@[simp] theorem capFinish_keeps (r : Nat) (b : Block) :
    (capFinish r b).lc = b.lc ∧ (capFinish r b).fw = b.fw ∧ (capFinish r b).cfg = b.cfg ∧ (capFinish r b).clock.ticks = b.clock.ticks ∧
    (capFinish r b).clock.running = b.clock.running ∧ (capFinish r b).pins = b.pins ∧ (capFinish r b).pwr.rest = b.pwr.rest ∧
    (capFinish r b).act = b.act ∧ (capFinish r b).recs = b.recs ∧ (capFinish r b).out = b.out ∧ (capFinish r b).bist = b.bist ∧
    (capFinish r b).bal = b.bal ∧ (capFinish r b).cw = b.cw ∧ (capFinish r b).fen = b.fen ∧ (capFinish r b).cap = b.cap ∧
    (capFinish r b).spi = b.spi := by
  unfold capFinish; simp
@[simp] theorem capDone_keeps (r : Nat) (b : Block) :
    (capDone r b).lc = b.lc ∧ (capDone r b).fw = b.fw ∧ (capDone r b).cfg = b.cfg ∧ (capDone r b).clock.ticks = b.clock.ticks ∧
    (capDone r b).clock.running = b.clock.running ∧ (capDone r b).pins = b.pins ∧ (capDone r b).pwr.rest = b.pwr.rest ∧ (capDone r b).act = b.act ∧
    (capDone r b).recs = b.recs ∧ (capDone r b).out = b.out ∧ (capDone r b).bist = b.bist ∧ (capDone r b).bal = b.bal ∧ (capDone r b).cw = b.cw ∧
    (capDone r b).fen = b.fen ∧ (capDone r b).cap = b.cap ∧ (capDone r b).spi = b.spi := by
  unfold capDone; simp
@[simp] theorem capDoneAll_keeps (b : Block) :
    (capDoneAll b).lc = b.lc ∧ (capDoneAll b).fw = b.fw ∧ (capDoneAll b).cfg = b.cfg ∧ (capDoneAll b).clock.ticks = b.clock.ticks ∧
    (capDoneAll b).clock.running = b.clock.running ∧ (capDoneAll b).pins = b.pins ∧ (capDoneAll b).pwr.rest = b.pwr.rest ∧
    (capDoneAll b).act = b.act ∧ (capDoneAll b).recs = b.recs ∧ (capDoneAll b).out = b.out ∧ (capDoneAll b).bist = b.bist ∧
    (capDoneAll b).bal = b.bal ∧ (capDoneAll b).cw = b.cw ∧ (capDoneAll b).fen = b.fen ∧ (capDoneAll b).cap = b.cap ∧ (capDoneAll b).spi = b.spi := by
  unfold capDoneAll; simp
@[simp] theorem writeCapMark_keeps (r : Nat) (v : Word) (b : Block) :
    (writeCapMark r v b).lc = b.lc ∧ (writeCapMark r v b).fw = b.fw ∧ (writeCapMark r v b).cfg = b.cfg ∧
    (writeCapMark r v b).clock.ticks = b.clock.ticks ∧ (writeCapMark r v b).clock.running = b.clock.running ∧ (writeCapMark r v b).pins = b.pins ∧
    (writeCapMark r v b).pwr.rest = b.pwr.rest ∧ (writeCapMark r v b).act = b.act ∧ (writeCapMark r v b).recs = b.recs ∧
    (writeCapMark r v b).out = b.out ∧ (writeCapMark r v b).bist = b.bist ∧ (writeCapMark r v b).bal = b.bal ∧ (writeCapMark r v b).cw = b.cw ∧
    (writeCapMark r v b).fen = b.fen ∧ (writeCapMark r v b).cap = b.cap ∧ (writeCapMark r v b).spi = b.spi := by
  unfold writeCapMark; simp
@[simp] theorem writeCapCtl_keeps (r : Nat) (v : Word) (b : Block) :
    (writeCapCtl r v b).lc = b.lc ∧ (writeCapCtl r v b).fw = b.fw ∧ (writeCapCtl r v b).cfg = b.cfg ∧
    (writeCapCtl r v b).clock.ticks = b.clock.ticks ∧ (writeCapCtl r v b).clock.running = b.clock.running ∧ (writeCapCtl r v b).pins = b.pins ∧
    (writeCapCtl r v b).pwr.rest = b.pwr.rest ∧ (writeCapCtl r v b).act = b.act ∧ (writeCapCtl r v b).recs = b.recs ∧
    (writeCapCtl r v b).out = b.out ∧ (writeCapCtl r v b).bist = b.bist ∧ (writeCapCtl r v b).bal = b.bal ∧ (writeCapCtl r v b).cw = b.cw ∧
    (writeCapCtl r v b).fen = b.fen ∧ (writeCapCtl r v b).spi = b.spi := by
  unfold writeCapCtl; simp
@[simp] theorem writeCapGeom_keeps (r : Nat) (v : Word) (b : Block) :
    (writeCapGeom r v b).lc = b.lc ∧ (writeCapGeom r v b).fw = b.fw ∧ (writeCapGeom r v b).cfg = b.cfg ∧
    (writeCapGeom r v b).clock.ticks = b.clock.ticks ∧ (writeCapGeom r v b).clock.running = b.clock.running ∧ (writeCapGeom r v b).pins = b.pins ∧
    (writeCapGeom r v b).pwr.rest = b.pwr.rest ∧ (writeCapGeom r v b).act = b.act ∧ (writeCapGeom r v b).recs = b.recs ∧
    (writeCapGeom r v b).out = b.out ∧ (writeCapGeom r v b).bist = b.bist ∧ (writeCapGeom r v b).bal = b.bal ∧ (writeCapGeom r v b).cw = b.cw ∧
    (writeCapGeom r v b).fen = b.fen ∧ (writeCapGeom r v b).spi = b.spi := by
  unfold writeCapGeom; simp
@[simp] theorem readCapData_keeps (b : Block) :
    (readCapData b).2.lc = b.lc ∧ (readCapData b).2.fw = b.fw ∧ (readCapData b).2.cfg = b.cfg ∧ (readCapData b).2.clock.ticks = b.clock.ticks ∧
    (readCapData b).2.clock.running = b.clock.running ∧ (readCapData b).2.pins = b.pins ∧ (readCapData b).2.pwr.rest = b.pwr.rest ∧
    (readCapData b).2.act = b.act ∧ (readCapData b).2.recs = b.recs ∧ (readCapData b).2.out = b.out ∧ (readCapData b).2.bist = b.bist ∧
    (readCapData b).2.bal = b.bal ∧ (readCapData b).2.cw = b.cw ∧ (readCapData b).2.fen = b.fen ∧ (readCapData b).2.cap = b.cap ∧
    (readCapData b).2.spi = b.spi := by
  unfold readCapData; simp
@[simp] theorem pullOn_keeps (q ring start len addr copied pace : Nat) (fail : Bool) (b : Block) :
    (pullOn q ring start len addr copied pace fail b).lc = b.lc ∧ (pullOn q ring start len addr copied pace fail b).fw = b.fw ∧
    (pullOn q ring start len addr copied pace fail b).cfg = b.cfg ∧ (pullOn q ring start len addr copied pace fail b).clock.ticks = b.clock.ticks ∧
    (pullOn q ring start len addr copied pace fail b).clock.running = b.clock.running ∧
    (pullOn q ring start len addr copied pace fail b).pins = b.pins ∧ (pullOn q ring start len addr copied pace fail b).pwr.rest = b.pwr.rest ∧
    (pullOn q ring start len addr copied pace fail b).act = b.act ∧ (pullOn q ring start len addr copied pace fail b).recs = b.recs ∧
    (pullOn q ring start len addr copied pace fail b).bist = b.bist ∧ (pullOn q ring start len addr copied pace fail b).bal = b.bal ∧
    (pullOn q ring start len addr copied pace fail b).cw = b.cw ∧ (pullOn q ring start len addr copied pace fail b).fen = b.fen ∧
    (pullOn q ring start len addr copied pace fail b).cap = b.cap ∧ (pullOn q ring start len addr copied pace fail b).spi = b.spi := by
  unfold pullOn; simp
@[simp] theorem capPull_keeps (q r start len addr : Nat) (pace : Nat) (fail : Bool) (b : Block) :
    (capPull q r start len addr pace fail b).lc = b.lc ∧ (capPull q r start len addr pace fail b).fw = b.fw ∧
    (capPull q r start len addr pace fail b).cfg = b.cfg ∧ (capPull q r start len addr pace fail b).clock.ticks = b.clock.ticks ∧
    (capPull q r start len addr pace fail b).clock.running = b.clock.running ∧ (capPull q r start len addr pace fail b).pins = b.pins ∧
    (capPull q r start len addr pace fail b).pwr.rest = b.pwr.rest ∧ (capPull q r start len addr pace fail b).act = b.act ∧
    (capPull q r start len addr pace fail b).recs = b.recs ∧ (capPull q r start len addr pace fail b).bist = b.bist ∧
    (capPull q r start len addr pace fail b).bal = b.bal ∧ (capPull q r start len addr pace fail b).cw = b.cw ∧
    (capPull q r start len addr pace fail b).fen = b.fen ∧ (capPull q r start len addr pace fail b).cap = b.cap ∧
    (capPull q r start len addr pace fail b).spi = b.spi := by
  unfold capPull; simp
@[simp] theorem pullTick_keeps (b : Block) :
    (pullTick b).lc = b.lc ∧ (pullTick b).fw = b.fw ∧ (pullTick b).cfg = b.cfg ∧ (pullTick b).clock.ticks = b.clock.ticks ∧
    (pullTick b).clock.running = b.clock.running ∧ (pullTick b).pins = b.pins ∧ (pullTick b).pwr.rest = b.pwr.rest ∧ (pullTick b).act = b.act ∧
    (pullTick b).recs = b.recs ∧ (pullTick b).bist = b.bist ∧ (pullTick b).bal = b.bal ∧ (pullTick b).cw = b.cw ∧ (pullTick b).fen = b.fen ∧
    (pullTick b).cap = b.cap ∧ (pullTick b).spi = b.spi := by
  unfold pullTick; (try dsimp only); (repeat' split) <;> simp (disch := (intros; (try dsimp only); (repeat' split) <;> (try simp)))
@[simp] theorem writeCntCfg_keeps (i : Nat) (v : Word) (b : Block) :
    (writeCntCfg i v b).lc = b.lc ∧ (writeCntCfg i v b).fw = b.fw ∧ (writeCntCfg i v b).cfg = b.cfg ∧
    (writeCntCfg i v b).clock.ticks = b.clock.ticks ∧ (writeCntCfg i v b).clock.running = b.clock.running ∧ (writeCntCfg i v b).pins = b.pins ∧
    (writeCntCfg i v b).pwr.rest = b.pwr.rest ∧ (writeCntCfg i v b).act = b.act ∧ (writeCntCfg i v b).recs = b.recs ∧
    (writeCntCfg i v b).out = b.out ∧ (writeCntCfg i v b).bist = b.bist ∧ (writeCntCfg i v b).bal = b.bal ∧ (writeCntCfg i v b).cw = b.cw ∧
    (writeCntCfg i v b).fen = b.fen ∧ (writeCntCfg i v b).spi = b.spi := by
  unfold writeCntCfg; simp
@[simp] theorem writeCntCtl_keeps (v : Word) (b : Block) :
    (writeCntCtl v b).lc = b.lc ∧ (writeCntCtl v b).fw = b.fw ∧ (writeCntCtl v b).cfg = b.cfg ∧ (writeCntCtl v b).clock.ticks = b.clock.ticks ∧
    (writeCntCtl v b).clock.running = b.clock.running ∧ (writeCntCtl v b).pins = b.pins ∧ (writeCntCtl v b).pwr.rest = b.pwr.rest ∧
    (writeCntCtl v b).act = b.act ∧ (writeCntCtl v b).recs = b.recs ∧ (writeCntCtl v b).out = b.out ∧ (writeCntCtl v b).bist = b.bist ∧
    (writeCntCtl v b).bal = b.bal ∧ (writeCntCtl v b).cw = b.cw ∧ (writeCntCtl v b).fen = b.fen ∧ (writeCntCtl v b).spi = b.spi := by
  unfold writeCntCtl; simp
@[simp] theorem cntClear_keeps (b : Block) :
    (cntClear b).lc = b.lc ∧ (cntClear b).fw = b.fw ∧ (cntClear b).cfg = b.cfg ∧ (cntClear b).clock.ticks = b.clock.ticks ∧
    (cntClear b).clock.running = b.clock.running ∧ (cntClear b).pins = b.pins ∧ (cntClear b).pwr.rest = b.pwr.rest ∧ (cntClear b).act = b.act ∧
    (cntClear b).recs = b.recs ∧ (cntClear b).out = b.out ∧ (cntClear b).bist = b.bist ∧ (cntClear b).bal = b.bal ∧ (cntClear b).cw = b.cw ∧
    (cntClear b).fen = b.fen ∧ (cntClear b).spi = b.spi := by
  unfold cntClear; simp
@[simp] theorem cntUnfreeze_keeps (b : Block) :
    (cntUnfreeze b).lc = b.lc ∧ (cntUnfreeze b).fw = b.fw ∧ (cntUnfreeze b).cfg = b.cfg ∧ (cntUnfreeze b).clock.ticks = b.clock.ticks ∧
    (cntUnfreeze b).clock.running = b.clock.running ∧ (cntUnfreeze b).pins = b.pins ∧ (cntUnfreeze b).pwr.rest = b.pwr.rest ∧
    (cntUnfreeze b).act = b.act ∧ (cntUnfreeze b).recs = b.recs ∧ (cntUnfreeze b).out = b.out ∧ (cntUnfreeze b).bist = b.bist ∧
    (cntUnfreeze b).bal = b.bal ∧ (cntUnfreeze b).cw = b.cw ∧ (cntUnfreeze b).fen = b.fen ∧ (cntUnfreeze b).spi = b.spi := by
  unfold cntUnfreeze; simp
@[simp] theorem cntModes_keeps (b : Block) :
    (cntModes b).lc = b.lc ∧ (cntModes b).fw = b.fw ∧ (cntModes b).cfg = b.cfg ∧ (cntModes b).clock.ticks = b.clock.ticks ∧
    (cntModes b).clock.running = b.clock.running ∧ (cntModes b).pins = b.pins ∧ (cntModes b).pwr.rest = b.pwr.rest ∧ (cntModes b).act = b.act ∧
    (cntModes b).recs = b.recs ∧ (cntModes b).out = b.out ∧ (cntModes b).bist = b.bist ∧ (cntModes b).bal = b.bal ∧ (cntModes b).cw = b.cw ∧
    (cntModes b).fen = b.fen ∧ (cntModes b).spi = b.spi := by
  unfold cntModes; simp
@[simp] theorem cntTick_keeps (b : Block) :
    (cntTick b).lc = b.lc ∧ (cntTick b).fw = b.fw ∧ (cntTick b).cfg = b.cfg ∧ (cntTick b).clock.ticks = b.clock.ticks ∧
    (cntTick b).clock.running = b.clock.running ∧ (cntTick b).pins = b.pins ∧ (cntTick b).pwr.rest = b.pwr.rest ∧ (cntTick b).act = b.act ∧
    (cntTick b).recs = b.recs ∧ (cntTick b).out = b.out ∧ (cntTick b).bist = b.bist ∧ (cntTick b).bal = b.bal ∧ (cntTick b).cw = b.cw ∧
    (cntTick b).fen = b.fen ∧ (cntTick b).spi = b.spi := by
  unfold cntTick; simp
@[simp] theorem cntSnap_keeps (b : Block) :
    (cntSnap b).lc = b.lc ∧ (cntSnap b).fw = b.fw ∧ (cntSnap b).cfg = b.cfg ∧ (cntSnap b).clock.ticks = b.clock.ticks ∧
    (cntSnap b).clock.running = b.clock.running ∧ (cntSnap b).pins = b.pins ∧ (cntSnap b).pwr.rest = b.pwr.rest ∧ (cntSnap b).act = b.act ∧
    (cntSnap b).recs = b.recs ∧ (cntSnap b).out = b.out ∧ (cntSnap b).bist = b.bist ∧ (cntSnap b).bal = b.bal ∧ (cntSnap b).cw = b.cw ∧
    (cntSnap b).fen = b.fen ∧ (cntSnap b).cap = b.cap ∧ (cntSnap b).spi = b.spi := by
  unfold cntSnap; simp

end Sys2Proof.Machine
end

