-- ==== Sys2Proof/Laws/KeepPower.lean ====
section
/-! SUPPORT. What each operation of Machine/Power.lean leaves alone: a `…_keeps` lemma lists the fields of the block that read after it as before. -/

namespace Sys2Proof.Machine

set_option linter.all false

@[simp] theorem powerAsk_keeps (p : PowerState) (b : Block) :
    (powerAsk p b).lc = b.lc ∧ (powerAsk p b).fw = b.fw ∧ (powerAsk p b).cfg = b.cfg ∧ (powerAsk p b).clock.ticks = b.clock.ticks ∧
    (powerAsk p b).clock.running = b.clock.running ∧ (powerAsk p b).pins = b.pins ∧ (powerAsk p b).pwr.rest = b.pwr.rest ∧
    (powerAsk p b).act = b.act ∧ (powerAsk p b).recs = b.recs ∧ (powerAsk p b).out = b.out ∧ (powerAsk p b).bist = b.bist ∧
    (powerAsk p b).bal = b.bal ∧ (powerAsk p b).cw = b.cw ∧ (powerAsk p b).fen = b.fen ∧ (powerAsk p b).cap = b.cap ∧ (powerAsk p b).spi = b.spi := by
  unfold powerAsk; simp
@[simp] theorem writePwrCtl_keeps (v : Word) (b : Block) :
    (writePwrCtl v b).lc = b.lc ∧ (writePwrCtl v b).fw = b.fw ∧ (writePwrCtl v b).cfg = b.cfg ∧ (writePwrCtl v b).clock.ticks = b.clock.ticks ∧
    (writePwrCtl v b).clock.running = b.clock.running ∧ (writePwrCtl v b).pins = b.pins ∧ (writePwrCtl v b).pwr.rest = b.pwr.rest ∧
    (writePwrCtl v b).act = b.act ∧ (writePwrCtl v b).recs = b.recs ∧ (writePwrCtl v b).out = b.out ∧ (writePwrCtl v b).bist = b.bist ∧
    (writePwrCtl v b).bal = b.bal ∧ (writePwrCtl v b).cw = b.cw ∧ (writePwrCtl v b).fen = b.fen ∧ (writePwrCtl v b).cap = b.cap ∧
    (writePwrCtl v b).spi = b.spi := by
  unfold writePwrCtl; (try dsimp only); (repeat' split) <;> simp
@[simp] theorem reachRun_keeps (b : Block) :
    (reachRun b).lc = b.lc ∧ (reachRun b).cfg = b.cfg ∧ (reachRun b).clock.ticks = b.clock.ticks ∧ (reachRun b).clock.running = b.clock.running ∧
    (reachRun b).pins = b.pins ∧ (reachRun b).pwr.rest = b.pwr.rest ∧ (reachRun b).act = b.act ∧ (reachRun b).recs = b.recs ∧
    (reachRun b).out = b.out ∧ (reachRun b).bist = b.bist ∧ (reachRun b).bal = b.bal ∧ (reachRun b).cw = b.cw ∧ (reachRun b).fen = b.fen ∧
    (reachRun b).cap = b.cap ∧ (reachRun b).spi = b.spi := by
  unfold reachRun; simp
@[simp] theorem parkAccept_keeps (b : Block) :
    (parkAccept b).lc = b.lc ∧ (parkAccept b).fw = b.fw ∧ (parkAccept b).cfg = b.cfg ∧ (parkAccept b).clock.ticks = b.clock.ticks ∧
    (parkAccept b).clock.running = b.clock.running ∧ (parkAccept b).pins = b.pins ∧ (parkAccept b).act = b.act ∧ (parkAccept b).recs = b.recs ∧
    (parkAccept b).out = b.out ∧ (parkAccept b).cw = b.cw ∧ (parkAccept b).spi = b.spi := by
  unfold parkAccept; simp
@[simp] theorem powerTick_keeps (b : Block) :
    (powerTick b).lc = b.lc ∧ (powerTick b).cfg = b.cfg ∧ (powerTick b).clock.ticks = b.clock.ticks ∧ (powerTick b).clock.running = b.clock.running ∧
    (powerTick b).pins = b.pins ∧ (powerTick b).act = b.act ∧ (powerTick b).recs = b.recs ∧ (powerTick b).out = b.out ∧ (powerTick b).cw = b.cw ∧
    (powerTick b).spi = b.spi := by
  unfold powerTick; (try dsimp only); (repeat' split) <;> simp
@[simp] theorem lcResult_keeps (n : Nat) (b : Block) :
    (lcResult n b).lc = b.lc ∧ (lcResult n b).fw = b.fw ∧ (lcResult n b).cfg = b.cfg ∧ (lcResult n b).clock.ticks = b.clock.ticks ∧
    (lcResult n b).clock.running = b.clock.running ∧ (lcResult n b).pins = b.pins ∧ (lcResult n b).pwr.rest = b.pwr.rest ∧
    (lcResult n b).act = b.act ∧ (lcResult n b).recs = b.recs ∧ (lcResult n b).out = b.out ∧ (lcResult n b).bist = b.bist ∧
    (lcResult n b).bal = b.bal ∧ (lcResult n b).cw = b.cw ∧ (lcResult n b).fen = b.fen ∧ (lcResult n b).cap = b.cap ∧ (lcResult n b).spi = b.spi := by
  unfold lcResult; simp
@[simp] theorem lcShow_keeps (b : Block) :
    (lcShow b).lc = b.lc ∧ (lcShow b).fw = b.fw ∧ (lcShow b).cfg = b.cfg ∧ (lcShow b).clock.ticks = b.clock.ticks ∧
    (lcShow b).clock.running = b.clock.running ∧ (lcShow b).pins = b.pins ∧ (lcShow b).pwr.rest = b.pwr.rest ∧ (lcShow b).act = b.act ∧
    (lcShow b).recs = b.recs ∧ (lcShow b).out = b.out ∧ (lcShow b).bist = b.bist ∧ (lcShow b).bal = b.bal ∧ (lcShow b).cw = b.cw ∧
    (lcShow b).fen = b.fen ∧ (lcShow b).cap = b.cap ∧ (lcShow b).spi = b.spi := by
  unfold lcShow; simp
@[simp] theorem cfgShow_keeps (active : Nat) (b : Block) :
    (cfgShow active b).lc = b.lc ∧ (cfgShow active b).fw = b.fw ∧ (cfgShow active b).cfg = b.cfg ∧ (cfgShow active b).clock.ticks = b.clock.ticks ∧
    (cfgShow active b).clock.running = b.clock.running ∧ (cfgShow active b).pins = b.pins ∧ (cfgShow active b).pwr.rest = b.pwr.rest ∧
    (cfgShow active b).act = b.act ∧ (cfgShow active b).recs = b.recs ∧ (cfgShow active b).out = b.out ∧ (cfgShow active b).bist = b.bist ∧
    (cfgShow active b).bal = b.bal ∧ (cfgShow active b).cw = b.cw ∧ (cfgShow active b).fen = b.fen ∧ (cfgShow active b).cap = b.cap ∧
    (cfgShow active b).spi = b.spi := by
  unfold cfgShow; simp
@[simp] theorem cfgEnd_keeps (result seq : Nat) (b : Block) :
    (cfgEnd result seq b).lc = b.lc ∧ (cfgEnd result seq b).clock.ticks = b.clock.ticks ∧ (cfgEnd result seq b).clock.running = b.clock.running ∧
    (cfgEnd result seq b).pins = b.pins ∧ (cfgEnd result seq b).pwr.rest = b.pwr.rest ∧ (cfgEnd result seq b).act = b.act ∧
    (cfgEnd result seq b).recs = b.recs ∧ (cfgEnd result seq b).out = b.out ∧ (cfgEnd result seq b).bist = b.bist ∧
    (cfgEnd result seq b).bal = b.bal ∧ (cfgEnd result seq b).cw = b.cw ∧ (cfgEnd result seq b).fen = b.fen ∧ (cfgEnd result seq b).cap = b.cap ∧
    (cfgEnd result seq b).spi = b.spi := by
  unfold cfgEnd; simp
@[simp] theorem retire_keeps (b : Block) :
    (retire b).clock.ticks = b.clock.ticks ∧ (retire b).clock.running = b.clock.running ∧ (retire b).pins = b.pins ∧
    (retire b).pwr.rest = b.pwr.rest ∧ (retire b).act = b.act ∧ (retire b).recs = b.recs ∧ (retire b).out = b.out ∧ (retire b).bist = b.bist ∧
    (retire b).bal = b.bal ∧ (retire b).cw = b.cw ∧ (retire b).fen = b.fen ∧ (retire b).cap = b.cap ∧ (retire b).spi = b.spi := by
  unfold retire; simp
@[simp] theorem lcMove_keeps (target : Life) (b : Block) :
    (lcMove target b).clock.ticks = b.clock.ticks ∧ (lcMove target b).clock.running = b.clock.running ∧ (lcMove target b).pins = b.pins ∧
    (lcMove target b).pwr.rest = b.pwr.rest ∧ (lcMove target b).act = b.act ∧ (lcMove target b).recs = b.recs ∧ (lcMove target b).out = b.out ∧
    (lcMove target b).bist = b.bist ∧ (lcMove target b).bal = b.bal ∧ (lcMove target b).cw = b.cw ∧ (lcMove target b).fen = b.fen ∧
    (lcMove target b).cap = b.cap ∧ (lcMove target b).spi = b.spi := by
  unfold lcMove; simp
@[simp] theorem lcAuth_keeps (target : Life) (b : Block) :
    (lcAuth target b).clock.ticks = b.clock.ticks ∧ (lcAuth target b).clock.running = b.clock.running ∧ (lcAuth target b).pins = b.pins ∧
    (lcAuth target b).pwr.rest = b.pwr.rest ∧ (lcAuth target b).act = b.act ∧ (lcAuth target b).recs = b.recs ∧ (lcAuth target b).out = b.out ∧
    (lcAuth target b).bist = b.bist ∧ (lcAuth target b).bal = b.bal ∧ (lcAuth target b).cw = b.cw ∧ (lcAuth target b).fen = b.fen ∧
    (lcAuth target b).cap = b.cap ∧ (lcAuth target b).spi = b.spi := by
  unfold lcAuth; simp
@[simp] theorem lcRequest_keeps (target : Nat) (b : Block) :
    (lcRequest target b).clock.ticks = b.clock.ticks ∧ (lcRequest target b).clock.running = b.clock.running ∧ (lcRequest target b).pins = b.pins ∧
    (lcRequest target b).pwr.rest = b.pwr.rest ∧ (lcRequest target b).act = b.act ∧ (lcRequest target b).recs = b.recs ∧
    (lcRequest target b).out = b.out ∧ (lcRequest target b).bist = b.bist ∧ (lcRequest target b).bal = b.bal ∧ (lcRequest target b).cw = b.cw ∧
    (lcRequest target b).fen = b.fen ∧ (lcRequest target b).cap = b.cap ∧ (lcRequest target b).spi = b.spi := by
  unfold lcRequest; (try dsimp only); (repeat' split) <;> simp
@[simp] theorem lcChallenge_keeps (b : Block) :
    (lcChallenge b).fw = b.fw ∧ (lcChallenge b).cfg = b.cfg ∧ (lcChallenge b).clock.ticks = b.clock.ticks ∧
    (lcChallenge b).clock.running = b.clock.running ∧ (lcChallenge b).pins = b.pins ∧ (lcChallenge b).pwr.rest = b.pwr.rest ∧
    (lcChallenge b).act = b.act ∧ (lcChallenge b).recs = b.recs ∧ (lcChallenge b).out = b.out ∧ (lcChallenge b).bist = b.bist ∧
    (lcChallenge b).bal = b.bal ∧ (lcChallenge b).cw = b.cw ∧ (lcChallenge b).fen = b.fen ∧ (lcChallenge b).cap = b.cap ∧
    (lcChallenge b).spi = b.spi := by
  unfold lcChallenge; simp
@[simp] theorem lcStore_keeps (svc : Bool) (b : Block) :
    (lcStore svc b).fw = b.fw ∧ (lcStore svc b).cfg = b.cfg ∧ (lcStore svc b).clock.ticks = b.clock.ticks ∧
    (lcStore svc b).clock.running = b.clock.running ∧ (lcStore svc b).pins = b.pins ∧ (lcStore svc b).pwr.rest = b.pwr.rest ∧
    (lcStore svc b).act = b.act ∧ (lcStore svc b).recs = b.recs ∧ (lcStore svc b).out = b.out ∧ (lcStore svc b).bist = b.bist ∧
    (lcStore svc b).bal = b.bal ∧ (lcStore svc b).cw = b.cw ∧ (lcStore svc b).fen = b.fen ∧ (lcStore svc b).cap = b.cap ∧
    (lcStore svc b).spi = b.spi := by
  unfold lcStore; simp
@[simp] theorem writeLcCtl_keeps (v : Word) (b : Block) :
    (writeLcCtl v b).clock.ticks = b.clock.ticks ∧ (writeLcCtl v b).clock.running = b.clock.running ∧ (writeLcCtl v b).pins = b.pins ∧
    (writeLcCtl v b).pwr.rest = b.pwr.rest ∧ (writeLcCtl v b).act = b.act ∧ (writeLcCtl v b).recs = b.recs ∧ (writeLcCtl v b).out = b.out ∧
    (writeLcCtl v b).bist = b.bist ∧ (writeLcCtl v b).bal = b.bal ∧ (writeLcCtl v b).cw = b.cw ∧ (writeLcCtl v b).fen = b.fen ∧
    (writeLcCtl v b).cap = b.cap ∧ (writeLcCtl v b).spi = b.spi := by
  unfold writeLcCtl; simp
@[simp] theorem lcTick_keeps (b : Block) :
    (lcTick b).fw = b.fw ∧ (lcTick b).cfg = b.cfg ∧ (lcTick b).clock.ticks = b.clock.ticks ∧ (lcTick b).clock.running = b.clock.running ∧
    (lcTick b).pins = b.pins ∧ (lcTick b).pwr.rest = b.pwr.rest ∧ (lcTick b).act = b.act ∧ (lcTick b).recs = b.recs ∧ (lcTick b).out = b.out ∧
    (lcTick b).bist = b.bist ∧ (lcTick b).bal = b.bal ∧ (lcTick b).cw = b.cw ∧ (lcTick b).fen = b.fen ∧ (lcTick b).cap = b.cap ∧
    (lcTick b).spi = b.spi := by
  unfold lcTick; simp
@[simp] theorem cfgAsk_keeps (q : Option Nat) (b : Block) :
    (cfgAsk q b).lc = b.lc ∧ (cfgAsk q b).fw = b.fw ∧ (cfgAsk q b).clock.ticks = b.clock.ticks ∧ (cfgAsk q b).clock.running = b.clock.running ∧
    (cfgAsk q b).pins = b.pins ∧ (cfgAsk q b).pwr.rest = b.pwr.rest ∧ (cfgAsk q b).act = b.act ∧ (cfgAsk q b).recs = b.recs ∧
    (cfgAsk q b).out = b.out ∧ (cfgAsk q b).bist = b.bist ∧ (cfgAsk q b).bal = b.bal ∧ (cfgAsk q b).cw = b.cw ∧ (cfgAsk q b).fen = b.fen ∧
    (cfgAsk q b).cap = b.cap ∧ (cfgAsk q b).spi = b.spi := by
  unfold cfgAsk; (try dsimp only); (repeat' split) <;> simp
@[simp] theorem cfgCapture_keeps (b : Block) :
    (cfgCapture b).lc = b.lc ∧ (cfgCapture b).fw = b.fw ∧ (cfgCapture b).clock.ticks = b.clock.ticks ∧
    (cfgCapture b).clock.running = b.clock.running ∧ (cfgCapture b).pins = b.pins ∧ (cfgCapture b).pwr.rest = b.pwr.rest ∧
    (cfgCapture b).act = b.act ∧ (cfgCapture b).recs = b.recs ∧ (cfgCapture b).out = b.out ∧ (cfgCapture b).bist = b.bist ∧
    (cfgCapture b).bal = b.bal ∧ (cfgCapture b).cw = b.cw ∧ (cfgCapture b).fen = b.fen ∧ (cfgCapture b).cap = b.cap ∧ (cfgCapture b).spi = b.spi := by
  unfold cfgCapture; simp
@[simp] theorem cfgDone_keeps (ok : Bool) (b : Block) :
    (cfgDone ok b).lc = b.lc ∧ (cfgDone ok b).clock.ticks = b.clock.ticks ∧ (cfgDone ok b).clock.running = b.clock.running ∧
    (cfgDone ok b).pins = b.pins ∧ (cfgDone ok b).pwr.rest = b.pwr.rest ∧ (cfgDone ok b).act = b.act ∧ (cfgDone ok b).recs = b.recs ∧
    (cfgDone ok b).bist = b.bist ∧ (cfgDone ok b).bal = b.bal ∧ (cfgDone ok b).cw = b.cw ∧ (cfgDone ok b).fen = b.fen ∧
    (cfgDone ok b).spi = b.spi := by
  unfold cfgDone; (try dsimp only); (repeat' split) <;> simp
@[simp] theorem fwUpdate_keeps (q : Nat) (d : Desc) (ws : List Word) (readback : Bool) (b : Block) :
    (fwUpdate q d ws readback b).lc = b.lc ∧ (fwUpdate q d ws readback b).cfg = b.cfg ∧ (fwUpdate q d ws readback b).clock.ticks = b.clock.ticks ∧
    (fwUpdate q d ws readback b).clock.running = b.clock.running ∧ (fwUpdate q d ws readback b).pins = b.pins ∧
    (fwUpdate q d ws readback b).pwr.rest = b.pwr.rest ∧ (fwUpdate q d ws readback b).act = b.act ∧ (fwUpdate q d ws readback b).recs = b.recs ∧
    (fwUpdate q d ws readback b).bist = b.bist ∧ (fwUpdate q d ws readback b).bal = b.bal ∧ (fwUpdate q d ws readback b).cw = b.cw ∧
    (fwUpdate q d ws readback b).fen = b.fen ∧ (fwUpdate q d ws readback b).spi = b.spi := by
  unfold fwUpdate; simp
@[simp] theorem fwEnd_keeps (j : FwJob) (status detail r1 : Nat) (b : Block) :
    (fwEnd j status detail r1 b).lc = b.lc ∧ (fwEnd j status detail r1 b).fw = b.fw ∧ (fwEnd j status detail r1 b).cfg = b.cfg ∧
    (fwEnd j status detail r1 b).clock.ticks = b.clock.ticks ∧ (fwEnd j status detail r1 b).clock.running = b.clock.running ∧
    (fwEnd j status detail r1 b).pins = b.pins ∧ (fwEnd j status detail r1 b).pwr.rest = b.pwr.rest ∧ (fwEnd j status detail r1 b).act = b.act ∧
    (fwEnd j status detail r1 b).recs = b.recs ∧ (fwEnd j status detail r1 b).out = b.out ∧ (fwEnd j status detail r1 b).bist = b.bist ∧
    (fwEnd j status detail r1 b).bal = b.bal ∧ (fwEnd j status detail r1 b).cw = b.cw ∧ (fwEnd j status detail r1 b).fen = b.fen ∧
    (fwEnd j status detail r1 b).cap = b.cap ∧ (fwEnd j status detail r1 b).spi = b.spi := by
  unfold fwEnd; (try dsimp only); (repeat' split) <;> simp
@[simp] theorem fwVerify_keeps (j : FwJob) (b : Block) :
    (fwVerify j b).lc = b.lc ∧ (fwVerify j b).cfg = b.cfg ∧ (fwVerify j b).clock.ticks = b.clock.ticks ∧
    (fwVerify j b).clock.running = b.clock.running ∧ (fwVerify j b).pins = b.pins ∧ (fwVerify j b).pwr.rest = b.pwr.rest ∧
    (fwVerify j b).act = b.act ∧ (fwVerify j b).recs = b.recs ∧ (fwVerify j b).bist = b.bist ∧ (fwVerify j b).bal = b.bal ∧
    (fwVerify j b).cw = b.cw ∧ (fwVerify j b).fen = b.fen ∧ (fwVerify j b).spi = b.spi := by
  unfold fwVerify; simp
@[simp] theorem fwTick_keeps (b : Block) :
    (fwTick b).lc = b.lc ∧ (fwTick b).clock.ticks = b.clock.ticks ∧ (fwTick b).clock.running = b.clock.running ∧ (fwTick b).pins = b.pins ∧
    (fwTick b).pwr.rest = b.pwr.rest ∧ (fwTick b).act = b.act ∧ (fwTick b).recs = b.recs ∧ (fwTick b).bist = b.bist ∧ (fwTick b).bal = b.bal ∧
    (fwTick b).cw = b.cw ∧ (fwTick b).fen = b.fen ∧ (fwTick b).spi = b.spi := by
  unfold fwTick; (try dsimp only); (repeat' split) <;> simp
@[simp] theorem fwAbort_keeps (b : Block) :
    (fwAbort b).lc = b.lc ∧ (fwAbort b).cfg = b.cfg ∧ (fwAbort b).clock.ticks = b.clock.ticks ∧ (fwAbort b).clock.running = b.clock.running ∧
    (fwAbort b).pins = b.pins ∧ (fwAbort b).pwr.rest = b.pwr.rest ∧ (fwAbort b).act = b.act ∧ (fwAbort b).recs = b.recs ∧ (fwAbort b).out = b.out ∧
    (fwAbort b).bist = b.bist ∧ (fwAbort b).bal = b.bal ∧ (fwAbort b).cw = b.cw ∧ (fwAbort b).fen = b.fen ∧ (fwAbort b).cap = b.cap ∧
    (fwAbort b).spi = b.spi := by
  unfold fwAbort; simp

end Sys2Proof.Machine
end

