-- ==== Sys2Proof/Laws/KeepCauseway.lean ====
section
/-! SUPPORT. What each operation of Machine/Causeway.lean leaves alone: a `…_keeps` lemma lists the fields of the block that read after it as before. -/

namespace Sys2Proof.Machine

set_option linter.all false

@[simp] theorem radioLoss_keeps (b : Block) :
    (radioLoss b).lc = b.lc ∧ (radioLoss b).fw = b.fw ∧ (radioLoss b).cfg = b.cfg ∧ (radioLoss b).clock.ticks = b.clock.ticks ∧
    (radioLoss b).clock.running = b.clock.running ∧ (radioLoss b).pins = b.pins ∧ (radioLoss b).pwr.rest = b.pwr.rest ∧ (radioLoss b).act = b.act ∧
    (radioLoss b).recs = b.recs ∧ (radioLoss b).out = b.out ∧ (radioLoss b).bist = b.bist ∧ (radioLoss b).bal = b.bal ∧ (radioLoss b).cw = b.cw ∧
    (radioLoss b).fen = b.fen ∧ (radioLoss b).cap = b.cap ∧ (radioLoss b).spi = b.spi := by
  unfold radioLoss; simp
@[simp] theorem radioReset_keeps (b : Block) :
    (radioReset b).lc = b.lc ∧ (radioReset b).fw = b.fw ∧ (radioReset b).cfg = b.cfg ∧ (radioReset b).clock.ticks = b.clock.ticks ∧
    (radioReset b).clock.running = b.clock.running ∧ (radioReset b).pins = b.pins ∧ (radioReset b).pwr.rest = b.pwr.rest ∧
    (radioReset b).act = b.act ∧ (radioReset b).recs = b.recs ∧ (radioReset b).out = b.out ∧ (radioReset b).bist = b.bist ∧
    (radioReset b).bal = b.bal ∧ (radioReset b).fen = b.fen ∧ (radioReset b).cap = b.cap ∧ (radioReset b).spi = b.spi := by
  unfold radioReset; simp
@[simp] theorem radioOff_keeps (b : Block) :
    (radioOff b).lc = b.lc ∧ (radioOff b).fw = b.fw ∧ (radioOff b).cfg = b.cfg ∧ (radioOff b).clock.ticks = b.clock.ticks ∧
    (radioOff b).clock.running = b.clock.running ∧ (radioOff b).pins = b.pins ∧ (radioOff b).pwr.rest = b.pwr.rest ∧ (radioOff b).act = b.act ∧
    (radioOff b).recs = b.recs ∧ (radioOff b).out = b.out ∧ (radioOff b).bist = b.bist ∧ (radioOff b).bal = b.bal ∧ (radioOff b).fen = b.fen ∧
    (radioOff b).cap = b.cap ∧ (radioOff b).spi = b.spi := by
  unfold radioOff; simp
@[simp] theorem topoLevels_keeps (b : Block) :
    (topoLevels b).lc = b.lc ∧ (topoLevels b).fw = b.fw ∧ (topoLevels b).cfg = b.cfg ∧ (topoLevels b).clock.ticks = b.clock.ticks ∧
    (topoLevels b).clock.running = b.clock.running ∧ (topoLevels b).pins = b.pins ∧ (topoLevels b).pwr.rest = b.pwr.rest ∧
    (topoLevels b).act = b.act ∧ (topoLevels b).recs = b.recs ∧ (topoLevels b).out = b.out ∧ (topoLevels b).bist = b.bist ∧
    (topoLevels b).bal = b.bal ∧ (topoLevels b).cw = b.cw ∧ (topoLevels b).fen = b.fen ∧ (topoLevels b).cap = b.cap ∧ (topoLevels b).spi = b.spi := by
  unfold topoLevels; simp
@[simp] theorem cwOff_keeps (b : Block) :
    (cwOff b).lc = b.lc ∧ (cwOff b).fw = b.fw ∧ (cwOff b).cfg = b.cfg ∧ (cwOff b).clock.ticks = b.clock.ticks ∧
    (cwOff b).clock.running = b.clock.running ∧ (cwOff b).pins = b.pins ∧ (cwOff b).pwr.rest = b.pwr.rest ∧ (cwOff b).act = b.act ∧
    (cwOff b).recs = b.recs ∧ (cwOff b).out = b.out ∧ (cwOff b).bist = b.bist ∧ (cwOff b).bal = b.bal ∧ (cwOff b).fen = b.fen ∧
    (cwOff b).cap = b.cap ∧ (cwOff b).spi = b.spi := by
  unfold cwOff; simp
@[simp] theorem cwAdopt_keeps (b : Block) :
    (cwAdopt b).lc = b.lc ∧ (cwAdopt b).fw = b.fw ∧ (cwAdopt b).cfg = b.cfg ∧ (cwAdopt b).clock.ticks = b.clock.ticks ∧
    (cwAdopt b).clock.running = b.clock.running ∧ (cwAdopt b).pins = b.pins ∧ (cwAdopt b).pwr.rest = b.pwr.rest ∧ (cwAdopt b).act = b.act ∧
    (cwAdopt b).recs = b.recs ∧ (cwAdopt b).out = b.out ∧ (cwAdopt b).bist = b.bist ∧ (cwAdopt b).bal = b.bal ∧ (cwAdopt b).fen = b.fen ∧
    (cwAdopt b).cap = b.cap ∧ (cwAdopt b).spi = b.spi := by
  unfold cwAdopt; simp
@[simp] theorem sendRecord_keeps (r : Rec) (b : Block) :
    (sendRecord r b).lc = b.lc ∧ (sendRecord r b).fw = b.fw ∧ (sendRecord r b).cfg = b.cfg ∧ (sendRecord r b).clock.ticks = b.clock.ticks ∧
    (sendRecord r b).clock.running = b.clock.running ∧ (sendRecord r b).pins = b.pins ∧ (sendRecord r b).pwr.rest = b.pwr.rest ∧
    (sendRecord r b).act = b.act ∧ (sendRecord r b).recs = b.recs ∧ (sendRecord r b).bist = b.bist ∧ (sendRecord r b).bal = b.bal ∧
    (sendRecord r b).cw = b.cw ∧ (sendRecord r b).fen = b.fen ∧ (sendRecord r b).cap = b.cap ∧ (sendRecord r b).spi = b.spi := by
  unfold sendRecord; simp
@[simp] theorem sendToken_keeps (sender next unas : Nat) (b : Block) :
    (sendToken sender next unas b).lc = b.lc ∧ (sendToken sender next unas b).fw = b.fw ∧ (sendToken sender next unas b).cfg = b.cfg ∧
    (sendToken sender next unas b).clock.ticks = b.clock.ticks ∧ (sendToken sender next unas b).clock.running = b.clock.running ∧
    (sendToken sender next unas b).pins = b.pins ∧ (sendToken sender next unas b).pwr.rest = b.pwr.rest ∧
    (sendToken sender next unas b).act = b.act ∧ (sendToken sender next unas b).recs = b.recs ∧ (sendToken sender next unas b).bist = b.bist ∧
    (sendToken sender next unas b).bal = b.bal ∧ (sendToken sender next unas b).cw = b.cw ∧ (sendToken sender next unas b).fen = b.fen ∧
    (sendToken sender next unas b).cap = b.cap ∧ (sendToken sender next unas b).spi = b.spi := by
  unfold sendToken; simp
@[simp] theorem tagGood_keeps (a : Nat) (b : Block) :
    (tagGood a b).lc = b.lc ∧ (tagGood a b).fw = b.fw ∧ (tagGood a b).cfg = b.cfg ∧ (tagGood a b).clock.ticks = b.clock.ticks ∧
    (tagGood a b).clock.running = b.clock.running ∧ (tagGood a b).pins = b.pins ∧ (tagGood a b).pwr.rest = b.pwr.rest ∧ (tagGood a b).act = b.act ∧
    (tagGood a b).recs = b.recs ∧ (tagGood a b).out = b.out ∧ (tagGood a b).bist = b.bist ∧ (tagGood a b).bal = b.bal ∧ (tagGood a b).fen = b.fen ∧
    (tagGood a b).cap = b.cap ∧ (tagGood a b).spi = b.spi := by
  unfold tagGood; simp
@[simp] theorem tagBad_keeps (a : Nat) (b : Block) :
    (tagBad a b).lc = b.lc ∧ (tagBad a b).fw = b.fw ∧ (tagBad a b).cfg = b.cfg ∧ (tagBad a b).clock.ticks = b.clock.ticks ∧
    (tagBad a b).clock.running = b.clock.running ∧ (tagBad a b).pins = b.pins ∧ (tagBad a b).pwr.rest = b.pwr.rest ∧ (tagBad a b).act = b.act ∧
    (tagBad a b).recs = b.recs ∧ (tagBad a b).out = b.out ∧ (tagBad a b).bist = b.bist ∧ (tagBad a b).bal = b.bal ∧ (tagBad a b).fen = b.fen ∧
    (tagBad a b).cap = b.cap ∧ (tagBad a b).spi = b.spi := by
  unfold tagBad; simp
@[simp] theorem putCwHop_keeps (h : Nat) (x : CwHop) (b : Block) :
    (putCwHop h x b).lc = b.lc ∧ (putCwHop h x b).fw = b.fw ∧ (putCwHop h x b).cfg = b.cfg ∧ (putCwHop h x b).clock.ticks = b.clock.ticks ∧
    (putCwHop h x b).clock.running = b.clock.running ∧ (putCwHop h x b).pins = b.pins ∧ (putCwHop h x b).pwr.rest = b.pwr.rest ∧
    (putCwHop h x b).act = b.act ∧ (putCwHop h x b).recs = b.recs ∧ (putCwHop h x b).out = b.out ∧ (putCwHop h x b).bist = b.bist ∧
    (putCwHop h x b).bal = b.bal ∧ (putCwHop h x b).fen = b.fen ∧ (putCwHop h x b).cap = b.cap ∧ (putCwHop h x b).spi = b.spi := by
  unfold putCwHop; simp
@[simp] theorem breakLevel_keeps (b : Block) :
    (breakLevel b).lc = b.lc ∧ (breakLevel b).fw = b.fw ∧ (breakLevel b).cfg = b.cfg ∧ (breakLevel b).clock.ticks = b.clock.ticks ∧
    (breakLevel b).clock.running = b.clock.running ∧ (breakLevel b).pins = b.pins ∧ (breakLevel b).pwr.rest = b.pwr.rest ∧
    (breakLevel b).act = b.act ∧ (breakLevel b).recs = b.recs ∧ (breakLevel b).out = b.out ∧ (breakLevel b).bist = b.bist ∧
    (breakLevel b).bal = b.bal ∧ (breakLevel b).cw = b.cw ∧ (breakLevel b).fen = b.fen ∧ (breakLevel b).cap = b.cap ∧ (breakLevel b).spi = b.spi := by
  unfold breakLevel; simp
@[simp] theorem breakDeclared_keeps (b : Block) :
    (breakDeclared b).lc = b.lc ∧ (breakDeclared b).fw = b.fw ∧ (breakDeclared b).cfg = b.cfg ∧ (breakDeclared b).clock.ticks = b.clock.ticks ∧
    (breakDeclared b).clock.running = b.clock.running ∧ (breakDeclared b).pins = b.pins ∧ (breakDeclared b).pwr.rest = b.pwr.rest ∧
    (breakDeclared b).act = b.act ∧ (breakDeclared b).recs = b.recs ∧ (breakDeclared b).out = b.out ∧ (breakDeclared b).bist = b.bist ∧
    (breakDeclared b).bal = b.bal ∧ (breakDeclared b).fen = b.fen ∧ (breakDeclared b).cap = b.cap ∧ (breakDeclared b).spi = b.spi := by
  unfold breakDeclared; simp
@[simp] theorem breakShow_keeps (b : Block) :
    (breakShow b).lc = b.lc ∧ (breakShow b).fw = b.fw ∧ (breakShow b).cfg = b.cfg ∧ (breakShow b).clock.ticks = b.clock.ticks ∧
    (breakShow b).clock.running = b.clock.running ∧ (breakShow b).pins = b.pins ∧ (breakShow b).pwr.rest = b.pwr.rest ∧ (breakShow b).act = b.act ∧
    (breakShow b).recs = b.recs ∧ (breakShow b).out = b.out ∧ (breakShow b).bist = b.bist ∧ (breakShow b).bal = b.bal ∧ (breakShow b).fen = b.fen ∧
    (breakShow b).cap = b.cap ∧ (breakShow b).spi = b.spi := by
  unfold breakShow; simp
@[simp] theorem cwHopBreak_keeps (h : Nat) (fwd : Bool) (b : Block) :
    (cwHopBreak h fwd b).lc = b.lc ∧ (cwHopBreak h fwd b).fw = b.fw ∧ (cwHopBreak h fwd b).cfg = b.cfg ∧
    (cwHopBreak h fwd b).clock.ticks = b.clock.ticks ∧ (cwHopBreak h fwd b).clock.running = b.clock.running ∧ (cwHopBreak h fwd b).pins = b.pins ∧
    (cwHopBreak h fwd b).pwr.rest = b.pwr.rest ∧ (cwHopBreak h fwd b).act = b.act ∧ (cwHopBreak h fwd b).recs = b.recs ∧
    (cwHopBreak h fwd b).bist = b.bist ∧ (cwHopBreak h fwd b).bal = b.bal ∧ (cwHopBreak h fwd b).fen = b.fen ∧ (cwHopBreak h fwd b).cap = b.cap ∧
    (cwHopBreak h fwd b).spi = b.spi := by
  unfold cwHopBreak; (try dsimp only); (repeat' split) <;> simp
@[simp] theorem hopTraining_keeps (h peer fails : Nat) (b : Block) :
    (hopTraining h peer fails b).lc = b.lc ∧ (hopTraining h peer fails b).fw = b.fw ∧ (hopTraining h peer fails b).cfg = b.cfg ∧
    (hopTraining h peer fails b).clock.ticks = b.clock.ticks ∧ (hopTraining h peer fails b).clock.running = b.clock.running ∧
    (hopTraining h peer fails b).pins = b.pins ∧ (hopTraining h peer fails b).pwr.rest = b.pwr.rest ∧ (hopTraining h peer fails b).act = b.act ∧
    (hopTraining h peer fails b).recs = b.recs ∧ (hopTraining h peer fails b).out = b.out ∧ (hopTraining h peer fails b).bist = b.bist ∧
    (hopTraining h peer fails b).bal = b.bal ∧ (hopTraining h peer fails b).fen = b.fen ∧ (hopTraining h peer fails b).cap = b.cap ∧
    (hopTraining h peer fails b).spi = b.spi := by
  unfold hopTraining; simp
@[simp] theorem hopErrors_keeps (h n : Nat) (b : Block) :
    (hopErrors h n b).lc = b.lc ∧ (hopErrors h n b).fw = b.fw ∧ (hopErrors h n b).cfg = b.cfg ∧ (hopErrors h n b).clock.ticks = b.clock.ticks ∧
    (hopErrors h n b).clock.running = b.clock.running ∧ (hopErrors h n b).pins = b.pins ∧ (hopErrors h n b).pwr.rest = b.pwr.rest ∧
    (hopErrors h n b).act = b.act ∧ (hopErrors h n b).recs = b.recs ∧ (hopErrors h n b).out = b.out ∧ (hopErrors h n b).bist = b.bist ∧
    (hopErrors h n b).bal = b.bal ∧ (hopErrors h n b).fen = b.fen ∧ (hopErrors h n b).cap = b.cap ∧ (hopErrors h n b).spi = b.spi := by
  unfold hopErrors; simp
@[simp] theorem renegTick_keeps (b : Block) :
    (renegTick b).lc = b.lc ∧ (renegTick b).fw = b.fw ∧ (renegTick b).cfg = b.cfg ∧ (renegTick b).clock.ticks = b.clock.ticks ∧
    (renegTick b).clock.running = b.clock.running ∧ (renegTick b).pins = b.pins ∧ (renegTick b).pwr.rest = b.pwr.rest ∧ (renegTick b).act = b.act ∧
    (renegTick b).recs = b.recs ∧ (renegTick b).out = b.out ∧ (renegTick b).bist = b.bist ∧ (renegTick b).bal = b.bal ∧ (renegTick b).fen = b.fen ∧
    (renegTick b).cap = b.cap ∧ (renegTick b).spi = b.spi := by
  unfold renegTick; simp
@[simp] theorem routeRestore_keeps (b : Block) :
    (routeRestore b).lc = b.lc ∧ (routeRestore b).fw = b.fw ∧ (routeRestore b).cfg = b.cfg ∧ (routeRestore b).clock.ticks = b.clock.ticks ∧
    (routeRestore b).clock.running = b.clock.running ∧ (routeRestore b).pins = b.pins ∧ (routeRestore b).pwr.rest = b.pwr.rest ∧
    (routeRestore b).act = b.act ∧ (routeRestore b).recs = b.recs ∧ (routeRestore b).out = b.out ∧ (routeRestore b).bist = b.bist ∧
    (routeRestore b).bal = b.bal ∧ (routeRestore b).cw = b.cw ∧ (routeRestore b).fen = b.fen ∧ (routeRestore b).cap = b.cap ∧
    (routeRestore b).spi = b.spi := by
  unfold routeRestore; simp
@[simp] theorem routeRestored_keeps (b : Block) :
    (routeRestored b).lc = b.lc ∧ (routeRestored b).fw = b.fw ∧ (routeRestored b).cfg = b.cfg ∧ (routeRestored b).clock.ticks = b.clock.ticks ∧
    (routeRestored b).clock.running = b.clock.running ∧ (routeRestored b).pins = b.pins ∧ (routeRestored b).pwr.rest = b.pwr.rest ∧
    (routeRestored b).act = b.act ∧ (routeRestored b).recs = b.recs ∧ (routeRestored b).out = b.out ∧ (routeRestored b).bist = b.bist ∧
    (routeRestored b).bal = b.bal ∧ (routeRestored b).cw = b.cw ∧ (routeRestored b).fen = b.fen ∧ (routeRestored b).cap = b.cap ∧
    (routeRestored b).spi = b.spi := by
  unfold routeRestored; simp
@[simp] theorem cwReset_keeps (b : Block) :
    (cwReset b).lc = b.lc ∧ (cwReset b).fw = b.fw ∧ (cwReset b).cfg = b.cfg ∧ (cwReset b).clock.ticks = b.clock.ticks ∧
    (cwReset b).clock.running = b.clock.running ∧ (cwReset b).pins = b.pins ∧ (cwReset b).pwr.rest = b.pwr.rest ∧ (cwReset b).act = b.act ∧
    (cwReset b).recs = b.recs ∧ (cwReset b).out = b.out ∧ (cwReset b).bist = b.bist ∧ (cwReset b).bal = b.bal ∧ (cwReset b).fen = b.fen ∧
    (cwReset b).cap = b.cap ∧ (cwReset b).spi = b.spi := by
  unfold cwReset; simp
@[simp] theorem profileChange_keeps (told : Nat) (b : Block) :
    (profileChange told b).lc = b.lc ∧ (profileChange told b).fw = b.fw ∧ (profileChange told b).cfg = b.cfg ∧
    (profileChange told b).clock.ticks = b.clock.ticks ∧ (profileChange told b).clock.running = b.clock.running ∧
    (profileChange told b).pins = b.pins ∧ (profileChange told b).pwr.rest = b.pwr.rest ∧ (profileChange told b).act = b.act ∧
    (profileChange told b).recs = b.recs ∧ (profileChange told b).out = b.out ∧ (profileChange told b).bist = b.bist ∧
    (profileChange told b).bal = b.bal ∧ (profileChange told b).cw = b.cw ∧ (profileChange told b).fen = b.fen ∧ (profileChange told b).cap = b.cap ∧
    (profileChange told b).spi = b.spi := by
  unfold profileChange; simp
@[simp] theorem cwEnumEnd_keeps (e : CwEnum) (b : Block) :
    (cwEnumEnd e b).lc = b.lc ∧ (cwEnumEnd e b).fw = b.fw ∧ (cwEnumEnd e b).cfg = b.cfg ∧ (cwEnumEnd e b).clock.ticks = b.clock.ticks ∧
    (cwEnumEnd e b).clock.running = b.clock.running ∧ (cwEnumEnd e b).pins = b.pins ∧ (cwEnumEnd e b).pwr.rest = b.pwr.rest ∧
    (cwEnumEnd e b).act = b.act ∧ (cwEnumEnd e b).recs = b.recs ∧ (cwEnumEnd e b).out = b.out ∧ (cwEnumEnd e b).bist = b.bist ∧
    (cwEnumEnd e b).bal = b.bal ∧ (cwEnumEnd e b).fen = b.fen ∧ (cwEnumEnd e b).cap = b.cap ∧ (cwEnumEnd e b).spi = b.spi := by
  unfold cwEnumEnd; simp
@[simp] theorem cwEnumerate_keeps (e : CwEnum) (b : Block) :
    (cwEnumerate e b).lc = b.lc ∧ (cwEnumerate e b).fw = b.fw ∧ (cwEnumerate e b).cfg = b.cfg ∧ (cwEnumerate e b).clock.ticks = b.clock.ticks ∧
    (cwEnumerate e b).clock.running = b.clock.running ∧ (cwEnumerate e b).pins = b.pins ∧ (cwEnumerate e b).pwr.rest = b.pwr.rest ∧
    (cwEnumerate e b).act = b.act ∧ (cwEnumerate e b).recs = b.recs ∧ (cwEnumerate e b).bist = b.bist ∧ (cwEnumerate e b).bal = b.bal ∧
    (cwEnumerate e b).fen = b.fen ∧ (cwEnumerate e b).cap = b.cap ∧ (cwEnumerate e b).spi = b.spi := by
  unfold cwEnumerate; simp
@[simp] theorem cwEnumTick_keeps (b : Block) :
    (cwEnumTick b).lc = b.lc ∧ (cwEnumTick b).fw = b.fw ∧ (cwEnumTick b).cfg = b.cfg ∧ (cwEnumTick b).clock.ticks = b.clock.ticks ∧
    (cwEnumTick b).clock.running = b.clock.running ∧ (cwEnumTick b).pins = b.pins ∧ (cwEnumTick b).pwr.rest = b.pwr.rest ∧
    (cwEnumTick b).act = b.act ∧ (cwEnumTick b).recs = b.recs ∧ (cwEnumTick b).bist = b.bist ∧ (cwEnumTick b).bal = b.bal ∧
    (cwEnumTick b).fen = b.fen ∧ (cwEnumTick b).cap = b.cap ∧ (cwEnumTick b).spi = b.spi := by
  unfold cwEnumTick; (try dsimp only); (repeat' split) <;> simp
@[simp] theorem cwLearn_keeps (b : Block) :
    (cwLearn b).lc = b.lc ∧ (cwLearn b).fw = b.fw ∧ (cwLearn b).cfg = b.cfg ∧ (cwLearn b).clock.ticks = b.clock.ticks ∧
    (cwLearn b).clock.running = b.clock.running ∧ (cwLearn b).pins = b.pins ∧ (cwLearn b).pwr.rest = b.pwr.rest ∧ (cwLearn b).act = b.act ∧
    (cwLearn b).recs = b.recs ∧ (cwLearn b).out = b.out ∧ (cwLearn b).bist = b.bist ∧ (cwLearn b).bal = b.bal ∧ (cwLearn b).cw = b.cw ∧
    (cwLearn b).fen = b.fen ∧ (cwLearn b).cap = b.cap ∧ (cwLearn b).spi = b.spi := by
  unfold cwLearn; simp
@[simp] theorem writeCwCtl_keeps (v : Word) (e : Option CwEnum) (b : Block) :
    (writeCwCtl v e b).lc = b.lc ∧ (writeCwCtl v e b).fw = b.fw ∧ (writeCwCtl v e b).cfg = b.cfg ∧ (writeCwCtl v e b).clock.ticks = b.clock.ticks ∧
    (writeCwCtl v e b).clock.running = b.clock.running ∧ (writeCwCtl v e b).pins = b.pins ∧ (writeCwCtl v e b).pwr.rest = b.pwr.rest ∧
    (writeCwCtl v e b).act = b.act ∧ (writeCwCtl v e b).recs = b.recs ∧ (writeCwCtl v e b).bist = b.bist ∧ (writeCwCtl v e b).bal = b.bal ∧
    (writeCwCtl v e b).fen = b.fen ∧ (writeCwCtl v e b).cap = b.cap ∧ (writeCwCtl v e b).spi = b.spi := by
  unfold writeCwCtl; simp
@[simp] theorem cwConflict_keeps (b : Block) :
    (cwConflict b).lc = b.lc ∧ (cwConflict b).fw = b.fw ∧ (cwConflict b).cfg = b.cfg ∧ (cwConflict b).clock.ticks = b.clock.ticks ∧
    (cwConflict b).clock.running = b.clock.running ∧ (cwConflict b).pins = b.pins ∧ (cwConflict b).pwr.rest = b.pwr.rest ∧
    (cwConflict b).act = b.act ∧ (cwConflict b).recs = b.recs ∧ (cwConflict b).out = b.out ∧ (cwConflict b).bist = b.bist ∧
    (cwConflict b).bal = b.bal ∧ (cwConflict b).fen = b.fen ∧ (cwConflict b).cap = b.cap ∧ (cwConflict b).spi = b.spi := by
  unfold cwConflict; simp
@[simp] theorem takeAddress_keeps (next : Nat) (b : Block) :
    (takeAddress next b).lc = b.lc ∧ (takeAddress next b).fw = b.fw ∧ (takeAddress next b).cfg = b.cfg ∧
    (takeAddress next b).clock.ticks = b.clock.ticks ∧ (takeAddress next b).clock.running = b.clock.running ∧ (takeAddress next b).pins = b.pins ∧
    (takeAddress next b).pwr.rest = b.pwr.rest ∧ (takeAddress next b).act = b.act ∧ (takeAddress next b).recs = b.recs ∧
    (takeAddress next b).bist = b.bist ∧ (takeAddress next b).bal = b.bal ∧ (takeAddress next b).fen = b.fen ∧ (takeAddress next b).cap = b.cap ∧
    (takeAddress next b).spi = b.spi := by
  unfold takeAddress; simp
@[simp] theorem enumToken_keeps (south : Bool) (sender next unas : Nat) (b : Block) :
    (enumToken south sender next unas b).lc = b.lc ∧ (enumToken south sender next unas b).fw = b.fw ∧
    (enumToken south sender next unas b).cfg = b.cfg ∧ (enumToken south sender next unas b).clock.ticks = b.clock.ticks ∧
    (enumToken south sender next unas b).clock.running = b.clock.running ∧ (enumToken south sender next unas b).pins = b.pins ∧
    (enumToken south sender next unas b).pwr.rest = b.pwr.rest ∧ (enumToken south sender next unas b).act = b.act ∧
    (enumToken south sender next unas b).recs = b.recs ∧ (enumToken south sender next unas b).bist = b.bist ∧
    (enumToken south sender next unas b).bal = b.bal ∧ (enumToken south sender next unas b).fen = b.fen ∧
    (enumToken south sender next unas b).cap = b.cap ∧ (enumToken south sender next unas b).spi = b.spi := by
  unfold enumToken; simp
@[simp] theorem sendChar_keeps (b : Block) :
    (sendChar b).lc = b.lc ∧ (sendChar b).fw = b.fw ∧ (sendChar b).cfg = b.cfg ∧ (sendChar b).clock.ticks = b.clock.ticks ∧
    (sendChar b).clock.running = b.clock.running ∧ (sendChar b).pins = b.pins ∧ (sendChar b).pwr.rest = b.pwr.rest ∧ (sendChar b).act = b.act ∧
    (sendChar b).recs = b.recs ∧ (sendChar b).bist = b.bist ∧ (sendChar b).bal = b.bal ∧ (sendChar b).fen = b.fen ∧ (sendChar b).cap = b.cap ∧
    (sendChar b).spi = b.spi := by
  unfold sendChar; simp
@[simp] theorem sendTag_keeps (b : Block) :
    (sendTag b).lc = b.lc ∧ (sendTag b).fw = b.fw ∧ (sendTag b).cfg = b.cfg ∧ (sendTag b).clock.ticks = b.clock.ticks ∧
    (sendTag b).clock.running = b.clock.running ∧ (sendTag b).pins = b.pins ∧ (sendTag b).pwr.rest = b.pwr.rest ∧ (sendTag b).act = b.act ∧
    (sendTag b).recs = b.recs ∧ (sendTag b).bist = b.bist ∧ (sendTag b).bal = b.bal ∧ (sendTag b).fen = b.fen ∧ (sendTag b).cap = b.cap ∧
    (sendTag b).spi = b.spi := by
  unfold sendTag; simp
@[simp] theorem hbMiss_keeps (a n limit : Nat) (b : Block) :
    (hbMiss a n limit b).lc = b.lc ∧ (hbMiss a n limit b).fw = b.fw ∧ (hbMiss a n limit b).cfg = b.cfg ∧
    (hbMiss a n limit b).clock.ticks = b.clock.ticks ∧ (hbMiss a n limit b).clock.running = b.clock.running ∧ (hbMiss a n limit b).pins = b.pins ∧
    (hbMiss a n limit b).pwr.rest = b.pwr.rest ∧ (hbMiss a n limit b).act = b.act ∧ (hbMiss a n limit b).recs = b.recs ∧
    (hbMiss a n limit b).out = b.out ∧ (hbMiss a n limit b).bist = b.bist ∧ (hbMiss a n limit b).bal = b.bal ∧ (hbMiss a n limit b).cw = b.cw ∧
    (hbMiss a n limit b).fen = b.fen ∧ (hbMiss a n limit b).cap = b.cap ∧ (hbMiss a n limit b).spi = b.spi := by
  unfold hbMiss; simp
@[simp] theorem heartbeat_keeps (a : Nat) (fault : Bool) (sev : Nat) (b : Block) :
    (heartbeat a fault sev b).lc = b.lc ∧ (heartbeat a fault sev b).fw = b.fw ∧ (heartbeat a fault sev b).cfg = b.cfg ∧
    (heartbeat a fault sev b).clock.ticks = b.clock.ticks ∧ (heartbeat a fault sev b).clock.running = b.clock.running ∧
    (heartbeat a fault sev b).pins = b.pins ∧ (heartbeat a fault sev b).pwr.rest = b.pwr.rest ∧ (heartbeat a fault sev b).act = b.act ∧
    (heartbeat a fault sev b).recs = b.recs ∧ (heartbeat a fault sev b).out = b.out ∧ (heartbeat a fault sev b).bist = b.bist ∧
    (heartbeat a fault sev b).bal = b.bal ∧ (heartbeat a fault sev b).cw = b.cw ∧ (heartbeat a fault sev b).fen = b.fen ∧
    (heartbeat a fault sev b).cap = b.cap ∧ (heartbeat a fault sev b).spi = b.spi := by
  unfold heartbeat; simp
@[simp] theorem heartbeatReceive_keeps (a : Nat) (fault : Bool) (sev : Nat) (b : Block) :
    (heartbeatReceive a fault sev b).lc = b.lc ∧ (heartbeatReceive a fault sev b).fw = b.fw ∧ (heartbeatReceive a fault sev b).cfg = b.cfg ∧
    (heartbeatReceive a fault sev b).clock.ticks = b.clock.ticks ∧ (heartbeatReceive a fault sev b).clock.running = b.clock.running ∧
    (heartbeatReceive a fault sev b).pins = b.pins ∧ (heartbeatReceive a fault sev b).pwr.rest = b.pwr.rest ∧
    (heartbeatReceive a fault sev b).act = b.act ∧ (heartbeatReceive a fault sev b).recs = b.recs ∧ (heartbeatReceive a fault sev b).bist = b.bist ∧
    (heartbeatReceive a fault sev b).bal = b.bal ∧ (heartbeatReceive a fault sev b).fen = b.fen ∧ (heartbeatReceive a fault sev b).cap = b.cap ∧
    (heartbeatReceive a fault sev b).spi = b.spi := by
  unfold heartbeatReceive; simp
@[simp] theorem hbTick_keeps (b : Block) :
    (hbTick b).lc = b.lc ∧ (hbTick b).fw = b.fw ∧ (hbTick b).cfg = b.cfg ∧ (hbTick b).clock.ticks = b.clock.ticks ∧
    (hbTick b).clock.running = b.clock.running ∧ (hbTick b).pins = b.pins ∧ (hbTick b).pwr.rest = b.pwr.rest ∧ (hbTick b).act = b.act ∧
    (hbTick b).recs = b.recs ∧ (hbTick b).out = b.out ∧ (hbTick b).bist = b.bist ∧ (hbTick b).bal = b.bal ∧ (hbTick b).fen = b.fen ∧
    (hbTick b).cap = b.cap ∧ (hbTick b).spi = b.spi := by
  unfold hbTick; simp
@[simp] theorem hbLost_keeps (a : Nat) (b : Block) :
    (hbLost a b).lc = b.lc ∧ (hbLost a b).fw = b.fw ∧ (hbLost a b).cfg = b.cfg ∧ (hbLost a b).clock.ticks = b.clock.ticks ∧
    (hbLost a b).clock.running = b.clock.running ∧ (hbLost a b).pins = b.pins ∧ (hbLost a b).pwr.rest = b.pwr.rest ∧ (hbLost a b).act = b.act ∧
    (hbLost a b).recs = b.recs ∧ (hbLost a b).out = b.out ∧ (hbLost a b).bist = b.bist ∧ (hbLost a b).bal = b.bal ∧ (hbLost a b).cw = b.cw ∧
    (hbLost a b).fen = b.fen ∧ (hbLost a b).cap = b.cap ∧ (hbLost a b).spi = b.spi := by
  unfold hbLost; simp
@[simp] theorem chainComplete_keeps (r : Rec) (b : Block) :
    (chainComplete r b).lc = b.lc ∧ (chainComplete r b).fw = b.fw ∧ (chainComplete r b).cfg = b.cfg ∧
    (chainComplete r b).clock.ticks = b.clock.ticks ∧ (chainComplete r b).clock.running = b.clock.running ∧ (chainComplete r b).pins = b.pins ∧
    (chainComplete r b).pwr.rest = b.pwr.rest ∧ (chainComplete r b).act = b.act ∧ (chainComplete r b).recs = b.recs ∧
    (chainComplete r b).out = b.out ∧ (chainComplete r b).bist = b.bist ∧ (chainComplete r b).bal = b.bal ∧ (chainComplete r b).fen = b.fen ∧
    (chainComplete r b).cap = b.cap ∧ (chainComplete r b).spi = b.spi := by
  unfold chainComplete; simp
@[simp] theorem chainReceive_keeps (r : ChainRecord) (b : Block) :
    (chainReceive r b).lc = b.lc ∧ (chainReceive r b).fw = b.fw ∧ (chainReceive r b).cfg = b.cfg ∧ (chainReceive r b).clock.ticks = b.clock.ticks ∧
    (chainReceive r b).clock.running = b.clock.running ∧ (chainReceive r b).pins = b.pins ∧ (chainReceive r b).pwr.rest = b.pwr.rest ∧
    (chainReceive r b).act = b.act ∧ (chainReceive r b).recs = b.recs ∧ (chainReceive r b).bist = b.bist ∧ (chainReceive r b).bal = b.bal ∧
    (chainReceive r b).fen = b.fen ∧ (chainReceive r b).cap = b.cap ∧ (chainReceive r b).spi = b.spi := by
  unfold chainReceive; simp
@[simp] theorem inboxTick_keeps (b : Block) :
    (inboxTick b).lc = b.lc ∧ (inboxTick b).fw = b.fw ∧ (inboxTick b).cfg = b.cfg ∧ (inboxTick b).clock.ticks = b.clock.ticks ∧
    (inboxTick b).clock.running = b.clock.running ∧ (inboxTick b).pins = b.pins ∧ (inboxTick b).pwr.rest = b.pwr.rest ∧ (inboxTick b).act = b.act ∧
    (inboxTick b).out = b.out ∧ (inboxTick b).bist = b.bist ∧ (inboxTick b).bal = b.bal ∧ (inboxTick b).fen = b.fen ∧ (inboxTick b).cap = b.cap ∧
    (inboxTick b).spi = b.spi := by
  unfold inboxTick; simp
@[simp] theorem chainTickCw_keeps (j : ChainJob) (b : Block) :
    (chainTickCw j b).lc = b.lc ∧ (chainTickCw j b).fw = b.fw ∧ (chainTickCw j b).cfg = b.cfg ∧ (chainTickCw j b).clock.ticks = b.clock.ticks ∧
    (chainTickCw j b).clock.running = b.clock.running ∧ (chainTickCw j b).pins = b.pins ∧ (chainTickCw j b).pwr.rest = b.pwr.rest ∧
    (chainTickCw j b).act = b.act ∧ (chainTickCw j b).bist = b.bist ∧ (chainTickCw j b).bal = b.bal ∧ (chainTickCw j b).fen = b.fen ∧
    (chainTickCw j b).cap = b.cap ∧ (chainTickCw j b).spi = b.spi := by
  unfold chainTickCw; simp
@[simp] theorem syncLoss_keeps (b : Block) :
    (syncLoss b).lc = b.lc ∧ (syncLoss b).fw = b.fw ∧ (syncLoss b).cfg = b.cfg ∧ (syncLoss b).clock.ticks = b.clock.ticks ∧
    (syncLoss b).clock.running = b.clock.running ∧ (syncLoss b).pins = b.pins ∧ (syncLoss b).pwr.rest = b.pwr.rest ∧ (syncLoss b).act = b.act ∧
    (syncLoss b).recs = b.recs ∧ (syncLoss b).out = b.out ∧ (syncLoss b).bist = b.bist ∧ (syncLoss b).bal = b.bal ∧ (syncLoss b).fen = b.fen ∧
    (syncLoss b).cap = b.cap ∧ (syncLoss b).spi = b.spi := by
  unfold syncLoss; simp
@[simp] theorem tagReceive_keeps (a kind : Nat) (content tag : List Nat) (b : Block) :
    (tagReceive a kind content tag b).lc = b.lc ∧ (tagReceive a kind content tag b).fw = b.fw ∧ (tagReceive a kind content tag b).cfg = b.cfg ∧
    (tagReceive a kind content tag b).clock.ticks = b.clock.ticks ∧ (tagReceive a kind content tag b).clock.running = b.clock.running ∧
    (tagReceive a kind content tag b).pins = b.pins ∧ (tagReceive a kind content tag b).pwr.rest = b.pwr.rest ∧
    (tagReceive a kind content tag b).act = b.act ∧ (tagReceive a kind content tag b).recs = b.recs ∧
    (tagReceive a kind content tag b).bist = b.bist ∧ (tagReceive a kind content tag b).bal = b.bal ∧ (tagReceive a kind content tag b).fen = b.fen ∧
    (tagReceive a kind content tag b).cap = b.cap ∧ (tagReceive a kind content tag b).spi = b.spi := by
  unfold tagReceive; simp
@[simp] theorem syncBlock_keeps (x : SyncBlock) (b : Block) :
    (syncBlock x b).lc = b.lc ∧ (syncBlock x b).fw = b.fw ∧ (syncBlock x b).cfg = b.cfg ∧ (syncBlock x b).clock.ticks = b.clock.ticks ∧
    (syncBlock x b).clock.running = b.clock.running ∧ (syncBlock x b).pins = b.pins ∧ (syncBlock x b).pwr.rest = b.pwr.rest ∧
    (syncBlock x b).act = b.act ∧ (syncBlock x b).recs = b.recs ∧ (syncBlock x b).bist = b.bist ∧ (syncBlock x b).bal = b.bal ∧
    (syncBlock x b).fen = b.fen ∧ (syncBlock x b).cap = b.cap ∧ (syncBlock x b).spi = b.spi := by
  unfold syncBlock; simp
@[simp] theorem jumpRing_keeps (shift r : Nat) (b : Block) :
    (jumpRing shift r b).lc = b.lc ∧ (jumpRing shift r b).fw = b.fw ∧ (jumpRing shift r b).cfg = b.cfg ∧
    (jumpRing shift r b).clock.ticks = b.clock.ticks ∧ (jumpRing shift r b).clock.running = b.clock.running ∧ (jumpRing shift r b).pins = b.pins ∧
    (jumpRing shift r b).pwr.rest = b.pwr.rest ∧ (jumpRing shift r b).act = b.act ∧ (jumpRing shift r b).recs = b.recs ∧
    (jumpRing shift r b).out = b.out ∧ (jumpRing shift r b).bist = b.bist ∧ (jumpRing shift r b).bal = b.bal ∧ (jumpRing shift r b).cw = b.cw ∧
    (jumpRing shift r b).fen = b.fen ∧ (jumpRing shift r b).spi = b.spi := by
  unfold jumpRing; simp
@[simp] theorem jumpNow_keeps (new : Nat) (b : Block) :
    (jumpNow new b).lc = b.lc ∧ (jumpNow new b).fw = b.fw ∧ (jumpNow new b).cfg = b.cfg ∧ (jumpNow new b).clock.ticks = b.clock.ticks ∧
    (jumpNow new b).clock.running = b.clock.running ∧ (jumpNow new b).pins = b.pins ∧ (jumpNow new b).pwr.rest = b.pwr.rest ∧
    (jumpNow new b).act = b.act ∧ (jumpNow new b).out = b.out ∧ (jumpNow new b).bist = b.bist ∧ (jumpNow new b).bal = b.bal ∧
    (jumpNow new b).spi = b.spi := by
  unfold jumpNow; simp
@[simp] theorem radioMissed_keeps (b : Block) :
    (radioMissed b).lc = b.lc ∧ (radioMissed b).fw = b.fw ∧ (radioMissed b).cfg = b.cfg ∧ (radioMissed b).clock.ticks = b.clock.ticks ∧
    (radioMissed b).clock.running = b.clock.running ∧ (radioMissed b).pins = b.pins ∧ (radioMissed b).pwr.rest = b.pwr.rest ∧
    (radioMissed b).act = b.act ∧ (radioMissed b).recs = b.recs ∧ (radioMissed b).out = b.out ∧ (radioMissed b).bist = b.bist ∧
    (radioMissed b).bal = b.bal ∧ (radioMissed b).cw = b.cw ∧ (radioMissed b).fen = b.fen ∧ (radioMissed b).cap = b.cap ∧
    (radioMissed b).spi = b.spi := by
  unfold radioMissed; simp
@[simp] theorem radioCycle_keeps (b : Block) :
    (radioCycle b).lc = b.lc ∧ (radioCycle b).fw = b.fw ∧ (radioCycle b).cfg = b.cfg ∧ (radioCycle b).clock.ticks = b.clock.ticks ∧
    (radioCycle b).clock.running = b.clock.running ∧ (radioCycle b).pins = b.pins ∧ (radioCycle b).pwr.rest = b.pwr.rest ∧
    (radioCycle b).act = b.act ∧ (radioCycle b).recs = b.recs ∧ (radioCycle b).out = b.out ∧ (radioCycle b).bist = b.bist ∧
    (radioCycle b).bal = b.bal ∧ (radioCycle b).fen = b.fen ∧ (radioCycle b).cap = b.cap ∧ (radioCycle b).spi = b.spi := by
  unfold radioCycle; simp
@[simp] theorem radioAccount_keeps (b : Block) :
    (radioAccount b).lc = b.lc ∧ (radioAccount b).fw = b.fw ∧ (radioAccount b).cfg = b.cfg ∧ (radioAccount b).clock.ticks = b.clock.ticks ∧
    (radioAccount b).clock.running = b.clock.running ∧ (radioAccount b).pins = b.pins ∧ (radioAccount b).pwr.rest = b.pwr.rest ∧
    (radioAccount b).act = b.act ∧ (radioAccount b).recs = b.recs ∧ (radioAccount b).out = b.out ∧ (radioAccount b).bist = b.bist ∧
    (radioAccount b).bal = b.bal ∧ (radioAccount b).fen = b.fen ∧ (radioAccount b).cap = b.cap ∧ (radioAccount b).spi = b.spi := by
  unfold radioAccount; simp
@[simp] theorem radioSlot_keeps (b : Block) :
    (radioSlot b).lc = b.lc ∧ (radioSlot b).fw = b.fw ∧ (radioSlot b).cfg = b.cfg ∧ (radioSlot b).clock.ticks = b.clock.ticks ∧
    (radioSlot b).clock.running = b.clock.running ∧ (radioSlot b).pins = b.pins ∧ (radioSlot b).pwr.rest = b.pwr.rest ∧ (radioSlot b).act = b.act ∧
    (radioSlot b).recs = b.recs ∧ (radioSlot b).bist = b.bist ∧ (radioSlot b).bal = b.bal ∧ (radioSlot b).fen = b.fen ∧ (radioSlot b).cap = b.cap ∧
    (radioSlot b).spi = b.spi := by
  unfold radioSlot; (try dsimp only); (repeat' split) <;> simp
@[simp] theorem superframeBegin_keeps (b : Block) :
    (superframeBegin b).lc = b.lc ∧ (superframeBegin b).fw = b.fw ∧ (superframeBegin b).cfg = b.cfg ∧
    (superframeBegin b).clock.ticks = b.clock.ticks ∧ (superframeBegin b).clock.running = b.clock.running ∧ (superframeBegin b).pins = b.pins ∧
    (superframeBegin b).pwr.rest = b.pwr.rest ∧ (superframeBegin b).act = b.act ∧ (superframeBegin b).recs = b.recs ∧
    (superframeBegin b).bist = b.bist ∧ (superframeBegin b).bal = b.bal ∧ (superframeBegin b).fen = b.fen ∧ (superframeBegin b).cap = b.cap ∧
    (superframeBegin b).spi = b.spi := by
  unfold superframeBegin; simp
@[simp] theorem superframe_keeps (b : Block) :
    (superframe b).lc = b.lc ∧ (superframe b).fw = b.fw ∧ (superframe b).cfg = b.cfg ∧ (superframe b).clock.ticks = b.clock.ticks ∧
    (superframe b).clock.running = b.clock.running ∧ (superframe b).pins = b.pins ∧ (superframe b).pwr.rest = b.pwr.rest ∧
    (superframe b).act = b.act ∧ (superframe b).recs = b.recs ∧ (superframe b).bist = b.bist ∧ (superframe b).bal = b.bal ∧
    (superframe b).fen = b.fen ∧ (superframe b).cap = b.cap ∧ (superframe b).spi = b.spi := by
  unfold superframe; simp
@[simp] theorem radioReport_keeps (a : Nat) (bytes : List Nat) (b : Block) :
    (radioReport a bytes b).lc = b.lc ∧ (radioReport a bytes b).fw = b.fw ∧ (radioReport a bytes b).cfg = b.cfg ∧
    (radioReport a bytes b).clock.ticks = b.clock.ticks ∧ (radioReport a bytes b).clock.running = b.clock.running ∧
    (radioReport a bytes b).pins = b.pins ∧ (radioReport a bytes b).pwr.rest = b.pwr.rest ∧ (radioReport a bytes b).act = b.act ∧
    (radioReport a bytes b).recs = b.recs ∧ (radioReport a bytes b).out = b.out ∧ (radioReport a bytes b).bist = b.bist ∧
    (radioReport a bytes b).bal = b.bal ∧ (radioReport a bytes b).fen = b.fen ∧ (radioReport a bytes b).cap = b.cap ∧
    (radioReport a bytes b).spi = b.spi := by
  unfold radioReport; simp
@[simp] theorem radioRoot_keeps (b : Block) :
    (radioRoot b).lc = b.lc ∧ (radioRoot b).fw = b.fw ∧ (radioRoot b).cfg = b.cfg ∧ (radioRoot b).clock.ticks = b.clock.ticks ∧
    (radioRoot b).clock.running = b.clock.running ∧ (radioRoot b).pins = b.pins ∧ (radioRoot b).pwr.rest = b.pwr.rest ∧ (radioRoot b).act = b.act ∧
    (radioRoot b).recs = b.recs ∧ (radioRoot b).out = b.out ∧ (radioRoot b).bist = b.bist ∧ (radioRoot b).bal = b.bal ∧ (radioRoot b).cw = b.cw ∧
    (radioRoot b).fen = b.fen ∧ (radioRoot b).cap = b.cap ∧ (radioRoot b).spi = b.spi := by
  unfold radioRoot; simp
@[simp] theorem radioReceive_keeps (bytes : List Nat) (b : Block) :
    (radioReceive bytes b).lc = b.lc ∧ (radioReceive bytes b).fw = b.fw ∧ (radioReceive bytes b).cfg = b.cfg ∧
    (radioReceive bytes b).clock.ticks = b.clock.ticks ∧ (radioReceive bytes b).clock.running = b.clock.running ∧
    (radioReceive bytes b).pins = b.pins ∧ (radioReceive bytes b).pwr.rest = b.pwr.rest ∧ (radioReceive bytes b).act = b.act ∧
    (radioReceive bytes b).recs = b.recs ∧ (radioReceive bytes b).out = b.out ∧ (radioReceive bytes b).bist = b.bist ∧
    (radioReceive bytes b).bal = b.bal ∧ (radioReceive bytes b).fen = b.fen ∧ (radioReceive bytes b).cap = b.cap ∧
    (radioReceive bytes b).spi = b.spi := by
  unfold radioReceive; simp
@[simp] theorem sendForward_keeps (target : Nat) (ops : List (Bool × Nat × Word)) (b : Block) :
    (sendForward target ops b).lc = b.lc ∧ (sendForward target ops b).fw = b.fw ∧ (sendForward target ops b).cfg = b.cfg ∧
    (sendForward target ops b).clock.ticks = b.clock.ticks ∧ (sendForward target ops b).clock.running = b.clock.running ∧
    (sendForward target ops b).pins = b.pins ∧ (sendForward target ops b).pwr.rest = b.pwr.rest ∧ (sendForward target ops b).act = b.act ∧
    (sendForward target ops b).recs = b.recs ∧ (sendForward target ops b).bist = b.bist ∧ (sendForward target ops b).bal = b.bal ∧
    (sendForward target ops b).cw = b.cw ∧ (sendForward target ops b).fen = b.fen ∧ (sendForward target ops b).cap = b.cap ∧
    (sendForward target ops b).spi = b.spi := by
  unfold sendForward; simp
@[simp] theorem writeFwdCtl_keeps (v : Word) (b : Block) :
    (writeFwdCtl v b).lc = b.lc ∧ (writeFwdCtl v b).fw = b.fw ∧ (writeFwdCtl v b).cfg = b.cfg ∧ (writeFwdCtl v b).clock.ticks = b.clock.ticks ∧
    (writeFwdCtl v b).clock.running = b.clock.running ∧ (writeFwdCtl v b).pins = b.pins ∧ (writeFwdCtl v b).pwr.rest = b.pwr.rest ∧
    (writeFwdCtl v b).act = b.act ∧ (writeFwdCtl v b).recs = b.recs ∧ (writeFwdCtl v b).bist = b.bist ∧ (writeFwdCtl v b).bal = b.bal ∧
    (writeFwdCtl v b).fen = b.fen ∧ (writeFwdCtl v b).cap = b.cap ∧ (writeFwdCtl v b).spi = b.spi := by
  unfold writeFwdCtl; simp
@[simp] theorem fwdEnd_keeps (code : Nat) (b : Block) :
    (fwdEnd code b).lc = b.lc ∧ (fwdEnd code b).fw = b.fw ∧ (fwdEnd code b).cfg = b.cfg ∧ (fwdEnd code b).clock.ticks = b.clock.ticks ∧
    (fwdEnd code b).clock.running = b.clock.running ∧ (fwdEnd code b).pins = b.pins ∧ (fwdEnd code b).pwr.rest = b.pwr.rest ∧
    (fwdEnd code b).act = b.act ∧ (fwdEnd code b).recs = b.recs ∧ (fwdEnd code b).out = b.out ∧ (fwdEnd code b).bist = b.bist ∧
    (fwdEnd code b).bal = b.bal ∧ (fwdEnd code b).fen = b.fen ∧ (fwdEnd code b).cap = b.cap ∧ (fwdEnd code b).spi = b.spi := by
  unfold fwdEnd; simp
@[simp] theorem forwardResponse_keeps (q : Option Nat) (refused : Bool) (count_ : Nat) (vals : List Word) (b : Block) :
    (forwardResponse q refused count_ vals b).lc = b.lc ∧ (forwardResponse q refused count_ vals b).fw = b.fw ∧
    (forwardResponse q refused count_ vals b).cfg = b.cfg ∧ (forwardResponse q refused count_ vals b).clock.ticks = b.clock.ticks ∧
    (forwardResponse q refused count_ vals b).clock.running = b.clock.running ∧ (forwardResponse q refused count_ vals b).pins = b.pins ∧
    (forwardResponse q refused count_ vals b).pwr.rest = b.pwr.rest ∧ (forwardResponse q refused count_ vals b).act = b.act ∧
    (forwardResponse q refused count_ vals b).recs = b.recs ∧ (forwardResponse q refused count_ vals b).bist = b.bist ∧
    (forwardResponse q refused count_ vals b).bal = b.bal ∧ (forwardResponse q refused count_ vals b).fen = b.fen ∧
    (forwardResponse q refused count_ vals b).cap = b.cap ∧ (forwardResponse q refused count_ vals b).spi = b.spi := by
  unfold forwardResponse; (try dsimp only); (repeat' split) <;> simp
@[simp] theorem forwardLate_keeps (q : Nat) (b : Block) :
    (forwardLate q b).lc = b.lc ∧ (forwardLate q b).fw = b.fw ∧ (forwardLate q b).cfg = b.cfg ∧ (forwardLate q b).clock.ticks = b.clock.ticks ∧
    (forwardLate q b).clock.running = b.clock.running ∧ (forwardLate q b).pins = b.pins ∧ (forwardLate q b).pwr.rest = b.pwr.rest ∧
    (forwardLate q b).act = b.act ∧ (forwardLate q b).recs = b.recs ∧ (forwardLate q b).out = b.out ∧ (forwardLate q b).bist = b.bist ∧
    (forwardLate q b).bal = b.bal ∧ (forwardLate q b).cw = b.cw ∧ (forwardLate q b).fen = b.fen ∧ (forwardLate q b).cap = b.cap ∧
    (forwardLate q b).spi = b.spi := by
  unfold forwardLate; (try dsimp only); (repeat' split) <;> simp
@[simp] theorem forwardTimeout_keeps (b : Block) :
    (forwardTimeout b).lc = b.lc ∧ (forwardTimeout b).fw = b.fw ∧ (forwardTimeout b).cfg = b.cfg ∧ (forwardTimeout b).clock.ticks = b.clock.ticks ∧
    (forwardTimeout b).clock.running = b.clock.running ∧ (forwardTimeout b).pins = b.pins ∧ (forwardTimeout b).pwr.rest = b.pwr.rest ∧
    (forwardTimeout b).act = b.act ∧ (forwardTimeout b).recs = b.recs ∧ (forwardTimeout b).out = b.out ∧ (forwardTimeout b).bist = b.bist ∧
    (forwardTimeout b).bal = b.bal ∧ (forwardTimeout b).fen = b.fen ∧ (forwardTimeout b).cap = b.cap ∧ (forwardTimeout b).spi = b.spi := by
  unfold forwardTimeout; simp
@[simp] theorem forwardCmd_keeps (q : Nat) (d : Desc) (ws : List Word) (b : Block) :
    (forwardCmd q d ws b).lc = b.lc ∧ (forwardCmd q d ws b).fw = b.fw ∧ (forwardCmd q d ws b).cfg = b.cfg ∧
    (forwardCmd q d ws b).clock.ticks = b.clock.ticks ∧ (forwardCmd q d ws b).clock.running = b.clock.running ∧ (forwardCmd q d ws b).pins = b.pins ∧
    (forwardCmd q d ws b).pwr.rest = b.pwr.rest ∧ (forwardCmd q d ws b).act = b.act ∧ (forwardCmd q d ws b).recs = b.recs ∧
    (forwardCmd q d ws b).bist = b.bist ∧ (forwardCmd q d ws b).bal = b.bal ∧ (forwardCmd q d ws b).cw = b.cw ∧ (forwardCmd q d ws b).fen = b.fen ∧
    (forwardCmd q d ws b).cap = b.cap ∧ (forwardCmd q d ws b).spi = b.spi := by
  unfold forwardCmd; (try dsimp only); (repeat' split) <;> simp
@[simp] theorem rootSync_keeps (b : Block) :
    (rootSync b).lc = b.lc ∧ (rootSync b).fw = b.fw ∧ (rootSync b).cfg = b.cfg ∧ (rootSync b).clock.ticks = b.clock.ticks ∧
    (rootSync b).clock.running = b.clock.running ∧ (rootSync b).pins = b.pins ∧ (rootSync b).pwr.rest = b.pwr.rest ∧ (rootSync b).act = b.act ∧
    (rootSync b).recs = b.recs ∧ (rootSync b).bist = b.bist ∧ (rootSync b).bal = b.bal ∧ (rootSync b).fen = b.fen ∧ (rootSync b).cap = b.cap ∧
    (rootSync b).spi = b.spi := by
  unfold rootSync; simp
@[simp] theorem lockTick_keeps (b : Block) :
    (lockTick b).lc = b.lc ∧ (lockTick b).fw = b.fw ∧ (lockTick b).cfg = b.cfg ∧ (lockTick b).clock.ticks = b.clock.ticks ∧
    (lockTick b).clock.running = b.clock.running ∧ (lockTick b).pins = b.pins ∧ (lockTick b).pwr.rest = b.pwr.rest ∧ (lockTick b).act = b.act ∧
    (lockTick b).recs = b.recs ∧ (lockTick b).out = b.out ∧ (lockTick b).bist = b.bist ∧ (lockTick b).bal = b.bal ∧ (lockTick b).fen = b.fen ∧
    (lockTick b).cap = b.cap ∧ (lockTick b).spi = b.spi := by
  unfold lockTick; simp
@[simp] theorem cwTick_keeps (b : Block) :
    (cwTick b).lc = b.lc ∧ (cwTick b).fw = b.fw ∧ (cwTick b).cfg = b.cfg ∧ (cwTick b).clock.ticks = b.clock.ticks ∧
    (cwTick b).clock.running = b.clock.running ∧ (cwTick b).pins = b.pins ∧ (cwTick b).pwr.rest = b.pwr.rest ∧ (cwTick b).act = b.act ∧
    (cwTick b).bist = b.bist ∧ (cwTick b).bal = b.bal ∧ (cwTick b).fen = b.fen ∧ (cwTick b).cap = b.cap ∧ (cwTick b).spi = b.spi := by
  unfold cwTick; simp

end Sys2Proof.Machine
end

