-- ==== Sys2Proof/Laws/KeepAccess.lean ====
section
/-! SUPPORT. What each operation of Machine/Access.lean leaves alone: a `…_keeps` lemma lists the fields of the block that read after it as before. -/

namespace Sys2Proof.Machine

set_option linter.all false

@[simp] theorem wholeAt_keeps (a : Nat) (b : Block) :
    (wholeAt a b).2.lc = b.lc ∧ (wholeAt a b).2.fw = b.fw ∧ (wholeAt a b).2.cfg = b.cfg ∧ (wholeAt a b).2.clock.ticks = b.clock.ticks ∧
    (wholeAt a b).2.clock.running = b.clock.running ∧ (wholeAt a b).2.pins = b.pins ∧ (wholeAt a b).2.pwr.rest = b.pwr.rest ∧
    (wholeAt a b).2.act = b.act ∧ (wholeAt a b).2.recs = b.recs ∧ (wholeAt a b).2.out = b.out ∧ (wholeAt a b).2.bist = b.bist ∧
    (wholeAt a b).2.bal = b.bal ∧ (wholeAt a b).2.cw = b.cw ∧ (wholeAt a b).2.fen = b.fen ∧ (wholeAt a b).2.cap = b.cap ∧
    (wholeAt a b).2.spi = b.spi := by
  unfold wholeAt; (try dsimp only); (repeat' split) <;> simp
@[simp] theorem setLatch_keeps (p : Path) (x : Option (Nat × Nat)) (b : Block) :
    (setLatch p x b).lc = b.lc ∧ (setLatch p x b).fw = b.fw ∧ (setLatch p x b).cfg = b.cfg ∧ (setLatch p x b).clock.ticks = b.clock.ticks ∧
    (setLatch p x b).clock.running = b.clock.running ∧ (setLatch p x b).pins = b.pins ∧ (setLatch p x b).pwr.rest = b.pwr.rest ∧
    (setLatch p x b).act = b.act ∧ (setLatch p x b).recs = b.recs ∧ (setLatch p x b).out = b.out ∧ (setLatch p x b).bist = b.bist ∧
    (setLatch p x b).bal = b.bal ∧ (setLatch p x b).cw = b.cw ∧ (setLatch p x b).fen = b.fen ∧ (setLatch p x b).cap = b.cap ∧
    (setLatch p x b).spi = b.spi := by
  unfold setLatch; (try dsimp only); (repeat' split) <;> simp
@[simp] theorem setTorn_keeps (p : Path) (b : Block) :
    (setTorn p b).lc = b.lc ∧ (setTorn p b).fw = b.fw ∧ (setTorn p b).cfg = b.cfg ∧ (setTorn p b).clock.ticks = b.clock.ticks ∧
    (setTorn p b).clock.running = b.clock.running ∧ (setTorn p b).pins = b.pins ∧ (setTorn p b).pwr.rest = b.pwr.rest ∧ (setTorn p b).act = b.act ∧
    (setTorn p b).recs = b.recs ∧ (setTorn p b).out = b.out ∧ (setTorn p b).bist = b.bist ∧ (setTorn p b).bal = b.bal ∧ (setTorn p b).cw = b.cw ∧
    (setTorn p b).fen = b.fen ∧ (setTorn p b).cap = b.cap ∧ (setTorn p b).spi = b.spi := by
  unfold setTorn; (try dsimp only); (repeat' split) <;> simp
@[simp] theorem readHigh_keeps (p : Path) (a : Nat) (b : Block) :
    (readHigh p a b).2.2.lc = b.lc ∧ (readHigh p a b).2.2.fw = b.fw ∧ (readHigh p a b).2.2.cfg = b.cfg ∧
    (readHigh p a b).2.2.clock.ticks = b.clock.ticks ∧ (readHigh p a b).2.2.clock.running = b.clock.running ∧ (readHigh p a b).2.2.pins = b.pins ∧
    (readHigh p a b).2.2.pwr.rest = b.pwr.rest ∧ (readHigh p a b).2.2.act = b.act ∧ (readHigh p a b).2.2.recs = b.recs ∧
    (readHigh p a b).2.2.out = b.out ∧ (readHigh p a b).2.2.bist = b.bist ∧ (readHigh p a b).2.2.bal = b.bal ∧ (readHigh p a b).2.2.cw = b.cw ∧
    (readHigh p a b).2.2.fen = b.fen ∧ (readHigh p a b).2.2.cap = b.cap ∧ (readHigh p a b).2.2.spi = b.spi := by
  unfold readHigh; (try dsimp only); (repeat' split) <;> simp
@[simp] theorem readReg_keeps (p : Path) (a : Nat) (b : Block) :
    (readReg p a b).2.2.lc = b.lc ∧ (readReg p a b).2.2.fw = b.fw ∧ (readReg p a b).2.2.cfg = b.cfg ∧
    (readReg p a b).2.2.clock.ticks = b.clock.ticks ∧ (readReg p a b).2.2.clock.running = b.clock.running ∧ (readReg p a b).2.2.pins = b.pins ∧
    (readReg p a b).2.2.pwr.rest = b.pwr.rest ∧ (readReg p a b).2.2.act = b.act ∧ (readReg p a b).2.2.recs = b.recs ∧
    (readReg p a b).2.2.out = b.out ∧ (readReg p a b).2.2.bist = b.bist ∧ (readReg p a b).2.2.bal = b.bal ∧ (readReg p a b).2.2.cw = b.cw ∧
    (readReg p a b).2.2.fen = b.fen ∧ (readReg p a b).2.2.cap = b.cap ∧ (readReg p a b).2.2.spi = b.spi := by
  unfold readReg; (try dsimp only); (repeat' split) <;> simp
@[simp] theorem fifoSkip_keeps (f : Nat) (b : Block) :
    (fifoSkip f b).lc = b.lc ∧ (fifoSkip f b).fw = b.fw ∧ (fifoSkip f b).cfg = b.cfg ∧ (fifoSkip f b).clock.ticks = b.clock.ticks ∧
    (fifoSkip f b).clock.running = b.clock.running ∧ (fifoSkip f b).pins = b.pins ∧ (fifoSkip f b).pwr.rest = b.pwr.rest ∧
    (fifoSkip f b).act = b.act ∧ (fifoSkip f b).recs = b.recs ∧ (fifoSkip f b).out = b.out ∧ (fifoSkip f b).bist = b.bist ∧
    (fifoSkip f b).bal = b.bal ∧ (fifoSkip f b).cw = b.cw ∧ (fifoSkip f b).fen = b.fen ∧ (fifoSkip f b).cap = b.cap := by
  unfold fifoSkip; simp
@[simp] theorem writeFifoCtl_keeps (f : Nat) (v : Word) (b : Block) :
    (writeFifoCtl f v b).lc = b.lc ∧ (writeFifoCtl f v b).fw = b.fw ∧ (writeFifoCtl f v b).cfg = b.cfg ∧
    (writeFifoCtl f v b).clock.ticks = b.clock.ticks ∧ (writeFifoCtl f v b).clock.running = b.clock.running ∧ (writeFifoCtl f v b).pins = b.pins ∧
    (writeFifoCtl f v b).pwr.rest = b.pwr.rest ∧ (writeFifoCtl f v b).act = b.act ∧ (writeFifoCtl f v b).recs = b.recs ∧
    (writeFifoCtl f v b).out = b.out ∧ (writeFifoCtl f v b).bist = b.bist ∧ (writeFifoCtl f v b).bal = b.bal ∧ (writeFifoCtl f v b).cw = b.cw ∧
    (writeFifoCtl f v b).fen = b.fen ∧ (writeFifoCtl f v b).cap = b.cap := by
  unfold writeFifoCtl; simp
@[simp] theorem writeSlCfg_keeps (i : Nat) (v : Word) (b : Block) :
    (writeSlCfg i v b).lc = b.lc ∧ (writeSlCfg i v b).fw = b.fw ∧ (writeSlCfg i v b).cfg = b.cfg ∧ (writeSlCfg i v b).clock.ticks = b.clock.ticks ∧
    (writeSlCfg i v b).clock.running = b.clock.running ∧ (writeSlCfg i v b).pins = b.pins ∧ (writeSlCfg i v b).pwr.rest = b.pwr.rest ∧
    (writeSlCfg i v b).act = b.act ∧ (writeSlCfg i v b).recs = b.recs ∧ (writeSlCfg i v b).out = b.out ∧ (writeSlCfg i v b).bist = b.bist ∧
    (writeSlCfg i v b).bal = b.bal ∧ (writeSlCfg i v b).cw = b.cw ∧ (writeSlCfg i v b).fen = b.fen ∧ (writeSlCfg i v b).cap = b.cap ∧
    (writeSlCfg i v b).spi = b.spi := by
  unfold writeSlCfg; simp
@[simp] theorem writeLow_keeps (a : Nat) (v : Word) (b : Block) :
    (writeLow a v b).clock.ticks = b.clock.ticks ∧ (writeLow a v b).clock.running = b.clock.running ∧ (writeLow a v b).pins = b.pins ∧
    (writeLow a v b).pwr.rest = b.pwr.rest ∧ (writeLow a v b).act = b.act ∧ (writeLow a v b).recs = b.recs ∧ (writeLow a v b).out = b.out ∧
    (writeLow a v b).bal = b.bal ∧ (writeLow a v b).cw = b.cw ∧ (writeLow a v b).fen = b.fen := by
  unfold writeLow; (try dsimp only); (repeat' split) <;> simp
@[simp] theorem writeHigh_keeps (a : Nat) (v : Word) (b : Block) :
    (writeHigh a v b).lc = b.lc ∧ (writeHigh a v b).fw = b.fw ∧ (writeHigh a v b).cfg = b.cfg ∧ (writeHigh a v b).clock.ticks = b.clock.ticks ∧
    (writeHigh a v b).clock.running = b.clock.running ∧ (writeHigh a v b).pins = b.pins ∧ (writeHigh a v b).pwr.rest = b.pwr.rest ∧
    (writeHigh a v b).act = b.act := by
  unfold writeHigh; (try dsimp only); (repeat' split) <;> simp
@[simp] theorem writeReg_keeps (a : Nat) (v : Word) (b : Block) :
    (writeReg a v b).clock.ticks = b.clock.ticks ∧ (writeReg a v b).clock.running = b.clock.running ∧ (writeReg a v b).pins = b.pins ∧
    (writeReg a v b).pwr.rest = b.pwr.rest ∧ (writeReg a v b).act = b.act := by
  unfold writeReg; simp
@[simp] theorem cfgWrite_keeps (q n : Nat) (ws : List Word) (b : Block) :
    (cfgWrite q n ws b).clock.ticks = b.clock.ticks ∧ (cfgWrite q n ws b).clock.running = b.clock.running ∧ (cfgWrite q n ws b).pins = b.pins ∧
    (cfgWrite q n ws b).pwr.rest = b.pwr.rest ∧ (cfgWrite q n ws b).act = b.act := by
  unfold cfgWrite; simp
@[simp] theorem readList_keeps (p : Path) (l : List Nat) (b : Block) :
    ((readList p l b).2.2).lc = b.lc ∧ ((readList p l b).2.2).fw = b.fw ∧ ((readList p l b).2.2).cfg = b.cfg ∧
    ((readList p l b).2.2).clock.ticks = b.clock.ticks ∧ ((readList p l b).2.2).clock.running = b.clock.running ∧
    ((readList p l b).2.2).pins = b.pins ∧ ((readList p l b).2.2).pwr.rest = b.pwr.rest ∧ ((readList p l b).2.2).act = b.act ∧
    ((readList p l b).2.2).recs = b.recs ∧ ((readList p l b).2.2).out = b.out ∧ ((readList p l b).2.2).bist = b.bist ∧
    ((readList p l b).2.2).bal = b.bal ∧ ((readList p l b).2.2).cw = b.cw ∧ ((readList p l b).2.2).fen = b.fen ∧ ((readList p l b).2.2).cap = b.cap ∧
    ((readList p l b).2.2).spi = b.spi := by
  induction l generalizing b with
  | nil => simp [readList]
  | cons a l ih => simp [readList, ih]
@[simp] theorem cfgRead_keeps (q n addr : Nat) (fail : Bool) (ws : List Word) (b : Block) :
    (cfgRead q n addr fail ws b).lc = b.lc ∧ (cfgRead q n addr fail ws b).fw = b.fw ∧ (cfgRead q n addr fail ws b).cfg = b.cfg ∧
    (cfgRead q n addr fail ws b).clock.ticks = b.clock.ticks ∧ (cfgRead q n addr fail ws b).clock.running = b.clock.running ∧
    (cfgRead q n addr fail ws b).pins = b.pins ∧ (cfgRead q n addr fail ws b).pwr.rest = b.pwr.rest ∧ (cfgRead q n addr fail ws b).act = b.act ∧
    (cfgRead q n addr fail ws b).recs = b.recs ∧ (cfgRead q n addr fail ws b).bist = b.bist ∧ (cfgRead q n addr fail ws b).bal = b.bal ∧
    (cfgRead q n addr fail ws b).cw = b.cw ∧ (cfgRead q n addr fail ws b).fen = b.fen ∧ (cfgRead q n addr fail ws b).cap = b.cap ∧
    (cfgRead q n addr fail ws b).spi = b.spi := by
  unfold cfgRead; simp
@[simp] theorem forwardOp_keeps (wr : Bool) (a : Nat) (v : Word) (b : Block) :
    (forwardOp wr a v b).2.clock.ticks = b.clock.ticks ∧ (forwardOp wr a v b).2.clock.running = b.clock.running ∧
    (forwardOp wr a v b).2.pins = b.pins ∧ (forwardOp wr a v b).2.pwr.rest = b.pwr.rest ∧ (forwardOp wr a v b).2.act = b.act := by
  unfold forwardOp; (try dsimp only); (repeat' split) <;> simp
@[simp] theorem forwardAll_keeps (l : List (Bool × Nat × Word)) (b : Block) :
    ((forwardAll l b).2).clock.ticks = b.clock.ticks ∧ ((forwardAll l b).2).clock.running = b.clock.running ∧ ((forwardAll l b).2).pins = b.pins ∧
    ((forwardAll l b).2).pwr.rest = b.pwr.rest ∧ ((forwardAll l b).2).act = b.act := by
  induction l generalizing b with
  | nil => simp [forwardAll]
  | cons a l ih => simp [forwardAll, ih]
@[simp] theorem sendResponse_keeps (refused : Bool) (n : Nat) (vals : List Nat) (b : Block) :
    (sendResponse refused n vals b).lc = b.lc ∧ (sendResponse refused n vals b).fw = b.fw ∧ (sendResponse refused n vals b).cfg = b.cfg ∧
    (sendResponse refused n vals b).clock.ticks = b.clock.ticks ∧ (sendResponse refused n vals b).clock.running = b.clock.running ∧
    (sendResponse refused n vals b).pins = b.pins ∧ (sendResponse refused n vals b).pwr.rest = b.pwr.rest ∧
    (sendResponse refused n vals b).act = b.act ∧ (sendResponse refused n vals b).recs = b.recs ∧ (sendResponse refused n vals b).bist = b.bist ∧
    (sendResponse refused n vals b).bal = b.bal ∧ (sendResponse refused n vals b).cw = b.cw ∧ (sendResponse refused n vals b).fen = b.fen ∧
    (sendResponse refused n vals b).cap = b.cap ∧ (sendResponse refused n vals b).spi = b.spi := by
  unfold sendResponse; simp
@[simp] theorem forwardServe_keeps (ops : List (Bool × Nat × Word)) (b : Block) :
    (forwardServe ops b).clock.ticks = b.clock.ticks ∧ (forwardServe ops b).clock.running = b.clock.running ∧ (forwardServe ops b).pins = b.pins ∧
    (forwardServe ops b).pwr.rest = b.pwr.rest ∧ (forwardServe ops b).act = b.act := by
  unfold forwardServe; simp
@[simp] theorem spiCrcFail_keeps (b : Block) :
    (spiCrcFail b).lc = b.lc ∧ (spiCrcFail b).fw = b.fw ∧ (spiCrcFail b).cfg = b.cfg ∧ (spiCrcFail b).clock.ticks = b.clock.ticks ∧
    (spiCrcFail b).clock.running = b.clock.running ∧ (spiCrcFail b).pins = b.pins ∧ (spiCrcFail b).pwr.rest = b.pwr.rest ∧
    (spiCrcFail b).act = b.act ∧ (spiCrcFail b).recs = b.recs ∧ (spiCrcFail b).out = b.out ∧ (spiCrcFail b).bist = b.bist ∧
    (spiCrcFail b).bal = b.bal ∧ (spiCrcFail b).cw = b.cw ∧ (spiCrcFail b).fen = b.fen ∧ (spiCrcFail b).cap = b.cap := by
  unfold spiCrcFail; simp
@[simp] theorem spiPass_keeps (b : Block) :
    (spiPass b).lc = b.lc ∧ (spiPass b).fw = b.fw ∧ (spiPass b).cfg = b.cfg ∧ (spiPass b).clock.ticks = b.clock.ticks ∧
    (spiPass b).clock.running = b.clock.running ∧ (spiPass b).pins = b.pins ∧ (spiPass b).pwr.rest = b.pwr.rest ∧ (spiPass b).act = b.act ∧
    (spiPass b).recs = b.recs ∧ (spiPass b).out = b.out ∧ (spiPass b).bist = b.bist ∧ (spiPass b).bal = b.bal ∧ (spiPass b).cw = b.cw ∧
    (spiPass b).fen = b.fen ∧ (spiPass b).cap = b.cap := by
  unfold spiPass; simp
@[simp] theorem spiErr_keeps (b : Block) :
    (spiErr b).lc = b.lc ∧ (spiErr b).fw = b.fw ∧ (spiErr b).cfg = b.cfg ∧ (spiErr b).clock.ticks = b.clock.ticks ∧
    (spiErr b).clock.running = b.clock.running ∧ (spiErr b).pins = b.pins ∧ (spiErr b).pwr.rest = b.pwr.rest ∧ (spiErr b).act = b.act ∧
    (spiErr b).recs = b.recs ∧ (spiErr b).out = b.out ∧ (spiErr b).bist = b.bist ∧ (spiErr b).bal = b.bal ∧ (spiErr b).cw = b.cw ∧
    (spiErr b).fen = b.fen ∧ (spiErr b).cap = b.cap ∧ (spiErr b).spi = b.spi := by
  unfold spiErr; simp
@[simp] theorem csLow_keeps (b : Block) :
    (csLow b).lc = b.lc ∧ (csLow b).fw = b.fw ∧ (csLow b).cfg = b.cfg ∧ (csLow b).clock.ticks = b.clock.ticks ∧
    (csLow b).clock.running = b.clock.running ∧ (csLow b).pwr.rest = b.pwr.rest ∧ (csLow b).act = b.act ∧ (csLow b).recs = b.recs ∧
    (csLow b).out = b.out ∧ (csLow b).bist = b.bist ∧ (csLow b).bal = b.bal ∧ (csLow b).cw = b.cw ∧ (csLow b).fen = b.fen ∧ (csLow b).cap = b.cap ∧
    (csLow b).spi = b.spi := by
  unfold csLow; simp
@[simp] theorem spiAnswer_keeps (n cycles : Nat) (ws : List Word) (s : Nat) (b : Block) :
    (spiAnswer n cycles ws s b).lc = b.lc ∧ (spiAnswer n cycles ws s b).fw = b.fw ∧ (spiAnswer n cycles ws s b).cfg = b.cfg ∧
    (spiAnswer n cycles ws s b).clock.ticks = b.clock.ticks ∧ (spiAnswer n cycles ws s b).clock.running = b.clock.running ∧
    (spiAnswer n cycles ws s b).pins = b.pins ∧ (spiAnswer n cycles ws s b).pwr.rest = b.pwr.rest ∧ (spiAnswer n cycles ws s b).act = b.act ∧
    (spiAnswer n cycles ws s b).recs = b.recs ∧ (spiAnswer n cycles ws s b).bist = b.bist ∧ (spiAnswer n cycles ws s b).bal = b.bal ∧
    (spiAnswer n cycles ws s b).cw = b.cw ∧ (spiAnswer n cycles ws s b).fen = b.fen ∧ (spiAnswer n cycles ws s b).cap = b.cap ∧
    (spiAnswer n cycles ws s b).spi = b.spi := by
  unfold spiAnswer; simp
@[simp] theorem spiOut_lc (n k : Nat) (p q : Bool) (f : Bool → Block → List Word × Bool × Bool × Bool × Block) (b : Block) (h : ∀ l c, (f l c).2.2.2.2.lc = c.lc) : (spiOut n k p q f b).lc = b.lc := by
  unfold spiOut; (repeat' split) <;> simp [h]
@[simp] theorem spiOut_fw (n k : Nat) (p q : Bool) (f : Bool → Block → List Word × Bool × Bool × Bool × Block) (b : Block) (h : ∀ l c, (f l c).2.2.2.2.fw = c.fw) : (spiOut n k p q f b).fw = b.fw := by
  unfold spiOut; (repeat' split) <;> simp [h]
@[simp] theorem spiOut_cfg (n k : Nat) (p q : Bool) (f : Bool → Block → List Word × Bool × Bool × Bool × Block) (b : Block) (h : ∀ l c, (f l c).2.2.2.2.cfg = c.cfg) : (spiOut n k p q f b).cfg = b.cfg := by
  unfold spiOut; (repeat' split) <;> simp [h]
@[simp] theorem spiOut_ticks (n k : Nat) (p q : Bool) (f : Bool → Block → List Word × Bool × Bool × Bool × Block) (b : Block) (h : ∀ l c, (f l c).2.2.2.2.clock.ticks = c.clock.ticks) : (spiOut n k p q f b).clock.ticks = b.clock.ticks := by
  unfold spiOut; (repeat' split) <;> simp [h]
@[simp] theorem spiOut_running (n k : Nat) (p q : Bool) (f : Bool → Block → List Word × Bool × Bool × Bool × Block) (b : Block) (h : ∀ l c, (f l c).2.2.2.2.clock.running = c.clock.running) : (spiOut n k p q f b).clock.running = b.clock.running := by
  unfold spiOut; (repeat' split) <;> simp [h]
@[simp] theorem spiOut_prest (n k : Nat) (p q : Bool) (f : Bool → Block → List Word × Bool × Bool × Bool × Block) (b : Block) (h : ∀ l c, (f l c).2.2.2.2.pwr.rest = c.pwr.rest) : (spiOut n k p q f b).pwr.rest = b.pwr.rest := by
  unfold spiOut; (repeat' split) <;> simp [h]
@[simp] theorem spiOut_act (n k : Nat) (p q : Bool) (f : Bool → Block → List Word × Bool × Bool × Bool × Block) (b : Block) (h : ∀ l c, (f l c).2.2.2.2.act = c.act) : (spiOut n k p q f b).act = b.act := by
  unfold spiOut; (repeat' split) <;> simp [h]
@[simp] theorem spiOut_recs (n k : Nat) (p q : Bool) (f : Bool → Block → List Word × Bool × Bool × Bool × Block) (b : Block) (h : ∀ l c, (f l c).2.2.2.2.recs = c.recs) : (spiOut n k p q f b).recs = b.recs := by
  unfold spiOut; (repeat' split) <;> simp [h]
@[simp] theorem spiOut_bist (n k : Nat) (p q : Bool) (f : Bool → Block → List Word × Bool × Bool × Bool × Block) (b : Block) (h : ∀ l c, (f l c).2.2.2.2.bist = c.bist) : (spiOut n k p q f b).bist = b.bist := by
  unfold spiOut; (repeat' split) <;> simp [h]
@[simp] theorem spiOut_bal (n k : Nat) (p q : Bool) (f : Bool → Block → List Word × Bool × Bool × Bool × Block) (b : Block) (h : ∀ l c, (f l c).2.2.2.2.bal = c.bal) : (spiOut n k p q f b).bal = b.bal := by
  unfold spiOut; (repeat' split) <;> simp [h]
@[simp] theorem spiOut_cw (n k : Nat) (p q : Bool) (f : Bool → Block → List Word × Bool × Bool × Bool × Block) (b : Block) (h : ∀ l c, (f l c).2.2.2.2.cw = c.cw) : (spiOut n k p q f b).cw = b.cw := by
  unfold spiOut; (repeat' split) <;> simp [h]
@[simp] theorem spiOut_fen (n k : Nat) (p q : Bool) (f : Bool → Block → List Word × Bool × Bool × Bool × Block) (b : Block) (h : ∀ l c, (f l c).2.2.2.2.fen = c.fen) : (spiOut n k p q f b).fen = b.fen := by
  unfold spiOut; (repeat' split) <;> simp [h]
@[simp] theorem spiOut_cap (n k : Nat) (p q : Bool) (f : Bool → Block → List Word × Bool × Bool × Bool × Block) (b : Block) (h : ∀ l c, (f l c).2.2.2.2.cap = c.cap) : (spiOut n k p q f b).cap = b.cap := by
  unfold spiOut; (repeat' split) <;> simp [h]
@[simp] theorem spiRead_keeps (h ch cycles : Nat) (b : Block) :
    (spiRead h ch cycles b).lc = b.lc ∧ (spiRead h ch cycles b).fw = b.fw ∧ (spiRead h ch cycles b).cfg = b.cfg ∧
    (spiRead h ch cycles b).clock.ticks = b.clock.ticks ∧ (spiRead h ch cycles b).clock.running = b.clock.running ∧
    (spiRead h ch cycles b).pwr.rest = b.pwr.rest ∧ (spiRead h ch cycles b).act = b.act ∧ (spiRead h ch cycles b).recs = b.recs ∧
    (spiRead h ch cycles b).bist = b.bist ∧ (spiRead h ch cycles b).bal = b.bal ∧ (spiRead h ch cycles b).cw = b.cw ∧
    (spiRead h ch cycles b).fen = b.fen ∧ (spiRead h ch cycles b).cap = b.cap := by
  unfold spiRead; simp
@[simp] theorem popOne_keeps (f : Nat) (b : Block) :
    (popOne f b).2.2.2.lc = b.lc ∧ (popOne f b).2.2.2.fw = b.fw ∧ (popOne f b).2.2.2.cfg = b.cfg ∧ (popOne f b).2.2.2.clock.ticks = b.clock.ticks ∧
    (popOne f b).2.2.2.clock.running = b.clock.running ∧ (popOne f b).2.2.2.pins = b.pins ∧ (popOne f b).2.2.2.pwr.rest = b.pwr.rest ∧
    (popOne f b).2.2.2.act = b.act ∧ (popOne f b).2.2.2.recs = b.recs ∧ (popOne f b).2.2.2.out = b.out ∧ (popOne f b).2.2.2.bist = b.bist ∧
    (popOne f b).2.2.2.bal = b.bal ∧ (popOne f b).2.2.2.cw = b.cw ∧ (popOne f b).2.2.2.fen = b.fen ∧ (popOne f b).2.2.2.cap = b.cap := by
  unfold popOne; (try dsimp only); (repeat' split) <;> simp
@[simp] theorem popMany_keeps (f n : Nat) (b : Block) :
    ((popMany f n b).2.2.2).lc = b.lc ∧ ((popMany f n b).2.2.2).fw = b.fw ∧ ((popMany f n b).2.2.2).cfg = b.cfg ∧
    ((popMany f n b).2.2.2).clock.ticks = b.clock.ticks ∧ ((popMany f n b).2.2.2).clock.running = b.clock.running ∧
    ((popMany f n b).2.2.2).pins = b.pins ∧ ((popMany f n b).2.2.2).pwr.rest = b.pwr.rest ∧ ((popMany f n b).2.2.2).act = b.act ∧
    ((popMany f n b).2.2.2).recs = b.recs ∧ ((popMany f n b).2.2.2).out = b.out ∧ ((popMany f n b).2.2.2).bist = b.bist ∧
    ((popMany f n b).2.2.2).bal = b.bal ∧ ((popMany f n b).2.2.2).cw = b.cw ∧ ((popMany f n b).2.2.2).fen = b.fen ∧
    ((popMany f n b).2.2.2).cap = b.cap := by
  induction n generalizing b with
  | zero => simp [popMany]
  | succ n ih => simp [popMany, ih]
@[simp] theorem spiPop_keeps (h ch cycles : Nat) (b : Block) :
    (spiPop h ch cycles b).lc = b.lc ∧ (spiPop h ch cycles b).fw = b.fw ∧ (spiPop h ch cycles b).cfg = b.cfg ∧
    (spiPop h ch cycles b).clock.ticks = b.clock.ticks ∧ (spiPop h ch cycles b).clock.running = b.clock.running ∧
    (spiPop h ch cycles b).pwr.rest = b.pwr.rest ∧ (spiPop h ch cycles b).act = b.act ∧ (spiPop h ch cycles b).recs = b.recs ∧
    (spiPop h ch cycles b).bist = b.bist ∧ (spiPop h ch cycles b).bal = b.bal ∧ (spiPop h ch cycles b).cw = b.cw ∧
    (spiPop h ch cycles b).fen = b.fen ∧ (spiPop h ch cycles b).cap = b.cap := by
  unfold spiPop; simp
@[simp] theorem spiApply_keeps (fixed : Bool) (a : Nat) (ws : List Word) (b : Block) :
    (spiApply fixed a ws b).clock.ticks = b.clock.ticks ∧ (spiApply fixed a ws b).clock.running = b.clock.running ∧
    (spiApply fixed a ws b).pins = b.pins ∧ (spiApply fixed a ws b).pwr.rest = b.pwr.rest ∧ (spiApply fixed a ws b).act = b.act := by
  unfold spiApply; simp
@[simp] theorem writeAnswer_keeps (n cycles s : Nat) (b : Block) :
    (writeAnswer n cycles s b).lc = b.lc ∧ (writeAnswer n cycles s b).fw = b.fw ∧ (writeAnswer n cycles s b).cfg = b.cfg ∧
    (writeAnswer n cycles s b).clock.ticks = b.clock.ticks ∧ (writeAnswer n cycles s b).clock.running = b.clock.running ∧
    (writeAnswer n cycles s b).pins = b.pins ∧ (writeAnswer n cycles s b).pwr.rest = b.pwr.rest ∧ (writeAnswer n cycles s b).act = b.act ∧
    (writeAnswer n cycles s b).recs = b.recs ∧ (writeAnswer n cycles s b).bist = b.bist ∧ (writeAnswer n cycles s b).bal = b.bal ∧
    (writeAnswer n cycles s b).cw = b.cw ∧ (writeAnswer n cycles s b).fen = b.fen ∧ (writeAnswer n cycles s b).cap = b.cap ∧
    (writeAnswer n cycles s b).spi = b.spi := by
  unfold writeAnswer; simp
@[simp] theorem spiWrite_keeps (fixed : Bool) (h ch cycles : Nat) (ws : List Word) (cw : Nat) (b : Block) :
    (spiWrite fixed h ch cycles ws cw b).clock.ticks = b.clock.ticks ∧ (spiWrite fixed h ch cycles ws cw b).clock.running = b.clock.running ∧
    (spiWrite fixed h ch cycles ws cw b).pwr.rest = b.pwr.rest ∧ (spiWrite fixed h ch cycles ws cw b).act = b.act := by
  unfold spiWrite; simp
@[simp] theorem readOver_keeps (p : Path) (a : Nat) (b : Block) :
    (readOver p a b).lc = b.lc ∧ (readOver p a b).fw = b.fw ∧ (readOver p a b).cfg = b.cfg ∧ (readOver p a b).clock.ticks = b.clock.ticks ∧
    (readOver p a b).clock.running = b.clock.running ∧ (readOver p a b).pins = b.pins ∧ (readOver p a b).pwr.rest = b.pwr.rest ∧
    (readOver p a b).act = b.act ∧ (readOver p a b).recs = b.recs ∧ (readOver p a b).bist = b.bist ∧ (readOver p a b).bal = b.bal ∧
    (readOver p a b).cw = b.cw ∧ (readOver p a b).fen = b.fen ∧ (readOver p a b).cap = b.cap ∧ (readOver p a b).spi = b.spi := by
  unfold readOver; simp
@[simp] theorem jtagRead_keeps (a : Nat) (b : Block) :
    (jtagRead a b).lc = b.lc ∧ (jtagRead a b).fw = b.fw ∧ (jtagRead a b).cfg = b.cfg ∧ (jtagRead a b).clock.ticks = b.clock.ticks ∧
    (jtagRead a b).clock.running = b.clock.running ∧ (jtagRead a b).pins = b.pins ∧ (jtagRead a b).pwr.rest = b.pwr.rest ∧
    (jtagRead a b).act = b.act ∧ (jtagRead a b).recs = b.recs ∧ (jtagRead a b).bist = b.bist ∧ (jtagRead a b).bal = b.bal ∧
    (jtagRead a b).cw = b.cw ∧ (jtagRead a b).fen = b.fen ∧ (jtagRead a b).cap = b.cap ∧ (jtagRead a b).spi = b.spi := by
  unfold jtagRead; simp
@[simp] theorem scanLands_keeps (b : Block) :
    (scanLands b).lc = b.lc ∧ (scanLands b).fw = b.fw ∧ (scanLands b).cfg = b.cfg ∧ (scanLands b).clock.ticks = b.clock.ticks ∧
    (scanLands b).clock.running = b.clock.running ∧ (scanLands b).pins = b.pins ∧ (scanLands b).pwr.rest = b.pwr.rest ∧ (scanLands b).act = b.act ∧
    (scanLands b).recs = b.recs ∧ (scanLands b).bist = b.bist ∧ (scanLands b).bal = b.bal ∧ (scanLands b).cw = b.cw ∧ (scanLands b).fen = b.fen ∧
    (scanLands b).cap = b.cap ∧ (scanLands b).spi = b.spi := by
  unfold scanLands; simp

end Sys2Proof.Machine
end

