-- ==== Sys2Proof/Laws/KeepBoot.lean ====
section
/-! SUPPORT. What each operation of Machine/Boot.lean leaves alone: a `…_keeps` lemma lists the fields of the block that read after it as before. -/

namespace Sys2Proof.Machine

set_option linter.all false

@[simp] theorem moduleReset_keeps (cause : Nat) (b : Block) :
    (moduleReset cause b).out = b.out := by
  unfold moduleReset; simp
@[simp] theorem halt_keeps (b : Block) :
    (halt b).lc = b.lc ∧ (halt b).fw = b.fw ∧ (halt b).cfg = b.cfg ∧ (halt b).clock.ticks = b.clock.ticks ∧
    (halt b).clock.running = b.clock.running ∧ (halt b).pins = b.pins ∧ (halt b).act = b.act ∧ (halt b).recs = b.recs ∧ (halt b).out = b.out ∧
    (halt b).bist = b.bist ∧ (halt b).bal = b.bal ∧ (halt b).cw = b.cw ∧ (halt b).fen = b.fen ∧ (halt b).cap = b.cap ∧ (halt b).spi = b.spi := by
  unfold halt; simp
@[simp] theorem restoreReg_keeps (a : Nat) (w : Word) (b : Block) :
    (restoreReg a w b).lc = b.lc ∧ (restoreReg a w b).fw = b.fw ∧ (restoreReg a w b).cfg = b.cfg ∧ (restoreReg a w b).clock.ticks = b.clock.ticks ∧
    (restoreReg a w b).clock.running = b.clock.running ∧ (restoreReg a w b).pins = b.pins ∧ (restoreReg a w b).pwr.rest = b.pwr.rest ∧
    (restoreReg a w b).act = b.act ∧ (restoreReg a w b).recs = b.recs ∧ (restoreReg a w b).out = b.out ∧ (restoreReg a w b).bist = b.bist ∧
    (restoreReg a w b).cw = b.cw ∧ (restoreReg a w b).fen = b.fen ∧ (restoreReg a w b).cap = b.cap ∧ (restoreReg a w b).spi = b.spi := by
  unfold restoreReg; simp
@[simp] theorem cfgRestore_keeps (b : Block) :
    (cfgRestore b).lc = b.lc ∧ (cfgRestore b).fw = b.fw ∧ (cfgRestore b).cfg = b.cfg ∧ (cfgRestore b).clock.ticks = b.clock.ticks ∧
    (cfgRestore b).clock.running = b.clock.running ∧ (cfgRestore b).pins = b.pins ∧ (cfgRestore b).pwr.rest = b.pwr.rest ∧
    (cfgRestore b).act = b.act ∧ (cfgRestore b).recs = b.recs ∧ (cfgRestore b).out = b.out ∧ (cfgRestore b).bist = b.bist ∧
    (cfgRestore b).cw = b.cw ∧ (cfgRestore b).fen = b.fen ∧ (cfgRestore b).cap = b.cap ∧ (cfgRestore b).spi = b.spi := by
  unfold cfgRestore; (try dsimp only); (repeat' split) <;> simp
@[simp] theorem bootTest_keeps (r : TestResult) (b : Block) :
    (bootTest r b).lc = b.lc ∧ (bootTest r b).fw = b.fw ∧ (bootTest r b).cfg = b.cfg ∧ (bootTest r b).clock.ticks = b.clock.ticks ∧
    (bootTest r b).clock.running = b.clock.running ∧ (bootTest r b).pins = b.pins ∧ (bootTest r b).pwr.rest = b.pwr.rest ∧
    (bootTest r b).act = b.act ∧ (bootTest r b).recs = b.recs ∧ (bootTest r b).bal = b.bal ∧ (bootTest r b).cw = b.cw ∧
    (bootTest r b).spi = b.spi := by
  unfold bootTest; simp
@[simp] theorem powerOn_keeps (b : Block) :
    (powerOn b).out = b.out := by
  unfold powerOn; simp
@[simp] theorem resetFor_keeps (cause : Nat) (b : Block) :
    (resetFor cause b).out = b.out := by
  unfold resetFor; simp
@[simp] theorem startTiers_keeps (e : EnumResult) (ds : List PathDelay) (c : CwEnum) (b : Block) :
    (startTiers e ds c b).lc = b.lc ∧ (startTiers e ds c b).fw = b.fw ∧ (startTiers e ds c b).cfg = b.cfg ∧
    (startTiers e ds c b).clock.ticks = b.clock.ticks ∧ (startTiers e ds c b).clock.running = b.clock.running ∧ (startTiers e ds c b).pins = b.pins ∧
    (startTiers e ds c b).pwr.rest = b.pwr.rest ∧ (startTiers e ds c b).act = b.act := by
  unfold startTiers; simp
@[simp] theorem detectHeld_keeps (b : Block) :
    (detectHeld b).lc = b.lc ∧ (detectHeld b).fw = b.fw ∧ (detectHeld b).cfg = b.cfg ∧ (detectHeld b).clock.ticks = b.clock.ticks ∧
    (detectHeld b).clock.running = b.clock.running ∧ (detectHeld b).pins = b.pins ∧ (detectHeld b).pwr.rest = b.pwr.rest ∧
    (detectHeld b).act = b.act ∧ (detectHeld b).recs = b.recs ∧ (detectHeld b).bist = b.bist ∧ (detectHeld b).bal = b.bal ∧
    (detectHeld b).cw = b.cw ∧ (detectHeld b).fen = b.fen ∧ (detectHeld b).spi = b.spi := by
  unfold detectHeld; simp
@[simp] theorem reachSafe_keeps (sub index : Nat) (b : Block) :
    (reachSafe sub index b).lc = b.lc ∧ (reachSafe sub index b).fw = b.fw ∧ (reachSafe sub index b).cfg = b.cfg ∧
    (reachSafe sub index b).clock.ticks = b.clock.ticks ∧ (reachSafe sub index b).clock.running = b.clock.running ∧
    (reachSafe sub index b).pins = b.pins ∧ (reachSafe sub index b).pwr.rest = b.pwr.rest ∧ (reachSafe sub index b).act = b.act ∧
    (reachSafe sub index b).recs = b.recs ∧ (reachSafe sub index b).bist = b.bist ∧ (reachSafe sub index b).bal = b.bal ∧
    (reachSafe sub index b).cw = b.cw ∧ (reachSafe sub index b).fen = b.fen ∧ (reachSafe sub index b).cap = b.cap ∧
    (reachSafe sub index b).spi = b.spi := by
  unfold reachSafe; simp
@[simp] theorem reachWhich_keeps (b : Block) :
    (reachWhich b).lc = b.lc ∧ (reachWhich b).cfg = b.cfg ∧ (reachWhich b).clock.ticks = b.clock.ticks ∧
    (reachWhich b).clock.running = b.clock.running ∧ (reachWhich b).pins = b.pins ∧ (reachWhich b).pwr.rest = b.pwr.rest ∧
    (reachWhich b).act = b.act ∧ (reachWhich b).recs = b.recs ∧ (reachWhich b).bist = b.bist ∧ (reachWhich b).bal = b.bal ∧
    (reachWhich b).cw = b.cw ∧ (reachWhich b).fen = b.fen ∧ (reachWhich b).spi = b.spi := by
  unfold reachWhich; simp
@[simp] theorem reachMarks_keeps (b : Block) :
    (reachMarks b).lc = b.lc ∧ (reachMarks b).fw = b.fw ∧ (reachMarks b).cfg = b.cfg ∧ (reachMarks b).clock.ticks = b.clock.ticks ∧
    (reachMarks b).clock.running = b.clock.running ∧ (reachMarks b).pins = b.pins ∧ (reachMarks b).pwr.rest = b.pwr.rest ∧
    (reachMarks b).act = b.act ∧ (reachMarks b).recs = b.recs ∧ (reachMarks b).out = b.out ∧ (reachMarks b).bal = b.bal ∧ (reachMarks b).cw = b.cw ∧
    (reachMarks b).fen = b.fen ∧ (reachMarks b).cap = b.cap ∧ (reachMarks b).spi = b.spi := by
  unfold reachMarks; simp
@[simp] theorem tickCounters_keeps (b : Block) :
    (tickCounters b).lc = b.lc ∧ (tickCounters b).fw = b.fw ∧ (tickCounters b).cfg = b.cfg ∧ (tickCounters b).clock.ticks = b.clock.ticks ∧
    (tickCounters b).clock.running = b.clock.running ∧ (tickCounters b).pins = b.pins ∧ (tickCounters b).pwr.rest = b.pwr.rest ∧
    (tickCounters b).act = b.act ∧ (tickCounters b).recs = b.recs ∧ (tickCounters b).out = b.out ∧ (tickCounters b).bist = b.bist ∧
    (tickCounters b).bal = b.bal ∧ (tickCounters b).cw = b.cw ∧ (tickCounters b).fen = b.fen ∧ (tickCounters b).spi = b.spi := by
  unfold tickCounters; simp
@[simp] theorem tickHost_keeps (b : Block) :
    (tickHost b).lc = b.lc ∧ (tickHost b).clock.ticks = b.clock.ticks ∧ (tickHost b).clock.running = b.clock.running ∧ (tickHost b).pins = b.pins ∧
    (tickHost b).pwr.rest = b.pwr.rest ∧ (tickHost b).act = b.act ∧ (tickHost b).recs = b.recs ∧ (tickHost b).bist = b.bist ∧
    (tickHost b).bal = b.bal ∧ (tickHost b).cw = b.cw ∧ (tickHost b).fen = b.fen := by
  unfold tickHost; simp
@[simp] theorem reachTick_keeps (b : Block) :
    (reachTick b).lc = b.lc ∧ (reachTick b).clock.ticks = b.clock.ticks ∧ (reachTick b).clock.running = b.clock.running ∧
    (reachTick b).pins = b.pins ∧ (reachTick b).pwr.rest = b.pwr.rest ∧ (reachTick b).act = b.act ∧ (reachTick b).bist = b.bist := by
  unfold reachTick; simp
@[simp] theorem reachState_keeps (b : Block) :
    (reachState b).lc = b.lc ∧ (reachState b).clock.ticks = b.clock.ticks ∧ (reachState b).clock.running = b.clock.running ∧
    (reachState b).pins = b.pins ∧ (reachState b).pwr.rest = b.pwr.rest ∧ (reachState b).act = b.act := by
  unfold reachState; simp
@[simp] theorem bootLands_keeps (x : BootInput) (b : Block) :
    (bootLands x b).lc = b.lc ∧ (bootLands x b).fw = b.fw ∧ (bootLands x b).cfg = b.cfg ∧ (bootLands x b).clock.ticks = b.clock.ticks ∧
    (bootLands x b).clock.running = b.clock.running ∧ (bootLands x b).act = b.act ∧ (bootLands x b).recs = b.recs ∧ (bootLands x b).out = b.out ∧
    (bootLands x b).bal = b.bal ∧ (bootLands x b).cw = b.cw ∧ (bootLands x b).fen = b.fen ∧ (bootLands x b).cap = b.cap ∧
    (bootLands x b).spi = b.spi := by
  unfold bootLands; simp
@[simp] theorem bootTime_keeps (n : Nat) (b : Block) :
    (bootTime n b).lc = b.lc ∧ (bootTime n b).fw = b.fw ∧ (bootTime n b).cfg = b.cfg ∧ (bootTime n b).pins = b.pins ∧
    (bootTime n b).pwr.rest = b.pwr.rest ∧ (bootTime n b).act = b.act ∧ (bootTime n b).recs = b.recs ∧ (bootTime n b).out = b.out ∧
    (bootTime n b).bist = b.bist ∧ (bootTime n b).bal = b.bal ∧ (bootTime n b).cw = b.cw ∧ (bootTime n b).fen = b.fen ∧ (bootTime n b).cap = b.cap ∧
    (bootTime n b).spi = b.spi := by
  unfold bootTime; simp
@[simp] theorem bootLoad_keeps (i : Nat) (b : Block) :
    (bootLoad i b).lc = b.lc ∧ (bootLoad i b).cfg = b.cfg ∧ (bootLoad i b).clock.ticks = b.clock.ticks ∧
    (bootLoad i b).clock.running = b.clock.running ∧ (bootLoad i b).pins = b.pins ∧ (bootLoad i b).act = b.act ∧ (bootLoad i b).recs = b.recs ∧
    (bootLoad i b).out = b.out ∧ (bootLoad i b).bist = b.bist ∧ (bootLoad i b).bal = b.bal ∧ (bootLoad i b).cw = b.cw ∧ (bootLoad i b).fen = b.fen ∧
    (bootLoad i b).cap = b.cap ∧ (bootLoad i b).spi = b.spi := by
  unfold bootLoad; simp
@[simp] theorem bootJournal_keeps (b : Block) :
    (bootJournal b).lc = b.lc ∧ (bootJournal b).fw = b.fw ∧ (bootJournal b).cfg = b.cfg ∧ (bootJournal b).clock.ticks = b.clock.ticks ∧
    (bootJournal b).clock.running = b.clock.running ∧ (bootJournal b).pins = b.pins ∧ (bootJournal b).pwr.rest = b.pwr.rest ∧
    (bootJournal b).act = b.act ∧ (bootJournal b).recs = b.recs ∧ (bootJournal b).out = b.out ∧ (bootJournal b).bist = b.bist ∧
    (bootJournal b).bal = b.bal ∧ (bootJournal b).cw = b.cw ∧ (bootJournal b).fen = b.fen ∧ (bootJournal b).cap = b.cap ∧
    (bootJournal b).spi = b.spi := by
  unfold bootJournal; simp
@[simp] theorem bootRun_keeps (x : BootInput) (b : Block) :
    (bootRun x b).lc = b.lc ∧ (bootRun x b).clock.ticks = b.clock.ticks ∧ (bootRun x b).clock.running = b.clock.running ∧
    (bootRun x b).pwr.rest = b.pwr.rest := by
  unfold bootRun; simp
@[simp] theorem bootStart_keeps (x : BootInput) (b : Block) :
    (bootStart x b).lc = b.lc ∧ (bootStart x b).fw = b.fw ∧ (bootStart x b).cfg = b.cfg ∧ (bootStart x b).act = b.act ∧
    (bootStart x b).recs = b.recs ∧ (bootStart x b).out = b.out ∧ (bootStart x b).bal = b.bal ∧ (bootStart x b).cw = b.cw ∧
    (bootStart x b).fen = b.fen ∧ (bootStart x b).cap = b.cap ∧ (bootStart x b).spi = b.spi := by
  unfold bootStart; simp
@[simp] theorem bootVerify_keeps (x : BootInput) (b : Block) :
    (bootVerify x b).lc = b.lc ∧ (bootVerify x b).cfg = b.cfg ∧ (bootVerify x b).pins = b.pins ∧ (bootVerify x b).act = b.act ∧
    (bootVerify x b).recs = b.recs ∧ (bootVerify x b).out = b.out ∧ (bootVerify x b).bist = b.bist ∧ (bootVerify x b).bal = b.bal ∧
    (bootVerify x b).cw = b.cw ∧ (bootVerify x b).fen = b.fen ∧ (bootVerify x b).cap = b.cap ∧ (bootVerify x b).spi = b.spi := by
  unfold bootVerify; (try dsimp only); (repeat' split) <;> simp
@[simp] theorem bootFinish_keeps (x : BootInput) (b : Block) :
    (bootFinish x b).lc = b.lc := by
  unfold bootFinish; simp
@[simp] theorem boot_keeps (x : BootInput) (b : Block) :
    (boot x b).lc = b.lc := by
  unfold boot; (try dsimp only); (repeat' split) <;> simp
@[simp] theorem parkCommands_keeps (b : Block) :
    (parkCommands b).lc = b.lc ∧ (parkCommands b).cfg = b.cfg ∧ (parkCommands b).clock.ticks = b.clock.ticks ∧
    (parkCommands b).clock.running = b.clock.running ∧ (parkCommands b).pins = b.pins ∧ (parkCommands b).pwr.rest = b.pwr.rest ∧
    (parkCommands b).act = b.act ∧ (parkCommands b).recs = b.recs ∧ (parkCommands b).bist = b.bist ∧ (parkCommands b).bal = b.bal ∧
    (parkCommands b).cw = b.cw ∧ (parkCommands b).cap = b.cap ∧ (parkCommands b).spi = b.spi := by
  unfold parkCommands; simp
@[simp] theorem parkFlush_keeps (fail : Option Nat) (b : Block) :
    (parkFlush fail b).lc = b.lc ∧ (parkFlush fail b).clock.ticks = b.clock.ticks ∧ (parkFlush fail b).clock.running = b.clock.running ∧
    (parkFlush fail b).pins = b.pins ∧ (parkFlush fail b).pwr.rest = b.pwr.rest ∧ (parkFlush fail b).act = b.act ∧ (parkFlush fail b).recs = b.recs ∧
    (parkFlush fail b).bist = b.bist ∧ (parkFlush fail b).bal = b.bal ∧ (parkFlush fail b).cw = b.cw ∧ (parkFlush fail b).fen = b.fen ∧
    (parkFlush fail b).spi = b.spi := by
  unfold parkFlush; simp
@[simp] theorem parkStrings_keeps (b : Block) :
    (parkStrings b).lc = b.lc ∧ (parkStrings b).fw = b.fw ∧ (parkStrings b).cfg = b.cfg ∧ (parkStrings b).clock.ticks = b.clock.ticks ∧
    (parkStrings b).clock.running = b.clock.running ∧ (parkStrings b).pins = b.pins ∧ (parkStrings b).pwr.rest = b.pwr.rest ∧
    (parkStrings b).act = b.act ∧ (parkStrings b).recs = b.recs ∧ (parkStrings b).out = b.out ∧ (parkStrings b).bist = b.bist ∧
    (parkStrings b).bal = b.bal ∧ (parkStrings b).cw = b.cw ∧ (parkStrings b).fen = b.fen ∧ (parkStrings b).cap = b.cap ∧
    (parkStrings b).spi = b.spi := by
  unfold parkStrings; simp
@[simp] theorem parkStop_keeps (b : Block) :
    (parkStop b).lc = b.lc ∧ (parkStop b).fw = b.fw ∧ (parkStop b).cfg = b.cfg ∧ (parkStop b).clock.ticks = b.clock.ticks ∧
    (parkStop b).clock.running = b.clock.running ∧ (parkStop b).pins = b.pins ∧ (parkStop b).act = b.act ∧ (parkStop b).out = b.out ∧
    (parkStop b).bal = b.bal ∧ (parkStop b).cap = b.cap := by
  unfold parkStop; simp
@[simp] theorem wakeSluice_keeps (kept : Bool) (b : Block) :
    (wakeSluice kept b).lc = b.lc ∧ (wakeSluice kept b).fw = b.fw ∧ (wakeSluice kept b).cfg = b.cfg ∧
    (wakeSluice kept b).clock.ticks = b.clock.ticks ∧ (wakeSluice kept b).clock.running = b.clock.running ∧ (wakeSluice kept b).pins = b.pins ∧
    (wakeSluice kept b).pwr.rest = b.pwr.rest ∧ (wakeSluice kept b).act = b.act ∧ (wakeSluice kept b).recs = b.recs ∧
    (wakeSluice kept b).bist = b.bist ∧ (wakeSluice kept b).cw = b.cw ∧ (wakeSluice kept b).fen = b.fen ∧ (wakeSluice kept b).spi = b.spi := by
  unfold wakeSluice; simp
@[simp] theorem wakeCapture_keeps (kept : Bool) (b : Block) :
    (wakeCapture kept b).lc = b.lc ∧ (wakeCapture kept b).fw = b.fw ∧ (wakeCapture kept b).cfg = b.cfg ∧
    (wakeCapture kept b).clock.ticks = b.clock.ticks ∧ (wakeCapture kept b).clock.running = b.clock.running ∧ (wakeCapture kept b).pins = b.pins ∧
    (wakeCapture kept b).pwr.rest = b.pwr.rest ∧ (wakeCapture kept b).act = b.act ∧ (wakeCapture kept b).recs = b.recs ∧
    (wakeCapture kept b).out = b.out ∧ (wakeCapture kept b).bist = b.bist ∧ (wakeCapture kept b).bal = b.bal ∧ (wakeCapture kept b).cw = b.cw ∧
    (wakeCapture kept b).fen = b.fen ∧ (wakeCapture kept b).spi = b.spi := by
  unfold wakeCapture; simp
@[simp] theorem wakeCounters_keeps (b : Block) :
    (wakeCounters b).lc = b.lc ∧ (wakeCounters b).fw = b.fw ∧ (wakeCounters b).cfg = b.cfg ∧ (wakeCounters b).clock.ticks = b.clock.ticks ∧
    (wakeCounters b).clock.running = b.clock.running ∧ (wakeCounters b).pins = b.pins ∧ (wakeCounters b).pwr.rest = b.pwr.rest ∧
    (wakeCounters b).act = b.act ∧ (wakeCounters b).recs = b.recs ∧ (wakeCounters b).out = b.out ∧ (wakeCounters b).bist = b.bist ∧
    (wakeCounters b).bal = b.bal ∧ (wakeCounters b).cw = b.cw ∧ (wakeCounters b).fen = b.fen ∧ (wakeCounters b).spi = b.spi := by
  unfold wakeCounters; simp
@[simp] theorem wakeCharge_keeps (lo n secs : Nat) (b : Block) :
    (wakeCharge lo n secs b).lc = b.lc ∧ (wakeCharge lo n secs b).fw = b.fw ∧ (wakeCharge lo n secs b).cfg = b.cfg ∧
    (wakeCharge lo n secs b).clock.ticks = b.clock.ticks ∧ (wakeCharge lo n secs b).clock.running = b.clock.running ∧
    (wakeCharge lo n secs b).pins = b.pins ∧ (wakeCharge lo n secs b).pwr.rest = b.pwr.rest ∧ (wakeCharge lo n secs b).act = b.act ∧
    (wakeCharge lo n secs b).recs = b.recs ∧ (wakeCharge lo n secs b).out = b.out ∧ (wakeCharge lo n secs b).bist = b.bist ∧
    (wakeCharge lo n secs b).cw = b.cw ∧ (wakeCharge lo n secs b).cap = b.cap ∧ (wakeCharge lo n secs b).spi = b.spi := by
  unfold wakeCharge; simp
@[simp] theorem wakeBegin_keeps (src secs : Nat) (x : WakeInput) (b : Block) :
    (wakeBegin src secs x b).lc = b.lc ∧ (wakeBegin src secs x b).fw = b.fw ∧ (wakeBegin src secs x b).cfg = b.cfg ∧
    (wakeBegin src secs x b).clock.running = b.clock.running ∧ (wakeBegin src secs x b).act = b.act ∧ (wakeBegin src secs x b).recs = b.recs ∧
    (wakeBegin src secs x b).out = b.out ∧ (wakeBegin src secs x b).bist = b.bist ∧ (wakeBegin src secs x b).bal = b.bal ∧
    (wakeBegin src secs x b).cw = b.cw ∧ (wakeBegin src secs x b).fen = b.fen ∧ (wakeBegin src secs x b).cap = b.cap ∧
    (wakeBegin src secs x b).spi = b.spi := by
  unfold wakeBegin; simp
@[simp] theorem wakeJournal_keeps (secs : Nat) (b : Block) :
    (wakeJournal secs b).lc = b.lc ∧ (wakeJournal secs b).fw = b.fw ∧ (wakeJournal secs b).cfg = b.cfg ∧
    (wakeJournal secs b).clock.ticks = b.clock.ticks ∧ (wakeJournal secs b).clock.running = b.clock.running ∧ (wakeJournal secs b).pins = b.pins ∧
    (wakeJournal secs b).pwr.rest = b.pwr.rest ∧ (wakeJournal secs b).act = b.act ∧ (wakeJournal secs b).recs = b.recs ∧
    (wakeJournal secs b).out = b.out ∧ (wakeJournal secs b).bist = b.bist ∧ (wakeJournal secs b).bal = b.bal ∧ (wakeJournal secs b).cw = b.cw ∧
    (wakeJournal secs b).fen = b.fen ∧ (wakeJournal secs b).cap = b.cap ∧ (wakeJournal secs b).spi = b.spi := by
  unfold wakeJournal; simp
@[simp] theorem wakeCw_keeps (b : Block) :
    (wakeCw b).lc = b.lc ∧ (wakeCw b).fw = b.fw ∧ (wakeCw b).cfg = b.cfg ∧ (wakeCw b).clock.ticks = b.clock.ticks ∧
    (wakeCw b).clock.running = b.clock.running ∧ (wakeCw b).pins = b.pins ∧ (wakeCw b).pwr.rest = b.pwr.rest ∧ (wakeCw b).act = b.act ∧
    (wakeCw b).recs = b.recs ∧ (wakeCw b).out = b.out ∧ (wakeCw b).bist = b.bist ∧ (wakeCw b).bal = b.bal ∧ (wakeCw b).fen = b.fen ∧
    (wakeCw b).cap = b.cap ∧ (wakeCw b).spi = b.spi := by
  unfold wakeCw; simp
@[simp] theorem wakeForward_keeps (b : Block) :
    (wakeForward b).lc = b.lc ∧ (wakeForward b).fw = b.fw ∧ (wakeForward b).cfg = b.cfg ∧ (wakeForward b).clock.ticks = b.clock.ticks ∧
    (wakeForward b).clock.running = b.clock.running ∧ (wakeForward b).pins = b.pins ∧ (wakeForward b).pwr.rest = b.pwr.rest ∧
    (wakeForward b).act = b.act ∧ (wakeForward b).recs = b.recs ∧ (wakeForward b).bist = b.bist ∧ (wakeForward b).bal = b.bal ∧
    (wakeForward b).cw = b.cw ∧ (wakeForward b).fen = b.fen ∧ (wakeForward b).cap = b.cap ∧ (wakeForward b).spi = b.spi := by
  unfold wakeForward; simp
@[simp] theorem wakeTemps_keeps (b : Block) :
    (wakeTemps b).lc = b.lc ∧ (wakeTemps b).fw = b.fw ∧ (wakeTemps b).cfg = b.cfg ∧ (wakeTemps b).clock.ticks = b.clock.ticks ∧
    (wakeTemps b).clock.running = b.clock.running ∧ (wakeTemps b).pins = b.pins ∧ (wakeTemps b).pwr.rest = b.pwr.rest ∧ (wakeTemps b).act = b.act ∧
    (wakeTemps b).recs = b.recs ∧ (wakeTemps b).out = b.out ∧ (wakeTemps b).bist = b.bist ∧ (wakeTemps b).bal = b.bal ∧ (wakeTemps b).cw = b.cw ∧
    (wakeTemps b).cap = b.cap ∧ (wakeTemps b).spi = b.spi := by
  unfold wakeTemps; simp
@[simp] theorem wakeState_keeps (retain secs : Nat) (b : Block) :
    (wakeState retain secs b).lc = b.lc ∧ (wakeState retain secs b).fw = b.fw ∧ (wakeState retain secs b).cfg = b.cfg ∧
    (wakeState retain secs b).clock.ticks = b.clock.ticks ∧ (wakeState retain secs b).clock.running = b.clock.running ∧
    (wakeState retain secs b).pins = b.pins ∧ (wakeState retain secs b).pwr.rest = b.pwr.rest ∧ (wakeState retain secs b).act = b.act ∧
    (wakeState retain secs b).recs = b.recs ∧ (wakeState retain secs b).bist = b.bist ∧ (wakeState retain secs b).spi = b.spi := by
  unfold wakeState; simp
@[simp] theorem wake_keeps (src : Nat) (x : WakeInput) (b : Block) :
    (wake src x b).lc = b.lc ∧ (wake src x b).clock.running = b.clock.running ∧ (wake src x b).act = b.act := by
  unfold wake; simp
@[simp] theorem wakeEvent_keeps (src : Nat) (x : WakeInput) (b : Block) :
    (wakeEvent src x b).lc = b.lc ∧ (wakeEvent src x b).clock.running = b.clock.running ∧ (wakeEvent src x b).act = b.act := by
  unfold wakeEvent; simp

end Sys2Proof.Machine
end

