-- ==== Sys2Proof/Laws/KeepFrame.lean ====
section
/-! SUPPORT. What each operation of Machine/Frame.lean leaves alone: a `…_keeps` lemma lists the fields of the block that read after it as before. -/

namespace Sys2Proof.Machine

set_option linter.all false

@[simp] theorem resetStart_keeps (d : Domain) (crcBad : Bool) (b : Block) :
    (resetStart d crcBad b).lc = b.lc ∧ (resetStart d crcBad b).fw = b.fw ∧ (resetStart d crcBad b).cfg = b.cfg ∧
    (resetStart d crcBad b).clock.ticks = b.clock.ticks ∧ (resetStart d crcBad b).clock.running = b.clock.running ∧
    (resetStart d crcBad b).pins = b.pins ∧ (resetStart d crcBad b).pwr.rest = b.pwr.rest ∧ (resetStart d crcBad b).act = b.act := by
  unfold resetStart; (try dsimp only); (repeat' split) <;> simp
@[simp] theorem resetEnd_keeps (d : Domain) (b : Block) :
    (resetEnd d b).lc = b.lc ∧ (resetEnd d b).fw = b.fw ∧ (resetEnd d b).cfg = b.cfg ∧ (resetEnd d b).clock.ticks = b.clock.ticks ∧
    (resetEnd d b).clock.running = b.clock.running ∧ (resetEnd d b).pins = b.pins ∧ (resetEnd d b).pwr.rest = b.pwr.rest ∧
    (resetEnd d b).act = b.act ∧ (resetEnd d b).recs = b.recs ∧ (resetEnd d b).bist = b.bist ∧ (resetEnd d b).bal = b.bal ∧
    (resetEnd d b).cw = b.cw ∧ (resetEnd d b).spi = b.spi := by
  unfold resetEnd; (try dsimp only); (repeat' split) <;> simp
@[simp] theorem resetTick_keeps (b : Block) :
    (resetTick b).lc = b.lc ∧ (resetTick b).fw = b.fw ∧ (resetTick b).cfg = b.cfg ∧ (resetTick b).clock.ticks = b.clock.ticks ∧
    (resetTick b).clock.running = b.clock.running ∧ (resetTick b).pins = b.pins ∧ (resetTick b).pwr.rest = b.pwr.rest ∧
    (resetTick b).act = b.act := by
  unfold resetTick; simp
@[simp] theorem blockReset_keeps (d : Domain) (crcBad : Bool) (b : Block) :
    (blockReset d crcBad b).lc = b.lc ∧ (blockReset d crcBad b).fw = b.fw ∧ (blockReset d crcBad b).cfg = b.cfg ∧
    (blockReset d crcBad b).clock.ticks = b.clock.ticks ∧ (blockReset d crcBad b).clock.running = b.clock.running ∧
    (blockReset d crcBad b).pins = b.pins ∧ (blockReset d crcBad b).pwr.rest = b.pwr.rest ∧ (blockReset d crcBad b).act = b.act := by
  unfold blockReset; simp
@[simp] theorem missTick_keeps (b : Block) :
    (missTick b).lc = b.lc ∧ (missTick b).fw = b.fw ∧ (missTick b).cfg = b.cfg ∧ (missTick b).clock.ticks = b.clock.ticks ∧
    (missTick b).clock.running = b.clock.running ∧ (missTick b).pins = b.pins ∧ (missTick b).pwr.rest = b.pwr.rest ∧ (missTick b).act = b.act ∧
    (missTick b).recs = b.recs ∧ (missTick b).out = b.out ∧ (missTick b).bist = b.bist ∧ (missTick b).bal = b.bal ∧ (missTick b).cw = b.cw ∧
    (missTick b).fen = b.fen ∧ (missTick b).cap = b.cap ∧ (missTick b).spi = b.spi := by
  unfold missTick; simp
@[simp] theorem breakTick_keeps (b : Block) :
    (breakTick b).lc = b.lc ∧ (breakTick b).fw = b.fw ∧ (breakTick b).cfg = b.cfg ∧ (breakTick b).clock.ticks = b.clock.ticks ∧
    (breakTick b).clock.running = b.clock.running ∧ (breakTick b).pins = b.pins ∧ (breakTick b).pwr.rest = b.pwr.rest ∧ (breakTick b).act = b.act ∧
    (breakTick b).recs = b.recs ∧ (breakTick b).out = b.out ∧ (breakTick b).bist = b.bist ∧ (breakTick b).bal = b.bal ∧ (breakTick b).cw = b.cw ∧
    (breakTick b).fen = b.fen ∧ (breakTick b).cap = b.cap ∧ (breakTick b).spi = b.spi := by
  unfold breakTick; simp
@[simp] theorem rawNow_keeps (b : Block) :
    (rawNow b).lc = b.lc ∧ (rawNow b).fw = b.fw ∧ (rawNow b).cfg = b.cfg ∧ (rawNow b).clock.ticks = b.clock.ticks ∧
    (rawNow b).clock.running = b.clock.running ∧ (rawNow b).pins = b.pins ∧ (rawNow b).pwr.rest = b.pwr.rest ∧ (rawNow b).act = b.act ∧
    (rawNow b).recs = b.recs ∧ (rawNow b).out = b.out ∧ (rawNow b).bist = b.bist ∧ (rawNow b).bal = b.bal ∧ (rawNow b).cw = b.cw ∧
    (rawNow b).fen = b.fen ∧ (rawNow b).cap = b.cap ∧ (rawNow b).spi = b.spi := by
  unfold rawNow; simp
@[simp] theorem samplesTick_keeps (b : Block) :
    (samplesTick b).lc = b.lc ∧ (samplesTick b).fw = b.fw ∧ (samplesTick b).cfg = b.cfg ∧ (samplesTick b).clock.ticks = b.clock.ticks ∧
    (samplesTick b).clock.running = b.clock.running ∧ (samplesTick b).pins = b.pins ∧ (samplesTick b).pwr.rest = b.pwr.rest ∧
    (samplesTick b).act = b.act ∧ (samplesTick b).recs = b.recs ∧ (samplesTick b).out = b.out ∧ (samplesTick b).bist = b.bist ∧
    (samplesTick b).bal = b.bal ∧ (samplesTick b).cw = b.cw ∧ (samplesTick b).fen = b.fen ∧ (samplesTick b).cap = b.cap ∧
    (samplesTick b).spi = b.spi := by
  unfold samplesTick; simp
@[simp] theorem emitPassed_keeps (b : Block) :
    (emitPassed b).lc = b.lc ∧ (emitPassed b).fw = b.fw ∧ (emitPassed b).cfg = b.cfg ∧ (emitPassed b).clock.ticks = b.clock.ticks ∧
    (emitPassed b).clock.running = b.clock.running ∧ (emitPassed b).pins = b.pins ∧ (emitPassed b).pwr.rest = b.pwr.rest ∧
    (emitPassed b).act = b.act ∧ (emitPassed b).out = b.out ∧ (emitPassed b).bist = b.bist ∧ (emitPassed b).bal = b.bal ∧ (emitPassed b).cw = b.cw ∧
    (emitPassed b).fen = b.fen ∧ (emitPassed b).cap = b.cap ∧ (emitPassed b).spi = b.spi := by
  unfold emitPassed; simp
@[simp] theorem collectPassed_keeps (b : Block) :
    (collectPassed b).lc = b.lc ∧ (collectPassed b).fw = b.fw ∧ (collectPassed b).cfg = b.cfg ∧ (collectPassed b).clock.ticks = b.clock.ticks ∧
    (collectPassed b).clock.running = b.clock.running ∧ (collectPassed b).pins = b.pins ∧ (collectPassed b).pwr.rest = b.pwr.rest ∧
    (collectPassed b).act = b.act ∧ (collectPassed b).recs = b.recs ∧ (collectPassed b).out = b.out ∧ (collectPassed b).bist = b.bist ∧
    (collectPassed b).bal = b.bal ∧ (collectPassed b).cw = b.cw ∧ (collectPassed b).fen = b.fen ∧ (collectPassed b).cap = b.cap ∧
    (collectPassed b).spi = b.spi := by
  unfold collectPassed; simp
@[simp] theorem owedAt_keeps (b : Block) :
    (owedAt b).lc = b.lc ∧ (owedAt b).fw = b.fw ∧ (owedAt b).cfg = b.cfg ∧ (owedAt b).clock.ticks = b.clock.ticks ∧
    (owedAt b).clock.running = b.clock.running ∧ (owedAt b).pins = b.pins ∧ (owedAt b).pwr.rest = b.pwr.rest ∧ (owedAt b).act = b.act ∧
    (owedAt b).recs = b.recs ∧ (owedAt b).out = b.out ∧ (owedAt b).bist = b.bist ∧ (owedAt b).bal = b.bal ∧ (owedAt b).cw = b.cw ∧
    (owedAt b).fen = b.fen ∧ (owedAt b).cap = b.cap ∧ (owedAt b).spi = b.spi := by
  unfold owedAt; simp
@[simp] theorem tickClock_keeps (ptm : Nat) (b : Block) :
    (tickClock ptm b).lc = b.lc ∧ (tickClock ptm b).fw = b.fw ∧ (tickClock ptm b).cfg = b.cfg ∧ (tickClock ptm b).clock.running = b.clock.running ∧
    (tickClock ptm b).pins = b.pins ∧ (tickClock ptm b).pwr.rest = b.pwr.rest ∧ (tickClock ptm b).act = b.act ∧ (tickClock ptm b).recs = b.recs ∧
    (tickClock ptm b).out = b.out ∧ (tickClock ptm b).bist = b.bist ∧ (tickClock ptm b).bal = b.bal ∧ (tickClock ptm b).cw = b.cw ∧
    (tickClock ptm b).fen = b.fen ∧ (tickClock ptm b).cap = b.cap ∧ (tickClock ptm b).spi = b.spi := by
  unfold tickClock; simp
@[simp] theorem tickNumber_keeps (root : Option Nat) (b : Block) :
    (tickNumber root b).lc = b.lc ∧ (tickNumber root b).fw = b.fw ∧ (tickNumber root b).cfg = b.cfg ∧
    (tickNumber root b).clock.ticks = b.clock.ticks ∧ (tickNumber root b).clock.running = b.clock.running ∧ (tickNumber root b).pins = b.pins ∧
    (tickNumber root b).pwr.rest = b.pwr.rest ∧ (tickNumber root b).act = b.act ∧ (tickNumber root b).out = b.out ∧
    (tickNumber root b).bist = b.bist ∧ (tickNumber root b).bal = b.bal ∧ (tickNumber root b).spi = b.spi := by
  unfold tickNumber; (try dsimp only); (repeat' split) <;> simp
@[simp] theorem jobsTick_keeps (b : Block) :
    (jobsTick b).lc = b.lc ∧ (jobsTick b).fw = b.fw ∧ (jobsTick b).cfg = b.cfg ∧ (jobsTick b).clock.ticks = b.clock.ticks ∧
    (jobsTick b).clock.running = b.clock.running ∧ (jobsTick b).pins = b.pins ∧ (jobsTick b).pwr.rest = b.pwr.rest ∧ (jobsTick b).act = b.act ∧
    (jobsTick b).recs = b.recs ∧ (jobsTick b).out = b.out ∧ (jobsTick b).bist = b.bist ∧ (jobsTick b).bal = b.bal ∧ (jobsTick b).fen = b.fen ∧
    (jobsTick b).cap = b.cap ∧ (jobsTick b).spi = b.spi := by
  unfold jobsTick; simp
@[simp] theorem coefTick_keeps (b : Block) :
    (coefTick b).lc = b.lc ∧ (coefTick b).fw = b.fw ∧ (coefTick b).cfg = b.cfg ∧ (coefTick b).clock.ticks = b.clock.ticks ∧
    (coefTick b).clock.running = b.clock.running ∧ (coefTick b).pins = b.pins ∧ (coefTick b).pwr.rest = b.pwr.rest ∧ (coefTick b).act = b.act ∧
    (coefTick b).recs = b.recs ∧ (coefTick b).out = b.out ∧ (coefTick b).bist = b.bist ∧ (coefTick b).cw = b.cw ∧ (coefTick b).fen = b.fen ∧
    (coefTick b).cap = b.cap ∧ (coefTick b).spi = b.spi := by
  unfold coefTick; simp
@[simp] theorem outputTick_keeps (b : Block) :
    (outputTick b).lc = b.lc ∧ (outputTick b).fw = b.fw ∧ (outputTick b).cfg = b.cfg ∧ (outputTick b).clock.ticks = b.clock.ticks ∧
    (outputTick b).clock.running = b.clock.running ∧ (outputTick b).pins = b.pins ∧ (outputTick b).pwr.rest = b.pwr.rest ∧
    (outputTick b).act = b.act ∧ (outputTick b).recs = b.recs ∧ (outputTick b).out = b.out ∧ (outputTick b).bist = b.bist ∧
    (outputTick b).bal = b.bal ∧ (outputTick b).cw = b.cw ∧ (outputTick b).fen = b.fen ∧ (outputTick b).cap = b.cap ∧ (outputTick b).spi = b.spi := by
  unfold outputTick; simp
@[simp] theorem tickCommit_keeps (b : Block) :
    (tickCommit b).cfg = b.cfg ∧ (tickCommit b).clock.ticks = b.clock.ticks ∧ (tickCommit b).clock.running = b.clock.running ∧
    (tickCommit b).pins = b.pins := by
  unfold tickCommit; simp
@[simp] theorem testTick_keeps (b : Block) :
    (testTick b).lc = b.lc ∧ (testTick b).fw = b.fw ∧ (testTick b).cfg = b.cfg ∧ (testTick b).clock.ticks = b.clock.ticks ∧
    (testTick b).clock.running = b.clock.running ∧ (testTick b).pins = b.pins ∧ (testTick b).pwr.rest = b.pwr.rest ∧ (testTick b).act = b.act ∧
    (testTick b).recs = b.recs ∧ (testTick b).out = b.out ∧ (testTick b).bal = b.bal ∧ (testTick b).cw = b.cw ∧ (testTick b).spi = b.spi := by
  unfold testTick; simp
@[simp] theorem tickModel_keeps (b : Block) :
    (tickModel b).lc = b.lc ∧ (tickModel b).fw = b.fw ∧ (tickModel b).cfg = b.cfg ∧ (tickModel b).clock.ticks = b.clock.ticks ∧
    (tickModel b).clock.running = b.clock.running ∧ (tickModel b).pins = b.pins ∧ (tickModel b).pwr.rest = b.pwr.rest ∧ (tickModel b).act = b.act ∧
    (tickModel b).out = b.out ∧ (tickModel b).cw = b.cw ∧ (tickModel b).spi = b.spi := by
  unfold tickModel; simp
@[simp] theorem markerTick_keeps (b : Block) :
    (markerTick b).lc = b.lc ∧ (markerTick b).fw = b.fw ∧ (markerTick b).cfg = b.cfg ∧ (markerTick b).clock.ticks = b.clock.ticks ∧
    (markerTick b).clock.running = b.clock.running ∧ (markerTick b).pins = b.pins ∧ (markerTick b).pwr.rest = b.pwr.rest ∧
    (markerTick b).act = b.act ∧ (markerTick b).recs = b.recs ∧ (markerTick b).out = b.out ∧ (markerTick b).cw = b.cw ∧ (markerTick b).fen = b.fen ∧
    (markerTick b).cap = b.cap ∧ (markerTick b).spi = b.spi := by
  unfold markerTick; simp
@[simp] theorem auxTick_keeps (b : Block) :
    (auxTick b).lc = b.lc ∧ (auxTick b).fw = b.fw ∧ (auxTick b).cfg = b.cfg ∧ (auxTick b).clock.ticks = b.clock.ticks ∧
    (auxTick b).clock.running = b.clock.running ∧ (auxTick b).pins = b.pins ∧ (auxTick b).pwr.rest = b.pwr.rest ∧ (auxTick b).act = b.act ∧
    (auxTick b).out = b.out ∧ (auxTick b).bist = b.bist ∧ (auxTick b).bal = b.bal ∧ (auxTick b).cw = b.cw ∧ (auxTick b).fen = b.fen ∧
    (auxTick b).cap = b.cap ∧ (auxTick b).spi = b.spi := by
  unfold auxTick; simp
@[simp] theorem tickFront_keeps (b : Block) :
    (tickFront b).lc = b.lc ∧ (tickFront b).fw = b.fw ∧ (tickFront b).cfg = b.cfg ∧ (tickFront b).clock.ticks = b.clock.ticks ∧
    (tickFront b).clock.running = b.clock.running ∧ (tickFront b).pins = b.pins ∧ (tickFront b).pwr.rest = b.pwr.rest ∧ (tickFront b).act = b.act ∧
    (tickFront b).out = b.out ∧ (tickFront b).cw = b.cw ∧ (tickFront b).fen = b.fen ∧ (tickFront b).cap = b.cap ∧ (tickFront b).spi = b.spi := by
  unfold tickFront; simp
@[simp] theorem tickWatchdog_keeps (b : Block) :
    (tickWatchdog b).lc = b.lc ∧ (tickWatchdog b).fw = b.fw ∧ (tickWatchdog b).cfg = b.cfg ∧ (tickWatchdog b).clock.ticks = b.clock.ticks ∧
    (tickWatchdog b).clock.running = b.clock.running ∧ (tickWatchdog b).pins = b.pins ∧ (tickWatchdog b).pwr.rest = b.pwr.rest ∧
    (tickWatchdog b).act = b.act ∧ (tickWatchdog b).recs = b.recs ∧ (tickWatchdog b).out = b.out ∧ (tickWatchdog b).bist = b.bist ∧
    (tickWatchdog b).bal = b.bal ∧ (tickWatchdog b).cw = b.cw ∧ (tickWatchdog b).fen = b.fen ∧ (tickWatchdog b).cap = b.cap ∧
    (tickWatchdog b).spi = b.spi := by
  unfold tickWatchdog; simp
@[simp] theorem chainLayers_keeps (j : ChainJob) (b : Block) :
    (chainLayers j b).lc = b.lc ∧ (chainLayers j b).fw = b.fw ∧ (chainLayers j b).cfg = b.cfg ∧ (chainLayers j b).clock.ticks = b.clock.ticks ∧
    (chainLayers j b).clock.running = b.clock.running ∧ (chainLayers j b).pins = b.pins ∧ (chainLayers j b).pwr.rest = b.pwr.rest ∧
    (chainLayers j b).act = b.act ∧ (chainLayers j b).recs = b.recs ∧ (chainLayers j b).out = b.out ∧ (chainLayers j b).bist = b.bist ∧
    (chainLayers j b).bal = b.bal ∧ (chainLayers j b).cw = b.cw ∧ (chainLayers j b).cap = b.cap ∧ (chainLayers j b).spi = b.spi := by
  unfold chainLayers; simp
@[simp] theorem chainTick_keeps (x : ChainInput) (b : Block) :
    (chainTick x b).lc = b.lc ∧ (chainTick x b).fw = b.fw ∧ (chainTick x b).cfg = b.cfg ∧ (chainTick x b).clock.ticks = b.clock.ticks ∧
    (chainTick x b).clock.running = b.clock.running ∧ (chainTick x b).pins = b.pins ∧ (chainTick x b).pwr.rest = b.pwr.rest ∧
    (chainTick x b).act = b.act := by
  unfold chainTick; (try dsimp only); (repeat' split) <;> simp
@[simp] theorem chainLate_keeps (b : Block) :
    (chainLate b).lc = b.lc ∧ (chainLate b).fw = b.fw ∧ (chainLate b).cfg = b.cfg ∧ (chainLate b).clock.ticks = b.clock.ticks ∧
    (chainLate b).clock.running = b.clock.running ∧ (chainLate b).pins = b.pins ∧ (chainLate b).pwr.rest = b.pwr.rest ∧ (chainLate b).act = b.act ∧
    (chainLate b).recs = b.recs ∧ (chainLate b).out = b.out ∧ (chainLate b).bist = b.bist ∧ (chainLate b).bal = b.bal ∧ (chainLate b).cw = b.cw ∧
    (chainLate b).fen = b.fen ∧ (chainLate b).cap = b.cap ∧ (chainLate b).spi = b.spi := by
  unfold chainLate; (try dsimp only); (repeat' split) <;> simp
@[simp] theorem stageOverrun_keeps (stage : Nat) (b : Block) :
    (stageOverrun stage b).lc = b.lc ∧ (stageOverrun stage b).fw = b.fw ∧ (stageOverrun stage b).cfg = b.cfg ∧
    (stageOverrun stage b).clock.ticks = b.clock.ticks ∧ (stageOverrun stage b).clock.running = b.clock.running ∧
    (stageOverrun stage b).pins = b.pins ∧ (stageOverrun stage b).pwr.rest = b.pwr.rest ∧ (stageOverrun stage b).act = b.act ∧
    (stageOverrun stage b).recs = b.recs ∧ (stageOverrun stage b).out = b.out ∧ (stageOverrun stage b).bist = b.bist ∧
    (stageOverrun stage b).bal = b.bal ∧ (stageOverrun stage b).fen = b.fen ∧ (stageOverrun stage b).cap = b.cap ∧
    (stageOverrun stage b).spi = b.spi := by
  unfold stageOverrun; (try dsimp only); (repeat' split) <;> simp

end Sys2Proof.Machine
end

