-- ==== Sys2Proof/Laws/Maps.lean ====
section
/-! SUPPORT. The laws of the canonical map: a read after a write gives the value written, a write leaves every other key alone, and both keep the canonical
form. -/

namespace Sys2Proof.Machine

variable {α : Type}

theorem mapGet_mapErase (d : Nat → α) (m : List (Nat × α)) (k j : Nat) : mapGet d (mapErase m k) j = if j = k then d j else mapGet d m j := by
  induction m with
  | nil => simp [mapErase, mapGet]
  | cons x m ih =>
    obtain ⟨k', v'⟩ := x
    unfold mapErase at ih ⊢
    by_cases h : k' = k
    · subst h
      simp only [List.filter_cons, bne_self_eq_false, Bool.false_eq_true, if_false, ih, mapGet]
      split <;> simp_all
    · simp only [List.filter_cons, bne_iff_ne.mpr h, if_true, mapGet, ih]
      split <;> simp_all

/-- A read after a write, at the key written and at every other. -/
theorem mapGet_mapPut [DecidableEq α] (d : Nat → α) (m : List (Nat × α)) (k j : Nat) (v : α) :
    mapGet d (mapPut d m k v) j = if j = k then v else mapGet d m j := by
  induction m with
  | nil => unfold mapPut; split <;> simp_all [mapGet]
  | cons x m ih =>
    obtain ⟨k', v'⟩ := x
    unfold mapPut
    split
    · split
      · rename_i h1 h2
        simp only [mapGet, mapGet_mapErase]
        split
        · rename_i h3; subst h3; simp [Nat.ne_of_gt h1]
        · split <;> simp_all
      · simp [mapGet]
    · split
      · rename_i h1 h2
        subst h2
        split
        · simp only [mapGet, mapGet_mapErase]; split <;> simp_all
        · simp only [mapGet]; split <;> simp_all
      · rename_i h1 h2
        simp only [mapGet, ih]
        split
        · rename_i h3; subst h3; simp [Ne.symm h2]
        · rfl

@[simp] theorem mapGet_mapPut_same [DecidableEq α] (d : Nat → α) (m : List (Nat × α)) (k : Nat) (v : α) : mapGet d (mapPut d m k v) k = v := by
  simp [mapGet_mapPut]

theorem mapGet_mapPut_ne [DecidableEq α] (d : Nat → α) (m : List (Nat × α)) {k j : Nat} (v : α) (h : j ≠ k) :
    mapGet d (mapPut d m k v) j = mapGet d m j := by
  simp [mapGet_mapPut, h]

theorem mapWfFrom_mono [DecidableEq α] (d : Nat → α) (m : List (Nat × α)) {lo hi : Nat} (h : lo ≤ hi) (w : mapWfFrom d m hi = true) :
    mapWfFrom d m lo = true := by
  cases m with
  | nil => rfl
  | cons x m =>
    obtain ⟨k, v⟩ := x
    simp only [mapWfFrom, Bool.and_eq_true, decide_eq_true_eq] at w ⊢
    exact ⟨⟨Nat.le_trans h w.1.1, w.1.2⟩, w.2⟩

/-- In canonical form a key below the bound is not listed, so erasing it changes nothing. -/
theorem mapErase_below [DecidableEq α] (d : Nat → α) (m : List (Nat × α)) (k lo : Nat) (h : k < lo) (w : mapWfFrom d m lo = true) : mapErase m k = m := by
  induction m generalizing lo with
  | nil => rfl
  | cons x m ih =>
    obtain ⟨k', v'⟩ := x
    simp only [mapWfFrom, Bool.and_eq_true, decide_eq_true_eq] at w
    have hk : k < k' := Nat.lt_of_lt_of_le h w.1.1
    have := ih (k' + 1) (Nat.lt_succ_of_lt hk) w.2
    simp only [mapErase] at this ⊢
    rw [List.filter_cons_of_pos (by simp; omega), this]

theorem mapWfFrom_mapPut [DecidableEq α] (d : Nat → α) (m : List (Nat × α)) (k lo : Nat) (v : α) (h : lo ≤ k) (w : mapWfFrom d m lo = true) :
    mapWfFrom d (mapPut d m k v) lo = true := by
  induction m generalizing lo with
  | nil => unfold mapPut; split <;> simp_all [mapWfFrom]
  | cons x m ih =>
    obtain ⟨k', v'⟩ := x
    have w' := w
    simp only [mapWfFrom, Bool.and_eq_true, decide_eq_true_eq] at w'
    unfold mapPut
    split
    · rename_i hlt
      split
      · rw [mapErase_below d m k (k' + 1) (by omega) w'.2]; exact w
      · rename_i hv
        simp only [mapWfFrom, Bool.and_eq_true, decide_eq_true_eq]
        exact ⟨⟨h, hv⟩, ⟨⟨hlt, w'.1.2⟩, w'.2⟩⟩
    · split
      · rename_i hn he
        subst he
        split
        · rw [mapErase_below d m k (k + 1) (by omega) w'.2]; exact mapWfFrom_mono d m (by omega) w'.2
        · rename_i hv
          simp only [mapWfFrom, Bool.and_eq_true, decide_eq_true_eq]
          exact ⟨⟨w'.1.1, hv⟩, w'.2⟩
      · rename_i hn he
        simp only [mapWfFrom, Bool.and_eq_true, decide_eq_true_eq]
        exact ⟨w'.1, ih (k' + 1) (by omega) w'.2⟩

/-- A write keeps the canonical form. -/
theorem mapWf_mapPut [DecidableEq α] (d : Nat → α) (m : List (Nat × α)) (k : Nat) (v : α) (w : mapWf d m = true) : mapWf d (mapPut d m k v) = true :=
  mapWfFrom_mapPut d m k 0 v (Nat.zero_le k) w

end Sys2Proof.Machine
end

