-- ==== Sys2Proof/Laws/Regs.lean ====
section
/-! SUPPORT. The laws of bit fields and of registers: what a read finds after a write of a register or of one field. -/

namespace Sys2Proof.Machine

theorem bitsOf_setBitsOf (n lo len v : Nat) : bitsOf (setBitsOf n lo len v) lo len = v % 2 ^ len := by
  unfold bitsOf setBitsOf
  have hA : 0 < 2 ^ lo := Nat.two_pow_pos lo
  have e : n % 2 ^ lo + v % 2 ^ len * 2 ^ lo + n / 2 ^ (lo + len) * 2 ^ (lo + len)
      = n % 2 ^ lo + 2 ^ lo * (v % 2 ^ len + 2 ^ len * (n / 2 ^ (lo + len))) := by rw [Nat.pow_add]; ring
  rw [e, Nat.add_mul_div_left _ _ hA, Nat.div_eq_of_lt (Nat.mod_lt _ hA), Nat.zero_add, Nat.add_mul_mod_self_left, Nat.mod_mod]

theorem bitsOf_setBitsOf_below (n lo len v lo' len' : Nat) (h : lo' + len' ≤ lo) : bitsOf (setBitsOf n lo len v) lo' len' = bitsOf n lo' len' := by
  unfold bitsOf setBitsOf
  obtain ⟨k, rfl⟩ := Nat.exists_eq_add_of_le h
  have hP : 0 < 2 ^ lo' := Nat.two_pow_pos lo'
  have e : n % 2 ^ (lo' + len' + k) + v % 2 ^ len * 2 ^ (lo' + len' + k) + n / 2 ^ (lo' + len' + k + len) * 2 ^ (lo' + len' + k + len)
      = n % 2 ^ (lo' + (len' + k)) + 2 ^ lo' * (2 ^ len' * (2 ^ k * (v % 2 ^ len + n / 2 ^ (lo' + len' + k + len) * 2 ^ len))) := by
    rw [Nat.pow_add, Nat.pow_add, Nat.pow_add, ← Nat.add_assoc]; ring_nf
  rw [e, Nat.add_mul_div_left _ _ hP, Nat.add_mul_mod_self_left, Nat.pow_add 2 lo', Nat.mod_mul_right_div_self, Nat.pow_add 2 len',
    Nat.mod_mul_right_mod]

theorem bitsOf_setBitsOf_above (n lo len v lo' len' : Nat) (h : lo + len ≤ lo') : bitsOf (setBitsOf n lo len v) lo' len' = bitsOf n lo' len' := by
  unfold bitsOf setBitsOf
  obtain ⟨k, rfl⟩ := Nat.exists_eq_add_of_le h
  have hA : 0 < 2 ^ lo := Nat.two_pow_pos lo
  have hB : 0 < 2 ^ len := Nat.two_pow_pos len
  have hAB : 0 < 2 ^ (lo + len) := Nat.two_pow_pos _
  have lt : n % 2 ^ lo + v % 2 ^ len * 2 ^ lo < 2 ^ (lo + len) := by
    have h1 := Nat.mod_lt n hA
    have h2 : v % 2 ^ len + 1 ≤ 2 ^ len := Nat.mod_lt v hB
    have h3 := Nat.mul_le_mul_right (2 ^ lo) h2
    rw [Nat.pow_add, Nat.mul_comm (2 ^ lo)]
    rw [Nat.add_mul, Nat.one_mul] at h3
    omega
  rw [Nat.pow_add 2 (lo + len) k, ← Nat.div_div_eq_div_mul, Nat.add_mul_div_right _ _ hAB, Nat.div_eq_of_lt lt, Nat.zero_add, Nat.div_div_eq_div_mul]

theorem setBitsOf_lt (n lo len v w : Nat) (hn : n < 2 ^ w) (h : lo + len ≤ w) : setBitsOf n lo len v < 2 ^ w := by
  unfold setBitsOf
  have hA : 0 < 2 ^ lo := Nat.two_pow_pos lo
  have hB : 0 < 2 ^ len := Nat.two_pow_pos len
  obtain ⟨k, rfl⟩ := Nat.exists_eq_add_of_le h
  have h1 := Nat.mod_lt n hA
  have h2 : v % 2 ^ len + 1 ≤ 2 ^ len := Nat.mod_lt v hB
  have h3 : n / 2 ^ (lo + len) + 1 ≤ 2 ^ k := Nat.div_lt_of_lt_mul (by rwa [← Nat.pow_add])
  have h4 := Nat.mul_le_mul_right (2 ^ lo) h2
  have h5 := Nat.mul_le_mul_right (2 ^ (lo + len)) h3
  rw [Nat.add_mul, Nat.one_mul] at h4 h5
  rw [← Nat.pow_add, Nat.add_comm len lo] at h4
  rw [← Nat.pow_add, Nat.add_comm k] at h5
  omega

@[simp] theorem w32_toNat (n : Nat) : (w32 n).toNat = n % 2 ^ 32 := by simp [w32]

@[simp] theorem getR_setR (a : Nat) (w : Word) (b : Block) : getR (setR a w b) a = w := mapGet_mapPut_same _ _ _ _

theorem getR_setR_ne {a a' : Nat} (w : Word) (b : Block) (h : a' ≠ a) : getR (setR a w b) a' = getR b a' := mapGet_mapPut_ne _ _ _ h

theorem getR_setR_ite (a a' : Nat) (w : Word) (b : Block) : getR (setR a w b) a' = if a' = a then w else getR b a' := mapGet_mapPut _ _ _ _ _

theorem getR_setF_ne {a : Nat} (f : Fld) (v : Nat) (b : Block) (h : a ≠ f.reg) : getR (setF f v b) a = getR b a := getR_setR_ne _ _ h

theorem getR_setF (f : Fld) (v : Nat) (b : Block) : getR (setF f v b) f.reg = w32 (setBitsOf (getR b f.reg).toNat f.lo f.len v) := getR_setR _ _ _

theorem getR_setF_toNat (f : Fld) (v : Nat) (b : Block) (h : f.lo + f.len ≤ 32) :
    (getR (setF f v b) f.reg).toNat = setBitsOf (getR b f.reg).toNat f.lo f.len v := by
  rw [getR_setF, w32_toNat, Nat.mod_eq_of_lt (setBitsOf_lt _ _ _ _ _ (getR b f.reg).isLt h)]

/-- The field written reads as written. -/
theorem getF_setF (f : Fld) (v : Nat) (b : Block) (h : f.lo + f.len ≤ 32) : getF (setF f v b) f = v % 2 ^ f.len := by
  unfold getF; rw [getR_setF_toNat f v b h, bitsOf_setBitsOf]

/-- A field of another register is unchanged. -/
theorem getF_setF_ne (f g : Fld) (v : Nat) (b : Block) (h : g.reg ≠ f.reg) : getF (setF f v b) g = getF b g := by
  unfold getF; rw [getR_setF_ne f v b h]

/-- A field of the same register beside the one written is unchanged. -/
theorem getF_setF_beside (f g : Fld) (v : Nat) (b : Block) (h : f.lo + f.len ≤ 32) (e : g.reg = f.reg)
    (d : g.lo + g.len ≤ f.lo ∨ f.lo + f.len ≤ g.lo) : getF (setF f v b) g = getF b g := by
  unfold getF; rw [e, getR_setF_toNat f v b h]
  rcases d with d | d
  · exact bitsOf_setBitsOf_below _ _ _ _ _ _ d
  · exact bitsOf_setBitsOf_above _ _ _ _ _ _ d

theorem getF_setR_ne (f : Fld) (a : Nat) (w : Word) (b : Block) (h : f.reg ≠ a) : getF (setR a w b) f = getF b f := by
  unfold getF; rw [getR_setR_ne w b h]

theorem getF_setR (f : Fld) (w : Word) (b : Block) : getF (setR f.reg w b) f = bitsOf w.toNat f.lo f.len := by unfold getF; rw [getR_setR]

/-- A register write changes the word at its own offset alone. -/
theorem getR_writeBits_ne {a a' : Nat} (v : Word) (b : Block) (h : a' ≠ a) : getR (writeBits a v b) a' = getR b a' := by
  unfold writeBits; split
  · rfl
  · exact getR_setR_ne _ _ h

theorem bitsOf_testBit (n lo len i : Nat) : (bitsOf n lo len).testBit i = (decide (i < len) && n.testBit (lo + i)) := by
  unfold bitsOf; rw [Nat.testBit_mod_two_pow, Nat.testBit_div_two_pow, Nat.add_comm]

theorem bitsOf_and (m n lo len : Nat) : bitsOf (m &&& n) lo len = bitsOf m lo len &&& bitsOf n lo len := by
  apply Nat.eq_of_testBit_eq; intro i
  simp only [bitsOf_testBit, Nat.testBit_and]; cases decide (i < len) <;> simp

theorem bitsOf_or (m n lo len : Nat) : bitsOf (m ||| n) lo len = bitsOf m lo len ||| bitsOf n lo len := by
  apply Nat.eq_of_testBit_eq; intro i
  simp only [bitsOf_testBit, Nat.testBit_or]; cases decide (i < len) <;> simp

theorem bitsOf_not (m lo len : Nat) (h : lo + len ≤ 32) : bitsOf (0xFFFFFFFF ^^^ m) lo len = (2 ^ len - 1) ^^^ bitsOf m lo len := by
  apply Nat.eq_of_testBit_eq; intro i
  have e : (0xFFFFFFFF : Nat) = 2 ^ 32 - 1 := rfl
  simp only [bitsOf_testBit, Nat.testBit_xor, e, Nat.testBit_two_pow_sub_one]
  by_cases k : i < len
  · have : lo + i < 32 := by omega
    simp [k, this]
  · simp [k]

theorem bitsOf_lt (n lo len : Nat) : bitsOf n lo len < 2 ^ len := Nat.mod_lt _ (Nat.two_pow_pos _)

theorem and_full (n len : Nat) (h : n < 2 ^ len) : n &&& (2 ^ len - 1) = n := by rw [Nat.and_two_pow_sub_one_eq_mod, Nat.mod_eq_of_lt h]

/-- A field of a register through the write of R12: RW and RWS bits take the word, W1C bits written 1 clear, the rest stay. -/
theorem getF_writeBits {a : Nat} (f : Fld) (v : Word) (b : Block) (r : RegRow) (ea : f.reg = a) (h : regRow a = some r) (k : f.lo + f.len ≤ 32) :
    getF (writeBits a v b) f =
      ((getF b f &&& ((2 ^ f.len - 1) ^^^ bitsOf (r.rw ||| r.rws) f.lo f.len)) ||| (bitsOf v.toNat f.lo f.len &&& bitsOf (r.rw ||| r.rws) f.lo f.len))
        &&& ((2 ^ f.len - 1) ^^^ (bitsOf v.toNat f.lo f.len &&& bitsOf r.w1c f.lo f.len)) := by
  subst ea
  have e : writeBits f.reg v b = setR f.reg (w32 ((((getR b f.reg).toNat &&& (0xFFFFFFFF ^^^ (r.rw ||| r.rws))) ||| (v.toNat &&& (r.rw ||| r.rws)))
      &&& (0xFFFFFFFF ^^^ (v.toNat &&& r.w1c)))) b := by unfold writeBits; rw [h]
  have lt : (((getR b f.reg).toNat &&& (0xFFFFFFFF ^^^ (r.rw ||| r.rws))) ||| (v.toNat &&& (r.rw ||| r.rws)))
      &&& (0xFFFFFFFF ^^^ (v.toNat &&& r.w1c)) < 2 ^ 32 := by
    refine Nat.lt_of_le_of_lt Nat.and_le_left (Nat.or_lt_two_pow ?_ ?_)
    · exact Nat.lt_of_le_of_lt Nat.and_le_left (getR b f.reg).isLt
    · exact Nat.lt_of_le_of_lt Nat.and_le_left v.isLt
  rw [e, getF_setR, w32_toNat, Nat.mod_eq_of_lt lt]
  rw [bitsOf_and, bitsOf_or, bitsOf_and, bitsOf_and, bitsOf_not _ _ _ k, bitsOf_not _ _ _ k, bitsOf_and]
  rfl

/-- A field of RW or RWS bits takes the word written. -/
theorem getF_writeBits_rw {a : Nat} (f : Fld) (v : Word) (b : Block) (r : RegRow) (ea : f.reg = a) (h : regRow a = some r) (k : f.lo + f.len ≤ 32)
    (h1 : bitsOf (r.rw ||| r.rws) f.lo f.len = 2 ^ f.len - 1) (h2 : bitsOf r.w1c f.lo f.len = 0) :
    getF (writeBits a v b) f = bitsOf v.toNat f.lo f.len := by
  rw [getF_writeBits f v b r ea h k, h1, h2, and_full _ _ (bitsOf_lt _ _ _)]
  simp [and_full _ _ (bitsOf_lt v.toNat f.lo f.len)]

/-- A field with no writable bit is unchanged. -/
theorem getF_writeBits_ro {a : Nat} (f : Fld) (v : Word) (b : Block) (r : RegRow) (ea : f.reg = a) (h : regRow a = some r) (k : f.lo + f.len ≤ 32)
    (h1 : bitsOf (r.rw ||| r.rws) f.lo f.len = 0) (h2 : bitsOf r.w1c f.lo f.len = 0) :
    getF (writeBits a v b) f = getF b f := by
  have l : getF b f < 2 ^ f.len := bitsOf_lt _ _ _
  rw [getF_writeBits f v b r ea h k, h1, h2]
  simp [and_full _ _ l]

/-- A W1C bit clears where the word has a 1 and else stays. -/
theorem getF_writeBits_w1c {a : Nat} (f : Fld) (v : Word) (b : Block) (r : RegRow) (ea : f.reg = a) (h : regRow a = some r) (k : f.lo + f.len ≤ 32) (l : f.len = 1)
    (h1 : bitsOf (r.rw ||| r.rws) f.lo f.len = 0) (h2 : bitsOf r.w1c f.lo f.len = 1) :
    getF (writeBits a v b) f = if bitsOf v.toNat f.lo f.len = 1 then 0 else getF b f := by
  have l1 : getF b f < 2 ^ f.len := bitsOf_lt _ _ _
  have l2 : bitsOf v.toNat f.lo f.len < 2 ^ f.len := bitsOf_lt _ _ _
  rw [getF_writeBits f v b r ea h k, h1, h2]
  generalize getF b f = x at *; generalize bitsOf v.toNat f.lo f.len = y at *
  rw [l] at *
  have hx : x = 0 ∨ x = 1 := by omega
  have hy : y = 0 ∨ y = 1 := by omega
  rcases hx with rfl | rfl <;> rcases hy with rfl | rfl <;> rfl

/-- A field that lies outside the bits rewritten reads as before. -/
theorem bitsOf_w32_setBitsOf (n lo len v lo' len' : Nat) (hn : n < 2 ^ 32) (h : lo + len ≤ 32) (d : lo' + len' ≤ lo ∨ lo + len ≤ lo') :
    bitsOf (w32 (setBitsOf n lo len v)).toNat lo' len' = bitsOf n lo' len' := by
  rw [w32_toNat, Nat.mod_eq_of_lt (setBitsOf_lt _ _ _ _ _ hn h)]
  rcases d with d | d
  · exact bitsOf_setBitsOf_below _ _ _ _ _ _ d
  · exact bitsOf_setBitsOf_above _ _ _ _ _ _ d
end Sys2Proof.Machine
end

