-- ==== Sys2Proof/Tests/Slice0.lean ====
section
/-! SUPPORT. Own tests: a term that each check of WellFormed refuses, for each statement states and operands that meet its hypotheses (`witness_…`, clause by clause), and
small tests of single commands whose expected results are worked out from the spec's words. -/

namespace Sys2Proof.Tests

set_option Elab.async false

open Sys2Proof Sys2Proof.Machine

/-! States. -/

/-- A block in RUN, every register at reset. -/
def rb : Block := { pwr := { state := .run, resetHold := false, fwReady := true } }

/-- The block at device frame `n`. -/
def at_ (n : Nat) (b : Block) : Block := { b with clock := { b.clock with ticks := 512 * n, running := true } }

/-- The block in another power state. -/
def inState (p : PowerState) (b : Block) : Block := { b with pwr := { b.pwr with state := p } }

/-- The block in another life-cycle state, in force. -/
def living (l : Life) (b : Block) : Block := { b with lc := { b.lc with life := l, acting := l } }

/-- A block whose PCIe link is up with DMA on and whose ring 0 has one descriptor to start. -/
def cb : Block := { rb with
  hst := { linkUp := true, inReset := false, bme := true, dbEn := true, spEn := true, sq := [(0, { en := true, pi := 1 })], cq := [(0, { en := true })] } }

/-- A descriptor with nothing but zeros. -/
def d0 : Desc := ⟨0, 0, 0, 0, 0, 0, 0, 0, false⟩

/-- The root of a wired chain with a follower at address 1. -/
def root : Block := setF F.CW_STATUS_ROLE_ACT 1 { rb with lc := { keyCw := some [] }, cw := { mode := 1, nodes := [1], modules := 1 } }

/-- A wired follower with address 1. -/
def follower : Block := setF F.CW_STATUS_ADDR 1 (setF F.CW_STATUS_ROLE_ACT 2 { rb with lc := { keyCw := some [] }, cw := { mode := 1, root := false } })

/-- A block with a measured, available tier 0. -/
def fed : Block := { rb with fe := { started := true }, bw := { numbered := List.range 16 } }

/-- A block with a model image in force and the full layer enabled. -/
def modelled : Block := setF F.FEN_STATUS_IMG_VALID 1 (setF F.FEN_CTL_FULL_EN 1 rb)

/-! A term each check of WellFormed refuses. -/

theorem test_refuses_enum_tiers : Instr.wf (.bwReenum 0 { foot := 16, head := 1, ids := List.replicate 16 0 }) = false := by decide +kernel
theorem test_refuses_enum_ids : Instr.wf (.bwReenum 0 { foot := 16, head := 0, ids := [] }) = false := by decide +kernel
theorem test_refuses_cw_enum : Instr.wf (.cwReenum 0 { north := 20, whole := false, unas := 0, south := 20, ids := List.replicate 31 0 }) = false := by decide +kernel
theorem test_refuses_cw_ids : Instr.wf (.cwReenum 0 { north := 1, whole := true, unas := 0, south := 0, ids := [] }) = false := by decide +kernel

/-- An enumeration that numbers all sixteen tiers from the foot. -/
def e16 : EnumResult := { foot := 16, head := 0, ids := List.replicate 16 0 }

/-- An enumeration of the Causeway that finds one follower. -/
def cw1 : CwEnum := { north := 1, whole := true, unas := 0, south := 0, ids := List.replicate 31 7 }

/-- A boot that finds nothing wrong. -/
def bi : BootInput := { frames := 4000, rom := false, tests := [], enum := e16, delays := [], cw := cw1, safeIn := false, bootsel := 2 }

/-- A wake after one second in PARK. -/
def wi : WakeInput := { parked := 20000, frames := 1000, others := [], enum := e16, delays := [], cw := cw1 }

/-- The result of a self-test that passes. -/
def pass : TestResult := { target := 0, engine := 1, fail := false, rows := [], addr := 0, row := 0, bit := 0, count := 0, sig := 0, recFail := false }

theorem test_accepts_boot : Instr.wf (.boot bi) = true := by decide +kernel
theorem test_refuses_boot_frames : Instr.wf (.boot { bi with frames := 4001 }) = false := by decide +kernel
theorem test_refuses_boot_early : Instr.wf (.boot { bi with frames := 3957 }) = false := by decide +kernel
theorem test_refuses_scan : Instr.wf (.jtagAccess (.extest [])) = false := by decide +kernel
theorem test_refuses_boot_target : Instr.wf (.boot { bi with tests := [{ pass with target := 0x16 }] }) = false := by decide +kernel
theorem test_refuses_boot_engine : Instr.wf (.bistRunEnd { pass with engine := 4 }) = false := by decide +kernel
theorem test_refuses_boot_delays : Instr.wf (.boot { bi with delays := [⟨2, 0, 0, 0⟩, ⟨2, 0, 0, 0⟩] }) = false := by decide +kernel
theorem test_accepts_wake : Instr.wf (.wakeInWake wi) = true := by decide +kernel
theorem test_refuses_wake_frames : Instr.wf (.wakeTimerExpiry { wi with frames := 1001 }) = false := by decide +kernel
theorem test_refuses_wake_delays : Instr.wf (.hostWake false { wi with delays := [⟨0, 0, 0, 0⟩, ⟨0, 0, 0, 0⟩] }) = false := by decide +kernel
theorem test_refuses_park_wake : Instr.wf (.parkEntry none { wi with frames := 1001 }) = false := by decide +kernel
theorem test_refuses_chain_avg : Instr.wf (.chainTick ⟨List.replicate 193 0, List.replicate 192 0⟩) = false := by decide +kernel
theorem test_refuses_chain_vds : Instr.wf (.chainTick ⟨List.replicate 194 0, []⟩) = false := by decide +kernel
theorem test_refuses_fetch_words : Instr.wf (.doorbellFetch (some []) []) = false := by decide +kernel
theorem test_refuses_fetch_repeat : Instr.wf (.doorbellFetch none [1, 1]) = false := by decide +kernel
theorem test_refuses_block_channels : Instr.wf (.tierResultBlock 0 ⟨false, none, false, [], List.replicate 12 (List.replicate 8 0)⟩) = false := by decide +kernel
theorem test_refuses_block_samples : Instr.wf (.tierResultBlock 1 ⟨false, none, false, [], List.replicate 12 (List.replicate 7 0)⟩) = false := by decide +kernel
theorem test_accepts_block : Instr.wf (.tierResultBlock 1 ⟨false, none, false, [], List.replicate 12 (List.replicate 8 0)⟩) = true := by decide +kernel
theorem test_refuses_aux_ratio : Instr.wf (.auxConversionDone [⟨0, 65537, 0, 0, 0, 0, 0⟩]) = false := by decide +kernel
theorem test_refuses_aux_repeat : Instr.wf (.auxConversionDone [⟨0, 0, 0, 0, 0, 0, 0⟩, ⟨0, 0, 0, 0, 0, 0, 0⟩]) = false := by decide +kernel
theorem test_refuses_codes : Instr.wf (.filterOutput []) = false := by decide +kernel
theorem test_refuses_check_sar : Instr.wf (.checkConversion [⟨0, [], List.replicate 8 0⟩]) = false := by decide +kernel
theorem test_refuses_check_sd : Instr.wf (.checkConversion [⟨0, List.replicate 8 0, []⟩]) = false := by decide +kernel
theorem test_refuses_cross_repeat : Instr.wf (.checkRefCross [⟨0, 0⟩, ⟨0, 0⟩]) = false := by decide +kernel
theorem test_refuses_fine_repeat : Instr.wf (.fineAlignmentApply [⟨1, 0, 0, 0⟩, ⟨1, 0, 0, 0⟩]) = false := by decide +kernel
theorem test_refuses_align_repeat : Instr.wf (.tierAlignment [⟨1, 0, 0, 0⟩, ⟨1, 0, 0, 0⟩]) = false := by decide +kernel
theorem test_refuses_point_refs : Instr.wf (.impPointEnd (List.replicate 17 []) []) = false := by decide +kernel
theorem test_refuses_point_repeat : Instr.wf (.impPointEnd [] [⟨0, [], [], false⟩, ⟨0, [], [], false⟩]) = false := by decide +kernel
theorem test_refuses_refit_repeat : Instr.wf (.adaptRebuildDone [⟨0, []⟩, ⟨0, []⟩] true) = false := by decide +kernel
theorem test_refuses_tag_attempts : Instr.wf (.reedlineCycle [⟨0, [], 0, 0, 0, [⟨[]⟩], false, false⟩]) = false := by decide +kernel
theorem test_refuses_tag_bytes : Instr.wf (.reedlineCycle [⟨0, [], 0, 0, 0, [⟨[some []]⟩], false, false⟩]) = false := by decide +kernel
theorem test_refuses_string_convert : Instr.wf (.reedlineCycle [⟨0, [], 0, 0, 3, [], false, false⟩]) = false := by decide +kernel
theorem test_refuses_walk_bytes : Instr.wf (.reedlineCycle [⟨0, [⟨[], [0, 0]⟩], 0, 0, 0, [], false, false⟩]) = false ∧
    Instr.wf (.reedlineCycle [⟨0, [⟨List.replicate 7 0, []⟩], 0, 0, 0, [], false, false⟩]) = false := by decide +kernel
theorem test_refuses_hop : Instr.wf (.cwHopBreak 64 true) = false ∧ Instr.wf (.cwHopTraining 64 0 0) = false := by decide +kernel
theorem test_refuses_cw_tag : Instr.wf (.cwTagReceive 1 1 [] [0, 0, 0]) = false ∧ Instr.wf (.chainRecordReceive ⟨1, 0, [], false, [], 0⟩) = false ∧
    Instr.wf (.cwEnumToken false 1 ⟨1, 0, ⟨[], 0⟩⟩) = false := by decide +kernel
theorem test_refuses_packet : Instr.wf (.radioPacketReceive []) = false := by decide +kernel
theorem test_refuses_forward_none : Instr.wf (.forwardRequest ⟨1, [], ⟨[0, 0, 0, 0], 0⟩⟩) = false := by decide +kernel
theorem test_refuses_forward_unaligned : Instr.wf (.forwardRequest ⟨1, [(true, 2, 0)], ⟨[0, 0, 0, 0], 0⟩⟩) = false := by decide +kernel
theorem test_refuses_response : Instr.wf (.forwardResponse 1 none ⟨false, 17, []⟩ ⟨[0, 0, 0, 0], 0⟩) = false ∧ Instr.wf (.forwardResponse 1 none ⟨false, 0, [0]⟩ ⟨[0, 0, 0, 0], 0⟩) = false := by decide +kernel
theorem test_refuses_spi_write : Instr.wf (.spiWrite 0 0 [] 0 0) = false ∧ Instr.wf (.spiWriteFixed 0 0 [] 0 0) = false := by decide +kernel
theorem test_refuses_half : Instr.wf (.lowHalfRead .spi 1) = false ∧ Instr.wf (.highHalfRead .spi 3) = false := by decide +kernel
theorem test_refuses_domain : Instr.wf (.blockReset (.fe 16) false) = false ∧ Instr.wf (.blockReset (.rl 16) false) = false := by decide +kernel
theorem test_refuses_register : Instr.wf (.registerWrite .spi 1 0) = false := by decide +kernel
theorem test_refuses_speed : Instr.wf (.pcieLinkUp 0 false) = false := by decide +kernel
theorem test_refuses_opcode : Instr.wf (.unknownOpcodeDescriptor 0 1 d0) = false ∧ Instr.wf (.unknownOpcodeDescriptor 0 0x0F d0) = true := by decide +kernel

/-! Witnesses: the machine and power. -/

theorem witness_step : step ⟨rb, [.hstDbbTime]⟩ = exec .hstDbbTime ⟨rb, []⟩ ∧ step State.reset = .next State.reset := ⟨rfl, rfl⟩
theorem witness_inv_step : RetiredClean State.reset.block ∧ ∃ t, step State.reset = .next t :=
  ⟨⟨⟨by decide +kernel, rfl, by decide +kernel⟩, fun h => absurd h (by decide)⟩, ⟨_, rfl⟩⟩
theorem witness_CapabilitiesAtTick : framesRun rb = true ∧ ∃ c, exec .lcNewChallenge ⟨rb, []⟩ = .next ⟨c, []⟩ := ⟨rfl, _, rfl⟩
theorem witness_TimestampOnward : ∃ c, exec (.frameTick 0) ⟨State.reset.block, []⟩ = .next ⟨c, []⟩ := ⟨_, rfl⟩
theorem witness_ModuleResets : rb.pwr.state ≠ .off ∧ ({ rb with sl := { chipOwed := true, wd := 4 } } : Block).sl.chipOwed = true ∧
    4 ≤ ({ rb with sl := { chipOwed := true, wd := 4 } } : Block).sl.wd ∧ rb.sl.chipOwed = false ∧ ({ rb with sl := { wd := 3 } } : Block).sl.wd < 4 := by
  decide +kernel
theorem witness_FirmwareChoice : firmwarePick State.reset.block = some 0 ∧ firmwareOk State.reset.block 0 = true ∧
    firmwarePick { rb with fw := { copies := [] } } = none := by decide +kernel
theorem witness_BootOutcome : State.reset.block.pwr.state = .boot ∧ State.reset.block.pwr.halted = false ∧ State.reset.block.pwr.resetHold = true ∧
    State.reset.block.pwr.fwReady = false ∧ bi.stage = .finish ∧ bi.rom = false ∧ bootFatal bi (bootLands bi State.reset.block) = false ∧
    firmwarePick State.reset.block = some 0 ∧
    bootFatal { bi with tests := [{ pass with target := 0x13, fail := true }] } (bootLands bi State.reset.block) = true := by decide +kernel

/-- A block in the entry to PARK. -/
def parking : Block := { rb with pwr := { state := .park, parking := true } }

/-- A complete PARK with every wake source enabled. -/
def parked : Block := setR R.PWR_WAKE_CTL 15 (setR R.PWR_WAKE_TIMER 1 { rb with pwr := { state := .park, parked := true }, pins := { bootsel := 0 } })

theorem witness_ParkEntered : parking.pwr.state = .park ∧ parking.pwr.parking = true ∧ parking.cfg.requested = false ∧ parking.cfg.captured = none ∧
    parking.pwr.wakes = [] ∧ ({ parking with cfg := { requested := true } } : Block).cfg.requested = true := by decide +kernel
theorem witness_WakesReachRun : getF parked ⟨R.PWR_WAKE_CTL, 0, 1⟩ = 1 ∧ getF parked ⟨R.PWR_WAKE_CTL, 1, 1⟩ = 1 ∧ getF parked ⟨R.PWR_WAKE_CTL, 2, 1⟩ = 1 ∧
    getR parked R.PWR_WAKE_TIMER ≠ 0 ∧ (getR parked R.PWR_WAKE_TIMER).toNat * 20000 ≤ wi.parked ∧ parked.pwr.parked = true ∧
    wi.parked < (getR (setR R.PWR_WAKE_TIMER 2 parked) R.PWR_WAKE_TIMER).toNat * 20000 ∧ getF (setR R.PWR_WAKE_CTL 0 rb) ⟨R.PWR_WAKE_CTL, 0, 1⟩ = 0 ∧ getF parked F.PWR_WAKE_CTL_EN_HOST = 1 ∧
    parked.pwr.state = .park ∧ parked.pins.perstN = false ∧ spiActive parked = true ∧ getF (setR R.PWR_WAKE_CTL 0 rb) F.PWR_WAKE_CTL_EN_HOST = 0 := by decide +kernel
theorem witness_WakesReachRun_latch : getF (setR R.PWR_WAKE_CTL 15 parking) ⟨R.PWR_WAKE_CTL, 2, 1⟩ = 1 ∧ parking.pwr.parked = false ∧
    parking.pwr.parking = true := by decide +kernel
theorem witness_ParkRequestRefusal : rb.pwr.state = .run ∧ rb.pwr.parking = false ∧ getF (setR R.PWR_WAKE_CTL 15 rb) F.PWR_WAKE_CTL_EN_WAKE_IN = 1 ∧
    getF (setR R.PWR_WAKE_CTL 0 rb) F.PWR_WAKE_CTL_EN_WAKE_IN = 0 ∧ getF (setR R.PWR_WAKE_CTL 0 rb) F.PWR_WAKE_CTL_EN_CW = 0 ∧ getF (setR R.PWR_WAKE_CTL 0 rb) F.PWR_WAKE_CTL_EN_HOST = 0 ∧ getR rb R.PWR_WAKE_TIMER = 0 := by
  decide +kernel
theorem witness_RunStandbyRequests : rb.pwr.parking = false ∧ (inState .standby rb).pwr.state = .standby ∧ (inState .safe rb).pwr.state = .safe ∧
    safeHeld (inState .safe rb) = false ∧ safeHeld { inState .safe rb with pins := { safeIn := true } } = true ∧ rb.pwr.state = .run := by decide +kernel
theorem witness_LifeCycleRequests : ready rb = true ∧ (1 : BitVec 4) ≠ 0xF ∧ getF (setF F.LC_STATE_LOCKED 1 rb) F.LC_STATE_LOCKED = 1 ∧
    getF rb F.LC_STATE_LOCKED = 0 ∧ rb.lc.life = rb.lc.acting ∧ (lifeOf 9).bind (lifeStep rb.lc.life) = none := by decide +kernel
theorem witness_LifeCycleRequests_open : lifeOf (lifeCode .provisioned) = some .provisioned ∧ lifeStep .factory .provisioned = some false ∧
    (living .provisioned rb).lc.life = .provisioned ∧ (living .provisioned rb).lc.keySvc = none ∧ lifeStep .field .service = some true := by decide +kernel
theorem witness_LifeCycleRequests_failed : ¬ challengeMet rb .service := fun h => by cases h.1
theorem witness_LifeCycleKeys : rb.lc.acting = .factory ∧ rb.lc.life ≠ .retired ∧ (living .service rb).lc.acting = .service ∧
    (living .field rb).lc.acting = .field ∧ (living .retired rb).lc.life = .retired := by decide +kernel
theorem witness_ConfigurationCommit : ready rb = true ∧ rb.lc.acting ≠ .retired ∧ rb.lc.life ≠ .retired ∧ rb.cfg.captured = none ∧ rb.pwr.parking = false ∧
    (living .retired rb).lc.acting = .retired ∧ ready parking = true ∧ parking.pwr.parking = true ∧ canStart cb 0 = true ∧ d0.resvd = 0 ∧ d0.p0 = 0 ∧
    d0.addr = 0 ∧ tail0 d0 = true := by decide +kernel
theorem witness_ConfigurationCommit_end : ({ rb with cfg := { requested := true } } : Block).cfg.requested = true ∧ framesRun rb = true ∧
    ({ rb with cfg := { captured := some [] } } : Block).cfg.captured = some [] ∧ rb.led.flushing = none := by decide +kernel
theorem witness_FirmwareUpdate : canStart cb 0 = true ∧ d0.resvd = 0 ∧ d0.p0.toNat < 2 ∧ badAddr d0.addr = false ∧ d0.p3 = 0 ∧ d0.p4 = 0 ∧
    d0.p1.toNat % 4 = 0 ∧ d0.p2.toNat % 4 = 0 ∧ ({ d0 with p2 := 524288 } : Desc).p1.toNat + ({ d0 with p2 := 524288 } : Desc).p2.toNat ≤ 524288 ∧
    cb.lc.acting ≠ .retired ∧ ([] : List Word).length = d0.p2.toNat / 4 ∧ cb.fw.running < 2 ∧ cb.fw.copies.length = 2 ∧
    ({ d0 with p0 := 1 } : Desc).p0.toNat = 1 := by decide +kernel

/-! Witnesses: Sluice, frames, host. -/

theorem witness_DetectorConditions : rb.pwr.parked = false ∧ parked.pwr.parked = true ∧ rb.pwr.state = .run := by decide +kernel
theorem witness_StickyAndInjection : ready rb = true ∧ bitOf (1 : Word).toNat 0 = true ∧ sticky (setR (R.SL_STICKY 0) 1 rb) 0 = true ∧
    arrBit (setR (R.SL_LIVE 0) 1 rb) (R.SL_LIVE 0) 0 = true ∧ arrBit rb (R.SL_LIVE 0) 0 = false ∧ rb.lc.acting = .factory ∧
    (living .field rb).lc.acting ≠ .factory ∧ (1 : Word) ≠ 0 := by decide +kernel
theorem witness_FrameTick : framesRun rb = true ∧ framesRun State.reset.block = false ∧ 3 ≤ ({ rb with sl := { wd := 3 } } : Block).sl.wd := by decide +kernel

/-- A chain tick whose work is owed, its averages formed or not. -/
def chain (formed : Bool) : Block := { rb with fe := { jobs := [{ dev := 20, frameNo := 20, set := [], notch := [], formed }] } }

theorem witness_FrameTick_chain : frameOfs (at_ 19 rb) = 0 ∧ (at_ 19 rb).cw.jumpAt ≠ some (devF (at_ 19 rb) + 1) ∧ (frame (at_ 19 rb) + 1) % 2 ^ 55 % 20 = 0 := by decide +kernel
theorem witness_ChainTick : framesRun (chain false) = true ∧ (chain true).fe.jobs.head?.map (·.formed) = some true ∧
    (chain false).fe.jobs.head?.map (·.formed) = some false ∧ rb.fe.jobs = [] := by decide +kernel
theorem witness_SluiceEvaluation : framesRun (at_ 1 rb) = true ∧ (at_ 1 rb).sl.wdExpired = false ∧ (at_ 1 rb).fe.since < devF (at_ 1 rb) ∧ devF rb ≤ rb.fe.since ∧
    (at_ 1 rb).sl.evalLate = [] ∧ (at_ 1 rb).sl.evalAt ≠ devF (at_ 1 rb) + 1 ∧
    ({ at_ 1 rb with sl := { evalLate := [[]] } } : Block).sl.evalLate = [[]] ∧ ({ at_ 1 rb with sl := { evalAt := 2 } } : Block).sl.evalAt = devF { at_ 1 rb with sl := { evalAt := 2 } } + 1 ∧ getR (setR R.GEN_OVR_STATUS 1 rb) R.GEN_OVR_STATUS ≠ 0 ∧
    ({ rb with sl := { wdExpired := true } } : Block).sl.wdExpired = true := by decide +kernel
theorem witness_EmitAndOverruns : framesRun rb = true ∧ jumped rb = false ∧ rb.clock.emitLate = [] ∧
    ({ rb with clock := { emitLate := [⟨[], []⟩] } } : Block).clock.emitLate = [⟨[], []⟩] ∧ ({ rb with carry := [⟨1, 0, false, false, false, 0, 0, []⟩] } : Block).carry ≠ [] ∧
    rb.clock.emitAt ≠ devF rb + 1 ∧ (∀ e, e ∈ rb.sl.events → e.code = 0x10 → e.frame = frame rb → bitOf e.v0 2 = false) ∧
    ({ rb with clock := { emitAt := 1 } } : Block).clock.emitAt = devF { rb with clock := { emitAt := 1 } } + 1 ∧ rb.clock.ovrFrame ≠ frame rb + 1 ∧
    ({ rb with clock := { ovrFrame := 1 } } : Block).clock.ovrFrame = frame { rb with clock := { ovrFrame := 1 } } + 1 ∧ fed.fe.started = true ∧
    ({ rb with hst := { fetch := true } } : Block).hst.fetch = true ∧ (chain true).fe.jobs ≠ [] := by decide +kernel
theorem witness_EndpointResets : pcieUp cb = true ∧ pcieUp rb = false ∧ rb.pwr.parked = false ∧ (3 : BitVec 2) ≠ 0 ∧ cb.hst.inReset = false ∧
    pcieActive cb = true ∧ awake cb = true ∧ cb.pwr.parked = false ∧ cb.pwr.halted = false ∧ (inState .standby cb).pwr.state = .standby ∧ pcieUp (inState .standby cb) = true ∧
    cb.pwr.state ≠ .standby := by decide +kernel
theorem witness_ConfigurationRequests : pcieUp (at_ 2000 cb) = true ∧ (at_ 2000 cb).hst.perstAt + 2000 ≤ devF (at_ 2000 cb) ∧ cb.pwr.fwReady = true ∧
    ({ at_ 2000 cb with pwr := { cb.pwr with state := .boot, fwReady := false } } : Block).pwr.fwReady = false ∧
    pcieUp { at_ 2000 cb with pwr := { cb.pwr with state := .boot, fwReady := false } } = true ∧ pcieUp rb = false ∧ devF cb < cb.hst.perstAt + 2000 ∧
    cb.hst.inReset = false ∧ pcieActive cb = true ∧ dmaSuspended { cb with hst := { cb.hst with bme := false } } = true ∧ dmaSuspended cb = false := by decide +kernel

/-- A due doorbell fetch. -/
def due : Block := { cb with hst := { cb.hst with fetch := true } }

theorem witness_Doorbells : pcieUp cb = true ∧ ready cb = true ∧ pcieUp rb = false ∧ framesRun due = true ∧ pcieActive due = true ∧ pagesOn due = true ∧
    dmaOff due = false ∧ due.hst.fetch = true ∧ piBad due 0 2 = false ∧ piBad due 0 0x80000 = true ∧ (sqOf due 0).en = true ∧ (sqOf due 0).cand = none ∧
    ((2 : Word).toNat + 2 ^ 32 - (getR due (R.HST_SQ_STATUS 0)).toNat) % 2 ^ 32 ≤ ringEntries (getF due (F.HST_SQ_CTL_SIZE 0)) ∧
    ringEntries (getF due (F.HST_SQ_CTL_SIZE 0)) < ((0x80000 : Word).toNat + 2 ^ 32 - (getR due (R.HST_SQ_STATUS 0)).toNat) % 2 ^ 32 := by decide +kernel
theorem witness_RingsAndPages : framesRun cb = true ∧ pcieActive cb = true ∧ dmaOff cb = false ∧ cb.hst.pageAt ≠ devF cb + 1 ∧ cb.hst.spEn = true ∧
    ({ cb with hst := { cb.hst with pageAt := 1 } } : Block).hst.pageAt = devF cb + 1 ∧ (sqOf cb 0).en = true ∧ (sqOf cb 1).en = false ∧
    isF (setF (F.HST_SQ_CTL_EN 1) 1 cb) (F.HST_SQ_CTL_EN 1) = true ∧ quotaSum cb - getF cb (F.HST_SR_QUOTA_QUOTA 0) + (0 : Word).toNat % 1024 ≤ 512 ∧
    512 < quotaSum cb - getF cb (F.HST_SR_QUOTA_QUOTA 0) + (1023 : Word).toNat % 1024 := by decide +kernel

/-- A completion that waits at ring 0. -/
def waiting : Block := { cb with hst := { cb.hst with cq := [(0, { en := true, waiting := [⟨1, 0, 0, 0, 0, 0, 0⟩] })] } }

theorem witness_CommandsAndCompletions : canStart cb 0 = true ∧ d0.resvd = 0 ∧ d0.p0 = 0 ∧ tail0 d0 = true ∧ badAddr d0.addr = false ∧
    badAddr ({ d0 with addr := 2 } : Desc).addr = true ∧ (0 : Byte).toNat = 0 ∧ 0x0E < (0x0F : Byte).toNat ∧ (cqOf waiting 0).waiting = [⟨1, 0, 0, 0, 0, 0, 0⟩] ∧
    (cqOf waiting 0).en = true ∧ pagesOn waiting = true ∧ dmaOff waiting = false ∧ cqFull waiting 0 = false ∧ (cqOf cb 0).waiting = [] := by decide +kernel

/-! Witnesses: access, self-test, balancing, impedance. -/

theorem witness_RegisterWrites : ready cb = true ∧ pathUp .pcie cb = true ∧ pathReach .pcie 0xC100 = true ∧ pathReach .pcie 0x8100 = true ∧
    plainLow R.PWR_WAKE_TIMER = true ∧ pathReach .pcie R.PWR_WAKE_TIMER = true ∧ (regRow R.PWR_WAKE_TIMER).isSome = true ∧
    ¬ (R.FE_COMMIT < 0x8000) ∧ plainHigh R.CW_FWD_DATA = true ∧ pathReach .pcie R.CW_FWD_DATA = true ∧ (regRow R.CW_FWD_DATA).isSome = true ∧
    ready parking = true ∧ ready { rb with pwr := {} } = false ∧ pathUp .pcie rb = false := by decide +kernel
theorem witness_HalfReads : ready cb = true ∧ pathUp .pcie cb = true ∧ isLow R.GEN_TIME_LO = true ∧ isHigh (R.GEN_TIME_LO + 4) = true ∧
    latchOf .pcie { cb with latch := { pcie := some (R.GEN_TIME_LO, 7) } } = some (R.GEN_TIME_LO, 7) ∧ latchOf .pcie cb = none ∧ pathUp .pcie rb = false ∧
    cb.lc.acting = .factory ∧ awake cb = true ∧ isLow R.PWR_CTL = false ∧ isHigh R.PWR_CTL = false ∧ (living .field cb).lc.acting ≠ .factory := by decide +kernel

theorem witness_SpiPort : ready rb = true ∧ rb.pwr.parking = false ∧ rb.pwr.parked = false ∧ rb.pwr.halted = false ∧ spiActive rb = true ∧
    headerCrc 0 0 = 18 ∧ bitsOf 0 0 24 % 4 = 0 ∧ headerCrc 2 0 = 211 ∧ bitsOf 0 26 4 = 0 ∧ headerCrc 1 0 = 229 ∧ headerCrc 3 0 = 36 ∧
    crc8 (wireBytes [0]) = 18 ∧ headerCrc 0 2 = 76 ∧ bitsOf 2 0 24 % 4 ≠ 0 := by decide +kernel
theorem witness_RegisterBatches : canStart cb 0 = true ∧ d0.resvd = 0 ∧ ({ d0 with p0 := 1 } : Desc).p0.toNat = 1 ∧ ({ d0 with p0 := 4096 } : Desc).p0.toNat ≤ 4096 ∧
    badAddr d0.addr = false ∧ tail0 { d0 with p0 := 1 } = true ∧
    (batchOf 1 [w32 R.PWR_WAKE_TIMER, 1]).all (fun e => entryOk e.1 && writable e.1 && pathReach .cmd e.1) = true ∧
    (batchOf 1 [1, 1]).all (fun e => entryOk e.1 && writable e.1 && pathReach .cmd e.1) = false ∧
    (batchOf 1 [w32 R.GEN_TIME_LO, 1]).all (fun e => entryOk e.1) = true ∧ ready follower = true ∧ isFollower follower = true ∧
    [(true, (0x20 : BitVec 20), (0 : Word))].all (fun o => pathReach .fwd o.2.1.toNat) = true ∧
    [(true, BitVec.ofNat 20 R.LC_CTL, (0 : Word))].all (fun o => pathReach .fwd o.2.1.toNat) = false ∧ isFollower rb = false := by decide +kernel

/-- A tag that the sender computed over the same frame, node, kind and content. -/
def tagOn (b : Block) (fr sender kind : Nat) (content : List Nat) : List Byte := (cwTag b fr sender kind content).map (BitVec.ofNat 8)

theorem witness_RegisterBatches_tag : tagFits follower 0 3 (requestBytes (getF follower F.CW_STATUS_ADDR) (requestOps [(true, 0x20, 0)]))
      ⟨tagOn follower 0 0 3 (requestBytes 1 (requestOps [(true, 0x20, 0)])), 0⟩ = true ∧
    tagFits follower 0 3 (requestBytes (getF follower F.CW_STATUS_ADDR) (requestOps [(true, 0x20, 0)])) ⟨[], 0⟩ = false := by decide +kernel

/-- A run of engine 1 on target 0 that began at device frame 0, at a later frame. -/
def testing : Block := at_ 400000 { rb with bist := { host := some ⟨0, 1, 0⟩ } }

theorem witness_SelfTests : ready rb = true ∧ rb.bist.host = none ∧ rb.bist.request = none ∧ rb.lc.acting ≠ .field ∧ rb.lc.acting ≠ .retired ∧
    rb.bist.rolling = none ∧ (hostEngines (bitsOf 0x10000000 16 8)).contains (bitsOf 0x10000000 28 4) = true ∧ (living .field rb).lc.acting = .field ∧
    canStart cb 0 = true ∧ (0x10000000 : Nat) &&& 0x0F00FFFD = 0 ∧ cb.bist.request = none ∧ bitOf 0 0 = false ∧
    ({ rb with bist := { request := some (0, 1) } } : Block).bist.request = some (0, 1) ∧ framesRun rb = true ∧ testing.bist.host = some ⟨0, 1, 0⟩ ∧
    framesRun testing = true ∧ runOver testing ⟨0, 1, 0⟩ = true ∧ pass.target.toNat = 0 ∧ pass.engine.toNat = 1 := by decide +kernel

/-- A tier's rolling test is due. -/
def rolling : Block := setF F.BIST_ROLL_EN 1 (at_ 400000 rb)

theorem witness_SelfTests_rolling : framesRun rolling = true ∧ frame rolling % 20 = 0 ∧ rolling.lc.acting ≠ .retired ∧ rollOn rolling = true ∧
    rolling.bist.nextDue ≤ devF rolling ∧ rolling.bist.host = none ∧ rolling.bist.rolling = none ∧ rolling.imp.sweep = none ∧
    rolling.fe.fineFrom = none ∧ rolling.fe.align = [] ∧ rolling.bist.tier < 16 ∧ (living .retired rb).lc.acting = .retired := by decide +kernel

/-- Balancing by the host's sets in force, with the set `w` waiting. -/
def manual (w : Word) : Block := { rb with bal := { mode := 1, regSet := [w] } }

theorem witness_BalancingOrders : ready rb = true ∧ canStart cb 0 = true ∧ badAddr d0.addr = false ∧ tail0 { d0 with p0 := 192 } = true ∧ framesRun rb = true ∧
    (manual 0x0100FFFF).bal.sets = [] ∧ inSafe (inState .safe (manual 0)) = true ∧ framesRun (inState .safe (manual 0)) = true ∧ inSafe (manual 0) = false ∧
    ({ manual 0 with bal := { regSet := [0] } } : Block).bal.mode ≠ 1 ∧ bitsOf (0 : Word).toNat 16 4 ≠ 2 ∧ (0 : Word).toNat / 2 ^ 24 = 0 ∧
    192 < (0xC1000000 : Word).toNat / 2 ^ 24 ∧ (0xC0F00001 : Word).toNat / 2 ^ 24 = 192 ∧ present (manual 0) 192 = true ∧ present (manual 0) 1 = true ∧
    1670 ≤ rBal (manual 0) 192 ∧ (manual 0).bal.forced.contains (tierOf 192) = false ∧ bitsOf (0xC0F00001 : Word).toNat 16 4 = 0 ∧
    modeWanted (setF F.BAL_CTL_MODE 1 rb) ≠ (setF F.BAL_CTL_MODE 1 rb).bal.mode ∧ modeWanted rb = rb.bal.mode ∧
    ({ rb with bal := { mode := 2, targets := [(192, 5)] } } : Block).bal.mode = 2 ∧ present { rb with bal := { mode := 2, targets := [(192, 5)] } } 192 = true := by
  decide +kernel
theorem witness_BalancingClock : framesRun rb = true ∧ ({ rb with clock := { periodOwed := true } } : Block).clock.periodOwed = true ∧
    ({ rb with clock := { slotOwed := true } } : Block).clock.slotOwed = true ∧ rb.clock.slotOwed = false ∧
    (balOf { rb with bal := { cells := [(192, { cmdOn := true })] } } 192).timer = 0 ∧ (balOf { rb with bal := { cells := [(192, { cmdOn := true })] } } 192).cmdOn = true ∧
    (balOf { rb with bal := { cells := [(1, { timer := 1, fresh := false })] } } 1).timer = 1 ∧ (balOf rb 1).excite = false ∧ (balOf rb 1).target = none ∧
    (balOf { rb with bal := { cells := [(1, { timer := 1, target := some 0 })] } } 1).target = some 0 := by decide +kernel

/-- A sweep of cell 1 at two frequencies. -/
def swp : Sweep := { seq := 1, policy := false, src := 0, nCyc := 1, freqs := [1000, 2000], cells := [1] }

theorem witness_ImpedanceSweeps : ready rb = true ∧ canStart cb 0 = true ∧ bitsOf 0x103 2 6 = 0 ∧ tail0 { d0 with p0 := 0x103 } = true ∧ framesRun rb = true ∧
    rb.imp.sweep = none ∧ rb.imp.next = none ∧ rb.imp.policy = none ∧ sweepCode { rb with imp := { host := [(0, none)] } } 0 ≠ 0 ∧
    ({ rb with imp := { sweep := some swp } } : Block).imp.sweep = some swp ∧ swp.start = none ∧ swp.waitGo = false ∧
    ({ swp with start := some 0 } : Sweep).start = some 0 ∧ passFrames swp ≤ devF (at_ 400000 rb) ∧ ({ rb with imp := { due := [⟨swp, 0, 0, true, false⟩] } } : Block).imp.sweep = none := by
  decide +kernel
theorem witness_ImpedanceSweeps_two : swp.pass + 1 < passCount { swp with src := 1 } := by decide +kernel

/-! Witnesses: ledger, capture, tier ring, strings. -/

theorem witness_LedgerSecond : framesRun (at_ 20000 rb) = true ∧ memOut rb = false ∧ (at_ 20000 rb).fe.jobs = [] ∧
    (at_ 20000 rb).led.secFrom + 20000 ≤ devF (at_ 20000 rb) ∧ present rb 192 = true := by decide +kernel
theorem witness_LedgerFlushes : memOut rb = false ∧ ready rb = true ∧ rb.led.flushing = none ∧ rb.cfg.captured = none ∧
    ({ rb with led := { flushing := some {} } } : Block).led.flushing ≠ none ∧ ({ rb with cfg := { captured := some [] } } : Block).cfg.captured ≠ none ∧
    framesRun (at_ 12000000 rb) = true ∧ (at_ 12000000 rb).led.last + 12000000 ≤ devF (at_ 12000000 rb) ∧ rb.led.owed = false ∧ rb.led.eraseDue = false := by
  decide +kernel
theorem witness_LedgerEraseAndReads_tick : ({ rb with led := { eraseDue := true, queue := [⟨5, 0, 0, 0, 0⟩] } } : Block).led.flushing = none ∧
    ({ rb with led := { eraseDue := true } } : Block).led.owed = false ∧ ({ rb with led := { eraseDue := true } } : Block).led.eraseDue = true ∧
    ∀ e ∈ ({ rb with led := { eraseDue := true, queue := [⟨5, 0, 0, 0, 0⟩] } } : Block).led.queue, e.kind ≤ 9 := by decide +kernel
theorem witness_LedgerEraseAndReads : memOut rb = false ∧ ready rb = true ∧ (0xA5000000 : Word).toNat / 2 ^ 24 = 0xA5 ∧ rb.lc.acting = .factory ∧
    (living .service rb).lc.acting = .service ∧ (living .field rb).lc.acting ≠ .factory ∧ (living .field rb).lc.acting ≠ .service ∧ bitsOf 0 1 1 = 0 ∧
    ({ rb with led := { flushing := some {}, eraseDue := true } } : Block).led.flushing = some {} ∧ pathUp .spi rb = true ∧ rb.led.mirror.erases ≠ 65535 ∧
    ledItem (getF rb F.LED_RD_CTL_REGION) (getF rb F.LED_RD_CTL_INDEX) = true ∧ canStart cb 0 = true ∧ bitsOf 0 16 14 = 0 ∧ ledItem 0 0 = true ∧
    memOut cb = false ∧ ({ d0 with p1 := 65536 } : Desc).p1.toNat ≤ 65536 := by decide +kernel

/-- Capture ring 0 asked for at unit 1,023, the last. -/
def ring : Block := setF (F.CAP_GEOM_BASE 0) 1023 (setF (F.CAP_CTL_EN 0) 1 rb)

/-- Ring 7 enabled, in capture state `s`. -/
def ring7 (s : Nat) : Block := setR (R.CAP_WR 7) 4 <| setF (F.CAP_RSTAT_STATE 7) s (setF (F.CAP_CTL_EN 7) 1 { cb with cap := { rings := [(7, { en := true, armReq := true, trig := some 0, recs := [⟨0, 0, [5]⟩] })] } })

theorem witness_CaptureRings : framesRun rb = true ∧ getF rb (F.CAP_CTL_EN 0) = 0 ∧ getF ring (F.CAP_CTL_EN 0) = 1 ∧ (ringOf ring 0).en = false ∧
    (ringOf ring 0).refused = false ∧ getF ring (F.CAP_GEOM_BASE 0) + capUnits ring 0 ≤ 1024 ∧
    (∀ o : Fin 8, o ≠ 0 → getF ring (F.CAP_CTL_EN o.val) ≠ 1 ∧ (ringOf ring o.val).en = false) ∧
    1024 < getF (setF (F.CAP_GEOM_SIZE 0) 1 ring) (F.CAP_GEOM_BASE 0) + capUnits (setF (F.CAP_GEOM_SIZE 0) 1 ring) 0 ∧
    (ringOf (ring7 3) 7).en = true ∧ (ringOf (ring7 3) 7).armReq = true ∧ (ringOf (ring7 3) 7).moved = false ∧
    (ringOf { rb with cap := { rings := [(0, { en := true, moved := true })] } } 0).moved = true ∧ (ringOf { ring with cap := { rings := [(0, { refused := true })] } } 0).refused = true ∧ capState (ring7 3) 7 = 3 ∧ getF (ring7 3) (F.CAP_CTL_EN 7) = 1 ∧ ready rb = true ∧
    (0 : Word).toNat % 4 = 0 ∧ capAhead rb 0 0 ≤ capSpan rb 0 ∧ (1 : Word).toNat % 4 ≠ 0 ∧ capSpan (ring7 1) 7 < capAhead (ring7 1) 7 8 := by decide +kernel
theorem witness_CaptureTriggerToEnd : ready (ring7 1) = true ∧ bitsOf (0xC0000000 : Word).toNat 27 1 = 0 ∧ bitsOf (0xC0000000 : Word).toNat 30 1 = 1 ∧
    capState (ring7 1) 7 = 1 ∧ capState (ring7 2) 7 = 2 ∧ capState (ring7 3) 7 = 3 ∧ (ringOf (at_ 5 (ring7 2)) 7).trig ≠ some (devF (at_ 5 (ring7 2))) ∧ (ringOf (ring7 2) 7).trig = some 0 ∧
    capState rb 7 = 0 ∧ bitsOf (0 : Word).toNat 26 1 = 0 ∧ framesRun (ring7 2) = true ∧
    0 + getF (ring7 2) (F.CAP_WIN_POST 7) + 2 ≤ devF (at_ 2000000 (ring7 2)) ∧ (ring7 2).fe.rawQueue = [] ∧
    (ringOf (ring7 2) 7).recs.find? (fun y => decide (0 ≤ y.frame + getF (ring7 2) (F.CAP_WIN_PRE 7))) = some ⟨0, 0, [5]⟩ ∧
    devF (ring7 2) < 0 + getF (ring7 2) (F.CAP_WIN_POST 7) + 2 := by decide +kernel
theorem witness_CaptureRegisterReads : ready (setF F.CAP_RD_CTL_RING 7 (ring7 1)) = true ∧ pathUp .spi (ring7 1) = true ∧
    capWord (setF F.CAP_RD_CTL_RING 7 (ring7 1)) (getF (setF F.CAP_RD_CTL_RING 7 (ring7 1)) F.CAP_RD_CTL_RING)
      (getR (setF F.CAP_RD_CTL_RING 7 (ring7 1)) R.CAP_RD_POS).toNat ≠ none ∧ capSpan rb 0 ≤ capAhead rb 0 (getR rb R.CAP_RD_POS).toNat := by decide +kernel
theorem witness_CapturePull : canStart (ring7 1) 0 = true ∧ ({ d0 with p0 := 7, p2 := 4 } : Desc).p0.toNat ≤ 7 ∧ 4 ≤ capSize (ring7 1) 7 ∧ memOut (ring7 1) = false ∧
    capSpan cb 0 = 0 ∧ capSpan (ring7 1) 7 ≠ 0 ∧ capAhead (ring7 1) 7 0 + 4 ≤ capSpan (ring7 1) 7 ∧ capSpan (ring7 1) 7 < capAhead (ring7 1) 7 4 + 4 ∧
    4 ≤ (4 : BitVec 27).toNat ∧ (4 : BitVec 27).toNat < ({ d0 with p0 := 7, p2 := 8 } : Desc).p2.toNat ∧ (3 : BitVec 27).toNat < 4 ∧ d0.wfail = false ∧ ({ d0 with wfail := true } : Desc).wfail = true := by decide +kernel
theorem witness_CounterSettings : ready rb = true ∧ bitsOf (0x20000000 : Word).toNat 29 1 = 1 ∧ getF rb (F.CNT_CFG_EVENT 31) ≠ bitsOf (0xFF : Word).toNat 0 8 ∧
    bitsOf (0 : Word).toNat 29 1 = 0 ∧ getF rb (F.CNT_CFG_EVENT 31) = 0 ∧ getF rb (F.CNT_CFG_QTYPE 31) = 0 ∧ getF rb (F.CNT_CFG_QVAL 31) = 0 := by decide +kernel

/-- Hop 16 broken since device frame 0. -/
def broken : Block := { fed with bw := { numbered := List.range 16, hops := [(16, { upBroken := true, downBroken := true, upLock := true, downLock := true })], unreach := [(15, 0)] } }

theorem witness_TierRingAndSupplies : framesRun fed = true ∧ hopBroken fed 16 = false ∧ hopBroken broken 16 = true ∧ frame (at_ 400000 broken) % 20 = 0 ∧
    broken.pwr.supplyLost = [] ∧ e16.foot.val + e16.head.val ≤ 16 ∧ (3, ({ cmdOn := true } : BalCell)) ∈ ({ fed with bal := { prior := [(3, { cmdOn := true })] } } : Block).bal.prior ∧
    tierOf 3 = (0 : Tier).val ∧ ((15 : Tier).val, [⟨0, [], false⟩]) ∈ ({ fed with fe := { fed.fe with sram := [(15, [⟨0, [], false⟩])] } } : Block).fe.sram ∧ (hopOf broken 16).since + max 100 (getF broken F.BW_CTL_RESTORE) ≤ devF (at_ 400000 broken) ∧
    devF broken < (hopOf broken 16).since + max 100 (getF broken F.BW_CTL_RESTORE) ∧ frame (at_ 1 broken) % 20 ≠ 0 ∧ e16.foot.val = 16 ∧
    ({ e16 with foot := 15 } : EnumResult).foot.val ≠ 16 ∧ ready fed = true ∧ bitOf (0 : Word).toNat 0 = false ∧ tierAvail fed 15 = true ∧
    ({ fed with fe := { fed.fe with settingAt := some 0 } } : Block).fe.settingAt = some (devF fed) ∧ fed.fe.settingAt ≠ some (devF fed) ∧
    15 ∈ ({ fed with fe := { fed.fe with ctlMiss := [15] } } : Block).fe.ctlMiss ∧ 15 ∉ fed.fe.ctlMiss ∧
    broken.bw.unreach.find? (·.1 == 15) = some (15, 0) ∧ 0 + 4 ≤ devF (at_ 4 broken) ∧ 15 ∉ broken.bal.lost ∧ devF (at_ 3 broken) < 0 + 4 ∧
    fed.fe.started = true ∧ 15 ∈ ({ fed with pwr := { fed.pwr with supplyLost := [15] } } : Block).pwr.supplyLost := by decide +kernel
theorem witness_SensorStrings : ready rb = true ∧ bitOf (0 : Word).toNat 3 = false ∧ bitOf (0 : Word).toNat 2 = false ∧ framesRun rb = true ∧ frame rb % 20 = 0 ∧
    rb.rl.ran ≠ some (devF rb) ∧ stringOn (setF (F.FE_TIER_CTL_CELL_EN 3) 0 { rb with pwr := { rb.pwr with supplyLost := [3] } }) 3 = false ∧
    frame (at_ 20 rb) / 20 % max 20 (getF rb F.RL_CTL_PERIOD) ≠ 0 ∧ frame rb / 20 % max 20 (getF rb F.RL_CTL_PERIOD) = 0 ∧ (stringOf rb 0).busyTo ≤ nowNs rb ∧
    frame (at_ 1 rb) % 20 ≠ 0 ∧ (stringOf rb 15).short = false ∧ 15 ∉ rb.pwr.supplyLost ∧
    (stringOf { rb with rl := { strings := [(15, { short := true })] } } 15).short = true ∧ (tagOf rb 0 1).cnt.getD 0 < 256 := by decide +kernel
theorem witness_SensorStrings_on : stringOn fed 15 = true ∧ (stringOf { fed with rl := { strings := [(15, { walkNow := true })] } } 15).walkNow = true ∧
    (stringOf fed 15).walkNow = false ∧ nowNs fed < (stringOf { fed with rl := { strings := [(15, { busyTo := 1 })] } } 15).busyTo := by decide +kernel

/-! Witnesses: front end, engine, policy. -/

/-- An output of device frame 39 that is due at frame 40. -/
def due40 : Block := at_ 40 { fed with fe := { fed.fe with outDue := some ⟨39, 40, rb.act, 0, false, false, false, 0, 0, false, 0, []⟩ } }

theorem witness_TierData_errors : ∀ h : HopNo, errBreak h.val rb = rb := fun _ => rfl
theorem witness_TierData : framesRun fed = true ∧ tierAvail fed 15 = true ∧ fed.fe.blocks.contains 15 = false ∧ tierAvail rb 15 = false ∧ fed.fe.closed = false ∧
    fed.fe.started = true ∧ 180 ∈ tierCells 14 ∧ present fed 180 = true ∧ fed.bw.breakFrame ≠ some (devF fed) ∧ fed.clock.ovrFrame ≠ frame fed + 1 ∧
    (∀ e ∈ fed.sl.events, e.code ≠ 0x10) ∧ rb.fe.started = false ∧ due40.fe.outDue.isSome = true ∧ framesRun due40 = true ∧ fed.fe.outDue = none ∧
    ({ fed with bw := { fed.bw with breakFrame := some 0 } } : Block).bw.breakFrame = some (devF fed) ∧
    40 - rateK (fieldIn due40.act F.FLT_CTL_RATE) < missEnd { due40 with fe := { due40.fe with lastMiss := [(15, 40)] } } (tierOf 192) := by decide +kernel
theorem witness_WordFlags : framesRun due40 = true ∧ due40.fe.outDue.isSome = true ∧ (1 : Nat) < 2 ^ 32 ∧ bitOf 0x84 7 = true ∧ bitOf 0x84 2 = true ∧
    bitOf 0x84 0 = false := by decide +kernel

/-- A diagnostic frame at every chain tick of frame 400,000. -/
def diag (n : Nat) : Block := at_ n { fed with act := [(F.FE_OW_CTL_PERIOD.reg, 400000#32)] }

theorem witness_TierChecks : framesRun (diag 0) = true ∧ actF (diag 0) F.FE_OW_CTL_PERIOD ≠ 0 ∧ frame (diag 0) % actF (diag 0) F.FE_OW_CTL_PERIOD = 0 ∧
    (diag 0).fe.owFrame ≠ some (devF (diag 0)) ∧ frame (diag 1) % actF (diag 1) F.FE_OW_CTL_PERIOD ≠ 0 ∧ quietNow (diag 0) = false ∧
    chkTick (at_ 220 fed) = 11 ∧ frame (at_ 220 fed) % 20 ≤ 1 ∧ frame (at_ 220 fed) % 400 + fed.cw.jumpAt.getD 0 ≤ devF (at_ 220 fed) ∧ 1 < frame (at_ 222 fed) % 20 ∧
    chkCut (at_ 220 fed) = false ∧ chkCut { at_ 420 fed with cw := { jumpAt := some 410 } } = true ∧
    ({ at_ 220 fed with fe := { fed.fe with chkSet := [(15, 0xFFF)] } } : Block).fe.chkSet.any (fun x => x.1 == 15 && bitOf x.2 11) = true ∧
    [(⟨15, [], []⟩ : CheckInput)].Pairwise (fun x y => x.tier ≠ y.tier) ∧ frame (at_ 241 fed) % 20 ≤ 1 ∧
    ({ fed with fe := { fed.fe with levelsDue := [(Slot.feChkRef 3, true, 0)] } } : Block).fe.levelsDue = [(Slot.feChkRef 3, true, 0)] ∧ chkTick (at_ 240 fed) = 12 ∧ 12 ≤ chkTick (at_ 240 fed) ∧ chkTick (at_ 260 fed) ≠ 12 ∧ present fed (12 * 15 + 11 + 1) = true ∧ tierAvail fed 15 = true := by
  decide +kernel
theorem witness_TierChecks_en : actF (at_ 220 fed) (F.FE_TIER_CTL_CHK_EN 15) ≠ 0 ∧ actF (diag 0) (F.FE_TIER_CTL_OW_EN 15) ≠ 0 ∧
    actF { fed with act := [((F.FE_TIER_CTL_OW_EN 15).reg, 0#32)] } (F.FE_TIER_CTL_OW_EN 15) = 0 := by decide +kernel

/-- A commit that waits. -/
def pend : Block := setF F.FE_COMMIT_PENDING 1 fed

/-- A QUIET interval due every sixteenth output. -/
def quiet (n : Nat) : Block := at_ n { fed with act := [(F.FLT_BAL_CTL_QUIET_EN.reg, w32 (2 ^ F.FLT_BAL_CTL_QUIET_EN.lo + 16 * 2 ^ F.FLT_BAL_CTL_QUIET_N.lo))] }

theorem witness_MeasurementCommits : ready rb = true ∧ framesRun pend = true ∧ isF pend F.FE_COMMIT_PENDING = true ∧ isF fed F.FE_COMMIT_PENDING = false ∧
    rejCauses pend (shadowSet pend) = 0 ∧ ({ fed with fe := { fed.fe with notchDue := [(2, some (300, 10))] } } : Block).fe.notchDue = [(2, some (300, 10))] ∧
    fed.fe.quiet = none ∧ actF (quiet 0) F.FLT_BAL_CTL_QUIET_EN ≠ 0 ∧ actF (quiet 0) F.FLT_BAL_CTL_QUIET_N * activeK (quiet 0) ≠ 0 ∧
    quietLen (quiet 0) (quiet 0).act ≠ 0 ∧ ({ fed with fe := { fed.fe with quiet := some (0, 5) } } : Block).fe.quiet = some (0, 5) ∧ 5 ≤ devF (at_ 5 fed) := by
  decide +kernel
theorem witness_MeasurementCommits_src : actF fed (F.FLT_NOTCH_SRC 1) = 1 ∨ actF { fed with act := [((F.FLT_NOTCH_SRC 1).reg, w32 (2 ^ (F.FLT_NOTCH_SRC 1).lo))] } (F.FLT_NOTCH_SRC 1) = 1 := by
  decide +kernel
theorem witness_Alignment : ready rb = true ∧ framesRun fed = true ∧ frame fed % 20 = 0 ∧ alignBusy fed = false ∧
    alignBusy { fed with fe := { fed.fe with fineFrom := some 0 } } = true ∧
    ({ fed with fe := { fed.fe with fineReq := true } } : Block).fe.fineReq = true ∧ frame (at_ 1 fed) % 20 ≠ 0 ∧ fed.fe.fineReq = false ∧ fed.fe.fineAgain = false ∧
    ({ fed with fe := { fed.fe with fineFrom := some 0 } } : Block).fe.fineFrom = some 0 ∧ 0 + 20 ≤ devF (at_ 20 fed) ∧ devF (at_ 19 fed) < 0 + 20 ∧
    ({ fed with fe := { fed.fe with align := [⟨[15], some 0, false⟩] } } : Block).fe.align = [⟨[15], some 0, false⟩] ∧ ([15] : List Nat) ≠ [] ∧ 0 + 40 ≤ devF (at_ 40 fed) ∧ devF (at_ 39 fed) < 0 + 40 ∧
    ([⟨15, 0, 0, 0⟩] : List PathDelay).length = 1 := by decide +kernel
theorem witness_Alignment_apart : ([⟨15, 0, 0, 0⟩] : List PathDelay).Pairwise (fun x y => x.tier ≠ y.tier) := by simp

/-- The model engine at an owed step boundary. -/
def owed : Block := { modelled with clock := { stepOwed := true } }

/-- A step in progress: a layout step or not, its interval closed or not. -/
def stepping (layout closed : Bool) : Block := { modelled with fen := { step := some { start := 0, frameNo := 0, frames := 2000, from_ := 0, layout, mode := 1, safe := false, closed } } }

theorem witness_ModelSteps : framesRun owed = true ∧ owed.clock.stepOwed = true ∧ owed.fen.step = none ∧ isF owed F.FEN_STATUS_SWAP_PEND = false ∧
    isF owed F.FEN_STATUS_STEP_PEND = false ∧ isF owed F.FEN_STATUS_IMG_VALID = true ∧ isF owed F.FEN_CTL_FULL_EN = true ∧ owed.pwr.state = .run ∧
    owed.lc.acting ≠ .retired ∧ fenReset owed = false ∧ isF owed F.BIST_FAILED_FEN = false ∧ isF owed F.BIST_FAILED_MEM = false ∧ fenTest owed = false ∧
    isF owed F.FEN_STATUS_HALTED = false ∧ isF (setF F.FEN_STATUS_HALTED 1 owed) F.FEN_STATUS_HALTED = true ∧ owed.fen.resume = false ∧
    fenTest { owed with bist := { host := some ⟨0x10, 1, 0⟩ } } = true ∧ isF (setF F.FEN_STATUS_STEP_PEND 1 rb) F.FEN_STATUS_STEP_PEND = true ∧
    frame rb % (20 * stepMs (getF rb F.FEN_CTL_STEP)) = 0 ∧ frame rb % stepFrames rb = 0 ∧ frame (at_ 1 rb) % stepFrames rb ≠ 0 ∧
    (stepping false true).fen.step.isSome = true ∧ devF (stepping false false) < 0 + 2000 ∧ 0 + 2000 ≤ devF (at_ 2000 (stepping false false)) ∧
    8 ≤ getF (setF F.FEN_OVR_CNT_CONSEC 8 rb) F.FEN_OVR_CNT_CONSEC ∧ isF rb F.FEN_STATUS_HALTED = false ∧ getF rb F.FEN_OVR_CNT_CONSEC < 7 ∧
    7 ≤ getF (setF F.FEN_OVR_CNT_CONSEC 7 rb) F.FEN_OVR_CNT_CONSEC := by decide +kernel
theorem witness_FenControl : ready rb = true ∧ stepFits rb 0 = true ∧ isF rb F.FEN_STATUS_SWAP_PEND = false ∧
    (isF (setF F.FEN_STATUS_SWAP_PEND 1 (setF F.FEN_STATUS_SWAP_SRC 1 rb)) F.FEN_STATUS_SWAP_PEND &&
      isF (setF F.FEN_STATUS_SWAP_PEND 1 (setF F.FEN_STATUS_SWAP_SRC 1 rb)) F.FEN_STATUS_SWAP_SRC) = true ∧ framesRun rb = true ∧
    1000 ≤ ({ rb with fen := { holds := 1000 } } : Block).fen.holds ∧ isF rb F.FEN_STATUS_NOCUR = false ∧ rb.fen.holds < 1000 ∧ imgState rb ≠ 6 ∧
    imgState (setF F.FEN_IMG_STATUS_STATE 6 rb) = 6 ∧ imgState (setF F.FEN_IMG_STATUS_STATE 5 rb) = 5 ∧ imgState rb < 5 ∧
    isF (setF F.FEN_STATUS_NOCUR 1 rb) F.FEN_STATUS_NOCUR = true ∧ Domain.fen ∈ ({ rb with sl := { blkOwed := [.fen, .hst] } } : Block).sl.blkOwed ∧
    Domain.fen ∉ rb.sl.blkOwed ∧ fenReset rb = false := by decide +kernel

/-- The engine with adaptation enabled. -/
def adapting : Block := setF F.FEN_CTL_ADAPT_EN 1 modelled

/-- Staging in state `s`, holding words that pass the checks a swap repeats. -/
def staging (s : Nat) : Block := setF F.FEN_IMG_STATUS_STATE s { cb with fen := { staged := [(5, 53248), (7, 1), (22, 0x1000), (23, 192)] } }

theorem witness_CopiesAndSwaps : isF adapting F.FEN_CTL_ADAPT_EN = true ∧ isF adapting F.FEN_STATUS_IMG_VALID = true ∧ adapting.pwr.state = .run ∧
    refitInput adapting 1 = false ∧ isF adapting F.FEN_STATUS_REBUILD_BUSY = false ∧ imgState adapting ≠ 5 ∧ imgState adapting ≠ 6 ∧ adapting.fen.swapAsk = false ∧
    isF adapting F.FEN_STATUS_SWAP_PEND = false ∧ isF adapting F.BIST_FAILED_APP = false ∧ isF (setF F.FEN_CTL_ADAPT_EN 0 rb) F.FEN_CTL_ADAPT_EN = false ∧
    isF (setF F.FEN_STATUS_REBUILD_BUSY 1 adapting) F.FEN_STATUS_REBUILD_BUSY = true ∧ framesRun adapting = true ∧
    ({ staging 3 with fen := { swapAsk := true } } : Block).fen.swapAsk = true ∧ imgState (staging 3) = 3 ∧ imgState (staging 5) = 5 ∧ memOut (staging 5) = false ∧
    chkFit (staging 5).fen.staged (presentCells (staging 5)) (stepMs (getF (staging 5) F.FEN_CTL_STEP)) = none ∧ imgState rb ≠ 5 ∧
    (stepping true true).fen.step.isSome = true := by decide +kernel
theorem witness_ImageStaging : ready (staging 0) = true ∧ (living .retired rb).lc.acting = .retired ∧ (staging 0).lc.acting ≠ .retired ∧ stageShut (staging 0) = false ∧ stageShut (living .retired rb) = true ∧
    stageShut (staging 2) = true ∧ stageShut (staging 5) = true ∧ (getR (staging 0) R.FEN_IMG_WADDR).toNat < 2 ^ 24 ∧ bitsOf (0 : Word).toNat 0 3 = 0 ∧
    (staging 0).fen.wPast = false ∧ ({ staging 0 with fen := { wPast := true } } : Block).fen.wPast = true ∧ imgState (staging 0) = 0 ∧ imgState (staging 1) = 1 ∧ imgState (staging 4) = 4 ∧ imgState (staging 6) = 6 ∧
    imgRecheck (staging 3).fen.staged (presentCells (staging 3)) (stepMsNow (staging 3)) = none ∧ framesRun (staging 2) = true ∧ (staging 2).fen.load = none ∧ canStart (staging 1) 0 = true ∧
    memOut (staging 1) = false ∧ tail0 d0 = true ∧ ({ d0 with p1 := 16777212, p2 := 4 } : Desc).p1.toNat + 4 ≤ 16777216 := by decide +kernel
theorem witness_PolicyOverrides : ready rb = true ∧ rb.pol.wait.length < 16 ∧
    16 ≤ ({ rb with pol := { wait := List.replicate 16 ⟨1, 1, 0, 0, false, none⟩ } } : Block).pol.wait.length ∧ canStart cb 0 = true ∧ bitsOf d0.p0.toNat 26 2 = 0 ∧
    framesRun rb = true ∧ frame rb % stepFrames rb = 0 ∧ frame (at_ 1 rb) % stepFrames rb ≠ 0 ∧
    polWanted (setF F.POL_CTL_MODE 2 rb) ≠ polMode (setF F.POL_CTL_MODE 2 rb) ∧ polWanted rb = polMode rb ∧ rb.pol.ripple.length < 4096 ∧ ovrTarget rb ⟨1, 1, 0, 0, true, none⟩ = true ∧ ovrTarget rb ⟨1, 193, 0, 0, true, none⟩ = false ∧ rb.pol.ovr.any (·.clear) = false ∧
    ({ rb with pol := { ovr := [⟨1, 1, 0, 0, true, none⟩] } } : Block).pol.ovr.any (·.clear) = true ∧ rb.pol.rippled = false := by decide +kernel
theorem witness_PolicyOverrides_kinds : kindOk 2 1 = true ∧ kindOk 0 1 = false ∧ ovrFields rb ⟨1, 1, 0, 0, false, none⟩ = true ∧
    ovrFields rb ⟨1, 193, 0, 0, false, none⟩ = false ∧ polMode (setF F.POL_STATUS_MODE_ACT 2 rb) = 2 := by decide +kernel

/-! Witnesses: the Causeway and the radio. -/

/-- The root with hop 1 broken forward, trained hops else, at frame 0. -/
def reversed : Block := setF F.CW_STATUS_REVERSED 1 { root with cw := { root.cw with hops := [(1, { fwdBroken := true })] } }

/-- A module with a key and MODE 1 that is no root. -/
def loose (role : Nat) : Block := setF F.CW_CTL_MODE 1 (setF F.CW_CTL_ROLE role { rb with lc := { keyCw := some [] } })

theorem witness_CausewayRoles : ready root = true ∧ bitsOf (5 : Word).toNat 13 3 = 0 ∧ noKey root = false ∧ bitsOf (5 : Word).toNat 0 2 ≠ 0 ∧ bitsOf (5 : Word).toNat 2 1 = 1 ∧
    noKey rb = true ∧ bitOf (0 : Word).toNat 12 = false ∧ bitsOf (0 : Word).toNat 14 2 = 0 ∧ (∀ a ∈ root.cw.nodes, 1 ≤ a ∧ a ≤ 31) ∧ roleAct root = 1 ∧ framesRun root = true ∧
    getF (loose 0) F.CW_CTL_MODE ≠ 0 ∧ noKey (loose 0) = false ∧ roleAct (loose 0) ≠ 1 ∧ getF (loose 0) F.CW_CTL_ROLE = 0 ∧ cwMode root ≠ 0 ∧
    getF (setF F.CW_CTL_MODE 1 root) F.CW_CTL_MODE ≠ 0 ∧ wired rb = false ∧ wired root = true ∧ (1 : BitVec 7).toNat ≤ root.cw.modules ∧ isRoot root = true ∧
    (cwHop root 1).fwdBroken = false ∧ wired follower = true ∧ isRoot follower = false ∧ isRoot reversed = true ∧ getF reversed F.CW_STATUS_REVERSED = 1 ∧
    frame (at_ 400000 reversed) % 20 = 0 ∧ getF root F.CW_STATUS_REVERSED = 0 := by decide +kernel

/-- The reversed root with both hops trained and error-free since device frame 0. -/
def healed : Block := at_ 400000 (setF F.CW_STATUS_REVERSED 1 { root with cw := { root.cw with hops := [(0, { trained := true }), (1, { trained := true })] } })

theorem witness_CausewayRoles_token : tagFits (loose 0) 0 6 [1, 0] ⟨tagOn (loose 0) 0 0 6 [1, 0], 0⟩ = true ∧ tagFits (loose 0) 0 6 [1, 0] ⟨[], 0⟩ = false ∧
    tagFits root 0 6 [1, 0] ⟨tagOn root 0 0 6 [1, 0], 0⟩ = true ∧ tagFits (loose 0) 0 6 [32, 5] ⟨tagOn (loose 0) 0 0 6 [32, 5], 0⟩ = true ∧
    tagFits rb 0 6 [1, 0] ⟨tagOn rb 0 0 6 [1, 0], 0⟩ = true ∧ ({ root with cw := { root.cw with breakOwed := true } } : Block).cw.breakOwed = true := by decide +kernel
theorem witness_CausewayRoles_restore : (∀ h, h ≤ healed.cw.modules → (cwHop healed h).trained = true ∧ (cwHop healed h).since + max 100 (getF healed F.CW_CTL_RESTORE) ≤ devF healed) ∧
    (∀ a ∈ healed.cw.nodes, wiredReach healed a = true) ∧ isRoot healed = true ∧ getF healed F.CW_STATUS_REVERSED = 1 ∧ frame healed % 20 = 0 := by decide +kernel

/-- A follower in lock. -/
def locked : Block := setF F.CW_STATUS_LOCKED 1 follower

theorem witness_CausewaySync : framesRun follower = true ∧ wired follower = true ∧ isFollower follower = true ∧ roleAct root = 1 ∧ isRoot root = true ∧ wired root = true ∧
    isF locked F.CW_STATUS_LOCKED = true ∧ frame locked ≠ 7 ∧ isFollower root = false ∧ isF follower F.CW_STATUS_LOCKED = false ∧
    (at_ 20 locked).cw.lastSync + 20 ≤ devF (at_ 20 locked) ∧ devF (at_ 19 locked) < (at_ 19 locked).cw.lastSync + 20 ∧ 1 ∈ root.cw.nodes ∧
    hbLimit root (radioOnly root 1 && !wiredReach root 1) ≤ getF (setF (F.CW_NODE_STATUS_HB_MISS 1) 65535 root) (F.CW_NODE_STATUS_HB_MISS 1) ∧
    getF root (F.CW_NODE_STATUS_HB_MISS 1) < hbLimit root (radioOnly root 1 && !wiredReach root 1) ∧ mapGet (fun _ => 0) root.cw.done 1 ≠ 0 + 1 ∧
    mapGet (fun _ => 0) ({ root with cw := { root.cw with done := [(1, 1)] } } : Block).cw.done 1 = 0 + 1 ∧ isRoot rb = false ∧ isFollower rb = false ∧
    4 ≤ tagRun (at_ 5 { root with cw := { root.cw with tagFails := [(1, (4, 3))] } }) 1 ∧ frame (at_ 200 follower) % 200 = 0 ∧ frame (at_ 1 follower) % 200 ≠ 0 := by
  decide +kernel
theorem witness_CausewaySync_tag : tagPasses root 0 1 3 [5] (cwTag root 0 1 3 [5]) = true ∧ tagPasses root 0 1 3 [5] [] = false ∧
    tagFits root 1 2 (recBytes (recvRec ⟨1, 7, [0], false, ⟨[], 0⟩⟩)) ⟨tagOn root 0 1 2 (recBytes (recvRec ⟨1, 7, [0], false, ⟨[], 0⟩⟩)), 0⟩ = true ∧
    tagFits root 1 2 (recBytes (recvRec ⟨1, 7, [0], false, ⟨[], 0⟩⟩)) ⟨[], 0⟩ = false ∧ enumerating root = false ∧
    enumerating (setF F.CW_STATUS_ENUM_BUSY 1 root) = true ∧ enumerating { follower with cw := { follower.cw with tokenAt := some 0 } } = true ∧ roleAct follower ≠ 0 ∧ roleAct (setF F.CW_STATUS_ROLE_ACT 3 follower) = 3 ∧
    (frame locked + 1) % 2 ^ 55 ≠ (7 : BitVec 55).toNat ∧ (frame (at_ 6 locked) + 1) % 2 ^ 55 = (7 : BitVec 55).toNat := by decide +kernel

/-- The root with the radio in use as well. -/
def onAir : Block := { root with cw := { root.cw with mode := 3, phy := 1 } }

theorem witness_RadioAndForwarding_packets : ({ onAir with cw := { onAir.cw with sfOn := true } } : Block).cw.sfOn = true ∧ onAir.cw.sfOn = false ∧ (List.replicate 20 (0 : Byte)).length = 20 ∧
    (let bs := 0x08 :: List.replicate 15 0; tagPasses onAir 0 1 5 bs (cwTag onAir 0 1 5 bs) = true ∧ (0x08 : Nat) % 8 = 0 ∧ 0x08 % 256 / 8 ∈ onAir.cw.nodes ∧
      tagPasses onAir 0 1 5 bs [] = false) ∧ (0x01 : Nat) % 8 = 1 ∧
    ({ onAir with cw := { onAir.cw with txAt := some (0, 6) } } : Block).cw.txAt = some (0, 6) ∧ 6 ≤ devF (at_ 6 onAir) ∧ devF (at_ 5 onAir) < 6 ∧
    tagFits root 1 4 (responseBytes false 1 [0]) ⟨tagOn root 0 1 4 (responseBytes false 1 [0]), 0⟩ = true ∧ tagFits root 1 4 (responseBytes false 1 [0]) ⟨[], 0⟩ = false := by
  decide +kernel
theorem witness_RadioAndForwarding : framesRun onAir = true ∧ frame onAir % 200 = 0 ∧ onAir.cw.sfAt ≠ devF onAir + 1 ∧ radioUsed onAir = true ∧ isRoot onAir = true ∧
    (∀ a ∈ onAir.cw.nodes, 1 ≤ a ∧ a ≤ 31) ∧ radioUsed rb = false ∧ frame (at_ 1 onAir) % 200 ≠ 0 ∧
    isF (setF F.CW_RF_STATUS_ACTIVE 1 onAir) F.CW_RF_STATUS_ACTIVE = true ∧ isFollower follower = true ∧ radioUsed { follower with cw := { follower.cw with mode := 3 } } = true ∧
    ready root = true ∧ isF (setF F.CW_FWD_CTL_BUSY 1 root) F.CW_FWD_CTL_BUSY = true ∧ isF root F.CW_FWD_CTL_BUSY = false ∧ forwardCode root 31 ≠ 0 ∧
    canStart cb 0 = true ∧ (31 : Nat) &&& 0xFFFFF0E0 = 0 ∧ tail0 { d0 with p0 := 31 } = true ∧ roleAct cb ≠ 1 ∧ forwardOps 1 [1, 0] = none ∧
    (forwardOps 1 [0x20, 0]).isSome = true ∧ root.cw.fwd = none ∧ ({ root with cw := { root.cw with fwd := some (0, false) } } : Block).cw.fwd = some (0, false) ∧
    0 + 40 ≤ devF (at_ 40 root) ∧ (cqOf cb (cqNo cb 0)).en = true ∧
    (sqOf { cb with hst := { cb.hst with sq := [(0, { en := true, running := some ⟨0x0A, 0, .forward 1 0 0 []⟩ })] } } 0).running = some ⟨0x0A, 0, .forward 1 0 0 []⟩ := by
  decide +kernel
theorem witness_RadioAndForwarding_free : forwardCode { root with cw := { root.cw with hops := [(0, { trained := true }), (1, { trained := true })] } } 1 = 0 := by decide +kernel

/-! Witnesses: further clauses. -/

/-- A firmware update in progress. -/
def job : FwJob := ⟨some 0, 0, List.replicate 101 0, 404, true, true, false, false⟩

theorem witness_ConfigurationCommit_store : StoreAfter rb ∧ ¬ StoreAfter { rb with fw := { job := some job } } :=
  ⟨(fun _ h => by cases h), fun h => absurd (h job rfl) (by decide)⟩
theorem witness_FirmwareUpdate_tick : ({ rb with fw := { job := some job } } : Block).fw.job = some job ∧ framesRun { rb with fw := { job := some job } } = true ∧ rb.fw.job = none ∧
    job.afterCommit = false ∧ job.afterFlush = false ∧ rb.fw.running < 2 ∧ rb.fw.copies.length = 2 ∧ rb.fw.words.length = 2 ∧ 100 < job.words.length ∧
    ({ job with words := [0], ok := false } : FwJob).words.length ≤ 100 ∧ ({ job with ok := false } : FwJob).ok = false ∧ ({ job with final := false } : FwJob).final = false := by
  decide +kernel
theorem witness_LifeCycleRequests_locked : getF rb F.LC_STATE_LOCKED = 0 ∧ getF (setF F.LC_STATE_LOCKED 1 rb) F.LC_STATE_LOCKED = 1 := by decide +kernel
theorem witness_ConfigurationRequests_lock : ({ at_ 2000 cb with clock := { (at_ 2000 cb).clock with lockUs := 0 } } : Block).hst.perstAt = 0 ∧ 100000 ≤ 50 * devF (at_ 2000 cb) + (at_ 2000 cb).clock.lockUs ∧
    50 * devF cb + cb.clock.lockUs < 100000 ∧ (State.reset.block).hst.inReset = true ∧ awake State.reset.block = false := by decide +kernel
theorem witness_Doorbells_stage : hstResets due = false ∧ due.hst.fetchAt ≠ devF due + 1 ∧ ({ due with hst := { due.hst with fetchAt := 1 } } : Block).hst.fetchAt = devF due + 1 ∧
    hstResets { due with sl := { blkRun := [(.hst, 5)] } } = true ∧ (0x20 : BitVec 20).toNat % 4 = 0 ∧ (0x20 : BitVec 20).toNat < 65536 ∧
    (∀ r : Fin 16, (0x20 : BitVec 20).toNat ≠ 0x1000 + 0x100 * r.val) ∧ 12 ≤ (0x20 : BitVec 20).toNat ∧ (0x2 : BitVec 20).toNat % 4 ≠ 0 ∧ 65536 ≤ (0x10000 : BitVec 20).toNat := by decide +kernel
theorem witness_RegisterWrites_width : pcieUp cb = true ∧ (1 : BitVec 20).toNat % 4 ≠ 0 ∧ (0x20 : BitVec 20).toNat % 4 = 0 := by decide +kernel
theorem witness_HalfReads_scan : rb.pwr.resetHold = false ∧ State.reset.block.pwr.resetHold = true := by decide +kernel
theorem witness_SpiPort_refused : crc8 (wireBytes [0]) ≠ 0 ∧ 0xFFFFC < bitsOf 0x100000 0 24 ∧ bitsOf 0x100000 0 24 % 4 = 0 ∧ headerCrc 0 0x100000 < 256 ∧ headerCrc 1 0x100000 < 256 ∧
    headerCrc 3 0x100000 < 256 ∧ 0xFFFFC < bitsOf 0x10FFFFC 0 24 + 4 * bitsOf 0x10FFFFC 24 6 ∧ bitsOf 0x10FFFFC 24 6 + 1 = 2 ∧ headerCrc 1 0x10FFFFC < 256 ∧
    bitsOf 0x1000 12 12 ≠ 0 ∧ bitsOf 0x4000000 26 4 ≠ 0 ∧ headerCrc 2 0x1000 < 256 := by decide +kernel
theorem witness_RegisterBatches_others : ({ cb with sl := { blkOwed := [.hst] } } : Block).sl.blkOwed.contains .hst = true ∧ cb.sl.blkOwed.contains .hst = false ∧ d0.wfail = false ∧
    getF follower F.CW_STATUS_ADDR = (1 : Fin 32).val ∧ getF follower F.CW_STATUS_ADDR ≠ (2 : Fin 32).val ∧ framesRun follower = true ∧ passesOn follower = true ∧ passesOn rb = false := by
  decide +kernel
theorem witness_SelfTests_states : serves rb = true ∧ serves parking = false ∧ (1 : Nat) < 256 ∧ rb.fen.step = none ∧ rolling.bist.again = false := by decide +kernel
theorem witness_BalancingOrders_sets : setsWaiting (manual 0) = [[0]] ∧ setsWaiting rb = [] ∧ (setsWaiting { manual 0 with bal := { mode := 1, sets := [(0, [1])], regSet := [0] } }).getLast? = some [0] ∧
    inSafe (manual 0) = false ∧ (manual 0).bal.mode = 1 ∧ policyExcites rb 1 = false ∧
    (sqOf { cb with hst := { cb.hst with sq := [(0, { en := true, running := some ⟨3, 0, .balSet⟩ })] } } 0).running = some ⟨3, 0, .balSet⟩ := by decide +kernel
theorem witness_BalancingOrders_bad : entryBad (manual 0) 0 ∧ ¬ entryBad (manual 0) 0xC0F00001 := by
  refine ⟨by simp [entryBad, bitsOf], ?_⟩
  have h : bitsOf (0xC0F00001 : Word).toNat 16 4 = 0 := by decide +kernel
  have e : (0xC0F00001 : Word).toNat / 2 ^ 24 = 192 := by decide +kernel
  have p : present (manual 0) 192 = true := by decide +kernel
  have r : 1670 ≤ rBal (manual 0) 192 := by decide +kernel
  simp only [entryBad, h, e, p]; simpa using r
theorem witness_LedgerFlushes_update : (∃ j, ({ rb with fw := { job := some job } } : Block).fw.job = some j ∧ j.afterFlush = false) ∧
    (∀ j, ({ rb with fw := { job := some { job with afterFlush := true } } } : Block).fw.job = some j → j.afterFlush = true) ∧
    ({ rb with cfg := { captured := some [] } } : Block).cfg.captured ≠ none :=
  ⟨⟨job, rfl, rfl⟩, (fun _ h => by cases h; rfl), by decide⟩

/-- A ring of 64 KiB whose record of two words has stalled. -/
def stalled : Block := setF (F.CAP_RSTAT_STALL 0) 1 (setR (R.CAP_WR 0) 0xFFFC { rb with cap := { rings := [(0, { en := true, need := 2 })] } })

theorem witness_CaptureRings_stall : ((getR stalled (R.CAP_WR 0)).toNat + 4 * (ringOf stalled 0).need + 2 ^ 32 - (4 : Word).toNat) % 2 ^ 32 ≤ ringSize (ringOf stalled 0) ∧
    ringSize (ringOf stalled 0) < ((getR stalled (R.CAP_WR 0)).toNat + 4 * (ringOf stalled 0).need + 2 ^ 32 - (0 : Word).toNat) % 2 ^ 32 ∧
    getF stalled (F.CAP_RSTAT_STALL 0) = 1 ∧ capAhead stalled 0 4 ≤ capSpan stalled 0 := by decide +kernel
theorem witness_CaptureRings_overlap : (ringOf { rb with cap := { rings := [(1, { en := true, base := 1023, units := 1 })] } } 1).en = true ∧ getF ring (F.CAP_GEOM_BASE 0) < 1023 + 1 ∧
    1023 < getF ring (F.CAP_GEOM_BASE 0) + capUnits ring 0 := by decide +kernel
theorem witness_CapturePull_on : (4 : Nat) < 8 ∧ (sqOf { ring7 1 with hst := { cb.hst with sq := [(0, { en := true, running := some ⟨5, 0, .capPull 7 0 8 0 4 4 false⟩ })] } } 0).running =
      some ⟨5, 0, .capPull 7 0 8 0 4 4 false⟩ ∧ capSpan (ring7 1) 7 < capAhead (ring7 1) 7 (0 + 4) + (8 - 4) ∧ capAhead (ring7 1) 7 (0 + 0) + (4 - 0) ≤ capSpan (ring7 1) 7 := by decide +kernel
theorem witness_TierRingAndSupplies_lock : (hopOf broken 16).upLock = true ∧ (hopOf broken 16).downLock = true ∧ (hopOf fed 16).upLock = false ∧
    ({ fed with fe := { fed.fe with missOvr := some (0, true) } } : Block).fe.missOvr = some (devF fed, true) := by decide +kernel
theorem witness_TierData_deadline : tierSends fed 15 = true ∧ tierSends rb 15 = false ∧ fed.fe.since < devF (at_ 1 fed) ∧ devF fed ≤ fed.fe.since ∧ fed.fe.crcBad = [] ∧
    (15, 3) ∈ ({ fed with fe := { fed.fe with crcBad := [(15, 3)] } } : Block).fe.crcBad := by decide +kernel
theorem witness_TierChecks_sets : fieldIn (tierSet (diag 0) 15) (F.FE_TIER_CTL_OW_EN 15) ≠ 0 ∧ (diag 0).cw.jumpAt ≠ some (devF (diag 0)) ∧
    fieldIn (tierSet (at_ 220 fed) 15) (F.FE_TIER_CTL_CHK_EN 15) ≠ 0 ∧ (∀ n ∈ owList (owCells (diag 0) 15 (owNext (diag 0) 15)), owBusy (diag 0) n (devF (diag 0)) = false) ∧
    tierAvail { fed with bw := { fed.bw with numbered := [] } } 15 = false ∧ tierPowered { fed with bw := { fed.bw with numbered := [] } } 15 = true := by decide +kernel
theorem witness_CopiesAndSwaps_shut : fenReset adapting = false ∧ fenReset { adapting with sl := { blkRun := [(.fen, 5)] } } = true ∧ isF (setF F.FEN_STATUS_SWAP_PEND 1 adapting) F.FEN_STATUS_SWAP_PEND = true ∧
    memOut (setF F.BIST_FAILED_MEM 1 (staging 5)) = true ∧ isF (setF F.BIST_FAILED_APP 1 adapting) F.BIST_FAILED_APP = true := by decide +kernel
theorem witness_ImageStaging_recheck : (imgRecheck { cb with fen := {} }.fen.staged (presentCells cb) (stepMsNow cb)).isSome = true ∧ imgState (staging 3) = 3 ∧
    (staging 3).lc.acting ≠ .retired := by decide +kernel
theorem witness_CausewayRoles_tokens : cwMode (loose 0) = 0 ∧ cwMode (loose 1) = 0 ∧ getF (loose 1) F.CW_CTL_ROLE = 1 ∧ getF rb F.CW_CTL_MODE = 0 ∧
    ({ follower with cw := { follower.cw with tokenAt := some 0 } } : Block).cw.tokenAt.any (fun d => decide (devF follower ≤ d + 100)) = true ∧ roleAct follower ≠ 1 ∧ cwMode follower ≠ 0 ∧
    follower.cw.tokenAt = none ∧ getF follower F.CW_CTL_MODE = 0 ∧ getF (setF F.CW_CTL_MODE 1 (setF F.CW_CTL_ROLE 1 follower)) F.CW_CTL_MODE ≠ 0 ∧
    getF (setF F.CW_CTL_MODE 1 (setF F.CW_CTL_ROLE 1 follower)) F.CW_CTL_ROLE = 1 ∧ (roleAct root = 1 ∧ root.cw.modules < (2 : BitVec 7).toNat) ∧ hopEnd root 1 = true := by decide +kernel
theorem witness_CausewayRoles_south : tagFits follower 0 6 [31, 0] ⟨tagOn follower 0 0 6 [31, 0], 0⟩ = true := by decide +kernel
theorem witness_CausewaySync_more : ({ follower with cw := { follower.cw with syncAt := some 0 } } : Block).cw.syncAt = some (devF follower) ∧ follower.cw.syncAt ≠ some (devF follower) ∧
    isF (setF F.CW_STATUS_SYNC_RADIO 1 follower) F.CW_STATUS_SYNC_RADIO = true ∧ isF follower F.CW_STATUS_SYNC_RADIO = false ∧ passesOn follower = true ∧ passesOn root = false ∧
    enumerating follower = false := by decide +kernel
theorem witness_RadioAndForwarding_more : cwSynced onAir = true ∧ passesOn root = false ∧ passesOn follower = true ∧ isRoot onAir = true ∧ 1 ∈ onAir.cw.nodes ∧
    isFollower follower = true ∧ isRoot follower = false ∧ cwSynced follower = false ∧ wired { follower with cw := { follower.cw with mode := 3 } } = false ∧
    tagPasses follower (radioFirst [1, 0, 0, 0, 9, 0, 0, 0] follower) 0 5 [1, 0, 0, 0, 9, 0, 0, 0] (cwTag follower 9 0 5 [1, 0, 0, 0, 9, 0, 0, 0]) = true := by decide +kernel

/-! Numbers of the spec's worked examples. -/

theorem test_frame_of_timestamp : frame { rb with clock := { ticks := 614406956, running := true } } = 1200013 := by decide +kernel
theorem test_record_header : recHead ⟨1, 0, true, true, false, 1234567, 0, List.replicate 196 0⟩ = 0x010600C6 := by decide +kernel
theorem test_cell_words : mkWord 3700000 false false false false false false false false = 0x38752000 ∧
    mkWord (unsigned 24 (-250000)) false false false false false false false false = 0xFC2F7000 ∧
    mkWord 3700000 false false true true false false false false = 0x38752030 ∧ mkWord 0x7FFFFF true false false false false false false false = 0x7FFFFF84 := by
  decide +kernel
theorem test_reedline_crc : crcRl [0x03] = 0x09 ∧ crcRl [0x4B] = 0xF6 ∧ crcRl [0x4B, 0x81] = 0x42 := by decide +kernel
theorem test_engine_prediction : predOf 153477064 100 = 732 := by decide +kernel
theorem test_engine_fit : fits 7313 4104904 69376 100 = true := by decide +kernel
/-- The bus template of the engine's chapter, its fields at offset 0. -/
theorem test_cell_cost : cellCost [(0, 0x0C101414), (1, 0x0003020A), (2, 0x0604)] 0 = 6961792 := by decide +kernel
theorem test_quiet_length : quietLen rb [(F.FLT_CTL_RATE.reg, w32 (5 * 2 ^ F.FLT_CTL_RATE.lo + 3 * 2 ^ F.FLT_CTL_ORDER.lo))] = 161 := by decide +kernel
theorem test_window_addresses : R.RES_FRAME 98 = 0x40188 ∧ R.EST_CELL 100 0 = 0x52C60 := by decide
theorem test_spi_decimation : [0, 2, 3, 4].map (fun r => decimAct { rb with act := [(F.FLT_CTL_RATE.reg, w32 (setBitsOf 0 F.FLT_CTL_RATE.lo F.FLT_CTL_RATE.len r))] } 0) = [19, 4, 1, 0] := by
  decide +kernel
theorem test_fast_string_cycle : cycleUs (setF (F.RL_TIER_CTL_AVG 5) 1 { rb with rl := { strings := [(5, { fastFrom := some 0 })] } }) 5 12 = 19412 := by decide +kernel
theorem test_standard_string_cycle : cycleUs (setF (F.RL_TIER_CTL_AVG 5) 1 rb) 5 12 = 83220 := by decide +kernel

/-- Two uncleared sources on tier 3: FE_CHK[3] and BAL_FET[3]. -/
def twoFaults : Block := setR (R.SL_STICKY 1) 0x00080000 (setR (R.SL_LIVE 1) 0x00080000 (setR (R.SL_STICKY 5) 8 (setR (R.SL_LIVE 5) 8 (at_ 800081 { rb with sl := { hbt := true } }))))

theorem test_two_faults_summary : slSummary twoFaults = 0xC00200CB ∧ forcedTiers twoFaults = [3] ∧ uncleared twoFaults = [0x033, 0x0A3] := by decide +kernel

/-! Single commands. -/

/-- The block after one command. -/
def after (i : Instr) (b : Block) : Block :=
  match exec i ⟨b, []⟩ with
  | .next t => t.block
  | _ => b

theorem test_frame_tick : frame (after (.frameTick 0) (at_ 19 rb)) = 20 ∧ (after (.frameTick 0) (at_ 19 rb)).fe.jobs.length = 1 := by decide +kernel
theorem test_frame_tick_not_in_boot : (after (.frameTick 0) State.reset.block).clock.ticks = 0 := by decide +kernel
theorem test_power_on_cause : getR (after .powerOnReset rb) R.PWR_CAUSE = 0x100 ∧ (after .powerOnReset rb).pwr.state = .off := by decide +kernel
theorem test_boot_reaches_run : (after (.boot bi) State.reset.block).pwr.state = .run := by decide +kernel
theorem test_boot_safe_in : (after (.boot { bi with safeIn := true }) State.reset.block).pwr.state = .safe := by decide +kernel
theorem test_safe_in : (after .safeInAssert rb).pwr.state = .safe ∧ getR (after .safeInAssert rb) (R.SL_STICKY 0) = 0x40 := by decide +kernel
theorem test_park_refused : getF (after (.pwrRequestPark 0) (setR R.PWR_WAKE_CTL 0 rb)) F.PWR_CTL_REFUSED = 1 := by decide +kernel
theorem test_service_key_in_field : getF (after .lcStoreServiceKey (living .field rb)) F.LC_STATE_RESULT = 2 := by decide +kernel
theorem test_transition_not_listed : getF (after (.lcTransition 2) rb) F.LC_STATE_RESULT = 2 := by decide +kernel
theorem test_injection_in_field : getF (after (.slInjSet 0 1) (living .field rb)) F.SL_STATUS_INJ_REFUSED = 1 := by decide +kernel
theorem test_spi_read_devid : (after (.spiRead 0 18 96) rb).out.any (fun o => match o with | .spi ws _ => ws == [0x5A531916] | _ => false) = true := by decide +kernel
theorem test_spi_read_bad_crc : getF (after (.spiRead 0 19 96) rb) F.SPI_STATUS_CRC_ERR = 1 := by decide +kernel
theorem test_pcie_identity : (after (.pcieConfigRequest (.read 0)) (at_ 2000 cb)).out = [.pcieConfig false 0x19161F2E] := by decide +kernel
theorem test_link_up : getF (after (.pcieLinkUp 3 true) { rb with hst := { inReset := false } }) F.HST_LINK_WIDTH = 2 := by decide +kernel
theorem test_quota_too_large : getF (after (.hstQuotaWrite 31 513) cb) F.HST_STATUS_QUOTA_REJ = 1 := by decide +kernel
theorem test_balance_not_manual : (after .balSetApply { rb with bal := { regSet := [0x19F00258] } }).bal.lastSet = 2 := by decide +kernel
theorem test_hop_break_map : wordAt (after (.hopBreak 15 true 0) (at_ 500001 fed)) R.BW_BREAK_MAP = 0x00008000 ∧
    wordAt (after (.frameTick 0) (after (.hopBreak 15 true 0) (at_ 500001 fed))) R.BW_ROUTE = 0x80007FFF := by decide +kernel
theorem test_supply_loss_twice : after (.tierSupplyLoss 3) (after (.tierSupplyLoss 3) fed) = after (.tierSupplyLoss 3) fed := by decide +kernel
theorem test_learn : getF (after (.rlLearn 0) (setF (F.RL_TIER_STATUS_COUNT 5) 12 rb)) (F.RL_TOPO_EXPECT 5) = 12 := by decide +kernel
theorem test_commit_pends : getF (after (.feCommit 1) rb) F.FE_COMMIT_PENDING = 1 := by decide +kernel
theorem test_validate_empty : getF (after (.imgValidate 0) rb) F.FEN_IMG_STATUS_REJECT = 1 ∧ imgState (after (.imgValidate 0) rb) = 4 := by decide +kernel
theorem test_swap_without_image : getF (after (.imgSwapRequest 0) rb) F.FEN_IMG_STATUS_SWAP_RESULT = 2 := by decide +kernel
theorem test_image_words : mapGet (fun _ => (0 : Word)) (after (.fenImgWdata 7) (after (.fenImgWdata 5) (after (.fenImgWaddr 8) rb))).fen.staged 3 = 7 := by decide +kernel
theorem test_halt_at_eight : getF (after .stepOverrun (setF F.FEN_OVR_CNT_CONSEC 7 (at_ 2000 (stepping false false)))) F.FEN_STATUS_HALTED = 1 := by decide +kernel
theorem test_seven_do_not_halt : getF (after .stepOverrun (setF F.FEN_OVR_CNT_CONSEC 6 (at_ 2000 (stepping false false)))) F.FEN_STATUS_HALTED = 0 := by decide +kernel
theorem test_erase_in_field : getF (after (.ledErase 0xA5000000) (living .field rb)) F.LED_STATUS_ERASE_REFUSED = 1 := by decide +kernel
theorem test_mark_unaligned : getF (after (.capMarkWrite 7 2) (ring7 1)) (F.CAP_RSTAT_MARK_REJ 7) = 1 := by decide +kernel
theorem test_trigger : capState (after (.capTrig 7 0xC0000000) (ring7 1)) 7 = 2 ∧ getF (after (.capTrig 7 0xC0000000) (ring7 1)) (F.CAP_RSTAT_CAUSE_HOST 7) = 1 := by decide +kernel
theorem test_capture_read : (after (.capRdData .spi) (setF F.CAP_RD_CTL_RING 7 (ring7 1))).out = [.read .spi R.CAP_RD_DATA 5] := by decide +kernel
theorem test_capture_read_beyond : getF (after (.capRdData .spi) rb) F.CAP_RD_CTL_LOST = 1 ∧ getR (after (.capRdData .spi) rb) R.CAP_RD_POS = 4 := by decide +kernel
theorem test_self_test_in_field : getF (after (.bistCtlRun 0x10000000) (living .field rb)) F.BIST_STATUS_RESULT = 5 := by decide +kernel
theorem test_self_test_starts : (after .bistRunStart { rb with bist := { request := some (0, 1) } }).bist.host = some ⟨0, 1, 0⟩ := by decide +kernel
theorem test_unknown_opcode : ((cqOf (after (.unknownOpcodeDescriptor 0 0x0F d0) cb) (cqNo cb 0)).waiting.map (·.status)) = [St.unknownOpcode] := by decide +kernel
theorem test_sync_locks : getF (after (.syncBlock ⟨false, 0, 0, 0, 0, 0, []⟩) (at_ 1 { follower with cw := { follower.cw with locked := 19, syncAt := some 0 } })) F.CW_STATUS_LOCKED = 1 ∧
    getF (after (.syncBlock ⟨false, 0, 0, 0, 0, 0, []⟩) { follower with cw := { follower.cw with locked := 19, syncAt := some 0 } }) F.CW_STATUS_LOCKED = 0 := by decide +kernel
theorem test_jump : frame (after (.frameNumberJump ⟨7, 0⟩) locked) = 7 ∧ (after (.frameNumberJump ⟨7, 0⟩) locked).clock.ticks = 512 := by decide +kernel
theorem test_heartbeat : getF (after (.heartbeatReceive 1 true 3) root) (F.CW_NODE_STATUS_HB_SEV 1) = 3 := by decide +kernel
theorem test_forward_to_nobody : getF (after (.cwFwdGo 0x1F000020) rb) F.CW_FWD_CTL_RESULT = 5 := by decide +kernel
theorem test_half_read_latched : (after (.highHalfRead .spi (BitVec.ofNat 20 (R.GEN_TIME_LO + 4))) { rb with latch := { spi := some (R.GEN_TIME_LO, 2 ^ 33) } }).out =
    [.read .spi (R.GEN_TIME_LO + 4) 2] := by decide +kernel
theorem test_torn : getF (after (.highHalfRead .spi (BitVec.ofNat 20 (R.GEN_TIME_LO + 4))) rb) F.SPI_STATUS_TORN = 1 := by decide +kernel

end Sys2Proof.Tests
end

namespace Sys2Proof.Machine

/-! The register file in canonical form: each operation of the model keeps it, in the order of the model's files. -/

variable {b : Block}

theorem mapWfFrom_filter {α : Type} [DecidableEq α] (d : Nat → α) (p : Nat × α → Bool) (l : List (Nat × α)) (lo : Nat) (w : mapWfFrom d l lo = true) :
    mapWfFrom d (l.filter p) lo = true := by
  induction l generalizing lo with
  | nil => rfl
  | cons x l ih =>
    simp only [mapWfFrom, Bool.and_eq_true, decide_eq_true_eq] at w
    obtain ⟨⟨hlo, hne⟩, hl⟩ := w
    rw [List.filter_cons]; split
    · simp only [mapWfFrom, Bool.and_eq_true, decide_eq_true_eq]
      exact ⟨⟨hlo, hne⟩, ih _ hl⟩
    · exact mapWfFrom_mono d _ (Nat.le_succ_of_le hlo) (ih _ hl)

/-- What is left of a map in canonical form is in canonical form. -/
theorem mapWf_filter {α : Type} [DecidableEq α] (d : Nat → α) (p : Nat × α → Bool) (l : List (Nat × α)) (w : mapWf d l = true) :
    mapWf d (l.filter p) = true :=
  mapWfFrom_filter d p l 0 w

theorem Canonical.ite {c : Prop} [Decidable c] {x y : Block} (hx : Canonical x) (hy : Canonical y) : Canonical (if c then x else y) := by
  split
  · exact hx
  · exact hy

theorem Canonical.dite {c : Prop} [Decidable c] {x : c → Block} {y : ¬c → Block} (hx : ∀ k, Canonical (x k)) (hy : ∀ k, Canonical (y k)) :
    Canonical (if k : c then x k else y k) := by
  split
  · exact hx _
  · exact hy _

/-- A change of fields beside the registers. -/
theorem Canonical.other {act clock pins pwr fw lc cfg sl hst spi latch cap fe bal imp bw rl cw fen pol led bist calib dieIds carry recs out freeCtr}
    (h : Canonical b) :
    Canonical ⟨b.regs, act, clock, pins, pwr, fw, lc, cfg, sl, hst, spi, latch, cap, fe, bal, imp, bw, rl, cw, fen, pol, led, bist, calib, dieIds, carry, recs, out,
      freeCtr⟩ := h


/-! Machine/Ops.lean -/

theorem Canonical.setR {a w} (h : Canonical b) : Canonical (setR a w b) := mapWf_mapPut _ _ _ _ h
/-- Registers of a group return to their reset values. -/
theorem Canonical.dropRegs {p : Nat × Word → Bool} (h : Canonical b) : Canonical { b with regs := b.regs.filter p } :=
  mapWf_filter _ _ _ h
theorem Canonical.setF {f v} (h : Canonical b) : Canonical (setF f v b) := h.setR
theorem Canonical.putF {f c} (h : Canonical b) : Canonical (putF f c b) := h.setF
theorem Canonical.addF {f n} (h : Canonical b) : Canonical (addF f n b) := h.setF
theorem Canonical.incF {f} (h : Canonical b) : Canonical (incF f b) := h.setF
theorem Canonical.writeBits {a v} (h : Canonical b) : Canonical (writeBits a v b) := by
  unfold Machine.writeBits; split
  exacts [h, h.setR]
theorem Canonical.each {α : Type} {l : List α} {f : α → Block → Block} (h : Canonical b) (hf : ∀ x c, Canonical c → Canonical (f x c)) :
    Canonical (each l f b) := by
  unfold Machine.each
  induction l generalizing b with
  | nil => exact h
  | cons x l ih => exact ih (hf x b h)
theorem Canonical.when {c : Bool} {f : Block → Block} (h : Canonical b) (hf : ∀ c, Canonical c → Canonical (f c)) : Canonical (when c f b) :=
  .ite (hf _ h) h
theorem Canonical.inFrame {f : Block → Block} (h : Canonical b) (hf : ∀ c, Canonical c → Canonical (f c)) : Canonical (inFrame f b) :=
  .ite (hf _ h) h
theorem Canonical.fresh (h : Canonical b) : Canonical (fresh b).2 := h
theorem Canonical.stampNow (h : Canonical b) : Canonical (stampNow b).2 := h
theorem Canonical.emitOut {o} (h : Canonical b) : Canonical (emitOut o b) := h
theorem Canonical.putCond {i c} (h : Canonical b) : Canonical (putCond i c b) := h
theorem Canonical.setLevel {i on det} (h : Canonical b) : Canonical (setLevel i on det b) := h.putCond
theorem Canonical.levelBit {i k on} (h : Canonical b) : Canonical (levelBit i k on b) := h.putCond
theorem Canonical.pulse {i det} (h : Canonical b) : Canonical (pulse i det b) := h.putCond
theorem Canonical.event {code sub index v0 v1} (h : Canonical b) : Canonical (event code sub index v0 v1 b) := h
theorem Canonical.journal {kind sub index value} (h : Canonical b) : Canonical (journal kind sub index value b) := h
theorem Canonical.cntAdd {i n} (h : Canonical b) : Canonical (cntAdd i n b) := .when (.setF (.setR (.when h (fun _ h => h.setR.setF)))) (fun _ h => h.setF)
theorem Canonical.count {code n q} (h : Canonical b) : Canonical (count code n q b) := .ite h (.each h (fun _ _ h => .when h (fun _ h => h.cntAdd)))
theorem Canonical.dmaWrite {addr ws} (h : Canonical b) : Canonical (dmaWrite addr ws b) := .ite h h.emitOut
theorem Canonical.resumeAfter {f : Block → Block} (h : Canonical b) (hf : ∀ c, Canonical c → Canonical (f c)) : Canonical (resumeAfter f b) :=
  .ite (hf _ h) (hf _ h)
theorem Canonical.pendVec {v} (h : Canonical b) : Canonical (pendVec v b) := .ite h h
theorem Canonical.sendVec0 (h : Canonical b) : Canonical (sendVec0 b) := .ite h (.ite h (.emitOut h))
theorem Canonical.putSq {q x} (h : Canonical b) : Canonical (putSq q x b) := h
theorem Canonical.putCq {q x} (h : Canonical b) : Canonical (putCq q x b) := h
theorem Canonical.putSr {s x} (h : Canonical b) : Canonical (putSr s x b) := h
theorem Canonical.putFifo {f x} (h : Canonical b) : Canonical (putFifo f x b) := h
theorem Canonical.putRing {r x} (h : Canonical b) : Canonical (putRing r x b) := h
theorem Canonical.putBal {n x} (h : Canonical b) : Canonical (putBal n x b) := h

/-! Machine/Records.lean -/

theorem Canonical.putArrBit {base i on} (h : Canonical b) : Canonical (putArrBit base i on b) := h.setR
theorem Canonical.srPut {s ws} (h : Canonical b) : Canonical (srPut s ws b) := .setF (.ite h.emitOut.emitOut h.emitOut)
theorem Canonical.srPlace {s r} (h : Canonical b) : Canonical (srPlace s r b) := .pendVec (.putF (.count (.srPut (.ite h.fresh.srPut h))))
theorem Canonical.srDrop {s n} (h : Canonical b) : Canonical (srDrop s n b) := .ite h (.pendVec (.count (.pulse (.other h.addF.putSr))))
theorem Canonical.srOffer {s r} (h : Canonical b) : Canonical (srOffer s r b) := .ite h.putSr.srPlace (.ite h.putF.putSr.count h.putF.srDrop)
theorem Canonical.srDrain {s n moved} (h : Canonical b) : Canonical (srDrain s n moved b).2 := by
  induction n generalizing b moved with
  | zero => exact h
  | succ n ih =>
    unfold Machine.srDrain; split
    · exact h
    · split
      · exact ih (.srPlace h.putSr)
      · exact h
theorem Canonical.fifoCross {f before} (h : Canonical b) : Canonical (fifoCross f before b) := .when h (fun _ h => h.setF)
theorem Canonical.fifoOffer {f r} (h : Canonical b) : Canonical (fifoOffer f r b) := .ite h.putFifo.count.fifoCross h.putFifo.addF.setF.pulse.count
theorem Canonical.capLoseMark {r} (h : Canonical b) : Canonical (capLoseMark r b) := h.setF.setF.pulse
theorem Canonical.capOverlay {area o} (h : Canonical b) : Canonical (capOverlay area o b) := .ite h (.ite h h.putRing.setR)
theorem Canonical.capOffer {r rc} (h : Canonical b) : Canonical (capOffer r rc b) :=
  .ite h.putRing.addF.setF.levelBit.count (.count (.each (.setR (.setR (.putRing (.when h (fun _ h => h.capLoseMark))))) (fun _ _ h => h.capOverlay)))
theorem Canonical.capGive {r rc} (h : Canonical b) : Canonical (capGive r rc b) := .ite h.putRing.addF.count h.capOffer
theorem Canonical.capAll {rc} (h : Canonical b) : Canonical (capAll rc b) := .each h (fun _ _ h => .ite h.capGive h)
theorem Canonical.capRaw {fr} (h : Canonical b) : Canonical (capRaw fr b) := .each h (fun _ _ h => .ite h.capGive h)
theorem Canonical.setWords {a ws} (h : Canonical b) : Canonical (setWords a ws b) := by
  induction ws generalizing a b with
  | nil => exact h
  | cons w ws ih => exact ih h.setR
theorem Canonical.setPair {a v} (h : Canonical b) : Canonical (setPair a v b) := h.setR.setR
theorem Canonical.setStamp {a d} (h : Canonical b) : Canonical (setStamp a d b) := h.setPair
theorem Canonical.windows {r} (h : Canonical b) : Canonical (windows r b) := by
  unfold Machine.windows; split
  exacts [h.stampNow.setWords.setStamp.setPair.setR, h.setWords.setStamp.setR,
    .setR (.setStamp (.each (.each h.setWords (fun _ _ h => h.setWords)) (fun _ _ h => .when h (fun _ h => h.setWords)))), h]
theorem Canonical.takeWork (h : Canonical b) : Canonical (takeWork b) := h
theorem Canonical.emitOvertaken (h : Canonical b) : Canonical (emitOvertaken b) := .ite h (.other h.takeWork)
theorem Canonical.takeEvents {due} (h : Canonical b) : Canonical (takeEvents due b).2 := .addF h
theorem Canonical.placeOne {r} (h : Canonical b) : Canonical (placeOne r b) := .windows (.capAll (.each h (fun _ _ h => .when h (fun _ h => h.fifoOffer))))
theorem Canonical.streamEmit {s carried new moved} (h : Canonical b) : Canonical (streamEmit s carried new moved b).2 := by
  unfold Machine.streamEmit; split
  · exact h
  · exact .each (.srDrain (.each h fun _ _ h => h.srOffer)) fun _ _ h => h.srOffer
theorem Canonical.streamsEmit {carried new ss moved} (h : Canonical b) : Canonical (streamsEmit carried new ss moved b) := by
  induction ss generalizing b moved with
  | nil => exact h
  | cons s ss ih => exact ih h.streamEmit
theorem Canonical.fifoFlush {f} (h : Canonical b) : Canonical (fifoFlush f b) := .when h (fun _ h => h.putFifo)
theorem Canonical.markChain {rs} (h : Canonical b) : Canonical (markChain rs b).2 := by
  induction rs generalizing b with
  | nil => exact h
  | cons r rs ih =>
    unfold Machine.markChain; split
    · exact h
    · split
      · exact h
      · exact ih h
theorem Canonical.emitRecords {n w} (h : Canonical b) : Canonical (emitRecords n w b) := by
  unfold Machine.emitRecords
  exact .each (.other (.each (.streamsEmit (.other h.takeEvents.markChain)) fun _ _ h => h.capRaw)) fun _ _ h => h.placeOne
theorem Canonical.queueRec {r} (h : Canonical b) : Canonical (queueRec r b) := h

/-! Machine/Sluice.lean -/

theorem Canonical.abandonRebuild (h : Canonical b) : Canonical (abandonRebuild b) := .when (.when h (fun _ h => h.setF)) (fun _ h => h.addF.setF)
theorem Canonical.setPower {p} (h : Canonical b) : Canonical (setPower p b) := .ite h (.other (.when h (fun _ h => h.abandonRebuild)))
theorem Canonical.capTrigger {r slot} (h : Canonical b) : Canonical (capTrigger r slot b) := by
  unfold Machine.capTrigger
  refine .ite h ?_
  split
  · exact h
  · refine .count ?_
    split
    · exact h.putRing.setF.setR.setF
    · exact .setF (.when h.putRing.setF.setR (fun _ h => h.setF))
  · refine .ite ?_ h.addF
    split
    · exact h.setF
    · exact .setF (.when h (fun _ h => h.setF))
theorem Canonical.capSlTrigger {i sev} (h : Canonical b) : Canonical (capSlTrigger i sev b) := .ite h (.each h (fun _ _ h => .when h (fun _ h => h.capTrigger)))
theorem Canonical.freezeCounters (h : Canonical b) : Canonical (freezeCounters b) := .other (.each h (fun _ _ h => .when h (fun _ h => h.setF)))
theorem Canonical.enterSafe {sub index} (h : Canonical b) : Canonical (enterSafe sub index b) := by
  unfold Machine.enterSafe; split
  exacts [.sendVec0 (.event (.setPower h)), .sendVec0 (.event (.setPower h)), h]
theorem Canonical.setSticky {i det} (h : Canonical b) : Canonical (setSticky i det b) := .capSlTrigger (.count (.when h.putArrBit.setR.event (fun _ h => h.journal)))
theorem Canonical.react {new} (h : Canonical b) : Canonical (react new b) :=
  .ite (.other (.when (.when (.when (.when h (fun _ h => h.setF)) (fun _ h => h.pendVec)) (fun _ h => h.sendVec0)) (fun _ h => h.count.freezeCounters.enterSafe)))
    (.each (.when (.when (.when (.when h (fun _ h => h.setF)) (fun _ h => h.pendVec)) (fun _ h => h.sendVec0)) (fun _ h => h.count.freezeCounters.enterSafe))
    (fun _ _ h => .ite h h))
theorem Canonical.hbtFollow (h : Canonical b) : Canonical (hbtFollow b) := .when h (fun _ h => h)
theorem Canonical.hbtStart (h : Canonical b) : Canonical (hbtStart b) := .when h (fun _ h => h)
theorem Canonical.detect {found} (h : Canonical b) : Canonical (detect found b) :=
  .hbtFollow (.react (.each (.each h (fun _ _ h => h.setR)) (fun _ _ h => h.setSticky)))
theorem Canonical.detectNow {i det} (h : Canonical b) : Canonical (detectNow i det b) := h.putCond.putArrBit.detect
theorem Canonical.endNow {i} (h : Canonical b) : Canonical (endNow i b) := h.setLevel.putArrBit
theorem Canonical.detectOnce {i det} (h : Canonical b) : Canonical (detectOnce i det b) := h.detect
theorem Canonical.refreshLevels (h : Canonical b) : Canonical (refreshLevels b) := h.setLevel.setLevel.setLevel.setLevel
theorem Canonical.takeConds (h : Canonical b) : Canonical (takeConds b).2 := .each h.refreshLevels fun _ _ h => h.putCond
theorem Canonical.evaluateWork {w} (h : Canonical b) : Canonical (evaluateWork w b) := .detect (.each h (fun _ _ h => h.putArrBit))
theorem Canonical.evaluate (h : Canonical b) : Canonical (evaluate b) := h.takeConds.evaluateWork
theorem Canonical.evalPassed (h : Canonical b) : Canonical (evalPassed b) := .other h.takeConds
theorem Canonical.evaluateNext (h : Canonical b) : Canonical (evaluateNext b) := by
  unfold Machine.evaluateNext; split
  exacts [.evaluateWork h, .evaluate h]
theorem Canonical.sluiceEval (h : Canonical b) : Canonical (sluiceEval b) := .ite h (.other (.setF (.other h.evaluateNext.hbtFollow)))
theorem Canonical.clearSticky {i} (h : Canonical b) : Canonical (clearSticky i b) :=
  .ite h (.ite (.event (.count (.addF (.putArrBit h)))) (.when h.putArrBit.setR (fun _ h => h.event)))
theorem Canonical.writeSticky {w v} (h : Canonical b) : Canonical (writeSticky w v b) := .hbtFollow (.each h (fun _ _ h => h.clearSticky))
theorem Canonical.writeInj {set w v} (h : Canonical b) : Canonical (writeInj set w v b) := .ite h.setF (.ite h h)
theorem Canonical.injEnd {i} (h : Canonical b) : Canonical (injEnd i b) := .when h.putArrBit (fun _ h => h.putArrBit)
theorem Canonical.liveResume {t} (h : Canonical b) : Canonical (liveResume t b) := .ite h.putArrBit.detect h.putArrBit
theorem Canonical.injTick (h : Canonical b) : Canonical (injTick b) :=
  .detect (.each (.putF (.each (.ite (.each (.each h (fun _ _ h => h.injEnd)) (fun _ _ h => h.putArrBit)) (.each h (fun _ _ h => h.injEnd)))
    (fun _ _ h => h.putArrBit))) (fun _ _ h => h.putArrBit))
theorem Canonical.slCfgTake (h : Canonical b) : Canonical (slCfgTake b) := h
theorem Canonical.sluiceTick (h : Canonical b) : Canonical (sluiceTick b) := .hbtStart
    (.hbtFollow (.injTick (.each (.other h.slCfgTake) (fun _ _ h => h.putArrBit))))
theorem Canonical.holdCond {i det} (h : Canonical b) : Canonical (holdCond i det b) := h.putCond
theorem Canonical.safeInHigh (h : Canonical b) : Canonical (safeInHigh b) := .ite (.hbtFollow (.enterSafe (.detectNow h))) h
theorem Canonical.safeInLow (h : Canonical b) : Canonical (safeInLow b) := .endNow h

/-! Machine/Rings.lean -/

theorem Canonical.finish {q status detail r0 r1} (h : Canonical b) : Canonical (finish q status detail r0 r1 b) := by
  unfold Machine.finish; split
  exacts [h, .ite h.putSq.putCq h.putSq]
theorem Canonical.waitOn {q w} (h : Canonical b) : Canonical (waitOn q w b) := by
  unfold Machine.waitOn; split
  exacts [h, h.putSq]
theorem Canonical.finishAll {p} {f : Nat → Block → Block} (h : Canonical b) (hf : ∀ q c, Canonical c → Canonical (f q c)) : Canonical (finishAll p f b) :=
  .each h fun _ _ h => (by split; exacts [.ite (hf _ _ h) h, h])
theorem Canonical.startCmd {q op d invalid forbidden} {go : Block → Block} (h : Canonical b) (hgo : ∀ c, Canonical c → Canonical (go c)) :
    Canonical (startCmd q op d invalid forbidden go b) :=
  .ite h (.ite h.setR.putSq.finish (.ite h.setR.putSq.finish (hgo _ h.setR.putSq)))
theorem Canonical.dmaFail {q} (h : Canonical b) : Canonical (dmaFail q b) := h.setF.pulse.finish
theorem Canonical.withData {q data} {go : List Word → Block → Block} (h : Canonical b) (hgo : ∀ ws c, Canonical c → Canonical (go ws c)) :
    Canonical (withData q data go b) := by
  unfold Machine.withData; split
  exacts [.ite h.finish h.dmaFail, hgo _ _ h]
theorem Canonical.dmaOut {q fail addr ws status detail r0 r1} (h : Canonical b) : Canonical (dmaOut q fail addr ws status detail r0 r1 b) :=
  .ite h.finish h.dmaWrite.finish
theorem Canonical.postOne {c} (h : Canonical b) : Canonical (postOne c b) := by
  unfold Machine.postOne; extract_lets; split
  exacts [h, .ite h (.pendVec (.count (.putSq (.setR (.other h.putCq.emitOut)))))]
theorem Canonical.postAll (h : Canonical b) : Canonical (postAll b) := .each h (fun _ _ h => .each h (fun _ _ h => h.postOne))

/-! Machine/Balance.lean -/

theorem Canonical.putBalDirty {n c} (h : Canonical b) : Canonical (putBalDirty n c b) := .other h.putBal
theorem Canonical.putGate {n c} (h : Canonical b) : Canonical (putGate n c b) := .putBal (.when h (fun _ h => h.count))
theorem Canonical.balAccrue (h : Canonical b) : Canonical (balAccrue b) := .each h (fun _ _ h => .ite h.putBal h)
theorem Canonical.stopCell {n} (h : Canonical b) : Canonical (stopCell n b) := .ite h h.putBalDirty
theorem Canonical.dropCell {n} (h : Canonical b) : Canonical (dropCell n b) := .ite h h.putBalDirty
theorem Canonical.zeroCell {n} (h : Canonical b) : Canonical (zeroCell n b) := h.putBalDirty
theorem Canonical.tierOff {t} (h : Canonical b) : Canonical (tierOff t b) := .each h (fun _ _ h => .ite h.dropCell.putGate h.dropCell)
theorem Canonical.balForce (h : Canonical b) : Canonical (balForce b) := .each h (fun _ _ h => .each h (fun _ _ h => h.dropCell))
theorem Canonical.balMode (h : Canonical b) : Canonical (balMode b) := .ite h (.each h (fun _ _ h => h.zeroCell))
theorem Canonical.setEntry {w} (h : Canonical b) : Canonical (setEntry w b) := by
  unfold Machine.setEntry; extract_lets; split
  exacts [.each h (fun _ _ h => h.stopCell), .ite h.stopCell h.putBalDirty, h.stopCell]
theorem Canonical.applySet {ws} (h : Canonical b) : Canonical (applySet ws b).2 :=
  .ite (.each h fun _ _ h => h.setEntry) h
theorem Canonical.balSets (h : Canonical b) : Canonical (balSets b) :=
  .ite (.each h (fun _ _ h => (by extract_lets; split; exacts [.ite h.applySet.finish h.applySet, h.applySet])))
    (.applySet (.each h (fun _ _ h => (by extract_lets; split; exacts [.ite h.applySet.finish h.applySet, h.applySet]))))
theorem Canonical.balCleared (h : Canonical b) : Canonical (balCleared b) := .ite h (.each h (fun _ _ h => h.dropCell))
theorem Canonical.balTargets (h : Canonical b) : Canonical (balTargets b) := .ite h (.each h (fun _ _ h => .ite h (.putBalDirty h)))
theorem Canonical.balPeriod (h : Canonical b) : Canonical (balPeriod b) :=
  .other (.each (.each h (fun _ _ h => .ite h h.putBalDirty)) (fun _ _ h => .other (.when h (fun _ h => h.count))))
theorem Canonical.balMet (h : Canonical b) : Canonical (balMet b) := .each h (fun _ _ h => (by extract_lets; split; exacts [.ite h.stopCell h, h]))
theorem Canonical.govern {t} (h : Canonical b) : Canonical (govern t b) := .other (.each h (fun _ _ h => .ite h h.putBal))
theorem Canonical.balGovern (h : Canonical b) : Canonical (balGovern b) := .each (.each h (fun _ _ h => h.govern)) (fun _ _ h => .ite h h.setLevel)
theorem Canonical.balGates (h : Canonical b) : Canonical (balGates b) := .each h (fun _ _ h => .ite h (.putGate (.ite h h)))
theorem Canonical.balRbal (h : Canonical b) : Canonical (balRbal b) := .each h (fun _ _ h => h)
theorem Canonical.balActs (h : Canonical b) : Canonical (balActs b) := .balMet
    (.when h.balRbal.balForce.balMode.balSets.balCleared.balTargets (fun _ h => h.balPeriod))
theorem Canonical.fetCheck {avail vds} (h : Canonical b) : Canonical (fetCheck avail vds b) :=
  .each (.each h (fun _ _ h => .ite h (.ite h h.putGate)))
    (fun _ _ h => .ite (.each (.other (.ite h h.setLevel)) (fun _ _ h => .ite h.putGate h)) (.ite h h.setLevel))
theorem Canonical.fetReport {t} (h : Canonical b) : Canonical (fetReport t b) := .ite h (.ite (.endNow h) (.detectNow h))
theorem Canonical.parkAuto {t} (h : Canonical b) : Canonical (parkAuto t b) := .each h (fun _ _ h => .ite h.stopCell h.putBal)
theorem Canonical.balPark (h : Canonical b) : Canonical (balPark b) :=
  .other (.balGovern (.other (.ite (.each (.each h (fun _ _ h => .ite h h.zeroCell.putGate)) (fun _ _ h => h.parkAuto))
    (.each h (fun _ _ h => .ite h h.zeroCell.putGate)))))
theorem Canonical.parkBleed {lo span n} (h : Canonical b) : Canonical (parkBleed lo span n b) := .ite h h.putBal
theorem Canonical.parkSpan {lo stop} (h : Canonical b) : Canonical (parkSpan lo stop b) := by
  unfold Machine.parkSpan
  exact .when (.each h fun _ _ h => h.parkBleed) fun _ h => h.balPeriod.balGovern
theorem Canonical.balParked {n lo hi} (h : Canonical b) : Canonical (balParked n lo hi b) := by
  induction n generalizing lo b with
  | zero => exact h
  | succ n ih => exact .ite h (ih h.parkSpan)
theorem Canonical.writeSetReg {v} (h : Canonical b) : Canonical (writeSetReg v b) := h

/-! Machine/FrontEnd.lean -/

theorem Canonical.addSetl {x} (h : Canonical b) : Canonical (addSetl x b) := h
theorem Canonical.setlNow {lo hi filter} (h : Canonical b) : Canonical (setlNow lo hi filter b) := .addSetl (.when h (fun _ h => h))
theorem Canonical.tierReturn {t} (h : Canonical b) : Canonical (tierReturn t b) := .ite h.setlNow.setlNow h.setlNow
theorem Canonical.overrun {bit} (h : Canonical b) : Canonical (overrun bit b) := .ite h (.count (.setF (.ite (.event (.pulse (.count (.addF h)))) h)))
theorem Canonical.markPoints {d f} (h : Canonical b) : Canonical (markPoints d f b) := h
theorem Canonical.spoil {cs d} (h : Canonical b) : Canonical (spoil cs d b) := h.markPoints
theorem Canonical.overrange {ch xs} (h : Canonical b) : Canonical (overrange ch xs b) := by
  unfold Machine.overrange
  dsimp only; split
  · exact h
  · exact .when (.other h) fun _ h => .each h.addSetl fun _ _ h => h.addSetl
theorem Canonical.spoilRange {d ch xs} (h : Canonical b) : Canonical (spoilRange d ch xs b) := .ite h (.ite h.spoil h.markPoints)
theorem Canonical.markMiss {t d} (h : Canonical b) : Canonical (markMiss t d b) := h
theorem Canonical.firstVn {n xs} (h : Canonical b) : Canonical (firstVn n xs b) := .ite h (by split; exacts [h.putBal, h])
theorem Canonical.filterIn {t d xs} (h : Canonical b) : Canonical (filterIn t d xs b) := .ite h h
theorem Canonical.keepBlock {t d xs whole} (h : Canonical b) : Canonical (keepBlock t d xs whole b) := h
theorem Canonical.hopErrored {hop up} (h : Canonical b) : Canonical (hopErrored hop up b) := h
theorem Canonical.hopViol {e} (h : Canonical b) : Canonical (hopViol e b) := .ite h h.addF.hopErrored
theorem Canonical.takeBlock {t k} (h : Canonical b) : Canonical (takeBlock t k b) :=
  .ite h (.fetReport (.each (.each h (fun _ _ h => h.overrange)) (fun _ _ h => h.firstVn)))
theorem Canonical.tierBlock {t k} (h : Canonical b) : Canonical (tierBlock t k b) :=
  .ite h (have h₁ : Canonical _ := .keepBlock (.filterIn (.each h (fun _ _ h => h.hopViol)));
    by split; exacts [.ite h₁.addF.count.hopErrored (.other h₁.addF.count.hopErrored), .ite h₁.takeBlock h₁])
theorem Canonical.collectOverrun (h : Canonical b) : Canonical (collectOverrun b) := .overrun h
theorem Canonical.collectForgive (h : Canonical b) : Canonical (collectForgive b) := by
  unfold Machine.collectForgive; split
  exacts [.ite h (.ite (.putCond (.setR (.other (.when h (fun _ h => h.setF))))) (.other (.when h (fun _ h => h.setF)))), h]
theorem Canonical.collectDeadline (h : Canonical b) : Canonical (collectDeadline b) :=
  .ite h (.ite h (.when (.each (.each h (fun _ _ h => h.markMiss)) (fun _ _ h => h.pulse)) (fun _ h => h.collectOverrun)))
theorem Canonical.plausibility {o w1 w2} (h : Canonical b) : Canonical (plausibility o w1 w2 b) := .ite h (.ite h (.setLevel h))
theorem Canonical.countWord {w q} (h : Canonical b) : Canonical (countWord w q b) := .ite h (.each h (fun _ _ h => .when h (fun _ h => h.count)))
theorem Canonical.filterOutput {codes} (h : Canonical b) : Canonical (filterOutput codes b) := by
  unfold Machine.filterOutput
  split
  · exact h
  · exact .queueRec (.other (.countWord (.countWord (.each (.plausibility (.other h)) fun _ _ h => h.countWord))))
theorem Canonical.owPostpone {t j} (h : Canonical b) : Canonical (owPostpone t j b) := .when (.count (.addF h)) (fun _ h => h.levelBit)
theorem Canonical.openWireTest (h : Canonical b) : Canonical (openWireTest b) :=
  .ite h (.each h (fun _ _ h => .ite h (.ite h.setF.owPostpone
    (.ite (.ite (.other (.other h.setF)) (.each (.other (.other h.setF)) (fun _ _ h => h.addSetl))) (.other h.setF)))))
theorem Canonical.owHarness {x shift8} (h : Canonical b) : Canonical (owHarness x shift8 b) := .ite h (.ite (.setF (.setF h)) (.setF (.setF h)))
theorem Canonical.owJudge {x} (h : Canonical b) : Canonical (owJudge x b) :=
  .ite h.owPostpone (.ite (.spoil (.levelBit (.other (.levelBit (.other h.setF.count)))))
    (.ite (.owHarness (.levelBit (.other h.setF.count)))
    (.ite (.other (.owHarness (.levelBit (.other h.setF.count)))) (.levelBit (.other (.owHarness (.levelBit (.other h.setF.count))))))))
theorem Canonical.owEval (h : Canonical b) : Canonical (owEval b) := by
  unfold Machine.owEval; split
  exacts [.ite (.each h (fun _ _ h => h.owJudge)) h, h]
theorem Canonical.chkCycle (h : Canonical b) : Canonical (chkCycle b) := .when h (fun _ h => h)
theorem Canonical.checkConversion {ks} (h : Canonical b) : Canonical (checkConversion ks b) := .ite h (.each h (fun _ _ h => .ite h h))
theorem Canonical.chkJudge {p} (h : Canonical b) : Canonical (chkJudge p b) := .ite h (.levelBit (.other (.when h.setF.setF.count (fun _ h => h.count))))
theorem Canonical.chkEval (h : Canonical b) : Canonical (chkEval b) := .each h (fun _ _ h => h.chkJudge)
theorem Canonical.judgeLast (h : Canonical b) : Canonical (judgeLast b) := h.owEval.chkEval
theorem Canonical.outputFormed {codes} (h : Canonical b) : Canonical (outputFormed codes b) := .ite h h.judgeLast.filterOutput
theorem Canonical.levelLater {i on det} (h : Canonical b) : Canonical (levelLater i on det b) := h
theorem Canonical.levelsTick (h : Canonical b) : Canonical (levelsTick b) := .each h (fun _ _ h => h.setLevel)
theorem Canonical.checkRefCross {ks} (h : Canonical b) : Canonical (checkRefCross ks b) := .ite h (.each h (fun _ _ h => .ite h h.setF.setF.levelLater))
theorem Canonical.driftCheck (h : Canonical b) : Canonical (driftCheck b) := .levelLater (.when (.when h (fun _ h => h.setF)) (fun _ h => h))
theorem Canonical.auxTake {x} (h : Canonical b) : Canonical (auxTake x b) :=
  .other (.ite (.levelLater (.ite h.setF.setF.setF.setF.levelLater h.setF.setF.setF.setF)) (.ite h.setF.setF.setF.setF.levelLater h.setF.setF.setF.setF))
theorem Canonical.auxTier {x} (h : Canonical b) : Canonical (auxTier x b) := .ite (.other h.auxTake) (.ite h h)
theorem Canonical.auxLate (h : Canonical b) : Canonical (auxLate b) := .each h (fun _ _ h => h.auxTake)
theorem Canonical.stackCheck {v1 v2} (h : Canonical b) : Canonical (stackCheck v1 v2 b) :=
  .ite (.when (.putF (.other h.setR.setR)) (fun _ h => h.event)) (.levelLater (.setR (.when (.putF (.other h.setR.setR)) (fun _ h => h.event))))
theorem Canonical.tierSumCheck {x} (h : Canonical b) : Canonical (tierSumCheck x b) := .ite h (.ite h.levelLater h)
theorem Canonical.auxDone {xs} (h : Canonical b) : Canonical (auxDone xs b) := by
  refine .ite h (.driftCheck ?_)
  split
  · exact .stackCheck (.each (.each h (fun _ _ h => h.auxTier)) (fun _ _ h => h.tierSumCheck))
  · exact .each (.each h (fun _ _ h => h.auxTier)) (fun _ _ h => h.tierSumCheck)
theorem Canonical.auxRecord {first dev} (h : Canonical b) : Canonical (auxRecord first dev b) := h.queueRec
theorem Canonical.auxClose {first dev} (h : Canonical b) : Canonical (auxClose first dev b) := .other h.auxRecord
theorem Canonical.chainEnds {jump} (h : Canonical b) : Canonical (chainEnds jump b) := h
theorem Canonical.formJobs (h : Canonical b) : Canonical (formJobs b) := .ite h h
theorem Canonical.jobsOvertaken (h : Canonical b) : Canonical (jobsOvertaken b) := .ite h (.overrun h)
theorem Canonical.chainAverages {x j} (h : Canonical b) : Canonical (chainAverages x j b) :=
  .each (.each (.each h (fun _ _ h => .putBal h)) (fun _ _ h => h)) (fun _ _ h => .ite h.levelBit h)
theorem Canonical.putDelays {ds} (h : Canonical b) : Canonical (putDelays ds b) := .each h (fun _ _ h => .other h.setF.setF)
theorem Canonical.alignRun (h : Canonical b) : Canonical (alignRun b) := .ite h h
theorem Canonical.fineStart (h : Canonical b) : Canonical (fineStart b) := .ite h (.ite h h)
theorem Canonical.fineDone (h : Canonical b) : Canonical (fineDone b) := .setLevel (.setF h)
theorem Canonical.fineApply {ds} (h : Canonical b) : Canonical (fineApply ds b) := by
  unfold Machine.fineApply; split
  exacts [.ite h (.addSetl (.setF (.fineDone (.putDelays h)))), h]
theorem Canonical.fineAbort (h : Canonical b) : Canonical (fineAbort b) := .ite h (.when (.setF (.other h)) (fun _ h => h.setLevel))
theorem Canonical.alignTiers {ts} (h : Canonical b) : Canonical (alignTiers ts b) := .ite h (.when h (fun _ h => h.setF))
theorem Canonical.alignStart (h : Canonical b) : Canonical (alignStart b) := .ite h h
theorem Canonical.alignDone {ds} (h : Canonical b) : Canonical (alignDone ds b) :=
  .ite h (.when (.fineDone (.each (.putDelays h) (fun _ _ h => h.tierReturn))) (fun _ h => h.setF))

/-! Machine/Impedance.lean -/

theorem Canonical.putSweep {w} (h : Canonical b) : Canonical (putSweep w b) := h
theorem Canonical.endExcite {n} (h : Canonical b) : Canonical (endExcite n b) := .ite h h.putBalDirty
theorem Canonical.endHolds (h : Canonical b) : Canonical (endHolds b) := .each h (fun _ _ h => .ite h.endExcite.putBal h.endExcite)
theorem Canonical.startExcite {w} (h : Canonical b) : Canonical (startExcite w b).2 :=
  .count (.each (.each (.each h fun _ _ h => .ite h.putBalDirty h) fun _ _ h => h.putBalDirty) fun _ _ h => h.putBal)
theorem Canonical.passStart (h : Canonical b) : Canonical (passStart b) := by
  unfold Machine.passStart; split
  exacts [h, .ite h (.ite (.putSweep (.startExcite h)) (.putSweep h))]
theorem Canonical.sweepEnd {w result} (h : Canonical b) : Canonical (sweepEnd w result b) := by
  unfold Machine.sweepEnd
  exact .finishAll (.when (.other h) fun _ h => h.pulse) fun _ _ h => h.finish
theorem Canonical.sweepAbort {result} (h : Canonical b) : Canonical (sweepAbort result b) := by
  unfold Machine.sweepAbort; split
  exacts [h, .sweepEnd h]
theorem Canonical.passEnd (h : Canonical b) : Canonical (passEnd b) := by
  unfold Machine.passEnd; split
  exacts [h, (by split; exacts [h, .ite h (.ite h.putSweep (.ite (.sweepEnd h) (.putSweep h)))])]
theorem Canonical.stopLowered (h : Canonical b) : Canonical (stopLowered b) := by
  unfold Machine.stopLowered; split
  exacts [h, (by split; exacts [h, .ite h (.putSweep (.each h (fun _ _ h => h.endExcite)))])]
theorem Canonical.passNote (h : Canonical b) : Canonical (passNote b) := by
  unfold Machine.passNote; split
  exacts [h, (by split; exacts [h, .ite h (.putSweep h)])]
theorem Canonical.demodIn {t d xs} (h : Canonical b) : Canonical (demodIn t d xs b) := .ite h h
theorem Canonical.sweepRequest {s q} (h : Canonical b) : Canonical (sweepRequest s q b) := by
  unfold Machine.sweepRequest
  refine .ite ?_ ?_
  · cases q with
    | none => exact h
    | some q => exact .finish h
  · have next : ∀ (p : Option Sweep) (f : Sweep → Block) (c : Block), (∀ w, Canonical (f w)) → Canonical c →
        Canonical (match p with | some w => f w | none => c) := fun p _ _ hf hc => by cases p; exacts [hc, hf _]
    cases q with
    | none => exact next _ _ _ (fun _ => h) (.putSweep h)
    | some q =>
      dsimp only; split
      · split
        · exact .waitOn (next _ _ _ (fun _ => h) (.putSweep h))
        · exact .finish (next _ _ _ (fun _ => h) (.putSweep h))
      · exact next _ _ _ (fun _ => h) (.putSweep h)
theorem Canonical.nextStart (h : Canonical b) : Canonical (nextStart b) := by
  unfold Machine.nextStart; split
  exacts [.ite h (.putSweep h), h]
theorem Canonical.sweepAccept (h : Canonical b) : Canonical (sweepAccept b) := by
  unfold Machine.sweepAccept
  have h := Canonical.each (f := fun x b => Machine.sweepRequest x.1 x.2 b) (l := b.imp.host) (b := { b with imp := { b.imp with host := [] } }) h fun _ _ h =>
    h.sweepRequest
  dsimp only; split
  · exact h
  · exact .ite h (.ite h (.ite h (.ite h (.putSweep h))))
theorem Canonical.passRelease (h : Canonical b) : Canonical (passRelease b) := .ite h h.endHolds
theorem Canonical.sweepAborts (h : Canonical b) : Canonical (sweepAborts b) := .when (.other (.when h (fun _ h => h.sweepAbort))) (fun _ h => h.sweepAbort)
theorem Canonical.impTick (h : Canonical b) : Canonical (impTick b) := h.sweepAborts.passRelease.nextStart.sweepAccept.passStart.stopLowered
theorem Canonical.keepResult {d ws} (h : Canonical b) : Canonical (keepResult d ws b) := .ite h h
theorem Canonical.pointEnd {refs cells} (h : Canonical b) : Canonical (pointEnd refs cells b) := by
  unfold Machine.pointEnd; split
  exacts [h, .queueRec (.each (.other (.each h (fun _ _ h => h.pulse))) (fun _ _ h => h.keepResult))]
theorem Canonical.writeImpCtl {v} (h : Canonical b) : Canonical (writeImpCtl v b) :=
  .ite (.other (.ite (.other (.ite (.other h.writeBits) h.writeBits)) (.ite (.other h.writeBits) h.writeBits)))
    (.ite (.other (.ite (.other h.writeBits) h.writeBits)) (.ite (.other h.writeBits) h.writeBits))

/-! Machine/Reedline.lean -/

theorem Canonical.putString {t x} (h : Canonical b) : Canonical (putString t x b) := h
theorem Canonical.walkNext {t} (h : Canonical b) : Canonical (walkNext t b) := h.putString
theorem Canonical.runWalk {t x} (h : Canonical b) : Canonical (runWalk t x b) := h.emitOut.putString
theorem Canonical.runCycle {t x} (h : Canonical b) : Canonical (runCycle t x b) := h.emitOut.putString
theorem Canonical.stringsRun {xs} (h : Canonical b) : Canonical (stringsRun xs b) :=
  .ite h (.each h (fun _ _ h => .ite h (.ite h.runWalk (.ite h (.ite h.addF (.ite h.runWalk h.runCycle))))))
theorem Canonical.countCheck {t count} (h : Canonical b) : Canonical (countCheck t count b) := .ite (.setLevel h) h
theorem Canonical.topoCheck {t} (h : Canonical b) : Canonical (topoCheck t b) := .ite h h.setLevel
theorem Canonical.surface {j t d} (h : Canonical b) : Canonical (surface j t d b) := .ite h (.each h (fun _ _ h => .ite h h))
theorem Canonical.deliver {j t d} (h : Canonical b) : Canonical (deliver j t d b) := by
  unfold Machine.deliver
  refine .ite ?_ (.surface ?_)
  all_goals
    refine .ite (.countCheck ?_) (.pulse (.countCheck ?_))
    all_goals exact .ite (.each h.addF.addF.count.count.putF.putF.setF fun _ _ h => h) (.count (.each h.addF.addF.count.count.setF fun _ _ h => h))
theorem Canonical.deliverAll {j} (h : Canonical b) : Canonical (deliverAll j b) := .each h (fun _ _ h => .ite h (.each h.putString (fun _ _ h => h.deliver)))
theorem Canonical.stringDrop {t soon} (h : Canonical b) : Canonical (stringDrop t soon b) := h.putString
theorem Canonical.rlLearn (h : Canonical b) : Canonical (rlLearn b) := .each h (fun _ _ h => h.setF.topoCheck)
theorem Canonical.writeRlCtl {v} (h : Canonical b) : Canonical (writeRlCtl v b) :=
  .when (.when h.writeBits (fun _ h => h.rlLearn)) (fun _ h => .each h (fun _ _ h => h.walkNext))
theorem Canonical.writeTagSel {v} (h : Canonical b) : Canonical (writeTagSel v b) := h.writeBits.setR.setR.setR

/-! Machine/Fast.lean -/

theorem Canonical.putFast {n c} (h : Canonical b) : Canonical (putFast n c b) := h
theorem Canonical.integrate {n q} (h : Canonical b) : Canonical (integrate n q b) := .putFast h
theorem Canonical.holdLimit (h : Canonical b) : Canonical (holdLimit b) := .ite (.each h.setF.setLevel (fun _ _ h => h.setF)) h
theorem Canonical.currentTaken {j} (h : Canonical b) : Canonical (currentTaken j b) := by
  unfold Machine.currentTaken; split
  exacts [.ite (.setLevel (.each (.setF (.setF h)) (fun _ _ h => h.setF))) (.setF (.setF h)), .holdLimit (.count (.addF (.addF h)))]
theorem Canonical.tickSums {j} (h : Canonical b) : Canonical (tickSums j b) := h
theorem Canonical.tickCharge {j} (h : Canonical b) : Canonical (tickCharge j b) := .each h (fun _ _ h => h.integrate)
theorem Canonical.integrator {j} (h : Canonical b) : Canonical (integrator j b) := h.currentTaken.tickSums.tickCharge
theorem Canonical.fastLookup {n} (h : Canonical b) : Canonical (fastLookup n b) := h.putFast
theorem Canonical.fastPublish {n} (h : Canonical b) : Canonical (fastPublish n b) := h.setF.setF.setR.putF
theorem Canonical.fastStep {n i dt held bad} (h : Canonical b) : Canonical (fastStep n i dt held bad b) := h.putFast.fastPublish
theorem Canonical.fastLayer {j} (h : Canonical b) : Canonical (fastLayer j b) := .ite h (.each h (fun _ _ h => .ite (.ite (.fastPublish (.putFast h)) h) h.fastStep))
theorem Canonical.closeInterval {j} (h : Canonical b) : Canonical (closeInterval j b) := by
  unfold Machine.closeInterval; split
  exacts [h, .ite h h]
theorem Canonical.dropInterval {s} (h : Canonical b) : Canonical (dropInterval s b) := h
theorem Canonical.parkCharge {secs cont bleed} (h : Canonical b) : Canonical (parkCharge secs cont bleed b) := .each h (fun _ _ h => h.integrate)
theorem Canonical.fastWake {kept} (h : Canonical b) : Canonical (fastWake kept b) := .ite h (.each h (fun _ _ h => (by extract_lets; split; exacts [h.putFast, h])))
theorem Canonical.putHalf {x} (h : Canonical b) : Canonical (putHalf x b) := h
theorem Canonical.writeNodeSel {v} (h : Canonical b) : Canonical (writeNodeSel v b) := h.writeBits.setR.setR.setF.setF

/-! Machine/Policy.lean -/

theorem Canonical.putPolCell {n c} (h : Canonical b) : Canonical (putPolCell n c b) := h
theorem Canonical.autoTargets {es} (h : Canonical b) : Canonical (autoTargets es b) := h
theorem Canonical.autoSweep {s} (h : Canonical b) : Canonical (autoSweep s b) := .ite h (.ite h (.ite h h))
theorem Canonical.selfDischarge {s es} (h : Canonical b) : Canonical (selfDischarge s es b) := .each h (fun _ _ h => h.putPolCell)
theorem Canonical.polSources {s es} (h : Canonical b) : Canonical (polSources s es b) := h
theorem Canonical.zriseCheck (h : Canonical b) : Canonical (zriseCheck b) := h
theorem Canonical.polPublish {s seed es} (h : Canonical b) : Canonical (polPublish s seed es b) := .ite (.other h.putF.putF.setF) h
theorem Canonical.polKeep {es} (h : Canonical b) : Canonical (polKeep es b) := .each h (fun _ _ h => h.putPolCell)
theorem Canonical.polTargets {mode es} (h : Canonical b) : Canonical (polTargets mode es b) := .when h (fun _ h => h.autoTargets)
theorem Canonical.polAge (h : Canonical b) : Canonical (polAge b) := h
theorem Canonical.policyStep {s seed} (h : Canonical b) : Canonical (policyStep s seed b) :=
  .polAge (.when (.polTargets (.when h.polPublish.polKeep.selfDischarge (fun _ h => h.polSources))) (fun _ h => h.autoSweep))
theorem Canonical.putNotchState {k x} (h : Canonical b) : Canonical (putNotchState k x b) := h
theorem Canonical.placeNotch {k p} (h : Canonical b) : Canonical (placeNotch k p b) := h
theorem Canonical.rippleIn {d xs} (h : Canonical b) : Canonical (rippleIn d xs b) := .ite h h
theorem Canonical.rippleDone {given} (h : Canonical b) : Canonical (rippleDone given b) := by
  unfold Machine.rippleDone
  refine .ite h (.each h (fun _ _ h => .ite h ?_))
  extract_lets
  split
  all_goals exact .ite h.putNotchState.placeNotch h.putNotchState
theorem Canonical.ovrEvent {o what} (h : Canonical b) : Canonical (ovrEvent o what b) := h.journal.event
theorem Canonical.countOvr (h : Canonical b) : Canonical (countOvr b) := h.setF
theorem Canonical.dropOvr {keep} (h : Canonical b) : Canonical (dropOvr keep b) := .countOvr (.each h (fun _ _ h => h.ovrEvent))
theorem Canonical.askOverride {o} (h : Canonical b) : Canonical (askOverride o b) :=
  .ite (by extract_lets; split; exacts [h.addF.setF.finish, h.addF.setF]) (by extract_lets; split; exacts [.waitOn h, h])
theorem Canonical.ovrAct {o} (h : Canonical b) : Canonical (ovrAct o b) := .ite (.ite h h) (.ite h.placeNotch h)
theorem Canonical.takeOne {o} (h : Canonical b) : Canonical (takeOne o b).2 := by
  unfold Machine.takeOne
  dsimp only
  split; exact h.addF
  split; exact h.addF
  split
  · split
    · exact .ovrEvent h
    · split <;> exact h.addF
  split; exact h.addF
  split; exact h.addF
  refine .ovrAct (.ovrEvent (.addF ?_))
  split
  · exact .other h.ovrEvent
  · exact .other h
theorem Canonical.takeUp (h : Canonical b) : Canonical (takeUp b) :=
  .countOvr (.each h (fun _ _ h => (by extract_lets; split; exacts [h.takeOne.setF.finish, h.takeOne.setF])))
theorem Canonical.expireOvr (h : Canonical b) : Canonical (expireOvr b) := .ite h (.countOvr (.each h (fun _ _ h => h.ovrEvent)))
theorem Canonical.ovrPark (h : Canonical b) : Canonical (ovrPark b) := .other h.dropOvr
theorem Canonical.polModeChange (h : Canonical b) : Canonical (polModeChange b) :=
  .ite h (.setF (.dropOvr (.ite (.other (.ite (.each (.other (.ite (.other (.each h (fun _ _ h => h.placeNotch))) h)) (fun _ _ h => .ite h h.setLevel.putArrBit))
    (.ite (.other (.each h (fun _ _ h => h.placeNotch))) h)))
    (.ite (.each (.other (.ite (.other (.each h (fun _ _ h => h.placeNotch))) h)) (fun _ _ h => .ite h h.setLevel.putArrBit))
    (.ite (.other (.each h (fun _ _ h => h.placeNotch))) h)))))
theorem Canonical.polTick (h : Canonical b) : Canonical (polTick b) := .expireOvr
    (.other (.each (by split; exacts [.queueRec h, h]) (fun _ _ h => .ite h h.setLevel)))
theorem Canonical.writeOvrCtl {v} (h : Canonical b) : Canonical (writeOvrCtl v b) := .when h.writeBits (fun _ h => h.askOverride)

/-! Machine/Fen.lean -/

theorem Canonical.describePred (h : Canonical b) : Canonical (describePred b) := .ite h h.setF
theorem Canonical.describeImage (h : Canonical b) : Canonical (describeImage b) :=
  .describePred (.each h.setR.setR.setR.setR.setR (fun _ _ h => .ite h.setF.setF.setF.setR h.setR.setR.setR.setR))
theorem Canonical.unhalt (h : Canonical b) : Canonical (unhalt b) := .ite h (.setLevel (.setF (.setF h)))
theorem Canonical.haltCheck (h : Canonical b) : Canonical (haltCheck b) := .ite h.setF.setLevel h
theorem Canonical.stepAbandon (h : Canonical b) : Canonical (stepAbandon b) := by
  unfold Machine.stepAbandon; split
  exacts [h, .ite h (.haltCheck (.count (.pulse (.addF (.addF h)))))]
theorem Canonical.stepLength (h : Canonical b) : Canonical (stepLength b) := .ite h.setF.setF.unhalt.describePred h
theorem Canonical.swapCopies (h : Canonical b) : Canonical (swapCopies b) := .other h.setF.incF.count
theorem Canonical.adaptSwap (h : Canonical b) : Canonical (adaptSwap b) := .ite (.zriseCheck (.addF (.swapCopies h))) h
theorem Canonical.applyDefaults (h : Canonical b) : Canonical (applyDefaults b) := .ite h (.each h (fun _ _ h => h.writeBits))
theorem Canonical.imageSwap (h : Canonical b) : Canonical (imageSwap b) :=
  .ite h (.zriseCheck (.applyDefaults (.unhalt
    (.setF (.other (.each (.putHalf (.ite (.other h.swapCopies) (.each (.other (.other h.swapCopies)) (fun _ _ h => h.putFast)))) (fun _ _ h => h.setF)))))))
theorem Canonical.stepBegin (h : Canonical b) : Canonical (stepBegin b) := .ite h (.ite h.addF.count (.ite h h))
theorem Canonical.stepBoundary (h : Canonical b) : Canonical (stepBoundary b) :=
  .ite (.each (.stepBegin (.when (.takeUp (.polModeChange (.other (.imageSwap (.adaptSwap (.stepLength (.stepAbandon h))))))) (fun _ h => h.unhalt)))
    (fun _ _ h => h.fastLookup)) (.stepBegin
    (.when (.takeUp (.polModeChange (.other (.imageSwap (.adaptSwap (.stepLength (.stepAbandon h))))))) (fun _ h => h.unhalt)))
theorem Canonical.sinceUs {start} (h : Canonical b) : Canonical (sinceUs start b).2 := h.fresh
theorem Canonical.stepDone (h : Canonical b) : Canonical (stepDone b) := h.incF.setR
theorem Canonical.fenStepComplete (h : Canonical b) : Canonical (fenStepComplete b) := by
  unfold Machine.fenStepComplete; split
  exacts [h, .ite h (.dropInterval (.other (.each (.policyStep (.each h.sinceUs.putHalf.stepDone.count.setF.setR.setF.setR (fun _ _ h => h.putF)))
    (fun _ _ h => h.setF))))]
theorem Canonical.layoutDone (h : Canonical b) : Canonical (layoutDone b) := by
  unfold Machine.layoutDone; split
  exacts [h, .ite h (.describeImage (.setLevel (.journal (.setF (.setF (.setR (.setR (.setF (.setF (.stepDone h))))))))))]
theorem Canonical.setImgState {n} (h : Canonical b) : Canonical (setImgState n b) := h.setF
theorem Canonical.writeFenCtl {v} (h : Canonical b) : Canonical (writeFenCtl v b) :=
  .when (.ite (.other (.ite h.writeBits.setF.setF h.writeBits.putF)) (.ite h.writeBits.setF.setF h.writeBits.putF)) (fun _ h => h.abandonRebuild)
theorem Canonical.throttle {temp} (h : Canonical b) : Canonical (throttle temp b) := .ite h h.putF.pulse
theorem Canonical.rebuildStart (h : Canonical b) : Canonical (rebuildStart b) := .ite (.setF h) h
theorem Canonical.rebuildDone {cells crcOk} (h : Canonical b) : Canonical (rebuildDone cells crcOk b) :=
  .ite h (.ite (.setF (.setF (.setF h))) (.pulse (.addF (.setF h))))
theorem Canonical.stageMoved {n} (h : Canonical b) : Canonical (stageMoved n b) := .setImgState (.setF h)
theorem Canonical.writeWaddr {v} (h : Canonical b) : Canonical (writeWaddr v b) := .ite h.setF (.stageMoved (.writeBits h))
theorem Canonical.writeWdata {v} (h : Canonical b) : Canonical (writeWdata v b) := .ite h.setF (.setF (.stageMoved h))
theorem Canonical.imgClear (h : Canonical b) : Canonical (imgClear b) := .ite (.stageMoved h) h.setF
theorem Canonical.imgValidate (h : Canonical b) : Canonical (imgValidate b) := .ite h (by split; exacts [h.setImgState.setF.setR, h.setImgState, h.setImgState, h])
theorem Canonical.imgSwapAsk (h : Canonical b) : Canonical (imgSwapAsk b) := .ite h (.ite h.setF (by split; exacts [h.setImgState.setF.setR.setF, h]))
theorem Canonical.validationDone (h : Canonical b) : Canonical (validationDone b) := by
  unfold Machine.validationDone
  refine .ite h ?_
  have bad : ∀ code o, Canonical (Machine.setF F.FEN_IMG_STATUS_SIGNED 0
    (Machine.setR R.FEN_IMG_DETAIL o (Machine.setF F.FEN_IMG_STATUS_REJECT code (Machine.setImgState 4 b)))) :=
    fun _ _ => h.setImgState.setF.setR.setF
  have good : ∀ w₁ w₂ w₃ w₄ s, Canonical (Machine.putF F.FEN_IMG_STATUS_SIGNED s (Machine.setF F.FEN_IMG_STATUS_REJECT 0 (Machine.setImgState 3
      (Machine.setR R.FEN_IMG_NCALC w₁ (Machine.setR R.FEN_IMG_PCALC w₂ (Machine.setR R.FEN_IMG_STAGED_ID w₃ (Machine.setR R.FEN_IMG_LEN w₄ b))))))) :=
    fun _ _ _ _ _ => h.setR.setR.setR.setR.setImgState.setF.putF
  dsimp only
  generalize imgVerdict _ _ _ _ _ = v
  cases v with
  | none =>
    dsimp only; split
    · exact good _ _ _ _ _
    · split
      · exact .when (.other (good _ _ _ _ _)) fun _ h => h.imgSwapAsk
      all_goals exact .finish (.when (.other (good _ _ _ _ _)) fun _ h => h.imgSwapAsk)
  | some x =>
    dsimp only; split
    · exact bad _ _
    · split
      · exact .when (.other (bad _ _)) fun _ h => h.imgSwapAsk
      all_goals exact .finish (.when (.other (bad _ _)) fun _ h => h.imgSwapAsk)
theorem Canonical.buildStart (h : Canonical b) : Canonical (buildStart b) := .ite h (.ite h (.setImgState (.abandonRebuild h)))
theorem Canonical.buildDone {crcOk} (h : Canonical b) : Canonical (buildDone crcOk b) :=
  .ite h (.ite (.setF (.setImgState h)) (.ite (.setF (.setImgState h)) (.setImgState (.setF (.setF h)))))
theorem Canonical.estimatesInvalid (h : Canonical b) : Canonical (estimatesInvalid b) := h
theorem Canonical.noImage (h : Canonical b) : Canonical (noImage b) := .setF (.other (.when h (fun _ h => h.abandonRebuild.estimatesInvalid.setLevel)))
theorem Canonical.cancelSwap {result} (h : Canonical b) : Canonical (cancelSwap result b) := .ite h
    (.setF (.setF (.setImgState (.when h (fun _ h => h.noImage.setF)))))
theorem Canonical.imageInvalid (h : Canonical b) : Canonical (imageInvalid b) := .when h.cancelSwap (fun _ h => h.noImage)
theorem Canonical.stageLost (h : Canonical b) : Canonical (stageLost b) := by
  unfold Machine.stageLost
  dsimp only; split
  · exact .stageMoved (.cancelSwap h)
  · split
    · exact .other (.stageMoved (.cancelSwap h))
    · exact .finish (.other (.stageMoved (.cancelSwap h)))
theorem Canonical.resetBut {kept a} (h : Canonical b) : Canonical (resetBut kept a b) := h.setR
theorem Canonical.fenResetStart {crcBad} (h : Canonical b) : Canonical (fenResetStart crcBad b) :=
  .setLevel (.setLevel (.each (.when (.resetBut (.resetBut (.resetBut (.each (.other h.abandonRebuild.cancelSwap) (fun _ _ h => h.setR))))) (fun _ h => h.setF))
    (fun _ _ h => h.putFast)))
theorem Canonical.fenResetEnd (h : Canonical b) : Canonical (fenResetEnd b) :=
  .ite h (.ite (.noImage h) (.each (.putF (.setR (.describeImage h))) (fun _ _ h => h.putFast)))
theorem Canonical.writeImgCtl {v} (h : Canonical b) : Canonical (writeImgCtl v b) :=
  .when (.when (.when (.ite h.writeBits.setF h.writeBits) (fun _ h => h.imgClear)) (fun _ h => h.imgValidate)) (fun _ h => h.imgSwapAsk)

/-! Machine/Ledger.lean -/

theorem Canonical.journalWrite (h : Canonical b) : Canonical (journalWrite b) := .ite h h
theorem Canonical.ledAccumulate (h : Canonical b) : Canonical (ledAccumulate b) := .each h (fun _ _ h => .ite h h)
theorem Canonical.histogramSecond (h : Canonical b) : Canonical (histogramSecond b) := .ite h h
theorem Canonical.parkSeconds {secs} (h : Canonical b) : Canonical (parkSeconds secs b) := h
theorem Canonical.flushStart (h : Canonical b) : Canonical (flushStart b) := .ite h (.ite h h)
theorem Canonical.flushDone {img} (h : Canonical b) : Canonical (flushDone img b) := h
theorem Canonical.flushFail {img addr} (h : Canonical b) : Canonical (flushFail img addr b) := .detectOnce (.journal (.setF (.other h.fresh)))
theorem Canonical.eraseNow (h : Canonical b) : Canonical (eraseNow b) := h
theorem Canonical.commitTurn (h : Canonical b) : Canonical (commitTurn b) := .ite h h
theorem Canonical.flushEnd {fail} (h : Canonical b) : Canonical (flushEnd fail b) := by
  unfold Machine.flushEnd; split
  exacts [h, .commitTurn (by split; exacts [.flushDone h, .flushFail h])]
theorem Canonical.journalTick (h : Canonical b) : Canonical (journalTick b) := .ite h.journalWrite (.journalWrite (.other (.eraseNow (.journalWrite h))))
theorem Canonical.flushOwed (h : Canonical b) : Canonical (flushOwed b) := .ite h.flushStart h
theorem Canonical.flushPeriodic (h : Canonical b) : Canonical (flushPeriodic b) := .ite h.flushStart h
theorem Canonical.eraseAsk (h : Canonical b) : Canonical (eraseAsk b) := .ite (.flushStart h) h.setF
theorem Canonical.writeLedCtl {v} (h : Canonical b) : Canonical (writeLedCtl v b) :=
  .when (.when h.writeBits (fun _ h => h.flushStart)) (fun _ h => .ite h.eraseAsk h.setF)
theorem Canonical.readLedData (h : Canonical b) : Canonical (readLedData b).2 := h
theorem Canonical.writeLedRd {v} (h : Canonical b) : Canonical (writeLedRd v b) := .other h.writeBits

/-! Machine/Commit.lean -/

theorem Canonical.commitAsk (h : Canonical b) : Canonical (commitAsk b) := h.setF
theorem Canonical.writeFeCommit {v} (h : Canonical b) : Canonical (writeFeCommit v b) := .when h.writeBits (fun _ h => h.commitAsk)
theorem Canonical.activeRegs (h : Canonical b) : Canonical (activeRegs b) := h.setF.setF.putF.putF.putF.putF.setR.setR
theorem Canonical.cellEnChange {old} (h : Canonical b) : Canonical (cellEnChange old b) :=
  .ite h (.imageInvalid (.sweepAbort (.each h (fun _ _ h => h.setlNow.levelBit))))
theorem Canonical.spoilAll {used} (h : Canonical b) : Canonical (spoilAll used b) := h.markPoints
theorem Canonical.applySet2 {s} (h : Canonical b) : Canonical (applySet2 s b) :=
  .when (.when (.spoilAll (.when (.when (.cellEnChange (.when (.when (.activeRegs (.incF h)) (fun _ h => h.setlNow)) (fun _ h => h))) (fun _ h => h.setlNow))
    (fun _ h => h.setlNow))) (fun _ h => h.setLevel)) (fun _ h => h)
theorem Canonical.cfgWriteDone {rejected} (h : Canonical b) : Canonical (cfgWriteDone rejected b) := by
  unfold Machine.cfgWriteDone
  exact .finishAll (.finishAll h fun _ _ h => .ite h.finish h.finish) fun _ _ h => h.finish
theorem Canonical.commitApply (h : Canonical b) : Canonical (commitApply b) :=
  .ite h.cfgWriteDone (.ite h.setF.applySet2.cfgWriteDone h.setF.setR.setF.event.cfgWriteDone)
theorem Canonical.notchPlace (h : Canonical b) : Canonical (notchPlace b) := by
  unfold Machine.notchPlace
  refine .ite h (.when (.activeRegs (.each h fun _ _ h => ?_)) fun _ h => .setlNow h)
  dsimp only; split
  · exact h.setF.setF.setF
  · exact h.setR
theorem Canonical.quietEnd (h : Canonical b) : Canonical (quietEnd b) := by
  unfold Machine.quietEnd; split
  exacts [.ite h h, h]
theorem Canonical.quietStart (h : Canonical b) : Canonical (quietStart b) := .ite h (.count h)

/-! Machine/Boardwalk.lean -/

theorem Canonical.putHop {hop x} (h : Canonical b) : Canonical (putHop hop x b) := h
theorem Canonical.headSwitch (h : Canonical b) : Canonical (headSwitch b) := h
theorem Canonical.ringLevels (h : Canonical b) : Canonical (ringLevels b) := .when (.when h (fun _ h => h.setLevel)) (fun _ h => h.setLevel)
theorem Canonical.markersBack (h : Canonical b) : Canonical (markersBack b) := h
theorem Canonical.hopBreak {hop up errs} (h : Canonical b) : Canonical (hopBreak hop up errs b) :=
  .ite h.putHop (.ringLevels (.fineAbort (.count (.addF (.setR (.putHop (.other (.other (.when h.collectForgive.addF (fun _ h => h))))))))))
theorem Canonical.hopTrain (h : Canonical b) : Canonical (hopTrain b) := .ite h (.each h (fun _ _ h => h.putHop))
theorem Canonical.errBreak {hop} (h : Canonical b) : Canonical (errBreak hop b) := .ite h.hopBreak (.ite h.hopBreak h)
theorem Canonical.rawTaken {t k} (h : Canonical b) : Canonical (rawTaken t k b) :=
  .ite (.rippleIn (.demodIn (.each h (fun _ _ h => h.spoilRange)))) (.demodIn (.each h (fun _ _ h => h.spoilRange)))
theorem Canonical.blockArrives {t k} (h : Canonical b) : Canonical (blockArrives t k b) :=
  .each (.tierBlock (.when h (fun _ h => h.rawTaken))) (fun _ _ h => h.errBreak)
theorem Canonical.repairLoad {ts} (h : Canonical b) : Canonical (repairLoad ts b) := .ite h h
theorem Canonical.enumerate {e} (h : Canonical b) : Canonical (enumerate e b) :=
  .headSwitch (.markersBack (.ringLevels (.when
    (.each (.when (.each h (fun _ _ h => h.putHop)) (fun _ h => h.hopBreak.hopBreak)) (fun _ _ h => h.setR.putF.putF.putF)) (fun _ h => h.setLevel))))
theorem Canonical.enumEnd {e} (h : Canonical b) : Canonical (enumEnd e b) := .alignTiers (.repairLoad (.enumerate h))
theorem Canonical.enumTick (h : Canonical b) : Canonical (enumTick b) := by
  unfold Machine.enumTick; split
  exacts [.ite h.enumEnd h, h]
theorem Canonical.reenum {e} (h : Canonical b) : Canonical (reenum e b) := .ite (.enumEnd h) (.when (.other h) (fun _ h => h.setF))
theorem Canonical.writeBwCtl {v e} (h : Canonical b) : Canonical (writeBwCtl v e b) :=
  .when (.when h.writeBits (fun _ h => .each h.setR (fun _ _ h => h.setR.setR))) (fun _ h => h.reenum)
theorem Canonical.renumber {ts ids} (h : Canonical b) : Canonical (renumber ts ids b) := .when (.each h (fun _ _ h => h.putF.putF.setF.setR)) (fun _ h => h.setLevel)
theorem Canonical.hopRestore {hop ids} (h : Canonical b) : Canonical (hopRestore hop ids b) :=
  .ite h (.headSwitch (.markersBack (.ringLevels (.when (.when (.when h.putHop (fun _ h => h.renumber.repairLoad.alignTiers)) (fun _ h => h)) (fun _ h => h.addF)))))
theorem Canonical.markerLoss {t} (h : Canonical b) : Canonical (markerLoss t b) := by
  unfold Machine.markerLoss; split
  exacts [.ite h (.tierOff h), h]
theorem Canonical.gatesMissed {t} (h : Canonical b) : Canonical (gatesMissed t b) := .each h (fun _ _ h => h.putBal)
theorem Canonical.ackBlocks {t} (h : Canonical b) : Canonical (ackBlocks t b) := .ite h h
theorem Canonical.controlBlock {t missed} (h : Canonical b) : Canonical (controlBlock t missed b) :=
  .ite h (.ite (.ite (.other h.gatesMissed) h.gatesMissed) (.ite (.tierReturn (.other h.ackBlocks)) h.ackBlocks))
theorem Canonical.supplyLoss {t} (h : Canonical b) : Canonical (supplyLoss t b) :=
  .ite h (.ite (.markMiss (.hopBreak (.hopBreak (.fineAbort (.stringDrop (.tierOff h)))))) (.fineAbort (.stringDrop (.tierOff h))))
theorem Canonical.supplyReturn {t} (h : Canonical b) : Canonical (supplyReturn t b) := .ite h (.ite (.alignTiers (.walkNext h)) (.walkNext h))
theorem Canonical.ringRetrain (h : Canonical b) : Canonical (ringRetrain b) := .each h (fun _ _ h => h.putHop)

/-! Machine/Bist.lean -/

theorem Canonical.markLevels (h : Canonical b) : Canonical (markLevels b) :=
  .ite (.each h.putF.putF.putF.putF.setF (fun _ _ h => .ite h h.setLevel)) (.setLevel (.each h.putF.putF.putF.putF.setF (fun _ _ h => .ite h h.setLevel)))
theorem Canonical.markFail {target engine} (h : Canonical b) : Canonical (markFail target engine b) :=
  .when (.when (.markLevels h) (fun _ h => h.estimatesInvalid)) (fun _ h => h.stageLost)
theorem Canonical.markPass {target engine} (h : Canonical b) : Canonical (markPass target engine b) := .markLevels h
theorem Canonical.repair {r} (h : Canonical b) : Canonical (repair r b) := .when h (fun _ h => h.detectOnce)
theorem Canonical.failRegs {addr row bit count} (h : Canonical b) : Canonical (failRegs addr row bit count b) := h.setR.setF.setF.setR
theorem Canonical.bistAsk {target engine q} (h : Canonical b) : Canonical (bistAsk target engine q b) := by
  cases q with
  | none => exact .ite (.ite h h.setF) (.ite h (.ite h (.ite h.setF h)))
  | some q => exact .ite (.ite h.finish h.setF.finish) (.ite h.finish (.ite h.finish (.ite h.setF.finish (.waitOn h))))
theorem Canonical.writeBistCtl {v} (h : Canonical b) : Canonical (writeBistCtl v b) := .when (.when h.writeBits (fun _ h => h)) (fun _ h => h.bistAsk)
theorem Canonical.marchStart (h : Canonical b) : Canonical (marchStart b) := .other (.each h (fun _ _ h => .ite h h.putSr.srDrop))
theorem Canonical.marchEnd (h : Canonical b) : Canonical (marchEnd b) := .each h (fun _ _ h => .ite h (.when h.putRing.setR (fun _ h => h.capLoseMark)))
theorem Canonical.isolate {target engine} (h : Canonical b) : Canonical (isolate target engine b) := .ite (.ite h.spoil.putString.spoil h.spoil)
    (.ite h.marchStart h)
theorem Canonical.resume {target} (h : Canonical b) : Canonical (resume target b) := .ite h.tierReturn (.ite h.marchEnd h)
theorem Canonical.bistStart (h : Canonical b) : Canonical (bistStart b) := by
  unfold Machine.bistStart; split
  exacts [h, .ite h (.isolate (.setF (.setF (.setF (.setF h)))))]
theorem Canonical.hostEnd {state result r} (h : Canonical b) : Canonical (hostEnd state result r b) := by
  unfold Machine.hostEnd
  exact .finishAll (.resume (.other h.setF.setF)) fun _ _ h => h.finish
theorem Canonical.hostAbort {r} (h : Canonical b) : Canonical (hostAbort r b) := .hostEnd (.pulse (.when h.fresh.fresh.fresh.fresh.failRegs (fun _ h => h.setR)))
theorem Canonical.rollNext {r} (h : Canonical b) : Canonical (rollNext r b) := .resume h
theorem Canonical.bistCut {all} (h : Canonical b) : Canonical (bistCut all b) := by
  have host : ∀ r : Option BistRun, Canonical
    (match r with | some r => if all || b.bist.abortReq || tierCut b r.target then Machine.hostAbort r b else b | none => b) :=
    fun r => by cases r; exacts [h, .ite h.hostAbort h]
  unfold Machine.bistCut
  dsimp only; split
  · exact .ite (.rollNext (.pulse (host _))) (host _)
  · exact host _
theorem Canonical.rollStart (h : Canonical b) : Canonical (rollStart b) := .ite h (.isolate h)
theorem Canonical.bistEnd {x} (h : Canonical b) : Canonical (bistEnd x b) := by
  have regs : ∀ c, Canonical c → Canonical (if x.fail then Machine.failRegs x.addr.toNat x.row.toNat x.bit.toNat x.count.toNat c else Machine.failRegs 0 0 0 0 c) :=
    fun _ h => .ite h.failRegs h.failRegs
  have sig : ∀ e, Canonical (Machine.when e (Machine.setR R.BIST_SIG x.sig) b) := fun _ => .when h fun _ h => h.setR
  unfold Machine.bistEnd
  dsimp only; split
  · exact .hostEnd (.ite (regs _ (sig _)).markPass (.ite (regs _ (sig _)).repair (regs _ (sig _)).markFail))
  · split
    · exact h
    · exact .ite h.rollNext (.ite (regs _ h).markFail.rollNext (.resume (.other (regs _ h))))
theorem Canonical.writeBistRoll {v} (h : Canonical b) : Canonical (writeBistRoll v b) := .ite h.setF h.writeBits

/-! Machine/Endpoint.lean -/

theorem Canonical.traffic (h : Canonical b) : Canonical (traffic b) := h.setF
theorem Canonical.forgetRings (h : Canonical b) : Canonical (forgetRings b) := h
theorem Canonical.hstReset (h : Canonical b) : Canonical (hstReset b) := .dropRegs (p := fun x => !decide (0x2000 ≤ x.1 ∧ x.1 < 0x3000)) h.forgetRings
theorem Canonical.perstReset (h : Canonical b) : Canonical (perstReset b) := .other h.hstReset
theorem Canonical.functionReset (h : Canonical b) : Canonical (functionReset b) := h.hstReset.setR.setF
theorem Canonical.barWrite {i v} (h : Canonical b) : Canonical (barWrite i v b) := h
theorem Canonical.configRequest {r} (h : Canonical b) : Canonical (configRequest r b) := by
  unfold Machine.configRequest
  refine .ite h (.ite h.emitOut ?_)
  split
  · exact h.emitOut
  · exact .emitOut (.resumeAfter h (fun _ h => h))
  · exact .emitOut h
  · exact .emitOut (.resumeAfter h (fun _ h => h))
  · exact .emitOut h
  · exact h.putF
  · exact h.barWrite.emitOut
theorem Canonical.suspend {c on} (h : Canonical b) : Canonical (suspend c on b) := .ite h (.resumeAfter h (fun _ h => (by split; exacts [h, h, h])))
theorem Canonical.lateWrites (h : Canonical b) : Canonical (lateWrites b) := .ite h (.each h (fun _ _ h => h.emitOut))
theorem Canonical.resendVec0 (h : Canonical b) : Canonical (resendVec0 b) := .when (.lateWrites h) (fun _ h => h.sendVec0)
theorem Canonical.sqTick {q} (h : Canonical b) : Canonical (sqTick q b) := .ite h (.ite h.putSq.setR h.putSq)
theorem Canonical.cqTick {c} (h : Canonical b) : Canonical (cqTick c b) := .ite h (.ite h.putCq.setR (.putCq (.each h (fun _ _ h => h.putSq))))
theorem Canonical.srTick {s} (h : Canonical b) : Canonical (srTick s b) := .ite h.putSr.setR.setR (.ite h.srDrop.putSr (.ite h.putSr h))
theorem Canonical.ringTick (h : Canonical b) : Canonical (ringTick b) := .each (.each (.each h (fun _ _ h => h.sqTick)) (fun _ _ h => h.cqTick))
    (fun _ _ h => h.srTick)
theorem Canonical.fetchTick (h : Canonical b) : Canonical (fetchTick b) := h
theorem Canonical.doorbellAsk {wide} (h : Canonical b) : Canonical (doorbellAsk wide b) := h
theorem Canonical.fetchAgain (h : Canonical b) : Canonical (fetchAgain b) := .ite h h
theorem Canonical.takePi {q fetched} (h : Canonical b) : Canonical (takePi q fetched b) := .ite h.putSq (.putSq (.when h.putSq (fun _ h => h.setF)))
theorem Canonical.takeCi {c fetched} (h : Canonical b) : Canonical (takeCi c fetched b) := .ite h (.ite h.setF (.ite h.putCq h))
theorem Canonical.takeRd {s fetched} (h : Canonical b) : Canonical (takeRd s fetched b) := .ite h (.ite h.setF h.putSr.setF)
theorem Canonical.descFail {q} (h : Canonical b) : Canonical (descFail q b) := h.setF.pulse
theorem Canonical.doorbellFetch {lines bad} (h : Canonical b) : Canonical (doorbellFetch lines bad b) := by
  unfold Machine.doorbellFetch
  refine .ite h ?_
  extract_lets
  split
  · exact .pulse (.setF (.fetchAgain (.each (.traffic h) (fun _ _ h => h.descFail))))
  · exact .ite (.each (.count (.other (.each (.traffic h) (fun _ _ h => h.descFail)))) (fun _ _ h => h.takePi))
      (.each (.each (.each (.count (.other (.each (.traffic h) (fun _ _ h => h.descFail)))) (fun _ _ h => h.takePi)) (fun _ _ h => h.takeCi)) (fun _ _ h => h.takeRd))
theorem Canonical.sendVectors (h : Canonical b) : Canonical (sendVectors b) := .ite h (.each h (fun _ _ h => .ite h (.emitOut h)))
theorem Canonical.statusPage (h : Canonical b) : Canonical (statusPage b) :=
  .ite h (.sendVectors (.ite h (.when (.emitOut (.when (.postAll (.traffic h)) (fun _ h => h.emitOut))) (fun _ h => .each h (fun _ _ h => .ite h.putSr h)))))
theorem Canonical.ptmPair (h : Canonical b) : Canonical (ptmPair b) := h.setPair.setPair
theorem Canonical.timeSyncTick (h : Canonical b) : Canonical (timeSyncTick b) := .ite h (.each h.ptmPair (fun _ _ h => .ite h.finish h.dmaOut))
theorem Canonical.ptmTick (h : Canonical b) : Canonical (ptmTick b) := .when h (fun _ h => h.ptmPair)
theorem Canonical.writeQuota {s v} (h : Canonical b) : Canonical (writeQuota s v b) := .ite h.setF h.setF
theorem Canonical.writeHst {a v} (h : Canonical b) : Canonical (writeHst a v b) :=
  .ite (.ite h.writeBits (.ite h.writeBits h))
    (.ite (.ite h.writeBits (.ite h.writeBits h)) (.ite (.ite h.writeBits (.ite h.writeBits h)) (.ite (.ite h.writeQuota h) (.ite h.setR h.writeBits))))
theorem Canonical.windowB {a v} (h : Canonical b) : Canonical (windowB a v b) :=
  .ite h (.ite h.traffic (.ite h.traffic.doorbellAsk (.ite h.traffic.doorbellAsk (.ite h.traffic.stampNow.setPair (.ite h.traffic.putSq.doorbellAsk h.traffic)))))

/-! Machine/Capture.lean -/

theorem Canonical.capStop {r} (h : Canonical b) : Canonical (capStop r b) := .ite h.putRing.setF (.ite h.putRing h)
theorem Canonical.capTick {r} (h : Canonical b) : Canonical (capTick r b) :=
  .ite h (.ite (.putRing (.when h (fun _ h => h.setF.setF.setF.setF.setF))) (.ite h (.ite h.putRing.setF h.setR.setR.setR.setR.setF.setF.putRing.levelBit)))
theorem Canonical.capTicks (h : Canonical b) : Canonical (capTicks b) := .each (.each h (fun _ _ h => h.capStop)) (fun _ _ h => h.capTick)
theorem Canonical.capFinish {r} (h : Canonical b) : Canonical (capFinish r b) := h.setF.setR.putF.pulse
theorem Canonical.capDone {r} (h : Canonical b) : Canonical (capDone r b) := .ite h h.capFinish
theorem Canonical.capDoneAll (h : Canonical b) : Canonical (capDoneAll b) := .each h (fun _ _ h => h.capDone)
theorem Canonical.writeCapMark {r v} (h : Canonical b) : Canonical (writeCapMark r v b) := .ite h.setF (.when h.setR.setF (fun _ h => h.setF.levelBit))
theorem Canonical.writeCapCtl {r v} (h : Canonical b) : Canonical (writeCapCtl r v b) := .when (.when h.writeBits (fun _ h => h.capTrigger)) (fun _ h => h.putRing)
theorem Canonical.writeCapGeom {r v} (h : Canonical b) : Canonical (writeCapGeom r v b) := .ite h h.putRing.setR.writeBits
theorem Canonical.readCapData (h : Canonical b) : Canonical (readCapData b).2 := .when h.setR fun _ h => h.setF
theorem Canonical.pullOn {q ring start len addr copied pace fail} (h : Canonical b) : Canonical (pullOn q ring start len addr copied pace fail b) :=
  .ite h.finish (.ite h.dmaOut (.waitOn (.ite h h.dmaWrite)))
theorem Canonical.capPull {q r start len addr pace fail} (h : Canonical b) : Canonical (capPull q r start len addr pace fail b) :=
  .ite h.finish (.ite h.finish (.ite h.finish h.pullOn))
theorem Canonical.pullTick (h : Canonical b) : Canonical (pullTick b) := .each h (fun _ _ h => (by split; exacts [h.pullOn, h]))
theorem Canonical.writeCntCfg {i v} (h : Canonical b) : Canonical (writeCntCfg i v b) := .when h.writeBits (fun _ h => h)
theorem Canonical.writeCntCtl {v} (h : Canonical b) : Canonical (writeCntCtl v b) := .when h (fun _ h => h)
theorem Canonical.cntClear (h : Canonical b) : Canonical (cntClear b) := .each h (fun _ _ h => h.setR.setR.setR.setF)
theorem Canonical.cntUnfreeze (h : Canonical b) : Canonical (cntUnfreeze b) := .ite h (.other (.each h (fun _ _ h => .ite h.setF h)))
theorem Canonical.cntModes (h : Canonical b) : Canonical (cntModes b) := .ite h h
theorem Canonical.cntTick (h : Canonical b) : Canonical (cntTick b) := h.cntClear.cntUnfreeze.cntModes
theorem Canonical.cntSnap (h : Canonical b) : Canonical (cntSnap b) := .each h.setR (fun _ _ h => .ite h h.setF.setR)

/-! Machine/Power.lean -/

theorem Canonical.powerAsk {p} (h : Canonical b) : Canonical (powerAsk p b) := .ite h (.ite (.setF h) (.other h))
theorem Canonical.writePwrCtl {v} (h : Canonical b) : Canonical (writePwrCtl v b) := by
  unfold Machine.writePwrCtl; extract_lets; split
  exacts [h.writeBits.powerAsk, h.writeBits.powerAsk, h.writeBits.powerAsk, h.writeBits]
theorem Canonical.reachRun (h : Canonical b) : Canonical (reachRun b) := .ite h h
theorem Canonical.parkAccept (h : Canonical b) : Canonical (parkAccept b) := .sweepAbort (.cancelSwap (.ovrPark (.setPower (.other (.bistCut h)))))
theorem Canonical.powerTick (h : Canonical b) : Canonical (powerTick b) := by
  unfold Machine.powerTick
  split
  · exact h
  · refine .ite (.setF h) ?_
    split
    · exact .reachRun (.setPower h)
    · exact .reachRun (.event (.setPower h))
    · exact .ite h (.setPower h)
    · exact .parkAccept h
    · exact .parkAccept h
    · exact .parkAccept h
    · exact h
theorem Canonical.lcResult {n} (h : Canonical b) : Canonical (lcResult n b) := h.setF
theorem Canonical.lcShow (h : Canonical b) : Canonical (lcShow b) := h.putF.putF.setF
theorem Canonical.cfgShow {active} (h : Canonical b) : Canonical (cfgShow active b) := h.setR.setR.putF.putF.setF
theorem Canonical.cfgEnd {result seq} (h : Canonical b) : Canonical (cfgEnd result seq b) := by
  unfold Machine.cfgEnd
  exact .finishAll (.setF (.setF h)) fun _ _ h => h.finish
theorem Canonical.retire (h : Canonical b) : Canonical (retire b) := .cfgShow (.other (.when h (fun _ h => h.cfgEnd)))
theorem Canonical.lcMove {target} (h : Canonical b) : Canonical (lcMove target b) := .lcResult (.lcShow (.when (.journal h) (fun _ h => h.retire)))
theorem Canonical.lcAuth {target} (h : Canonical b) : Canonical (lcAuth target b) := .ite (.lcMove (.setF h)) (.when (.lcResult (.addF h)) (fun _ h => h.setF))
theorem Canonical.lcRequest {target} (h : Canonical b) : Canonical (lcRequest target b) :=
  .ite h (.ite h.lcResult (.ite h.lcResult (by split; exacts [h.lcResult, (by split; exacts [h.lcResult, .ite h.lcResult (.ite h.lcAuth h.lcMove)])])))
theorem Canonical.lcChallenge (h : Canonical b) : Canonical (lcChallenge b) := .other (.each h (fun _ _ h => h.fresh.setR))
theorem Canonical.lcStore {svc} (h : Canonical b) : Canonical (lcStore svc b) := .ite h.lcResult (.lcResult (.lcShow h))
theorem Canonical.writeLcCtl {v} (h : Canonical b) : Canonical (writeLcCtl v b) :=
  .ite (.when h (fun _ h => h.lcChallenge))
    (.ite (.lcStore (.when h (fun _ h => h.lcChallenge)))
    (.ite (.lcStore (.when h (fun _ h => h.lcChallenge))) (.ite (.when h (fun _ h => h.lcChallenge)) (.lcRequest (.when h (fun _ h => h.lcChallenge))))))
theorem Canonical.lcTick (h : Canonical b) : Canonical (lcTick b) := h
theorem Canonical.cfgAsk {q} (h : Canonical b) : Canonical (cfgAsk q b) := by
  cases q with
  | none => exact .ite h.setF (.ite h.setF (.setF h))
  | some q => exact .ite h.setF.finish (.ite h.setF.finish (.waitOn (.setF h)))
theorem Canonical.cfgCapture (h : Canonical b) : Canonical (cfgCapture b) := .ite h (.commitTurn h)
theorem Canonical.cfgDone {ok} (h : Canonical b) : Canonical (cfgDone ok b) :=
  .ite h (by split; exacts [h, .flushOwed (.ite (.cfgEnd (.cfgShow (.setF h))) (.detectOnce (.cfgEnd (.cfgShow h))))])
theorem Canonical.fwUpdate {q d ws readback} (h : Canonical b) : Canonical (fwUpdate q d ws readback b) := .ite h.finish (.waitOn h)
theorem Canonical.fwEnd {j status detail r1} (h : Canonical b) : Canonical (fwEnd j status detail r1 b) := by
  unfold Machine.fwEnd; split
  exacts [h.finish, h]
theorem Canonical.fwVerify {j} (h : Canonical b) : Canonical (fwVerify j b) :=
  .ite h.fwEnd.detectOnce (.ite h.fwEnd (.ite h.fwEnd (.ite h.fwEnd (.ite h.fwEnd (.fwEnd (.journal h))))))
theorem Canonical.fwTick (h : Canonical b) : Canonical (fwTick b) := by
  unfold Machine.fwTick; split
  exacts [h, .ite h (.ite h (.commitTurn (.fwVerify (.other h))))]
theorem Canonical.fwAbort (h : Canonical b) : Canonical (fwAbort b) := h

/-! Machine/Causeway.lean -/

theorem Canonical.radioLoss (h : Canonical b) : Canonical (radioLoss b) := .ite (.setLevel (.when h (fun _ h => h.setF))) (.when h (fun _ h => h.setF))
theorem Canonical.radioReset (h : Canonical b) : Canonical (radioReset b) := .setF h
theorem Canonical.radioOff (h : Canonical b) : Canonical (radioOff b) := h.radioReset.radioLoss
theorem Canonical.topoLevels (h : Canonical b) : Canonical (topoLevels b) :=
  have h₁ : Canonical _ := .when h (fun _ h => .each h (fun _ _ h => h.putF))
  have h₂ : Canonical _ := h₁.putF
  have h₃ : Canonical _ := .ite h₂.setLevel h₂
  .ite h₃.setLevel h₃
theorem Canonical.cwOff (h : Canonical b) : Canonical (cwOff b) :=
  .each (.each (.setF (.each (.setR (.setR h)) (fun _ _ h => h.setR.setR))) (fun _ _ h => h.setR)) (fun _ _ h => .ite h h.setLevel)
theorem Canonical.cwAdopt (h : Canonical b) : Canonical (cwAdopt b) :=
  .ite (.cwOff h) (.when (.ite (.setF (.setF h)) (.topoLevels (.ite h (.setF h)))) (fun _ h => h.radioOff))
theorem Canonical.sendRecord {r} (h : Canonical b) : Canonical (sendRecord r b) := h.emitOut
theorem Canonical.sendToken {sender next unas} (h : Canonical b) : Canonical (sendToken sender next unas b) := h.emitOut
theorem Canonical.tagGood {a} (h : Canonical b) : Canonical (tagGood a b) := .ite h (.levelBit h)
theorem Canonical.tagBad {a} (h : Canonical b) : Canonical (tagBad a b) := .when (.count h) (fun _ h => h.levelBit)
theorem Canonical.tagged {a kind content t} {go : Block → Block} (h : Canonical b) (hgo : ∀ c, Canonical c → Canonical (go c)) :
    Canonical (tagged a kind content t go b) :=
  .ite (hgo _ h.tagGood) h.tagBad
theorem Canonical.putCwHop {hop x} (h : Canonical b) : Canonical (putCwHop hop x b) := .ite h (.setF (.putF (.putF (.putF h))))
theorem Canonical.breakLevel (h : Canonical b) : Canonical (breakLevel b) := .ite h h.setLevel
theorem Canonical.breakDeclared (h : Canonical b) : Canonical (breakDeclared b) := .count (.addF h)
theorem Canonical.breakShow (h : Canonical b) : Canonical (breakShow b) := .ite h (.breakLevel (.setF h))
theorem Canonical.cwHopBreak {hop fwd} (h : Canonical b) : Canonical (cwHopBreak hop fwd b) :=
  .ite h (.ite (.ite h h.putCwHop.breakDeclared) (by extract_lets; split; exacts [.when h.setF.emitOut (fun _ h => h.sendRecord), h.setF.emitOut]))
theorem Canonical.hopTraining {hop peer fails} (h : Canonical b) : Canonical (hopTraining hop peer fails b) :=
  .ite h (.ite h.putCwHop.breakLevel (.when h.putCwHop (fun _ h => h.breakDeclared)))
theorem Canonical.hopErrors {hop n} (h : Canonical b) : Canonical (hopErrors hop n b) := .ite h (.ite h.putCwHop h.putCwHop.addF)
theorem Canonical.renegTick (h : Canonical b) : Canonical (renegTick b) := .ite h (.breakLevel (.setF (.each h (fun _ _ h => h.putCwHop))))
theorem Canonical.routeRestore (h : Canonical b) : Canonical (routeRestore b) := .ite h h.setF.addF.breakLevel
theorem Canonical.routeRestored (h : Canonical b) : Canonical (routeRestored b) := .ite h.setF h.routeRestore
theorem Canonical.cwReset (h : Canonical b) : Canonical (cwReset b) := .each h (fun _ _ h => h.putCwHop)
theorem Canonical.profileChange {told} (h : Canonical b) : Canonical (profileChange told b) := .ite h (.ite h.setF h.setF.setF.event)
theorem Canonical.cwEnumEnd {e} (h : Canonical b) : Canonical (cwEnumEnd e b) := by
  unfold Machine.cwEnumEnd
  refine .breakLevel (.topoLevels (.setF (.ite ?_ (.setLevel ?_))))
  all_goals
    exact .each (.each (.when (.putF (.setF (.each (.each h fun _ _ h => .when h fun _ h => h.setR) fun _ _ h => h.putCwHop))) fun _ h => h.setF)
      fun _ _ h => .setR (.putF h.setR)) fun _ _ h => h.setLevel
theorem Canonical.cwEnumerate {e} (h : Canonical b) : Canonical (cwEnumerate e b) := .ite h.cwAdopt (.sendToken (.other h.cwAdopt.setF.setF.setLevel))
theorem Canonical.cwEnumTick (h : Canonical b) : Canonical (cwEnumTick b) := by
  unfold Machine.cwEnumTick; split
  exacts [h, .ite h.cwEnumEnd (.ite h.sendToken h)]
theorem Canonical.cwLearn (h : Canonical b) : Canonical (cwLearn b) := .topoLevels (.each h.setF (fun _ _ h => h.setR))
theorem Canonical.writeCwCtl {v e} (h : Canonical b) : Canonical (writeCwCtl v e b) :=
  .when (.when (.when (.when h.writeBits (fun _ h => h.cwEnumerate)) (fun _ h => h.cwLearn)) (fun _ h => h)) (fun _ h => h.emitOut)
theorem Canonical.cwConflict (h : Canonical b) : Canonical (cwConflict b) := h.setF.setLevel.radioOff
theorem Canonical.takeAddress {next} (h : Canonical b) : Canonical (takeAddress next b) := .emitOut (.setF (.setF h))
theorem Canonical.enumToken {south sender next unas} (h : Canonical b) : Canonical (enumToken south sender next unas b) :=
  .ite h.cwConflict.sendToken (.ite h (.ite h
    (.ite h.cwAdopt (.ite h.cwAdopt.cwConflict.sendToken
    (.ite (.ite (.putF (.other h.cwAdopt)) (.ite (.takeAddress (.putF (.other h.cwAdopt))) (.sendToken (.takeAddress (.putF (.other h.cwAdopt))))))
    (.ite (.sendToken (.takeAddress (.putF (.other h.cwAdopt)))) (.sendToken (.radioOff (.setF (.setF (.other (.putF (.other h.cwAdopt)))))))))))))
theorem Canonical.sendChar (h : Canonical b) : Canonical (sendChar b) := .ite h (.emitOut h)
theorem Canonical.sendTag (h : Canonical b) : Canonical (sendTag b) := .ite h (.emitOut h)
theorem Canonical.hbMiss {a n limit} (h : Canonical b) : Canonical (hbMiss a n limit b) := .ite h.setF.addF.count.setLevel h.setF.addF.count
theorem Canonical.heartbeat {a fault sev} (h : Canonical b) : Canonical (heartbeat a fault sev b) :=
  .ite (.levelBit (.ite h.setF.setF.putF.setF h.setF.setF.putF.setF.setLevel)) (.ite h.setF.setF.putF.setF h.setF.setF.putF.setF.setLevel)
theorem Canonical.heartbeatReceive {a fault sev} (h : Canonical b) : Canonical (heartbeatReceive a fault sev b) := .ite h.emitOut (.ite h (.heartbeat h))
theorem Canonical.hbTick (h : Canonical b) : Canonical (hbTick b) := .each (.each h (fun _ _ h => h.setF)) (fun _ _ h => h.hbMiss)
theorem Canonical.hbLost {a} (h : Canonical b) : Canonical (hbLost a b) := .ite h.setLevel h
theorem Canonical.chainComplete {r} (h : Canonical b) : Canonical (chainComplete r b) := .count (.setF h)
theorem Canonical.chainReceive {r} (h : Canonical b) : Canonical (chainReceive r b) := .ite h (.ite h.emitOut (.ite h (.ite h.tagGood.chainComplete (.tagBad h))))
theorem Canonical.inboxTick (h : Canonical b) : Canonical (inboxTick b) := .each h (fun _ _ h => h.queueRec)
theorem Canonical.chainTickCw {j} (h : Canonical b) : Canonical (chainTickCw j b) :=
  .ite h (.ite (.other (.when h (fun _ h => h)))
    (.ite (.other (.when h (fun _ h => h)))
    (.ite (.queueRec (.other (.when h (fun _ h => h)))) (.when (.other (.queueRec (.other (.when h (fun _ h => h))))) (fun _ h => h.sendRecord)))))
theorem Canonical.syncLoss (h : Canonical b) : Canonical (syncLoss b) := .ite h (.setLevel (.setF h))
theorem Canonical.tagReceive {a kind content tag} (h : Canonical b) : Canonical (tagReceive a kind content tag b) :=
  have h₁ : Canonical _ := .when h (fun _ h => h.emitOut)
  .ite h₁ (.ite h₁.tagGood (.ite (.ite h₁.tagBad.hbMiss h₁.tagBad) (.ite (.syncLoss (.other h₁.tagBad)) (.ite (.other h₁.tagBad) h₁.tagBad))))
theorem Canonical.syncBlock {x} (h : Canonical b) : Canonical (syncBlock x b) :=
  .ite h (.ite h.emitOut (.ite (.ite h.cwConflict.emitOut (.ite (.each h.setF.topoLevels (fun _ _ h => h.hopErrors)) h))
    (.ite h (.ite (.other h.emitOut) (.sendChar
    (.ite (.when (.setF (.setF (.setF (.other h.emitOut)))) (fun _ h => h.setF))
    (.setLevel (.when (.setF (.setF (.setF (.other h.emitOut)))) (fun _ h => h.setF)))))))))
theorem Canonical.jumpRing {shift r} (h : Canonical b) : Canonical (jumpRing shift r b) := .when h (fun _ h => h.setR)
theorem Canonical.jumpNow {new} (h : Canonical b) : Canonical (jumpNow new b) :=
  .each (.setlNow (.event (.setR (.setR (.other (.when (.chainEnds (.jobsOvertaken h)) (fun _ h => h.auxClose))))))) (fun _ _ h => h.jumpRing)
theorem Canonical.radioMissed (h : Canonical b) : Canonical (radioMissed b) := .each h.addF (fun _ _ h => h.hbMiss)
theorem Canonical.radioCycle (h : Canonical b) : Canonical (radioCycle b) := .ite h (.other (.ite (.each h (fun _ _ h => .count h)) h))
theorem Canonical.radioAccount (h : Canonical b) : Canonical (radioAccount b) :=
  .ite h (.radioLoss (.radioCycle (.other (.ite h.radioMissed (.when h (fun _ h => h.addF))))))
theorem Canonical.radioSlot (h : Canonical b) : Canonical (radioSlot b) := by
  unfold Machine.radioSlot; split
  exacts [.ite h (.ite h (.emitOut h)), h]
theorem Canonical.superframeBegin (h : Canonical b) : Canonical (superframeBegin b) :=
  .other (.radioSlot (.putF (.other (.each (.putF (.setF (.when (.radioAccount h) (fun _ h => h)))) (fun _ _ h => .ite h h.putF)))))
theorem Canonical.superframe (h : Canonical b) : Canonical (superframe b) := .ite h (.ite h.superframeBegin h.radioSlot)
theorem Canonical.radioReport {a bytes} (h : Canonical b) : Canonical (radioReport a bytes b) := .ite h.heartbeat (.when (.other h.heartbeat) (fun _ h => h.setF))
theorem Canonical.radioRoot (h : Canonical b) : Canonical (radioRoot b) := .ite h (.ite h.setF.setF.setF h.setF.setF.setF.setLevel)
theorem Canonical.radioReceive {bytes} (h : Canonical b) : Canonical (radioReceive bytes b) :=
  .ite h (.ite h.tagBad (.ite (.radioLoss (.radioRoot (.count (.other h.tagGood)))) (.radioLoss (.radioReport (.count (.other h.tagGood))))))
theorem Canonical.sendForward {target ops} (h : Canonical b) : Canonical (sendForward target ops b) := h.emitOut
theorem Canonical.writeFwdCtl {v} (h : Canonical b) : Canonical (writeFwdCtl v b) :=
  .ite h.writeBits (.ite h.writeBits.setF (.sendForward (.setF (.setF (.other h.writeBits)))))
theorem Canonical.fwdEnd {code} (h : Canonical b) : Canonical (fwdEnd code b) := .setF (.setF h)
theorem Canonical.forwardResponse {q refused count_ vals} (h : Canonical b) : Canonical (forwardResponse q refused count_ vals b) := by
  unfold Machine.forwardResponse; split
  exacts [(by split; exacts [h, .ite h.fwdEnd (.fwdEnd (.ite h h.setR))]),
    (by split; exacts [(by split; exacts [.ite (.finish (.each h (fun _ _ h => .ite h.dmaWrite h))) (.finish (.each h (fun _ _ h => .ite h.dmaWrite h))), h]), h])]
theorem Canonical.forwardLate {q} (h : Canonical b) : Canonical (forwardLate q b) := by
  unfold Machine.forwardLate; split
  exacts [.ite h.finish h, h]
theorem Canonical.forwardTimeout (h : Canonical b) : Canonical (forwardTimeout b) := .each (.when h (fun _ h => h.fwdEnd)) (fun _ _ h => h.forwardLate)
theorem Canonical.forwardCmd {q d ws} (h : Canonical b) : Canonical (forwardCmd q d ws b) := by
  unfold Machine.forwardCmd; extract_lets; split
  exacts [h.finish, .ite h.finish h.waitOn.sendForward]
theorem Canonical.rootSync (h : Canonical b) : Canonical (rootSync b) := .sendChar (.emitOut h)
theorem Canonical.lockTick (h : Canonical b) : Canonical (lockTick b) := h
theorem Canonical.cwTick (h : Canonical b) : Canonical (cwTick b) := by
  have h₁ : Canonical (Machine.breakShow (Machine.cwEnumTick (Machine.syncLoss (Machine.inboxTick b)))) := h.inboxTick.syncLoss.cwEnumTick.breakShow
  refine .ite (.forwardTimeout (.ite h h.cwOff)) (.lockTick (.superframe (.forwardTimeout (.ite (.profileChange ?_) ?_))))
  all_goals exact .renegTick (.routeRestore (.ite (.rootSync (.when (.ite h₁.hbTick h₁) (fun _ h => h.sendTag))) (.when (.ite h₁.hbTick h₁) (fun _ h => h.sendTag))))

/-! Machine/Access.lean -/

theorem Canonical.wholeAt {a} (h : Canonical b) : Canonical (wholeAt a b).2 := by
  unfold Machine.wholeAt; split
  exacts [h.stampNow, h]
theorem Canonical.setLatch {p x} (h : Canonical b) : Canonical (setLatch p x b) := by
  unfold Machine.setLatch; split
  exacts [h, h, h, h, h, h]
theorem Canonical.setTorn {p} (h : Canonical b) : Canonical (setTorn p b) := by
  unfold Machine.setTorn; split
  exacts [h.setF, h.setF, h.setF, h.setF, h, h]
theorem Canonical.readHigh {p a} (h : Canonical b) : Canonical (readHigh p a b).2.2 := by
  unfold Machine.readHigh; split
  · split
    · exact h
    · exact h.wholeAt.setTorn
  · exact h.wholeAt.setTorn
theorem Canonical.readReg {p a} (h : Canonical b) : Canonical (readReg p a b).2.2 := by
  unfold Machine.readReg; split; exact h
  split; exact h.wholeAt.setLatch
  split; exact h.readHigh
  split; exact h.readLedData
  split; exact h.readCapData
  exact h
theorem Canonical.fifoSkip {f} (h : Canonical b) : Canonical (fifoSkip f b) := .ite h.putFifo h
theorem Canonical.writeFifoCtl {f v} (h : Canonical b) : Canonical (writeFifoCtl f v b) := .when (.when h.writeBits (fun _ h => h.fifoSkip)) (fun _ h => h.putFifo)
theorem Canonical.writeSlCfg {i v} (h : Canonical b) : Canonical (writeSlCfg i v b) := .ite h (.writeBits h)
theorem Canonical.writeLow {a v} (h : Canonical b) : Canonical (writeLow a v b) := by
  unfold Machine.writeLow; split
  exacts [.ite h.writePwrCtl (.ite h.writeLcCtl (.ite h (.ite h h.writeBits))), .ite (.when h (fun _ h => h.cfgAsk)) h.writeBits, h.writeHst,
    .ite h.writeFifoCtl h.writeBits, .ite h.writeSticky (.ite h.writeInj (.ite h.writeInj (.ite h.writeSlCfg h.writeBits))),
    .ite h.writeBistCtl (.ite h.writeBistRoll h.writeBits), .ite h.writeCntCtl (.ite h.writeCntCfg h.writeBits), h.writeBits]
theorem Canonical.writeHigh {a v} (h : Canonical b) : Canonical (writeHigh a v b) := by
  unfold Machine.writeHigh; split
  exacts [.ite h.writeFeCommit (.ite (.when h.writeBits (fun _ h => h.alignRun)) h.writeBits), .ite h.writeImpCtl h.writeBits,
    .ite h.writeSetReg (.ite (.writeBits h) h.writeBits), .ite h.writeBwCtl (.ite h.writeRlCtl (.ite h.writeTagSel (.ite h.writeBits.topoCheck h.writeBits))),
    .ite h.writeCwCtl (.ite h.writeFwdCtl (.ite h.writeBits.topoLevels h.writeBits)),
    .ite h.writeBits (.ite h.writeCapCtl (.ite h.writeCapGeom (.ite h.writeCapMark h.writeBits))),
    .ite h.writeFenCtl (.ite h.writeNodeSel (.ite h.writeImgCtl (.ite h.writeWaddr (.ite h.writeWdata h.writeBits)))),
    .ite h.writeOvrCtl (.ite h.writeLedCtl (.ite h.writeLedRd h.writeBits)), h.writeBits]
theorem Canonical.writeReg {a v} (h : Canonical b) : Canonical (writeReg a v b) := .when (.ite h.writeLow h.writeHigh) (fun _ h => h.commitAsk)
theorem Canonical.cfgWrite {q n ws} (h : Canonical b) : Canonical (cfgWrite q n ws b) :=
  .ite h.finish (.waitOn (.when (.each h (fun _ _ h => h.writeReg)) (fun _ h => h.commitAsk)))
theorem Canonical.readList {p as} (h : Canonical b) : Canonical (readList p as b).2.2 := by
  induction as generalizing b with
  | nil => exact h
  | cons a as ih => exact ih h.readReg
theorem Canonical.cfgRead {q n addr fail ws} (h : Canonical b) : Canonical (cfgRead q n addr fail ws b) :=
  .ite h.finish (.ite h.setLatch.readList.finish (.finish (.each h.setLatch.readList (fun _ _ h => h.dmaWrite))))
theorem Canonical.forwardOp {wr a v} (h : Canonical b) : Canonical (forwardOp wr a v b).2 := by
  unfold Machine.forwardOp; split
  exacts [h.writeReg, h.readReg]
theorem Canonical.forwardAll {os} (h : Canonical b) : Canonical (forwardAll os b).2 := by
  induction os generalizing b with
  | nil => exact h
  | cons o os ih => exact ih h.forwardOp
theorem Canonical.sendResponse {refused n vals} (h : Canonical b) : Canonical (sendResponse refused n vals b) := h.emitOut
theorem Canonical.forwardServe {ops} (h : Canonical b) : Canonical (forwardServe ops b) := .ite h.sendResponse h.forwardAll.sendResponse
theorem Canonical.spiCrcFail (h : Canonical b) : Canonical (spiCrcFail b) := .when (.other h.count.addF.setF) (fun _ h => h.pulse)
theorem Canonical.spiPass (h : Canonical b) : Canonical (spiPass b) := h
theorem Canonical.spiErr (h : Canonical b) : Canonical (spiErr b) := h.setF
theorem Canonical.csLow (h : Canonical b) : Canonical (csLow b) := .ite h h
theorem Canonical.spiAnswer {n cycles ws s} (h : Canonical b) : Canonical (spiAnswer n cycles ws s b) := h.emitOut
theorem Canonical.spiOut {n cycles crcOk bad} {body : Bool → Block → List Word × Bool × Bool × Bool × Block} (h : Canonical b)
    (hbody : ∀ r c, Canonical c → Canonical (body r c).2.2.2.2) : Canonical (spiOut n cycles crcOk bad body b) :=
  .ite h.csLow.emitOut (.ite h.csLow (.ite h.csLow.spiCrcFail.spiAnswer (.ite h.csLow.spiPass.spiErr.spiAnswer
    (.spiAnswer (hbody _ _ (.when h.csLow.spiPass fun _ h => h.spiErr))))))
theorem Canonical.spiRead {hop ch cycles} (h : Canonical b) : Canonical (spiRead hop ch cycles b) := by
  unfold Machine.spiRead
  refine .spiOut h fun _ _ h => ?_
  dsimp only; split
  exacts [h.readList, h]
theorem Canonical.popOne {f} (h : Canonical b) : Canonical (popOne f b).2.2.2 := by
  unfold Machine.popOne; extract_lets; split
  exacts [h.addF, h.putFifo]
theorem Canonical.popMany {f n} (h : Canonical b) : Canonical (popMany f n b).2.2.2 := by
  induction n generalizing b with
  | zero => exact h
  | succ n ih => exact ih h.popOne
theorem Canonical.spiPop {hop ch cycles} (h : Canonical b) : Canonical (spiPop hop ch cycles b) := by
  unfold Machine.spiPop
  refine .spiOut h fun _ _ h => ?_
  dsimp only; split
  exacts [h.popMany, h]
theorem Canonical.spiApply {fixed a ws} (h : Canonical b) : Canonical (spiApply fixed a ws b) := .each h (fun _ _ h => .ite h.writeReg h)
theorem Canonical.writeAnswer {n cycles s} (h : Canonical b) : Canonical (writeAnswer n cycles s b) := h.emitOut
theorem Canonical.spiWrite {fixed hop ch cycles ws cw} (h : Canonical b) : Canonical (spiWrite fixed hop ch cycles ws cw b) :=
  .ite h.csLow.emitOut (.ite h.csLow (.ite h.csLow.spiCrcFail.writeAnswer
    (have h₂ : Canonical _ := .ite h.csLow.spiCrcFail (.when h.csLow (fun _ h => h.spiPass));
    .ite h₂.spiErr.writeAnswer (.ite h₂ (.ite h₂.writeAnswer h₂.writeAnswer.spiApply)))))
theorem Canonical.readOver {p a} (h : Canonical b) : Canonical (readOver p a b) :=
  .ite h (.ite h.emitOut (.ite h.traffic.emitOut (.emitOut (.readReg (.when h (fun _ h => h.traffic))))))
theorem Canonical.jtagRead {a} (h : Canonical b) : Canonical (jtagRead a b) := .ite h (.ite h.wholeAt.emitOut (.ite h.wholeAt.emitOut h.emitOut))
theorem Canonical.scanLands (h : Canonical b) : Canonical (scanLands b) := .ite h h.fresh.emitOut

/-! Machine/Boot.lean -/

theorem Canonical.moduleReset {cause} : Canonical (moduleReset cause b) := .putF (.setR (.lcShow (rfl : mapWf resetWord [] = true)))
theorem Canonical.halt (h : Canonical b) : Canonical (halt b) := h
theorem Canonical.restoreReg {a w} (h : Canonical b) : Canonical (restoreReg a w b) := .ite h.writeSlCfg (.ite (.writeBits h) h.writeBits)
theorem Canonical.cfgRestore (h : Canonical b) : Canonical (cfgRestore b) := by
  unfold Machine.cfgRestore; split
  exacts [h.cfgShow.setF.event, .commitAsk (.setF (.balRbal (.slCfgTake (.cfgShow (.each h (fun _ _ h => .ite h.restoreReg h.setF))))))]
theorem Canonical.bootTest {r} (h : Canonical b) : Canonical (bootTest r b) := .ite h (.ite h.repair h.markFail)
theorem Canonical.powerOn : Canonical (powerOn b) := .other .moduleReset
theorem Canonical.resetFor {cause} (h : Canonical b) : Canonical (resetFor cause b) := .ite h .moduleReset
theorem Canonical.startTiers {e ds c} (h : Canonical b) : Canonical (startTiers e ds c b) :=
  .cwEnumerate (.other (.setF (.setF (.setF (.setLevel (.putDelays (.enumerate h)))))))
theorem Canonical.detectHeld (h : Canonical b) : Canonical (detectHeld b) := .each h (fun _ _ h => h.detectNow)
theorem Canonical.reachSafe {sub index} (h : Canonical b) : Canonical (reachSafe sub index b) := h.setPower.event.sendVec0
theorem Canonical.reachWhich (h : Canonical b) : Canonical (reachWhich b) := .ite h.detectNow.reachSafe (.ite h.reachSafe h.setPower.reachRun)
theorem Canonical.reachMarks (h : Canonical b) : Canonical (reachMarks b) := .setF h
theorem Canonical.tickCounters (h : Canonical b) : Canonical (tickCounters b) :=
  .when (.when (.count (.cntTick (.when h (fun _ h => h.cntSnap)))) (fun _ h => h.count)) (fun _ h => h.count)
theorem Canonical.tickHost (h : Canonical b) : Canonical (tickHost b) :=
  .flushPeriodic (.cfgCapture (.fwTick (.pullTick (.ptmTick (.timeSyncTick (.capTicks (.each h.resendVec0.ringTick.fetchTick (fun _ _ h => h.fifoFlush))))))))
theorem Canonical.reachTick (h : Canonical b) : Canonical (reachTick b) :=
  .cwTick (.tickHost (.balGates (.balGovern (.balActs (.hbtStart (.when h (fun _ h => h.stepBoundary)))))))
theorem Canonical.reachState (h : Canonical b) : Canonical (reachState b) := .other h.tickCounters.injTick.detectHeld.reachWhich.reachMarks.reachTick
theorem Canonical.bootLands {x} (h : Canonical b) : Canonical (bootLands x b) := .other h
theorem Canonical.bootTime {n} (h : Canonical b) : Canonical (bootTime n b) := h
theorem Canonical.bootLoad {i} (h : Canonical b) : Canonical (bootLoad i b) := h
theorem Canonical.bootJournal (h : Canonical b) : Canonical (bootJournal b) := h.journal
theorem Canonical.bootRun {x} (h : Canonical b) : Canonical (bootRun x b) :=
  .reachState (.setlNow (.commitApply (.startTiers (.each (.bootJournal (.cfgRestore (.each h (fun _ _ h => h.bootTest)))) (fun _ _ h => h.walkNext)))))
theorem Canonical.bootStart {x} (h : Canonical b) : Canonical (bootStart x b) := .ite h (.ite (.halt (.bootLands h)) (.bootTime (.bootLands h)))
theorem Canonical.bootVerify {x} (h : Canonical b) : Canonical (bootVerify x b) := .ite h (by split; exacts [h.halt, h.bootLoad.bootTime])
theorem Canonical.bootFinish {x} (h : Canonical b) : Canonical (bootFinish x b) := .ite h (.ite h.halt h.bootTime.bootRun)
theorem Canonical.boot {x} (h : Canonical b) : Canonical (boot x b) :=
  .ite h (by split; exacts [h.bootStart, .ite h h.bootVerify, .ite h h.bootTime, h.bootStart.bootVerify.bootFinish])
theorem Canonical.parkCommands (h : Canonical b) : Canonical (parkCommands b) :=
  .each (.each (.forgetRings (.postAll (.finishAll h (fun _ _ h => h.finish)))) (fun _ _ h => .ite h h.putCq)) (fun _ _ h => .ite h h.putSq)
theorem Canonical.parkFlush {fail} (h : Canonical b) : Canonical (parkFlush fail b) :=
  .flushEnd (.flushStart (.journalTick (.journal (.other (.ite h.fwAbort.flushEnd h.fwAbort)))))
theorem Canonical.parkFrame (h : Canonical b) : Canonical (parkFrame b) :=
  .statusPage (.emitRecords (.takeWork (.each (.other (.when (.other h.event.emitOvertaken.balAccrue) (fun _ h => h.balPeriod))) (fun _ _ h => h.emitRecords))))
theorem Canonical.parkStrings (h : Canonical b) : Canonical (parkStrings b) := .each h (fun _ _ h => .ite h h.stringDrop)
theorem Canonical.parkStop (h : Canonical b) : Canonical (parkStop b) := h
theorem Canonical.parkDown (h : Canonical b) : Canonical (parkDown b) := .parkStop (.setF (.when h.balPark.parkStrings.parkCommands (fun _ h => h.hstReset)))
theorem Canonical.wakeSluice {kept} (h : Canonical b) : Canonical (wakeSluice kept b) :=
  have cleared : Canonical _ := .dropRegs (p := fun x => !decide (0x5000 ≤ x.1 ∧ x.1 < 0x5800))
    (.each (l := List.range 16) h fun w _ h => .setR (a := R.SL_STICKY w) (w := 0) (.setR (a := R.SL_LIVE w) (w := 0) h))
  .ite (.setF (.other (.ite h (.other cleared)))) (.endNow (.setF (.other (.ite h (.other cleared)))))
theorem Canonical.wakeCapture {kept} (h : Canonical b) : Canonical (wakeCapture kept b) :=
  .ite (.each h (fun _ _ h => .ite h.capFinish h)) (.each h.setF (fun _ _ h => h.putRing.levelBit.setR.setR.setR.setR.setR.setR))
theorem Canonical.wakeCounters (h : Canonical b) : Canonical (wakeCounters b) := .each (.setR h) (fun _ _ h => h.setR.setR.setR.setR.setR.setF.setF)
theorem Canonical.wakeCharge {lo n secs} (h : Canonical b) : Canonical (wakeCharge lo n secs b) := h.balParked.parkCharge
theorem Canonical.wakeBegin {src secs x} (h : Canonical b) : Canonical (wakeBegin src secs x b) := .other (.each h.setR (fun _ _ h => h.setF))
theorem Canonical.wakeJournal {secs} (h : Canonical b) : Canonical (wakeJournal secs b) := h.parkSeconds.journal
theorem Canonical.wakeCw (h : Canonical b) : Canonical (wakeCw b) := .setF h
theorem Canonical.wakeForward (h : Canonical b) : Canonical (wakeForward b) := .when h (fun _ h => h.emitOut)
theorem Canonical.wakeTemps (h : Canonical b) : Canonical (wakeTemps b) := .other (.each h (fun _ _ h => h.setR.setF))
theorem Canonical.wakeState {retain secs} (h : Canonical b) : Canonical (wakeState retain secs b) :=
  h.fastWake.wakeJournal.wakeTemps.wakeSluice.wakeCapture.wakeCounters.wakeCw
theorem Canonical.wake {src x} (h : Canonical b) : Canonical (wake src x b) :=
  .reachState (.setlNow (.wakeForward (.other (.each h.wakeBegin.wakeCharge.wakeState.repairLoad.startTiers (fun _ _ h => h.walkNext)))))
theorem Canonical.wakeEvent {src x} (h : Canonical b) : Canonical (wakeEvent src x b) := .ite h (.ite h.wake (.ite h h))
theorem Canonical.parkEntry {fail x} (h : Canonical b) : Canonical (parkEntry fail x b) :=
  .ite h (by extract_lets; split; exacts [h.parkFlush.parkFrame.parkDown, h.parkFlush.parkFrame.parkDown.wake])

/-! Machine/Frame.lean -/

theorem Canonical.resetStart {d crcBad} (h : Canonical b) : Canonical (resetStart d crcBad b) :=
  .other (by split; exacts [h.tierOff, h.sweepAbort, h.fenResetStart, h.cwReset, h, h.stringDrop, h.ringRetrain, h.radioReset])
theorem Canonical.resetEnd {d} (h : Canonical b) : Canonical (resetEnd d b) := by
  unfold Machine.resetEnd; extract_lets; split
  exacts [.liveResume (.tierReturn h), .fenResetEnd h, h]
theorem Canonical.resetTick (h : Canonical b) : Canonical (resetTick b) := .each (.each h (fun _ _ h => h.resetEnd)) (fun _ _ h => h.resetStart)
theorem Canonical.blockReset {d crcBad} (h : Canonical b) : Canonical (blockReset d crcBad b) := .ite h.resetStart (.ite h h)
theorem Canonical.missTick (h : Canonical b) : Canonical (missTick b) := .each h (fun _ _ h => h.markMiss)
theorem Canonical.breakTick (h : Canonical b) : Canonical (breakTick b) := .when h (fun _ h => h)
theorem Canonical.rawNow (h : Canonical b) : Canonical (rawNow b) := .ite h h
theorem Canonical.samplesTick (h : Canonical b) : Canonical (samplesTick b) := .other h.rawNow
theorem Canonical.evalOvertaken (h : Canonical b) : Canonical (evalOvertaken b) := .ite h (.ite (.when h (fun _ h => h.overrun)) h.judgeLast.evalPassed.overrun)
theorem Canonical.emitPassed (h : Canonical b) : Canonical (emitPassed b) := .when h.emitOvertaken (fun _ h => h.overrun)
theorem Canonical.collectPassed (h : Canonical b) : Canonical (collectPassed b) := h.collectDeadline
theorem Canonical.tickBefore (h : Canonical b) : Canonical (tickBefore b) :=
  h.collectPassed.evalOvertaken.balAccrue.journalTick.formJobs.missTick.passNote.breakTick.emitPassed.samplesTick
theorem Canonical.owedAt (h : Canonical b) : Canonical (owedAt b) := h
theorem Canonical.tickClock {ptm} (h : Canonical b) : Canonical (tickClock ptm b) := h
theorem Canonical.tickNumber {root} (h : Canonical b) : Canonical (tickNumber root b) := .owedAt (by split; exacts [h.jumpNow, h])
theorem Canonical.jobsTick (h : Canonical b) : Canonical (jobsTick b) := .ite h h.jobsOvertaken.chainEnds
theorem Canonical.coefTick (h : Canonical b) : Canonical (coefTick b) := h
theorem Canonical.outputTick (h : Canonical b) : Canonical (outputTick b) := .ite h h
theorem Canonical.tickCommit (h : Canonical b) : Canonical (tickCommit b) :=
  h.coefTick.jobsTick.outputTick.lcTick.sluiceTick.powerTick.commitApply.notchPlace.resetTick.chkCycle
theorem Canonical.testTick (h : Canonical b) : Canonical (testTick b) := h.bistCut.bistStart.rollStart
theorem Canonical.tickModel (h : Canonical b) : Canonical (tickModel b) := .when h.testTick.polTick.buildStart (fun _ h => h.stepBoundary)
theorem Canonical.markerTick (h : Canonical b) : Canonical (markerTick b) := .each h.enumTick.hopTrain.headSwitch (fun _ _ h => h.markerLoss)
theorem Canonical.auxTick (h : Canonical b) : Canonical (auxTick b) := .when h (fun _ h => h.auxClose)
theorem Canonical.tickFront (h : Canonical b) : Canonical (tickFront b) :=
  h.markerTick.quietEnd.quietStart.balActs.impTick.balGovern.balGates.fineStart.alignStart.auxTick.auxLate
theorem Canonical.tickWatchdog (h : Canonical b) : Canonical (tickWatchdog b) := .hbtFollow h
theorem Canonical.tickAs {root ptm} (h : Canonical b) : Canonical (tickAs root ptm b) :=
  h.tickBefore.tickClock.passEnd.tickNumber.tickCounters.tickCommit.levelsTick.tickModel.tickFront.tickHost.tickWatchdog.cwTick
theorem Canonical.frameTick {ptm} (h : Canonical b) : Canonical (frameTick ptm b) := h.tickAs
theorem Canonical.frameJump {root ptm} (h : Canonical b) : Canonical (frameJump root ptm b) := .ite h.tickAs h
theorem Canonical.chainLayers {j} (h : Canonical b) : Canonical (chainLayers j b) :=
  .ite (.other (.closeInterval (.when h (fun _ h => h.integrator)))) (.fastLayer (.closeInterval (.when h (fun _ h => h.integrator))))
theorem Canonical.chainTick {x} (h : Canonical b) : Canonical (chainTick x b) := by
  unfold Machine.chainTick; split
  exacts [h, .chainTickCw (.chainLayers (.deliverAll (.histogramSecond (.ledAccumulate (.fetCheck (.chainAverages (.other (.ite h h))))))))]
theorem Canonical.evalStage (h : Canonical b) : Canonical (evalStage b) := .ite h (.ite h.sluiceEval (.ite h h.judgeLast.sluiceEval))
theorem Canonical.emitNext {n} (h : Canonical b) : Canonical (emitNext n b) := by
  unfold Machine.emitNext; split
  exacts [.capDoneAll (.emitRecords h), .ite h (.capDoneAll (.emitRecords (.takeWork h)))]
theorem Canonical.emitJump (h : Canonical b) : Canonical (emitJump b) := .each h.rawNow (fun _ _ h => h.emitNext)
theorem Canonical.emitStage {n} (h : Canonical b) : Canonical (emitStage n b) := .ite h.emitJump (.ite h (.when h.emitNext (fun _ h => h.overrun)))
theorem Canonical.chainLate (h : Canonical b) : Canonical (chainLate b) := by
  unfold Machine.chainLate; split
  exacts [h, h]
theorem Canonical.stageOverrun {stage} (h : Canonical b) : Canonical (stageOverrun stage b) := by
  unfold Machine.stageOverrun; split
  exacts [h.collectDeadline.overrun, h.fetchAgain.overrun, .overrun (.ite h h), h.chainLate.overrun, h.overrun]
/-- Every command leaves a register file that was in canonical form so. -/
theorem exec_canonical (i : Instr) (s : State) (h : Canonical s.block) : ∀ t, exec i s = .next t → Canonical t.block := by
  cases i
  all_goals
    intro t e
    cases e
  case powerOnReset => exact .powerOn
  case externalReset => exact h.resetFor
  case chipReset => exact .ite h.resetFor h
  case watchdogExpiry => exact .ite h.resetFor h
  case boot => exact h.boot
  case perstNReset => exact h.perstReset
  case functionLevelReset => exact .ite h.functionReset h
  case pcieConfigRequest => exact h.configRequest
  case dmaSuspend => exact h.suspend
  case dmaResume => exact h.suspend
  case safeInAssert => exact h.safeInHigh
  case pwrRequestRun => exact .ite h.writePwrCtl h
  case pwrRequestStandby => exact .ite h.writePwrCtl h
  case pwrRequestPark => exact .ite h.writePwrCtl h
  case parkEntry => exact h.parkEntry
  case wakeInWake => exact h.wakeEvent
  case wakeTimerExpiry => exact h.wakeEvent
  case causewayWakeTone => exact h.wakeEvent
  case hostWake => exact .ite h (.when (.wakeEvent (.when h (fun _ h => h))) (fun _ h => h))
  case tierSupplyLoss => exact h.supplyLoss
  case tierSupplyReturn => exact h.supplyReturn
  case lcTransition => exact .ite h.writeLcCtl h
  case lcNewChallenge => exact .ite h.writeLcCtl h
  case lcStoreServiceKey => exact .ite h.writeLcCtl h
  case lcStoreCausewayKey => exact .ite h.writeLcCtl h
  case cfgCommit => exact .ite h.cfgAsk h
  case nvCommit => exact .startCmd h (fun _ h => h.cfgAsk)
  case configCommitCapture => exact h.cfgCapture
  case configCommitDone => exact h.cfgDone
  case frameTick => exact .inFrame h (fun _ h => h.frameTick)
  case chainTick => exact .inFrame h (fun _ h => h.chainTick)
  case modelStepBoundary => exact .ite h.stepBoundary h
  case stepLengthChange => exact .ite h.stepLength h
  case doorbellFetch => exact h.doorbellFetch
  case tierResultBlock => exact .inFrame h (fun _ h => h.blockArrives)
  case collectDeadline => exact h.collectDeadline
  case sluiceEval => exact .inFrame h (fun _ h => h.evalStage)
  case emit => exact .inFrame h (fun _ h => h.emitStage)
  case statusPageWrite => exact h.statusPage
  case stageOverrun => exact .inFrame h (fun _ h => h.stageOverrun)
  case auxConversionDone => exact h.auxDone
  case filterOutput => exact .inFrame h (fun _ h => h.outputFormed)
  case openWireTest => exact h.openWireTest
  case checkConversion => exact h.checkConversion
  case checkRefCross => exact h.checkRefCross
  case feCommit => exact .ite h.writeFeCommit h
  case measurementCommitApply => exact .ite h.commitApply h
  case quietIntervalStart => exact .ite h.quietStart.balGates h
  case quietIntervalEnd => exact .ite h.quietEnd.balGates h
  case feAlignRun => exact .ite h.alignRun h
  case fineAlignmentStart => exact h.fineStart
  case fineAlignmentApply => exact .inFrame h (fun _ h => h.fineApply)
  case tierAlignment => exact .inFrame h (fun _ h => h.alignDone)
  case policyNotchPlacement => exact .ite h.notchPlace h
  case rippleCaptureDone => exact .inFrame h (fun _ h => h.rippleDone)
  case impStart => exact .ite h.writeImpCtl h
  case impSweep => exact .startCmd h (fun _ h => .waitOn h)
  case sweepAccept => exact .ite h.nextStart.sweepAccept.passStart.balGovern.balGates h
  case impAbort => exact .ite h.writeImpCtl h
  case impHostGo => exact .ite h.writeImpCtl h
  case impPassStart => exact .ite h.passEnd.passRelease.passStart.balGovern.balGates h
  case impPointEnd => exact .inFrame h (fun _ h => h.passEnd.pointEnd)
  case fenStepComplete => exact h.fenStepComplete
  case stepOverrun => exact .ite h.stepAbandon h
  case fenHalt => exact .inFrame h (fun _ h => h.haltCheck)
  case fenResume => exact .ite h.writeFenCtl h
  case fenStepWrite => exact .ite h.writeFenCtl h
  case fenThrottleChange => exact .inFrame h (fun _ h => h.throttle)
  case currentHoldLimit => exact .inFrame h (fun _ h => h.holdLimit)
  case adaptRebuildStart => exact h.rebuildStart
  case adaptRebuildDone => exact .inFrame h (fun _ h => h.rebuildDone)
  case layoutStepDone => exact .ite h.layoutDone h
  case fenNodeSel => exact .ite h.writeNodeSel h
  case fenImgWaddr => exact .ite h.writeWaddr h
  case fenImgWdata => exact .ite h.writeWdata h
  case imgValidate => exact .ite h.writeImgCtl h
  case imgValidationDone => exact .inFrame h (fun _ h => h.validationDone)
  case imgSwapRequest => exact .ite h.writeImgCtl h
  case imgSwap => exact .startCmd h (fun _ h => .ite h.imgSwapAsk.finish h.imgSwapAsk.finish)
  case imgClear => exact .ite h.writeImgCtl h
  case imgLoad =>
    exact .startCmd h (fun _ h => .ite h.finish (.ite h.finish (.withData h (fun _ _ h => .ite (.waitOn (.imgValidate (.other (.stageMoved h)))) (.finish (.stageMoved h))))))
  case imageBuildStart => exact .ite h.buildStart h
  case imageBuildDone => exact .inFrame h (fun _ h => h.buildDone)
  case policyModeChange => exact .ite h.polModeChange h
  case polOvrGo => exact .ite h.writeOvrCtl h
  case polOvrClear => exact .ite h.writeOvrCtl h
  case polOverride => exact .startCmd h (fun _ h => h.askOverride)
  case overrideTakeup => exact .ite h.takeUp h
  case overrideExpiry => exact .ite h.expireOvr h
  case histogramSecond => exact h.histogramSecond
  case ledgerPeriodicFlush => exact .inFrame h (fun _ h => h.flushPeriodic)
  case ledFlush => exact .ite h.writeLedCtl h
  case ledErase => exact .ite h.writeLedCtl h
  case ledgerFlushDone => exact .ite h h.flushEnd
  case ledRdCtl => exact .ite h.writeLedRd h
  case ledRdData => exact h.readOver
  case ledgerRead => exact .startCmd h (fun _ h => .ite h.finish h.dmaOut)
  case balSetreg => exact .ite h.writeSetReg h
  case balSet => exact .startCmd h (fun _ h => .withData h (fun _ _ h => .waitOn h))
  case balSetApply => exact .ite h h.balSets.balGovern.balGates
  case balModeChange => exact .ite h h.balMode.balGovern.balGates
  case autoTargetApply => exact .ite h h.balTargets.balMet.balGovern.balGates
  case balPeriodBoundary => exact .ite h.balPeriod.balMet.balGovern.balGates h
  case balSlotBoundary => exact .ite h.balGates h
  case balTimerExpiry => exact .ite h.putGate h
  case chargeTargetMet => exact .ite h.balMet.balGovern.balGates h
  case tierMarkerLoss => exact .inFrame h (fun _ h => h.markerLoss)
  case bwReenum => exact .ite h.writeBwCtl h
  case bwClrCnt => exact .ite h.writeBwCtl h
  case hopBreak => exact .ite h.hopBreak h
  case hopRestore => exact h.hopRestore
  case controlBlock => exact .inFrame h (fun _ h => h.controlBlock)
  case rlWalk => exact .ite h.writeRlCtl h
  case rlLearn => exact .ite h.writeRlCtl h
  case reedlineCycle => exact h.stringsRun
  case rlLineShort => exact .ite h h.putString.setLevel
  case rlShortRecovery => exact .ite h h.putString.setLevel
  case rlTagSel => exact .ite h.writeTagSel h
  case cwReenum => exact .ite h.writeCwCtl h
  case cwEnumToken => exact .inFrame h (fun _ h => .tagged h (fun _ h => h.enumToken))
  case cwLearn => exact .ite h.writeCwCtl h
  case cwReneg => exact .ite h.writeCwCtl h
  case cwHopTraining => exact .ite h.hopTraining h
  case cwWakeTx => exact .ite h.writeCwCtl h
  case syncBlock => exact .ite h.syncBlock h
  case frameNumberJump => exact .inFrame h (fun _ h => h.frameJump)
  case syncLoss => exact .ite h.syncLoss h
  case heartbeatReceive => exact .ite h.heartbeatReceive h
  case cwHbLost => exact .ite h.hbLost h
  case chainRecordReceive => exact .ite h.chainReceive h
  case cwTagReceive => exact .ite h.tagReceive h
  case cwHopBreak => exact .ite h.cwHopBreak h
  case cwRouteRestore => exact .ite h.routeRestored h
  case cwProfileChange => exact h.profileChange
  case radioSuperframe => exact h.superframe
  case radioPacketReceive => exact .ite h.radioReceive h
  case radioLoss => exact .ite h.radioLoss h
  case cwFwdGo => exact .ite h.writeFwdCtl h
  case cwForward => exact .startCmd h (fun _ h => .withData h (fun _ _ h => h.forwardCmd))
  case forwardRequest => exact .ite h.emitOut (.ite (.tagged h (fun _ h => h.forwardServe)) h)
  case forwardResponse => exact .inFrame h (fun _ h => .ite h.emitOut (.tagged h (fun _ h => h.forwardResponse)))
  case forwardTimeout => exact .ite h.forwardTimeout h
  case hstDbbFetch => exact h.windowB
  case hstDbbFetchAll => exact h.windowB
  case hstDbbTime => exact h.windowB
  case hstDbbSq => exact h.windowB
  case cfgWrite => exact .startCmd h (fun _ h => .withData h (fun _ _ h => h.cfgWrite))
  case cfgRead => exact .startCmd h (fun _ h => .withData h (fun _ _ h => h.cfgRead))
  case capPull => exact .startCmd h (fun _ h => h.capPull)
  case bistRun => exact .startCmd h (fun _ h => .bistAsk (.when h (fun _ h => h)))
  case fwUpdate => exact .startCmd h (fun _ h => .withData h (fun _ _ h => h.fwUpdate))
  case timeSync => exact .startCmd h (fun _ h => h.waitOn)
  case completionPost => exact h.postOne
  case hstRingEnable => exact .ite h.ringTick h
  case hstQuotaWrite => exact .ite h.writeQuota h
  case spiRead => exact h.spiRead
  case spiWrite => exact h.spiWrite
  case spiWriteFixed => exact h.spiWrite
  case spiPop => exact h.spiPop
  case spiFifoSkip => exact .ite h.writeFifoCtl h
  case spiFifoFlush => exact .ite h.writeFifoCtl h
  case lowHalfRead => exact .ite h.readOver h
  case highHalfRead => exact .ite h.readOver h
  case capRingEnable => exact .ite h.capTicks h
  case capTrig => exact .ite h.writeCapCtl h
  case capArm => exact .ite h.writeCapCtl h
  case captureDone => exact .ite h.capDoneAll h
  case capMarkWrite => exact .ite h.writeCapMark h
  case capRdData => exact h.readOver
  case cntModeWrite => exact .ite h.writeCntCfg h
  case cntClear => exact .ite h.writeCntCfg h
  case cntUnfreeze => exact .ite h.writeCntCtl h
  case supervisorDetector => exact .ite h.safeInHigh (.ite h.detectNow.hbtFollow h.holdCond)
  case blockReset => exact .inFrame h (fun _ h => h.blockReset)
  case slStickyClear => exact .ite h.writeSticky h
  case slInjSet => exact .ite h.writeInj h
  case slInjClr => exact .ite h.writeInj h
  case bistCtlRun => exact .ite h.writeBistCtl h
  case bistCtlAbort => exact .ite h.writeBistCtl h
  case bistRunStart => exact h.bistStart
  case bistRunEnd => exact .inFrame h (fun _ h => h.bistEnd)
  case rollingAbistStart => exact h.rollStart
  case registerWrite => exact .ite (.when h (fun _ h => h.emitOut)) (.ite h.windowB (.ite (.writeReg (.when h (fun _ h => h.traffic))) h))
  case safeInRelease => exact h.safeInLow
  case detectorConditionEnd => exact .ite h.safeInLow h.endNow
  case jtagAccess => exact (by split; exacts [h.scanLands, h, h, h.jtagRead])
  case perstNRelease => exact .ite h h
  case pcieLinkUp => exact .ite h (.setF (.setF (.setF (.resumeAfter h (fun _ h => h)))))
  case aspmL1Entry => exact .ite h.setF h
  case unknownOpcodeDescriptor => exact .ite h (.startCmd h (fun _ h => h.finish))

end Sys2Proof.Machine

namespace Sys2Proof
open Machine

/-- Settles O7: every command's effect is made of operations that write the register file through `setR`, or drop a group of registers from it, and each of
them keeps the canonical form. -/
theorem canonicalKept : Obligations.CanonicalKept := by
  intro s t h e
  unfold step at e
  split at e
  · cases e
    exact h
  · next c rest _ => exact exec_canonical c ⟨s.block, rest⟩ h t e

end Sys2Proof

namespace Sys2Proof.Machine

/-! The timestamp at the last frame tick: which operations leave it, and how the others move it on. -/

@[simp] theorem hstReset_ticks (b : Block) : (hstReset b).clock.ticks = b.clock.ticks := by
  simp [hstReset]

@[simp] theorem perstReset_ticks (b : Block) : (perstReset b).clock.ticks = b.clock.ticks := hstReset_ticks b

@[simp] theorem functionReset_ticks (b : Block) : (functionReset b).clock.ticks = b.clock.ticks := by
  simp [functionReset]

@[simp] theorem tagged_ticks {a kind : Nat} {content : List Nat} {t : Tagged} {go : Block → Block} {b : Block} (h : ∀ c, (go c).clock.ticks = c.clock.ticks) :
    (tagged a kind content t go b).clock.ticks = b.clock.ticks := by
  simp [tagged, h]

@[simp] theorem takeConds_ticks (b : Block) : (takeConds b).2.clock.ticks = b.clock.ticks := by
  simp [takeConds]

@[simp] theorem evalPassed_ticks (b : Block) : (evalPassed b).clock.ticks = b.clock.ticks := takeConds_ticks b

@[simp] theorem srDrain_ticks (s n moved : Nat) (b : Block) : (srDrain s n moved b).2.clock.ticks = b.clock.ticks := by
  induction n generalizing moved b with
  | zero => rfl
  | succ n ih =>
    unfold srDrain; split
    · rfl
    · split
      · simp [ih]
      · rfl

@[simp] theorem streamEmit_ticks (s : Nat) (carried new : List Rec) (moved : Nat) (b : Block) : (streamEmit s carried new moved b).2.clock.ticks = b.clock.ticks := by
  unfold streamEmit; split
  · rfl
  · simp

@[simp] theorem streamsEmit_ticks (carried new : List Rec) (ss : List Nat) (moved : Nat) (b : Block) :
    (streamsEmit carried new ss moved b).clock.ticks = b.clock.ticks := by
  induction ss generalizing moved b with
  | nil => rfl
  | cons s ss ih => simp [streamsEmit, ih]

@[simp] theorem markChain_clock (rs : List Rec) (b : Block) : (markChain rs b).2.clock = b.clock := by
  induction rs generalizing b with
  | nil => rfl
  | cons r rs ih =>
    unfold markChain; split
    · rfl
    · split
      · rfl
      · exact ih b

@[simp] theorem emitRecords_ticks (n : Nat) (w : EmitWork) (b : Block) : (emitRecords n w b).clock.ticks = b.clock.ticks := by
  simp [emitRecords]

@[simp] theorem evaluateNext_ticks (b : Block) : (evaluateNext b).clock.ticks = b.clock.ticks := by
  unfold evaluateNext; split
  · simp
  · simp [evaluate]

@[simp] theorem sluiceEval_ticks (b : Block) : (sluiceEval b).clock.ticks = b.clock.ticks := by
  simp [sluiceEval]

@[simp] theorem evalStage_ticks (b : Block) : (evalStage b).clock.ticks = b.clock.ticks := by
  simp [evalStage]

@[simp] theorem emitNext_ticks (n : Nat) (b : Block) : (emitNext n b).clock.ticks = b.clock.ticks := by
  unfold emitNext; split <;> simp

@[simp] theorem emitJump_ticks (b : Block) : (emitJump b).clock.ticks = b.clock.ticks := by
  simp [emitJump]

@[simp] theorem emitStage_ticks (n : Nat) (b : Block) : (emitStage n b).clock.ticks = b.clock.ticks := by
  simp [emitStage]

@[simp] theorem evalOvertaken_ticks (b : Block) : (evalOvertaken b).clock.ticks = b.clock.ticks := by
  simp [evalOvertaken]

@[simp] theorem tickBefore_ticks (b : Block) : (tickBefore b).clock.ticks = b.clock.ticks := by
  simp [tickBefore]

/-- A frame tick, with a jump of the frame number or without, moves the timestamp on by one frame. -/
theorem tickAs_ticks (root : Option Nat) (ptm : Nat) (b : Block) : (tickAs root ptm b).clock.ticks = b.clock.ticks + 512 := by
  simp [tickAs, tickClock]

@[simp] theorem parkStop_ticks (b : Block) : (parkStop b).clock.ticks = b.clock.ticks := rfl

@[simp] theorem parkDown_ticks (b : Block) : (parkDown b).clock.ticks = b.clock.ticks := by
  simp [parkDown]

/-- The last frame of PARK entry is one more frame. -/
theorem parkFrame_ticks (b : Block) : (parkFrame b).clock.ticks = b.clock.ticks + 512 := by
  simp [parkFrame]

/-- A wake moves the timestamp on by the frames in PARK and those up to the first measurement frame. -/
theorem wake_ticks (src : Nat) (x : WakeInput) (b : Block) : (wake src x b).clock.ticks = b.clock.ticks + (x.parked + x.frames) * 512 := by
  simp [wake, wakeBegin]

theorem wakeEvent_ticks_le (src : Nat) (x : WakeInput) (b : Block) : b.clock.ticks ≤ (wakeEvent src x b).clock.ticks := by
  unfold wakeEvent
  dsimp only
  split
  · exact le_rfl
  · split
    · rw [wake_ticks]; exact Nat.le_add_right _ _
    · split <;> exact le_rfl

theorem parkEntry_ticks_le (fail : Option Nat) (x : WakeInput) (b : Block) : b.clock.ticks ≤ (parkEntry fail x b).clock.ticks := by
  unfold parkEntry
  dsimp only
  split
  · exact le_rfl
  · have frame : (parkDown (parkFrame (parkFlush fail b))).clock.ticks = b.clock.ticks + 512 := by simp [parkFrame_ticks]
    split
    · omega
    · rw [wake_ticks]; omega

theorem bootTime_ticks_le (n : Nat) (b : Block) : b.clock.ticks ≤ (bootTime n b).clock.ticks := le_max_left _ _

@[simp] theorem halt_ticks (b : Block) : (halt b).clock.ticks = b.clock.ticks := rfl
@[simp] theorem bootLands_ticks (x : BootInput) (b : Block) : (bootLands x b).clock.ticks = b.clock.ticks := rfl

theorem bootStart_ticks_le (x : BootInput) (b : Block) : b.clock.ticks ≤ (bootStart x b).clock.ticks := by
  unfold bootStart
  dsimp only
  split
  · exact le_rfl
  · split
    · exact le_rfl
    · exact bootTime_ticks_le _ _

theorem bootVerify_ticks_le (x : BootInput) (b : Block) : b.clock.ticks ≤ (bootVerify x b).clock.ticks := by
  unfold bootVerify
  split
  · exact le_rfl
  · split
    · exact le_rfl
    · exact bootTime_ticks_le _ _

@[simp] theorem bootRun_ticks (x : BootInput) (b : Block) : (bootRun x b).clock.ticks = b.clock.ticks := by
  simp [bootRun]

theorem bootFinish_ticks_le (x : BootInput) (b : Block) : b.clock.ticks ≤ (bootFinish x b).clock.ticks := by
  unfold bootFinish
  split
  · exact le_rfl
  · split
    · exact le_rfl
    · rw [bootRun_ticks]; exact bootTime_ticks_le _ _

theorem boot_ticks_le (x : BootInput) (b : Block) : b.clock.ticks ≤ (boot x b).clock.ticks := by
  unfold boot
  split
  · exact le_rfl
  · split
    · exact bootStart_ticks_le x b
    · split
      exacts [le_rfl, bootVerify_ticks_le x b]
    · split
      exacts [le_rfl, bootTime_ticks_le _ b]
    · calc b.clock.ticks ≤ (bootStart x b).clock.ticks := bootStart_ticks_le x b
        _ ≤ (bootVerify x (bootStart x b)).clock.ticks := bootVerify_ticks_le x _
        _ ≤ _ := bootFinish_ticks_le x _

theorem ite_ticks_le {p : Prop} [Decidable p] {n : Nat} {x y : Block} (hx : n ≤ x.clock.ticks) (hy : n ≤ y.clock.ticks) : n ≤ (if p then x else y).clock.ticks := by
  split
  exacts [hx, hy]

theorem inFrame_ticks_le {f : Block → Block} (h : ∀ c, c.clock.ticks ≤ (f c).clock.ticks) (b : Block) : b.clock.ticks ≤ (inFrame f b).clock.ticks :=
  ite_ticks_le (h b) le_rfl

theorem frameJump_ticks_le (root ptm : Nat) (b : Block) : b.clock.ticks ≤ (frameJump root ptm b).clock.ticks := by
  unfold frameJump; split
  · rw [tickAs_ticks]; exact Nat.le_add_right _ _
  · exact le_rfl

theorem execHostWake_ticks_le {perst : Bool} {w : WakeInput} {s t : State} (e : execHostWake perst w s = .next t) : s.block.clock.ticks ≤ t.block.clock.ticks := by
  cases e
  refine ite_ticks_le le_rfl ?_
  rw [when_clock _ _ _ rfl]
  refine le_trans (le_of_eq ?_) (wakeEvent_ticks_le 3 w _)
  rw [when_clock _ _ _ rfl]

/-- Whether a command is one of those that can change the timestamp: a module reset, a boot, the entry to PARK, a wake, a frame tick. -/
def movesClock : Instr → Bool
  | .powerOnReset | .externalReset | .chipReset | .watchdogExpiry | .boot _ | .parkEntry _ _ | .wakeInWake _ | .wakeTimerExpiry _ | .causewayWakeTone _
  | .hostWake _ _ | .frameTick _ | .frameNumberJump _ => true
  | _ => false

/-- Every other command leaves it. -/
theorem exec_ticks {i : Instr} {b c : Block} {q : List Instr} (hi : movesClock i = false) (e : exec i ⟨b, q⟩ = .next ⟨c, q⟩) : c.clock.ticks = b.clock.ticks := by
  cases i
  case powerOnReset | externalReset | chipReset | watchdogExpiry | boot | parkEntry | wakeInWake | wakeTimerExpiry | causewayWakeTone | hostWake | frameTick
      | frameNumberJump => cases hi
  all_goals cases e
  case jtagAccess o => cases o <;> simp
  case forwardRequest m =>
    dsimp only
    split
    · simp
    · split <;> simp
  all_goals simp

end Sys2Proof.Machine

namespace Sys2Proof
open Machine

/-- Settles O9: twelve commands can change the timestamp; without the module resets the rest of them only moves it on, by the frames that have passed. -/
theorem timestampOnward : Obligations.TimestampOnward := by
  intro i b c q e hpor hext hchip hwd
  cases i
  case powerOnReset => exact absurd rfl hpor
  case externalReset => exact absurd rfl hext
  case chipReset => exact absurd rfl hchip
  case watchdogExpiry => exact absurd rfl hwd
  case boot x => cases e; exact boot_ticks_le x b
  case parkEntry fail w => cases e; exact parkEntry_ticks_le _ w b
  case wakeInWake w => cases e; exact wakeEvent_ticks_le 0 w b
  case wakeTimerExpiry w => cases e; exact wakeEvent_ticks_le 1 w b
  case causewayWakeTone w => cases e; exact wakeEvent_ticks_le 2 w b
  case hostWake perst w => exact execHostWake_ticks_le e
  case frameTick n => cases e; exact inFrame_ticks_le (fun c => by rw [Machine.frameTick, tickAs_ticks]; exact Nat.le_add_right _ _) b
  case frameNumberJump x => cases e; exact inFrame_ticks_le (frameJump_ticks_le _ _) b
  all_goals exact (exec_ticks rfl e).ge

end Sys2Proof

namespace Sys2Proof.Machine

/-- A block in RUN at device frame 5 that is no follower and has no frame-number offset. A check conversion of the frame before waits to be judged for
"cell 1266": there is no such cell, but FE_CHK_LAST of that number has the offset of CW_FRAME_OFS_LO. -/
def strayCheck : Block :=
  { pwr := { state := .run, resetHold := false, fwReady := true }
    clock := { ticks := 512 * 5, running := true }
    fe := { chkPend := [⟨1266, 4, 800, 8000000⟩] } }

/-- The frame's open check is judged before the tick, its result lands in CW_FRAME_OFS_LO, and the tick takes that offset back by a jump, which ends a chain tick. -/
theorem frameTick_strayCheck : (inFrame (frameTick (0 : BitVec 64).toNat) strayCheck).fe.jobs.length = 1 := by decide +kernel

theorem exec_frameTick (n : BitVec 64) (b : Block) (q : List Instr) : exec (.frameTick n) ⟨b, q⟩ = .next ⟨inFrame (frameTick n.toNat) b, q⟩ := rfl

end Sys2Proof.Machine

namespace Sys2Proof
open Machine

/-- Refutes O21: of every block it says too much. In `strayCheck` the evaluation that the tick overtakes writes a check result over CW_FRAME_OFS_LO, so a jump falls on
the tick although the module counts its own frames, and frame 6 comes to owe the work of a chain tick. -/
theorem not_frameTick : ¬ Obligations.FrameTick := by
  intro ⟨_, h⟩
  obtain ⟨c, e, -, -, -, -, -, -, -, -, owed⟩ := (h 0 strayCheck []).1 rfl
  have none : c.fe.jobs.length = 0 := owed (.inr rfl) (by decide)
  rw [exec_frameTick] at e
  injection e with e
  injection e with e
  rw [← e, frameTick_strayCheck] at none
  exact absurd none (by decide)

end Sys2Proof

namespace Sys2Proof.Machine

/-! A write of a plain register: on each page of offsets the registers and ranges that a write treats apart are those that `plainLow` and `plainHigh` leave out. -/

theorem writeLow_plain {a : Nat} (h : plainLow a = true) (v : Word) (b : Block) : writeLow a v b = writeBits a v b := by
  simp only [plainLow, List.contains_cons, List.contains_nil, Bool.and_eq_true, Bool.not_eq_true', Bool.or_eq_false_iff,
    beq_eq_false_iff_ne, bne_iff_ne, decide_eq_false_iff_not] at h
  unfold writeLow
  split <;> grind

theorem writeHigh_plain {a : Nat} (h : plainHigh a = true) (v : Word) (b : Block) : writeHigh a v b = writeBits a v b := by
  simp only [plainHigh, List.contains_cons, List.contains_nil, Bool.and_eq_true, Bool.not_eq_true', Bool.or_eq_false_iff, beq_eq_false_iff_ne,
    decide_eq_false_iff_not] at h
  unfold writeHigh
  split <;> grind

/-- Offset `a` belongs to a register without behaviour of its own. -/
def plainAt (a : Nat) : Bool := if a < 0x8000 then plainLow a else plainHigh a

theorem ne_commit_of_plainAt {a : Nat} (h : plainAt a = true) : a ≠ R.FE_COMMIT := by
  rintro rfl
  exact absurd h (by decide)

theorem ne_link_of_plainAt {a : Nat} (h : plainAt a = true) : a ≠ R.HST_LINK := by
  rintro rfl
  exact absurd h (by decide)

theorem getF_of_getR {b c : Block} {f : Fld} (h : getR c f.reg = getR b f.reg) : getF c f = getF b f := by
  unfold getF
  rw [h]

theorem getF_writeBits_ne {a : Nat} (f : Fld) (v : Word) (b : Block) (h : f.reg ≠ a) : getF (writeBits a v b) f = getF b f :=
  getF_of_getR (getR_writeBits_ne v b h)

theorem writeReg_plain {a : Nat} (h : plainAt a = true) (v : Word) (b : Block) :
    writeReg a v b = when (hasRws a && isF b F.FE_COMMIT_AUTOCOMMIT) commitAsk (writeBits a v b) := by
  have auto : isF (writeBits a v b) F.FE_COMMIT_AUTOCOMMIT = isF b F.FE_COMMIT_AUTOCOMMIT := by
    unfold isF
    rw [getF_writeBits_ne _ v b (ne_commit_of_plainAt h).symm]
  have bits : (if a < 0x8000 then writeLow a v b else writeHigh a v b) = writeBits a v b := by
    unfold plainAt at h
    split at h
    · rw [if_pos ‹_›, writeLow_plain h]
    · rw [if_neg ‹_›, writeHigh_plain h]
  unfold writeReg
  rw [bits]
  dsimp only
  rw [auto]

theorem bitOf_eq_testBit (n i : Nat) : bitOf n i = n.testBit i := by
  rw [Nat.testBit_eq_decide_div_mod_eq]
  rfl

theorem getR_writeBits {a : Nat} {r : RegRow} (h : regRow a = some r) (v : Word) (b : Block) :
    getR (writeBits a v b) a =
      w32 ((((getR b a).toNat &&& (0xFFFFFFFF ^^^ (r.rw ||| r.rws))) ||| (v.toNat &&& (r.rw ||| r.rws))) &&& (0xFFFFFFFF ^^^ (v.toNat &&& r.w1c))) := by
  unfold writeBits
  rw [h]
  exact getR_setR _ _ _

/-- R12, bit by bit. -/
theorem bitOf_writeBits {a : Nat} {r : RegRow} (h : regRow a = some r) (v : Word) (b : Block) {j : Nat} (hj : j < 32) :
    bitOf (getR (writeBits a v b) a).toNat j = bitAfter r (getR b a) v j := by
  have full : Nat.testBit 0xFFFFFFFF j = true := by
    rw [show (0xFFFFFFFF : Nat) = 2 ^ 32 - 1 from rfl, Nat.testBit_two_pow_sub_one]
    exact decide_eq_true hj
  simp only [bitAfter, bitOf_eq_testBit, getR_writeBits h, w32_toNat, Nat.testBit_mod_two_pow, Nat.testBit_and, Nat.testBit_or, Nat.testBit_xor, full, hj, decide_true,
    Bool.true_and, Bool.true_xor]
  generalize r.w1c.testBit j = w1c, v.toNat.testBit j = new, r.rw.testBit j = rw, r.rws.testBit j = rws, (getR b a).toNat.testBit j = old
  revert w1c new rw rws old
  decide

theorem onlyRegs_trans {b c d : Block} (hc : c = { b with regs := c.regs }) (hd : d = { c with regs := d.regs }) : d = { b with regs := d.regs } :=
  hd.trans (by rw [hc])

theorem onlyRegs_when {c : Bool} {f : Block → Block} (h : ∀ b, f b = { b with regs := (f b).regs }) (b : Block) : when c f b = { b with regs := (when c f b).regs } := by
  unfold when
  split
  · exact h b
  · rfl

theorem onlyRegs_writeBits (a : Nat) (v : Word) (b : Block) : writeBits a v b = { b with regs := (writeBits a v b).regs } := by
  unfold writeBits
  split <;> rfl

theorem getR_when_commitAsk {c : Bool} {a : Nat} (b : Block) (h : a ≠ R.FE_COMMIT) : getR (when c commitAsk b) a = getR b a := by
  unfold when
  split
  · exact getR_setF_ne _ _ _ h
  · rfl

theorem getR_when_traffic {c : Bool} {a : Nat} (b : Block) (h : c = true → a ≠ R.HST_LINK) : getR (when c traffic b) a = getR b a := by
  unfold when
  split
  · next on => exact getR_setF_ne _ _ _ (h on)
  · rfl

/-- What a write of a plain register over path `p` makes of the block. -/
def plainWritten (p : Path) (a : Nat) (v : Word) (b : Block) : Block :=
  when (hasRws a && isF b F.FE_COMMIT_AUTOCOMMIT) commitAsk (writeBits a v (when (p == .pcie) traffic b))

section
variable {p : Path} {a : Nat} {v : Word} {b : Block}

theorem onlyRegs_plainWritten : plainWritten p a v b = { b with regs := (plainWritten p a v b).regs } :=
  onlyRegs_trans (onlyRegs_trans (onlyRegs_when (fun _ => rfl) b) (onlyRegs_writeBits a v _)) (onlyRegs_when (fun _ => rfl) _)

theorem bitOf_plainWritten {r : RegRow} (h : plainAt a = true) (row : regRow a = some r) {j : Nat} (hj : j < 32) :
    bitOf (getR (plainWritten p a v b) a).toNat j = bitAfter r (getR b a) v j := by
  unfold plainWritten
  rw [getR_when_commitAsk _ (ne_commit_of_plainAt h), bitOf_writeBits row v _ hj, getR_when_traffic _ fun _ => ne_link_of_plainAt h]

theorem regsBut_plainWritten : RegsBut ([a, R.FE_COMMIT] ++ if p = .pcie then [R.HST_LINK] else []) b (plainWritten p a v b) := by
  intro a' h
  simp only [List.mem_append, List.mem_cons, List.not_mem_nil, or_false, not_or] at h
  obtain ⟨⟨self, commit⟩, link⟩ := h
  unfold plainWritten
  rw [getR_when_commitAsk _ commit, getR_writeBits_ne _ _ self, getR_when_traffic]
  rintro on rfl
  rw [beq_iff_eq] at on
  simp [on] at link

theorem l1_plainWritten (h : plainAt a = true) (pcie : p = .pcie) : getF (plainWritten p a v b) F.HST_LINK_L1 = 0 := by
  subst pcie
  have link : getR (plainWritten .pcie a v b) R.HST_LINK = getR (traffic b) R.HST_LINK := by
    unfold plainWritten
    rw [getR_when_commitAsk _ (by decide), getR_writeBits_ne _ _ (ne_link_of_plainAt h).symm]
    rfl
  exact (getF_of_getR (f := F.HST_LINK_L1) link).trans (getF_setF F.HST_LINK_L1 0 b (by decide))

/-- Neither the write itself nor the end of L1 changes FE_COMMIT. -/
theorem getR_commit_written (h : plainAt a = true) : getR (writeBits a v (when (p == .pcie) traffic b)) R.FE_COMMIT = getR b R.FE_COMMIT := by
  rw [getR_writeBits_ne _ _ (ne_commit_of_plainAt h).symm, getR_when_traffic _ fun _ => by decide]

theorem pending_plainWritten {r : RegRow} (h : plainAt a = true) (row : regRow a = some r) :
    getF (plainWritten p a v b) F.FE_COMMIT_PENDING = if r.rws ≠ 0 ∧ getF b F.FE_COMMIT_AUTOCOMMIT = 1 then 1 else getF b F.FE_COMMIT_PENDING := by
  have auto : getF b F.FE_COMMIT_AUTOCOMMIT < 2 := bitsOf_lt _ _ _
  have asked : (hasRws a && isF b F.FE_COMMIT_AUTOCOMMIT) = true ↔ r.rws ≠ 0 ∧ getF b F.FE_COMMIT_AUTOCOMMIT = 1 := by
    simp only [hasRws, row, isF, Option.any_some, Bool.and_eq_true, decide_eq_true_eq, bne_iff_ne]
    omega
  unfold plainWritten when
  simp only [asked]
  split
  · exact getF_setF F.FE_COMMIT_PENDING 1 _ (by decide)
  · exact getF_of_getR (getR_commit_written h)

theorem beside_plainWritten (h : plainAt a = true) : FieldsBeside F.FE_COMMIT_PENDING b (plainWritten p a v b) := by
  intro lo len d
  have same : (getR (writeBits a v (when (p == .pcie) traffic b)) F.FE_COMMIT_PENDING.reg).toNat = (getR b F.FE_COMMIT_PENDING.reg).toNat :=
    congrArg BitVec.toNat (getR_commit_written h)
  unfold plainWritten when
  split
  · unfold commitAsk
    rw [getR_setF, bitsOf_w32_setBitsOf _ _ _ _ _ _ (BitVec.isLt _) (by decide) d]
    exact congrArg (bitsOf · lo len) same
  · exact congrArg (bitsOf · lo len) same

theorem writeReg_plain_traffic (h : plainAt a = true) : writeReg a v (when (p == .pcie) traffic b) = plainWritten p a v b := by
  rw [writeReg_plain h]
  unfold plainWritten isF
  rw [getF_of_getR (f := F.FE_COMMIT_AUTOCOMMIT) (getR_when_traffic b fun _ => by decide)]

end

theorem badRequest_eq_false {p : Path} {a : Nat} (hb : p ≠ .pcieB) (hw : p ≠ .pcieWide) (ha : p = .pcie → a % 4 = 0) : badRequest p a = false := by
  cases p
  case pcie => simp [badRequest, ha rfl]
  case pcieB => exact absurd rfl hb
  case pcieWide => exact absurd rfl hw
  all_goals rfl

theorem exec_registerWrite_unsupported {p : Path} {a : BitVec 20} {b : Block} (v : Word) (q : List Instr) (bad : badRequest p a.toNat = true) (up : pcieUp b = true) :
    exec (.registerWrite p a v) ⟨b, q⟩ = .next ⟨emitOut .pcieUnsupported b, q⟩ := by
  simp [exec, execRegisterWrite, bad, up, when_true]

/-- A request that is answered reaches `writeReg` where host links take accesses and its path reaches the offset. -/
theorem exec_registerWrite {p : Path} {a : BitVec 20} (v : Word) (b : Block) (q : List Instr) (good : badRequest p a.toNat = false) (hb : p ≠ .pcieB) :
    exec (.registerWrite p a v) ⟨b, q⟩ =
      .next ⟨if ready b && pathUp p b && pathReach p a.toNat then writeReg a.toNat v (when (p == .pcie) traffic b) else b, q⟩ := by
  simp [exec, execRegisterWrite, good, hb]

end Sys2Proof.Machine

namespace Sys2Proof
open Machine

/-- Settles O30: on a plain register `writeReg` is the write of R12 with the commit of R166, and each of the two, and the end of L1, changes one register. -/
theorem registerWrites : Obligations.RegisterWrites := by
  refine ⟨fun p a v b q hp up => ?_, fun p a v b q hb hw ha => ?_⟩
  · have bad : badRequest p a.toNat = true := by
      rcases hp with rfl | ⟨rfl, odd⟩
      · rfl
      · simpa [badRequest] using odd
    exact exec_registerWrite_unsupported v q bad up
  · have run := exec_registerWrite v b q (badRequest_eq_false hb hw ha) hb
    refine ⟨fun rdy up reach plain r row => ⟨plainWritten p a.toNat v b, ?_, onlyRegs_plainWritten, fun j => bitOf_plainWritten plain row, regsBut_plainWritten,
      l1_plainWritten plain, pending_plainWritten plain row, beside_plainWritten plain⟩, fun closed => ?_⟩
    · rw [run, rdy, up, reach, writeReg_plain_traffic plain]
      rfl
    · rw [run, if_neg]
      rcases closed with h | h | h <;> simp [h]

end Sys2Proof

namespace Sys2Proof.Machine

/-! The work of a chain tick (R24, R29): what follows the averages leaves the front end and the clock alone. -/

@[simp] theorem putGate_feClock (n : Nat) (c : BalCell) (b : Block) : (putGate n c b).fe = b.fe ∧ (putGate n c b).clock = b.clock := by
  unfold putGate; simp
@[simp] theorem fetCheck_feClock (avail : Nat → Bool) (vds : List Nat) (b : Block) :
    (fetCheck avail vds b).fe = b.fe ∧ (fetCheck avail vds b).clock = b.clock := by
  unfold fetCheck; simp
@[simp] theorem ledAccumulate_feClock (b : Block) : (ledAccumulate b).fe = b.fe ∧ (ledAccumulate b).clock = b.clock := by
  unfold ledAccumulate; simp
@[simp] theorem histogramSecond_feClock (b : Block) : (histogramSecond b).fe = b.fe ∧ (histogramSecond b).clock = b.clock := by
  unfold histogramSecond; simp
@[simp] theorem countCheck_feClock (t n : Nat) (b : Block) : (countCheck t n b).fe = b.fe ∧ (countCheck t n b).clock = b.clock := by
  unfold countCheck; simp
@[simp] theorem surface_feClock (j : ChainJob) (t : Nat) (d : StringDue) (b : Block) : (surface j t d b).fe = b.fe ∧ (surface j t d b).clock = b.clock := by
  unfold surface; simp
@[simp] theorem deliver_feClock (j : ChainJob) (t : Nat) (d : StringDue) (b : Block) : (deliver j t d b).fe = b.fe ∧ (deliver j t d b).clock = b.clock := by
  unfold deliver; simp
@[simp] theorem putString_feClock (t : Nat) (x : RlString) (b : Block) : (putString t x b).fe = b.fe ∧ (putString t x b).clock = b.clock := ⟨rfl, rfl⟩
@[simp] theorem deliverAll_feClock (j : ChainJob) (b : Block) : (deliverAll j b).fe = b.fe ∧ (deliverAll j b).clock = b.clock := by
  unfold deliverAll; simp
@[simp] theorem holdLimit_feClock (b : Block) : (holdLimit b).fe = b.fe ∧ (holdLimit b).clock = b.clock := by
  unfold holdLimit; simp
@[simp] theorem currentTaken_feClock (j : ChainJob) (b : Block) : (currentTaken j b).fe = b.fe ∧ (currentTaken j b).clock = b.clock := by
  unfold currentTaken; split <;> simp
@[simp] theorem integrate_feClock (n : Nat) (q : Rat) (b : Block) : (integrate n q b).fe = b.fe ∧ (integrate n q b).clock = b.clock := ⟨rfl, rfl⟩
@[simp] theorem integrator_feClock (j : ChainJob) (b : Block) : (integrator j b).fe = b.fe ∧ (integrator j b).clock = b.clock := by
  unfold integrator tickCharge tickSums; simp
@[simp] theorem fastPublish_feClock (n : Nat) (b : Block) : (fastPublish n b).fe = b.fe ∧ (fastPublish n b).clock = b.clock := by
  unfold fastPublish; simp
@[simp] theorem putFast_feClock (n : Nat) (c : FastCell) (b : Block) : (putFast n c b).fe = b.fe ∧ (putFast n c b).clock = b.clock := ⟨rfl, rfl⟩
@[simp] theorem fastStep_feClock (n : Nat) (i dt : Rat) (held : Bool) (bad : List Nat) (b : Block) :
    (fastStep n i dt held bad b).fe = b.fe ∧ (fastStep n i dt held bad b).clock = b.clock := by
  unfold fastStep; simp
@[simp] theorem fastLayer_feClock (j : ChainJob) (b : Block) : (fastLayer j b).fe = b.fe ∧ (fastLayer j b).clock = b.clock := by
  unfold fastLayer; simp
@[simp] theorem closeInterval_feClock (j : ChainJob) (b : Block) : (closeInterval j b).fe = b.fe ∧ (closeInterval j b).clock = b.clock := by
  unfold closeInterval; split <;> simp
@[simp] theorem chainLayers_feClock (j : ChainJob) (b : Block) : (chainLayers j b).fe = b.fe ∧ (chainLayers j b).clock = b.clock := by
  unfold chainLayers; simp
@[simp] theorem chainTickCw_feClock (j : ChainJob) (b : Block) : (chainTickCw j b).fe = b.fe ∧ (chainTickCw j b).clock = b.clock := by
  unfold chainTickCw sendRecord queueRec; simp

@[simp] theorem chainAverages_avgOk (x : ChainInput) (j : ChainJob) (b : Block) : (chainAverages x j b).fe.avgOk = j.ok := by
  unfold chainAverages
  rw [each_proj (fun c => c.fe.avgOk), each_proj (fun c => c.fe.avgOk), each_proj (fun c => c.fe.avgOk)]
  all_goals intros; simp
@[simp] theorem chainAverages_jobs (x : ChainInput) (j : ChainJob) (b : Block) : (chainAverages x j b).fe.jobs = b.fe.jobs := by
  unfold chainAverages
  rw [each_proj (fun c => c.fe.jobs), each_proj (fun c => c.fe.jobs), each_proj (fun c => c.fe.jobs)]
  all_goals intros; simp
@[simp] theorem chainAverages_clock (x : ChainInput) (j : ChainJob) (b : Block) : (chainAverages x j b).clock = b.clock := by
  unfold chainAverages; simp

theorem chainTick_none {b : Block} (x : ChainInput) (h : b.fe.jobs = []) : chainTick x b = b := by
  unfold chainTick; rw [h]

theorem chainTick_work {x : ChainInput} {b : Block} {j : ChainJob} {rest : List ChainJob} (h : b.fe.jobs = j :: rest) :
    (chainTick x b).fe.jobs = rest ∧ (chainTick x b).fe.avgOk = (formJob j b).ok ∧ (chainTick x b).clock = b.clock := by
  unfold chainTick; rw [h]; simp

theorem formJob_formed {j : ChainJob} (b : Block) (h : j.formed = true) : formJob j b = j := if_pos h

/-- R154: a cell's average is valid where the chain tick was whole, its tier missed no frame of it, its channel stayed in range, and the cell was there. -/
theorem mem_formJob_ok {j : ChainJob} {b : Block} (h : j.formed = false) {n : Nat} (low : 1 ≤ n) (high : n ≤ 192) :
    n ∈ (formJob j b).ok ↔ thereIn j.set n = true ∧ j.len = 20 ∧ missEnd b (tierOf n) ≤ j.dev - 20 ∧ ovrEnd b (n - 1) ≤ j.dev - 20 := by
  obtain ⟨ch, rfl⟩ : ∃ ch, n = ch + 1 := ⟨n - 1, by omega⟩
  have cell : ch < 192 := by omega
  have chan : ch < 194 := by omega
  simp only [formJob, h, Bool.false_eq_true, if_false, List.mem_map, List.mem_filter, List.mem_range, Nat.add_right_cancel_iff, exists_eq_right, chan, cell, if_true,
    Nat.not_le.mpr cell, decide_false, Bool.false_or, Bool.and_eq_true, decide_eq_true_eq, true_and, tierOf, Nat.add_sub_cancel]
  constructor
  · rintro ⟨⟨whole, miss, ovr⟩, there⟩
    rw [whole] at miss ovr
    exact ⟨there, whole, miss, ovr⟩
  · rintro ⟨there, whole, miss, ovr⟩
    rw [whole]
    exact ⟨⟨rfl, miss, ovr⟩, there⟩

theorem inFrame_of_framesRun {f : Block → Block} {b : Block} (h : framesRun b = true) : inFrame f b = f b := if_pos h

theorem exec_chainTick {b : Block} (x : ChainInput) (q : List Instr) (h : framesRun b = true) : exec (.chainTick x) ⟨b, q⟩ = .next ⟨chainTick x b, q⟩ := by
  rw [← inFrame_of_framesRun (f := chainTick x) h]
  rfl

end Sys2Proof.Machine

namespace Sys2Proof
open Machine

/-- Settles O22: what a chain tick does after its averages leaves them, the work still owed and the clock alone, and the averages are those that `formJob` finds valid. -/
theorem chainTick : Obligations.ChainTick := by
  intro x b q run
  refine ⟨fun j rest jobs => ?_, fun none => ?_⟩
  · obtain ⟨left, valid, clock⟩ := chainTick_work (x := x) jobs
    obtain ⟨lc, fw, cfg, -, -, pins, -⟩ := chainTick_keeps x b
    refine ⟨_, exec_chainTick x q run, left, clock, lc, cfg, fw, pins, fun formed => ?_, fun unformed n low high => ?_⟩
    · rw [valid, formJob_formed b formed]
    · rw [valid]
      exact mem_formJob_ok unformed low high
  · rw [exec_chainTick x q run, chainTick_none x none]

end Sys2Proof

namespace Sys2Proof.Machine

/-! What the judgements of a frame, the reactions of the Sluice and the policy leave alone: registers of a range, and the fields of `Kept`. -/

/-- What neither a judgement nor a reaction changes: time, life cycle, stores, pins, block resets that run, and which evaluations are owed. -/
structure Kept where
  clock : Clock
  lc : LifeCycle
  cfg : CfgStore
  fw : FwStore
  pins : Pins
  blkRun : List (Domain × Nat)
  refused : List Nat
  evalAt : Nat
  evalLate : List (List (Nat × SrcCond))
  wdExpired : Bool

def kept (b : Block) : Kept :=
  ⟨b.clock, b.lc, b.cfg, b.fw, b.pins, b.sl.blkRun, b.sl.refused, b.sl.evalAt, b.sl.evalLate, b.sl.wdExpired⟩

/-- From `b` to `c` the registers from `lo` up to `hi` and the fields of `Kept` stay, and, where `still`, the power state too. -/
def Spared (lo hi : Nat) (still : Bool) (b c : Block) : Prop :=
  (∀ a, lo ≤ a → a < hi → getR c a = getR b a) ∧ kept c = kept b ∧ (still = true → c.pwr = b.pwr)

section
variable {lo hi : Nat} {still : Bool} {b c d : Block}

theorem Spared.rfl : Spared lo hi still b b := ⟨fun _ _ _ => Eq.refl _, Eq.refl _, fun _ => Eq.refl _⟩

theorem Spared.trans (h : Spared lo hi still b c) (k : Spared lo hi still c d) : Spared lo hi still b d :=
  ⟨fun a l u => (k.1 a l u).trans (h.1 a l u), k.2.1.trans h.2.1, fun s => (k.2.2 s).trans (h.2.2 s)⟩

theorem Spared.narrow {lo' hi' : Nat} (h : Spared lo hi still b c) (l : lo ≤ lo' := by decide) (u : hi' ≤ hi := by decide) : Spared lo' hi' still b c :=
  ⟨fun a la ua => h.1 a (l.trans la) (ua.trans_le u), h.2⟩

theorem Spared.getR (h : Spared lo hi still b c) {a : Nat} (l : lo ≤ a := by decide) (u : a < hi := by decide) : getR c a = getR b a := h.1 a l u
theorem Spared.getF (h : Spared lo hi still b c) {f : Fld} (l : lo ≤ f.reg := by decide) (u : f.reg < hi := by decide) : getF c f = getF b f :=
  getF_of_getR (h.1 _ l u)
theorem Spared.isF (h : Spared lo hi still b c) {f : Fld} (l : lo ≤ f.reg := by decide) (u : f.reg < hi := by decide) : isF c f = isF b f := by
  unfold Machine.isF; rw [h.getF l u]
theorem Spared.arrBit (h : Spared lo hi still b c) {base i : Nat} (small : i < 512) (l : lo ≤ base) (u : base + 64 ≤ hi) : arrBit c base i = arrBit b base i := by
  unfold Machine.arrBit; rw [h.1 _ (by omega) (by omega)]
theorem Spared.pwr (h : Spared lo hi true b c) : c.pwr = b.pwr := h.2.2 (Eq.refl _)
theorem Spared.clock (h : Spared lo hi still b c) : c.clock = b.clock := congrArg Kept.clock h.2.1
theorem Spared.lc (h : Spared lo hi still b c) : c.lc = b.lc := congrArg Kept.lc h.2.1
theorem Spared.cfg (h : Spared lo hi still b c) : c.cfg = b.cfg := congrArg Kept.cfg h.2.1
theorem Spared.fw (h : Spared lo hi still b c) : c.fw = b.fw := congrArg Kept.fw h.2.1
theorem Spared.pins (h : Spared lo hi still b c) : c.pins = b.pins := congrArg Kept.pins h.2.1
theorem Spared.blkRun (h : Spared lo hi still b c) : c.sl.blkRun = b.sl.blkRun := congrArg Kept.blkRun h.2.1
theorem Spared.refused (h : Spared lo hi still b c) : c.sl.refused = b.sl.refused := congrArg Kept.refused h.2.1
theorem Spared.evalAt (h : Spared lo hi still b c) : c.sl.evalAt = b.sl.evalAt := congrArg Kept.evalAt h.2.1
theorem Spared.evalLate (h : Spared lo hi still b c) : c.sl.evalLate = b.sl.evalLate := congrArg Kept.evalLate h.2.1
theorem Spared.wdExpired (h : Spared lo hi still b c) : c.sl.wdExpired = b.sl.wdExpired := congrArg Kept.wdExpired h.2.1

/-! The operations of Machine/Ops.lean. -/

theorem Spared.ite {p : Prop} [Decidable p] {x y : Block} (hx : Spared lo hi still b x) (hy : Spared lo hi still b y) :
    Spared lo hi still b (if p then x else y) := by
  split
  exacts [hx, hy]

theorem Spared.when {p : Bool} {f : Block → Block} (h : Spared lo hi still b c) (hf : ∀ c, Spared lo hi still b c → Spared lo hi still b (f c)) :
    Spared lo hi still b (when p f c) := .ite (hf _ h) h

theorem Spared.each {α : Type} {l : List α} {f : α → Block → Block} (h : Spared lo hi still b c)
    (hf : ∀ x, x ∈ l → ∀ c, Spared lo hi still b c → Spared lo hi still b (f x c)) : Spared lo hi still b (each l f c) := by
  unfold Machine.each
  induction l generalizing c with
  | nil => exact h
  | cons x l ih => exact ih (hf x List.mem_cons_self c h) fun y my => hf y (List.mem_cons_of_mem x my)

/-- A change of fields beside those kept. -/
theorem Spared.other {act hst spi latch cap fe bal imp bw rl cw fen pol led bist calib dieIds carry recs out freeCtr}
    {cfg cfgDue cond injSet injClr chipOwed blkOwed events evtLoss wd hbt} (h : Spared lo hi still b c) :
    Spared lo hi still b ⟨c.regs, act, c.clock, c.pins, c.pwr, c.fw, c.lc, c.cfg, ⟨cfg, cfgDue, cond, c.sl.refused, injSet, injClr, chipOwed, blkOwed, c.sl.blkRun,
      events, evtLoss, wd, c.sl.wdExpired, hbt, c.sl.evalAt, c.sl.evalLate⟩, hst, spi, latch, cap, fe, bal, imp, bw, rl, cw, fen, pol, led, bist, calib, dieIds, carry,
      recs, out, freeCtr⟩ := h

theorem Spared.setR {a : Nat} {w : Word} (h : Spared lo hi still b c) (out : a < lo ∨ hi ≤ a := by decide) : Spared lo hi still b (setR a w c) :=
  h.trans ⟨fun a' l u => getR_setR_ne w c (by omega), Eq.refl _, fun _ => Eq.refl _⟩

theorem Spared.setF {f : Fld} {v : Nat} (h : Spared lo hi still b c) (out : f.reg < lo ∨ hi ≤ f.reg := by decide) : Spared lo hi still b (setF f v c) := h.setR out
theorem Spared.putF {f : Fld} {v : Bool} (h : Spared lo hi still b c) (out : f.reg < lo ∨ hi ≤ f.reg := by decide) : Spared lo hi still b (putF f v c) := h.setR out
theorem Spared.addF {f : Fld} {n : Nat} (h : Spared lo hi still b c) (out : f.reg < lo ∨ hi ≤ f.reg := by decide) : Spared lo hi still b (addF f n c) := h.setR out
theorem Spared.incF {f : Fld} (h : Spared lo hi still b c) (out : f.reg < lo ∨ hi ≤ f.reg := by decide) : Spared lo hi still b (incF f c) := h.setR out

/-- The counters' registers lie from 0x7100 to 0x74FF. -/
theorem Spared.cntAdd {i n : Nat} (h : Spared lo hi still b c) (small : i < 32) (out : 0x7500 ≤ lo ∨ hi ≤ 0x7100) : Spared lo hi still b (cntAdd i n c) := by
  have cfg : R.CNT_CFG i < lo ∨ hi ≤ R.CNT_CFG i := by unfold R.CNT_CFG; omega
  have first : R.CNT_FIRST i < lo ∨ hi ≤ R.CNT_FIRST i := by unfold R.CNT_FIRST; omega
  have low : R.CNT_VAL_LO i < lo ∨ hi ≤ R.CNT_VAL_LO i := by unfold R.CNT_VAL_LO; omega
  have high : R.CNT_VAL_HI i < lo ∨ hi ≤ R.CNT_VAL_HI i := by unfold R.CNT_VAL_HI; omega
  exact .when (.setF (.setR (.when h fun _ h => .setF (.setR h first) high) low) high) fun _ h => .setF h cfg

theorem Spared.count {code n : Nat} {q : Qual} (h : Spared lo hi still b c) (out : 0x7500 ≤ lo ∨ hi ≤ 0x7100 := by decide) :
    Spared lo hi still b (count code n q c) := by
  refine .ite h (.each h fun ⟨i, x⟩ _ d h => ?_)
  by_cases small : i < 32
  · exact h.when fun _ h => h.cntAdd small out
  · simpa [small, Machine.when] using h

theorem Spared.fresh (h : Spared lo hi still b c) : Spared lo hi still b (fresh c).2 := h.other
theorem Spared.putCond {i : Nat} {x : SrcCond} (h : Spared lo hi still b c) : Spared lo hi still b (putCond i x c) := h.other
theorem Spared.setLevel {i det : Nat} {on : Bool} (h : Spared lo hi still b c) : Spared lo hi still b (setLevel i on det c) := h.putCond
theorem Spared.levelBit {i k : Nat} {on : Bool} (h : Spared lo hi still b c) : Spared lo hi still b (levelBit i k on c) := h.putCond
theorem Spared.pulse {i det : Nat} (h : Spared lo hi still b c) : Spared lo hi still b (pulse i det c) := h.putCond
theorem Spared.event {code sub index v0 v1 : Nat} (h : Spared lo hi still b c) : Spared lo hi still b (event code sub index v0 v1 c) := h.other
theorem Spared.journal {kind sub index value : Nat} (h : Spared lo hi still b c) : Spared lo hi still b (journal kind sub index value c) := h.other
theorem Spared.pendVec {v : Nat} (h : Spared lo hi still b c) : Spared lo hi still b (pendVec v c) := .ite h h.other
theorem Spared.sendVec0 (h : Spared lo hi still b c) : Spared lo hi still b (sendVec0 c) := .ite h (.ite h.other h.other)
theorem Spared.putRing {r : Nat} {x : CapRing} (h : Spared lo hi still b c) : Spared lo hi still b (putRing r x c) := h.other
theorem Spared.putSq {q : Nat} {x : Sq} (h : Spared lo hi still b c) : Spared lo hi still b (putSq q x c) := h.other
theorem Spared.putCq {q : Nat} {x : Cq} (h : Spared lo hi still b c) : Spared lo hi still b (putCq q x c) := h.other
theorem Spared.finish {q status detail r0 r1 : Nat} (h : Spared lo hi still b c) : Spared lo hi still b (finish q status detail r0 r1 c) := by
  unfold Machine.finish; split
  exacts [h, .ite h.putSq.putCq h.putSq]
theorem Spared.putArrBit {base i : Nat} {on : Bool} (h : Spared lo hi still b c) (out : base + 4 * (i / 32) < lo ∨ hi ≤ base + 4 * (i / 32)) :
    Spared lo hi still b (putArrBit base i on c) := h.setR out

end
end Sys2Proof.Machine

namespace Sys2Proof.Machine

section
variable {b c : Block}

/-! The judgement of the last frame (R137, R141): beside the counters it writes registers of the front end. -/

theorem out_of_base {lo hi base n : Nat} (h : hi ≤ base) : base + n < lo ∨ hi ≤ base + n := .inr (Nat.le_add_right_of_le h)

theorem Spared.markPoints {d : Nat} {f : Sweep → Sweep} (h : Spared 0 0x7000 true b c) : Spared 0 0x7000 true b (markPoints d f c) := h.other
theorem Spared.spoil {cs : List Nat} {d : Nat} (h : Spared 0 0x7000 true b c) : Spared 0 0x7000 true b (spoil cs d c) := h.markPoints
theorem Spared.owPostpone {t j : Nat} (h : Spared 0 0x7000 true b c) : Spared 0 0x7000 true b (owPostpone t j c) :=
  .when (.count (.addF h.other (out_of_base (by decide)))) fun _ h => h.levelBit
theorem Spared.owHarness {x : OwTest} {shift8 : Int} (h : Spared 0 0x7000 true b c) : Spared 0 0x7000 true b (owHarness x shift8 c) :=
  .ite h.other (.ite (.setF (.setF h.other)) (.setF (.setF h.other (out_of_base (by decide))) (out_of_base (by decide))))
theorem Spared.owJudge {x : OwTest} (h : Spared 0 0x7000 true b c) : Spared 0 0x7000 true b (owJudge x c) := by
  have tested : ∀ j, Spared 0 0x7000 true b (Machine.count 0x18 1 { tier := some x.tier } (Machine.setF (F.FE_OW_STATUS_NEXT x.tier) j c)) :=
    fun j => .count (h.setF (out_of_base (by decide)))
  exact .ite h.owPostpone (.ite (.spoil (.levelBit (.other (.levelBit (.other (tested _))))))
    (.ite (.owHarness (.levelBit (.other (tested _)))) (.ite (.other (.owHarness (.levelBit (.other (tested _)))))
      (.levelBit (.other (.owHarness (.levelBit (.other (tested _)))))))))
theorem Spared.owEval (h : Spared 0 0x7000 true b c) : Spared 0 0x7000 true b (owEval c) := by
  unfold Machine.owEval; split
  · exact .ite (.each h.other fun _ _ _ h => h.owJudge) h
  · exact h
theorem Spared.chkJudge {p : ChkPend} (h : Spared 0 0x7000 true b c) : Spared 0 0x7000 true b (chkJudge p c) :=
  .ite h (.levelBit (.other (.when (.count (.setF (.setF h (out_of_base (by decide))) (out_of_base (by decide)))) fun _ h => h.count)))
theorem Spared.chkEval (h : Spared 0 0x7000 true b c) : Spared 0 0x7000 true b (chkEval c) := .each h.other fun _ _ _ h => h.chkJudge
theorem Spared.judgeLast (h : Spared 0 0x7000 true b c) : Spared 0 0x7000 true b (judgeLast c) := h.owEval.chkEval
theorem Spared.refreshLevels (h : Spared 0 0x7000 true b c) : Spared 0 0x7000 true b (refreshLevels c) := h.setLevel.setLevel.setLevel.setLevel
theorem Spared.takeConds (h : Spared 0 0x7000 true b c) : Spared 0 0x7000 true b (takeConds c).2 := .each h.refreshLevels fun _ _ _ h => h.putCond

/-! Reactions of the Sluice (R459 to R464): beside the sticky bits they write none of its bit arrays. -/

theorem Spared.abandonRebuild {still : Bool} (h : Spared 0x4100 0x4800 still b c) : Spared 0x4100 0x4800 still b (abandonRebuild c) :=
  .when (.when h fun _ h => h.setF) fun _ h => h.addF.setF
theorem Spared.setPower {p : PowerState} (h : Spared 0x4100 0x4800 false b c) : Spared 0x4100 0x4800 false b (setPower p c) :=
  .ite h (.trans (.when h fun _ h => h.abandonRebuild) ⟨fun _ _ _ => Eq.refl _, Eq.refl _, fun s => nomatch s⟩)
theorem Spared.capTrigger {r : Nat} {slot : Option Nat} (h : Spared 0x4100 0x4800 false b c) : Spared 0x4100 0x4800 false b (capTrigger r slot c) := by
  have stat : R.CAP_RSTAT r < 0x4100 ∨ 0x4800 ≤ R.CAP_RSTAT r := by unfold R.CAP_RSTAT; omega
  have trig : R.CAP_TRIG_FRAME r < 0x4100 ∨ 0x4800 ≤ R.CAP_TRIG_FRAME r := by unfold R.CAP_TRIG_FRAME; omega
  unfold Machine.capTrigger
  refine .ite h ?_
  split
  · exact h
  · refine .count ?_
    have hit := ((h.putRing (r := r) (x := { ringOf c r with trig := some (devF c) })).setF (f := F.CAP_RSTAT_STATE r) (v := 2) stat).setR
      (w := w32 (Machine.frame c)) trig
    split
    · exact hit.setF stat
    · exact .setF (.when hit fun _ h => h.setF stat) stat
  · refine .ite ?_ (h.addF stat)
    split
    · exact h.setF stat
    · exact .setF (.when h fun _ h => h.setF stat) stat
theorem Spared.capSlTrigger {i sev : Nat} (h : Spared 0x4100 0x4800 false b c) : Spared 0x4100 0x4800 false b (capSlTrigger i sev c) :=
  .ite h (.each h fun _ _ _ h => .when h fun _ h => h.capTrigger)
theorem Spared.freezeCounters (h : Spared 0x4100 0x4800 false b c) : Spared 0x4100 0x4800 false b (freezeCounters c) :=
  .other (.each h fun _ _ _ h => .when h fun _ h => h.setF (out_of_base (by decide)))
theorem Spared.enterSafe {sub index : Nat} (h : Spared 0x4100 0x4800 false b c) : Spared 0x4100 0x4800 false b (enterSafe sub index c) := by
  have asked : Spared 0x4100 0x4800 false b { c with pwr := { c.pwr with request := none } } := h.trans ⟨fun _ _ _ => Eq.refl _, Eq.refl _, fun s => nomatch s⟩
  unfold Machine.enterSafe; split
  exacts [asked.setPower.event.sendVec0, asked.setPower.event.sendVec0, h]
theorem Spared.react {new : List Nat} (h : Spared 0x4100 0x4800 false b c) : Spared 0x4100 0x4800 false b (react new c) :=
  have reacted := .when (.when (.when (.when h fun _ h => h.setF) fun _ h => h.pendVec) fun _ h => h.sendVec0) fun _ h => h.count.freezeCounters.enterSafe
  .ite (.other reacted) (.each reacted fun _ _ _ h => .ite h h.other)
theorem Spared.hbtFollow (h : Spared 0x4100 0x4800 false b c) : Spared 0x4100 0x4800 false b (hbtFollow c) := .when h fun _ h => h.other

end
end Sys2Proof.Machine

namespace Sys2Proof.Machine

/-! Bit arrays of the Sluice (R477). -/

theorem bitOf_setBitsOf {n i j : Nat} {on : Bool} (hn : n < 2 ^ 32) (hi : i < 32) :
    bitOf (w32 (setBitsOf n i 1 (nat01 on))).toNat j = if j = i then on else bitOf n j := by
  have bit : ∀ m k, bitOf m k = (bitsOf m k 1 == 1) := fun _ _ => rfl
  split
  · next same =>
    subst same
    rw [bit, w32_toNat, Nat.mod_eq_of_lt (setBitsOf_lt _ _ _ _ _ hn (by omega)), bitsOf_setBitsOf]
    cases on <;> rfl
  · rw [bit, bit, bitsOf_w32_setBitsOf _ _ _ _ _ _ hn (by omega) (by omega)]

theorem arrBit_putArrBit (base i j : Nat) (on : Bool) (b : Block) : arrBit (putArrBit base i on b) base j = if j = i then on else arrBit b base j := by
  unfold arrBit putArrBit
  by_cases word : j / 32 = i / 32
  · rw [word, getR_setR, bitOf_setBitsOf (getR b _).isLt (Nat.mod_lt _ (by decide))]
    by_cases same : j = i
    · simp [same]
    · rw [if_neg same, if_neg (by omega)]
  · rw [getR_setR_ne _ _ (by omega), if_neg (by rintro rfl; exact word rfl)]

/-- A source that is sticky, or hidden by a refused clear, is uncleared (R458, R471). -/
theorem mem_uncleared {b : Block} {i : Nat} (small : i < 512) : i ∈ uncleared b ↔ sticky b i = true ∨ i ∈ b.sl.refused := by
  unfold uncleared
  constructor
  · intro h
    rcases List.mem_append.mp h with word | hidden
    · obtain ⟨w, -, bit⟩ := List.mem_flatMap.mp word
      exact .inl (List.mem_filter.mp bit).2
    · exact .inr (List.mem_filter.mp hidden).1
  · intro h
    by_cases stuck : sticky b i = true
    · have word : getR b (R.SL_STICKY (i / 32)) ≠ 0 := fun zero => by
        have off : sticky b i = false := by
          unfold sticky arrBit
          rw [show R.SL_STICKY 0 + 4 * (i / 32) = R.SL_STICKY (i / 32) from rfl, zero]
          simp [bitOf]
        exact absurd (stuck.symm.trans off) (by decide)
      have place : i ∈ (List.range 32).map (32 * (i / 32) + ·) :=
        List.mem_map.mpr ⟨i % 32, List.mem_range.mpr (Nat.mod_lt _ (by decide)), Nat.div_add_mod i 32⟩
      exact List.mem_append_left _ (List.mem_flatMap.mpr ⟨i / 32, List.mem_filter.mpr ⟨List.mem_range.mpr (by omega), bne_iff_ne.mpr word⟩,
        List.mem_filter.mpr ⟨place, stuck⟩⟩)
    · exact List.mem_append_right _ (List.mem_filter.mpr ⟨h.resolve_left stuck, by simp [stuck]⟩)

theorem srcOf_lt {i : Nat} (h : (srcOf i).isSome = true) : i < 512 := by
  obtain ⟨r, found⟩ := Option.isSome_iff_exists.mp h
  have row := List.mem_of_find?_eq_some found
  have within := List.find?_some found
  simp only [Bool.and_eq_true, decide_eq_true_eq] at within
  have last : ∀ x ∈ srcTable, x.base + x.count ≤ 512 := by decide
  exact within.2.trans_le (last r row)

/-! What a detection leaves (R459, R464). -/

section
variable {b c : Block}

/-- What becomes of a source that turns sticky, after its sticky bit. -/
theorem setSticky_spared {i det : Nat} (b : Block) (small : i < 512) :
    Spared 0x4100 0x4800 false (putArrBit (R.SL_STICKY 0) i true b) (setSticky i det b) :=
  .capSlTrigger (.count (.when (.event (.setR .rfl (.inr (by unfold R.SL_DETAIL; omega)))) fun _ h => h.journal))

theorem Spared.setSticky {i det : Nat} (small : i < 512) (h : Spared 0x4140 0x4800 false b c) : Spared 0x4140 0x4800 false b (setSticky i det c) :=
  .trans (h.putArrBit (.inl (by unfold R.SL_STICKY; omega))) (setSticky_spared c small).narrow

theorem sticky_setSticky {i j det : Nat} (b : Block) (hi : i < 512) (hj : j < 512) : sticky (setSticky i det b) j = if j = i then true else sticky b j := by
  rw [sticky, (setSticky_spared b hi).arrBit hj (by decide) (by decide), arrBit_putArrBit]
  rfl

theorem Spared.detail {i : Nat} {w : Word} (h : Spared 0x4100 0x4800 false b c) : Spared 0x4100 0x4800 false b (Machine.setR (R.SL_DETAIL i) w c) :=
  h.setR (out_of_base (by decide))

/-- The sources found that become sticky do, and none stops being sticky. -/
theorem sticky_each_setSticky {l : List (Nat × Nat)} (b : Block) (small : ∀ x ∈ l, x.1 < 512) {j : Nat} (hj : j < 512) :
    sticky (each l (fun x => setSticky x.1 x.2) b) j = true ↔ sticky b j = true ∨ ∃ x ∈ l, x.1 = j := by
  induction l generalizing b with
  | nil => simp [each]
  | cons x l ih =>
    obtain ⟨head, tail⟩ := List.forall_mem_cons.mp small
    refine (ih (setSticky x.1 x.2 b) tail).trans ?_
    rw [sticky_setSticky b head hj]
    by_cases same : j = x.1
    · simp [same]
    · simp [same, Ne.symm same]

theorem Spared.detect {found : List (Nat × Nat)} (h : Spared 0x4140 0x4800 false b c) : Spared 0x4140 0x4800 false b (detect found c) := by
  unfold Machine.detect
  extract_lets found isNew new old d
  have small : ∀ x ∈ new, x.1 < 512 := fun x mem => srcOf_lt (List.mem_filter.mp (List.mem_filter.mp mem).1).2
  have added : Spared 0x4140 0x4800 false b d := h.each fun _ _ _ h => h.trans Spared.rfl.detail.narrow
  have stuck : Spared 0x4140 0x4800 false b (Machine.each new (fun x => Machine.setSticky x.1 x.2) d) := added.each fun x mem _ h => h.setSticky (small x mem)
  exact stuck.trans Spared.rfl.react.hbtFollow.narrow

/-- A source that is found is uncleared from then on. -/
theorem uncleared_detect {found : List (Nat × Nat)} (b : Block) {x : Nat × Nat} (mem : x ∈ found) (src : (srcOf x.1).isSome = true) :
    x.1 ∈ uncleared (detect found b) := by
  have hx : x.1 < 512 := srcOf_lt src
  have refused : (detect found b).sl.refused = b.sl.refused := (Spared.detect .rfl).refused
  rw [mem_uncleared hx, refused]
  unfold detect
  extract_lets found isNew new old d
  have assigned : x ∈ found := List.mem_filter.mpr ⟨mem, src⟩
  have small : ∀ y ∈ new, y.1 < 512 := fun y mem => srcOf_lt (List.mem_filter.mp (List.mem_filter.mp mem).1).2
  have added : Spared 0x4100 0x4800 false b d := .each .rfl fun _ _ _ h => h.detail
  have reacted := Spared.hbtFollow (.react (new := new.map (·.1)) (.rfl (b := each new (fun x => setSticky x.1 x.2) d)))
  rw [sticky, reacted.arrBit hx (by decide) (by decide), ← sticky, sticky_each_setSticky d small hx, sticky, added.arrBit hx (by decide) (by decide), ← sticky]
  by_cases fresh : isNew x = true
  · exact .inl (.inr ⟨x, List.mem_filter.mpr ⟨assigned, fresh⟩, rfl⟩)
  · simp only [isNew, Bool.and_eq_true, Bool.not_eq_true', not_and_or, Bool.not_eq_false, List.contains_iff_mem] at fresh
    exact fresh.imp_left .inl

end
end Sys2Proof.Machine

namespace Sys2Proof.Machine

/-! One evaluation (R456 to R458). -/

theorem mem_insertBy {α : Type} {le : α → α → Bool} {x y : α} {l : List α} : y ∈ insertBy le x l ↔ y = x ∨ y ∈ l := by
  induction l with
  | nil => simp [insertBy]
  | cons z l ih =>
    unfold insertBy
    split
    · rw [List.mem_cons, ih, List.mem_cons]
      exact or_left_comm
    · simp

theorem mem_sortBy {α : Type} {le : α → α → Bool} {y : α} {l : List α} : y ∈ sortBy le l ↔ y ∈ l := by
  have acc : ∀ a : List α, y ∈ l.foldl (fun acc x => insertBy le x acc) a ↔ y ∈ a ∨ y ∈ l := by
    induction l with
    | nil => simp
    | cons x l ih => intro a; rw [List.foldl_cons, ih, mem_insertBy, List.mem_cons, or_comm (a := y = x), or_assoc]
  simpa [sortBy] using acc []

theorem mem_addOnce {α : Type} [BEq α] [LawfulBEq α] {x y : α} {l : List α} : y ∈ addOnce x l ↔ y = x ∨ y ∈ l := by
  unfold addOnce
  split
  · next old =>
    rw [List.contains_iff_mem] at old
    exact ⟨.inr, fun h => h.elim (fun e => e ▸ old) id⟩
  · rw [List.mem_append, List.mem_singleton, or_comm]

theorem mem_foldl_addOnce {y : Nat} {l : List Nat} (a : List Nat) : y ∈ l.foldl (fun l i => addOnce i l) a ↔ y ∈ a ∨ y ∈ l := by
  induction l generalizing a with
  | nil => simp
  | cons x l ih => rw [List.foldl_cons, ih, mem_addOnce, List.mem_cons, or_comm (a := y = x), or_assoc]

theorem srcOf_of_mem_evalSlots {w : List (Nat × SrcCond)} {b : Block} {i : Nat} (h : i ∈ evalSlots w b) : (srcOf i).isSome = true := by
  have kind := (List.mem_filter.mp h).2
  revert kind
  cases srcOf i <;> simp

/-- A source with a condition is evaluated where it is of kind F and of no domain, so in no reset. -/
theorem mem_evalSlots {w : List (Nat × SrcCond)} {b : Block} {i : Nat} {r : SrcRow} (cond : ∃ x ∈ w, x.1 = i) (src : srcOf i = some r) (kind : r.kind = .frame)
    (dom : r.dom = .none) : i ∈ evalSlots w b := by
  refine List.mem_filter.mpr ⟨mem_sortBy.mpr ((mem_foldl_addOnce _).mpr (.inr (List.mem_append_left _ (List.mem_append_left _ (List.mem_map.mpr cond))))), ?_⟩
  simp [src, kind, inBlockReset, domainOf, dom]

/-- What the evaluation finds of source `i`: its condition holds, occurred since the last one, or is injected (R457). -/
def condHolds (w : List (Nat × SrcCond)) (b : Block) (i : Nat) : Bool :=
  (mapGet (fun _ => {}) w i).level || (mapGet (fun _ => {}) w i).pulse || arrBit b (R.SL_INJ_ACT 0) i

/-- The live bits follow what is found. -/
def judgeLive (w : List (Nat × SrcCond)) (is : List Nat) (b : Block) : Block := each is (fun i b => putArrBit (R.SL_LIVE 0) i (condHolds w b i) b) b

theorem evaluateWork_eq (w : List (Nat × SrcCond)) (b : Block) :
    evaluateWork w b = detect (((evalSlots w b).filter (condHolds w b)).map fun i => (i, (mapGet (fun _ => {}) w i).levelDet ||| (mapGet (fun _ => {}) w i).pulseDet))
      (judgeLive w (evalSlots w b) b) := rfl

theorem live_word_out {i lo hi : Nat} (small : i < 512) (below : 0x4180 ≤ lo) : R.SL_LIVE 0 + 4 * (i / 32) < lo ∨ hi ≤ R.SL_LIVE 0 + 4 * (i / 32) :=
  .inl (by unfold R.SL_LIVE; omega)

theorem Spared.judgeLive {b c : Block} {w : List (Nat × SrcCond)} {is : List Nat} (small : ∀ i ∈ is, i < 512) (h : Spared 0x4180 0x4800 false b c) :
    Spared 0x4180 0x4800 false b (judgeLive w is c) := h.each fun i mem _ h => h.putArrBit (live_word_out (small i mem) (by decide))

theorem live_judgeLive {w : List (Nat × SrcCond)} {is : List Nat} (b : Block) (small : ∀ i ∈ is, i < 512) {j : Nat} (hj : j < 512) :
    arrBit (judgeLive w is b) (R.SL_LIVE 0) j = if j ∈ is then condHolds w b j else arrBit b (R.SL_LIVE 0) j := by
  induction is generalizing b with
  | nil => simp [judgeLive, each]
  | cons i is ih =>
    obtain ⟨head, tail⟩ := List.forall_mem_cons.mp small
    have step : judgeLive w (i :: is) b = judgeLive w is (putArrBit (R.SL_LIVE 0) i (condHolds w b i) b) := rfl
    have injected : ∀ k, k < 512 → condHolds w (putArrBit (R.SL_LIVE 0) i (condHolds w b i) b) k = condHolds w b k := fun k hk => by
      unfold condHolds
      rw [(Spared.putArrBit (lo := 0x4180) (hi := 0x4800) (still := false) .rfl (live_word_out head (by decide))).arrBit hk (by decide) (by decide)]
    rw [step, ih _ tail, injected j hj, arrBit_putArrBit]
    by_cases same : j = i
    · subst same; simp
    · simp [same]

theorem Spared.evaluateWork {b c : Block} {w : List (Nat × SrcCond)} (h : Spared 0x4180 0x4800 false b c) : Spared 0x4180 0x4800 false b (evaluateWork w c) :=
  .trans (h.judgeLive fun _ mem => srcOf_lt (srcOf_of_mem_evalSlots mem)) (.narrow (Spared.detect .rfl))

/-- One evaluation judges the sources that it looks at. -/
theorem evaluateWork_judges (w : List (Nat × SrcCond)) (b : Block) : SourcesJudged w (evalSlots w b) b (evaluateWork w b) := by
  intro i mem
  have small : ∀ i ∈ evalSlots w b, i < 512 := fun _ mem => srcOf_lt (srcOf_of_mem_evalSlots mem)
  have live : arrBit (evaluateWork w b) (R.SL_LIVE 0) i = condHolds w b i := by
    rw [evaluateWork_eq, Spared.rfl.detect.arrBit (small i mem) (by decide) (by decide), live_judgeLive b small (small i mem), if_pos mem]
  refine ⟨?_, fun on => ?_⟩
  · rw [live]
    simp [condHolds, or_assoc]
  · rw [evaluateWork_eq]
    exact uncleared_detect _ (List.mem_map.mpr ⟨i, List.mem_filter.mpr ⟨mem, live.symm.trans on⟩, rfl⟩) (srcOf_of_mem_evalSlots mem)

end Sys2Proof.Machine

namespace Sys2Proof.Machine

/-! What SLUICE_EVAL completes: the evaluation, the watchdog's restart, and SL_SUMMARY for the status page (R396, R470). -/

/-- The end of an evaluation. -/
def evalDone (b : Block) : Block :=
  let c := setF F.SL_STATUS_EVALUATED 1 { hbtFollow b with sl := { (hbtFollow b).sl with wd := 0 } }
  { c with hst := { c.hst with summary := slSummary c } }

theorem sluiceEval_eq {b : Block} (run : framesRun b = true) (alive : b.sl.wdExpired = false) : sluiceEval b = evalDone (evaluateNext b) := by
  unfold sluiceEval
  rw [run, alive]
  rfl

theorem Spared.evalDone {b c : Block} (h : Spared 0x4100 0x4800 false b c) : Spared 0x4100 0x4800 false b (evalDone c) :=
  .other (.setF (.other h.hbtFollow))

theorem evaluated_evalDone (b : Block) : getF (evalDone b) F.SL_STATUS_EVALUATED = 1 :=
  (getF_congr (c := evalDone b) (b := setF F.SL_STATUS_EVALUATED 1 { hbtFollow b with sl := { (hbtFollow b).sl with wd := 0 } }) rfl _).trans
    (getF_setF _ 1 _ (by decide))
theorem wd_evalDone (b : Block) : (evalDone b).sl.wd = 0 := rfl

theorem uncleared_hst (b : Block) (x : HostIf) : uncleared { b with hst := x } = uncleared b := rfl
theorem faultLow_hst (b : Block) (x : HostIf) : faultLow { b with hst := x } = faultLow b := rfl
theorem slSummary_hst (b : Block) (x : HostIf) : slSummary { b with hst := x } = slSummary b := by
  unfold slSummary
  rw [uncleared_hst, faultLow_hst]
  rfl
theorem summary_evalDone (b : Block) : (evalDone b).hst.summary = slSummary (evalDone b) := (slSummary_hst _ _).symm

/-- What changes neither live nor sticky bits nor the refused clears leaves an evaluation's outcome. -/
theorem SourcesJudged.after {w : List (Nat × SrcCond)} {is : List Nat} {b c d : Block} (small : ∀ i ∈ is, i < 512) (h : SourcesJudged w is b c)
    (s : Spared 0x4100 0x4800 false c d) : SourcesJudged w is b d := by
  intro i mem
  have hi := small i mem
  rw [s.arrBit hi (by decide) (by decide), mem_uncleared hi, sticky, s.arrBit hi (by decide) (by decide), s.refused]
  exact ⟨(h i mem).1, fun on => (mem_uncleared hi).mp ((h i mem).2 on)⟩

/-- Nor does it matter before an evaluation what leaves the injections alone. -/
theorem SourcesJudged.before {w : List (Nat × SrcCond)} {is : List Nat} {a b c : Block} {still : Bool} {lo hi : Nat} (small : ∀ i ∈ is, i < 512)
    (s : Spared lo hi still a b) (low : lo ≤ 0x4200) (high : 0x4240 ≤ hi) (h : SourcesJudged w is b c) : SourcesJudged w is a c := by
  intro i mem
  rw [← s.arrBit (base := R.SL_INJ_ACT 0) (small i mem) low high]
  exact h i mem

theorem evalSlots_small {w : List (Nat × SrcCond)} {b : Block} : ∀ i ∈ evalSlots w b, i < 512 := fun _ mem => srcOf_lt (srcOf_of_mem_evalSlots mem)

/-! The conditions of an evaluation (R31, R457). -/

theorem condOf_putCond (i j : Nat) (x : SrcCond) (b : Block) : condOf (putCond i x b) j = if j = i then x else condOf b j := mapGet_mapPut _ _ _ _ _
theorem condOf_putCond_ne {i j : Nat} (x : SrcCond) (b : Block) (h : j ≠ i) : condOf (putCond i x b) j = condOf b j := mapGet_mapPut_ne _ _ _ h
theorem condOf_setLevel_ne {i j det : Nat} {on : Bool} (b : Block) (h : j ≠ i) : condOf (setLevel i on det b) j = condOf b j := condOf_putCond_ne _ b h
theorem level_setLevel (i det : Nat) (on : Bool) (b : Block) : (condOf (setLevel i on det b) i).level = on := by
  rw [setLevel, condOf_putCond, if_pos rfl]

theorem mapGet_filter_key {α : Type} (d : Nat → α) (m : List (Nat × α)) {p : Nat × α → Bool} {k : Nat} (h : ∀ v, p (k, v) = true) :
    mapGet d (m.filter p) k = mapGet d m k := by
  induction m with
  | nil => rfl
  | cons x m ih =>
    obtain ⟨k', v⟩ := x
    rw [List.filter_cons]
    by_cases same : k = k'
    · subst same
      simp [h, mapGet]
    · split <;> simp [mapGet, same, ih]

theorem exists_key_of_mapGet_ne {α : Type} {d : Nat → α} {m : List (Nat × α)} {k : Nat} (h : mapGet d m k ≠ d k) : ∃ x ∈ m, x.1 = k := by
  induction m with
  | nil => exact absurd rfl h
  | cons x m ih =>
    by_cases same : x.1 = k
    · exact ⟨x, List.mem_cons_self, same⟩
    · obtain ⟨y, mem, key⟩ := ih (by simpa [mapGet, Ne.symm same] using h)
      exact ⟨y, List.mem_cons_of_mem x mem, key⟩

/-- While GEN_OVR_STATUS is not 0 the condition of FRAME_OVR is among those that an evaluation takes (R31). -/
theorem frameOvr_takeConds {b : Block} (h : getR b R.GEN_OVR_STATUS ≠ 0) : (mapGet (fun _ => {}) (takeConds b).1 Slot.frameOvr).level = true := by
  have taken : mapGet (fun _ => {}) (takeConds b).1 Slot.frameOvr = condOf (refreshLevels b) Slot.frameOvr := mapGet_filter_key _ _ fun v => rfl
  rw [taken, refreshLevels, condOf_setLevel_ne _ (by decide), condOf_setLevel_ne _ (by decide), condOf_setLevel_ne _ (by decide), level_setLevel]
  exact bne_iff_ne.mpr h

theorem frameOvr_evaluated {b c : Block} (h : getR b R.GEN_OVR_STATUS ≠ 0) : Slot.frameOvr ∈ evalSlots (takeConds b).1 c := by
  have level := frameOvr_takeConds h
  refine mem_evalSlots (r := ⟨0x008, 2, .frame, 1, 0x01, .none⟩) (exists_key_of_mapGet_ne (d := fun _ => {}) fun none => ?_) rfl rfl rfl
  rw [none] at level
  exact absurd level (by decide)

/-! SLUICE_EVAL. -/

theorem exec_sluiceEval (b : Block) (q : List Instr) : exec .sluiceEval ⟨b, q⟩ = .next ⟨inFrame evalStage b, q⟩ := rfl

/-- The block with the evaluation of device frame `d` counted as run. -/
def markEval (d : Nat) (b : Block) : Block := { b with sl := { b.sl with evalAt := d + 1 } }

theorem setLevel_markEval (i det d : Nat) (on : Bool) (b : Block) : setLevel i on det (markEval d b) = markEval d (setLevel i on det b) := rfl
theorem refreshLevels_markEval (d : Nat) (b : Block) : refreshLevels (markEval d b) = markEval d (refreshLevels b) := by
  unfold refreshLevels
  simp only [← setLevel_markEval]
  rfl
theorem each_putCond_markEval (d : Nat) (g : Nat × SrcCond → SrcCond) (l : List (Nat × SrcCond)) (b : Block) :
    each l (fun x => putCond x.1 (g x)) (markEval d b) = markEval d (each l (fun x => putCond x.1 (g x)) b) := by
  induction l generalizing b with
  | nil => rfl
  | cons x l ih => exact ih (putCond x.1 (g x) b)
theorem takeConds_markEval (d : Nat) (b : Block) : takeConds (markEval d b) = ((takeConds b).1, markEval d (takeConds b).2) := by
  simp only [takeConds, refreshLevels_markEval, each_putCond_markEval]
  rfl

theorem evalSlots_congr {w : List (Nat × SrcCond)} {b c : Block} (regs : c.regs = b.regs) (resets : c.sl.blkRun = b.sl.blkRun) : evalSlots w c = evalSlots w b := by
  unfold evalSlots inBlockReset arrBit getR
  rw [regs, resets]

/-- The evaluation of the present frame, on the conditions that it takes. -/
theorem evaluate_markEval (d : Nat) (b : Block) : evaluate (markEval d b) = evaluateWork (takeConds b).1 (markEval d (takeConds b).2) := by
  unfold evaluate
  rw [takeConds_markEval]

theorem Spared.evaluateDone (w : List (Nat × SrcCond)) (b : Block) : Spared 0x4180 0x4800 false b (Machine.evalDone (Machine.evaluateWork w b)) :=
  .trans (.evaluateWork .rfl) (.narrow (.evalDone .rfl))

/-- An evaluation and its end judge the sources, whichever evaluations `c` counts as run or owed. -/
theorem evaluateDone_judges (w : List (Nat × SrcCond)) (b : Block) {c : Block} (regs : c.regs = b.regs) (resets : c.sl.blkRun = b.sl.blkRun) :
    SourcesJudged w (evalSlots w b) b (evalDone (evaluateWork w c)) := by
  have judged := (evaluateWork_judges w c).after evalSlots_small (.evalDone .rfl)
  intro i mem
  rw [← evalSlots_congr regs resets] at mem
  have injected : arrBit c (R.SL_INJ_ACT 0) i = arrBit b (R.SL_INJ_ACT 0) i := by unfold arrBit; rw [getR_congr regs]
  rw [← injected]
  exact judged i mem

/-- What the evaluation that ends counts as run, what it still owes, and what it leaves alone. -/
theorem evaluateDone_markEval {b c : Block} (w : List (Nat × SrcCond)) (d : Nat) (taken : Spared 0 0x7000 true b c) :
    let e := evalDone (evaluateWork w (markEval d c))
    e.sl.evalAt = d + 1 ∧ e.sl.evalLate = b.sl.evalLate ∧ e.lc = b.lc ∧ e.cfg = b.cfg ∧ e.fw = b.fw ∧ e.pins = b.pins ∧ e.clock = b.clock ∧
      SourcesJudged w (evalSlots w c) b e := by
  have done := Spared.evaluateDone w (markEval d c)
  exact ⟨done.evalAt, done.evalLate.trans taken.evalLate, done.lc.trans taken.lc, done.cfg.trans taken.cfg, done.fw.trans taken.fw, done.pins.trans taken.pins,
    done.clock.trans taken.clock, (evaluateDone_judges w c (c := markEval d c) rfl rfl).before evalSlots_small taken (by decide) (by decide)⟩

theorem evalStage_present {b : Block} (run : framesRun b = true) (alive : b.sl.wdExpired = false) (past : b.fe.since < devF b) (late : b.sl.evalLate = [])
    (due : b.sl.evalAt ≠ devF b + 1) : evalStage b = evalDone (evaluateWork (takeConds (judgeLast b)).1 (markEval (devF b) (takeConds (judgeLast b)).2)) := by
  have judged : Spared 0 0x7000 true b (judgeLast b) := .judgeLast .rfl
  have runs : framesRun (judgeLast b) = true := by unfold framesRun at run ⊢; rwa [judged.pwr]
  have next : evaluateNext (judgeLast b) = evaluate (markEval (devF b) (judgeLast b)) := by
    unfold evaluateNext devF
    rw [judged.evalLate, late, ← judged.clock]
    rfl
  rw [← evaluate_markEval, ← next, ← sluiceEval_eq runs (judged.wdExpired.trans alive)]
  simp [evalStage, alive, late, due, Nat.not_le.mpr past]

theorem evalStage_overtaken {b : Block} {w : List (Nat × SrcCond)} {rest : List (List (Nat × SrcCond))} (run : framesRun b = true) (alive : b.sl.wdExpired = false)
    (past : b.fe.since < devF b) (late : b.sl.evalLate = w :: rest) :
    evalStage b = evalDone (evaluateWork w { b with sl := { b.sl with evalLate := rest } }) := by
  have next : evaluateNext b = evaluateWork w { b with sl := { b.sl with evalLate := rest } } := by unfold evaluateNext; rw [late]
  rw [← next, ← sluiceEval_eq run alive]
  simp [evalStage, alive, late, Nat.not_le.mpr past]

theorem evalStage_idle {b : Block} (h : b.sl.wdExpired = true ∨ devF b ≤ b.fe.since ∨ (b.sl.evalLate = [] ∧ b.sl.evalAt = devF b + 1)) : evalStage b = b := by
  unfold evalStage
  rcases h with expired | early | ⟨late, done⟩
  · simp [expired]
  · simp [early]
  · simp [late, done]

end Sys2Proof.Machine

namespace Sys2Proof
open Machine

/-- Settles O23: an evaluation's live and sticky bits are those of `evaluateWork`, and neither the judgement before it nor the watchdog's restart after it touches them. -/
theorem sluiceEvaluation : Obligations.SluiceEvaluation := by
  intro b q
  refine ⟨fun run alive past late due => ?_, fun run alive past w rest late => ?_, fun idle => ?_⟩
  · have judged : Spared 0 0x7000 true b (judgeLast b) := .judgeLast .rfl
    obtain ⟨evalAt, evalLate, lc, cfg, fw, pins, clock, found⟩ := evaluateDone_markEval (takeConds (judgeLast b)).1 (devF b) judged.takeConds
    refine ⟨_, (exec_sluiceEval b q).trans (by rw [inFrame_of_framesRun run, evalStage_present run alive past late due]), evaluated_evalDone _, wd_evalDone _,
      summary_evalDone _, evalAt, evalLate.trans late, lc, cfg, fw, pins, clock, found, fun ovr => ?_⟩
    have ovr : getR (judgeLast b) R.GEN_OVR_STATUS ≠ 0 := judged.getR.trans_ne ovr
    obtain ⟨live, uncleared⟩ := found _ (frameOvr_evaluated ovr)
    have on := live.mpr (.inl (frameOvr_takeConds ovr))
    exact ⟨on, uncleared on⟩
  · have done := Spared.evaluateDone w { b with sl := { b.sl with evalLate := rest } }
    exact ⟨_, (exec_sluiceEval b q).trans (by rw [inFrame_of_framesRun run, evalStage_overtaken run alive past late]), evaluated_evalDone _, wd_evalDone _,
      summary_evalDone _, done.evalAt, done.evalLate, done.lc, done.cfg, done.fw, done.pins, done.clock, evaluateDone_judges w b rfl rfl⟩
  · rw [exec_sluiceEval, inFrame, evalStage_idle idle, ite_self]

end Sys2Proof

namespace Sys2Proof.Machine

section
variable {b c d : Block}

/-! Registers and conditions: what counters, fields and levels of a command may change, and no more. -/

/-- From `b` to `c` nothing but registers and conditions of the Sluice changes. -/
def RegsCond (b c : Block) : Prop := c = { b with regs := c.regs, sl := { b.sl with cond := c.sl.cond } }

theorem RegsCond.rfl : RegsCond b b := Eq.refl b
theorem RegsCond.trans (h : RegsCond b c) (k : RegsCond c d) : RegsCond b d := Eq.trans k (by rw [show c = _ from h])
theorem RegsCond.setR {a : Nat} {w : Word} (h : RegsCond b c) : RegsCond b (setR a w c) := h.trans (Eq.refl _)
theorem RegsCond.setF {f : Fld} {v : Nat} (h : RegsCond b c) : RegsCond b (setF f v c) := h.setR
theorem RegsCond.addF {f : Fld} {n : Nat} (h : RegsCond b c) : RegsCond b (addF f n c) := h.setR
theorem RegsCond.putCond {i : Nat} {x : SrcCond} (h : RegsCond b c) : RegsCond b (putCond i x c) := h.trans (Eq.refl _)
theorem RegsCond.setLevel {i det : Nat} {on : Bool} (h : RegsCond b c) : RegsCond b (setLevel i on det c) := h.putCond
theorem RegsCond.pulse {i det : Nat} (h : RegsCond b c) : RegsCond b (pulse i det c) := h.putCond
theorem RegsCond.ite {p : Prop} [Decidable p] {x y : Block} (hx : RegsCond b x) (hy : RegsCond b y) : RegsCond b (if p then x else y) := by
  split
  exacts [hx, hy]
theorem RegsCond.when {p : Bool} {f : Block → Block} (h : RegsCond b c) (hf : ∀ c, RegsCond b c → RegsCond b (f c)) : RegsCond b (when p f c) := .ite (hf _ h) h
theorem RegsCond.each {α : Type} {l : List α} {f : α → Block → Block} (h : RegsCond b c) (hf : ∀ x c, RegsCond b c → RegsCond b (f x c)) :
    RegsCond b (each l f c) := by
  unfold Machine.each
  induction l generalizing c with
  | nil => exact h
  | cons x l ih => exact ih (hf x c h)
theorem RegsCond.cntAdd {i n : Nat} (h : RegsCond b c) : RegsCond b (cntAdd i n c) :=
  .when (.setF (.setR (.when h fun _ h => h.setR.setF))) fun _ h => h.setF
theorem RegsCond.count {code n : Nat} {q : Qual} (h : RegsCond b c) : RegsCond b (count code n q c) :=
  .ite h (.each h fun _ _ h => .when h fun _ h => h.cntAdd)

theorem RegsCond.lc (h : RegsCond b c) : c.lc = b.lc := by rw [show c = _ from h]
theorem RegsCond.clock (h : RegsCond b c) : c.clock = b.clock := by rw [show c = _ from h]

theorem RegsBut.rfl {as : List Nat} : RegsBut as b b := fun _ _ => Eq.refl _
theorem RegsBut.setF {as : List Nat} {f : Fld} {v : Nat} (h : RegsBut as b c) (mem : f.reg ∈ as := by decide) : RegsBut as b (setF f v c) :=
  fun a out => (getR_setF_ne f v c fun e => out (by rw [e]; exact mem)).trans (h a out)
theorem RegsBut.ite {as : List Nat} {p : Prop} [Decidable p] {x y : Block} (hx : RegsBut as b x) (hy : RegsBut as b y) : RegsBut as b (if p then x else y) := by
  split
  exacts [hx, hy]

/-! Fields. -/

theorem getF_addF (f : Fld) (n : Nat) (b : Block) (h : f.lo + f.len ≤ 32) : getF (addF f n b) f = min (getF b f + n) (2 ^ f.len - 1) := by
  have pos : 0 < 2 ^ f.len := Nat.two_pow_pos _
  rw [addF, getF_setF f _ b h, Nat.mod_eq_of_lt (by omega)]

theorem getF_setF_at (f g : Fld) (v : Nat) (b : Block) (h : f.lo + f.len ≤ 32 := by decide) (e : g.reg = f.reg := by rfl)
    (d : g.lo + g.len ≤ f.lo ∨ f.lo + f.len ≤ g.lo := by decide) : getF (setF f v b) g = getF b g := getF_setF_beside f g v b h e d

theorem isF_iff (b : Block) (f : Fld) : isF b f = true ↔ getF b f ≠ 0 := bne_iff_ne
theorem isF_eq_false (b : Block) (f : Fld) : isF b f = false ↔ getF b f = 0 := bne_eq_false_iff_eq

/-- A flag of one bit. -/
theorem getF_eq_one {f : Fld} (len : f.len = 1) (h : isF b f = true) : getF b f = 1 := by
  have lt : getF b f < 2 ^ f.len := bitsOf_lt _ _ _
  rw [len] at lt
  have pos := (isF_iff b f).mp h
  omega

/-! HALTED (R216). -/

theorem haltCheck_halts (eight : 8 ≤ getF b F.FEN_OVR_CNT_CONSEC) (running : isF b F.FEN_STATUS_HALTED = false) :
    haltCheck b = setLevel Slot.fenHalt true 0 (setF F.FEN_STATUS_HALTED 1 b) := by
  simp [haltCheck, eight, running]
theorem haltCheck_stays (h : getF b F.FEN_OVR_CNT_CONSEC < 8 ∨ isF b F.FEN_STATUS_HALTED = true) : haltCheck b = b := by
  refine if_neg fun ⟨eight, running⟩ => ?_
  rcases h with few | halted
  · omega
  · simp [halted] at running

theorem RegsCond.haltCheck (h : RegsCond b c) : RegsCond b (haltCheck c) := .ite h.setF.setLevel h
theorem regsBut_haltCheck (b : Block) : RegsBut [R.FEN_STATUS] b (haltCheck b) := .ite (RegsBut.rfl.setF (f := F.FEN_STATUS_HALTED) (v := 1)) .rfl

theorem halted_haltCheck (eight : 8 ≤ getF b F.FEN_OVR_CNT_CONSEC) : getF (haltCheck b) F.FEN_STATUS_HALTED = 1 := by
  by_cases halted : isF b F.FEN_STATUS_HALTED = true
  · rw [haltCheck_stays (.inr halted), getF_eq_one rfl halted]
  · rw [haltCheck_halts eight (Bool.eq_false_iff.mpr halted)]
    exact getF_setF F.FEN_STATUS_HALTED 1 b (by decide)

theorem RegsCond.describePred (h : RegsCond b c) : RegsCond b (describePred c) := .ite h h.setF

/-- The block without the request to leave HALTED. -/
def resumeDone (b : Block) : Block := { b with fen := { b.fen with resume := false } }

theorem unhalt_eq (b : Block) : unhalt b = if !isF (resumeDone b) F.FEN_STATUS_HALTED then resumeDone b
    else setLevel Slot.fenHalt false 0 (setF F.FEN_STATUS_HALTED 0 (setF F.FEN_OVR_CNT_CONSEC 0 (resumeDone b))) := rfl

/-- Leaving HALTED changes registers, a condition and the request to resume. -/
theorem unhalt_regsCond (b : Block) : RegsCond (resumeDone b) (unhalt b) := .ite .rfl (.setLevel (.setF (.setF .rfl)))
theorem unhalt_regsBut (b : Block) : RegsBut [R.FEN_STATUS, R.FEN_OVR_CNT] b (unhalt b) :=
  .ite .rfl (.setF (f := F.FEN_STATUS_HALTED) (.setF (f := F.FEN_OVR_CNT_CONSEC) .rfl))
theorem halted_unhalt (b : Block) : getF (unhalt b) F.FEN_STATUS_HALTED = 0 := by
  rw [unhalt_eq]
  split
  · next running => exact (isF_eq_false _ _).mp (by simpa using running)
  · exact getF_setF F.FEN_STATUS_HALTED 0 (setF F.FEN_OVR_CNT_CONSEC 0 (resumeDone b)) (by decide)
/-- Beside HALTED, FEN_STATUS stays. -/
theorem status_unhalt (b : Block) {f : Fld} (reg : f.reg = R.FEN_STATUS) (beside : f.lo + f.len ≤ 15 ∨ 16 ≤ f.lo) : getF (unhalt b) f = getF b f := by
  rw [unhalt_eq]
  split
  · rfl
  · exact (getF_setF_beside F.FEN_STATUS_HALTED f 0 (setF F.FEN_OVR_CNT_CONSEC 0 (resumeDone b)) (by decide) reg beside).trans
      (getF_setF_ne F.FEN_OVR_CNT_CONSEC f 0 (resumeDone b) (by rw [reg]; decide))
theorem skip_unhalt (b : Block) : getF (unhalt b) F.FEN_OVR_CNT_SKIP = getF b F.FEN_OVR_CNT_SKIP := by
  rw [unhalt_eq]
  split
  · rfl
  · exact (getF_setF_ne F.FEN_STATUS_HALTED F.FEN_OVR_CNT_SKIP 0 (setF F.FEN_OVR_CNT_CONSEC 0 (resumeDone b)) (by decide)).trans
      (getF_setF_at F.FEN_OVR_CNT_CONSEC F.FEN_OVR_CNT_SKIP 0 (resumeDone b))

/-! STEP_LENGTH_CHANGE (R25). -/

theorem stepLength_waits (h : isF b F.FEN_STATUS_STEP_PEND = false ∨ frame b % (20 * stepMs (getF b F.FEN_CTL_STEP)) ≠ 0 ∨ frame b % stepFrames b ≠ 0) :
    stepLength b = b := by
  refine if_neg fun ⟨pend, new, old⟩ => ?_
  rcases h with none | off | off
  · simp [none] at pend
  · exact off new
  · exact off old

/-- The block with the pending step length in force, HALTED as it was. -/
def lengthTaken (b : Block) : Block := setF F.FEN_STATUS_STEP_PEND 0 (setF F.FEN_STATUS_STEP_ACT (getF b F.FEN_CTL_STEP) b)

theorem stepLength_taken (pend : isF b F.FEN_STATUS_STEP_PEND = true) (new : frame b % (20 * stepMs (getF b F.FEN_CTL_STEP)) = 0)
    (old : frame b % stepFrames b = 0) : stepLength b = describePred (unhalt (lengthTaken b)) := if_pos ⟨pend, new, old⟩

theorem status_describePred (b : Block) {f : Fld} (h : f.reg ≠ R.FEN_UTIL) : getF (describePred b) f = getF b f := by
  unfold describePred
  split
  · rfl
  · exact getF_setF_ne F.FEN_UTIL_PRED f _ b h

end
end Sys2Proof.Machine

namespace Sys2Proof.Machine

section
variable {b c : Block}

/-! What happens at a model-step boundary before the step begins: the policy's mode and overrides write neither time, life cycle nor a register of the Fen engine. -/

theorem Spared.ovrEvent {o : Override} {what : Nat} (h : Spared 0x6000 0x11000 true b c) : Spared 0x6000 0x11000 true b (ovrEvent o what c) := h.journal.event
theorem Spared.placeNotch {k : Nat} {p : Option (Nat × Nat)} (h : Spared 0x6000 0x11000 true b c) : Spared 0x6000 0x11000 true b (placeNotch k p c) := h.other
theorem Spared.ovrAct {o : Override} (h : Spared 0x6000 0x11000 true b c) : Spared 0x6000 0x11000 true b (ovrAct o c) := .ite (.ite h h.other) (.ite h.placeNotch h)
theorem Spared.takeOne {o : Override} (h : Spared 0x6000 0x11000 true b c) : Spared 0x6000 0x11000 true b (takeOne o c).2 := by
  unfold Machine.takeOne
  dsimp only
  split
  · exact h.addF
  split
  · exact h.addF
  split
  · split
    · exact .ovrEvent (.other h)
    · split
      exacts [h.addF, h.addF]
  split
  · exact h.addF
  split
  · exact h.addF
  · refine .ovrAct (.ovrEvent (.addF (.other ?_)))
    split
    exacts [h.ovrEvent, h]
theorem Spared.countOvr (h : Spared 0x6000 0x11000 true b c) : Spared 0x6000 0x11000 true b (countOvr c) := h.setF
theorem Spared.dropOvr {keep : Override → Bool} (h : Spared 0x6000 0x11000 true b c) : Spared 0x6000 0x11000 true b (dropOvr keep c) :=
  .countOvr (.each h.other fun _ _ _ h => h.ovrEvent)
theorem Spared.takeUp (h : Spared 0x6000 0x11000 true b c) : Spared 0x6000 0x11000 true b (takeUp c) := by
  refine .countOvr (.each h.other fun o _ d h => ?_)
  dsimp only
  split
  · exact .finish (.setF h.takeOne)
  · exact .setF h.takeOne
/-! The policy's change of mode (R272), by what it leaves. -/

/-- The mode AUTO left: the targets and notches of the policy end, and its sweep is aborted. -/
def autoLeft (b : Block) : Block :=
  let gone := ((balCells b).filter fun n => (balOf b n).target.isSome).map fun n => (n, devF b)
  let c := each ([1, 2].filter fun k => isF b (F.FLT_NOTCH_POL_ACTIVE k)) (fun k => placeNotch k none)
    { b with bal := { b.bal with targets := [], cleared := gone } }
  { c with imp := { c.imp with policy := none, polAbort := c.imp.sweep.any (·.policy) }, pol := { c.pol with notch := [] } }

/-- The mode OFF entered: the policy's sources are left with what is injected. -/
def sourcesEnded (b : Block) : Block :=
  each (span 0x0F0 0x12F) (fun i b => if condOf b i = {} then b else
    putArrBit (R.SL_LIVE 0) i (arrBit b (R.SL_INJ_ACT 0) i) (setLevel i false 0 b)) { b with pol := { b.pol with eval := [] } }

/-- The mode AUTO entered: its rest begins again. -/
def sweepsAnew (b : Block) : Block := { b with pol := { b.pol with sweepRun := 0 } }

theorem polModeChange_eq (b : Block) : polModeChange b = if polWanted b = polMode b then b else
    let c := if polMode b = 2 then autoLeft b else b
    let c := if polWanted b = 0 then sourcesEnded c else c
    setF F.POL_STATUS_MODE_ACT (polWanted b) (dropOvr (fun o => kindOk (polWanted b) o.kind) (if polWanted b = 2 then sweepsAnew c else c)) := rfl

theorem Spared.autoLeft (h : Spared 0x6000 0x11000 true b c) : Spared 0x6000 0x11000 true b (autoLeft c) := .other (.each h.other fun _ _ _ h => h.placeNotch)
/-- The live bits of the policy's sources lie below 0x6000. -/
theorem Spared.sourcesEnded (h : Spared 0x6000 0x11000 true b c) : Spared 0x6000 0x11000 true b (sourcesEnded c) := by
  refine .each h.other fun i mem d h => .ite h (.putArrBit h.setLevel (.inl ?_))
  obtain ⟨k, hk, rfl⟩ := List.mem_map.mp mem
  rw [List.mem_range] at hk
  rw [show R.SL_LIVE 0 = 0x4140 from Eq.refl _]
  omega
theorem Spared.sweepsAnew (h : Spared 0x6000 0x11000 true b c) : Spared 0x6000 0x11000 true b (sweepsAnew c) := h.other
theorem Spared.polModeChange (h : Spared 0x6000 0x11000 true b c) : Spared 0x6000 0x11000 true b (polModeChange c) := by
  rw [polModeChange_eq]
  have left : Spared 0x6000 0x11000 true b (if polMode c = 2 then Machine.autoLeft c else c) := .ite h.autoLeft h
  have ended := Spared.ite (p := polWanted c = 0) left.sourcesEnded left
  exact .ite h (.setF (.dropOvr (.ite ended.sweepsAnew ended)))

theorem Spared.unhalt {still : Bool} (h : Spared 0x6000 0x10004 still b c) : Spared 0x6000 0x10004 still b (unhalt c) :=
  .ite h.other (.setLevel (.setF (.setF h.other)))

end
end Sys2Proof.Machine

namespace Sys2Proof.Machine

section
variable {b c : Block}

/-! MODEL_STEP_BOUNDARY up to action 4 of R26. -/

/-- The boundary is no longer owed. -/
def boundaryMet (b : Block) : Block := { b with clock := { b.clock with stepOwed := false } }

/-- The ripple cells are taken anew. -/
def rippleAnew (b : Block) : Block := { b with pol := { b.pol with rippled := false, ripple := [] } }

/-- The policy's mode and the overrides as they are from a boundary on. -/
def policyTaken (b : Block) : Block := takeUp (polModeChange (rippleAnew b))

/-- The block in which a boundary begins a step: where RESUME was written, HALTED is left. -/
def beforeStep (b : Block) : Block := when (policyTaken b).fen.resume unhalt (policyTaken b)

/-- The fast layer looks its parameters up. -/
def lookedUp (b : Block) : Block := if fastRuns b then each (b.fen.cells.filter (present b)) fastLookup b else b

theorem stepAbandon_none (h : b.fen.step = none) : stepAbandon b = b := by
  unfold stepAbandon
  rw [h]
theorem adaptSwap_none (h : isF b F.FEN_STATUS_SWAP_PEND = false) : adaptSwap b = b := by simp [adaptSwap, h]
theorem imageSwap_none (h : isF b F.FEN_STATUS_SWAP_PEND = false) : imageSwap b = b := by simp [imageSwap, h]

theorem stepBoundary_eq (b : Block) :
    stepBoundary b = lookedUp (stepBegin (beforeStep (imageSwap (adaptSwap (stepLength (stepAbandon (boundaryMet b))))))) := rfl

theorem stepBoundary_quiet (none : b.fen.step = none) (swap : isF b F.FEN_STATUS_SWAP_PEND = false) (pend : isF b F.FEN_STATUS_STEP_PEND = false) :
    stepBoundary b = lookedUp (stepBegin (beforeStep (boundaryMet b))) := by
  have swap : isF (boundaryMet b) F.FEN_STATUS_SWAP_PEND = false := swap
  rw [stepBoundary_eq, stepAbandon_none (b := boundaryMet b) none, stepLength_waits (b := boundaryMet b) (.inl pend), adaptSwap_none swap, imageSwap_none swap]

/-- What `stepBegin` reads: between `b` and `c` it is the same, HALTED apart. -/
structure AtBoundary (b c : Block) : Prop where
  clock : c.clock = b.clock
  lc : c.lc = b.lc
  pwr : c.pwr = b.pwr
  step : c.fen.step = b.fen.step
  from_ : c.fen.from_ = b.fen.from_
  bist : c.bist = b.bist
  blkRun : c.sl.blkRun = b.sl.blkRun
  low : ∀ a, 0x6000 ≤ a → a < 0x10004 → getR c a = getR b a
  status : ∀ f : Fld, f.reg = R.FEN_STATUS → f.lo + f.len ≤ 15 ∨ 16 ≤ f.lo → getF c f = getF b f
  skip : getF c F.FEN_OVR_CNT_SKIP = getF b F.FEN_OVR_CNT_SKIP

theorem spared_policyTaken (b : Block) : Spared 0x6000 0x11000 true (rippleAnew b) (policyTaken b) := .takeUp (.polModeChange .rfl)
theorem fen_policyTaken (b : Block) : (policyTaken b).fen = b.fen := by simp [policyTaken, rippleAnew]
theorem bist_policyTaken (b : Block) : (policyTaken b).bist = b.bist := by simp [policyTaken, rippleAnew]

theorem atBoundary_policyTaken (b : Block) : AtBoundary b (policyTaken b) where
  clock := (spared_policyTaken b).clock
  lc := (spared_policyTaken b).lc
  pwr := (spared_policyTaken b).pwr
  step := by rw [fen_policyTaken]
  from_ := by rw [fen_policyTaken]
  bist := bist_policyTaken b
  blkRun := (spared_policyTaken b).blkRun
  low a l u := (spared_policyTaken b).1 a l (by omega)
  status f reg _ := getF_of_getR ((spared_policyTaken b).1 f.reg (by rw [reg]; decide) (by rw [reg]; decide))
  skip := (spared_policyTaken b).getF

theorem AtBoundary.unhalt (h : AtBoundary b c) : AtBoundary b (unhalt c) :=
  have s : Spared 0x6000 0x10004 true c (Machine.unhalt c) := .unhalt .rfl
  have fen : (Machine.unhalt c).fen = { c.fen with resume := false } := by rw [unhalt_regsCond c]; rfl
  have bist : (Machine.unhalt c).bist = c.bist := by rw [unhalt_regsCond c]; rfl
  { clock := s.clock.trans h.clock
    lc := s.lc.trans h.lc
    pwr := s.pwr.trans h.pwr
    step := by rw [fen]; exact h.step
    from_ := by rw [fen]; exact h.from_
    bist := bist.trans h.bist
    blkRun := s.blkRun.trans h.blkRun
    low := fun a l u => (s.1 a l u).trans (h.low a l u)
    status := fun f reg beside => (status_unhalt c reg beside).trans (h.status f reg beside)
    skip := (skip_unhalt c).trans h.skip }

theorem atBoundary_beforeStep (b : Block) : AtBoundary b (beforeStep b) := by
  unfold beforeStep Machine.when
  split
  exacts [(atBoundary_policyTaken b).unhalt, atBoundary_policyTaken b]

theorem halted_beforeStep (h : isF b F.FEN_STATUS_HALTED = false ∨ b.fen.resume = true) : getF (beforeStep b) F.FEN_STATUS_HALTED = 0 := by
  unfold beforeStep Machine.when
  rw [fen_policyTaken]
  split
  · exact halted_unhalt _
  · next off =>
    have running := h.resolve_right off
    rw [(spared_policyTaken b).getF]
    exact (isF_eq_false b _).mp running

theorem halted_beforeStep_stays (h : isF b F.FEN_STATUS_HALTED = true) (off : b.fen.resume = false) : isF (beforeStep b) F.FEN_STATUS_HALTED = true := by
  unfold beforeStep Machine.when
  rw [fen_policyTaken, off, if_neg Bool.false_ne_true, (spared_policyTaken b).isF]
  exact h

/-- A step may begin at this boundary (R86, R209, R214). -/
structure StepDue (b : Block) : Prop where
  step : b.fen.step = none
  image : isF b F.FEN_STATUS_IMG_VALID = true
  full : isF b F.FEN_CTL_FULL_EN = true
  power : b.pwr.state = .run ∨ b.pwr.state = .safe
  life : b.lc.acting ≠ .retired
  reset : fenReset b = false
  engine : isF b F.BIST_FAILED_FEN = false
  memory : isF b F.BIST_FAILED_MEM = false

theorem AtBoundary.getF (h : AtBoundary b c) (f : Fld) (l : 0x6000 ≤ f.reg := by decide) (u : f.reg < 0x10004 := by decide) : getF c f = getF b f :=
  getF_of_getR (h.low _ l u)
theorem AtBoundary.isF (h : AtBoundary b c) (f : Fld) (l : 0x6000 ≤ f.reg := by decide) (u : f.reg < 0x10004 := by decide) : isF c f = isF b f := by
  unfold Machine.isF
  rw [h.getF f l u]

theorem AtBoundary.due (h : AtBoundary b c) (d : StepDue b) : StepDue c where
  step := h.step.trans d.step
  image := by
    have image := d.image
    unfold Machine.isF at image ⊢
    rwa [h.status _ rfl (by decide)]
  full := (h.isF F.FEN_CTL_FULL_EN).trans d.full
  power := by rw [h.pwr]; exact d.power
  life := by rw [h.lc]; exact d.life
  reset := by
    have reset := d.reset
    unfold fenReset at reset ⊢
    rwa [h.blkRun]
  engine := (h.isF F.BIST_FAILED_FEN).trans d.engine
  memory := (h.isF F.BIST_FAILED_MEM).trans d.memory

theorem AtBoundary.fenTest (h : AtBoundary b c) : fenTest c = fenTest b := by
  unfold Machine.fenTest
  rw [h.bist]
theorem AtBoundary.devF (h : AtBoundary b c) : devF c = devF b := by
  unfold Machine.devF
  rw [h.clock]
theorem AtBoundary.frame (h : AtBoundary b c) : frame c = frame b := by
  unfold Machine.frame frameOfs
  rw [h.getF _, h.low _ (by decide) (by decide), h.clock]
theorem AtBoundary.stepFrames (h : AtBoundary b c) : stepFrames c = stepFrames b := by
  unfold Machine.stepFrames stepMsNow
  rw [h.status _ rfl (by decide)]
theorem AtBoundary.inSafe (h : AtBoundary b c) : inSafe c = inSafe b := by
  unfold Machine.inSafe
  rw [h.pwr]

/-! Action 4 of R26. -/

/-- The step over the interval from this boundary. -/
def stepFrom (b : Block) : FenStep :=
  { start := devF b, frameNo := frame b, frames := stepFrames b, from_ := b.fen.from_, layout := false, mode := polMode b, safe := inSafe b }

theorem stepBegin_due (d : StepDue b) : stepBegin b = if fenTest b then count 0x22 1 {} (addF F.FEN_OVR_CNT_SKIP 1 b)
    else if isF b F.FEN_STATUS_HALTED then b else { b with fen := { b.fen with step := some (stepFrom b) } } := by
  unfold stepBegin
  have power : (decide (b.pwr.state = .run) || decide (b.pwr.state = .safe)) = true := by simpa using d.power
  simp only [d.image, d.full, power, lifeIs, d.life, d.step, d.reset, d.engine, d.memory, decide_false, Bool.not_false, Bool.not_true, Option.isNone_none, Bool.and_self,
    Bool.or_self, Bool.false_eq_true, if_false]
  rfl

/-! The fast layer's look-up changes its own parameters alone. -/

/-- From `b` to `c` nothing but the fast layer's cells changes. -/
def FastCells (b c : Block) : Prop := c = { b with fen := { b.fen with fast := c.fen.fast } }

theorem fastCells_lookedUp (b : Block) : FastCells b (lookedUp b) := by
  have looked : ∀ (l : List Nat) (c : Block), FastCells b c → FastCells b (each l fastLookup c) := by
    intro l
    induction l with
    | nil => exact fun _ h => h
    | cons n l ih => exact fun c h => ih _ (Eq.trans rfl (by rw [show c = _ from h]; rfl))
  unfold lookedUp
  split
  exacts [looked _ b rfl, rfl]

end
end Sys2Proof.Machine

namespace Sys2Proof.Machine

section
variable {b c : Block} {s : FenStep}

/-! FEN_STEP_COMPLETE (R214, R229): what follows the counts of the step leaves FEN_STATUS, FEN_STEP_NUM and FEN_OVR_CNT alone. -/

/-- The outcome of the step's time. -/
def stepTimed (s : FenStep) (us : Nat) (b : Block) : Block :=
  let c := setF F.FEN_UTIL_LAST (publishedIn 48 16 ((us : Rat) * 10000 / (s.frames * 50 : Nat))) (setR R.FEN_STEP_TIME (w32 us) b)
  setR R.FEN_STEP_TMAX (w32 (max us (getR c R.FEN_STEP_TMAX).toNat)) c

/-- The cells that the step ran open loop. -/
def openLoops (s : FenStep) (b : Block) : Block := each b.fen.cells (fun n b => putF (F.FEN_CELL_STATUS_OPENLOOP n) (s.noVolt.contains n) b) b

/-- One step less until a cell started anew is valid. -/
def reinitPassed (b : Block) : Block :=
  each b.fen.reinitOn (fun n b => setF (F.FEN_CELL_STATUS_REINIT n) (getF b (F.FEN_CELL_STATUS_REINIT n) - 1) b) b

/-- The step's counts. -/
def stepCounted (b : Block) : Block := setF F.FEN_OVR_CNT_CONSEC 0 (count 0x20 1 {} (stepDone b))

/-- The step is over, and its interval leaves the sums. -/
def stepEnded (s : FenStep) (heard : List Nat) (b : Block) : Block :=
  dropInterval s { b with fen := { b.fen with step := none, stepped := true, innov := heard, lastSoc := b.fen.cells.map fun n => (n, stateSoc b n) } }

/-- What follows the step's counts: its time, the policy, and its end. -/
def afterCounts (s : FenStep) (us seed : Nat) (heard : List Nat) (b : Block) : Block :=
  stepEnded s heard (reinitPassed (policyStep s seed (openLoops s (stepTimed s us b))))

theorem fenStepComplete_eq (run : framesRun b = true) (step : b.fen.step = some s) (layout : s.layout = false) (closed : s.closed = true) :
    ∃ half us heard, fenStepComplete b = afterCounts s us b.freeCtr heard (stepCounted (putHalf half (fresh b).2)) := by
  unfold fenStepComplete
  simp only [step, layout, closed, run, Bool.not_true, Bool.or_self, Bool.false_eq_true, if_false]
  exact ⟨_, _, _, rfl⟩

theorem Spared.polPublish {seed : Nat} {es : List EstCell} (h : Spared 0x10004 0x10010 true b c) : Spared 0x10004 0x10010 true b (polPublish s seed es c) :=
  .ite (.other (.setF (.putF (.putF h)))) h
theorem Spared.polKeep {es : List EstCell} (h : Spared 0x10004 0x10010 true b c) : Spared 0x10004 0x10010 true b (polKeep es c) := h.each fun _ _ _ h => h.other
theorem Spared.selfDischarge {es : List EstCell} (h : Spared 0x10004 0x10010 true b c) : Spared 0x10004 0x10010 true b (selfDischarge s es c) :=
  h.each fun _ _ _ h => h.other
theorem Spared.autoSweep (h : Spared 0x10004 0x10010 true b c) : Spared 0x10004 0x10010 true b (autoSweep s c) := .ite h (.ite h (.ite h h.other))
theorem Spared.policyStep {seed : Nat} (h : Spared 0x10004 0x10010 true b c) : Spared 0x10004 0x10010 true b (policyStep s seed c) :=
  .other (.when (.when (.when h.polPublish.polKeep.selfDischarge fun _ h => h.other) fun _ h => h.other) fun _ h => h.autoSweep)

theorem Spared.stepTimed {us : Nat} (h : Spared 0x10004 0x10010 true b c) : Spared 0x10004 0x10010 true b (stepTimed s us c) := h.setR.setF.setR
theorem Spared.openLoops (h : Spared 0x10004 0x10010 true b c) : Spared 0x10004 0x10010 true b (openLoops s c) :=
  h.each fun _ _ _ h => h.putF (out_of_base (by decide))
theorem Spared.reinitPassed (h : Spared 0x10004 0x10010 true b c) : Spared 0x10004 0x10010 true b (reinitPassed c) :=
  h.each fun _ _ _ h => h.setF (out_of_base (by decide))
theorem Spared.stepEnded {heard : List Nat} (h : Spared 0x10004 0x10010 true b c) : Spared 0x10004 0x10010 true b (stepEnded s heard c) := h.other
theorem spared_afterCounts (us seed : Nat) (heard : List Nat) (b : Block) : Spared 0x10004 0x10010 true b (afterCounts s us seed heard b) :=
  Spared.rfl.stepTimed.openLoops.policyStep.reinitPassed.stepEnded

/-- From `b` to `c` the image in force and the words of its copy stay. -/
def SameImage (b c : Block) : Prop := c.fen.image = b.fen.image ∧ c.fen.own = b.fen.own

theorem SameImage.trans {d : Block} (h : SameImage b c) (k : SameImage c d) : SameImage b d := ⟨k.1.trans h.1, k.2.trans h.2⟩
theorem RegsCond.sameImage (h : RegsCond b c) : SameImage b c := by
  unfold SameImage
  rw [show c = _ from h]
  exact ⟨Eq.refl _, Eq.refl _⟩
theorem sameImage_polPublish {seed : Nat} {es : List EstCell} (b : Block) : SameImage b (polPublish s seed es b) := by
  unfold polPublish
  split
  exacts [⟨rfl, rfl⟩, ⟨rfl, rfl⟩]
theorem sameImage_policyStep {seed : Nat} (b : Block) : SameImage b (policyStep s seed b) := by
  obtain ⟨image, own⟩ := sameImage_polPublish (s := s) (seed := seed) (es := b.fen.cells.map (estCell b s seed)) b
  exact ⟨by simp [policyStep, image], by simp [policyStep, own]⟩
theorem regsCond_stepTimed (us : Nat) (b : Block) : RegsCond b (stepTimed s us b) := .setR (.setF (.setR .rfl))
theorem regsCond_openLoops (b : Block) : RegsCond b (openLoops s b) := .each .rfl fun _ _ h => h.setR
theorem regsCond_reinitPassed (b : Block) : RegsCond b (reinitPassed b) := .each .rfl fun _ _ h => h.setF
theorem sameImage_afterCounts (us seed : Nat) (heard : List Nat) (b : Block) : SameImage b (afterCounts s us seed heard b) :=
  (((regsCond_stepTimed us b).sameImage.trans (regsCond_openLoops _).sameImage).trans (sameImage_policyStep _)).trans (regsCond_reinitPassed _).sameImage

/-! The step's counts. -/

theorem getF_incF_bit (f : Fld) (b : Block) (h : f.lo + f.len ≤ 32) (len : f.len = 1) : getF (incF f b) f = 1 - getF b f := by
  have lt : getF b f < 2 ^ f.len := bitsOf_lt _ _ _
  rw [incF, getF_setF f _ b h]
  rw [len] at lt ⊢
  omega

theorem spared_counted (b : Block) : Spared 0x10004 0x1000C true (stepDone b) (stepCounted b) := .setF (.count .rfl)

theorem half_stepCounted (b : Block) : getF (stepCounted b) F.FEN_STATUS_HALF = 1 - getF b F.FEN_STATUS_HALF := by
  rw [(spared_counted b).getF, stepDone, getF_of_getR (getR_setR_ne _ _ (by decide))]
  exact getF_incF_bit F.FEN_STATUS_HALF b (by decide) rfl
theorem stepNum_stepCounted (b : Block) : getR (stepCounted b) R.FEN_STEP_NUM = getR b R.FEN_STEP_NUM + 1 := by
  rw [(spared_counted b).getR, stepDone, getR_setR, incF, getR_setF_ne _ _ _ (by decide)]
theorem consec_stepCounted (b : Block) : getF (stepCounted b) F.FEN_OVR_CNT_CONSEC = 0 := getF_setF _ 0 _ (by decide)
theorem regsCond_stepCounted (b : Block) : RegsCond b (stepCounted b) := .setF (.count (.setR (.setF .rfl)))

/-- A step that completes. -/
theorem fenStepComplete_completes (run : framesRun b = true) (step : b.fen.step = some s) (layout : s.layout = false) (closed : s.closed = true) :
    (fenStepComplete b).fen.step = none ∧ (fenStepComplete b).fen.from_ = s.start ∧ getR (fenStepComplete b) R.FEN_STEP_NUM = getR b R.FEN_STEP_NUM + 1 ∧
      getF (fenStepComplete b) F.FEN_STATUS_HALF = 1 - getF b F.FEN_STATUS_HALF ∧ getF (fenStepComplete b) F.FEN_OVR_CNT_CONSEC = 0 ∧
      (fenStepComplete b).lc = b.lc ∧ (fenStepComplete b).clock = b.clock ∧ SameImage b (fenStepComplete b) := by
  obtain ⟨half, us, heard, eq⟩ := fenStepComplete_eq run step layout closed
  rw [eq]
  have counted := regsCond_stepCounted (putHalf half (fresh b).2)
  have after := spared_afterCounts (s := s) us b.freeCtr heard (stepCounted (putHalf half (fresh b).2))
  refine ⟨rfl, rfl, after.getR.trans (stepNum_stepCounted _), after.getF.trans (half_stepCounted _), after.getF.trans (consec_stepCounted _),
    after.lc.trans (counted.lc), after.clock.trans (counted.clock), ?_⟩
  have written : SameImage b (putHalf half (fresh b).2) := ⟨rfl, rfl⟩
  exact (written.trans counted.sameImage).trans (sameImage_afterCounts us b.freeCtr heard _)

end
end Sys2Proof.Machine

namespace Sys2Proof.Machine

section
variable {b c : Block} {s : FenStep}

/-! The outcomes of MODEL_STEP_BOUNDARY. -/

theorem exec_modelStepBoundary (b : Block) (q : List Instr) :
    exec .modelStepBoundary ⟨b, q⟩ = .next ⟨if framesRun b && b.clock.stepOwed then stepBoundary b else b, q⟩ := rfl
theorem exec_stepLengthChange (q : List Instr) (run : framesRun b = true) : exec .stepLengthChange ⟨b, q⟩ = .next ⟨stepLength b, q⟩ := by
  rw [show exec .stepLengthChange ⟨b, q⟩ = .next ⟨if framesRun b then stepLength b else b, q⟩ from rfl, if_pos run]
theorem exec_fenStepComplete (b : Block) (q : List Instr) : exec .fenStepComplete ⟨b, q⟩ = .next ⟨fenStepComplete b, q⟩ := rfl
theorem exec_stepOverrun (q : List Instr) (run : framesRun b = true) : exec .stepOverrun ⟨b, q⟩ = .next ⟨stepAbandon b, q⟩ := by
  rw [show exec .stepOverrun ⟨b, q⟩ = .next ⟨if framesRun b then stepAbandon b else b, q⟩ from rfl, if_pos run]
theorem exec_fenHalt (q : List Instr) (run : framesRun b = true) : exec .fenHalt ⟨b, q⟩ = .next ⟨haltCheck b, q⟩ := by
  rw [show exec .fenHalt ⟨b, q⟩ = .next ⟨inFrame haltCheck b, q⟩ from rfl, inFrame_of_framesRun run]

/-- A due step is counted as skipped under self-test. -/
def stepSkipped (b : Block) : Block := count 0x22 1 {} (addF F.FEN_OVR_CNT_SKIP 1 b)
/-- A due step begins. -/
def stepBegun (b : Block) : Block := { b with fen := { b.fen with step := some (stepFrom b) } }

theorem regsCond_stepSkipped (b : Block) : RegsCond b (stepSkipped b) := .count (.addF .rfl)
theorem skip_stepSkipped (b : Block) : getF (stepSkipped b) F.FEN_OVR_CNT_SKIP = min (getF b F.FEN_OVR_CNT_SKIP + 1) 255 := by
  have counted : Spared 0x7500 0x20000 true (addF F.FEN_OVR_CNT_SKIP 1 b) (stepSkipped b) := .count .rfl
  rw [counted.getF]
  exact getF_addF F.FEN_OVR_CNT_SKIP 1 b (by decide)

theorem stepBegin_keeps_time (d : StepDue b) : (stepBegin b).clock = b.clock ∧ (stepBegin b).lc = b.lc := by
  rw [stepBegin_due d]
  split
  · exact ⟨(regsCond_stepSkipped b).clock, (regsCond_stepSkipped b).lc⟩
  · split
    exacts [⟨rfl, rfl⟩, ⟨rfl, rfl⟩]

theorem FastCells.clock (h : FastCells b c) : c.clock = b.clock := by rw [show c = _ from h]
theorem FastCells.lc (h : FastCells b c) : c.lc = b.lc := by rw [show c = _ from h]
theorem FastCells.step (h : FastCells b c) : c.fen.step = b.fen.step := by rw [show c = _ from h]
theorem FastCells.getF (h : FastCells b c) (f : Fld) : getF c f = getF b f := getF_congr (by rw [show c = _ from h]) f

/-- At a boundary at which a step is due and nothing else waits. -/
structure BoundaryQuiet (b : Block) : Prop extends StepDue b where
  swap : isF b F.FEN_STATUS_SWAP_PEND = false
  pend : isF b F.FEN_STATUS_STEP_PEND = false

theorem BoundaryQuiet.before (h : BoundaryQuiet b) : StepDue (beforeStep (boundaryMet b)) := by
  refine (atBoundary_beforeStep (boundaryMet b)).due ?_
  obtain ⟨due, _, _⟩ := h
  exact ⟨due.step, due.image, due.full, due.power, due.life, due.reset, due.engine, due.memory⟩

theorem BoundaryQuiet.looked (h : BoundaryQuiet b) : FastCells (stepBegin (beforeStep (boundaryMet b))) (stepBoundary b) := by
  rw [stepBoundary_quiet h.step h.swap h.pend]
  exact fastCells_lookedUp _

theorem BoundaryQuiet.clock (h : BoundaryQuiet b) : (stepBoundary b).clock = { b.clock with stepOwed := false } :=
  (h.looked.clock.trans (stepBegin_keeps_time h.before).1).trans (atBoundary_beforeStep (boundaryMet b)).clock
theorem BoundaryQuiet.lc (h : BoundaryQuiet b) : (stepBoundary b).lc = b.lc :=
  (h.looked.lc.trans (stepBegin_keeps_time h.before).2).trans (atBoundary_beforeStep (boundaryMet b)).lc

theorem BoundaryQuiet.begins (h : BoundaryQuiet b) (test : fenTest b = false) (on : isF b F.FEN_STATUS_HALTED = false ∨ b.fen.resume = true) :
    ∃ s, (stepBoundary b).fen.step = some s ∧ s.start = devF b ∧ s.frameNo = frame b ∧ s.frames = stepFrames b ∧ s.from_ = b.fen.from_ ∧
      s.layout = false ∧ s.closed = false ∧ s.safe = inSafe b ∧ getF (stepBoundary b) F.FEN_STATUS_HALTED = 0 := by
  have at_ := atBoundary_beforeStep (boundaryMet b)
  have running : getF (beforeStep (boundaryMet b)) F.FEN_STATUS_HALTED = 0 := halted_beforeStep (b := boundaryMet b) on
  have begun : stepBegin (beforeStep (boundaryMet b)) = stepBegun (beforeStep (boundaryMet b)) := by
    rw [stepBegin_due h.before, at_.fenTest, if_neg (by rw [show fenTest (boundaryMet b) = fenTest b from rfl, test]; exact Bool.false_ne_true),
      if_neg (by rw [(isF_eq_false _ _).mpr running]; exact Bool.false_ne_true)]
    rfl
  have looked := h.looked
  rw [begun] at looked
  exact ⟨stepFrom (beforeStep (boundaryMet b)), looked.step, at_.devF, at_.frame, at_.stepFrames, at_.from_, rfl, rfl, at_.inSafe, (looked.getF _).trans running⟩

theorem BoundaryQuiet.waits (h : BoundaryQuiet b) (test : fenTest b = false) (halted : isF b F.FEN_STATUS_HALTED = true) (off : b.fen.resume = false) :
    (stepBoundary b).fen.step = none := by
  have at_ := atBoundary_beforeStep (boundaryMet b)
  have looked := h.looked
  rw [stepBegin_due h.before, at_.fenTest, if_neg (by rw [show fenTest (boundaryMet b) = fenTest b from rfl, test]; exact Bool.false_ne_true),
    if_pos (halted_beforeStep_stays (b := boundaryMet b) halted off)] at looked
  exact looked.step.trans h.before.step

theorem BoundaryQuiet.skips (h : BoundaryQuiet b) (test : fenTest b = true) :
    (stepBoundary b).fen.step = none ∧ getF (stepBoundary b) F.FEN_OVR_CNT_SKIP = min (getF b F.FEN_OVR_CNT_SKIP + 1) 255 := by
  have at_ := atBoundary_beforeStep (boundaryMet b)
  have looked : FastCells (stepSkipped (beforeStep (boundaryMet b))) (stepBoundary b) := by
    have looked := h.looked
    rwa [stepBegin_due h.before, at_.fenTest, if_pos (show fenTest (boundaryMet b) = true from test)] at looked
  have fen : (stepSkipped (beforeStep (boundaryMet b))).fen = (beforeStep (boundaryMet b)).fen := by
    rw [show stepSkipped _ = _ from regsCond_stepSkipped _]
  refine ⟨(looked.step.trans (congrArg Fen.step fen)).trans h.before.step, ?_⟩
  rw [looked.getF, skip_stepSkipped, at_.skip]
  rfl

/-! STEP_LENGTH_CHANGE. -/

theorem act_lengthTaken (b : Block) : getF (lengthTaken b) F.FEN_STATUS_STEP_ACT = getF b F.FEN_CTL_STEP := by
  have fits : getF b F.FEN_CTL_STEP < 2 ^ 2 := bitsOf_lt _ _ _
  unfold lengthTaken
  rw [getF_setF_at F.FEN_STATUS_STEP_PEND F.FEN_STATUS_STEP_ACT, getF_setF _ _ _ (by decide)]
  exact Nat.mod_eq_of_lt fits
theorem pend_lengthTaken (b : Block) : getF (lengthTaken b) F.FEN_STATUS_STEP_PEND = 0 := getF_setF F.FEN_STATUS_STEP_PEND 0 _ (by decide)

/-- A step length that takes effect. -/
theorem lengthTaken_outcome (b : Block) :
    let c := describePred (unhalt (lengthTaken b))
    getF c F.FEN_STATUS_STEP_ACT = getF b F.FEN_CTL_STEP ∧ getF c F.FEN_STATUS_STEP_PEND = 0 ∧ getF c F.FEN_STATUS_HALTED = 0 ∧
      c = { b with regs := c.regs, fen := { b.fen with resume := false }, sl := { b.sl with cond := c.sl.cond } } ∧
      RegsBut [R.FEN_STATUS, R.FEN_OVR_CNT, R.FEN_UTIL] b c := by
  intro c
  have beside : ∀ f : Fld, f.reg = R.FEN_STATUS → getF c f = getF (unhalt (lengthTaken b)) f := fun f reg => status_describePred _ (by rw [reg]; decide)
  refine ⟨?_, ?_, ?_, ?_, ?_⟩
  · rw [beside _ rfl, status_unhalt _ rfl (by decide), act_lengthTaken]
  · rw [beside _ rfl, status_unhalt _ rfl (by decide), pend_lengthTaken]
  · rw [beside _ rfl, halted_unhalt]
  · have all : RegsCond (resumeDone (lengthTaken b)) c := (unhalt_regsCond _).describePred
    exact all
  · have taken : RegsBut [R.FEN_STATUS] b (lengthTaken b) := .setF (f := F.FEN_STATUS_STEP_PEND) (.setF (f := F.FEN_STATUS_STEP_ACT) .rfl)
    have told : RegsBut [R.FEN_UTIL] (unhalt (lengthTaken b)) c := .ite .rfl (.setF (f := F.FEN_UTIL_PRED) .rfl)
    intro a out
    obtain ⟨status, ovr, util⟩ : a ≠ R.FEN_STATUS ∧ a ≠ R.FEN_OVR_CNT ∧ a ≠ R.FEN_UTIL := by simpa using out
    exact ((told a (by simpa using util)).trans (unhalt_regsBut _ a (by simpa using ⟨status, ovr⟩))).trans (taken a (by simpa using status))

/-! FEN_STEP_COMPLETE and STEP_OVERRUN where they change nothing. -/

theorem fenStepComplete_none (h : b.fen.step = none) : fenStepComplete b = b := by
  unfold fenStepComplete
  rw [h]
theorem fenStepComplete_open (step : b.fen.step = some s) (h : s.closed = false ∨ s.layout = true) : fenStepComplete b = b := by
  unfold fenStepComplete
  rcases h with open_ | layout
  · simp [step, open_]
  · simp [step, layout]
theorem stepAbandon_early (step : b.fen.step = some s) (h : s.layout = true ∨ devF b < s.start + s.frames) : stepAbandon b = b := by
  unfold stepAbandon
  simp only [step]
  exact if_pos (by simpa using h)

/-! STEP_OVERRUN at the deadline (R215). -/

/-- The abandoned step counted, before HALTED is judged. -/
def overrunCounted (b : Block) : Block :=
  count 0x21 1 {} (pulse Slot.fenStepOvr 0 (addF F.FEN_OVR_CNT_CONSEC 1 (addF F.FEN_OVR_CNT_OVR 1 { b with fen := { b.fen with step := none } })))

theorem stepAbandon_late (step : b.fen.step = some s) (layout : s.layout = false) (late : s.start + s.frames ≤ devF b) :
    stepAbandon b = haltCheck (overrunCounted b) := by
  unfold stepAbandon
  simp only [step]
  exact if_neg (by simpa [layout] using late)

theorem regsCond_overrunCounted (b : Block) : RegsCond { b with fen := { b.fen with step := none } } (overrunCounted b) := .count (.pulse (.addF (.addF .rfl)))

theorem spared_overrunCounted (b : Block) : Spared 0x7500 0x20000 true
    (addF F.FEN_OVR_CNT_CONSEC 1 (addF F.FEN_OVR_CNT_OVR 1 { b with fen := { b.fen with step := none } })) (overrunCounted b) := .count (.pulse .rfl)
theorem ovr_overrunCounted (b : Block) : getF (overrunCounted b) F.FEN_OVR_CNT_OVR = min (getF b F.FEN_OVR_CNT_OVR + 1) 65535 := by
  rw [(spared_overrunCounted b).getF, addF, getF_setF_at F.FEN_OVR_CNT_CONSEC F.FEN_OVR_CNT_OVR, getF_addF _ _ _ (by decide)]
  rfl
theorem consec_overrunCounted (b : Block) : getF (overrunCounted b) F.FEN_OVR_CNT_CONSEC = min (getF b F.FEN_OVR_CNT_CONSEC + 1) 255 := by
  rw [(spared_overrunCounted b).getF, getF_addF _ _ _ (by decide), addF, getF_setF_at F.FEN_OVR_CNT_OVR F.FEN_OVR_CNT_CONSEC]
  rfl
theorem status_overrunCounted (b : Block) : getR (overrunCounted b) R.FEN_STATUS = getR b R.FEN_STATUS := by
  rw [(spared_overrunCounted b).getR, addF, getR_setF_ne _ _ _ (by decide), addF, getR_setF_ne _ _ _ (by decide)]
  rfl
theorem condOf_count {i code n : Nat} {x : Qual} (b : Block) : condOf (count code n x b) i = condOf b i := by simp [condOf]
theorem pulse_pulse (i det : Nat) (b : Block) : (condOf (pulse i det b) i).pulse = true := by rw [pulse, condOf_putCond, if_pos rfl]
theorem pulsed_overrunCounted (b : Block) : (condOf (overrunCounted b) Slot.fenStepOvr).pulse = true := by
  rw [overrunCounted, condOf_count, pulse_pulse]
theorem condOf_haltCheck {i : Nat} (b : Block) (h : i ≠ Slot.fenHalt) : condOf (haltCheck b) i = condOf b i := by
  unfold haltCheck
  split
  · exact condOf_setLevel_ne _ h
  · rfl

/-- A step abandoned at its deadline. -/
theorem stepAbandon_outcome (step : b.fen.step = some s) (layout : s.layout = false) (late : s.start + s.frames ≤ devF b) :
    let c := stepAbandon b
    c.fen = { b.fen with step := none } ∧
      getF c F.FEN_OVR_CNT_OVR = min (getF b F.FEN_OVR_CNT_OVR + 1) 65535 ∧ getF c F.FEN_OVR_CNT_CONSEC = min (getF b F.FEN_OVR_CNT_CONSEC + 1) 255 ∧
      (condOf c Slot.fenStepOvr).pulse = true ∧ (7 ≤ getF b F.FEN_OVR_CNT_CONSEC → getF c F.FEN_STATUS_HALTED = 1) ∧
      (getF b F.FEN_OVR_CNT_CONSEC < 7 → getR c R.FEN_STATUS = getR b R.FEN_STATUS) ∧
      c = { b with regs := c.regs, fen := c.fen, sl := { b.sl with cond := c.sl.cond } } := by
  intro c
  have judged : c = haltCheck (overrunCounted b) := stepAbandon_late step layout late
  have all : RegsCond { b with fen := { b.fen with step := none } } c := judged ▸ (regsCond_overrunCounted b).haltCheck
  have count : getR c R.FEN_OVR_CNT = getR (overrunCounted b) R.FEN_OVR_CNT := judged ▸ regsBut_haltCheck _ _ (by decide)
  have consec := consec_overrunCounted b
  refine ⟨?_, ?_, ?_, ?_, fun seven => ?_, fun few => ?_, ?_⟩
  · rw [show c = _ from all]
  · exact (getF_of_getR count).trans (ovr_overrunCounted b)
  · exact (getF_of_getR count).trans consec
  · rw [judged, condOf_haltCheck _ (by decide), pulsed_overrunCounted]
  · rw [judged, halted_haltCheck (by omega)]
  · rw [judged, haltCheck_stays (.inl (by omega)), status_overrunCounted]
  · exact Eq.trans all (by rw [show c.fen = { b.fen with step := none } from by rw [show c = _ from all]])

/-- HALTED sets (R216). -/
theorem haltCheck_outcome (eight : 8 ≤ getF b F.FEN_OVR_CNT_CONSEC) (running : isF b F.FEN_STATUS_HALTED = false) :
    getF (haltCheck b) F.FEN_STATUS_HALTED = 1 ∧ (condOf (haltCheck b) Slot.fenHalt).level = true := by
  refine ⟨halted_haltCheck eight, ?_⟩
  rw [haltCheck_halts eight running, level_setLevel]

end
end Sys2Proof.Machine

namespace Sys2Proof
open Machine

/-- Settles O53: where nothing else waits a boundary comes down to `stepBegin` after `beforeStep`, which alters nothing that a step reads but HALTED; what follows
a completed step's counts leaves their registers alone, and an overrun is `haltCheck` on the counted step. -/
theorem modelSteps : Obligations.ModelSteps := by
  intro b q run
  refine ⟨fun owed step swap pend image full power life reset engine memory => ?_, fun idle => ?_, fun pend new old => ?_, fun waits => ?_,
    fun s step layout closed => ?_, fun none => ?_, fun s step => ⟨fun open_ => ?_, fun early => ?_, fun layout late => ?_⟩, fun eight running => ?_, fun stays => ?_⟩
  · have quiet : BoundaryQuiet b := ⟨⟨step, image, full, power, life, reset, engine, memory⟩, swap, pend⟩
    refine ⟨stepBoundary b, ?_, ?_, ?_, quiet.lc, quiet.begins, quiet.waits, quiet.skips⟩
    · rw [exec_modelStepBoundary, run, owed]
      rfl
    · rw [quiet.clock]
    · rw [quiet.clock]
  · rw [exec_modelStepBoundary, idle, Bool.and_false]
    rfl
  · exact ⟨_, (exec_stepLengthChange q run).trans (by rw [stepLength_taken pend new old]), lengthTaken_outcome b⟩
  · rw [exec_stepLengthChange q run, stepLength_waits waits]
  · exact ⟨_, exec_fenStepComplete b q, fenStepComplete_completes run step layout closed⟩
  · rw [exec_fenStepComplete, fenStepComplete_none none, exec_stepOverrun q run, stepAbandon_none none]
    exact ⟨rfl, rfl⟩
  · rw [exec_fenStepComplete, fenStepComplete_open step open_]
  · rw [exec_stepOverrun q run, stepAbandon_early step early]
  · exact ⟨_, exec_stepOverrun q run, stepAbandon_outcome step layout late⟩
  · obtain ⟨halted, level⟩ := haltCheck_outcome eight running
    exact ⟨_, exec_fenHalt q run, halted, level, regsBut_haltCheck b, RegsCond.rfl.haltCheck⟩
  · rw [exec_fenHalt q run, haltCheck_stays stays]

end Sys2Proof

namespace Sys2Proof.Machine

/-! Halves of a 64-bit value over a path (R432). -/

section
variable {p : Path} {a : Nat} {b : Block}

theorem isLow_iff : isLow a = true ↔ a = 0x10 ∨ a = 0x2020 ∨ a = 0x2028 ∨ a = 0x2030 ∨ a = 0xE018 ∨ a = 0x40408 ∨ a = 0x40410 ∨ a = 0x40C08 ∨ a = 0x51008 ∨
    (0x7100 ≤ a ∧ a < 0x7500) ∧ (a % 32 = 8 ∨ a % 32 = 16) := by
  simp [isLow, or_assoc]
theorem isHigh_iff : isHigh a = true ↔ 4 ≤ a ∧ isLow (a - 4) = true := by
  simp [isHigh]
theorem isLow_aligned (low : isLow a = true) : a % 4 = 0 := by
  rw [isLow_iff] at low
  omega
theorem isHigh_aligned (high : isHigh a = true) : a % 4 = 0 := by
  obtain ⟨four, low⟩ := isHigh_iff.mp high
  have aligned := isLow_aligned low
  omega
/-- No offset is the high half of one value and the low half of another. -/
theorem isLow_eq_false_of_isHigh (high : isHigh a = true) : isLow a = false := by
  obtain ⟨four, low⟩ := isHigh_iff.mp high
  rw [isLow_iff] at low
  rw [Bool.eq_false_iff, ne_eq, isLow_iff]
  omega

/-- The timestamp's place in the frame draws a free number; nothing else changes. -/
theorem wholeAt_only_freeCtr (a : Nat) (b : Block) : (wholeAt a b).2 = { b with freeCtr := (wholeAt a b).2.freeCtr } := by
  unfold wholeAt
  split <;> rfl
theorem setLatch_only_latch (p : Path) (v : Option (Nat × Nat)) (b : Block) : setLatch p v b = { b with latch := (setLatch p v b).latch } := by
  cases p <;> rfl
theorem latchOf_setLatch (p : Path) (v : Option (Nat × Nat)) (b : Block) : latchOf p (setLatch p v b) = v := by
  cases p <;> rfl
/-- Every path but those of Window B and of wide requests, which never latch, has a latch of its own. -/
theorem latchOf_setLatch_ne {o : Path} (v : Option (Nat × Nat)) (b : Block) (ne : o ≠ p) (hb : p ≠ .pcieB) (hw : p ≠ .pcieWide) (ob : o ≠ .pcieB)
    (ow : o ≠ .pcieWide) : latchOf o (setLatch p v b) = latchOf o b := by
  cases p <;> cases o <;> simp_all [setLatch, latchOf]
theorem latchOf_congr {c : Block} (h : c.latch = b.latch) (p : Path) : latchOf p c = latchOf p b := by
  unfold latchOf
  rw [h]
theorem setTorn_only_regs (p : Path) (b : Block) : setTorn p b = { b with regs := (setTorn p b).regs } := by
  cases p <;> rfl
theorem torn_setTorn_pcie (b : Block) : getF (setTorn .pcie b) F.SPI_LATCH_STATUS_PCIE_TORN = 1 := getF_setF F.SPI_LATCH_STATUS_PCIE_TORN 1 b (by decide)
theorem torn_setTorn_spi (b : Block) : getF (setTorn .spi b) F.SPI_STATUS_TORN = 1 := getF_setF F.SPI_STATUS_TORN 1 b (by decide)

/-! `readReg` at each kind of half. -/

theorem readReg_low (rdy : ready b = true) (low : isLow a = true) :
    readReg p a b = (w32 (wholeAt a b).1, false, setLatch p (some (a, (wholeAt a b).1)) (wholeAt a b).2) := by
  simp [readReg, rdy, low]
theorem readReg_high (rdy : ready b = true) (high : isHigh a = true) : readReg p a b = readHigh p a b := by
  simp [readReg, rdy, high, isLow_eq_false_of_isHigh high]
theorem readHigh_latched {lo v : Nat} (held : latchOf p b = some (lo, v)) (half : lo + 4 = a) : readHigh p a b = (w32 (v / 2 ^ 32), false, b) := by
  simp [readHigh, held, half]
theorem readHigh_torn (other : ∀ v, latchOf p b ≠ some (a - 4, v)) :
    readHigh p a b = (w32 ((wholeAt (a - 4) b).1 / 2 ^ 32), true, setTorn p (wholeAt (a - 4) b).2) := by
  unfold readHigh
  split
  case h_1 lo v held =>
    refine if_neg fun half => other v ?_
    rw [held, ← half, Nat.add_sub_cancel]
  case h_2 => rfl

/-! A read over a path. -/

/-- A request over PCIe that is not an aligned one of 32 bits (R387) reaches the endpoint, which refuses it. -/
theorem badRequest_unsupported (unsupported : p = .pcieWide ∨ (p = .pcie ∧ a % 4 ≠ 0)) (up : pcieUp b = true) :
    badRequest p a = true ∧ pathUp p b = true := by
  rcases unsupported with rfl | ⟨rfl, odd⟩
  · exact ⟨rfl, up⟩
  · exact ⟨by simpa [badRequest] using odd, up⟩

/-- What a read over path `p` that is answered does: over PCIe it ends L1 first (R386). -/
def answered (p : Path) (a : Nat) (b : Block) : Block :=
  emitOut (.read p a (readReg p a (when (p == .pcie) traffic b)).1) (readReg p a (when (p == .pcie) traffic b)).2.2

theorem readOver_down (down : pathUp p b = false) : readOver p a b = b := by
  simp [readOver, down]
theorem readOver_bad (up : pathUp p b = true) (bad : badRequest p a = true) : readOver p a b = emitOut .pcieUnsupported b := by
  simp [readOver, up, bad]
theorem readOver_good (up : pathUp p b = true) (good : badRequest p a = false) (hb : p ≠ .pcieB) : readOver p a b = answered p a b := by
  simp [readOver, answered, up, good, hb]

theorem when_traffic_only_regs (c : Bool) (b : Block) : when c traffic b = { b with regs := (when c traffic b).regs } := onlyRegs_when (fun _ => rfl) b
theorem ready_when_traffic (c : Bool) (b : Block) : ready (when c traffic b) = ready b := by
  rw [when_traffic_only_regs]
  rfl
theorem latchOf_when_traffic (o : Path) (c : Bool) (b : Block) : latchOf o (when c traffic b) = latchOf o b := by
  rw [when_traffic_only_regs]
  exact latchOf_congr rfl o

/-- What a read of both halves leaves: L1 ended, and a free number drawn for the timestamp. -/
theorem wholeAt_when_traffic (c : Bool) (a : Nat) (b : Block) : (wholeAt a (when c traffic b)).2 =
    { b with regs := (when c traffic b).regs, freeCtr := (wholeAt a (when c traffic b)).2.freeCtr } := by
  rw [wholeAt_only_freeCtr, when_traffic_only_regs]

theorem answered_low (rdy : ready b = true) (low : isLow a = true) (hb : p ≠ .pcieB) (hw : p ≠ .pcieWide) :
    let x := when (p == .pcie) traffic b
    let c := answered p a b
    latchOf p c = some (a, (wholeAt a x).1) ∧ c.out = b.out ++ [.read p a (w32 (wholeAt a x).1)] ∧
      (∀ o, o ≠ p → o ≠ .pcieB → o ≠ .pcieWide → latchOf o c = latchOf o b) ∧
      c = { b with regs := x.regs, latch := c.latch, out := c.out, freeCtr := (wholeAt a x).2.freeCtr } := by
  intro x c
  have drawn : (wholeAt a x).2 = { b with regs := x.regs, freeCtr := (wholeAt a x).2.freeCtr } := wholeAt_when_traffic _ a b
  have read : c = emitOut (.read p a (w32 (wholeAt a x).1)) (setLatch p (some (a, (wholeAt a x).1)) (wholeAt a x).2) := by
    have whole := readReg_low (p := p) ((ready_when_traffic (p == .pcie) b).trans rdy) low
    simp only [c, answered, whole, x]
  have kept : (wholeAt a x).2.latch = b.latch := by rw [drawn]
  refine ⟨?_, ?_, fun o ne ob ow => ?_, ?_⟩
  · rw [read]
    exact (latchOf_congr rfl p).trans (latchOf_setLatch p _ _)
  · rw [read, setLatch_only_latch, drawn]
    rfl
  · rw [read]
    exact (latchOf_congr rfl o).trans ((latchOf_setLatch_ne _ _ ne hb hw ob ow).trans (latchOf_congr kept o))
  · rw [read, setLatch_only_latch, drawn]
    rfl

theorem answered_latched {lo v : Nat} (rdy : ready b = true) (high : isHigh a = true) (held : latchOf p b = some (lo, v)) (half : lo + 4 = a) :
    answered p a b = { when (p == .pcie) traffic b with out := b.out ++ [.read p a (w32 (v / 2 ^ 32))] } := by
  have copy := readHigh_latched ((latchOf_when_traffic p (p == .pcie) b).trans held) half
  simp only [answered, readReg_high ((ready_when_traffic (p == .pcie) b).trans rdy) high, copy, emitOut]
  rw [when_traffic_only_regs]

theorem answered_torn (rdy : ready b = true) (high : isHigh a = true) (other : ∀ v, latchOf p b ≠ some (a - 4, v)) :
    let x := when (p == .pcie) traffic b
    let c := answered p a b
    c.out = b.out ++ [.read p a (w32 ((wholeAt (a - 4) x).1 / 2 ^ 32))] ∧ (p = .pcie → getF c F.SPI_LATCH_STATUS_PCIE_TORN = 1) ∧
      (p = .spi → getF c F.SPI_STATUS_TORN = 1) ∧ c = { b with regs := c.regs, out := c.out, freeCtr := c.freeCtr } := by
  intro x c
  have drawn : (wholeAt (a - 4) x).2 = { b with regs := x.regs, freeCtr := (wholeAt (a - 4) x).2.freeCtr } := wholeAt_when_traffic _ _ b
  have read : c = emitOut (.read p a (w32 ((wholeAt (a - 4) x).1 / 2 ^ 32))) (setTorn p (wholeAt (a - 4) x).2) := by
    have live := readHigh_torn (p := p) (b := x) fun v => by rw [latchOf_when_traffic]; exact other v
    simp only [c, answered, readReg_high ((ready_when_traffic (p == .pcie) b).trans rdy) high, x] at live ⊢
    rw [live]
  refine ⟨?_, fun pcie => ?_, fun spi => ?_, ?_⟩
  · rw [read, setTorn_only_regs, drawn]
    rfl
  · subst pcie
    rw [read]
    exact torn_setTorn_pcie _
  · subst spi
    rw [read]
    exact torn_setTorn_spi _
  · rw [read, setTorn_only_regs, drawn]
    rfl

/-! JTAG_ACCESS (R53): register reads and boundary scan. -/

theorem jtagRead_factory (life : b.lc.acting = .factory) (on : awake b = true) (low : isLow a = false) (high : isHigh a = false) :
    jtagRead a b = emitOut (.jtag (wordAt b a)) b := by
  simp [jtagRead, lifeIs, life, on, low, high]
theorem jtagRead_elsewhere (life : b.lc.acting ≠ .factory) : jtagRead a b = b := by
  simp [jtagRead, lifeIs, life]
/-- The levels a boundary scan captures. -/
def scanned (b : Block) : List Bool := (List.range (landLevels (fresh b).2).length).map (landLevel (fresh b).2 (fresh b).1)
theorem length_scanned (b : Block) : (scanned b).length = (landLevels b).length := by
  simp only [scanned, List.length_map, List.length_range]
  rfl
theorem scanLands_out (running : b.pwr.resetHold = false) :
    scanLands b = { b with out := b.out ++ [.scan (scanned b)], freeCtr := b.freeCtr + 1 } := by
  rw [scanLands, if_neg (by rw [running]; exact Bool.false_ne_true)]
  rfl
theorem scanLands_held (held : b.pwr.resetHold = true) : scanLands b = b := if_pos held

end

section
variable {p : Path} {a : BitVec 20} {b : Block} (q : List Instr)

theorem exec_lowHalfRead (h : (isLow a.toNat || p == .pcieB || badRequest p a.toNat) = true) :
    exec (.lowHalfRead p a) ⟨b, q⟩ = .next ⟨readOver p a.toNat b, q⟩ := by
  simp only [exec, execLowHalfRead, run_eq, if_pos h]
theorem exec_highHalfRead (h : (isHigh a.toNat || p == .pcieB || badRequest p a.toNat) = true) :
    exec (.highHalfRead p a) ⟨b, q⟩ = .next ⟨readOver p a.toNat b, q⟩ := by
  simp only [exec, execHighHalfRead, run_eq, if_pos h]
theorem exec_lowHalfRead_down (down : pathUp p b = false) : exec (.lowHalfRead p a) ⟨b, q⟩ = .next ⟨b, q⟩ := by
  simp only [exec, execLowHalfRead, run_eq, readOver_down down, ite_self]
theorem exec_highHalfRead_down (down : pathUp p b = false) : exec (.highHalfRead p a) ⟨b, q⟩ = .next ⟨b, q⟩ := by
  simp only [exec, execHighHalfRead, run_eq, readOver_down down, ite_self]

theorem exec_jtagRead (a : BitVec 20) (b : Block) : exec (.jtagAccess (.read a)) ⟨b, q⟩ = .next ⟨jtagRead a.toNat b, q⟩ := rfl
theorem exec_jtagSample (b : Block) : exec (.jtagAccess .sample) ⟨b, q⟩ = .next ⟨scanLands b, q⟩ := rfl

end

end Sys2Proof.Machine

namespace Sys2Proof
open Machine

/-- Settles O31: an answered read is `readReg` after the end of L1, and `readReg` of a half draws the whole value, then latches it (low half), answers the latched
copy, or answers the live half and sets TORN (high half). -/
theorem halfReads : Obligations.HalfReads := by
  intro b q
  refine ⟨fun p a x hb hw rdy up hx => ?_, fun p a down => ⟨exec_lowHalfRead_down q down, exec_highHalfRead_down q down⟩,
    fun a => ⟨fun life on low high => ?_, fun life => ?_⟩, fun p a unsupported up => ?_, fun running => ⟨scanned b, ?_, length_scanned b⟩, fun held => ?_, fun _ => rfl, rfl⟩
  · have link : x = when (p == .pcie) traffic b := by simp [hx, when]
    subst link
    have good (aligned : a.toNat % 4 = 0) := readOver_good (b := b) up (badRequest_eq_false hb hw fun _ => aligned) hb
    refine ⟨fun low => ?_, fun lo v high held half => ?_, fun high other => ?_⟩
    · have run := exec_lowHalfRead (p := p) (b := b) q (by rw [low]; rfl)
      rw [good (isLow_aligned low)] at run
      exact ⟨_, run, answered_low rdy low hb hw⟩
    · rw [exec_highHalfRead q (by rw [high]; rfl), good (isHigh_aligned high), answered_latched rdy high held half]
    · have run := exec_highHalfRead (p := p) (b := b) q (by rw [high]; rfl)
      rw [good (isHigh_aligned high)] at run
      exact ⟨_, run, answered_torn rdy high other⟩
  · rw [exec_jtagRead, jtagRead_factory life on low high]
    rfl
  · rw [exec_jtagRead, jtagRead_elsewhere life]
  · obtain ⟨bad, reach⟩ := badRequest_unsupported unsupported up
    rw [exec_lowHalfRead q (by rw [bad, Bool.or_true]), exec_highHalfRead q (by rw [bad, Bool.or_true]), readOver_bad reach bad]
    exact ⟨rfl, rfl⟩
  · rw [exec_jtagSample, scanLands_out running]
  · rw [exec_jtagSample, scanLands_held held]

end Sys2Proof

namespace Sys2Proof.Machine

/-! The life-cycle records (R97): which of the two counts, and what a new one changes. -/

/-- Record `i` of a life cycle, as `lifePick` looks at it. -/
def lifeRec (l : LifeCycle) (i : Nat) : LifeRec := l.records.getD i ⟨0, 0, 0⟩

/-- The record that counts, or of two invalid ones that beside which the next is written. -/
def lifeBase (l : LifeCycle) : Nat := (lifePick l).getD 1

/-- The record that `lifeWrite` writes. -/
def nextRec (t : Life) (l : LifeCycle) : LifeRec :=
  let seq := ((lifeRec l (lifeBase l)).seq + 1) % 2 ^ 32
  ⟨seq, lifeCode t, lifeCrc seq (lifeCode t)⟩

theorem lifeOf_lifeCode (t : Life) : lifeOf (lifeCode t) = some t := by cases t <;> rfl

theorem lifeRecOk_nextRec (t : Life) (l : LifeCycle) : lifeRecOk (nextRec t l) = true := by
  simp [lifeRecOk, nextRec, lifeOf_lifeCode]

theorem lifeWrite_eq (t : Life) (l : LifeCycle) :
    lifeWrite t l = { l with life := t, records := l.records.set (1 - lifeBase l) (nextRec t l) } := rfl

theorem lifePick_eq (l : LifeCycle) :
    lifePick l = match lifeRecOk (lifeRec l 0), lifeRecOk (lifeRec l 1) with
      | true, true => if seqNewer (lifeRec l 1).seq (lifeRec l 0).seq then some 1 else some 0
      | true, false => some 0
      | false, true => some 1
      | false, false => none := by
  unfold lifePick; rfl

theorem lifeStored_eq (l : LifeCycle) :
    lifeStored l = match lifePick l with
      | some i => (lifeOf (lifeRec l i).code).getD l.life
      | none => l.life := by
  unfold lifeStored; rfl

/-- The number after `n` is newer than `n`, and `n` is not newer than it (R97, R104). -/
theorem seqNewer_succ {n : Nat} (h : n < 2 ^ 32) : seqNewer ((n + 1) % 2 ^ 32) n = true ∧ seqNewer n ((n + 1) % 2 ^ 32) = false := by
  simp only [seqNewer, decide_eq_true_eq, decide_eq_false_iff_not]
  omega

theorem lifeBase_cases (l : LifeCycle) : lifeBase l = 0 ∨ lifeBase l = 1 := by
  rw [lifeBase, lifePick_eq]
  split
  · split <;> simp
  all_goals simp

/-- The record written last counts. -/
theorem lifePick_lifeWrite (t : Life) {l : LifeCycle} (two : l.records.length = 2) (small : ∀ r ∈ l.records, r.seq < 2 ^ 32) :
    lifePick (lifeWrite t l) = some (1 - lifeBase l) ∧ lifeRec (lifeWrite t l) (1 - lifeBase l) = nextRec t l := by
  obtain ⟨r0, r1, hr⟩ := List.length_eq_two.mp two
  have ok := lifeRecOk_nextRec t l
  rw [lifePick_eq, lifeWrite_eq]
  rcases lifeBase_cases l with base | base
  · have older : seqNewer (nextRec t l).seq r0.seq = true := by
      rw [show (nextRec t l).seq = (r0.seq + 1) % 2 ^ 32 by simp [nextRec, base, lifeRec, hr]]
      exact (seqNewer_succ (small r0 (by simp [hr]))).1
    refine ⟨?_, by simp [base, lifeRec, hr]⟩
    cases h : lifeRecOk r0 <;> simp [base, lifeRec, hr, ok, older, h]
  · have older : seqNewer r1.seq (nextRec t l).seq = false := by
      rw [show (nextRec t l).seq = (r1.seq + 1) % 2 ^ 32 by simp [nextRec, base, lifeRec, hr]]
      exact (seqNewer_succ (small r1 (by simp [hr]))).2
    refine ⟨?_, by simp [base, lifeRec, hr]⟩
    cases h : lifeRecOk r1 <;> simp [base, lifeRec, hr, ok, older, h]

/-- After a write the records are whole and give the state written. -/
theorem lifeKept_lifeWrite {t : Life} {b c : Block} (h : LifeKept b) (lc : c.lc = lifeWrite t b.lc) : LifeKept c := by
  obtain ⟨-, two, small⟩ := h
  obtain ⟨pick, counts⟩ := lifePick_lifeWrite t two small
  unfold LifeKept
  rw [lc, lifeStored_eq, pick]
  refine ⟨by simp only [counts, nextRec, lifeOf_lifeCode, Option.getD_some]; rfl, by simp [lifeWrite_eq, two], fun r mem => ?_⟩
  rcases List.mem_or_eq_of_mem_set (lifeWrite_eq t b.lc ▸ mem) with old | new
  · exact small r old
  · rw [new]
    exact Nat.mod_lt _ (by decide)

end Sys2Proof.Machine

namespace Sys2Proof.Machine

section
variable {b c d : Block}

/-! The nonvolatile side: what a command may do to the life cycle, the keys, the configuration store and the anti-rollback floor. -/

/-- What R98 and R101 erase on entry to RETIRED: no key, no configuration copy, and no commit on its way. -/
def Erased (b : Block) : Prop :=
  b.lc.keySvc = none ∧ b.lc.keyCw = none ∧ b.cfg.copies = [{}, {}] ∧ b.cfg.requested = false ∧ b.cfg.captured = none

/-- From `b` to `c`, within a frame: the state in force stays; the stored state makes at most one transition of R98, and that only where it was in force; the floor
does not fall; and a retired device stays clean. -/
structure Onward (b c : Block) : Prop where
  acting : c.lc.acting = b.lc.acting
  floor : b.fw.floor ≤ c.fw.floor
  life : LifeKept b → LifeKept c ∧ (c.lc.life = b.lc.life ∨ (b.lc.life = b.lc.acting ∧ ∃ auth, lifeStep b.lc.life c.lc.life = some auth))
  clean : RetiredClean b → RetiredClean c

theorem lifeStep_ne {l m : Life} {auth : Bool} (h : lifeStep l m = some auth) : m ≠ l := by
  rintro rfl
  cases m <;> simp [lifeStep] at h

theorem LifeKept.congr (h : LifeKept b) (records : c.lc.records = b.lc.records) (life : c.lc.life = b.lc.life) : LifeKept c := by
  unfold LifeKept lifeStored lifePick at *
  rw [records, life]
  exact h

theorem Onward.rfl : Onward b b := ⟨Eq.refl _, Nat.le_refl _, fun h => ⟨h, .inl (Eq.refl _)⟩, id⟩

theorem Onward.trans (h : Onward b c) (k : Onward c d) : Onward b d where
  acting := k.acting.trans h.acting
  floor := h.floor.trans k.floor
  clean r := k.clean (h.clean r)
  life r := by
    obtain ⟨rc, first⟩ := h.life r
    obtain ⟨rd, second⟩ := k.life rc
    refine ⟨rd, ?_⟩
    rcases first with stay | ⟨inForce, auth, step⟩
    · rwa [stay, h.acting] at second
    · refine .inr ⟨inForce, auth, ?_⟩
      rcases second with stay | ⟨still, -⟩
      · rwa [stay]
      · exact absurd (still.trans (h.acting.trans inForce.symm)) (lifeStep_ne step)

/-- The stored state stays. -/
theorem Onward.of_stay (records : c.lc.records = b.lc.records) (life : c.lc.life = b.lc.life) (acting : c.lc.acting = b.lc.acting)
    (floor : b.fw.floor ≤ c.fw.floor) (erased : b.lc.life = .retired → Erased b → Erased c) : Onward b c where
  acting := acting
  floor := floor
  life h := ⟨h.congr records life, .inl life⟩
  clean h := ⟨h.1.congr records life, fun r => erased (life ▸ r) (h.2 (life ▸ r))⟩

theorem Erased.congr (h : Erased b) (lc : c.lc = b.lc) (cfg : c.cfg = b.cfg) : Erased c := by
  unfold Erased
  rwa [lc, cfg]

/-- The configuration store is left alone by what finds no commit requested or captured. -/
theorem Onward.of_cfg (lc : c.lc = b.lc) (floor : c.fw.floor = b.fw.floor)
    (cfg : b.lc.life = .retired → b.cfg.requested = false → b.cfg.captured = none → c.cfg = b.cfg) : Onward b c :=
  .of_stay (by rw [lc]) (by rw [lc]) (by rw [lc]) floor.ge fun r e => e.congr lc (cfg r e.2.2.2.1 e.2.2.2.2)

theorem Onward.of_keeps (lc : c.lc = b.lc) (cfg : c.cfg = b.cfg) (floor : c.fw.floor = b.fw.floor) : Onward b c :=
  .of_cfg lc floor fun _ _ _ => cfg

theorem Onward.ite {p : Prop} [Decidable p] {x y : Block} (hx : Onward b x) (hy : Onward b y) : Onward b (if p then x else y) := by
  split
  exacts [hx, hy]

theorem Onward.when {p : Bool} {f : Block → Block} (hf : ∀ c, Onward c (f c)) (b : Block) : Onward b (when p f b) := .ite (hf b) .rfl

theorem Onward.inFrame {f : Block → Block} (hf : ∀ c, Onward c (f c)) (b : Block) : Onward b (inFrame f b) := .ite (hf b) .rfl

theorem Onward.each {α : Type} {f : α → Block → Block} (hf : ∀ x c, Onward c (f x c)) (l : List α) (b : Block) : Onward b (each l f b) := by
  unfold Machine.each
  induction l generalizing b with
  | nil => exact .rfl
  | cons x l ih => exact (hf x b).trans (ih (f x b))

theorem onward_startCmd {q op : Nat} {d : Desc} {invalid forbidden : Bool} {go : Block → Block} (hgo : ∀ c, Onward c (go c)) (b : Block) :
    Onward b (startCmd q op d invalid forbidden go b) := by
  have started : Onward b (putSq q { sqOf b q with running := some ⟨op, d.tag.toNat, .done⟩ } (setR (R.HST_SQ_STATUS q) (getR b (R.HST_SQ_STATUS q) + 1) b)) :=
    .of_keeps (Eq.refl _) (Eq.refl _) (Eq.refl _)
  have ended : ∀ status c, Onward c (finish q status 0 0 0 c) := fun status c => .of_keeps (by simp) (by simp) (by simp)
  exact .ite .rfl (.ite (started.trans (ended _ _)) (.ite (started.trans (ended _ _)) (started.trans (hgo _))))

theorem onward_withData {q : Nat} {data : Option (List Word)} {go : List Word → Block → Block} (hgo : ∀ ws c, Onward c (go ws c)) (b : Block) :
    Onward b (withData q data go b) := by
  cases data with
  | none => exact .of_keeps (by simp [withData]) (by simp [withData]) (by simp [withData])
  | some ws => exact hgo ws b

theorem onward_tagged {a kind : Nat} {content : List Nat} {t : Tagged} {go : Block → Block} (hgo : ∀ c, Onward c (go c)) (b : Block) :
    Onward b (tagged a kind content t go b) :=
  .ite (Onward.trans (.of_keeps (by simp) (by simp) (by simp)) (hgo _)) (.of_keeps (by simp) (by simp) (by simp))

/-! The ledger's and the firmware update's turns at the store (R102). -/

theorem commitTurn_idle (h : b.cfg.captured = none) : commitTurn b = b := by simp [commitTurn, h]

theorem onward_commitTurn (b : Block) : Onward b (commitTurn b) :=
  .of_cfg (by simp) (by simp) fun _ _ none => by rw [commitTurn_idle none]

theorem onward_flushEnd (fail : Option Nat) (b : Block) : Onward b (flushEnd fail b) := by
  unfold flushEnd
  split
  · exact .rfl
  · refine Onward.trans ?_ (onward_commitTurn _)
    split
    all_goals exact .of_keeps (by simp) (by simp) (by simp)

@[simp] theorem forgetRings_floor (b : Block) : (forgetRings b).fw.floor = b.fw.floor := Eq.refl _

theorem onward_reachRun (b : Block) : Onward b (reachRun b) := by
  refine .of_stay (by simp) (by simp) (by simp) ?_ fun _ e => e.congr (by simp) (by simp)
  unfold reachRun
  split
  exacts [le_rfl, le_max_left _ _]

theorem onward_powerTick (b : Block) : Onward b (powerTick b) := by
  have reached : ∀ c : Block, c.lc = b.lc → c.cfg = b.cfg → c.fw.floor = b.fw.floor → Onward b (reachRun c) :=
    fun c lc cfg floor => Onward.trans (.of_keeps lc cfg floor) (onward_reachRun c)
  unfold powerTick
  split
  · exact .rfl
  · refine .ite (.of_keeps (by simp) (by simp) (by simp)) ?_
    split
    · exact reached _ (by simp) (by simp) (by simp)
    · exact reached _ (by simp) (by simp) (by simp)
    all_goals exact .of_keeps (by simp) (by simp) (by simp)

/-! The life cycle (R97 to R101). -/

theorem cfgEnd_cfg (result seq : Nat) (b : Block) : (cfgEnd result seq b).cfg = { copies := b.cfg.copies } := by simp [cfgEnd]

@[simp] theorem cfgEnd_floor (result seq : Nat) (b : Block) : (cfgEnd result seq b).fw.floor = b.fw.floor := by simp [cfgEnd]

theorem retire_lc (b : Block) : (retire b).lc = { b.lc with keySvc := none, keyCw := none } := by simp [retire]

theorem retire_cfg (b : Block) : (retire b).cfg = { copies := [{}, {}] } := by simp [retire]

theorem retire_floor (b : Block) : (retire b).fw.floor = b.fw.floor := by
  simp only [retire, cfgShow_keeps, when]
  split <;> simp

/-- What a transition leaves of the life cycle and the configuration store. -/
theorem lcMove_lc (t : Life) (b : Block) :
    (lcMove t b).lc = if t = .retired then { lifeWrite t b.lc with keySvc := none, keyCw := none } else lifeWrite t b.lc := by
  simp only [lcMove, lcResult_keeps, lcShow_keeps, when]
  split <;> split <;> simp_all [retire_lc, journal]

theorem lcMove_cfg (t : Life) (b : Block) : (lcMove t b).cfg = if t = .retired then { copies := [{}, {}] } else b.cfg := by
  simp only [lcMove, lcResult_keeps, lcShow_keeps, when]
  split <;> split <;> simp_all [retire_cfg, journal]

theorem lcMove_floor (t : Life) (b : Block) : (lcMove t b).fw.floor = b.fw.floor := by
  simp only [lcMove, lcResult_keeps, lcShow_keeps, when]
  split <;> simp [retire_floor, journal]

/-- A transition of R98 out of the state in force. -/
theorem onward_lcMove {t : Life} {auth : Bool} (inForce : b.lc.life = b.lc.acting) (step : lifeStep b.lc.life t = some auth) : Onward b (lcMove t b) := by
  have life : (lcMove t b).lc.life = t := by rw [lcMove_lc]; split <;> rfl
  have kept : LifeKept b → LifeKept (lcMove t b) := fun h => by
    have written : LifeKept { b with lc := lifeWrite t b.lc } := lifeKept_lifeWrite h (Eq.refl _)
    exact written.congr (by rw [lcMove_lc]; split <;> rfl) life
  refine ⟨by rw [lcMove_lc]; split <;> rfl, (lcMove_floor t b).ge, fun h => ⟨kept h, .inr ⟨inForce, auth, by rwa [life]⟩⟩, fun h => ⟨kept h.1, fun retired => ?_⟩⟩
  rw [life] at retired
  rw [lcMove_lc, lcMove_cfg, if_pos retired, if_pos retired]
  exact ⟨rfl, rfl, rfl, rfl, rfl⟩

theorem onward_lcResult (n : Nat) (b : Block) : Onward b (lcResult n b) := .of_keeps (by simp) (by simp) (by simp)

theorem onward_lcAuth {t : Life} {auth : Bool} (inForce : b.lc.life = b.lc.acting) (step : lifeStep b.lc.life t = some auth) : Onward b (lcAuth t b) := by
  have used : Onward b { b with lc := { b.lc with challenge := false } } := .of_stay rfl rfl rfl le_rfl fun _ e => e
  have cleared : Onward b (setF F.LC_STATE_AUTH_FAIL 0 { b with lc := { b.lc with challenge := false } }) := .of_stay rfl rfl rfl le_rfl fun _ e => e
  unfold lcAuth
  dsimp only
  split
  · exact cleared.trans (onward_lcMove inForce step)
  · exact .of_stay (by simp) (by simp) (by simp) (by simp) fun _ e => by simpa [Erased] using e

theorem onward_lcRequest (target : Nat) (b : Block) : Onward b (lcRequest target b) := by
  unfold lcRequest
  refine .ite .rfl (.ite (onward_lcResult 4 b) ?_)
  split
  · exact onward_lcResult 6 b
  · next inForce =>
    rw [ne_eq, not_not] at inForce
    split
    · exact onward_lcResult 2 b
    · split
      · exact onward_lcResult 2 b
      · next step => exact .ite (onward_lcResult 5 b) (.ite (onward_lcAuth inForce step) (onward_lcMove inForce step))

theorem lcChallenge_lc (b : Block) : (lcChallenge b).lc = { b.lc with challenge := true } := by simp [lcChallenge]

theorem onward_lcChallenge (b : Block) : Onward b (lcChallenge b) := by
  have lc := lcChallenge_lc b
  exact .of_stay (by rw [lc]) (by rw [lc]) (by rw [lc]) (by simp) fun _ e => by simpa [Erased, lc] using e

theorem onward_lcStore (svc : Bool) (b : Block) : Onward b (lcStore svc b) := by
  unfold lcStore
  dsimp only
  split
  · exact onward_lcResult 2 b
  · next allowed =>
    have alive : b.lc.life ≠ .retired := by simp_all
    refine .of_stay ?_ ?_ ?_ (by simp) fun r => absurd r alive
    all_goals cases svc <;> simp

theorem onward_writeLcCtl (v : Word) (b : Block) : Onward b (writeLcCtl v b) := by
  have drawn : Onward b (when (bitOf v.toNat 8) lcChallenge b) := .when onward_lcChallenge b
  exact .ite drawn (.ite (drawn.trans (onward_lcStore true _)) (.ite (drawn.trans (onward_lcStore false _)) (.ite drawn (drawn.trans (onward_lcRequest _ _)))))

/-! The configuration store (R105) and the firmware update (R405). -/

theorem cfgAsk_retired (q : Option Nat) (h : b.lc.life = .retired) : (cfgAsk q b).cfg = b.cfg := by
  simp only [cfgAsk, h]
  cases q <;> simp

theorem onward_cfgAsk (q : Option Nat) (b : Block) : Onward b (cfgAsk q b) :=
  .of_cfg (by simp) (by simp) fun r _ _ => cfgAsk_retired q r

theorem onward_cfgCapture (b : Block) : Onward b (cfgCapture b) :=
  .of_cfg (by simp) (by simp) fun _ idle _ => by simp [cfgCapture, idle]

theorem onward_cfgDone (ok : Bool) (b : Block) : Onward b (cfgDone ok b) := by
  refine .of_cfg (by simp) ?_ fun _ _ none => by simp [cfgDone, none]
  unfold cfgDone
  dsimp only
  split
  · rfl
  · split
    · rfl
    · split <;> simp

@[simp] theorem fwUpdate_floor (q : Nat) (d : Desc) (ws : List Word) (readback : Bool) (b : Block) : (fwUpdate q d ws readback b).fw.floor = b.fw.floor := by
  unfold fwUpdate
  split <;> simp

@[simp] theorem fwVerify_floor (j : FwJob) (b : Block) : (fwVerify j b).fw.floor = b.fw.floor := by
  unfold fwVerify
  dsimp only
  repeat' split
  all_goals simp

theorem onward_fwTick (b : Block) : Onward b (fwTick b) := by
  have written : ∀ x : FwStore, x.floor = b.fw.floor → Onward b { b with fw := x } := fun x floor => .of_keeps rfl rfl floor
  unfold fwTick
  split
  · exact .rfl
  · refine .ite .rfl (.ite (written _ rfl) (Onward.trans ?_ (onward_commitTurn _)))
    exact .of_keeps (by simp) (by simp) (by simp)

/-! Register writes, and the batches that make them (R404, R380, R423). -/

theorem onward_writeLow (a : Nat) (v : Word) (b : Block) : Onward b (writeLow a v b) := by
  have bits : ∀ c, Onward c (writeBits a v c) := fun c => .of_keeps (by simp) (by simp) (by simp)
  unfold writeLow
  split
  · refine .ite (.of_keeps (by simp) (by simp) (by simp)) (.ite (onward_writeLcCtl v b) (.ite ?_ (.ite ?_ (bits b))))
    all_goals exact .of_stay rfl rfl rfl le_rfl fun _ e => e
  · exact .ite (.when (onward_cfgAsk none) b) (bits b)
  all_goals exact .of_keeps (by simp) (by simp) (by simp)

theorem onward_writeReg (a : Nat) (v : Word) (b : Block) : Onward b (writeReg a v b) := by
  have written : Onward b (if a < 0x8000 then writeLow a v b else writeHigh a v b) :=
    .ite (onward_writeLow a v b) (.of_keeps (by simp) (by simp) (by simp))
  exact written.trans (.when (fun c => .of_keeps (by simp) (by simp) (by simp)) _)

theorem onward_cfgWrite (q n : Nat) (ws : List Word) (b : Block) : Onward b (cfgWrite q n ws b) := by
  have written := Onward.each (fun (e : Nat × Word) c => onward_writeReg e.1 e.2 c) (batchOf n ws) b
  exact .ite (.of_keeps (by simp) (by simp) (by simp)) (written.trans (.of_keeps (by simp) (by simp) (by simp)))

theorem onward_forwardOp (wr : Bool) (a : Nat) (v : Word) (b : Block) : Onward b (forwardOp wr a v b).2 := by
  unfold forwardOp
  split
  · exact onward_writeReg a v b
  · exact .of_keeps (by simp) (by simp) (by simp)

theorem onward_forwardAll (l : List (Bool × Nat × Word)) (b : Block) : Onward b (forwardAll l b).2 := by
  induction l generalizing b with
  | nil => exact .rfl
  | cons o l ih => exact (onward_forwardOp o.1 o.2.1 o.2.2 b).trans (ih _)

theorem onward_forwardServe (ops : List (Bool × Nat × Word)) (b : Block) : Onward b (forwardServe ops b) :=
  .ite (.of_keeps (by simp) (by simp) (by simp)) ((onward_forwardAll ops b).trans (.of_keeps (by simp) (by simp) (by simp)))

end
end Sys2Proof.Machine

namespace Sys2Proof.Machine

section
variable {b c d : Block}

theorem onward_spiApply (fixed : Bool) (a : Nat) (ws : List Word) (b : Block) : Onward b (spiApply fixed a ws b) :=
  .each (fun _ c => .ite (onward_writeReg _ _ c) .rfl) _ b

theorem onward_spiWrite (fixed : Bool) (h ch cycles : Nat) (ws : List Word) (cw : Nat) (b : Block) : Onward b (spiWrite fixed h ch cycles ws cw b) := by
  unfold spiWrite
  extract_lets n a words bad c rdy failed whole cwBad checked said
  have low : Onward b c := .of_keeps (by simp [c]) (by simp [c]) (by simp [c])
  refine .ite (low.trans (.of_keeps (by simp) (by simp) (by simp))) (.ite low ?_)
  have judged : Onward b checked := low.trans (.of_keeps (by simp [checked]) (by simp [checked]) (by simp [checked]))
  have answered : Onward b said := judged.trans (.of_keeps (by simp [said]) (by simp [said]) (by simp [said]))
  exact .ite (low.trans (.of_keeps (by simp [failed]) (by simp [failed]) (by simp [failed])))
    (.ite (judged.trans (.of_keeps (by simp) (by simp) (by simp))) (.ite judged (.ite answered (answered.trans (onward_spiApply _ _ _ _)))))

/-! Boot, wake and the entry to PARK. -/

theorem onward_reachWhich (b : Block) : Onward b (reachWhich b) := by
  unfold reachWhich
  refine .ite (.of_keeps (by simp) (by simp) (by simp)) (.ite (.of_keeps (by simp) (by simp) (by simp)) ?_)
  exact Onward.trans (.of_keeps (by simp) (by simp) (by simp)) (onward_reachRun _)

theorem onward_tickHost (b : Block) : Onward b (tickHost b) := by
  have waited : Onward b (pullTick (ptmTick (timeSyncTick (capTicks (each (List.range 4) fifoFlush (fetchTick (ringTick (resendVec0 b)))))))) :=
    .of_keeps (by simp) (by simp) (by simp)
  unfold tickHost
  exact ((waited.trans (onward_fwTick _)).trans (onward_cfgCapture _)).trans (.of_keeps (by simp) (by simp) (by simp))

theorem onward_reachTick (b : Block) : Onward b (reachTick b) := by
  have gated : Onward b (balGates (balGovern (balActs (hbtStart (when b.clock.stepOwed stepBoundary b))))) := .of_keeps (by simp) (by simp) (by simp)
  unfold reachTick
  exact (gated.trans (onward_tickHost _)).trans (.of_keeps (by simp) (by simp) (by simp))

theorem onward_reachState (b : Block) : Onward b (reachState b) := by
  have held : Onward b (detectHeld (injTick (tickCounters b))) := .of_keeps (by simp) (by simp) (by simp)
  have marked : Onward b (reachMarks (reachWhich (detectHeld (injTick (tickCounters b))))) :=
    (held.trans (onward_reachWhich _)).trans (.of_keeps (by simp) (by simp) (by simp))
  unfold reachState
  exact (marked.trans (onward_reachTick _)).trans (.of_keeps (by simp) (by simp) (by simp))

theorem onward_bootRun (x : BootInput) (b : Block) : Onward b (bootRun x b) :=
  Onward.trans (.of_keeps (by simp) (by simp) (by simp)) (onward_reachState _)

theorem onward_bootStart (x : BootInput) (b : Block) : Onward b (bootStart x b) := .of_keeps (by simp) (by simp) (by simp)

theorem onward_bootVerify (x : BootInput) (b : Block) : Onward b (bootVerify x b) := by
  refine .of_keeps (by simp) (by simp) ?_
  unfold bootVerify
  split
  · rfl
  · split <;> rfl

theorem onward_bootFinish (x : BootInput) (b : Block) : Onward b (bootFinish x b) :=
  .ite .rfl (.ite (.of_keeps (by simp) (by simp) (by simp)) (Onward.trans (.of_keeps (by simp) (by simp) (by simp)) (onward_bootRun x _)))

theorem onward_boot (x : BootInput) (b : Block) : Onward b (boot x b) := by
  refine .ite .rfl ?_
  split
  · exact onward_bootStart x b
  · exact .ite .rfl (onward_bootVerify x b)
  · exact .ite .rfl (.of_keeps rfl rfl rfl)
  · exact ((onward_bootStart x b).trans (onward_bootVerify x _)).trans (onward_bootFinish x _)

theorem onward_wake (src : Nat) (x : WakeInput) (b : Block) : Onward b (wake src x b) :=
  Onward.trans (.of_keeps (by simp) (by simp) (by simp)) (onward_reachState _)

theorem onward_wakeEvent (src : Nat) (x : WakeInput) (b : Block) : Onward b (wakeEvent src x b) :=
  .ite .rfl (.ite (onward_wake src x b) (.ite (.of_keeps rfl rfl rfl) .rfl))

/-- PERST_N rises at its land, which releases the endpoint (R83, R92). -/
def perstHigh (b : Block) : Block :=
  { b with pins := { b.pins with perstN := true }, hst := { b.hst with inReset := !pcieActive b, perstAt := devF b } }

/-- What a host does to wake the device, before the wake. -/
def hostCalls (perst : Bool) (b : Block) : Block := when perst perstHigh b

theorem exec_hostWake (perst : Bool) (w : WakeInput) (b : Block) (q : List Instr) : exec (.hostWake perst w) ⟨b, q⟩ = .next ⟨
    if !(if perst then !b.pins.perstN else spiActive b) || b.pwr.state != .park then b
    else when (perst && (hostCalls perst b).pwr.parked && !(wakeEvent 3 w (hostCalls perst b)).pwr.parked)
      (fun b => { b with hst := { b.hst with perstAt := devF b - w.frames } }) (wakeEvent 3 w (hostCalls perst b)), q⟩ := rfl

theorem onward_hostCalls (perst : Bool) (b : Block) : Onward b (hostCalls perst b) :=
  .ite (.of_keeps rfl rfl rfl) .rfl

theorem onward_hostWake {perst : Bool} {w : WakeInput} {q r : List Instr} (e : exec (.hostWake perst w) ⟨b, q⟩ = .next ⟨c, r⟩) : Onward b c := by
  rw [exec_hostWake] at e
  cases e
  refine .ite .rfl (((onward_hostCalls perst b).trans (onward_wakeEvent 3 w _)).trans ?_)
  exact .ite (.of_keeps rfl rfl rfl) .rfl

theorem onward_parkFlush (fail : Option Nat) (b : Block) : Onward b (parkFlush fail b) := by
  have given : Onward b (fwAbort b) := .of_keeps rfl rfl rfl
  have ended : Onward b (if (fwAbort b).led.flushing.isSome then flushEnd none (fwAbort b) else fwAbort b) := .ite (given.trans (onward_flushEnd _ _)) given
  unfold parkFlush
  exact (ended.trans (.of_keeps (by simp) (by simp) (by simp))).trans (onward_flushEnd fail _)

/-! What else of the frame leaves the nonvolatile side alone. -/

@[simp] theorem hstReset_store (b : Block) : (hstReset b).lc = b.lc ∧ (hstReset b).cfg = b.cfg ∧ (hstReset b).fw.floor = b.fw.floor := ⟨rfl, rfl, rfl⟩

@[simp] theorem functionReset_store (b : Block) :
    (functionReset b).lc = b.lc ∧ (functionReset b).cfg = b.cfg ∧ (functionReset b).fw.floor = b.fw.floor := by
  simp [functionReset]

@[simp] theorem takeConds_store (b : Block) : (takeConds b).2.lc = b.lc ∧ (takeConds b).2.cfg = b.cfg ∧ (takeConds b).2.fw = b.fw := by
  simp [takeConds]

@[simp] theorem srDrain_store (s n moved : Nat) (b : Block) :
    (srDrain s n moved b).2.lc = b.lc ∧ (srDrain s n moved b).2.cfg = b.cfg ∧ (srDrain s n moved b).2.fw = b.fw := by
  induction n generalizing moved b with
  | zero => exact ⟨rfl, rfl, rfl⟩
  | succ n ih =>
    unfold srDrain; split
    · exact ⟨rfl, rfl, rfl⟩
    · split
      · simp [ih]
      · exact ⟨rfl, rfl, rfl⟩

@[simp] theorem streamEmit_store (s : Nat) (carried new : List Rec) (moved : Nat) (b : Block) :
    (streamEmit s carried new moved b).2.lc = b.lc ∧ (streamEmit s carried new moved b).2.cfg = b.cfg ∧ (streamEmit s carried new moved b).2.fw = b.fw := by
  unfold streamEmit; split
  · exact ⟨rfl, rfl, rfl⟩
  · simp

@[simp] theorem streamsEmit_store (carried new : List Rec) (ss : List Nat) (moved : Nat) (b : Block) :
    (streamsEmit carried new ss moved b).lc = b.lc ∧ (streamsEmit carried new ss moved b).cfg = b.cfg ∧ (streamsEmit carried new ss moved b).fw = b.fw := by
  induction ss generalizing moved b with
  | nil => exact ⟨rfl, rfl, rfl⟩
  | cons s ss ih => simp [streamsEmit, ih]

@[simp] theorem markChain_store (rs : List Rec) (b : Block) :
    (markChain rs b).2.lc = b.lc ∧ (markChain rs b).2.cfg = b.cfg ∧ (markChain rs b).2.fw = b.fw := by
  induction rs generalizing b with
  | nil => exact ⟨rfl, rfl, rfl⟩
  | cons r rs ih =>
    unfold markChain; split
    · exact ⟨rfl, rfl, rfl⟩
    · split
      · exact ⟨rfl, rfl, rfl⟩
      · exact ih b

@[simp] theorem emitRecords_store (n : Nat) (w : EmitWork) (b : Block) :
    (emitRecords n w b).lc = b.lc ∧ (emitRecords n w b).cfg = b.cfg ∧ (emitRecords n w b).fw = b.fw := by
  simp [emitRecords]

@[simp] theorem evalPassed_store (b : Block) : (evalPassed b).lc = b.lc ∧ (evalPassed b).cfg = b.cfg ∧ (evalPassed b).fw = b.fw := by
  simp [evalPassed]

@[simp] theorem evaluateNext_store (b : Block) : (evaluateNext b).lc = b.lc ∧ (evaluateNext b).cfg = b.cfg ∧ (evaluateNext b).fw = b.fw := by
  unfold evaluateNext; split <;> simp [evaluate]

@[simp] theorem sluiceEval_store (b : Block) : (sluiceEval b).lc = b.lc ∧ (sluiceEval b).cfg = b.cfg ∧ (sluiceEval b).fw = b.fw := by
  simp [sluiceEval]

@[simp] theorem evalStage_store (b : Block) : (evalStage b).lc = b.lc ∧ (evalStage b).cfg = b.cfg ∧ (evalStage b).fw = b.fw := by
  simp [evalStage]

@[simp] theorem emitNext_store (n : Nat) (b : Block) : (emitNext n b).lc = b.lc ∧ (emitNext n b).cfg = b.cfg ∧ (emitNext n b).fw = b.fw := by
  unfold emitNext; split <;> simp

@[simp] theorem emitJump_store (b : Block) : (emitJump b).lc = b.lc ∧ (emitJump b).cfg = b.cfg ∧ (emitJump b).fw = b.fw := by
  simp [emitJump]

@[simp] theorem emitStage_store (n : Nat) (b : Block) : (emitStage n b).lc = b.lc ∧ (emitStage n b).cfg = b.cfg ∧ (emitStage n b).fw = b.fw := by
  simp [emitStage]

@[simp] theorem evalOvertaken_store (b : Block) : (evalOvertaken b).lc = b.lc ∧ (evalOvertaken b).cfg = b.cfg ∧ (evalOvertaken b).fw = b.fw := by
  simp [evalOvertaken]

@[simp] theorem tickBefore_store (b : Block) : (tickBefore b).lc = b.lc ∧ (tickBefore b).cfg = b.cfg ∧ (tickBefore b).fw = b.fw := by
  simp [tickBefore]

@[simp] theorem parkFrame_store (b : Block) : (parkFrame b).lc = b.lc ∧ (parkFrame b).cfg = b.cfg ∧ (parkFrame b).fw = b.fw := by
  simp [parkFrame]

@[simp] theorem parkCommands_floor (b : Block) : (parkCommands b).fw.floor = b.fw.floor := by
  simp [parkCommands, forgetRings]

theorem onward_parkDown (b : Block) : Onward b (parkDown b) := by
  have ended : Onward b (parkCommands (parkStrings (balPark b))) := .of_keeps (by simp) (by simp) (by simp)
  have links := ended.trans (.when (p := !bitOf (parkCommands (parkStrings (balPark b))).pwr.retain 0) (f := hstReset) (fun c => .of_keeps (by simp) (by simp) (by simp)) _)
  exact links.trans (.of_keeps (by simp [parkDown]) (by simp [parkDown]) (by simp [parkDown]))

theorem onward_parkEntry (fail : Option Nat) (x : WakeInput) (b : Block) : Onward b (parkEntry fail x b) := by
  have flushed := onward_parkFlush fail b
  have stopped : Onward b (parkDown (parkFrame (parkFlush fail b))) := (flushed.trans (.of_keeps (by simp) (by simp) (by simp))).trans (onward_parkDown _)
  refine .ite .rfl ?_
  dsimp only
  split
  · exact stopped
  · exact stopped.trans (onward_wake _ x _)

/-! The frame tick puts the stored state in force. -/

/-- The frame tick up to the life cycle's share of it. -/
def beforeLife (root : Option Nat) (ptm : Nat) (b : Block) : Block :=
  outputTick (jobsTick (coefTick (tickCounters (tickNumber root (passEnd (tickClock ptm (tickBefore b)))))))

/-- The frame tick from there on. -/
def afterLife (b : Block) : Block :=
  cwTick (tickWatchdog (tickHost (tickFront (tickModel (levelsTick (chkCycle (resetTick (notchPlace (commitApply (powerTick (sluiceTick b)))))))))))

theorem tickAs_eq (root : Option Nat) (ptm : Nat) (b : Block) : tickAs root ptm b = afterLife (lcTick (beforeLife root ptm b)) := rfl

theorem onward_beforeLife (root : Option Nat) (ptm : Nat) (b : Block) : Onward b (beforeLife root ptm b) :=
  .of_keeps (by simp [beforeLife]) (by simp [beforeLife]) (by simp [beforeLife])

theorem onward_afterLife (b : Block) : Onward b (afterLife b) := by
  have sources : Onward b (sluiceTick b) := .of_keeps (by simp) (by simp) (by simp)
  have fronted : Onward b (tickFront (tickModel (levelsTick (chkCycle (resetTick (notchPlace (commitApply (powerTick (sluiceTick b))))))))) :=
    (sources.trans (onward_powerTick _)).trans (.of_keeps (by simp) (by simp) (by simp))
  exact (fronted.trans (onward_tickHost _)).trans (.of_keeps (by simp [afterLife]) (by simp [afterLife]) (by simp [afterLife]))

/-- A module reset keeps the nonvolatile store, and reads the stored state from its records (R97, R102). -/
theorem moduleReset_lc (cause : Nat) (b : Block) : (moduleReset cause b).lc =
    { records := b.lc.records, life := lifeStored b.lc, acting := lifeStored b.lc, keySvc := b.lc.keySvc, keyCw := b.lc.keyCw } := by
  simp [moduleReset]

theorem moduleReset_cfg (cause : Nat) (b : Block) : (moduleReset cause b).cfg = { copies := b.cfg.copies } := by
  simp [moduleReset]

theorem moduleReset_fw (cause : Nat) (b : Block) :
    (moduleReset cause b).fw = { copies := b.fw.copies, running := b.fw.running, floor := b.fw.floor, words := b.fw.words } := by
  simp [moduleReset]

/-! What every command does to the nonvolatile side. -/

/-- From `b` to `c`, over any command: the floor does not fall, the stored state moves along R98, and a retired device stays clean. -/
structure StoreKept (b c : Block) : Prop where
  floor : b.fw.floor ≤ c.fw.floor
  life : LifeKept b → LifeMoves b c ∧ LifeKept c
  clean : RetiredClean b → RetiredClean c

theorem Onward.storeKept (h : Onward b c) : StoreKept b c where
  floor := h.floor
  clean := h.clean
  life r := ⟨(h.life r).2.imp_right fun ⟨_, step⟩ => step, (h.life r).1⟩

theorem StoreKept.ite {p : Prop} [Decidable p] {x y : Block} (hx : StoreKept b x) (hy : StoreKept b y) : StoreKept b (if p then x else y) := by
  split
  exacts [hx, hy]

theorem lcTick_lc (b : Block) : (lcTick b).lc = { b.lc with acting := b.lc.life } := rfl

/-- The stored state comes into force, and nothing else of the nonvolatile side changes. -/
theorem storeKept_tickAs (root : Option Nat) (ptm : Nat) (b : Block) : StoreKept b (tickAs root ptm b) := by
  have before : (beforeLife root ptm b).lc = b.lc ∧ (beforeLife root ptm b).cfg = b.cfg := ⟨by simp [beforeLife], by simp [beforeLife]⟩
  have lc : (lcTick (beforeLife root ptm b)).lc = { b.lc with acting := b.lc.life } := by rw [lcTick_lc, before.1]
  have kept : LifeKept b → LifeKept (lcTick (beforeLife root ptm b)) := fun h => h.congr (by rw [lc]) (by rw [lc])
  have after := (onward_afterLife (lcTick (beforeLife root ptm b))).storeKept
  rw [tickAs_eq]
  refine ⟨(onward_beforeLife root ptm b).floor.trans after.floor, fun h => ⟨?_, (after.life (kept h)).2⟩, fun h => after.clean ⟨kept h.1, fun retired => ?_⟩⟩
  · simpa only [LifeMoves, lc] using (after.life (kept h)).1
  · rw [lc] at retired
    simpa [lc, before.2] using h.2 retired

theorem storeKept_frameJump (root ptm : Nat) (b : Block) : StoreKept b (frameJump root ptm b) := .ite (storeKept_tickAs _ _ b) Onward.rfl.storeKept

theorem storeKept_moduleReset (cause : Nat) (b : Block) : StoreKept b (moduleReset cause b) := by
  have kept : LifeKept b → LifeKept (moduleReset cause b) := fun h => h.congr (by rw [moduleReset_lc]) (by rw [moduleReset_lc]; exact h.1)
  refine ⟨by rw [moduleReset_fw], fun h => ⟨.inl (by rw [moduleReset_lc]; exact h.1), kept h⟩, fun h => ⟨kept h.1, fun retired => ?_⟩⟩
  rw [moduleReset_lc] at retired
  have erased := h.2 (h.1.1.symm.trans retired)
  rw [moduleReset_lc, moduleReset_cfg]
  exact ⟨erased.1, erased.2.1, erased.2.2.1, rfl, rfl⟩

theorem storeKept_resetFor (cause : Nat) (b : Block) : StoreKept b (resetFor cause b) := .ite Onward.rfl.storeKept (storeKept_moduleReset cause b)

theorem storeKept_powerOn (b : Block) : StoreKept b (powerOn b) :=
  have reset := storeKept_moduleReset 8 b
  ⟨reset.floor, reset.life, reset.clean⟩

/-- Whether a command can bring another life-cycle state into force: a module reset or a frame tick. -/
def bringsForce : Instr → Bool
  | .powerOnReset | .externalReset | .chipReset | .watchdogExpiry | .frameTick _ | .frameNumberJump _ => true
  | _ => false

theorem exec_onward {i : Instr} {q r : List Instr} (hi : bringsForce i = false) (e : exec i ⟨b, q⟩ = .next ⟨c, r⟩) : Onward b c := by
  cases i
  case powerOnReset | externalReset | chipReset | watchdogExpiry | frameTick | frameNumberJump => cases hi
  case hostWake => exact onward_hostWake e
  all_goals cases e
  case boot x => exact onward_boot x b
  case parkEntry => exact onward_parkEntry _ _ b
  case wakeInWake | wakeTimerExpiry | causewayWakeTone => exact onward_wakeEvent _ _ b
  case lcTransition | lcNewChallenge | lcStoreServiceKey | lcStoreCausewayKey => exact .ite (onward_writeLcCtl _ b) .rfl
  case cfgCommit => exact .ite (onward_cfgAsk none b) .rfl
  case nvCommit => exact onward_startCmd (onward_cfgAsk _) b
  case configCommitCapture => exact onward_cfgCapture b
  case configCommitDone => exact onward_cfgDone _ b
  case fwUpdate => exact onward_startCmd (onward_withData fun ws c => .of_keeps (by simp) (by simp) (by simp)) b
  case ledgerFlushDone => exact .ite .rfl (onward_flushEnd _ b)
  case cfgWrite => exact onward_startCmd (onward_withData fun ws c => onward_cfgWrite _ _ ws c) b
  case registerWrite =>
    have written := fun a v x => Onward.trans (.when (p := x) (f := traffic) (fun c => .of_keeps (by simp) (by simp) (by simp)) b) (onward_writeReg a v _)
    exact .ite (.of_keeps (by simp) (by simp) (by simp)) (.ite (.of_keeps (by simp) (by simp) (by simp)) (.ite (written _ _ _) .rfl))
  case spiWrite | spiWriteFixed => exact onward_spiWrite _ _ _ _ _ _ b
  case forwardRequest => exact .ite (.of_keeps (by simp) (by simp) (by simp)) (.ite (onward_tagged (onward_forwardServe _) b) .rfl)
  case perstNReset => exact .of_keeps rfl rfl rfl
  case functionLevelReset => exact .ite (.of_keeps (by simp) (by simp) (by simp)) .rfl
  case cwEnumToken => exact .inFrame (onward_tagged fun c => .of_keeps (by simp) (by simp) (by simp)) b
  case forwardResponse =>
    exact .inFrame (fun c => .ite (.of_keeps (by simp) (by simp) (by simp)) (onward_tagged (fun c => .of_keeps (by simp) (by simp) (by simp)) c)) b
  case jtagAccess o => cases o <;> exact .of_keeps (by simp) (by simp) (by simp)
  all_goals exact .of_keeps (by simp) (by simp) (by simp)

theorem exec_storeKept {i : Instr} {q r : List Instr} (e : exec i ⟨b, q⟩ = .next ⟨c, r⟩) : StoreKept b c := by
  by_cases hi : bringsForce i = false
  · exact (exec_onward hi e).storeKept
  · cases i
    case powerOnReset => cases e; exact storeKept_powerOn b
    case externalReset => cases e; exact storeKept_resetFor 9 b
    case chipReset => cases e; exact .ite (storeKept_resetFor 10 b) Onward.rfl.storeKept
    case watchdogExpiry => cases e; exact .ite (storeKept_resetFor 11 b) Onward.rfl.storeKept
    case frameTick => cases e; exact .ite (storeKept_tickAs none _ b) Onward.rfl.storeKept
    case frameNumberJump => cases e; exact .ite (storeKept_frameJump _ _ b) Onward.rfl.storeKept
    all_goals exact absurd rfl hi

theorem step_storeKept {s t : State} (e : step s = .next t) : StoreKept s.block t.block := by
  unfold step at e
  split at e
  · cases e
    exact Onward.rfl.storeKept
  · exact exec_storeKept e

end
end Sys2Proof.Machine

namespace Sys2Proof
open Machine

/-- Settles O3: within a command the stored state makes a transition only from the state in force, which the transition does not change, so none follows it; and the record
that a transition writes counts from then on. -/
theorem lifeMovesOnly : Obligations.LifeMovesOnly :=
  fun _ _ kept e => (step_storeKept e).life kept

/-- Settles O5: the entry to RETIRED erases, and what could bring a key or a copy back (a key store, a commit asked for, captured or ended) finds the state RETIRED or no
commit on its way. -/
theorem retiredStaysClean : Obligations.RetiredStaysClean :=
  fun _ _ clean e => (step_storeKept e).clean clean

/-- Settles O8: only the firmware's arrival in RUN writes the floor, and it takes the larger value. -/
theorem floorNeverFalls : Obligations.FloorNeverFalls :=
  fun _ _ e => (step_storeKept e).floor

/-- Settles O4: no other command touches the state in force, and a frame tick puts the stored state in force before any of its later shares. -/
theorem capabilitiesAtTick : Obligations.CapabilitiesAtTick := by
  refine ⟨fun i b c q hft hfj hpor hext hchip hwd e => (exec_onward ?_ e).acting, fun n b q run => ⟨tickAs none n.toNat b, ?_, ?_⟩⟩
  · cases i
    case frameTick n => exact absurd rfl (hft n)
    case frameNumberJump r => exact absurd rfl (hfj r)
    case powerOnReset => exact absurd rfl hpor
    case externalReset => exact absurd rfl hext
    case chipReset => exact absurd rfl hchip
    case watchdogExpiry => exact absurd rfl hwd
    all_goals rfl
  · rw [exec_frameTick, inFrame_of_framesRun run]
    rfl
  · rw [tickAs_eq, (onward_afterLife _).acting, lcTick_lc, show (beforeLife none n.toNat b).lc = b.lc by simp [beforeLife]]

end Sys2Proof

namespace Sys2Proof.Machine

section
variable {b c : Block}

/-! Requests for a power state (R87 to R89). -/

theorem uncleared_congr (regs : ∀ a, 0x4100 ≤ a → getR c a = getR b a) (refused : c.sl.refused = b.sl.refused) : uncleared c = uncleared b := by
  have stuck : sticky c = sticky b := by
    funext i
    unfold sticky arrBit
    rw [regs _ (by unfold R.SL_STICKY; omega)]
  have words : ∀ w, getR c (R.SL_STICKY w) = getR b (R.SL_STICKY w) := fun w => regs _ (by unfold R.SL_STICKY; omega)
  simp only [uncleared, stuck, words, refused]

theorem safeHeld_congr (regs : ∀ a, 0x4100 ≤ a → getR c a = getR b a) (sl : c.sl = b.sl) (pins : c.pins = b.pins) : safeHeld c = safeHeld b := by
  unfold safeHeld slMask slCfg
  rw [uncleared_congr regs (by rw [sl]), pins, sl]

/-- PWR_CTL's row of the register map. -/
theorem regRow_PWR_CTL : regRow R.PWR_CTL = some ⟨0x804, 1, 4, 1, 4, 0, 0, 0xF800, 0, 0x80, 7, 0⟩ := by decide

/-- The word that a request writes: `n` in REQ, the rest as given. -/
def reqWord (n : Nat) (v : Word) : Word := w32 (setBitsOf v.toNat 0 3 n)

theorem bitsOf_reqWord (n : Nat) (v : Word) {lo len : Nat} (above : 3 ≤ lo) : bitsOf (reqWord n v).toNat lo len = bitsOf v.toNat lo len :=
  bitsOf_w32_setBitsOf _ _ _ _ _ _ v.isLt (by decide) (.inr above)

theorem reqWord_mod {n : Nat} (v : Word) (h : n < 8) : (reqWord n v).toNat % 8 = n := by
  have low : bitsOf (reqWord n v).toNat 0 3 = n := by
    rw [reqWord, w32_toNat, Nat.mod_eq_of_lt (setBitsOf_lt _ _ _ _ _ v.isLt (by decide)), bitsOf_setBitsOf]
    exact Nat.mod_eq_of_lt h
  simpa [bitsOf] using low

/-- What a request for a power state leaves: its word in PWR_CTL, REFUSED set where it is refused, and the request that waits from then on. -/
def requested (n : Nat) (v : Word) (refused : Bool) (r : Option PowerState) (b : Block) : Block :=
  when refused (setF F.PWR_CTL_REFUSED 1) { writeBits R.PWR_CTL (reqWord n v) b with pwr := { b.pwr with request := r } }

theorem pwr_requested (n : Nat) (v : Word) (refused : Bool) (r : Option PowerState) (b : Block) :
    (requested n v refused r b).pwr = { b.pwr with request := r } := by
  cases refused <;> rfl

theorem refused_requested (n : Nat) (v : Word) (r : Option PowerState) (b : Block) : getF (requested n v true r b) F.PWR_CTL_REFUSED = 1 :=
  getF_setF F.PWR_CTL_REFUSED 1 _ (by decide)

theorem refused_requested_not (n : Nat) (v : Word) (r : Option PowerState) (b : Block) :
    getF (requested n v false r b) F.PWR_CTL_REFUSED = if bitsOf v.toNat 7 1 = 1 then 0 else getF b F.PWR_CTL_REFUSED := by
  rw [← bitsOf_reqWord n v (by decide)]
  exact getF_writeBits_w1c F.PWR_CTL_REFUSED (reqWord n v) b _ rfl regRow_PWR_CTL (by decide) rfl (by decide) (by decide)

theorem pwrCtlWritten_requested (n : Nat) (v : Word) (refused : Bool) (r : Option PowerState) (b : Block) : PwrCtlWritten v b (requested n v refused r b) := by
  have stored : ∀ f : Fld, f.reg = R.PWR_CTL → f.lo + f.len ≤ F.PWR_CTL_REFUSED.lo ∨ 8 ≤ f.lo →
      getF (requested n v refused r b) f = getF (writeBits R.PWR_CTL (reqWord n v) b) f := fun f reg beside => by
    cases refused
    · rfl
    · exact getF_setF_beside F.PWR_CTL_REFUSED f 1 _ (by decide) reg beside
  refine ⟨?_, ?_, ?_, fun a other => ?_⟩
  · rw [pwr_requested]
    have bits := onlyRegs_writeBits R.PWR_CTL (reqWord n v) b
    cases refused
    · exact congrArg (fun x : Block => { x with pwr := { b.pwr with request := r } }) bits
    · exact congrArg (fun x : Block => { x with regs := (requested n v true r b).regs, pwr := { b.pwr with request := r } }) bits
  · rw [stored F.PWR_CTL_RETAIN rfl (.inr (by decide)), getF_writeBits_rw (a := R.PWR_CTL) F.PWR_CTL_RETAIN _ b _ rfl regRow_PWR_CTL (by decide) (by decide) (by decide)]
    exact bitsOf_reqWord n v (by decide)
  · rw [stored F.PWR_CTL_BAL_CONT rfl (.inr (by decide)), getF_writeBits_rw (a := R.PWR_CTL) F.PWR_CTL_BAL_CONT _ b _ rfl regRow_PWR_CTL (by decide) (by decide) (by decide)]
    exact bitsOf_reqWord n v (by decide)
  · have away : a ≠ R.PWR_CTL := fun e => other (by simp [e])
    cases refused
    · exact getR_writeBits_ne _ _ away
    · exact (getR_setF_ne F.PWR_CTL_REFUSED 1 _ away).trans (getR_writeBits_ne _ _ away)

/-- A refusal is judged on registers and states that the write of PWR_CTL leaves alone. -/
theorem powerRefused_requested (n : Nat) (v : Word) (r : Option PowerState) (p : PowerState) (b : Block) :
    powerRefused p (requested n v false r b) = powerRefused p b := by
  have regs : ∀ a, a ≠ R.PWR_CTL → getR (requested n v false r b) a = getR b a := fun a away => getR_writeBits_ne _ _ away
  have held : safeHeld (requested n v false r b) = safeHeld b :=
    safeHeld_congr (fun a big => regs a (by unfold R.PWR_CTL; omega)) (by simp [requested, when]) (by simp [requested, when])
  have field : ∀ f : Fld, f.reg = R.PWR_WAKE_CTL → getF (requested n v false r b) f = getF b f := fun f e => getF_of_getR (regs _ (by rw [e]; decide))
  have sources : wakeEffective (requested n v false r b) = wakeEffective b := by
    simp only [wakeEffective, isF, regs R.PWR_WAKE_TIMER (by decide), field F.PWR_WAKE_CTL_EN_WAKE_IN rfl, field F.PWR_WAKE_CTL_EN_CW rfl,
      field F.PWR_WAKE_CTL_EN_HOST rfl, field F.PWR_WAKE_CTL_EN_TIMER rfl]
  unfold powerRefused
  rw [held, sources, pwr_requested]

/-- A request (R88): none waits where the state is the present one or PARK is being entered, or where it is refused; else it waits. -/
theorem powerAsk_requested (n : Nat) (v : Word) (p : PowerState) (b : Block) : powerAsk p (writeBits R.PWR_CTL (reqWord n v) b) =
    if p = b.pwr.state ∨ b.pwr.parking = true then requested n v false none b
    else if powerRefused p b = true then requested n v true none b else requested n v false (some p) b := by
  have written : powerAsk p (writeBits R.PWR_CTL (reqWord n v) b) =
      if (decide (p = (requested n v false none b).pwr.state) || (requested n v false none b).pwr.parking) = true then requested n v false none b
      else if powerRefused p (requested n v false none b) = true then requested n v true none b else requested n v false (some p) b := rfl
  rw [written, powerRefused_requested, pwr_requested]
  simp only [Bool.or_eq_true, decide_eq_true_eq]

end

section
variable {b : Block} (v : Word) (q : List Instr)

theorem exec_pwrRequestRun (on : ready b = true) : exec (.pwrRequestRun v) ⟨b, q⟩ = .next ⟨powerAsk .run (writeBits R.PWR_CTL (reqWord 1 v) b), q⟩ := by
  have ask : writePwrCtl (reqWord 1 v) b = powerAsk .run (writeBits R.PWR_CTL (reqWord 1 v) b) := by
    unfold writePwrCtl
    rw [reqWord_mod v (by decide)]
    rfl
  rw [← ask]
  simp only [exec, execPwrRequestRun, run_eq, on, if_true]
  rfl

theorem exec_pwrRequestStandby (on : ready b = true) :
    exec (.pwrRequestStandby v) ⟨b, q⟩ = .next ⟨powerAsk .standby (writeBits R.PWR_CTL (reqWord 2 v) b), q⟩ := by
  have ask : writePwrCtl (reqWord 2 v) b = powerAsk .standby (writeBits R.PWR_CTL (reqWord 2 v) b) := by
    unfold writePwrCtl
    rw [reqWord_mod v (by decide)]
    rfl
  rw [← ask]
  simp only [exec, execPwrRequestStandby, run_eq, on, if_true]
  rfl

theorem exec_pwrRequestPark (on : ready b = true) : exec (.pwrRequestPark v) ⟨b, q⟩ = .next ⟨powerAsk .park (writeBits R.PWR_CTL (reqWord 3 v) b), q⟩ := by
  have ask : writePwrCtl (reqWord 3 v) b = powerAsk .park (writeBits R.PWR_CTL (reqWord 3 v) b) := by
    unfold writePwrCtl
    rw [reqWord_mod v (by decide)]
    rfl
  rw [← ask]
  simp only [exec, execPwrRequestPark, run_eq, on, if_true]
  rfl

theorem ready_of_serving (h : b.pwr.state = .run ∨ b.pwr.state = .standby ∨ b.pwr.state = .safe) : ready b = true := by
  unfold ready
  rcases h with h | h | h <;> rw [h]

end

theorem wakeEffective_iff (b : Block) : wakeEffective b = true ↔
    getF b F.PWR_WAKE_CTL_EN_WAKE_IN = 1 ∨ getF b F.PWR_WAKE_CTL_EN_CW = 1 ∨ getF b F.PWR_WAKE_CTL_EN_HOST = 1 ∨
      (getF b F.PWR_WAKE_CTL_EN_TIMER = 1 ∧ getR b R.PWR_WAKE_TIMER ≠ 0) := by
  have bit : ∀ f : Fld, f.len = 1 → (isF b f = true ↔ getF b f = 1) := fun f len =>
    ⟨getF_eq_one len, fun h => (isF_iff b f).mpr (by omega)⟩
  simp only [wakeEffective, Bool.or_eq_true, Bool.and_eq_true, bne_iff_ne, bit F.PWR_WAKE_CTL_EN_WAKE_IN rfl, bit F.PWR_WAKE_CTL_EN_CW rfl,
    bit F.PWR_WAKE_CTL_EN_HOST rfl, bit F.PWR_WAKE_CTL_EN_TIMER rfl, or_assoc]

end Sys2Proof.Machine

namespace Sys2Proof
open Machine

/-- Settles O14: a PARK request is refused exactly where no wake source is effective. -/
theorem parkRequestRefusal : Obligations.ParkRequestRefusal := by
  intro v b q serving outside
  have other : ¬ (PowerState.park = b.pwr.state ∨ b.pwr.parking = true) := by
    rcases serving with h | h | h <;> simp [h, outside]
  have refusal : powerRefused .park b = !wakeEffective b := by simp [powerRefused]
  refine ⟨_, exec_pwrRequestPark v q (ready_of_serving serving), ?_⟩
  rw [powerAsk_requested, if_neg other, refusal]
  cases source : wakeEffective b
  · rw [Bool.not_false, if_pos rfl]
    refine ⟨pwrCtlWritten_requested _ _ _ _ _, fun some => ?_, fun _ => ⟨pwr_requested _ _ _ _ _, refused_requested _ _ _ _⟩⟩
    rw [(wakeEffective_iff b).mpr some] at source
    cases source
  · rw [Bool.not_true, if_neg (by decide)]
    refine ⟨pwrCtlWritten_requested _ _ _ _ _, fun _ => ⟨pwr_requested _ _ _ _ _, refused_requested_not _ _ _ _⟩, fun none => ?_⟩
    obtain ⟨wakeIn, cw, host, timer⟩ := none
    exfalso
    rcases (wakeEffective_iff b).mp source with on | on | on | ⟨on, late⟩
    · omega
    · omega
    · omega
    · rcases timer with off | never
      · omega
      · exact late never

/-- Settles O15: `powerAsk` in each of the three states that serve requests. -/
theorem runStandbyRequests : Obligations.RunStandbyRequests := by
  intro v b q outside
  have run : ready b = true → ∃ c, exec (.pwrRequestRun v) ⟨b, q⟩ = .next ⟨c, q⟩ ∧ c = if PowerState.run = b.pwr.state then requested 1 v false none b
      else if powerRefused .run b = true then requested 1 v true none b else requested 1 v false (some .run) b := fun on => by
    refine ⟨_, exec_pwrRequestRun v q on, ?_⟩
    rw [powerAsk_requested]
    simp only [outside, or_false, Bool.false_eq_true]
  have standby : ready b = true → ∃ c, exec (.pwrRequestStandby v) ⟨b, q⟩ = .next ⟨c, q⟩ ∧ c = if PowerState.standby = b.pwr.state then requested 2 v false none b
      else if powerRefused .standby b = true then requested 2 v true none b else requested 2 v false (some .standby) b := fun on => by
    refine ⟨_, exec_pwrRequestStandby v q on, ?_⟩
    rw [powerAsk_requested]
    simp only [outside, or_false, Bool.false_eq_true]
  refine ⟨fun state => ?_, fun state held => ?_, fun state => ⟨?_, ?_⟩, fun state => ?_, fun state => ?_⟩
  · have accepted : powerRefused .run b = false ∧ PowerState.run ≠ b.pwr.state := by
      rcases state with h | ⟨h, free⟩
      · simp [powerRefused, h]
      · simp [powerRefused, h, free]
    obtain ⟨c, answer, rfl⟩ := run (ready_of_serving (by tauto))
    rw [if_neg accepted.2, accepted.1, if_neg (by decide)] at answer
    exact ⟨_, answer, pwrCtlWritten_requested _ _ _ _ _, pwr_requested _ _ _ _ _⟩
  · obtain ⟨c, answer, rfl⟩ := run (ready_of_serving (by tauto))
    rw [if_neg (by simp [state]), if_pos (by simp [powerRefused, state, held])] at answer
    exact ⟨_, answer, pwrCtlWritten_requested _ _ _ _ _, pwr_requested _ _ _ _ _, refused_requested _ _ _ _⟩
  · obtain ⟨c, answer, rfl⟩ := standby (ready_of_serving (by tauto))
    rw [if_neg (by simp [state]), if_neg (by simp [powerRefused, state])] at answer
    exact ⟨_, answer, pwrCtlWritten_requested _ _ _ _ _, pwr_requested _ _ _ _ _⟩
  · obtain ⟨c, answer, rfl⟩ := run (ready_of_serving (by tauto))
    rw [if_pos state.symm] at answer
    exact ⟨_, answer, pwrCtlWritten_requested _ _ _ _ _, pwr_requested _ _ _ _ _⟩
  · obtain ⟨c, answer, rfl⟩ := standby (ready_of_serving (by tauto))
    rw [if_pos state.symm] at answer
    exact ⟨_, answer, pwrCtlWritten_requested _ _ _ _ _, pwr_requested _ _ _ _ _⟩
  · obtain ⟨c, answer, rfl⟩ := standby (ready_of_serving (by tauto))
    rw [if_neg (by simp [state]), if_pos (by simp [powerRefused, state])] at answer
    exact ⟨_, answer, pwrCtlWritten_requested _ _ _ _ _, pwr_requested _ _ _ _ _, refused_requested _ _ _ _⟩

end Sys2Proof

namespace Sys2Proof.Machine

section
variable {b c : Block}

theorem finishAll_regs (p : CmdWait → Bool) (f : Nat → Block → Block) (b : Block) (h : ∀ q c, (f q c).regs = c.regs) : (finishAll p f b).regs = b.regs := by
  refine each_proj (·.regs) _ _ _ fun q c => ?_
  split
  · split
    · exact h q c
    · rfl
  · rfl

theorem finishAll_led (p : CmdWait → Bool) (f : Nat → Block → Block) (b : Block) (h : ∀ q c, (f q c).led = c.led) : (finishAll p f b).led = b.led := by
  refine each_proj (·.led) _ _ _ fun q c => ?_
  split
  · split
    · exact h q c
    · rfl
  · rfl

theorem getF_putF (f : Fld) (v : Bool) (b : Block) (fits : f.lo + f.len ≤ 32) (wide : 0 < f.len) : getF (putF f v b) f = nat01 v := by
  rw [putF, getF_setF f _ b fits]
  refine Nat.mod_eq_of_lt ?_
  have two : 2 ^ 1 ≤ 2 ^ f.len := Nat.pow_le_pow_right (by decide) wide
  have small : nat01 v ≤ 1 := by cases v <;> decide
  omega

theorem getF_putF_at (f g : Fld) (v : Bool) (b : Block) (h : f.lo + f.len ≤ 32 := by decide) (e : g.reg = f.reg := by rfl)
    (d : g.lo + g.len ≤ f.lo ∨ f.lo + f.len ≤ g.lo := by decide) : getF (putF f v b) g = getF b g := getF_setF_at f g _ b h e d

theorem getR_putF_ne {a : Nat} (f : Fld) (v : Bool) (b : Block) (h : a ≠ f.reg) : getR (putF f v b) a = getR b a := getR_setF_ne f _ b h

/-! What LC_STATE shows. -/

theorem lifeCode_lt (l : Life) : lifeCode l < 16 := by cases l <;> decide

theorem getR_lcShow_ne {a : Nat} (b : Block) (h : a ≠ R.LC_STATE) : getR (lcShow b) a = getR b a := by
  rw [lcShow, getR_setF_ne _ _ _ h, getR_putF_ne _ _ _ h, getR_putF_ne _ _ _ h]

theorem getF_lcShow_STATE (b : Block) : getF (lcShow b) F.LC_STATE_STATE = lifeCode b.lc.life := by
  rw [lcShow, getF_setF _ _ _ (by decide)]
  exact Nat.mod_eq_of_lt (lifeCode_lt _)

theorem getF_lcShow_KEY_SVC (b : Block) : getF (lcShow b) F.LC_STATE_KEY_SVC = nat01 b.lc.keySvc.isSome := by
  rw [lcShow, getF_setF_at F.LC_STATE_STATE F.LC_STATE_KEY_SVC, getF_putF _ _ _ (by decide) (by decide)]

theorem getF_lcShow_KEY_CW (b : Block) : getF (lcShow b) F.LC_STATE_KEY_CW = nat01 b.lc.keyCw.isSome := by
  rw [lcShow, getF_setF_at F.LC_STATE_STATE F.LC_STATE_KEY_CW, getF_putF_at F.LC_STATE_KEY_SVC F.LC_STATE_KEY_CW, getF_putF _ _ _ (by decide) (by decide)]

/-- A field of LC_STATE above the keys shows something else. -/
theorem getF_lcShow_above (f : Fld) (b : Block) (reg : f.reg = R.LC_STATE) (above : 10 ≤ f.lo) : getF (lcShow b) f = getF b f := by
  rw [lcShow, getF_setF_at F.LC_STATE_STATE f _ _ (by decide) reg (.inr (by simp [F.LC_STATE_STATE]; omega)),
    getF_putF_at F.LC_STATE_KEY_SVC f _ _ (by decide) reg (.inr above),
    getF_putF_at F.LC_STATE_KEY_CW f _ _ (by decide) reg (.inr (by simp [F.LC_STATE_KEY_CW]; omega))]

/-! Entry to RETIRED (R98). -/

theorem cfgEnd_regs (result seq : Nat) (b : Block) : (cfgEnd result seq b).regs = (setF F.CFG_STATUS_RESULT result (setF F.CFG_STATUS_BUSY 0 b)).regs := by
  dsimp only [cfgEnd]
  rw [finishAll_regs _ _ _ fun q c => by simp]
  rfl

theorem cfgEnd_led (result seq : Nat) (b : Block) : (cfgEnd result seq b).led = b.led := by
  dsimp only [cfgEnd]
  rw [finishAll_led _ _ _ fun q c => by simp]
  rfl

theorem getR_cfgEnd_ne {a : Nat} (result seq : Nat) (b : Block) (h : a ≠ R.CFG_STATUS) : getR (cfgEnd result seq b) a = getR b a := by
  rw [getR_congr (cfgEnd_regs result seq b), getR_setF_ne _ _ _ h, getR_setF_ne _ _ _ h]

theorem getR_cfgShow_ne {a : Nat} (active : Nat) (b : Block) (h : a ≠ R.CFG_STATUS) (h0 : a ≠ R.CFG_SEQ 0) (h1 : a ≠ R.CFG_SEQ 1) :
    getR (cfgShow active b) a = getR b a := by
  rw [cfgShow, getR_setF_ne _ _ _ h, getR_putF_ne _ _ _ h, getR_putF_ne _ _ _ h, getR_setR_ne _ _ h0, getR_setR_ne _ _ h1]

theorem getF_cfgShow_ACTIVE (active : Nat) (b : Block) (h : active < 2) : getF (cfgShow active b) F.CFG_STATUS_ACTIVE = active := by
  rw [cfgShow, getF_setF _ _ _ (by decide)]
  exact Nat.mod_eq_of_lt h

theorem getF_cfgShow_VALID0 (active : Nat) (b : Block) : getF (cfgShow active b) F.CFG_STATUS_VALID0 = nat01 (cfgValid (b.cfg.copies.getD 0 {})) := by
  rw [cfgShow, getF_setF_at F.CFG_STATUS_ACTIVE F.CFG_STATUS_VALID0, getF_putF _ _ _ (by decide) (by decide)]

theorem getF_cfgShow_VALID1 (active : Nat) (b : Block) : getF (cfgShow active b) F.CFG_STATUS_VALID1 = nat01 (cfgValid (b.cfg.copies.getD 1 {})) := by
  rw [cfgShow, getF_setF_at F.CFG_STATUS_ACTIVE F.CFG_STATUS_VALID1, getF_putF_at F.CFG_STATUS_VALID0 F.CFG_STATUS_VALID1, getF_putF _ _ _ (by decide) (by decide)]

theorem cfgShow_led (active : Nat) (b : Block) : (cfgShow active b).led = b.led := by simp [cfgShow]

theorem retire_led (b : Block) : (retire b).led = b.led := by
  rw [retire, cfgShow_led]
  exact when_proj (·.led) _ _ _ (cfgEnd_led _ _ _)

theorem getR_retire_ne {a : Nat} (b : Block) (h : a ≠ R.CFG_STATUS) (h0 : a ≠ R.CFG_SEQ 0) (h1 : a ≠ R.CFG_SEQ 1) : getR (retire b) a = getR b a := by
  rw [retire, getR_cfgShow_ne _ _ h h0 h1]
  exact when_proj (getR · a) _ _ _ (getR_cfgEnd_ne _ _ _ h)

theorem getF_retire_VALID (b : Block) : getF (retire b) F.CFG_STATUS_VALID0 = 0 ∧ getF (retire b) F.CFG_STATUS_VALID1 = 0 := by
  rw [retire]
  exact ⟨getF_cfgShow_VALID0 _ _, getF_cfgShow_VALID1 _ _⟩

/-! A transition (R98): what `lcMove` shows. -/

/-- The block whose life cycle `lcMove` shows: the target stored, its journal entry waiting, and keys and copies erased on the way to RETIRED. -/
def lcMoved (t : Life) (b : Block) : Block := when (decide (t = .retired)) retire (journal 0x07 (lifeCode t) 0 0 { b with lc := lifeWrite t b.lc })

theorem lcMove_eq (t : Life) (b : Block) : lcMove t b = lcResult 1 (lcShow (lcMoved t b)) := rfl

theorem lcMoved_led (t : Life) (b : Block) : (lcMoved t b).led.queue = b.led.queue ++ [⟨7, lifeCode t, 0, 0, devF b⟩] :=
  when_proj (·.led.queue) _ _ _ (congrArg (·.queue) (retire_led _))

theorem lcMoved_life (t : Life) (b : Block) : (lcMoved t b).lc.life = t :=
  when_proj (·.lc.life) _ _ _ (congrArg (·.life) (retire_lc _))

theorem lcMove_life (t : Life) (b : Block) : (lcMove t b).lc.life = t := by rw [lcMove_lc]; split <;> rfl

theorem lcMove_acting (t : Life) (b : Block) : (lcMove t b).lc.acting = b.lc.acting := by rw [lcMove_lc]; split <;> rfl

theorem lcMove_challenge (t : Life) (b : Block) : (lcMove t b).lc.challenge = b.lc.challenge := by rw [lcMove_lc]; split <;> rfl

theorem lcMove_queue (t : Life) (b : Block) : (lcMove t b).led.queue = b.led.queue ++ [⟨7, lifeCode t, 0, 0, devF b⟩] := lcMoved_led t b

theorem getR_lcMoved_LC_STATE (t : Life) (b : Block) : getR (lcMoved t b) R.LC_STATE = getR b R.LC_STATE :=
  when_proj (getR · R.LC_STATE) _ _ _ (getR_retire_ne _ (by decide) (by decide) (by decide))

theorem getF_lcMove_STATE (t : Life) (b : Block) : getF (lcMove t b) F.LC_STATE_STATE = lifeCode t := by
  rw [lcMove_eq, lcResult, getF_setF_at F.LC_STATE_RESULT F.LC_STATE_STATE, getF_lcShow_STATE, lcMoved_life]

theorem getF_lcMove_RESULT (t : Life) (b : Block) : getF (lcMove t b) F.LC_STATE_RESULT = 1 := getF_setF F.LC_STATE_RESULT 1 _ (by decide)

theorem getF_lcMove_LOCKED (t : Life) (b : Block) : getF (lcMove t b) F.LC_STATE_LOCKED = getF b F.LC_STATE_LOCKED := by
  rw [lcMove_eq, lcResult, getF_setF_at F.LC_STATE_RESULT F.LC_STATE_LOCKED, getF_lcShow_above F.LC_STATE_LOCKED _ rfl (by decide)]
  exact getF_of_getR (f := F.LC_STATE_LOCKED) (getR_lcMoved_LC_STATE t b)

theorem getF_lcMove_AUTH_FAIL (t : Life) (b : Block) : getF (lcMove t b) F.LC_STATE_AUTH_FAIL = getF b F.LC_STATE_AUTH_FAIL := by
  rw [lcMove_eq, lcResult, getF_setF_at F.LC_STATE_RESULT F.LC_STATE_AUTH_FAIL, getF_lcShow_above F.LC_STATE_AUTH_FAIL _ rfl (by decide)]
  exact getF_of_getR (f := F.LC_STATE_AUTH_FAIL) (getR_lcMoved_LC_STATE t b)

/-- Beside LC_STATE a transition to another state than RETIRED changes no register. -/
theorem getR_lcMove_ne {t : Life} {a : Nat} (b : Block) (stays : t ≠ .retired) (h : a ≠ R.LC_STATE) : getR (lcMove t b) a = getR b a := by
  have moved : lcMoved t b = journal 0x07 (lifeCode t) 0 0 { b with lc := lifeWrite t b.lc } := by simp [lcMoved, when, stays]
  rw [lcMove_eq, lcResult, getR_setF_ne _ _ _ h, getR_lcShow_ne _ h, moved]
  rfl

theorem getF_lcMove_VALID (b : Block) : getF (lcMove .retired b) F.CFG_STATUS_VALID0 = 0 ∧ getF (lcMove .retired b) F.CFG_STATUS_VALID1 = 0 := by
  have shown : ∀ f : Fld, f.reg = R.CFG_STATUS → getF (lcMove .retired b) f = getF (lcMoved .retired b) f := fun f reg => by
    have away : f.reg ≠ R.LC_STATE := by rw [reg]; decide
    exact getF_of_getR ((getR_setF_ne F.LC_STATE_RESULT 1 _ away).trans (getR_lcShow_ne _ away))
  rw [shown _ rfl, shown _ rfl]
  exact getF_retire_VALID _

end

end Sys2Proof.Machine

namespace Sys2Proof.Machine

/-! LC_TRANSITION: the cases of a request (R98 to R100). -/

theorem lifeCode_of_lifeOf {n : Nat} {t : Life} (h : lifeOf n = some t) : lifeCode t = n := by
  unfold lifeOf at h
  split at h <;> cases h <;> rfl

/-- The word of LC_TRANSITION: CONFIRM and the target, no key operation and no new challenge. -/
theorem lcTransition_word (target : BitVec 4) :
    (w32 (0xA5000000 + target.toNat)).toNat / 2 ^ 24 = 0xA5 ∧ bitsOf (w32 (0xA5000000 + target.toNat)).toNat 9 2 = 0 ∧
      bitOf (w32 (0xA5000000 + target.toNat)).toNat 8 = false ∧ (w32 (0xA5000000 + target.toNat)).toNat % 16 = target.toNat := by
  revert target
  decide

section
variable {b : Block}

theorem writeLcCtl_request {v : Word} (b : Block) (confirm : v.toNat / 2 ^ 24 = 0xA5) (op : bitsOf v.toNat 9 2 = 0) (new : bitOf v.toNat 8 = false) :
    writeLcCtl v b = lcRequest (v.toNat % 16) b := by
  simp only [writeLcCtl, confirm, op, new, when, beq_self_eq_true, Bool.not_true, Bool.false_eq_true, if_false, OfNat.zero_ne_ofNat, zero_ne_one]

theorem exec_lcTransition (target : BitVec 4) (q : List Instr) (on : ready b = true) :
    exec (.lcTransition target) ⟨b, q⟩ = .next ⟨lcRequest target.toNat b, q⟩ := by
  obtain ⟨confirm, op, new, code⟩ := lcTransition_word target
  have asked := writeLcCtl_request b confirm op new
  rw [code] at asked
  rw [← asked]
  simp only [exec, execLcTransition, run_eq, on, if_true]

theorem lcRequest_locked {n : Nat} (known : n ≠ 0xF) (locked : isF b F.LC_STATE_LOCKED = true) : lcRequest n b = lcResult 4 b := by
  simp [lcRequest, known, locked]

section
variable {n : Nat} (known : n ≠ 0xF) (free : isF b F.LC_STATE_LOCKED = false) (settled : b.lc.life = b.lc.acting)
include known free settled

theorem lcRequest_none (no : (lifeOf n).bind (lifeStep b.lc.life) = none) : lcRequest n b = lcResult 2 b := by
  simp only [lcRequest, known, free, settled, if_false, ne_eq, not_true_eq_false, Bool.false_eq_true]
  cases h : lifeOf n with
  | none => rfl
  | some t =>
    rw [h, Option.bind_some, settled] at no
    simp [no]

theorem lcRequest_some {t : Life} {auth : Bool} (code : lifeOf n = some t) (step : lifeStep b.lc.life t = some auth) :
    lcRequest n b = if b.lc.life = .provisioned ∧ b.lc.keySvc.isNone then lcResult 5 b else if auth then lcAuth t b else lcMove t b := by
  simp only [lcRequest, known, free, settled, if_false, ne_eq, not_true_eq_false, Bool.false_eq_true, code, settled ▸ step]

end

/-- The block in which an authenticated request is judged: its challenge is used. -/
def challengeUsed (b : Block) : Block := { b with lc := { b.lc with challenge := false } }

theorem lcAuth_met {t : Life} (met : challengeMet b t) : lcAuth t b = lcMove t (setF F.LC_STATE_AUTH_FAIL 0 (challengeUsed b)) := by
  simp [lcAuth, met.1, met.2, challengeUsed]

theorem lcAuth_failed {t : Life} (failed : ¬ challengeMet b t) : lcAuth t b =
    when (decide (8 ≤ getF (lcResult 3 (addF F.LC_STATE_AUTH_FAIL 1 (challengeUsed b))) F.LC_STATE_AUTH_FAIL)) (setF F.LC_STATE_LOCKED 1)
      (lcResult 3 (addF F.LC_STATE_AUTH_FAIL 1 (challengeUsed b))) := by
  have no : (b.lc.challenge && ecdsaVerify (b.lc.keySvc.getD []) (lcMessage b (lifeCode t)) (lcSignature b)) = false := by
    rw [Bool.eq_false_iff]
    exact fun yes => failed (Bool.and_eq_true_iff.mp yes)
  simp only [lcAuth, no, Bool.false_eq_true, if_false]
  rfl

/-- A refused authentication: LC_STATE alone shows it. -/
theorem lcAuth_failed_shows {t : Life} (failed : ¬ challengeMet b t) (free : getF b F.LC_STATE_LOCKED = 0) :
    lcAuth t b = { b with regs := (lcAuth t b).regs, lc := { b.lc with challenge := false } } ∧ getF (lcAuth t b) F.LC_STATE_RESULT = 3 ∧
      getF (lcAuth t b) F.LC_STATE_AUTH_FAIL = min (getF b F.LC_STATE_AUTH_FAIL + 1) 255 ∧
      getF (lcAuth t b) F.LC_STATE_LOCKED = (if 8 ≤ getF b F.LC_STATE_AUTH_FAIL + 1 then 1 else 0) ∧
      getF (lcAuth t b) F.LC_STATE_STATE = getF b F.LC_STATE_STATE ∧ ∀ a, a ≠ R.LC_STATE → getR (lcAuth t b) a = getR b a := by
  have count : getF (lcResult 3 (addF F.LC_STATE_AUTH_FAIL 1 (challengeUsed b))) F.LC_STATE_AUTH_FAIL = min (getF b F.LC_STATE_AUTH_FAIL + 1) 255 := by
    rw [lcResult, getF_setF_at F.LC_STATE_RESULT F.LC_STATE_AUTH_FAIL, getF_addF _ _ _ (by decide)]
    rfl
  have beside : ∀ f : Fld, f.reg = R.LC_STATE → f = F.LC_STATE_LOCKED ∨ f = F.LC_STATE_STATE →
      getF (lcResult 3 (addF F.LC_STATE_AUTH_FAIL 1 (challengeUsed b))) f = getF b f := fun f _ which => by
    rcases which with rfl | rfl
    · rw [lcResult, getF_setF_at F.LC_STATE_RESULT F.LC_STATE_LOCKED, addF, getF_setF_at F.LC_STATE_AUTH_FAIL F.LC_STATE_LOCKED]
      rfl
    · rw [lcResult, getF_setF_at F.LC_STATE_RESULT F.LC_STATE_STATE, addF, getF_setF_at F.LC_STATE_AUTH_FAIL F.LC_STATE_STATE]
      rfl
  have others : ∀ a, a ≠ R.LC_STATE → getR (lcResult 3 (addF F.LC_STATE_AUTH_FAIL 1 (challengeUsed b))) a = getR b a := fun a h =>
    (getR_setF_ne F.LC_STATE_RESULT 3 _ h).trans (getR_setF_ne F.LC_STATE_AUTH_FAIL _ _ h)
  have eight : 8 ≤ min (getF b F.LC_STATE_AUTH_FAIL + 1) 255 ↔ 8 ≤ getF b F.LC_STATE_AUTH_FAIL + 1 := by omega
  rw [lcAuth_failed failed, count]
  by_cases locks : 8 ≤ getF b F.LC_STATE_AUTH_FAIL + 1
  · simp only [when, eight, locks, decide_true, if_true]
    refine ⟨rfl, ?_, ?_, getF_setF _ _ _ (by decide), ?_, fun a h => ?_⟩
    · rw [getF_setF_at F.LC_STATE_LOCKED F.LC_STATE_RESULT]
      exact getF_setF F.LC_STATE_RESULT 3 _ (by decide)
    · rw [getF_setF_at F.LC_STATE_LOCKED F.LC_STATE_AUTH_FAIL, count]
    · rw [getF_setF_at F.LC_STATE_LOCKED F.LC_STATE_STATE, beside F.LC_STATE_STATE rfl (.inr rfl)]
    · rw [getR_setF_ne F.LC_STATE_LOCKED _ _ h, others a h]
  · simp only [when, eight, locks, decide_false, Bool.false_eq_true, if_false]
    exact ⟨rfl, getF_setF F.LC_STATE_RESULT 3 _ (by decide), count, (beside _ rfl (.inl rfl)).trans free, beside _ rfl (.inr rfl), others⟩

/-- A transition, from the block `x` in which it is made: the request's, but for the challenge and LC_STATE. -/
theorem lcMove_shows {t : Life} {x : Block} {used : Bool} (lc : x.lc = { b.lc with challenge := used }) (cfg : x.cfg = b.cfg) (led : x.led = b.led)
    (clock : x.clock = b.clock) (regs : ∀ a, a ≠ R.LC_STATE → getR x a = getR b a) (free : getF x F.LC_STATE_LOCKED = 0) :
    (lcMove t x).lc.life = t ∧ (lcMove t x).lc.acting = b.lc.acting ∧ getF (lcMove t x) F.LC_STATE_RESULT = 1 ∧
      getF (lcMove t x) F.LC_STATE_STATE = lifeCode t ∧ getF (lcMove t x) F.LC_STATE_LOCKED = 0 ∧
      (lcMove t x).led.queue = b.led.queue ++ [⟨7, lifeCode t, 0, 0, devF b⟩] ∧
      (t ≠ .retired → (lcMove t x).lc.keySvc = b.lc.keySvc ∧ (lcMove t x).lc.keyCw = b.lc.keyCw ∧ (lcMove t x).cfg = b.cfg ∧
        ∀ a, a ≠ R.LC_STATE → getR (lcMove t x) a = getR b a) ∧
      (t = .retired → (lcMove t x).lc.keySvc = none ∧ (lcMove t x).lc.keyCw = none ∧ (lcMove t x).cfg = { copies := [{}, {}] } ∧
        getF (lcMove t x) F.CFG_STATUS_VALID0 = 0 ∧ getF (lcMove t x) F.CFG_STATUS_VALID1 = 0) := by
  refine ⟨lcMove_life t x, ?_, getF_lcMove_RESULT t x, getF_lcMove_STATE t x, (getF_lcMove_LOCKED t x).trans free, ?_, fun stays => ?_, fun out => ?_⟩
  · rw [lcMove_acting, lc]
  · rw [lcMove_queue, led, devF, devF, clock]
  · rw [lcMove_lc, lcMove_cfg, if_neg stays, if_neg stays, lc]
    exact ⟨rfl, rfl, cfg, fun a h => (getR_lcMove_ne x stays h).trans (regs a h)⟩
  · rw [lcMove_lc, lcMove_cfg, if_pos out, if_pos out, out]
    exact ⟨rfl, rfl, rfl, getF_lcMove_VALID x⟩

/-! A new challenge and the key operations (R99, R101). -/

theorem exec_lcNewChallenge (q : List Instr) (on : ready b = true) : exec .lcNewChallenge ⟨b, q⟩ = .next ⟨lcChallenge b, q⟩ := by
  simp only [exec, execLcNewChallenge, run_eq, on, if_true]
  rfl

theorem exec_lcStoreServiceKey (q : List Instr) (on : ready b = true) : exec .lcStoreServiceKey ⟨b, q⟩ = .next ⟨lcStore true b, q⟩ := by
  simp only [exec, execLcStoreServiceKey, run_eq, on, if_true]
  rfl

theorem exec_lcStoreCausewayKey (q : List Instr) (on : ready b = true) : exec .lcStoreCausewayKey ⟨b, q⟩ = .next ⟨lcStore false b, q⟩ := by
  simp only [exec, execLcStoreCausewayKey, run_eq, on, if_true]
  rfl

theorem lcChallenge_eq (b : Block) : lcChallenge b = { b with regs := (lcChallenge b).regs, lc := { b.lc with challenge := true }, freeCtr := b.freeCtr + 4 } := rfl

/-- The four words of a new challenge, in order. -/
theorem lcChallenge_regs (b : Block) : (lcChallenge b).regs =
    (setR (R.LC_CHALLENGE 3) (w32 (Config.free (b.freeCtr + 3))) (setR (R.LC_CHALLENGE 2) (w32 (Config.free (b.freeCtr + 2)))
      (setR (R.LC_CHALLENGE 1) (w32 (Config.free (b.freeCtr + 1))) (setR (R.LC_CHALLENGE 0) (w32 (Config.free (b.freeCtr + 0))) b)))).regs := rfl

theorem getR_lcChallenge (b : Block) {i : Nat} (h : i < 4) : getR (lcChallenge b) (R.LC_CHALLENGE i) = w32 (Config.free (b.freeCtr + i)) := by
  rw [getR_congr (lcChallenge_regs b)]
  have apart : ∀ j, i ≠ j → R.LC_CHALLENGE i ≠ R.LC_CHALLENGE j := fun j ne => by unfold R.LC_CHALLENGE; omega
  match i, h with
  | 3, _ => exact getR_setR _ _ _
  | 2, _ => rw [getR_setR_ne _ _ (apart 3 (by decide)), getR_setR]
  | 1, _ => rw [getR_setR_ne _ _ (apart 3 (by decide)), getR_setR_ne _ _ (apart 2 (by decide)), getR_setR]
  | 0, _ => rw [getR_setR_ne _ _ (apart 3 (by decide)), getR_setR_ne _ _ (apart 2 (by decide)), getR_setR_ne _ _ (apart 1 (by decide)), getR_setR]

theorem getR_lcChallenge_ne (b : Block) {a : Nat} (h : ∀ i, i < 4 → a ≠ R.LC_CHALLENGE i) : getR (lcChallenge b) a = getR b a := by
  rw [getR_congr (lcChallenge_regs b), getR_setR_ne _ _ (h 3 (by decide)), getR_setR_ne _ _ (h 2 (by decide)), getR_setR_ne _ _ (h 1 (by decide)),
    getR_setR_ne _ _ (h 0 (by decide))]

/-- The life-cycle states in which a key may be stored (R101). -/
theorem lcStore_allowed {svc : Bool} (inForce : b.lc.acting = .factory ∨ b.lc.acting = .provisioned ∨ (svc = false ∧ b.lc.acting = .service))
    (stored : b.lc.life ≠ .retired) :
    lcStore svc b = lcResult 1 (lcShow { b with lc := if svc then { b.lc with keySvc := some (lcKey b 16), key := [] }
      else { b.lc with keyCw := some (lcKey b 4), key := [] } }) := by
  have allowed : ((lifeIs b .factory || lifeIs b .provisioned || (!svc && lifeIs b .service)) && b.lc.life != .retired) = true := by
    rcases inForce with h | h | ⟨h, h'⟩ <;> simp [lifeIs, *]
  simp only [lcStore, allowed, Bool.not_true, Bool.false_eq_true, if_false]

theorem lcStore_refused {svc : Bool} (out : b.lc.life = .retired ∨ b.lc.acting = .field ∨ b.lc.acting = .retired ∨ (svc = true ∧ b.lc.acting = .service)) :
    lcStore svc b = lcResult 2 b := by
  have refused : ((lifeIs b .factory || lifeIs b .provisioned || (!svc && lifeIs b .service)) && b.lc.life != .retired) = false := by
    rcases out with h | h | h | ⟨h, h'⟩ <;> simp [lifeIs, *]
  simp only [lcStore, refused, Bool.not_false, if_true]

theorem lcStore_shows (svc : Bool) (l : LifeCycle) (b : Block) :
    lcResult 1 (lcShow { b with lc := l }) = { b with regs := (lcResult 1 (lcShow { b with lc := l })).regs, lc := l } ∧
      getF (lcResult 1 (lcShow { b with lc := l })) F.LC_STATE_RESULT = 1 ∧
      getF (lcResult 1 (lcShow { b with lc := l })) (if svc then F.LC_STATE_KEY_SVC else F.LC_STATE_KEY_CW) = nat01 (if svc then l.keySvc else l.keyCw).isSome ∧
      ∀ a, a ≠ R.LC_STATE → getR (lcResult 1 (lcShow { b with lc := l })) a = getR b a := by
  refine ⟨rfl, getF_setF F.LC_STATE_RESULT 1 _ (by decide), ?_, fun a h => (getR_setF_ne F.LC_STATE_RESULT 1 _ h).trans (getR_lcShow_ne _ h)⟩
  cases svc
  · exact (getF_setF_at F.LC_STATE_RESULT F.LC_STATE_KEY_CW 1 _).trans (getF_lcShow_KEY_CW _)
  · exact (getF_setF_at F.LC_STATE_RESULT F.LC_STATE_KEY_SVC 1 _).trans (getF_lcShow_KEY_SVC _)

/-- The key operations do not look at LOCKED (log entry 32). -/
theorem keyRequests (q : List Instr) (on : ready b = true) : KeyRequests b q := by
  refine ⟨⟨_, exec_lcNewChallenge q on, lcChallenge_eq b, fun i h => getR_lcChallenge b h, fun a h => getR_lcChallenge_ne b h⟩, fun inForce stored => ?_,
    fun inForce stored => ?_, fun service => ?_, fun out => ⟨?_, ?_⟩⟩
  · have stores := lcStore_allowed (svc := true) (inForce.elim .inl fun h => .inr (.inl h)) stored
    obtain ⟨frame, result, key, others⟩ := lcStore_shows true { b.lc with keySvc := some (lcKey b 16), key := [] } b
    exact ⟨_, stores ▸ exec_lcStoreServiceKey q on, frame, result, key, others⟩
  · have stores := lcStore_allowed (svc := false) (inForce.imp_right fun h => h.imp_right fun h => ⟨rfl, h⟩) stored
    obtain ⟨frame, result, key, others⟩ := lcStore_shows false { b.lc with keyCw := some (lcKey b 4), key := [] } b
    exact ⟨_, stores ▸ exec_lcStoreCausewayKey q on, frame, result, key, others⟩
  · rw [exec_lcStoreServiceKey q on, lcStore_refused (.inr (.inr (.inr ⟨rfl, service⟩))), lcResult]
  · rw [exec_lcStoreServiceKey q on, lcStore_refused (out.imp_right fun h => h.imp_right .inl), lcResult]
  · rw [exec_lcStoreCausewayKey q on, lcStore_refused (out.imp_right fun h => h.imp_right .inl), lcResult]

end

end Sys2Proof.Machine

namespace Sys2Proof
open Machine

/-- Settles O16: each case of `lcRequest`, and the key operations in every state. -/
theorem lifeCycleRequests : Obligations.LifeCycleRequests := by
  refine ⟨fun target b q on known => ?_, fun b q on => ⟨fun _ => keyRequests q on, fun _ => keyRequests q on⟩⟩
  have known' : target.toNat ≠ 0xF := fun h => known (BitVec.eq_of_toNat_eq h)
  rw [exec_lcTransition target q on]
  refine ⟨fun locked => ?_, fun unlocked settled => ?_⟩
  · rw [lcRequest_locked known' ((isF_iff _ _).mpr (by rw [locked]; decide)), lcResult]
  have free := (isF_eq_false b F.LC_STATE_LOCKED).mpr unlocked
  refine ⟨fun no => ?_, fun t auth code step => ⟨fun provisioned key => ?_, fun key verified => ?_, fun needs failed => ?_⟩⟩
  · rw [lcRequest_none known' free settled no, lcResult]
  · rw [lcRequest_some known' free settled code step, if_pos ⟨provisioned, by simp [key]⟩, lcResult]
  · have keyed : ¬ (b.lc.life = .provisioned ∧ b.lc.keySvc.isNone = true) := fun ⟨h, absent⟩ => key h (Option.isNone_iff_eq_none.mp absent)
    rw [lcRequest_some known' free settled code step, if_neg keyed, ← lifeCode_of_lifeOf code]
    cases auth with
    | false =>
      obtain ⟨life, acting, result, state, locked, queue, stays, out⟩ := lcMove_shows (t := t) (b := b) (x := b) rfl rfl rfl rfl (fun _ _ => rfl) unlocked
      exact ⟨_, rfl, life, acting, result, state, locked, queue, by simp, fun _ => getF_lcMove_AUTH_FAIL t b, stays, out⟩
    | true =>
      have beside : getF (setF F.LC_STATE_AUTH_FAIL 0 (challengeUsed b)) F.LC_STATE_LOCKED = 0 :=
        (getF_setF_at F.LC_STATE_AUTH_FAIL F.LC_STATE_LOCKED 0 _).trans unlocked
      obtain ⟨life, acting, result, state, locked, queue, stays, out⟩ := lcMove_shows (t := t) (b := b) (x := setF F.LC_STATE_AUTH_FAIL 0 (challengeUsed b))
        (used := false) rfl rfl rfl rfl (fun a h => getR_setF_ne F.LC_STATE_AUTH_FAIL 0 _ h) beside
      rw [if_pos rfl, lcAuth_met (verified rfl)]
      refine ⟨_, rfl, life, acting, result, state, locked, queue, fun _ => ⟨?_, ?_⟩, by simp, stays, out⟩
      · rw [lcMove_challenge]
        rfl
      · rw [getF_lcMove_AUTH_FAIL]
        exact getF_setF F.LC_STATE_AUTH_FAIL 0 _ (by decide)
  · have notFirst : ¬ (b.lc.life = .provisioned ∧ b.lc.keySvc.isNone = true) := fun ⟨h, _⟩ => by
      rw [h] at step
      cases t <;> cases auth <;> simp_all [lifeStep]
    rw [lcRequest_some known' free settled code step, if_neg notFirst, needs, if_pos rfl]
    exact ⟨_, rfl, lcAuth_failed_shows failed unlocked⟩

end Sys2Proof

namespace Sys2Proof.Machine

/-! The rings by number, and what a started descriptor, a wait and a completion leave (R397 to R403). -/

section
variable {b c : Block}

theorem sqOf_congr (h : c.hst = b.hst) (q : Nat) : sqOf c q = sqOf b q := by unfold sqOf; rw [h]
theorem cqOf_congr (h : c.hst = b.hst) (q : Nat) : cqOf c q = cqOf b q := by unfold cqOf; rw [h]

theorem sqOf_putSq (q p : Nat) (x : Sq) (b : Block) : sqOf (putSq q x b) p = if p = q then x else sqOf b p := mapGet_mapPut _ _ _ _ _
theorem cqOf_putCq (q p : Nat) (x : Cq) (b : Block) : cqOf (putCq q x b) p = if p = q then x else cqOf b p := mapGet_mapPut _ _ _ _ _

/-- No status word of a submission ring is its control word. -/
theorem cqNo_setStatus (q p : Nat) (w : Word) (b : Block) : cqNo (setR (R.HST_SQ_STATUS q) w b) p = cqNo b p :=
  getF_of_getR (f := F.HST_SQ_CTL_CQ p) (getR_setR_ne w b (by simp only [F.HST_SQ_CTL_CQ, R.HST_SQ_CTL, R.HST_SQ_STATUS]; omega))

theorem cqNo_startedCmd (q op : Nat) (d : Desc) (b : Block) (p : Nat) : cqNo (startedCmd q op d b) p = cqNo b p := cqNo_setStatus q p _ b

theorem sqOf_startedCmd (q op : Nat) (d : Desc) (b : Block) (p : Nat) :
    sqOf (startedCmd q op d b) p = if p = q then { sqOf b q with running := some ⟨op, d.tag.toNat, .done⟩ } else sqOf b p := sqOf_putSq q p _ _

theorem running_startedCmd (q op : Nat) (d : Desc) (b : Block) : (sqOf (startedCmd q op d b) q).running = some ⟨op, d.tag.toNat, .done⟩ := by
  rw [sqOf_startedCmd, if_pos rfl]

theorem getR_startedCmd (q op : Nat) (d : Desc) (b : Block) : getR (startedCmd q op d b) (R.HST_SQ_STATUS q) = getR b (R.HST_SQ_STATUS q) + 1 := getR_setR _ _ _

theorem getR_startedCmd_ne {a : Nat} (q op : Nat) (d : Desc) (b : Block) (h : a ≠ R.HST_SQ_STATUS q) : getR (startedCmd q op d b) a = getR b a := getR_setR_ne _ _ h

/-- A well-formed descriptor that may start goes on with its command. -/
theorem startCmd_go {q op : Nat} {d : Desc} {invalid forbidden : Bool} (go : Block → Block) (can : canStart b q = true) (resvd : d.resvd = 0)
    (valid : invalid = false) (allowed : forbidden = false) : startCmd q op d invalid forbidden go b = go (startedCmd q op d b) := by
  simp only [startCmd, can, resvd, valid, allowed, Bool.not_true, Bool.false_eq_true, if_false, ne_eq, not_true_eq_false, or_self]
  rfl

/-- The completion ring of a descriptor that may start is enabled. -/
theorem cq_en_of_canStart {q : Nat} (can : canStart b q = true) : (cqOf b (cqNo b q)).en = true := by
  simp only [canStart, sqReady, Bool.and_eq_true] at can
  obtain ⟨⟨⟨-, en⟩, -⟩, -⟩ := can
  exact en

theorem waitOn_eq {q : Nat} {r : RunCmd} {w : CmdWait} (runs : (sqOf b q).running = some r) :
    waitOn q w b = putSq q { sqOf b q with running := some { r with wait := w } } b := by
  simp only [waitOn, runs]

theorem finish_eq {q status detail r0 r1 : Nat} {r : RunCmd} (runs : (sqOf b q).running = some r) (en : (cqOf b (cqNo b q)).en = true) :
    finish q status detail r0 r1 b = putCq (cqNo b q) { cqOf b (cqNo b q) with
        waiting := (cqOf b (cqNo b q)).waiting ++ [⟨r.op, q, r.tag, detail, status, r0 % 2 ^ 32, r1 % 2 ^ 32⟩] }
      (putSq q { sqOf b q with running := some { r with wait := .done } } b) := by
  simp only [finish, runs, en, if_true]

theorem waitOn_hst (q : Nat) (w : CmdWait) (b : Block) : waitOn q w b = { b with hst := (waitOn q w b).hst } := by
  unfold waitOn
  split <;> rfl

theorem finish_hst (q status detail r0 r1 : Nat) (b : Block) : finish q status detail r0 r1 b = { b with hst := (finish q status detail r0 r1 b).hst } := by
  unfold finish
  split
  · rfl
  · dsimp only
    split <;> rfl

/-- A command that waits: `x` is the block its work has left, the rings as the start of the descriptor left them. -/
theorem cmdWaits_waitOn {q op : Nat} {d : Desc} {w : CmdWait} {x : Block} (hst : x.hst = (startedCmd q op d b).hst)
    (count : getR x (R.HST_SQ_STATUS q) = getR (startedCmd q op d b) (R.HST_SQ_STATUS q)) : CmdWaits q op d w b (waitOn q w x) := by
  have ring := sqOf_congr hst
  have waits : waitOn q w x = putSq q { sqOf x q with running := some ⟨op, d.tag.toNat, w⟩ } x :=
    waitOn_eq ((congrArg Sq.running (ring q)).trans (running_startedCmd q op d b))
  rw [waits]
  refine ⟨count.trans (getR_startedCmd q op d b), ?_, fun p other => ?_, fun p => (cqOf_congr hst p).trans rfl⟩
  · rw [sqOf_putSq, if_pos rfl, ring, sqOf_startedCmd, if_pos rfl]
  · rw [sqOf_putSq, if_neg other, ring, sqOf_startedCmd, if_neg other]

/-- A command that completes: `x` is the block its work has left, the rings and their control words as the start of the descriptor left them. -/
theorem cmdCompletes_finish {q op status detail r0 r1 : Nat} {d : Desc} {x : Block} (can : canStart b q = true) (hst : x.hst = (startedCmd q op d b).hst)
    (count : getR x (R.HST_SQ_STATUS q) = getR (startedCmd q op d b) (R.HST_SQ_STATUS q)) (number : cqNo x q = cqNo b q) :
    CmdCompletes q op d detail status r0 r1 b (finish q status detail r0 r1 x) := by
  have ring := sqOf_congr hst
  have cring : ∀ p, cqOf x p = cqOf b p := fun p => (cqOf_congr hst p).trans rfl
  have en : (cqOf x (cqNo x q)).en = true := by rw [number, cring]; exact cq_en_of_canStart can
  have runs : (sqOf x q).running = some ⟨op, d.tag.toNat, .done⟩ := (congrArg Sq.running (ring q)).trans (running_startedCmd q op d b)
  rw [finish_eq runs en, number, cring]
  refine ⟨count.trans (getR_startedCmd q op d b), ?_, fun p other => ?_, fun p other => ?_, ?_⟩
  · refine (sqOf_putSq q q _ x).trans ?_
    rw [if_pos rfl, ring, sqOf_startedCmd, if_pos rfl]
  · refine (sqOf_putSq q p _ x).trans ?_
    rw [if_neg other, ring, sqOf_startedCmd, if_neg other]
  · rw [cqOf_putCq, if_neg other]
    exact cring p
  · rw [cqOf_putCq, if_pos rfl]

end

end Sys2Proof.Machine

namespace Sys2Proof.Machine

/-! What reactions of the Sluice (R459 to R464) leave alone: the registers of any range below the counters that does not hold SPI_INT_STATUS. -/

section
variable {b c : Block} {lo hi : Nat}

theorem out_above {a : Nat} (low : hi ≤ 0x7000) (h : 0x7000 ≤ a := by decide) : a < lo ∨ hi ≤ a := .inr (low.trans h)

theorem spared_abandonRebuild (low : hi ≤ 0x7000) (h : Spared lo hi false b c) : Spared lo hi false b (abandonRebuild c) :=
  .when (.when h fun _ h => h.setF (out_above low)) fun _ h => (h.addF (out_above low)).setF (out_above low)

theorem spared_setPower {p : PowerState} (low : hi ≤ 0x7000) (h : Spared lo hi false b c) : Spared lo hi false b (setPower p c) :=
  .ite h (.trans (.when h fun _ h => spared_abandonRebuild low h) ⟨fun _ _ _ => rfl, rfl, fun s => nomatch s⟩)

theorem spared_count {code n : Nat} {q : Qual} (low : hi ≤ 0x7000) (h : Spared lo hi false b c) : Spared lo hi false b (count code n q c) :=
  h.count (.inr (low.trans (by decide)))

theorem spared_capTrigger {r : Nat} {slot : Option Nat} (low : hi ≤ 0x7000) (h : Spared lo hi false b c) : Spared lo hi false b (capTrigger r slot c) := by
  have stat : R.CAP_RSTAT r < lo ∨ hi ≤ R.CAP_RSTAT r := out_above low (by unfold R.CAP_RSTAT; omega)
  have trig : R.CAP_TRIG_FRAME r < lo ∨ hi ≤ R.CAP_TRIG_FRAME r := out_above low (by unfold R.CAP_TRIG_FRAME; omega)
  unfold Machine.capTrigger
  refine .ite h ?_
  split
  · exact h
  · refine spared_count low ?_
    have hit := ((h.putRing (r := r) (x := { ringOf c r with trig := some (devF c) })).setF (f := F.CAP_RSTAT_STATE r) (v := 2) stat).setR
      (w := w32 (Machine.frame c)) trig
    split
    · exact hit.setF stat
    · exact .setF (.when hit fun _ h => h.setF stat) stat
  · refine .ite ?_ (h.addF stat)
    split
    · exact h.setF stat
    · exact .setF (.when h fun _ h => h.setF stat) stat

theorem spared_capSlTrigger {i sev : Nat} (low : hi ≤ 0x7000) (h : Spared lo hi false b c) : Spared lo hi false b (capSlTrigger i sev c) :=
  .ite h (.each h fun _ _ _ h => .when h fun _ h => spared_capTrigger low h)

theorem spared_freezeCounters (low : hi ≤ 0x7000) (h : Spared lo hi false b c) : Spared lo hi false b (freezeCounters c) :=
  .other (.each h fun _ _ _ h => .when h fun _ h => h.setF (out_of_base (low.trans (by decide))))

theorem spared_enterSafe {sub index : Nat} (low : hi ≤ 0x7000) (h : Spared lo hi false b c) : Spared lo hi false b (enterSafe sub index c) := by
  have asked : Spared lo hi false b { c with pwr := { c.pwr with request := none } } := h.trans ⟨fun _ _ _ => rfl, rfl, fun s => nomatch s⟩
  unfold Machine.enterSafe
  split
  exacts [(spared_setPower low asked).event.sendVec0, (spared_setPower low asked).event.sendVec0, h]

theorem spared_react {new : List Nat} (spi : hi ≤ R.SPI_INT_STATUS ∨ R.SPI_INT_STATUS < lo) (low : hi ≤ 0x7000) (h : Spared lo hi false b c) :
    Spared lo hi false b (react new c) :=
  have reacted := .when (.when (.when (.when h fun _ h => h.setF spi.symm) fun _ h => h.pendVec) fun _ h => h.sendVec0)
    fun _ h => spared_enterSafe low (spared_freezeCounters low (spared_count low h))
  .ite (.other reacted) (.each reacted fun _ _ _ h => .ite h h.other)

/-- A source that becomes sticky: after its bit and its detail nothing else of the range is written. -/
theorem setSticky_marked {i det : Nat} (low : hi ≤ 0x7000) (b : Block) :
    Spared lo hi false (setR (R.SL_DETAIL i) (getR b (R.SL_DETAIL i) ||| w32 det) (putArrBit (R.SL_STICKY 0) i true b)) (setSticky i det b) :=
  spared_capSlTrigger low (spared_count low (.when (.event .rfl) fun _ h => h.journal))

theorem spared_hbtFollow (h : Spared lo hi false b c) : Spared lo hi false b (hbtFollow c) := .when h fun _ h => h.other

/-- Sources that are found leave the registers below the SPI's alone. -/
theorem spared_detect {found : List (Nat × Nat)} (h : Spared 0 0x3000 false b c) : Spared 0 0x3000 false b (detect found c) :=
  spared_hbtFollow (spared_react (.inl (by decide)) (by decide) (.each (.each h fun _ _ _ h => h.setR (out_of_base (by decide)))
    fun _ _ d h => ((h.putArrBit (out_of_base (by decide))).setR (out_of_base (by decide))).trans (setSticky_marked (by decide) d)))

end

/-! The detail of a source that is found (R459). -/

/-- A found source's detail is added, whether it was sticky before or becomes so. -/
theorem detail_detect {i : Nat} (det : Nat) (b : Block) (src : (srcOf i).isSome = true) :
    getR (detect [(i, det)] b) (R.SL_DETAIL i) = getR b (R.SL_DETAIL i) ||| w32 det := by
  have small : i < 512 := srcOf_lt src
  have inside : 0x5000 ≤ R.SL_DETAIL i ∧ R.SL_DETAIL i < 0x5800 := by unfold R.SL_DETAIL; omega
  have reacted : ∀ (new : List Nat) (x : Block), getR (hbtFollow (react new x)) (R.SL_DETAIL i) = getR x (R.SL_DETAIL i) := fun new x =>
    (spared_hbtFollow (spared_react (lo := 0x5000) (hi := 0x5800) (.inr (by decide)) (by decide) .rfl)).getR inside.1 inside.2
  have stuck : getR (setSticky i det b) (R.SL_DETAIL i) = getR b (R.SL_DETAIL i) ||| w32 det := by
    rw [(setSticky_marked (lo := 0x5000) (hi := 0x5800) (by decide) b).getR inside.1 inside.2, getR_setR]
  unfold detect
  simp only [List.filter_cons, src, if_true, List.filter_nil]
  by_cases new : (!sticky b i && !b.sl.refused.contains i) = true
  · simp only [new, if_true, Bool.not_true, Bool.false_eq_true, if_false, each, List.foldl_nil, List.foldl_cons, reacted, stuck]
  · simp only [new, Bool.not_false, if_true, Bool.false_eq_true, if_false, each, List.foldl_nil, List.foldl_cons, reacted, getR_setR]

/-! The command rings stay. -/

/-- The submission and the completion rings. -/
def rings (b : Block) : List (Nat × Sq) × List (Nat × Cq) := (b.hst.sq, b.hst.cq)

theorem cqOf_rings {b c : Block} (h : rings c = rings b) (q : Nat) : cqOf c q = cqOf b q := by
  have same : c.hst.cq = b.hst.cq := congrArg Prod.snd h
  unfold cqOf
  rw [same]

theorem rings_of_hst {b c : Block} (h : c.hst = b.hst) : rings c = rings b := by unfold rings; rw [h]

theorem setPower_rings (p : PowerState) (b : Block) : rings (setPower p b) = rings b := rings_of_hst (by simp [setPower, abandonRebuild])
theorem count_rings (code n : Nat) (q : Qual) (b : Block) : rings (count code n q b) = rings b := rings_of_hst (by simp)

theorem capTrigger_rings (r : Nat) (slot : Option Nat) (b : Block) : rings (capTrigger r slot b) = rings b := by
  refine rings_of_hst ?_
  unfold capTrigger
  cases slot <;> dsimp only <;> (repeat' split) <;> simp

theorem capSlTrigger_rings (i sev : Nat) (b : Block) : rings (capSlTrigger i sev b) = rings b := by
  unfold capSlTrigger
  split
  · rfl
  · exact each_proj rings _ _ _ fun r c => when_proj rings _ _ _ (capTrigger_rings r _ c)

theorem sendVec0_rings (b : Block) : rings (sendVec0 b) = rings b := by unfold sendVec0; (repeat' split) <;> rfl
theorem pendVec_rings (v : Nat) (b : Block) : rings (pendVec v b) = rings b := by unfold pendVec; split <;> rfl
theorem freezeCounters_rings (b : Block) : rings (freezeCounters b) = rings b := rings_of_hst (by simp [freezeCounters])

theorem enterSafe_rings (sub index : Nat) (b : Block) : rings (enterSafe sub index b) = rings b := by
  unfold enterSafe
  split
  · exact (sendVec0_rings _).trans (setPower_rings _ _)
  · exact (sendVec0_rings _).trans (setPower_rings _ _)
  · rfl

theorem setSticky_rings (i det : Nat) (b : Block) : rings (setSticky i det b) = rings b := by
  unfold setSticky
  dsimp only
  rw [capSlTrigger_rings, count_rings]
  exact when_proj rings _ _ _ rfl

theorem react_rings (new : List Nat) (b : Block) : rings (react new b) = rings b := by
  unfold react
  extract_lets has crit b0 b1 b2 b3 b4
  have marked : rings b1 = rings b := when_proj rings _ _ _ rfl
  have pending : rings b2 = rings b1 := when_proj rings _ _ _ (pendVec_rings _ _)
  have sent : rings b3 = rings b2 := when_proj rings _ _ _ (sendVec0_rings _)
  have safe : rings b4 = rings b3 := when_proj rings _ _ _ (by rw [enterSafe_rings, freezeCounters_rings, count_rings])
  have reacted : rings b4 = rings b := safe.trans (sent.trans (pending.trans marked))
  split
  · exact reacted
  · refine (each_proj rings _ _ _ fun d c => ?_).trans reacted
    split <;> rfl

theorem detect_rings (found : List (Nat × Nat)) (b : Block) : rings (detect found b) = rings b := by
  unfold detect
  extract_lets found isNew new old c
  have added : rings c = rings b := each_proj rings _ _ _ fun _ _ => rfl
  have stuck : rings (each new (fun x => setSticky x.1 x.2) c) = rings c := each_proj rings _ _ _ fun x d => setSticky_rings _ _ d
  exact (when_proj rings _ _ _ rfl).trans ((react_rings _ _).trans (stuck.trans added))

/-! The power state: a reaction leaves it, or leads from RUN or STANDBY to SAFE (R87). -/

/-- The power state stays, or RUN or STANDBY has been left for SAFE with no request waiting. -/
def SafeEntered (p p' : Power) : Prop := p' = p ∨ ((p.state = .run ∨ p.state = .standby) ∧ p'.state = .safe ∧ p'.request = none)

theorem SafeEntered.trans {p p' p'' : Power} (h : SafeEntered p p') (k : SafeEntered p' p'') : SafeEntered p p'' := by
  rcases h with rfl | ⟨was, safe, none⟩
  · exact k
  · rcases k with rfl | ⟨served, -, -⟩
    · exact .inr ⟨was, safe, none⟩
    · simp [safe] at served

theorem SafeEntered.when {f : Block → Block} {b : Block} (p : Bool) (h : SafeEntered b.pwr (f b).pwr) : SafeEntered b.pwr (when p f b).pwr := by
  unfold Machine.when
  split
  exacts [h, .inl rfl]

theorem sendVec0_pwr (b : Block) : (sendVec0 b).pwr = b.pwr := by unfold sendVec0; (repeat' split) <;> rfl
@[simp] theorem abandonRebuild_pwr (b : Block) : (abandonRebuild b).pwr = b.pwr := by simp [abandonRebuild]

theorem setPower_state (p : PowerState) (b : Block) : (setPower p b).pwr.state = p ∧ (setPower p b).pwr.request = b.pwr.request := by
  unfold setPower
  split
  · exact ⟨‹_›, rfl⟩
  · have kept : (when (decide (b.pwr.state = .run)) abandonRebuild b).pwr = b.pwr := when_proj Block.pwr _ _ _ (abandonRebuild_pwr b)
    have request := congrArg Power.request kept
    exact ⟨rfl, request⟩

theorem enterSafe_pwr (sub index : Nat) (b : Block) : SafeEntered b.pwr (enterSafe sub index b).pwr := by
  unfold enterSafe
  split
  · next state => exact .inr ⟨.inl state, by rw [sendVec0_pwr]; exact (setPower_state .safe _).1, by rw [sendVec0_pwr]; exact (setPower_state .safe _).2⟩
  · next state => exact .inr ⟨.inr state, by rw [sendVec0_pwr]; exact (setPower_state .safe _).1, by rw [sendVec0_pwr]; exact (setPower_state .safe _).2⟩
  · exact .inl rfl

theorem enterSafe_leaves (sub index : Nat) {b : Block} (h : b.pwr.state = .run ∨ b.pwr.state = .standby) :
    (enterSafe sub index b).pwr.state = .safe ∧ (enterSafe sub index b).pwr.request = none := by
  unfold enterSafe
  rcases h with h | h
  all_goals
    rw [h]
    dsimp only
    rw [sendVec0_pwr]
    exact setPower_state .safe _

theorem count_pwr (code n : Nat) (q : Qual) (b : Block) : (count code n q b).pwr = b.pwr := by simp

theorem capTrigger_pwr (r : Nat) (slot : Option Nat) (b : Block) : (capTrigger r slot b).pwr = b.pwr := by
  unfold capTrigger
  cases slot <;> dsimp only <;> (repeat' split) <;> simp

theorem capSlTrigger_pwr (i sev : Nat) (b : Block) : (capSlTrigger i sev b).pwr = b.pwr := by
  unfold capSlTrigger
  split
  · rfl
  · exact each_proj Block.pwr _ _ _ fun r c => when_proj Block.pwr _ _ _ (capTrigger_pwr r _ c)

theorem setSticky_pwr (i det : Nat) (b : Block) : (setSticky i det b).pwr = b.pwr := by
  unfold setSticky
  dsimp only
  rw [capSlTrigger_pwr, count_pwr]
  exact when_proj Block.pwr _ _ _ rfl

theorem react_pwr (new : List Nat) (b : Block) : SafeEntered b.pwr (react new b).pwr := by
  unfold react
  extract_lets has crit b0 b1 b2 b3 b4
  have marked : b1.pwr = b.pwr := when_proj Block.pwr _ _ _ rfl
  have pending : b2.pwr = b1.pwr := when_proj Block.pwr _ _ _ (by unfold pendVec; split <;> rfl)
  have sent : b3.pwr = b2.pwr := when_proj Block.pwr _ _ _ (sendVec0_pwr _)
  have safe : SafeEntered b3.pwr b4.pwr := .when _ (by
    have counted : (freezeCounters (count 0x65 1 {} b3)).pwr = b3.pwr := by simp [freezeCounters]
    exact counted ▸ enterSafe_pwr 1 _ (freezeCounters (count 0x65 1 {} b3)))
  have reacted : SafeEntered b.pwr b4.pwr := by rwa [← marked, ← pending, ← sent]
  split
  · exact reacted
  · refine reacted.trans (.inl (each_proj Block.pwr _ _ _ fun d c => ?_))
    split <;> rfl

theorem detect_pwr (found : List (Nat × Nat)) (b : Block) : SafeEntered b.pwr (detect found b).pwr := by
  unfold detect
  extract_lets found isNew new old c
  have added : c.pwr = b.pwr := each_proj Block.pwr _ _ _ fun _ _ => rfl
  have stuck : (each new (fun x => setSticky x.1 x.2) c).pwr = c.pwr := each_proj Block.pwr _ _ _ fun x d => setSticky_pwr _ _ d
  have reacted := react_pwr (new.map (·.1)) (each new (fun x => setSticky x.1 x.2) c)
  rw [stuck, added] at reacted
  exact reacted.trans (.inl (when_proj Block.pwr _ _ _ rfl))

end Sys2Proof.Machine

namespace Sys2Proof.Machine

/-! A commit of the configuration (R102, R105). -/

section
variable {b : Block}

theorem exec_cfgCommit (q : List Instr) (on : ready b = true) : exec .cfgCommit ⟨b, q⟩ = .next ⟨cfgAsk none b, q⟩ := by
  simp only [exec, execCfgCommit, run_eq, on, if_true]

theorem cfgAsk_none_retired (out : b.lc.acting = .retired ∨ b.lc.life = .retired) : cfgAsk none b = setF F.CFG_STATUS_RESULT 3 b := by
  have shut : (lifeIs b .retired || b.lc.life == .retired) = true := by
    rcases out with h | h <;> simp [lifeIs, h]
  simp only [cfgAsk, shut, if_true]

section
variable (acting : b.lc.acting ≠ .retired) (life : b.lc.life ≠ .retired)
include acting life

theorem cfgAsk_none_busy (busy : b.cfg.captured ≠ none ∨ b.pwr.parking = true) : cfgAsk none b = setF F.CFG_STATUS_RESULT 2 b := by
  have held : (b.cfg.captured.isSome || b.pwr.parking) = true := by
    rcases busy with h | h
    · simp [Option.isSome_iff_ne_none.mpr h]
    · simp [h]
  have opened : (lifeIs b .retired || b.lc.life == .retired) = false := by simp [lifeIs, acting, life]
  simp only [cfgAsk, opened, held, Bool.false_eq_true, if_false, if_true]

/-- A request is taken: by the register, and by a command, which then waits. -/
theorem cfgAsk_taken (idle : b.cfg.captured = none) (outside : b.pwr.parking = false) :
    cfgAsk none b = setF F.CFG_STATUS_BUSY 1 { b with cfg := { b.cfg with requested := true } } ∧
      ∀ q, cfgAsk (some q) b = waitOn q .nvCommit (setF F.CFG_STATUS_BUSY 1 { b with cfg := { b.cfg with requested := true } }) := by
  have opened : (lifeIs b .retired || b.lc.life == .retired) = false := by simp [lifeIs, acting, life]
  have free : (b.cfg.captured.isSome || b.pwr.parking) = false := by simp [idle, outside]
  constructor
  · simp only [cfgAsk, opened, free, Bool.false_eq_true, if_false]
  · intro q
    simp only [cfgAsk, opened, free, Bool.false_eq_true, if_false]

end

/-- What was asked of the store before a commit holds it still: a flush, or a firmware update. -/
theorem storeHeld_iff : (b.led.flushing.isSome || b.fw.job.any fun j => !j.afterCommit) = true ↔ b.led.flushing ≠ none ∨ ¬ StoreAfter b := by
  rw [Bool.or_eq_true, Option.isSome_iff_ne_none]
  refine or_congr Iff.rfl ?_
  unfold StoreAfter
  cases b.fw.job <;> simp

theorem storeHeld_eq_false (flushed : b.led.flushing = none) (after : StoreAfter b) :
    (b.led.flushing.isSome || b.fw.job.any fun j => !j.afterCommit) = false := by
  rw [Bool.eq_false_iff, Ne, storeHeld_iff]
  simp [flushed, after]

theorem commitTurn_held (held : b.led.flushing ≠ none ∨ ¬ StoreAfter b) : commitTurn b = b := by
  simp only [commitTurn, Bool.or_assoc, storeHeld_iff.mpr held, Bool.or_true, if_true]

theorem commitTurn_free {es : List (Nat × Word)} (captured : b.cfg.captured = some es) (flushed : b.led.flushing = none) (after : StoreAfter b) :
    commitTurn b = { b with cfg := { b.cfg with
      copies := b.cfg.copies.set (1 - getF b F.CFG_STATUS_ACTIVE) { b.cfg.copies.getD (1 - getF b F.CFG_STATUS_ACTIVE) {} with marker := 0 } } } := by
  simp only [commitTurn, Bool.or_assoc, storeHeld_eq_false flushed after, captured, Option.isNone_some, Bool.or_false, Bool.false_eq_true, if_false]

/-- The values in force are captured. -/
def valuesCaptured (b : Block) : Block := { b with cfg := { b.cfg with requested := false, captured := some (cfgEntries b) } }

theorem exec_configCommitCapture (q : List Instr) (asked : b.cfg.requested = true) (idle : b.cfg.captured = none) (run : framesRun b = true) :
    exec .configCommitCapture ⟨b, q⟩ = .next ⟨commitTurn (valuesCaptured b), q⟩ := by
  simp only [exec, execConfigCommitCapture, run_eq, cfgCapture, asked, idle, run, Bool.not_true, Option.isSome_none, Bool.or_self, Bool.false_eq_true, if_false]
  rfl

theorem exec_configCommitDone_held (q : List Instr) (ok : Bool) (held : b.led.flushing ≠ none ∨ ¬ StoreAfter b) :
    exec (.configCommitDone ok) ⟨b, q⟩ = .next ⟨b, q⟩ := by
  simp only [exec, execConfigCommitDone, run_eq, cfgDone, storeHeld_iff.mpr held, if_true]

/-- The block with the inactive copy written by `f`. -/
def copyWritten (f : CfgCopy → CfgCopy) (b : Block) : Block :=
  { b with cfg := { b.cfg with copies := b.cfg.copies.set (1 - getF b F.CFG_STATUS_ACTIVE) (f (b.cfg.copies.getD (1 - getF b F.CFG_STATUS_ACTIVE) {})) } }

/-- A commit that has read back, up to a flush that waited. -/
def commitGood (es : List (Nat × Word)) (b : Block) : Block :=
  cfgEnd 1 (nextSeq b) (cfgShow (1 - getF b F.CFG_STATUS_ACTIVE) (setF F.CFG_STATUS_NONE 0 (copyWritten (cfgMake (nextSeq b) es) b)))

/-- A commit that has not read back, up to a flush that waited. -/
def commitBad (es : List (Nat × Word)) (b : Block) : Block :=
  detectOnce Slot.nvstore 0 (cfgEnd 4 0 (cfgShow (getF b F.CFG_STATUS_ACTIVE) (copyWritten (cfgHeader (nextSeq b) es) b)))

section
variable {es : List (Nat × Word)} (q : List Instr) (captured : b.cfg.captured = some es) (flushed : b.led.flushing = none) (after : StoreAfter b)
include captured flushed after

theorem exec_configCommitDone_good : exec (.configCommitDone true) ⟨b, q⟩ = .next ⟨flushOwed (commitGood es b), q⟩ := by
  simp only [exec, execConfigCommitDone, run_eq, cfgDone, storeHeld_eq_false flushed after, captured, Bool.false_eq_true, if_false, if_true]
  rfl

theorem exec_configCommitDone_bad : exec (.configCommitDone false) ⟨b, q⟩ = .next ⟨flushOwed (commitBad es b), q⟩ := by
  simp only [exec, execConfigCommitDone, run_eq, cfgDone, storeHeld_eq_false flushed after, captured, Bool.false_eq_true, if_false]
  rfl

end

/-- A flush that waited begins: the ledger alone shows it. -/
theorem flushOwed_led (b : Block) : flushOwed b = { b with led := (flushOwed b).led } := by
  unfold flushOwed flushStart
  (repeat' split) <;> rfl

theorem getF_flushOwed (f : Fld) (b : Block) : getF (flushOwed b) f = getF b f := by
  rw [flushOwed_led]
  rfl

theorem uncleared_flushOwed (b : Block) : uncleared (flushOwed b) = uncleared b := by
  rw [flushOwed_led]
  rfl

theorem cfgEnd_fw (result seq : Nat) (b : Block) :
    (cfgEnd result seq b).fw = { b.fw with job := b.fw.job.map fun j => { j with afterCommit := false } } := by
  simp [cfgEnd]

theorem getF_cfgEnd_RESULT (result seq : Nat) (b : Block) (small : result < 16) : getF (cfgEnd result seq b) F.CFG_STATUS_RESULT = result := by
  rw [getF_congr (cfgEnd_regs result seq b), getF_setF _ _ _ (by decide)]
  exact Nat.mod_eq_of_lt small

theorem getF_cfgEnd_BUSY (result seq : Nat) (b : Block) : getF (cfgEnd result seq b) F.CFG_STATUS_BUSY = 0 := by
  rw [getF_congr (cfgEnd_regs result seq b), getF_setF_at F.CFG_STATUS_RESULT F.CFG_STATUS_BUSY]
  exact getF_setF F.CFG_STATUS_BUSY 0 _ (by decide)

/-- The end of a commit is not shown in ACTIVE until its copy is made. -/
theorem getF_cfgEnd_ACTIVE (result seq : Nat) (b : Block) : getF (cfgEnd result seq b) F.CFG_STATUS_ACTIVE = getF b F.CFG_STATUS_ACTIVE := by
  rw [getF_congr (cfgEnd_regs result seq b), getF_setF_at F.CFG_STATUS_RESULT F.CFG_STATUS_ACTIVE, getF_setF_at F.CFG_STATUS_BUSY F.CFG_STATUS_ACTIVE]

theorem getF_cfgEnd_NONE (result seq : Nat) (b : Block) : getF (cfgEnd result seq b) F.CFG_STATUS_NONE = getF b F.CFG_STATUS_NONE := by
  rw [getF_congr (cfgEnd_regs result seq b), getF_setF_at F.CFG_STATUS_RESULT F.CFG_STATUS_NONE, getF_setF_at F.CFG_STATUS_BUSY F.CFG_STATUS_NONE]

theorem getF_cfgShow_NONE (active : Nat) (b : Block) : getF (cfgShow active b) F.CFG_STATUS_NONE = getF b F.CFG_STATUS_NONE := by
  rw [cfgShow, getF_setF_at F.CFG_STATUS_ACTIVE F.CFG_STATUS_NONE, getF_putF_at F.CFG_STATUS_VALID0 F.CFG_STATUS_NONE,
    getF_putF_at F.CFG_STATUS_VALID1 F.CFG_STATUS_NONE, getF_of_getR (f := F.CFG_STATUS_NONE) (getR_setR_ne _ _ (by decide)),
    getF_of_getR (f := F.CFG_STATUS_NONE) (getR_setR_ne _ _ (by decide))]

theorem active_lt (b : Block) : getF b F.CFG_STATUS_ACTIVE < 2 := bitsOf_lt _ _ _

theorem commitGood_shows (es : List (Nat × Word)) (b : Block) :
    (commitGood es b).cfg = { copies := b.cfg.copies.set (1 - getF b F.CFG_STATUS_ACTIVE) (cfgMake (nextSeq b) es (b.cfg.copies.getD (1 - getF b F.CFG_STATUS_ACTIVE) {})) } ∧
      getF (commitGood es b) F.CFG_STATUS_BUSY = 0 ∧ getF (commitGood es b) F.CFG_STATUS_RESULT = 1 ∧
      getF (commitGood es b) F.CFG_STATUS_NONE = 0 ∧ getF (commitGood es b) F.CFG_STATUS_ACTIVE = 1 - getF b F.CFG_STATUS_ACTIVE ∧
      (commitGood es b).lc = b.lc ∧ (commitGood es b).fw = { b.fw with job := b.fw.job.map fun j => { j with afterCommit := false } } := by
  unfold commitGood
  refine ⟨?_, getF_cfgEnd_BUSY _ _ _, getF_cfgEnd_RESULT _ _ _ (by decide), ?_, ?_, ?_, ?_⟩
  · simp [cfgEnd_cfg, copyWritten]
  · exact (getF_cfgEnd_NONE _ _ _).trans ((getF_cfgShow_NONE _ _).trans (getF_setF F.CFG_STATUS_NONE 0 _ (by decide)))
  · exact (getF_cfgEnd_ACTIVE _ _ _).trans (getF_cfgShow_ACTIVE _ _ (by omega))
  · simp [copyWritten]
  · simp [cfgEnd_fw, copyWritten]

theorem commitBad_shows (es : List (Nat × Word)) (b : Block) :
    (commitBad es b).cfg = { copies := b.cfg.copies.set (1 - getF b F.CFG_STATUS_ACTIVE) (cfgHeader (nextSeq b) es (b.cfg.copies.getD (1 - getF b F.CFG_STATUS_ACTIVE) {})) } ∧
      getF (commitBad es b) F.CFG_STATUS_BUSY = 0 ∧ getF (commitBad es b) F.CFG_STATUS_RESULT = 4 ∧
      getF (commitBad es b) F.CFG_STATUS_ACTIVE = getF b F.CFG_STATUS_ACTIVE ∧ Slot.nvstore ∈ uncleared (commitBad es b) ∧
      (commitBad es b).lc = b.lc ∧ (commitBad es b).fw = { b.fw with job := b.fw.job.map fun j => { j with afterCommit := false } } := by
  unfold commitBad detectOnce
  have found := spared_detect (found := [(Slot.nvstore, 0)]) (.rfl (b := cfgEnd 4 0 (cfgShow (getF b F.CFG_STATUS_ACTIVE) (copyWritten (cfgHeader (nextSeq b) es) b))))
  refine ⟨found.cfg.trans ?_, found.getF.trans (getF_cfgEnd_BUSY _ _ _), found.getF.trans (getF_cfgEnd_RESULT _ _ _ (by decide)), ?_,
    uncleared_detect _ (List.mem_singleton_self _) (by decide), found.lc.trans ?_, found.fw.trans ?_⟩
  · simp [cfgEnd_cfg, copyWritten]
  · exact found.getF.trans ((getF_cfgEnd_ACTIVE _ _ _).trans (getF_cfgShow_ACTIVE _ _ (active_lt b)))
  · simp [copyWritten]
  · simp [cfgEnd_fw, copyWritten]

end

end Sys2Proof.Machine

namespace Sys2Proof
open Machine

/-- Settles O17: a commit from its request through its capture to either end. -/
theorem configurationCommit : Obligations.ConfigurationCommit := by
  intro b q
  refine ⟨fun on acting life idle outside => ?_, fun on out => ?_, fun on acting life busy => ?_, fun r d can resvd p0 addr tail acting life idle outside => ?_,
    fun asked idle run => ⟨fun free => ?_, fun held => ?_⟩, fun held ok => exec_configCommitDone_held q ok held, fun es captured flushed after => ⟨?_, ?_⟩⟩
  · rw [exec_cfgCommit q on, (cfgAsk_taken acting life idle outside).1]
  · rw [exec_cfgCommit q on, cfgAsk_none_retired out]
  · rw [exec_cfgCommit q on, cfgAsk_none_busy acting life busy]
  · have valid : (d.p0 != 0 || d.addr != 0 || !tail0 d) = false := by simp [p0, addr, tail]
    have starts := startCmd_go (op := 0x0C) (cfgAsk (some r.val)) can resvd valid rfl
    have taken := (cfgAsk_taken (b := startedCmd r.val 0x0C d b) acting life idle outside).2 r.val
    have status : R.CFG_STATUS ≠ R.HST_SQ_STATUS r.val := by simp only [R.CFG_STATUS, R.HST_SQ_STATUS]; omega
    refine ⟨_, ?_, cmdWaits_waitOn (x := setF F.CFG_STATUS_BUSY 1 { startedCmd r.val 0x0C d b with cfg := { b.cfg with requested := true } }) rfl
      (getR_setF_ne F.CFG_STATUS_BUSY 1 _ status.symm), ?_, ?_, fun a other own => ?_⟩
    · simp only [exec, execNvCommit, run_eq, starts, taken]
      rfl
    · rw [waitOn_hst]
      rfl
    · rw [waitOn_hst]
      exact getF_setF F.CFG_STATUS_BUSY 1 _ (by decide)
    · rw [waitOn_hst]
      exact (getR_setF_ne F.CFG_STATUS_BUSY 1 _ other).trans (getR_startedCmd_ne r.val 0x0C d b own)
  · obtain ⟨flushed, after⟩ := free
    rw [exec_configCommitCapture q asked idle run, commitTurn_free (b := valuesCaptured b) rfl flushed after]
    rfl
  · rw [exec_configCommitCapture q asked idle run, commitTurn_held (b := valuesCaptured b) held]
    rfl
  · obtain ⟨cfg, busy, result, none, active, lc, fw⟩ := commitGood_shows es b
    refine ⟨_, exec_configCommitDone_good q captured flushed after, ?_⟩
    simp only [flushOwed_keeps, getF_flushOwed]
    exact ⟨cfg, busy, result, none, active, lc, fw⟩
  · obtain ⟨cfg, busy, result, active, source, lc, fw⟩ := commitBad_shows es b
    refine ⟨_, exec_configCommitDone_bad q captured flushed after, ?_⟩
    simp only [flushOwed_keeps, getF_flushOwed, uncleared_flushOwed]
    exact ⟨cfg, busy, result, active, source, lc, fw⟩

end Sys2Proof

namespace Sys2Proof.Machine

/-! Module resets (R76, R97, R100, R102, R494). -/

section
variable (cause : Nat) (b : Block)

/-- The block that a module reset leaves, before its registers show the life cycle and the cause. -/
def resetBlock : Block := {
  out := b.out, freeCtr := b.freeCtr
  pins := { safeIn := b.pins.safeIn, perstN := b.pins.perstN, bootsel := b.pins.bootsel, extest := b.pins.extest }
  pwr := { supplyLost := b.pwr.supplyLost }
  fw := { copies := b.fw.copies, running := b.fw.running, floor := b.fw.floor, words := b.fw.words }
  lc := { records := b.lc.records, life := lifeStored b.lc, acting := lifeStored b.lc, keySvc := b.lc.keySvc, keyCw := b.lc.keyCw }
  cfg := { copies := b.cfg.copies }
  sl := { cond := heldConds b }
  led := (ledgerRestart b).led
  bist := { copies := b.bist.copies }
  calib := b.calib, dieIds := b.dieIds
  hst := { inReset := !b.pins.perstN } }

theorem moduleReset_eq : moduleReset cause b =
    putF F.LC_STATE_LOCKED (isF b F.LC_STATE_LOCKED && cause != 8) (setR R.PWR_CAUSE (w32 (2 ^ cause)) (lcShow (resetBlock b))) := rfl

theorem getR_resetBlock (a : Nat) : getR (resetBlock b) a = resetWord a := rfl

/-- LC_STATE's reset word counts no failure and holds no result. -/
theorem resetWord_LC_STATE : resetWord R.LC_STATE = 0 := by decide

theorem getR_moduleReset_PWR_CAUSE : getR (moduleReset cause b) R.PWR_CAUSE = w32 (2 ^ cause) := by
  rw [moduleReset_eq, getR_putF_ne _ _ _ (by decide), getR_setR]

theorem getR_moduleReset_ne {a : Nat} (hc : a ≠ R.PWR_CAUSE) (hs : a ≠ R.LC_STATE) : getR (moduleReset cause b) a = resetWord a := by
  rw [moduleReset_eq, getR_putF_ne _ _ _ hs, getR_setR_ne _ _ hc, getR_lcShow_ne _ hs, getR_resetBlock]

/-- A field of LC_STATE beside LOCKED reads as the life cycle is shown. -/
theorem getF_moduleReset (f : Fld) (reg : f.reg = R.LC_STATE) (below : f.lo + f.len ≤ 24) : getF (moduleReset cause b) f = getF (lcShow (resetBlock b)) f := by
  rw [moduleReset_eq, getF_putF_at F.LC_STATE_LOCKED f _ _ (by decide) reg (.inl below), getF_of_getR (getR_setR_ne _ _ (by rw [reg]; decide))]

theorem getF_moduleReset_LOCKED : getF (moduleReset cause b) F.LC_STATE_LOCKED = if cause = 8 then 0 else getF b F.LC_STATE_LOCKED := by
  rw [moduleReset_eq, getF_putF _ _ _ (by decide) (by decide)]
  by_cases power : cause = 8
  · simp [power, nat01]
  · rw [if_neg power, bne_iff_ne.mpr power, Bool.and_true]
    cases locked : isF b F.LC_STATE_LOCKED
    · exact ((isF_eq_false _ _).mp locked).symm
    · exact (getF_eq_one rfl locked).symm

/-- A module reset leaves the block as AfterReset says, in whatever state the rails put it. -/
theorem afterReset_moduleReset (p : PowerState) :
    AfterReset cause b { moduleReset cause b with pwr := { (moduleReset cause b).pwr with state := p } } := by
  have zero : ∀ {f : Fld}, bitsOf (resetWord R.LC_STATE).toNat f.lo f.len = 0 := by simp [resetWord_LC_STATE, bitsOf]
  have state := (getF_moduleReset cause b F.LC_STATE_STATE rfl (by decide)).trans (getF_lcShow_STATE _)
  have svc := (getF_moduleReset cause b F.LC_STATE_KEY_SVC rfl (by decide)).trans (getF_lcShow_KEY_SVC _)
  have cw := (getF_moduleReset cause b F.LC_STATE_KEY_CW rfl (by decide)).trans (getF_lcShow_KEY_CW _)
  have fails := (getF_moduleReset cause b F.LC_STATE_AUTH_FAIL rfl (by decide)).trans ((getF_lcShow_above F.LC_STATE_AUTH_FAIL _ rfl (by decide)).trans zero)
  have result := (getF_moduleReset cause b F.LC_STATE_RESULT rfl (by decide)).trans ((getF_lcShow_above F.LC_STATE_RESULT _ rfl (by decide)).trans zero)
  exact ⟨getR_moduleReset_PWR_CAUSE cause b, fun a hc hs => getR_moduleReset_ne cause b hc hs, state, svc, cw, fails, result, getF_moduleReset_LOCKED cause b,
    rfl, rfl, rfl, rfl, rfl, rfl, rfl, rfl, rfl, rfl, rfl, rfl, rfl, rfl, rfl, rfl, rfl, rfl, rfl, rfl, rfl, rfl, rfl, rfl, rfl, rfl⟩

theorem afterReset_resetFor (on : b.pwr.state ≠ .off) : AfterReset cause b (resetFor cause b) ∧ (resetFor cause b).pwr.state = .boot := by
  rw [resetFor, if_neg on]
  exact ⟨afterReset_moduleReset cause b .boot, rfl⟩

end

end Sys2Proof.Machine

namespace Sys2Proof
open Machine

/-- Settles O10: every module reset is `moduleReset` for its cause. -/
theorem moduleResets : Obligations.ModuleResets := by
  intro b q
  refine ⟨⟨_, rfl, afterReset_moduleReset 8 b .off, rfl⟩, fun on => ⟨_, rfl, afterReset_resetFor 9 b on⟩, fun on owed => ⟨_, ?_, afterReset_resetFor 10 b on⟩,
    fun none => ?_, fun on late => ⟨_, ?_, afterReset_resetFor 11 b on⟩, fun early => ?_⟩
  · simp only [exec, execChipReset, run_eq, owed, if_true]
  · simp only [exec, execChipReset, run_eq, none, Bool.false_eq_true, if_false]
  · simp only [exec, execWatchdogExpiry, run_eq, late, if_true]
  · simp only [exec, execWatchdogExpiry, run_eq, Nat.not_le.mpr early, if_false]

end Sys2Proof

namespace Sys2Proof.Machine

/-! The endpoint: its resets, its link, configuration requests and the causes of suspension (R83, R384 to R386, R413, R414). -/

section
variable {b : Block}

/-- A map without the keys that `p` names reads there as the default. -/
theorem mapGet_filter {α : Type} (d : Nat → α) (m : List (Nat × α)) (p : Nat → Bool) (k : Nat) :
    mapGet d (m.filter fun x => !p x.1) k = if p k then d k else mapGet d m k := by
  induction m with
  | nil => simp [mapGet]
  | cons x m ih =>
    by_cases named : p x.1 = true
    · rw [List.filter_cons_of_neg (by simp [named]), ih]
      by_cases same : k = x.1
      · simp [same, named]
      · simp [mapGet, same]
    · rw [List.filter_cons_of_pos (by simp [named])]
      by_cases same : k = x.1
      · simp [mapGet, same, named]
      · simp [mapGet, same, ih]

/-- Every HST register is at its reset value, and no other register changes. -/
theorem getR_hstReset (b : Block) (a : Nat) : getR (hstReset b) a = if 0x2000 ≤ a ∧ a < 0x3000 then resetWord a else getR b a := by
  have filtered := mapGet_filter resetWord b.regs (fun a => decide (0x2000 ≤ a ∧ a < 0x3000)) a
  simp only [decide_eq_true_eq] at filtered
  exact filtered

theorem functionReset_eq (b : Block) : functionReset b = setF F.HST_LINK_L1 0 (setR R.HST_LINK (getR b R.HST_LINK) (hstReset b)) := rfl

theorem getR_functionReset_ne {a : Nat} (b : Block) (h : a ≠ R.HST_LINK) : getR (functionReset b) a = getR (hstReset b) a := by
  rw [functionReset_eq, getR_setF_ne _ _ _ h, getR_setR_ne _ _ h]

/-- The link's speed and width stay over a Function Level Reset. -/
theorem getF_functionReset (f : Fld) (b : Block) (reg : f.reg = R.HST_LINK) (above : 2 ≤ f.lo) : getF (functionReset b) f = getF b f := by
  rw [functionReset_eq, getF_setF_at F.HST_LINK_L1 f _ _ (by decide) reg (.inr above)]
  exact getF_of_getR (by rw [reg, getR_setR])

theorem pcieUp_iff (b : Block) : pcieUp b = true ↔ pcieActive b = true ∧ b.hst.linkUp = true ∧ b.hst.inReset = false ∧ awake b = true := by
  simp [pcieUp, and_assoc]

/-- Work that a suspension held back is resumed at the next frame: `resuming` alone shows it. -/
theorem resumeAfter_shows (f : Block → Block) (b : Block) :
    resumeAfter f b = { f b with hst := { (f b).hst with resuming := (resumeAfter f b).hst.resuming } } ∧
      dmaSuspended (resumeAfter f b) = dmaSuspended (f b) ∧
      (dmaSuspended b = true → dmaSuspended (f b) = false → (resumeAfter f b).hst.resuming = true) := by
  have cases : resumeAfter f b = if (dmaSuspended b && !dmaSuspended (f b)) = true then { f b with hst := { (f b).hst with resuming := true } } else f b := rfl
  by_cases ends : (dmaSuspended b && !dmaSuspended (f b)) = true
  · rw [cases, if_pos ends]
    exact ⟨rfl, rfl, fun _ _ => rfl⟩
  · rw [cases, if_neg ends]
    exact ⟨rfl, rfl, fun was none => absurd (by simp [was, none]) ends⟩

/-- A cause that begins leaves DMA suspended. -/
theorem resumeAfter_of_suspended {f : Block → Block} (h : dmaSuspended (f b) = true) : resumeAfter f b = f b := by
  simp [resumeAfter, h]

/-! The commands of the family. -/

theorem exec_functionLevelReset (q : List Instr) : exec .functionLevelReset ⟨b, q⟩ = .next ⟨if pcieUp b then functionReset b else b, q⟩ := rfl

theorem exec_perstNRelease (q : List Instr) (going : b.pwr.parked = false) :
    exec .perstNRelease ⟨b, q⟩ = .next ⟨{ b with pins := { b.pins with perstN := true }, hst := { b.hst with
      inReset := !pcieActive b, perstAt := if b.pins.perstN then b.hst.perstAt else devF b } }, q⟩ := by
  simp only [exec, execPerstNRelease, run_eq, going, Bool.false_eq_true, if_false]

theorem exec_aspmL1Entry (q : List Instr) :
    exec .aspmL1Entry ⟨b, q⟩ = .next ⟨if decide (b.pwr.state = .standby) && pcieUp b then setF F.HST_LINK_L1 1 b else b, q⟩ := rfl

/-- The link is up, and WAKE_N released. -/
def linkTrained (b : Block) : Block := { b with hst := { b.hst with linkUp := true }, pins := { b.pins with wakeNLow := false } }

/-- What HST_LINK shows of a link that trained. -/
def linkShown (speed : Nat) (x2 : Bool) (b : Block) : Block :=
  setF F.HST_LINK_L1 0 (setF F.HST_LINK_SPEED speed (setF F.HST_LINK_WIDTH (if x2 then 2 else 1) b))

theorem exec_pcieLinkUp (speed : BitVec 2) (x2 : Bool) (q : List Instr) (trains : speed ≠ 0) (out : b.hst.inReset = false) (active : pcieActive b = true)
    (on : awake b = true) : exec (.pcieLinkUp speed x2) ⟨b, q⟩ = .next ⟨linkShown speed.toNat x2 (resumeAfter linkTrained b), q⟩ := by
  simp only [exec, execPcieLinkUp, run_eq, out, active, on, trains, Bool.not_true, Bool.or_self, decide_false, Bool.false_eq_true, if_false]
  rfl

theorem linkShown_fields (speed : Nat) (x2 : Bool) (b : Block) (small : speed < 16) :
    getF (linkShown speed x2 b) F.HST_LINK_SPEED = speed ∧ getF (linkShown speed x2 b) F.HST_LINK_WIDTH = (if x2 then 2 else 1) ∧
      getF (linkShown speed x2 b) F.HST_LINK_L1 = 0 ∧ RegsBut [R.HST_LINK] b (linkShown speed x2 b) := by
  unfold linkShown
  refine ⟨?_, ?_, getF_setF F.HST_LINK_L1 0 _ (by decide), ((RegsBut.rfl.setF (by simp [F.HST_LINK_WIDTH])).setF (by simp [F.HST_LINK_SPEED])).setF (by simp [F.HST_LINK_L1])⟩
  · rw [getF_setF_at F.HST_LINK_L1 F.HST_LINK_SPEED, getF_setF _ _ _ (by decide)]
    exact Nat.mod_eq_of_lt small
  · rw [getF_setF_at F.HST_LINK_L1 F.HST_LINK_WIDTH, getF_setF_at F.HST_LINK_SPEED F.HST_LINK_WIDTH, getF_setF _ _ _ (by decide)]
    cases x2 <;> rfl

/-- HST_LINK has no share in the suspension of DMA. -/
theorem dmaSuspended_linkShown (speed : Nat) (x2 : Bool) (b : Block) : dmaSuspended (linkShown speed x2 b) = dmaSuspended b := by
  have failed : isF (linkShown speed x2 b) F.BIST_FAILED_DMA = isF b F.BIST_FAILED_DMA := by
    simp only [isF, linkShown]
    rw [getF_setF_ne F.HST_LINK_L1 F.BIST_FAILED_DMA _ _ (by decide), getF_setF_ne F.HST_LINK_SPEED F.BIST_FAILED_DMA _ _ (by decide),
      getF_setF_ne F.HST_LINK_WIDTH F.BIST_FAILED_DMA _ _ (by decide)]
  unfold dmaSuspended
  rw [failed]
  rfl

theorem exec_pcieConfigRequest (r : CfgRequest) (q : List Instr) : exec (.pcieConfigRequest r) ⟨b, q⟩ = .next ⟨configRequest r b, q⟩ := rfl
theorem exec_dmaSuspend (k : SuspendCause) (q : List Instr) : exec (.dmaSuspend k) ⟨b, q⟩ = .next ⟨suspend k true b, q⟩ := rfl
theorem exec_dmaResume (k : SuspendCause) (q : List Instr) : exec (.dmaResume k) ⟨b, q⟩ = .next ⟨suspend k false b, q⟩ := rfl

/-! Configuration requests (R83, R385). -/

theorem configAnswers_iff (b : Block) :
    configAnswers b = true ↔ b.hst.perstAt + 2000 ≤ devF b ∨ (b.hst.perstAt = 0 ∧ 100000 ≤ 50 * devF b + b.clock.lockUs) := by
  simp [configAnswers]

theorem configRequest_silent (r : CfgRequest) (h : pcieUp b = false ∨ configAnswers b = false) : configRequest r b = b := by
  rcases h with h | h <;> simp [configRequest, h]

section
variable (up : pcieUp b = true) (answers : configAnswers b = true)
include up answers

theorem configRequest_retry (r : CfgRequest) (unverified : b.pwr.fwReady = false) : configRequest r b = emitOut (.pcieConfig true 0) b := by
  simp only [configRequest, up, answers, unverified, Bool.not_true, Bool.not_false, Bool.or_self, Bool.false_eq_true, if_false, if_true]

/-- What a request does once the firmware is verified. -/
theorem configRequest_eq (verified : b.pwr.fwReady = true) :
    (∀ o, configRequest (.read o) b = emitOut (.pcieConfig false (configDword b o.toNat)) b) ∧
    (∀ on, configRequest (.busMaster on) b = emitOut (.pcieConfig false 0) (resumeAfter (fun b => { b with hst := { b.hst with bme := on } }) b)) ∧
    (∀ on, configRequest (.power on) b = emitOut (.pcieConfig false 0) (resumeAfter (fun b => { b with hst := { b.hst with d3hot := on } }) b)) ∧
    (∀ en m, configRequest (.msix en m) b = emitOut (.pcieConfig false 0) { b with hst := { b.hst with msixEn := en, msixMask := m } }) ∧
    (∀ on, configRequest (.ptm on) b = emitOut (.pcieConfig false 0) { b with hst := { b.hst with ptm := on } }) ∧
    (∀ (i : Fin 4) v, configRequest (.bar i v) b = emitOut (.pcieConfig false 0) (barWrite i.val v b)) ∧
    ∀ on, configRequest (.aspmL1 on) b = putF F.HST_LINK_L1 on b := by
  simp only [configRequest, up, answers, verified, Bool.not_true, Bool.or_self, Bool.false_eq_true, if_false, implies_true, and_self]

end

/-! Suspension of DMA (R414). -/

/-- A cause of suspension begins or ends. -/
def causeSet (k : SuspendCause) (on : Bool) (b : Block) : Block :=
  match k with
  | .linkDown => { b with hst := { b.hst with linkUp := !on } }
  | .busMaster => { b with hst := { b.hst with bme := !on } }
  | .d3hot => { b with hst := { b.hst with d3hot := on } }

theorem suspend_idle (k : SuspendCause) (on : Bool) (h : b.hst.inReset = true ∨ pcieActive b = false ∨ awake b = false) : suspend k on b = b := by
  rcases h with h | h | h <;> simp [suspend, h]

theorem suspend_eq (k : SuspendCause) (on : Bool) (out : b.hst.inReset = false) (active : pcieActive b = true) (up : awake b = true) :
    suspend k on b = resumeAfter (causeSet k on) b := by
  simp only [suspend, out, active, up, Bool.not_true, Bool.or_self, Bool.false_eq_true, if_false]
  rfl

theorem dmaSuspended_causeSet (k : SuspendCause) (b : Block) : dmaSuspended (causeSet k true b) = true := by
  cases k <;> simp [dmaSuspended, causeSet]

end

end Sys2Proof.Machine

namespace Sys2Proof
open Machine

/-- Settles O25: a reset of the endpoint clears what `hstReset` clears, and its release, the training and L1 touch their own fields. -/
theorem endpointResets : Obligations.EndpointResets := by
  intro b q
  refine ⟨⟨_, rfl, rfl, fun a => getR_hstReset b a⟩, fun up => ?_, fun down => ?_, exec_perstNRelease q, fun speed x2 trains out active on => ?_,
    fun standby up => ?_, fun other => ?_⟩
  · obtain ⟨-, link, out, -⟩ := (pcieUp_iff b).mp up
    refine ⟨functionReset b, by rw [exec_functionLevelReset, if_pos up], ?_, fun a other => (getR_functionReset_ne b other).trans (getR_hstReset b a),
      getF_functionReset _ b rfl (by decide), getF_functionReset _ b rfl (by decide), getF_setF F.HST_LINK_L1 0 _ (by decide)⟩
    have frame : functionReset b = { forgetRings b with regs := (functionReset b).regs, hst := {
        linkUp := b.hst.linkUp, inReset := b.hst.inReset, perstAt := b.hst.perstAt, summary := b.hst.summary, pageAt := b.hst.pageAt } } := rfl
    rwa [link, out] at frame
  · rw [exec_functionLevelReset, if_neg (by simp [down])]
  · obtain ⟨frame, suspended, resumes⟩ := resumeAfter_shows linkTrained b
    obtain ⟨speedShown, width, l1, regs⟩ := linkShown_fields speed.toNat x2 (resumeAfter linkTrained b) (speed.isLt.trans (by decide))
    refine ⟨_, exec_pcieLinkUp speed x2 q trains out active on, ?_, speedShown, width, l1, fun a other => ?_, fun was none => resumes was ?_⟩
    · exact congrArg (fun x : Block => { x with regs := (linkShown speed.toNat x2 (resumeAfter linkTrained b)).regs }) frame
    · rw [regs a other, frame]
      rfl
    · rwa [dmaSuspended_linkShown, suspended] at none
  · rw [exec_aspmL1Entry, if_pos (by simp [standby, up])]
    exact ⟨_, rfl, rfl, getF_setF F.HST_LINK_L1 1 _ (by decide), RegsBut.rfl.setF (by simp [F.HST_LINK_L1])⟩
  · rw [exec_aspmL1Entry, if_neg (by simp [other])]

/-- Settles O26: requests by whether the endpoint answers and the firmware is verified, and the causes one by one. -/
theorem configurationRequests : Obligations.ConfigurationRequests := by
  intro b q
  refine ⟨fun up late => ?_, fun silent r => ?_, rfl, fun idle k => ?_, fun out active on k => ?_⟩
  · have answers := (configAnswers_iff b).mpr late
    refine ⟨fun unverified r => ?_, fun verified => ?_⟩
    · rw [exec_pcieConfigRequest, configRequest_retry up answers r unverified]
      rfl
    · obtain ⟨read, master, power, msix, ptm, bar, l1⟩ := configRequest_eq up answers verified
      have performed : ∀ {r x}, configRequest r b = x → exec (.pcieConfigRequest r) ⟨b, q⟩ = .next ⟨x, q⟩ := fun h => by
        rw [exec_pcieConfigRequest, h]
      refine ⟨fun o => performed (read o), fun on => ?_, fun on => ?_, fun en m => performed (msix en m), fun on => performed (ptm on), fun i v => ?_, fun on => ?_⟩
      · obtain ⟨frame, suspended, resumes⟩ := resumeAfter_shows (fun b => { b with hst := { b.hst with bme := on } }) b
        exact ⟨_, performed (master on), congrArg (emitOut (.pcieConfig false 0)) frame, fun was none => resumes was (suspended.symm.trans none)⟩
      · obtain ⟨frame, suspended, resumes⟩ := resumeAfter_shows (fun b => { b with hst := { b.hst with d3hot := on } }) b
        exact ⟨_, performed (power on), congrArg (emitOut (.pcieConfig false 0)) frame, fun was none => resumes was (suspended.symm.trans none)⟩
      · rw [performed (bar i v)]
        simp only [barWrite, emitOut, Fin.ext_iff]
        rfl
      · exact ⟨_, performed (l1 on), rfl, getF_putF F.HST_LINK_L1 on b (by decide) (by decide), RegsBut.rfl.setF (by simp [F.HST_LINK_L1])⟩
  · have quiet : pcieUp b = false ∨ configAnswers b = false := silent.imp_right fun ⟨soon, locked⟩ => by
      rw [Bool.eq_false_iff, Ne, configAnswers_iff]
      omega
    rw [exec_pcieConfigRequest, configRequest_silent r quiet]
  · rw [exec_dmaSuspend, exec_dmaResume, suspend_idle k true idle, suspend_idle k false idle]
    exact ⟨rfl, rfl⟩
  · have begins := (suspend_eq k true out active on).trans (resumeAfter_of_suspended (dmaSuspended_causeSet k b))
    have ends := suspend_eq k false out active on
    obtain ⟨frame, suspended, resumes⟩ := resumeAfter_shows (causeSet k false) b
    refine ⟨⟨_, by rw [exec_dmaSuspend, begins], dmaSuspended_causeSet k b, ?_⟩,
      ⟨_, by rw [exec_dmaResume, ends], fun was none => resumes was (suspended.symm.trans none), ?_⟩⟩
    · cases k <;> rfl
    · refine frame.trans ?_
      cases k <;> rfl

end Sys2Proof

namespace Sys2Proof.Machine

/-! Conditions of the supervisor's hardware detectors (R455 to R460, R466). -/

/-- Every slot of a hardware detector is assigned. -/
theorem srcOf_detector {i : Nat} (h : i < 8) : (srcOf i).isSome = true := by
  have all : ∀ j : Fin 8, (srcOf j.val).isSome = true := by decide
  exact all ⟨i, h⟩

section
variable {b : Block}

/-- The block in which a detector that fires is found: its condition held, its source live. -/
def liveSource (i det : Nat) (b : Block) : Block :=
  putArrBit (R.SL_LIVE 0) i true (putCond i { condOf b i with level := true, levelDet := (condOf b i).levelDet ||| det } b)

theorem detectNow_eq (i det : Nat) (b : Block) : detectNow i det b = detect [(i, det)] (liveSource i det b) := rfl

theorem uncleared_hbtFollow (b : Block) : uncleared (hbtFollow b) = uncleared b := when_proj uncleared _ _ _ rfl

theorem liveSource_spared {lo hi : Nat} (i det : Nat) (b : Block) (out : R.SL_LIVE 0 + 4 * (i / 32) < lo ∨ hi ≤ R.SL_LIVE 0 + 4 * (i / 32)) :
    Spared lo hi false b (liveSource i det b) := Spared.putArrBit (.putCond .rfl) out

/-- A detector that fires: its source is live and uncleared, its detail is added, and nothing of the nonvolatile side changes. -/
theorem detectNow_shows {i : Nat} (det : Nat) (b : Block) (small : i < 8) :
    arrBit (detectNow i det b) (R.SL_LIVE 0) i = true ∧ i ∈ uncleared (detectNow i det b) ∧
      getR (detectNow i det b) (R.SL_DETAIL i) = getR b (R.SL_DETAIL i) ||| w32 det := by
  have found : Spared 0x4140 0x4800 false (liveSource i det b) (detectNow i det b) := Spared.detect .rfl
  refine ⟨?_, uncleared_detect _ (List.mem_singleton_self _) (srcOf_detector small), ?_⟩
  · rw [found.arrBit (by omega) (by decide) (by decide)]
    exact (arrBit_putArrBit _ _ _ _ _).trans (if_pos rfl)
  · rw [detectNow_eq, detail_detect _ _ (srcOf_detector small), (liveSource_spared (lo := 0x5000) (hi := 0x6000) i det b
      (.inl (by unfold R.SL_LIVE; omega))).getR (by unfold R.SL_DETAIL; omega) (by unfold R.SL_DETAIL; omega)]

/-- Finding a detector's condition changes nothing below the SPI's registers, nor time, stores or lands. -/
theorem detectNow_spared (i det : Nat) (b : Block) : Spared 0 0x3000 false b (detectNow i det b) :=
  spared_detect (liveSource_spared i det b (out_of_base (by decide)))

theorem detectNow_pwr (i det : Nat) (b : Block) : SafeEntered b.pwr (detectNow i det b).pwr := detect_pwr _ (liveSource i det b)

theorem exec_supervisorDetector_awake (src : Fin 8) (detail : Word) (q : List Instr) (other : src.val ≠ Slot.safeIn) (up : awake b = true) :
    exec (.supervisorDetector src detail) ⟨b, q⟩ = .next ⟨hbtFollow (detectNow src.val detail.toNat b), q⟩ := by
  simp only [exec, execSupervisorDetector, run_eq, other, up, if_false, if_true]

theorem exec_supervisorDetector_asleep (src : Fin 8) (detail : Word) (q : List Instr) (other : src.val ≠ Slot.safeIn) (down : awake b = false) :
    exec (.supervisorDetector src detail) ⟨b, q⟩ = .next ⟨holdCond src.val detail.toNat b, q⟩ := by
  simp only [exec, execSupervisorDetector, run_eq, other, down, Bool.false_eq_true, if_false]

/-- The land SAFE_IN is high. -/
def safeInRaised (b : Block) : Block := { b with pins := { b.pins with safeIn := true } }

theorem exec_safeInAssert (q : List Instr) : exec .safeInAssert ⟨b, q⟩ =
    .next ⟨if framesRun b then hbtFollow (enterSafe 0 Slot.safeIn (detectNow Slot.safeIn 0 (safeInRaised b))) else safeInRaised b, q⟩ := rfl

/-- SAFE_IN, found while frames run. -/
theorem safeIn_shows (b : Block) :
    let c := hbtFollow (enterSafe 0 Slot.safeIn (detectNow Slot.safeIn 0 (safeInRaised b)))
    Spared 0 0x3000 false (safeInRaised b) c ∧ arrBit c (R.SL_LIVE 0) Slot.safeIn = true ∧ Slot.safeIn ∈ uncleared c := by
  intro c
  obtain ⟨live, source, -⟩ := detectNow_shows 0 (safeInRaised b) (i := Slot.safeIn) (by decide)
  have after : ∀ {lo hi}, hi ≤ 0x7000 → Spared lo hi false (detectNow Slot.safeIn 0 (safeInRaised b)) c := fun low =>
    spared_hbtFollow (spared_enterSafe low .rfl)
  refine ⟨(detectNow_spared _ _ _).trans (after (by decide)), ?_, ?_⟩
  · rw [(after (lo := 0x4140) (hi := 0x4800) (by decide)).arrBit (by decide) (by decide) (by decide), live]
  · have kept := after (lo := 0x4100) (hi := 0x4800) (by decide)
    rw [mem_uncleared (by decide)] at source ⊢
    rwa [kept.refused, sticky, kept.arrBit (by decide) (by decide) (by decide)]

/-- From RUN or STANDBY it leads to SAFE. -/
theorem safeIn_state (b : Block) (was : b.pwr.state = .run ∨ b.pwr.state = .standby) :
    let c := hbtFollow (enterSafe 0 Slot.safeIn (detectNow Slot.safeIn 0 (safeInRaised b)))
    c.pwr.state = .safe ∧ c.pwr.request = none := by
  intro c
  have follows : c.pwr = (enterSafe 0 Slot.safeIn (detectNow Slot.safeIn 0 (safeInRaised b))).pwr := when_proj Block.pwr _ _ _ rfl
  rw [follows]
  rcases detectNow_pwr Slot.safeIn 0 (safeInRaised b) with stays | ⟨-, safe, none⟩
  · exact enterSafe_leaves _ _ (by rw [stays]; exact was)
  · rcases enterSafe_pwr 0 Slot.safeIn (detectNow Slot.safeIn 0 (safeInRaised b)) with kept | ⟨served, -, -⟩
    · rw [kept]
      exact ⟨safe, none⟩
    · simp [safe] at served

/-- A condition that ends: the source's live bit and condition alone show it. -/
theorem endNow_shows {i : Nat} (b : Block) (small : i < 8) :
    endNow i b = { b with regs := (endNow i b).regs, sl := { b.sl with cond := (endNow i b).sl.cond } } ∧
      arrBit (endNow i b) (R.SL_LIVE 0) i = arrBit b (R.SL_INJ_ACT 0) i ∧
      (∀ j, j ≠ i → arrBit (endNow i b) (R.SL_LIVE 0) j = arrBit b (R.SL_LIVE 0) j ∧ condOf (endNow i b) j = condOf b j) ∧
      (condOf (endNow i b) i).level = false ∧ RegsBut [R.SL_LIVE 0] b (endNow i b) := by
  refine ⟨rfl, ?_, fun j other => ⟨?_, condOf_setLevel_ne b other⟩, level_setLevel i 0 false b, fun a out => getR_setR_ne _ _ ?_⟩
  · exact (arrBit_putArrBit _ _ _ _ _).trans (if_pos rfl)
  · exact (arrBit_putArrBit _ _ _ _ _).trans (if_neg other)
  · have word : R.SL_LIVE 0 + 4 * (i / 32) = R.SL_LIVE 0 := by omega
    rw [word]
    exact fun e => out (by simp [e])

theorem exec_detectorConditionEnd (src : Fin 8) (q : List Instr) (other : src.val ≠ Slot.safeIn) :
    exec (.detectorConditionEnd src) ⟨b, q⟩ = .next ⟨endNow src.val b, q⟩ := by
  simp only [exec, execDetectorConditionEnd, run_eq, other, if_false]

end

end Sys2Proof.Machine

namespace Sys2Proof
open Machine

/-- Settles O19: a detection leaves its source live and uncleared, SAFE_IN's also the state; the end of a condition takes its live bit alone. -/
theorem detectorConditions : Obligations.DetectorConditions := by
  refine ⟨fun b q => ⟨fun src detail other up => ?_, fun src detail other down => ?_, fun src detail same => ?_, fun runs => ?_, fun idle => ?_⟩,
    fun b q => ⟨fun src same => ?_, fun src other => ?_, ?_⟩⟩
  · obtain ⟨live, source, added⟩ := detectNow_shows detail.toNat b src.isLt
    have after : ∀ {lo hi}, Spared lo hi false (detectNow src.val detail.toNat b) (hbtFollow (detectNow src.val detail.toNat b)) := spared_hbtFollow .rfl
    have spared := (detectNow_spared src.val detail.toNat b).trans after
    refine ⟨_, exec_supervisorDetector_awake src detail q other up, ?_, ?_, ?_, spared.lc, spared.cfg, spared.fw, spared.clock⟩
    · rw [(after (lo := 0x4140) (hi := 0x4800)).arrBit (by omega) (by decide) (by decide), live]
    · rw [uncleared_hbtFollow]
      exact source
    · rw [(after (lo := 0x5000) (hi := 0x6000)).getR (by unfold R.SL_DETAIL; omega) (by unfold R.SL_DETAIL; omega), added, w32, BitVec.ofNat_toNat, BitVec.setWidth_eq]
  · refine ⟨_, exec_supervisorDetector_asleep src detail q other down, ?_, rfl⟩
    rw [holdCond, condOf_putCond, if_pos rfl]
  · simp only [exec, execSupervisorDetector, execSafeInAssert, same, if_true]
  · obtain ⟨spared, live, source⟩ := safeIn_shows b
    refine ⟨_, (exec_safeInAssert q).trans (by rw [if_pos runs]), ?_, live, source, safeIn_state b, spared.lc, spared.cfg, spared.fw, spared.clock⟩
    rw [spared.pins]
    rfl
  · rw [exec_safeInAssert, if_neg (by simp [idle])]
    rfl
  · simp only [exec, execDetectorConditionEnd, execSafeInRelease, same, if_true]
  · obtain ⟨frame, live, others, level, regs⟩ := endNow_shows b src.isLt
    exact ⟨_, exec_detectorConditionEnd src q other, frame, live, level, others, regs⟩
  · obtain ⟨frame, live, others, -, regs⟩ := endNow_shows { b with pins := { b.pins with safeIn := false } } (i := Slot.safeIn) (by decide)
    exact ⟨_, rfl, frame, live, others, regs⟩

end Sys2Proof

namespace Sys2Proof.Machine

/-! The ledger: the erase (R287), and the reads (R288). -/

section
variable {b : Block}

theorem regsLed_trans {b c d : Block} (hc : c = { b with regs := c.regs, led := c.led }) (hd : d = { c with regs := d.regs, led := d.led }) :
    d = { b with regs := d.regs, led := d.led } := hd.trans (by rw [hc])

theorem regsLedOut_emitOut {b c : Block} (h : c = { b with regs := c.regs }) (o : Output) (l : Ledger) :
    emitOut o { c with led := l } = { b with regs := c.regs, led := l, out := c.out ++ [o] } := by
  rw [h]
  rfl

/-- The word of LED_ERASE: ERASE set, the rest as given. -/
theorem ledErase_word (v : Word) : (v ||| 4).toNat / 2 ^ 24 = v.toNat / 2 ^ 24 ∧ bitOf (v ||| 4).toNat 2 = true ∧ bitOf (v ||| 4).toNat 1 = bitOf v.toNat 1 := by
  have four : ∀ i, (4 : Nat).testBit i = decide (i = 2) := fun i => by
    rw [show (4 : Nat) = 2 ^ 2 from rfl, Nat.testBit_two_pow, decide_eq_decide]
    exact eq_comm
  have word : (v ||| 4).toNat = v.toNat ||| 4 := rfl
  refine ⟨Nat.eq_of_testBit_eq fun i => ?_, ?_, ?_⟩
  · rw [word, Nat.testBit_div_two_pow, Nat.testBit_div_two_pow, Nat.testBit_or, four]
    simp
  · rw [word, bitOf_eq_testBit, Nat.testBit_or, four]
    simp
  · rw [word, bitOf_eq_testBit, bitOf_eq_testBit, Nat.testBit_or, four]
    simp

/-- What is in the registers but for the self-tests', and in the ledger, has no share in whether the memory die is in reach. -/
theorem memOut_congr {c : Block} (reg : getR c R.BIST_FAILED = getR b R.BIST_FAILED) (bist : c.bist = b.bist) : memOut c = memOut b := by
  unfold memOut isF
  rw [getF_of_getR (f := F.BIST_FAILED_MEM) reg, bist]

theorem exec_ledErase (v : Word) (q : List Instr) (on : ready b = true) : exec (.ledErase v) ⟨b, q⟩ = .next ⟨writeLedCtl (v ||| 4) b, q⟩ := by
  simp only [exec, execLedErase, run_eq, on, if_true]

/-- The write of LED_CTL that LED_ERASE carries, with the flush it may ask for as well. -/
def ledCtlWritten (v : Word) (b : Block) : Block := when (bitOf v.toNat 1) flushStart (writeBits R.LED_CTL (v ||| 4) b)

theorem writeLedCtl_erase (v : Word) (b : Block) : writeLedCtl (v ||| 4) b =
    if v.toNat / 2 ^ 24 = 0xA5 then eraseAsk (ledCtlWritten v b) else setF F.LED_STATUS_ERASE_REFUSED 1 (ledCtlWritten v b) := by
  obtain ⟨confirm, erase, flush⟩ := ledErase_word v
  simp only [writeLedCtl, confirm, erase, flush, ledCtlWritten]
  rfl

theorem flushStart_only_led (b : Block) : flushStart b = { b with led := (flushStart b).led } := by
  unfold flushStart
  split
  · rfl
  · split <;> rfl

/-- A flush that begins changes neither the store nor the mirror nor whether an erase is due, and where no commit is captured one runs from then on. -/
theorem flushStart_led (b : Block) : (flushStart b).led.store = b.led.store ∧ (flushStart b).led.mirror = b.led.mirror ∧
    (flushStart b).led.eraseDue = b.led.eraseDue ∧ (b.cfg.captured = none → memOut b = false → (flushStart b).led.flushing ≠ none) := by
  unfold flushStart
  split
  · next held => exact ⟨rfl, rfl, rfl, fun _ reach none => by simp [none, reach] at held⟩
  · split
    · next captured => exact ⟨rfl, rfl, rfl, fun idle _ => by simp [idle] at captured⟩
    · exact ⟨rfl, rfl, rfl, fun _ _ => Option.some_ne_none _⟩

theorem ledCtlWritten_frame (v : Word) (b : Block) :
    ledCtlWritten v b = { b with regs := (writeBits R.LED_CTL (v ||| 4) b).regs, led := (ledCtlWritten v b).led } := by
  have written := onlyRegs_writeBits R.LED_CTL (v ||| 4) b
  unfold ledCtlWritten when
  split
  · refine (flushStart_only_led _).trans ?_
    exact congrArg (fun x : Block => { x with led := (flushStart (writeBits R.LED_CTL (v ||| 4) b)).led }) written
  · rw [written]

theorem getR_ledCtlWritten {a : Nat} (v : Word) (b : Block) (h : a ≠ R.LED_CTL) : getR (ledCtlWritten v b) a = getR b a := by
  rw [ledCtlWritten_frame]
  exact getR_writeBits_ne (v ||| 4) b h

theorem ledCtlWritten_led (v : Word) (b : Block) : (ledCtlWritten v b).led.store = b.led.store ∧ (ledCtlWritten v b).led.mirror = b.led.mirror := by
  have written : (writeBits R.LED_CTL (v ||| 4) b).led = b.led := by rw [onlyRegs_writeBits]
  obtain ⟨store, mirror, -, -⟩ := flushStart_led (writeBits R.LED_CTL (v ||| 4) b)
  unfold ledCtlWritten when
  split
  · exact ⟨store.trans (by rw [written]), mirror.trans (by rw [written])⟩
  · rw [written]
    exact ⟨rfl, rfl⟩

/-- Without a flush asked for the write changes LED_CTL alone. -/
theorem ledCtlWritten_plain {v : Word} (b : Block) (plain : bitOf v.toNat 1 = false) : ledCtlWritten v b = writeBits R.LED_CTL (v ||| 4) b := by
  rw [ledCtlWritten, plain]
  rfl

/-! The end of a frame with an erase due (R285, R287). -/

theorem journalWrite_empty (h : b.led.queue = []) : journalWrite b = b := by simp [journalWrite, h]

/-- The entries that wait enter the mirror: the ledger alone shows it, and none waits then. -/
theorem journalWrite_shows (b : Block) (reach : memOut b = false) :
    journalWrite b = { b with led := (journalWrite b).led } ∧ (journalWrite b).led.flushing = b.led.flushing ∧
      (journalWrite b).led.queue = [] ∧ (journalWrite b).led.mirror.erases = b.led.mirror.erases := by
  have puts : ∀ (l : List JEntry) (m : LedImage), (l.foldl (fun m e => journalPut e m) m).erases = m.erases := fun l => by
    induction l with
    | nil => exact fun m => rfl
    | cons e l ih => exact fun m => (ih _).trans rfl
  by_cases empty : b.led.queue = []
  · rw [journalWrite_empty empty]
    exact ⟨rfl, rfl, empty, rfl⟩
  · have writes : (b.led.queue.isEmpty || memOut b) = false := by simp [empty, reach]
    have written : journalWrite b = { b with led := { b.led with
        mirror := (sortBy jBefore b.led.queue).foldl (fun m e => journalPut e m) b.led.mirror, queue := [], dirty := true } } := by
      simp only [journalWrite, writes, Bool.false_eq_true, if_false]
    rw [written]
    exact ⟨rfl, rfl, rfl, puts _ _⟩

/-- The number of erases that an erase leaves. -/
def erasesNext (b : Block) : Nat := if b.led.mirror.erases = 65535 then Config.unstated 53 [] % 2 ^ 16 else b.led.mirror.erases + 1

/-- The mirror that an erase leaves, before its entry: the binning is that of LED_VBIN and LED_TBIN. -/
def erasedImage (b : Block) : LedImage := {
  hseq := b.led.mirror.hseq, jseq := b.led.mirror.jseq, erases := erasesNext b
  vLo := getF b F.LED_VBIN_V_LO, vStep := getF b F.LED_VBIN_V_STEP, tLo := getF b F.LED_TBIN_T_LO, tStep := getF b F.LED_TBIN_T_STEP }

/-- The entry of an erase is the first of its journal. -/
theorem journalPut_erased (e dev : Nat) (m : LedImage) (empty : m.journal = []) (life : m.life = 0) (head : m.jhead = 8) :
    (journalPut ⟨9, 0, 0, e, dev⟩ m).journal = [(8, [w32 m.jseq, 0, 0x09000000, w32 e])] := by
  have put : (journalPut ⟨9, 0, 0, e, dev⟩ m).journal = mapPut (fun _ => List.replicate 4 0) m.journal m.jhead
      [w32 m.jseq, w32 m.life, w32 (9 % 256 * 2 ^ 24 + 0 % 256 * 2 ^ 16 + 0 % 2 ^ 16), w32 e] := rfl
  have kind : w32 (9 % 256 * 2 ^ 24 + 0 % 256 * 2 ^ 16 + 0 % 2 ^ 16) = 0x09000000 := by decide
  rw [put, empty, life, head, kind, mapPut]
  exact if_neg (by simp [List.replicate])

/-- An erase whose flush has ended: no entry of the frame comes after its own. -/
theorem journalTick_erase (flushed : b.led.flushing = none) (idle : b.led.owed = false) (due : b.led.eraseDue = true) (reach : memOut b = false)
    (early : ∀ e, e ∈ b.led.queue → e.kind ≤ 9) : journalTick b = { eraseNow (journalWrite b) with led := { (eraseNow (journalWrite b)).led with queue := [] } } := by
  have late : (b.led.queue.filter fun e => decide (e.dev = devF b ∧ 9 < e.kind)) = [] :=
    List.filter_eq_nil_iff.mpr fun e mem => by
      simp only [decide_eq_true_eq, not_and, not_lt]
      exact fun _ => early e mem
  have all : (b.led.queue.filter fun e => !decide (e.dev = devF b ∧ 9 < e.kind)) = b.led.queue :=
    List.filter_eq_self.mpr fun e mem => by
      simp only [Bool.not_eq_true', decide_eq_false_iff_not, not_and, not_lt]
      exact fun _ => early e mem
  have go : (!b.led.eraseDue || b.led.flushing.isSome || b.led.owed || memOut b) = false := by simp [flushed, idle, due, reach]
  simp only [journalTick, go, late, all, Bool.false_eq_true, if_false]
  exact journalWrite_empty rfl

/-! Reads (R288). -/

theorem exec_ledRdCtl (v : Word) (q : List Instr) (on : ready b = true) : exec (.ledRdCtl v) ⟨b, q⟩ = .next ⟨writeLedRd v b, q⟩ := by
  simp only [exec, execLedRdCtl, run_eq, on, if_true]

/-- LED_RD_CTL's row of the register map. -/
theorem regRow_LED_RD_CTL : regRow R.LED_RD_CTL = some ⟨0x20810, 1, 4, 1, 4, 0, 0, 0xC000FFFF, 0, 0, 0, 0⟩ := by decide

theorem exec_ledRdData (p : Path) (q : List Instr) : exec (.ledRdData p) ⟨b, q⟩ = .next ⟨readOver p R.LED_RD_DATA b, q⟩ := rfl

/-- A read of LED_RD_DATA where the mirror is in reach and an item is selected. -/
theorem readReg_LED_RD_DATA (p : Path) (on : ready b = true) (reach : memOut b = false) (runs : framesRun b = true)
    (item : ledItem (getF b F.LED_RD_CTL_REGION) (getF b F.LED_RD_CTL_INDEX) = true) :
    readReg p R.LED_RD_DATA b = (ledWord b.led.mirror (getF b F.LED_RD_CTL_REGION) (getF b F.LED_RD_CTL_INDEX) b.led.rdPos, false,
      { b with led := { b.led with rdPos := b.led.rdPos + 1 } }) := by
  have low : isLow R.LED_RD_DATA = false := by decide
  have high : isHigh R.LED_RD_DATA = false := by decide
  simp only [readReg, on, low, high, readLedData, item, reach, runs, Bool.not_true, Bool.not_false, Bool.and_self, Bool.false_eq_true, if_false, if_true]

/-- LEDGER_READ, well formed, goes on to read. -/
def ledgerReadGo (q : Nat) (d : Desc) (b : Block) : Block :=
  if memOut b then finish q St.busyBist 0 0 0 b else
  dmaOut q d.wfail d.addr.toNat ((List.range d.p1.toNat).map (ledWord b.led.mirror (d.p0.toNat / 2 ^ 30) (d.p0.toNat % 2 ^ 16))) St.done 0 d.p1.toNat 0 b

theorem exec_ledgerRead {r : Fin 16} {d : Desc} (q : List Instr) (can : canStart b r.val = true) (resvd : d.resvd = 0) (aligned : d.addr.toNat % 4 = 0)
    (some : 1 ≤ d.p1.toNat) (few : d.p1.toNat ≤ 65536) (p2 : d.p2 = 0) (p3 : d.p3 = 0) (p4 : d.p4 = 0) (zero : bitsOf d.p0.toNat 16 14 = 0)
    (item : ledItem (d.p0.toNat / 2 ^ 30) (d.p0.toNat % 2 ^ 16) = true) (header : d.p0.toNat / 2 ^ 30 = 0 → d.p0.toNat % 2 ^ 16 = 0) :
    exec (.ledgerRead r d) ⟨b, q⟩ = .next ⟨ledgerReadGo r.val d (startedCmd r.val 0x09 d b), q⟩ := by
  have valid : (badAddr d.addr || decide (d.p1.toNat < 1 ∨ 65536 < d.p1.toNat) || d.p2 != 0 || d.p3 != 0 || d.p4 != 0 || bitsOf d.p0.toNat 16 14 != 0 ||
      !ledItem (d.p0.toNat / 2 ^ 30) (d.p0.toNat % 2 ^ 16) || (decide (d.p0.toNat / 2 ^ 30 = 0) && decide (d.p0.toNat % 2 ^ 16 ≠ 0))) = false := by
    have count : ¬ (d.p1.toNat < 1 ∨ 65536 < d.p1.toNat) := by omega
    simp only [badAddr, aligned, count, p2, p3, p4, zero, item, bne_self_eq_false, decide_false, Bool.not_true, Bool.or_false, Bool.false_or,
      Bool.and_eq_false_imp, decide_eq_true_eq]
    intro first
    exact decide_eq_false (not_not.mpr (header first))
  simp only [exec, execLedgerRead, run_eq, startCmd_go _ can resvd valid rfl]
  rfl

theorem dmaOff_of_canStart {q : Nat} (can : canStart b q = true) : dmaOff b = false := by
  simp only [canStart, sqReady, Bool.and_eq_true, Bool.not_eq_true'] at can
  obtain ⟨⟨⟨⟨⟨⟨⟨⟨-, off⟩, -⟩, -⟩, -⟩, -⟩, -⟩, -⟩, -⟩ := can
  exact off

theorem dmaOff_startedCmd (q op : Nat) (d : Desc) (b : Block) (small : q < 16) : dmaOff (startedCmd q op d b) = dmaOff b := by
  have failed : isF (startedCmd q op d b) F.BIST_FAILED_DMA = isF b F.BIST_FAILED_DMA := by
    unfold isF
    rw [getF_of_getR (f := F.BIST_FAILED_DMA) (getR_startedCmd_ne q op d b
      (by simp only [F.BIST_FAILED_DMA, R.BIST_FAILED, R.HST_SQ_STATUS]; omega))]
  unfold dmaOff dmaSuspended
  rw [failed]
  rfl

end

end Sys2Proof.Machine

namespace Sys2Proof
open Machine

/-- Settles O40: the request, the erase with which a frame's journal closes, and the ledger's reads. -/
theorem ledgerEraseAndReads : Obligations.LedgerEraseAndReads := by
  refine ⟨fun b q reach => ⟨fun v on => ⟨fun confirm inForce idle => ?_, fun refused plain => ?_⟩, fun flushed idle due early => ?_⟩,
    fun b q => ⟨fun v on => ?_, fun p window wide on up runs reach item => ?_, fun r d can resvd aligned some few p2 p3 p4 zero item header => ?_⟩⟩
  · obtain ⟨store, mirror⟩ := ledCtlWritten_led v b
    have frame := ledCtlWritten_frame v b
    have inReach : memOut { ledCtlWritten v b with led := { (ledCtlWritten v b).led with eraseDue := true } } = false :=
      (memOut_congr (getR_ledCtlWritten v b (by decide)) (by rw [frame])).trans reach
    have asked : eraseAsk (ledCtlWritten v b) = flushStart { ledCtlWritten v b with led := { (ledCtlWritten v b).led with eraseDue := true } } := by
      have allowed : ((lifeIs (ledCtlWritten v b) .factory || lifeIs (ledCtlWritten v b) .service) && !memOut (ledCtlWritten v b)) = true := by
        have near : memOut (ledCtlWritten v b) = false := inReach
        have lc : (ledCtlWritten v b).lc = b.lc := by rw [frame]
        rcases inForce with h | h <;> simp [lifeIs, lc, h, near]
      simp only [eraseAsk, allowed, if_true]
    obtain ⟨store', mirror', due, begins⟩ := flushStart_led { ledCtlWritten v b with led := { (ledCtlWritten v b).led with eraseDue := true } }
    refine ⟨_, (exec_ledErase v q on).trans (by rw [writeLedCtl_erase, if_pos confirm, asked]), ?_, fun a out => ?_, due, begins (by rw [frame]; exact idle) inReach,
      store'.trans store, ?_⟩
    · have marked : { ledCtlWritten v b with led := { (ledCtlWritten v b).led with eraseDue := true } } =
          { b with regs := (ledCtlWritten v b).regs, led := { (ledCtlWritten v b).led with eraseDue := true } } := by rw [frame]
      exact regsLed_trans marked ((flushStart_only_led _).trans (by rw [flushStart_only_led]))
    · rw [flushStart_only_led]
      exact getR_ledCtlWritten v b fun e => out (by simp [e])
    · rw [mirror', ← mirror]
  · have noFlush : bitOf v.toNat 1 = false := by
      simpa [bitOf, bitsOf] using plain
    have written := ledCtlWritten_plain b noFlush
    have refuse : writeLedCtl (v ||| 4) b = setF F.LED_STATUS_ERASE_REFUSED 1 (writeBits R.LED_CTL (v ||| 4) b) := by
      rw [writeLedCtl_erase, written]
      split
      · next confirm =>
        obtain ⟨factory, service⟩ := refused.resolve_left (not_not.mpr confirm)
        simp [eraseAsk, lifeIs, factory, service]
      · rfl
    refine ⟨_, (exec_ledErase v q on).trans (by rw [refuse]), ?_, fun a out => ?_, getF_setF F.LED_STATUS_ERASE_REFUSED 1 _ (by decide)⟩
    · exact onlyRegs_trans (onlyRegs_writeBits _ _ b) rfl
    · exact (getR_setF_ne F.LED_STATUS_ERASE_REFUSED 1 _ fun e => out (by simp [e, F.LED_STATUS_ERASE_REFUSED])).trans
        (getR_writeBits_ne _ b fun e => out (by simp [e]))
  · obtain ⟨frame, kept, -, erases⟩ := journalWrite_shows b reach
    have regs : ∀ f, getF (journalWrite b) f = getF b f := fun f => by rw [frame]; rfl
    refine ⟨_, journalTick_erase flushed idle due reach early, ?_, kept.trans flushed, rfl, rfl, rfl, rfl, rfl, regs _, regs _, regs _, regs _, fun few => ?_, _,
      journalPut_erased _ _ _ rfl rfl rfl⟩
    · exact congrArg (fun x : Block => { x with led := { (eraseNow (journalWrite b)).led with queue := [] } }) frame
    · refine Eq.trans ?_ (congrArg (· + 1) erases)
      exact if_neg (erases ▸ few)
  · refine ⟨_, exec_ledRdCtl v q on, ?_, fun a out => ?_, ?_, ?_⟩
    · exact congrArg (fun x : Block => { x with led := { x.led with rdPos := 0 } }) (onlyRegs_writeBits R.LED_RD_CTL v b)
    · exact getR_writeBits_ne v b fun e => out (by simp [e])
    · exact getF_writeBits_rw (a := R.LED_RD_CTL) F.LED_RD_CTL_REGION v b _ rfl regRow_LED_RD_CTL (by decide) (by decide) (by decide)
    · exact getF_writeBits_rw (a := R.LED_RD_CTL) F.LED_RD_CTL_INDEX v b _ rfl regRow_LED_RD_CTL (by decide) (by decide) (by decide)
  · have quiet : ∀ a, a ≠ R.HST_LINK → getR (when (p == .pcie) traffic b) a = getR b a := fun a other =>
      when_proj (getR · a) _ _ _ (getR_setF_ne F.HST_LINK_L1 0 b other)
    have frame := when_traffic_only_regs (p == .pcie) b
    have region : getF (when (p == .pcie) traffic b) F.LED_RD_CTL_REGION = getF b F.LED_RD_CTL_REGION := getF_of_getR (quiet R.LED_RD_CTL (by decide))
    have index : getF (when (p == .pcie) traffic b) F.LED_RD_CTL_INDEX = getF b F.LED_RD_CTL_INDEX := getF_of_getR (quiet R.LED_RD_CTL (by decide))
    have near : memOut (when (p == .pcie) traffic b) = false := (memOut_congr (quiet _ (by decide)) (by rw [frame])).trans reach
    have going : framesRun (when (p == .pcie) traffic b) = true := by rw [frame]; exact runs
    have good : badRequest p R.LED_RD_DATA = false := by
      cases p
      case pcie => rfl
      case spi => rfl
      case fwd => rfl
      case cmd => rfl
      case pcieB => exact absurd rfl window
      case pcieWide => exact absurd rfl wide
    have got := readReg_LED_RD_DATA p ((ready_when_traffic _ b).trans on) near going (by rw [region, index]; exact item)
    have led : (when (p == .pcie) traffic b).led = b.led := by rw [frame]
    refine ⟨_, (exec_ledRdData p q).trans (by rw [readOver_good up good window]), ?_, fun a out => ?_, ?_, ?_⟩
    all_goals rw [answered, got]
    · exact regsLedOut_emitOut frame _ _
    · exact quiet a fun e => out (by simp [e])
    · exact congrArg (fun x : Ledger => { x with rdPos := x.rdPos + 1 }) led
    · rw [region, index, led, frame]
      rfl
  · have number := cqNo_startedCmd r.val 0x09 d b r.val
    have near : memOut (startedCmd r.val 0x09 d b) = memOut b := memOut_congr
      (getR_startedCmd_ne r.val 0x09 d b (by simp only [R.BIST_FAILED, R.HST_SQ_STATUS]; omega)) rfl
    have open_ : dmaOff (startedCmd r.val 0x09 d b) = false := (dmaOff_startedCmd r.val 0x09 d b r.isLt).trans (dmaOff_of_canStart can)
    have regs : ∀ x : Block, x.regs = (startedCmd r.val 0x09 d b).regs → RegsBut [R.HST_SQ_STATUS r.val] b x := fun x h a out =>
      (getR_congr h a).trans (getR_startedCmd_ne r.val 0x09 d b fun e => out (by simp [e]))
    have starts := exec_ledgerRead q can resvd aligned some few p2 p3 p4 zero item header
    by_cases away : memOut b = true
    · have busy : ledgerReadGo r.val d (startedCmd r.val 0x09 d b) = finish r.val St.busyBist 0 0 0 (startedCmd r.val 0x09 d b) := by
        simp only [ledgerReadGo, near, away, if_true]
      rw [starts, busy]
      refine ⟨_, rfl, ?_, regs _ (by simp), fun _ => ⟨cmdCompletes_finish can rfl rfl number, ?_⟩, fun reach => by simp [away] at reach, fun reach => by simp [away] at reach⟩
      · rw [finish_hst]
        rfl
      · rw [finish_hst]
        rfl
    · have reach : memOut b = false := by simpa using away
      have goes : ledgerReadGo r.val d (startedCmd r.val 0x09 d b) = dmaOut r.val d.wfail d.addr.toNat
          ((List.range d.p1.toNat).map (ledWord b.led.mirror (d.p0.toNat / 2 ^ 30) (d.p0.toNat % 2 ^ 16))) St.done 0 d.p1.toNat 0 (startedCmd r.val 0x09 d b) := by
        simp only [ledgerReadGo, near, reach, Bool.false_eq_true, if_false]
        rfl
      rw [starts, goes, dmaOut]
      cases fails : d.wfail
      · rw [if_neg (by decide), dmaWrite, open_, if_neg (by decide)]
        refine ⟨_, rfl, ?_, regs _ (by simp), fun h => absurd h away, fun _ h => by simp at h, fun _ _ => ⟨cmdCompletes_finish can rfl rfl number, ?_⟩⟩
        · rw [finish_hst]
          rfl
        · rw [finish_hst]
          rfl
      · rw [if_pos rfl]
        refine ⟨_, rfl, ?_, regs _ (by simp), fun h => absurd h away, fun _ _ => ⟨cmdCompletes_finish can rfl rfl number, ?_⟩, fun _ h => by simp at h⟩
        · rw [finish_hst]
          rfl
        · rw [finish_hst]
          rfl

end Sys2Proof

namespace Sys2Proof.Machine

/-! Firmware update (R102, R405): its request, and a frame's share of it. -/

section
variable {b : Block}

/-- The job of an update that FW_UPDATE asks for. -/
def fwAsked (r : Nat) (d : Desc) (ws : List Word) (ok : Bool) (b : Block) : FwJob :=
  ⟨some r, d.p1.toNat / 4, ws.map (·.toNat), 4 * ws.length, d.p0.toNat == 1, ok, b.cfg.captured.isSome, b.led.flushing.isSome || b.led.owed⟩

theorem exec_fwUpdate {r : Fin 16} {d : Desc} {ws : List Word} (ok : Bool) (q : List Instr) (can : canStart b r.val = true) (resvd : d.resvd = 0)
    (p0 : d.p0.toNat < 2) (aligned : badAddr d.addr = false) (p3 : d.p3 = 0) (p4 : d.p4 = 0) (at_ : d.p1.toNat % 4 = 0) (len : d.p2.toNat % 4 = 0)
    (fits : d.p1.toNat + d.p2.toNat ≤ 524288) (allowed : b.lc.acting ≠ .retired) (whole : ws.length = d.p2.toNat / 4) :
    exec (.fwUpdate r d (some ws) ok) ⟨b, q⟩ = .next ⟨fwUpdate r.val d ws ok (startedCmd r.val 0x0B d b), q⟩ := by
  have half : ¬ d.p0.toNat / 2 ≠ 0 := by omega
  have valid : (decide (d.p0.toNat / 2 ≠ 0) || badAddr d.addr || d.p3 != 0 || d.p4 != 0 || decide (d.p1.toNat % 4 ≠ 0) || decide (d.p2.toNat % 4 ≠ 0) ||
      decide (524288 < d.p1.toNat + d.p2.toNat)) = false := by
    simp only [half, aligned, p3, p4, at_, len, Nat.not_lt.mpr fits, decide_false, bne_self_eq_false, ne_eq, not_true_eq_false, Bool.or_false]
  have permitted : lifeIs b .retired = false := by simp [lifeIs, allowed]
  simp only [exec, execFwUpdate, run_eq, startCmd_go _ can resvd valid permitted, withData, ← whole, List.take_length]

theorem fwUpdate_busy {r : Nat} {d : Desc} {ws : List Word} {ok : Bool} (busy : b.fw.job ≠ none) : fwUpdate r d ws ok b = finish r St.busy 0 0 0 b := by
  simp [fwUpdate, Option.isSome_iff_ne_none.mpr busy]

theorem fwUpdate_taken {r : Nat} {d : Desc} {ws : List Word} {ok : Bool} (p0 : d.p0.toNat < 2) (free : b.fw.job = none) :
    fwUpdate r d ws ok b = waitOn r .fwUpdate { b with fw := { b.fw with job := some (fwAsked r d ws ok b) } } := by
  have final : bitOf d.p0.toNat 0 = (d.p0.toNat == 1) := by
    unfold bitOf
    rw [Nat.pow_zero, Nat.div_one, Nat.mod_eq_of_lt p0]
  simp only [fwUpdate, free, Option.isSome_none, Bool.false_eq_true, if_false, final]
  rfl

/-! A frame's share. -/

/-- The copy that does not run. -/
def idleCopy (b : Block) : Nat := 1 - b.fw.running

/-- The next words of job `j` are written to the copy that does not run, which is invalid from then on; `job` is what is left. -/
def pieceWritten (j : FwJob) (job : Option FwJob) (b : Block) : Block :=
  { b with fw := { b.fw with
      words := b.fw.words.set (idleCopy b) (fwContent j.at_ (j.words.take 100) (b.fw.words.getD (idleCopy b) []))
      copies := b.fw.copies.set (idleCopy b) {}
      job := job } }

section
variable {j : FwJob} (job : b.fw.job = some j) (commit : j.afterCommit = false) (flush : j.afterFlush = false) (runs : framesRun b = true)
include job commit flush runs

theorem fwTick_more (many : 100 < j.words.length) : fwTick b = pieceWritten j (some { j with at_ := j.at_ + 100, words := j.words.drop 100 }) b := by
  have rest : (j.words.drop 100).isEmpty = false := by
    rw [List.isEmpty_eq_false_iff, Ne, List.drop_eq_nil_iff]
    omega
  have now : (j.words.take 100).length = 100 := by rw [List.length_take]; omega
  simp only [fwTick, job, commit, flush, runs, rest, now, pieceWritten, fwContent, idleCopy, Bool.not_true, Bool.or_self, Bool.not_false, Bool.false_eq_true,
    if_false, if_true]

theorem fwTick_last (few : j.words.length ≤ 100) : fwTick b = commitTurn (fwVerify j (pieceWritten j none b)) := by
  have rest : (j.words.drop 100).isEmpty = true := by
    rw [List.isEmpty_iff, List.drop_eq_nil_iff]
    exact few
  simp only [fwTick, job, commit, flush, runs, rest, Bool.not_true, Bool.or_self, Bool.false_eq_true, if_false]
  rfl

end

theorem fwEnd_frame (j : FwJob) (status detail r1 : Nat) (b : Block) : fwEnd j status detail r1 b = { b with hst := (fwEnd j status detail r1 b).hst } := by
  unfold fwEnd
  split
  · exact finish_hst _ _ _ _ _ b
  · rfl

/-- The command of an update completes. -/
theorem fwEnd_answer (j : FwJob) (status detail r1 : Nat) (b : Block) : FwAnswer j detail status r1 b (fwEnd j status detail r1 b) := by
  intro r tag ring runs en
  have ends : fwEnd j status detail r1 b = finish r status detail j.len r1 b := by simp only [fwEnd, ring]
  rw [ends, finish_eq runs en]
  exact ⟨by rw [cqOf_putCq, if_pos rfl], fun p other => (cqOf_putCq _ p _ _).trans (if_neg other)⟩

/-- An answer is seen through the rings and the control words alone. -/
theorem FwAnswer.congr {j : FwJob} {detail status r1 : Nat} {b' c c' : Block} (h : FwAnswer j detail status r1 b c) (hst : b'.hst = b.hst) (regs : b'.regs = b.regs)
    (rings' : rings c' = rings c) : FwAnswer j detail status r1 b' c' := by
  have number : ∀ r, cqNo b' r = cqNo b r := fun r => getF_congr regs _
  intro r tag ring runs en
  rw [number, cqOf_congr hst] at en
  rw [sqOf_congr hst] at runs
  obtain ⟨answer, others⟩ := h r tag ring runs en
  rw [number]
  exact ⟨by rw [cqOf_rings rings', answer, cqOf_congr hst], fun p other => by rw [cqOf_rings rings', others p other, cqOf_congr hst]⟩

theorem commitTurn_frame (b : Block) : commitTurn b = { b with cfg := (commitTurn b).cfg } := by
  unfold commitTurn
  split <;> rfl

/-- The verdicts of an update whose last word is written (R79, R403). -/
theorem fwVerify_unread {j : FwJob} (bad : j.ok = false) : fwVerify j b = detectOnce Slot.nvstore 0 (fwEnd j St.failed 4 0 b) := by
  simp [fwVerify, bad]

theorem fwVerify_part {j : FwJob} (good : j.ok = true) (more : j.final = false) : fwVerify j b = fwEnd j St.done 0 0 b := by
  simp [fwVerify, good, more]

/-- The copy just verified is valid. -/
def copyValid (ver sec : Nat) (b : Block) : Block :=
  journal 0x08 (idleCopy b) 0 sec { b with fw := { b.fw with copies := b.fw.copies.set (idleCopy b) ⟨true, ver, sec⟩ } }

section
variable {j : FwJob} {sig len : Bool} {ver sec : Nat} (good : j.ok = true) (final : j.final = true)
  (found : Config.firmware (b.fw.words.getD (idleCopy b) []) = (sig, len, ver, sec))
include good final found

theorem fwVerify_valid (hsig : sig = true) (hlen : len = true) (floor : b.fw.floor ≤ sec) : fwVerify j b = fwEnd j St.done 0 sec (copyValid ver sec b) := by
  rw [idleCopy, hsig, hlen] at found
  simp only [fwVerify, good, final, found, Nat.not_lt.mpr floor, Bool.not_true, Bool.false_eq_true, if_false]
  rfl

theorem fwVerify_refused (refused : sig = false ∨ len = false ∨ sec < b.fw.floor) :
    fwVerify j b = fwEnd j St.failed (if sig = false then 1 else if len = false then 2 else 3) sec b := by
  rw [idleCopy] at found
  simp only [fwVerify, good, final, found, Bool.not_true, Bool.false_eq_true, if_false]
  cases sig
  · rfl
  · cases len
    · rfl
    · have low : sec < b.fw.floor := by simpa using refused
      simp [low]

end

end

end Sys2Proof.Machine

namespace Sys2Proof.Machine

section
variable {b : Block}

/-! What a piece leaves of the store. -/

theorem idleCopy_lt (b : Block) : idleCopy b < 2 := by unfold idleCopy; omega
theorem idleCopy_ne (small : b.fw.running < 2) : b.fw.running ≠ idleCopy b := by unfold idleCopy; omega

theorem getD_set_same {α : Type} {l : List α} {i : Nat} (x d : α) (h : i < l.length) : (l.set i x).getD i d = x := by
  rw [List.getD_eq_getElem?_getD, List.getElem?_set_self h, Option.getD_some]

theorem getD_set_ne {α : Type} {l : List α} {i j : Nat} (x d : α) (h : j ≠ i) : (l.set i x).getD j d = l.getD j d := by
  rw [List.getD_eq_getElem?_getD, List.getElem?_set_ne h.symm, ← List.getD_eq_getElem?_getD]

/-- From `b` to `c` the idle copy has got the next words of `j`, the running one nothing, and the floor stays. -/
structure PieceShown (j : FwJob) (b c : Block) : Prop where
  content : c.fw.words.getD (idleCopy b) [] = fwContent j.at_ (j.words.take 100) (b.fw.words.getD (idleCopy b) [])
  runningWords : c.fw.words.getD b.fw.running [] = b.fw.words.getD b.fw.running []
  running : c.fw.running = b.fw.running
  floor : c.fw.floor = b.fw.floor
  runningCopy : c.fw.copies.getD b.fw.running {} = b.fw.copies.getD b.fw.running {}

theorem pieceWritten_shown (j : FwJob) (job : Option FwJob) (small : b.fw.running < 2) (words : b.fw.words.length = 2) :
    PieceShown j b (pieceWritten j job b) where
  content := getD_set_same _ _ (words ▸ idleCopy_lt b)
  runningWords := getD_set_ne _ _ (idleCopy_ne small)
  running := rfl
  floor := rfl
  runningCopy := getD_set_ne _ _ (idleCopy_ne small)

theorem pieceWritten_copy (j : FwJob) (job : Option FwJob) (copies : b.fw.copies.length = 2) : (pieceWritten j job b).fw.copies.getD (idleCopy b) {} = {} :=
  getD_set_same _ _ (copies ▸ idleCopy_lt b)

/-- From `b` to `c` an answer is all that has changed beside the firmware's store, the Sluice and the journal. -/
structure Answered (b c : Block) : Prop where
  words : c.fw.words = b.fw.words
  running : c.fw.running = b.fw.running
  floor : c.fw.floor = b.fw.floor
  job : c.fw.job = b.fw.job
  copies : ∀ i, i ≠ idleCopy b → c.fw.copies.getD i {} = b.fw.copies.getD i {}
  lc : c.lc = b.lc
  clock : c.clock = b.clock

theorem Answered.of_fw {c : Block} (fw : c.fw = b.fw) (lc : c.lc = b.lc) (clock : c.clock = b.clock) : Answered b c :=
  ⟨by rw [fw], by rw [fw], by rw [fw], by rw [fw], fun _ _ => by rw [fw], lc, clock⟩

theorem answered_fwEnd (j : FwJob) (status detail r1 : Nat) (b : Block) : Answered b (fwEnd j status detail r1 b) :=
  .of_fw (by rw [fwEnd_frame]) (by rw [fwEnd_frame]) (by rw [fwEnd_frame])

theorem answered_valid (j : FwJob) (status detail r1 ver sec : Nat) (b : Block) : Answered b (fwEnd j status detail r1 (copyValid ver sec b)) := by
  rw [fwEnd_frame]
  exact ⟨rfl, rfl, rfl, rfl, fun i other => getD_set_ne _ _ other, rfl, rfl⟩

theorem answered_unread (j : FwJob) (b : Block) : Answered b (detectOnce Slot.nvstore 0 (fwEnd j St.failed 4 0 b)) := by
  have found : Spared 0 0x3000 false (fwEnd j St.failed 4 0 b) (detectOnce Slot.nvstore 0 (fwEnd j St.failed 4 0 b)) := spared_detect .rfl
  exact .of_fw (found.fw.trans (by rw [fwEnd_frame])) (found.lc.trans (by rw [fwEnd_frame])) (found.clock.trans (by rw [fwEnd_frame]))

theorem answered_fwVerify (j : FwJob) (b : Block) : Answered b (fwVerify j b) := by
  cases read : j.ok
  · rw [fwVerify_unread read]
    exact answered_unread j b
  · cases last : j.final
    · rw [fwVerify_part read last]
      exact answered_fwEnd _ _ _ _ _
    · obtain ⟨sig, len, ver, sec, found⟩ : ∃ sig len ver sec, Config.firmware (b.fw.words.getD (idleCopy b) []) = (sig, len, ver, sec) := ⟨_, _, _, _, rfl⟩
      by_cases valid : sig = true ∧ len = true ∧ b.fw.floor ≤ sec
      · obtain ⟨hsig, hlen, floor⟩ := valid
        rw [fwVerify_valid read last found hsig hlen floor]
        exact answered_valid _ _ _ _ _ _ _
      · have refused : sig = false ∨ len = false ∨ sec < b.fw.floor := by
          cases sig <;> cases len <;> simp_all
        rw [fwVerify_refused read last found refused]
        exact answered_fwEnd _ _ _ _ _

/-- The last words of a piece: the store as `PieceShown` says, and the verdict on it. -/
theorem lastPiece_shown {j : FwJob} (small : b.fw.running < 2) (words : b.fw.words.length = 2) :
    PieceShown j b (commitTurn (fwVerify j (pieceWritten j none b))) ∧ (commitTurn (fwVerify j (pieceWritten j none b))).fw.job = none ∧
      (commitTurn (fwVerify j (pieceWritten j none b))).lc = b.lc ∧ (commitTurn (fwVerify j (pieceWritten j none b))).clock = b.clock := by
  rw [commitTurn_frame]
  have shown := pieceWritten_shown (b := b) j none small words
  have answered := answered_fwVerify j (pieceWritten j none b)
  exact ⟨⟨by rw [answered.words]; exact shown.content, by rw [answered.words]; exact shown.runningWords, answered.running, answered.floor,
    (answered.copies _ (idleCopy_ne small)).trans shown.runningCopy⟩, answered.job, answered.lc, answered.clock⟩

/-- An answer given after a piece is one to its command, whatever the store has been told since. -/
theorem pieceAnswered (j : FwJob) (status detail r1 : Nat) {x : Block} (hst : x.hst = b.hst) (regs : x.regs = b.regs) {c : Block}
    (same : rings c = rings (fwEnd j status detail r1 x)) : FwAnswer j detail status r1 b c :=
  (fwEnd_answer j status detail r1 x).congr hst.symm regs.symm same

section
variable {j : FwJob} (copies : b.fw.copies.length = 2)
include copies

theorem piece_unread (bad : j.ok = false) :
    (commitTurn (fwVerify j (pieceWritten j none b))).fw.copies.getD (idleCopy b) {} = {} ∧
      Slot.nvstore ∈ uncleared (commitTurn (fwVerify j (pieceWritten j none b))) ∧
      FwAnswer j 4 St.failed 0 b (commitTurn (fwVerify j (pieceWritten j none b))) := by
  have found : Spared 0 0x3000 false (fwEnd j St.failed 4 0 (pieceWritten j none b)) (detectOnce Slot.nvstore 0 (fwEnd j St.failed 4 0 (pieceWritten j none b))) :=
    spared_detect .rfl
  have copies' : (detectOnce Slot.nvstore 0 (fwEnd j St.failed 4 0 (pieceWritten j none b))).fw.copies = (pieceWritten j none b).fw.copies := by
    rw [found.fw, fwEnd_frame]
  have latched : Slot.nvstore ∈ uncleared (detectOnce Slot.nvstore 0 (fwEnd j St.failed 4 0 (pieceWritten j none b))) :=
    uncleared_detect _ (List.mem_singleton_self _) (by decide)
  have answered : FwAnswer j 4 St.failed 0 b (detectOnce Slot.nvstore 0 (fwEnd j St.failed 4 0 (pieceWritten j none b))) :=
    pieceAnswered j _ _ _ (x := pieceWritten j none b) rfl rfl (detect_rings _ _)
  rw [fwVerify_unread bad]
  generalize detectOnce Slot.nvstore 0 (fwEnd j St.failed 4 0 (pieceWritten j none b)) = c at copies' latched answered
  rw [commitTurn_frame]
  refine ⟨?_, latched, answered⟩
  show c.fw.copies.getD (idleCopy b) {} = {}
  rw [copies']
  exact pieceWritten_copy j none copies

theorem piece_part (good : j.ok = true) (more : j.final = false) :
    (commitTurn (fwVerify j (pieceWritten j none b))).fw.copies.getD (idleCopy b) {} = {} ∧
      FwAnswer j 0 St.done 0 b (commitTurn (fwVerify j (pieceWritten j none b))) := by
  rw [fwVerify_part good more, commitTurn_frame]
  refine ⟨?_, pieceAnswered j _ _ _ (x := pieceWritten j none b) rfl rfl rfl⟩
  rw [fwEnd_frame]
  exact pieceWritten_copy j none copies

section
variable {sig len : Bool} {ver sec : Nat} (good : j.ok = true) (final : j.final = true)
  (found : Config.firmware ((commitTurn (fwVerify j (pieceWritten j none b))).fw.words.getD (idleCopy b) []) = (sig, len, ver, sec))
include good final found

omit copies good final in
theorem piece_found : Config.firmware ((pieceWritten j none b).fw.words.getD (idleCopy (pieceWritten j none b)) []) = (sig, len, ver, sec) := by
  have words : (commitTurn (fwVerify j (pieceWritten j none b))).fw.words = (pieceWritten j none b).fw.words := by
    rw [commitTurn_frame]
    exact (answered_fwVerify j _).words
  rwa [words] at found

theorem piece_valid (hsig : sig = true) (hlen : len = true) (floor : b.fw.floor ≤ sec) :
    (commitTurn (fwVerify j (pieceWritten j none b))).fw.copies.getD (idleCopy b) {} = ⟨true, ver, sec⟩ ∧
      FwAnswer j 0 St.done sec b (commitTurn (fwVerify j (pieceWritten j none b))) ∧
      (commitTurn (fwVerify j (pieceWritten j none b))).led.queue = b.led.queue ++ [⟨8, idleCopy b, 0, sec % 2 ^ 32, devF b⟩] := by
  rw [fwVerify_valid good final (piece_found found) hsig hlen floor, commitTurn_frame]
  refine ⟨?_, pieceAnswered j _ _ _ (x := copyValid ver sec (pieceWritten j none b)) rfl rfl rfl, ?_⟩
  · rw [fwEnd_frame]
    refine getD_set_same _ _ ?_
    show idleCopy b < (b.fw.copies.set (idleCopy b) {}).length
    rw [List.length_set, copies]
    exact idleCopy_lt b
  · rw [fwEnd_frame]
    rfl

theorem piece_refused (refused : sig = false ∨ len = false ∨ sec < b.fw.floor) :
    (commitTurn (fwVerify j (pieceWritten j none b))).fw.copies.getD (idleCopy b) {} = {} ∧
      FwAnswer j (if sig = false then 1 else if len = false then 2 else 3) St.failed sec b (commitTurn (fwVerify j (pieceWritten j none b))) := by
  rw [fwVerify_refused good final (piece_found found) refused, commitTurn_frame]
  refine ⟨?_, pieceAnswered j _ _ _ (x := pieceWritten j none b) rfl rfl rfl⟩
  rw [fwEnd_frame]
  exact pieceWritten_copy j none copies

end
end
end

end Sys2Proof.Machine

namespace Sys2Proof.Machine

/-! What leaves the power state alone: every step of the frame, of the entry to PARK and of the first frame of a run but for those that detect a condition, take up a request
or end a reset. -/

@[simp] theorem stampNow_pwr (b : Block) : (stampNow b).2.pwr = b.pwr := by simp [stampNow]
@[simp] theorem dmaWrite_pwr (addr : Nat) (ws : List Word) (b : Block) : (dmaWrite addr ws b).pwr = b.pwr := by simp [dmaWrite]
@[simp] theorem srPut_pwr (s : Nat) (ws : List Word) (b : Block) : (srPut s ws b).pwr = b.pwr := by simp [srPut]
@[simp] theorem srPlace_pwr (s : Nat) (r : Rec) (b : Block) : (srPlace s r b).pwr = b.pwr := by simp [srPlace]
@[simp] theorem srDrop_pwr (s n : Nat) (b : Block) : (srDrop s n b).pwr = b.pwr := by simp [srDrop]
@[simp] theorem srOffer_pwr (s : Nat) (r : Rec) (b : Block) : (srOffer s r b).pwr = b.pwr := by simp [srOffer]
@[simp] theorem srDrain_pwr (s n moved : Nat) (b : Block) : (srDrain s n moved b).2.pwr = b.pwr := by
  induction n generalizing moved b with
  | zero => rfl
  | succ n ih =>
    unfold srDrain
    split
    · rfl
    · split <;> simp [ih]
@[simp] theorem fifoOffer_pwr (f : Nat) (r : Rec) (b : Block) : (fifoOffer f r b).pwr = b.pwr := by simp [fifoOffer, fifoCross]
@[simp] theorem capLoseMark_pwr (r : Nat) (b : Block) : (capLoseMark r b).pwr = b.pwr := by simp [capLoseMark]
@[simp] theorem capOverlay_pwr (area : List (Nat × Nat)) (o : Nat) (b : Block) : (capOverlay area o b).pwr = b.pwr := by simp [capOverlay]
@[simp] theorem capOffer_pwr (r : Nat) (rc : Rec) (b : Block) : (capOffer r rc b).pwr = b.pwr := by simp [capOffer]
@[simp] theorem capGive_pwr (r : Nat) (rc : Rec) (b : Block) : (capGive r rc b).pwr = b.pwr := by simp [capGive]
@[simp] theorem setWords_pwr (a : Nat) (ws : List Word) (b : Block) : (setWords a ws b).pwr = b.pwr := by
  induction ws generalizing a b with
  | nil => rfl
  | cons w ws ih => simp [setWords, ih]
@[simp] theorem setPair_pwr (a v : Nat) (b : Block) : (setPair a v b).pwr = b.pwr := by simp [setPair]
@[simp] theorem setStamp_pwr (a d : Nat) (b : Block) : (setStamp a d b).pwr = b.pwr := by simp [setStamp]
@[simp] theorem windows_pwr (r : Rec) (b : Block) : (windows r b).pwr = b.pwr := by
  unfold windows
  split <;> simp
@[simp] theorem takeWork_pwr (b : Block) : (takeWork b).pwr = b.pwr := by simp [takeWork]
@[simp] theorem emitOvertaken_pwr (b : Block) : (emitOvertaken b).pwr = b.pwr := by simp [emitOvertaken]
@[simp] theorem takeEvents_pwr (due : List EventRec) (b : Block) : (takeEvents due b).2.pwr = b.pwr := by simp [takeEvents]
@[simp] theorem placeOne_pwr (r : Rec) (b : Block) : (placeOne r b).pwr = b.pwr := by simp [placeOne, capAll]
@[simp] theorem streamEmit_pwr (s : Nat) (carried new : List Rec) (moved : Nat) (b : Block) : (streamEmit s carried new moved b).2.pwr = b.pwr := by
  unfold streamEmit
  split <;> simp
@[simp] theorem streamsEmit_pwr (carried new : List Rec) (ss : List Nat) (moved : Nat) (b : Block) : (streamsEmit carried new ss moved b).pwr = b.pwr := by
  induction ss generalizing moved b with
  | nil => rfl
  | cons s rest ih => simp [streamsEmit, ih]
@[simp] theorem fifoFlush_pwr (f : Nat) (b : Block) : (fifoFlush f b).pwr = b.pwr := by simp [fifoFlush]
@[simp] theorem markChain_pwr (rs : List Rec) (b : Block) : (markChain rs b).2.pwr = b.pwr := by
  induction rs generalizing b with
  | nil => rfl
  | cons r rs ih =>
    unfold markChain
    split
    · rfl
    · split
      · rfl
      · exact ih b
@[simp] theorem emitRecords_pwr (n : Nat) (w : EmitWork) (b : Block) : (emitRecords n w b).pwr = b.pwr := by simp [emitRecords, capRaw]
@[simp] theorem queueRec_pwr (r : Rec) (b : Block) : (queueRec r b).pwr = b.pwr := by simp [queueRec]
@[simp] theorem freezeCounters_pwr (b : Block) : (freezeCounters b).pwr = b.pwr := by simp [freezeCounters]
@[simp] theorem hbtFollow_pwr (b : Block) : (hbtFollow b).pwr = b.pwr := by simp [hbtFollow]
@[simp] theorem hbtStart_pwr (b : Block) : (hbtStart b).pwr = b.pwr := by simp [hbtStart]
@[simp] theorem refreshLevels_pwr (b : Block) : (refreshLevels b).pwr = b.pwr := by simp [refreshLevels]
@[simp] theorem takeConds_pwr (b : Block) : (takeConds b).2.pwr = b.pwr := by simp [takeConds]
@[simp] theorem injEnd_pwr (i : Nat) (b : Block) : (injEnd i b).pwr = b.pwr := by simp [injEnd]
@[simp] theorem slCfgTake_pwr (b : Block) : (slCfgTake b).pwr = b.pwr := by simp [slCfgTake]
@[simp] theorem finishAll_pwr {p : CmdWait → Bool} {f : Nat → Block → Block} (b : Block) (h : ∀ q c, (f q c).pwr = c.pwr) : (finishAll p f b).pwr = b.pwr := by
  refine each_pwr _ _ _ fun q c => ?_
  split
  · split <;> simp [h]
  · rfl
@[simp] theorem dmaOut_pwr (q : Nat) (fail : Bool) (addr : Nat) (ws : List Word) (status detail r0 r1 : Nat) (b : Block) : (dmaOut q fail addr ws status detail r0 r1 b).pwr = b.pwr := by simp [dmaOut]
@[simp] theorem postOne_pwr (c : Nat) (b : Block) : (postOne c b).pwr = b.pwr := by
  unfold postOne
  dsimp only
  split <;> simp
@[simp] theorem postAll_pwr (b : Block) : (postAll b).pwr = b.pwr := by simp [postAll]
@[simp] theorem putBalDirty_pwr (n : Nat) (c : BalCell) (b : Block) : (putBalDirty n c b).pwr = b.pwr := by simp [putBalDirty]
@[simp] theorem putGate_pwr (n : Nat) (c : BalCell) (b : Block) : (putGate n c b).pwr = b.pwr := by simp [putGate]
@[simp] theorem balAccrue_pwr (b : Block) : (balAccrue b).pwr = b.pwr := by simp [balAccrue]
@[simp] theorem stopCell_pwr (n : Nat) (b : Block) : (stopCell n b).pwr = b.pwr := by simp [stopCell]
@[simp] theorem dropCell_pwr (n : Nat) (b : Block) : (dropCell n b).pwr = b.pwr := by simp [dropCell]
@[simp] theorem zeroCell_pwr (n : Nat) (b : Block) : (zeroCell n b).pwr = b.pwr := by simp [zeroCell]
@[simp] theorem tierOff_pwr (t : Nat) (b : Block) : (tierOff t b).pwr = b.pwr := by simp [tierOff]
@[simp] theorem balForce_pwr (b : Block) : (balForce b).pwr = b.pwr := by simp [balForce]
@[simp] theorem balMode_pwr (b : Block) : (balMode b).pwr = b.pwr := by simp [balMode]
@[simp] theorem setEntry_pwr (w : Word) (b : Block) : (setEntry w b).pwr = b.pwr := by
  unfold setEntry
  dsimp only
  split <;> simp
@[simp] theorem applySet_pwr (ws : List Word) (b : Block) : (applySet ws b).2.pwr = b.pwr := by simp [applySet]
@[simp] theorem balSets_pwr (b : Block) : (balSets b).pwr = b.pwr := by
  have kept : ∀ (l : List (Nat × List Word)) (c : Block), (each l (fun x b =>
      match (sqOf (applySet x.2 b).2 x.1).running with
      | some r => if r.wait = .balSet then
          finish x.1 (if (applySet x.2 b).1 = 1 then St.done else St.refused) (applySet x.2 b).1 (frame (applySet x.2 b).2) 0 (applySet x.2 b).2
          else (applySet x.2 b).2
      | none => (applySet x.2 b).2) c).pwr = c.pwr := by
    intro l c
    refine each_pwr _ _ _ fun x c => ?_
    split
    · split <;> simp
    · simp
  unfold balSets
  dsimp only
  split
  · exact kept _ _
  · exact (applySet_pwr _ _).trans (kept _ _)
@[simp] theorem balTargets_pwr (b : Block) : (balTargets b).pwr = b.pwr := by simp [balTargets]
@[simp] theorem balPeriod_pwr (b : Block) : (balPeriod b).pwr = b.pwr := by simp [balPeriod]
@[simp] theorem balMet_pwr (b : Block) : (balMet b).pwr = b.pwr := by
  refine each_pwr _ _ _ fun n c => ?_
  dsimp only
  split <;> simp
@[simp] theorem govern_pwr (t : Nat) (b : Block) : (govern t b).pwr = b.pwr := by simp [govern]
@[simp] theorem balGovern_pwr (b : Block) : (balGovern b).pwr = b.pwr := by simp [balGovern]
@[simp] theorem balGates_pwr (b : Block) : (balGates b).pwr = b.pwr := by simp [balGates]
@[simp] theorem balRbal_pwr (b : Block) : (balRbal b).pwr = b.pwr := by simp [balRbal]
@[simp] theorem balActs_pwr (b : Block) : (balActs b).pwr = b.pwr := by simp [balActs, balCleared]
@[simp] theorem parkAuto_pwr (t : Nat) (b : Block) : (parkAuto t b).pwr = b.pwr := by simp [parkAuto]
@[simp] theorem balPark_pwr (b : Block) : (balPark b).pwr = b.pwr := by simp [balPark]
@[simp] theorem addSetl_pwr (x : Setl) (b : Block) : (addSetl x b).pwr = b.pwr := by simp [addSetl]
@[simp] theorem setlNow_pwr (lo hi : Nat) (filter : Bool) (b : Block) : (setlNow lo hi filter b).pwr = b.pwr := by simp [setlNow]
@[simp] theorem tierReturn_pwr (t : Nat) (b : Block) : (tierReturn t b).pwr = b.pwr := by simp [tierReturn]
@[simp] theorem overrun_pwr (bit : Nat) (b : Block) : (overrun bit b).pwr = b.pwr := by simp [overrun]
@[simp] theorem markPoints_pwr (d : Nat) (f : Sweep → Sweep) (b : Block) : (markPoints d f b).pwr = b.pwr := by simp [markPoints]
@[simp] theorem spoil_pwr (cs : List Nat) (d : Nat) (b : Block) : (spoil cs d b).pwr = b.pwr := by simp [spoil]
@[simp] theorem markMiss_pwr (t d : Nat) (b : Block) : (markMiss t d b).pwr = b.pwr := by simp [markMiss]
@[simp] theorem collectForgive_pwr (b : Block) : (collectForgive b).pwr = b.pwr := by
  unfold collectForgive
  split <;> simp
@[simp] theorem collectDeadline_pwr (b : Block) : (collectDeadline b).pwr = b.pwr := by simp [collectDeadline, collectOverrun]
@[simp] theorem owPostpone_pwr (t j : Nat) (b : Block) : (owPostpone t j b).pwr = b.pwr := by simp [owPostpone]
@[simp] theorem owHarness_pwr (x : OwTest) (shift8 : Int) (b : Block) : (owHarness x shift8 b).pwr = b.pwr := by simp [owHarness]
@[simp] theorem owJudge_pwr (x : OwTest) (b : Block) : (owJudge x b).pwr = b.pwr := by simp [owJudge]
@[simp] theorem owEval_pwr (b : Block) : (owEval b).pwr = b.pwr := by
  unfold owEval
  split <;> simp
@[simp] theorem chkCycle_pwr (b : Block) : (chkCycle b).pwr = b.pwr := by simp [chkCycle]
@[simp] theorem chkJudge_pwr (p : ChkPend) (b : Block) : (chkJudge p b).pwr = b.pwr := by simp [chkJudge]
@[simp] theorem levelsTick_pwr (b : Block) : (levelsTick b).pwr = b.pwr := by simp [levelsTick]
@[simp] theorem auxTake_pwr (x : AuxInput) (b : Block) : (auxTake x b).pwr = b.pwr := by simp [auxTake, levelLater]
@[simp] theorem auxRecord_pwr (first dev : Nat) (b : Block) : (auxRecord first dev b).pwr = b.pwr := by simp [auxRecord]
@[simp] theorem auxClose_pwr (first dev : Nat) (b : Block) : (auxClose first dev b).pwr = b.pwr := by simp [auxClose]
@[simp] theorem chainEnds_pwr (jump : Bool) (b : Block) : (chainEnds jump b).pwr = b.pwr := by simp [chainEnds]
@[simp] theorem jobsOvertaken_pwr (b : Block) : (jobsOvertaken b).pwr = b.pwr := by simp [jobsOvertaken]
@[simp] theorem fineStart_pwr (b : Block) : (fineStart b).pwr = b.pwr := by simp [fineStart]
@[simp] theorem fineAbort_pwr (b : Block) : (fineAbort b).pwr = b.pwr := by simp [fineAbort]
@[simp] theorem alignTiers_pwr (ts : List Nat) (b : Block) : (alignTiers ts b).pwr = b.pwr := by simp [alignTiers]
@[simp] theorem alignStart_pwr (b : Block) : (alignStart b).pwr = b.pwr := by simp [alignStart]
@[simp] theorem putSweep_pwr (w : Option Sweep) (b : Block) : (putSweep w b).pwr = b.pwr := by simp [putSweep]
@[simp] theorem endExcite_pwr (n : Nat) (b : Block) : (endExcite n b).pwr = b.pwr := by simp [endExcite]
@[simp] theorem endHolds_pwr (b : Block) : (endHolds b).pwr = b.pwr := by simp [endHolds]
@[simp] theorem startExcite_pwr (w : Sweep) (b : Block) : (startExcite w b).2.pwr = b.pwr := by simp [startExcite]
@[simp] theorem passStart_pwr (b : Block) : (passStart b).pwr = b.pwr := by
  unfold passStart
  split <;> simp
@[simp] theorem sweepEnd_pwr (w : Sweep) (result : Nat) (b : Block) : (sweepEnd w result b).pwr = b.pwr := by simp [sweepEnd]
@[simp] theorem sweepAbort_pwr (result : Nat) (b : Block) : (sweepAbort result b).pwr = b.pwr := by
  unfold sweepAbort
  split <;> simp
@[simp] theorem passEnd_pwr (b : Block) : (passEnd b).pwr = b.pwr := by
  unfold passEnd
  (repeat' split) <;> simp
@[simp] theorem stopLowered_pwr (b : Block) : (stopLowered b).pwr = b.pwr := by
  unfold stopLowered
  (repeat' split) <;> simp
@[simp] theorem passNote_pwr (b : Block) : (passNote b).pwr = b.pwr := by
  unfold passNote
  (repeat' split) <;> simp
@[simp] theorem sweepRequest_pwr (s : Nat) (q : Option Nat) (b : Block) : (sweepRequest s q b).pwr = b.pwr := by
  unfold sweepRequest
  dsimp only
  (repeat' split) <;> simp
@[simp] theorem nextStart_pwr (b : Block) : (nextStart b).pwr = b.pwr := by
  unfold nextStart
  split <;> simp
@[simp] theorem sweepAccept_pwr (b : Block) : (sweepAccept b).pwr = b.pwr := by
  unfold sweepAccept
  dsimp only
  split <;> simp
@[simp] theorem sweepAborts_pwr (b : Block) : (sweepAborts b).pwr = b.pwr := by simp [sweepAborts]
@[simp] theorem putString_pwr (t : Nat) (x : RlString) (b : Block) : (putString t x b).pwr = b.pwr := by simp [putString]
@[simp] theorem stringDrop_pwr (t : Nat) (soon : Bool) (b : Block) : (stringDrop t soon b).pwr = b.pwr := by simp [stringDrop]
@[simp] theorem putFast_pwr (n : Nat) (c : FastCell) (b : Block) : (putFast n c b).pwr = b.pwr := by simp [putFast]
@[simp] theorem fastLookup_pwr (n : Nat) (b : Block) : (fastLookup n b).pwr = b.pwr := by simp [fastLookup]
@[simp] theorem zriseCheck_pwr (b : Block) : (zriseCheck b).pwr = b.pwr := by simp [zriseCheck]
@[simp] theorem placeNotch_pwr (k : Nat) (p : Option (Nat × Nat)) (b : Block) : (placeNotch k p b).pwr = b.pwr := by simp [placeNotch]
@[simp] theorem ovrEvent_pwr (o : Override) (what : Nat) (b : Block) : (ovrEvent o what b).pwr = b.pwr := by simp [ovrEvent]
@[simp] theorem countOvr_pwr (b : Block) : (countOvr b).pwr = b.pwr := by simp [countOvr]
@[simp] theorem dropOvr_pwr (keep : Override → Bool) (b : Block) : (dropOvr keep b).pwr = b.pwr := by simp [dropOvr]
@[simp] theorem ovrAct_pwr (o : Override) (b : Block) : (ovrAct o b).pwr = b.pwr := by simp [ovrAct]
@[simp] theorem takeOne_pwr (o : Override) (b : Block) : (takeOne o b).2.pwr = b.pwr := by
  unfold takeOne
  dsimp only
  (repeat' split) <;> simp
@[simp] theorem takeUp_pwr (b : Block) : (takeUp b).pwr = b.pwr := by
  unfold takeUp
  rw [countOvr_pwr]
  refine each_pwr _ _ _ fun o c => ?_
  dsimp only
  split <;> simp
@[simp] theorem expireOvr_pwr (b : Block) : (expireOvr b).pwr = b.pwr := by simp [expireOvr]
@[simp] theorem ovrPark_pwr (b : Block) : (ovrPark b).pwr = b.pwr := by simp [ovrPark]
@[simp] theorem polModeChange_pwr (b : Block) : (polModeChange b).pwr = b.pwr := by simp [polModeChange]
@[simp] theorem polTick_pwr (b : Block) : (polTick b).pwr = b.pwr := by
  unfold polTick
  split <;> simp
@[simp] theorem describePred_pwr (b : Block) : (describePred b).pwr = b.pwr := by simp [describePred]
@[simp] theorem describeImage_pwr (b : Block) : (describeImage b).pwr = b.pwr := by simp [describeImage]
@[simp] theorem unhalt_pwr (b : Block) : (unhalt b).pwr = b.pwr := by simp [unhalt]
@[simp] theorem haltCheck_pwr (b : Block) : (haltCheck b).pwr = b.pwr := by simp [haltCheck]
@[simp] theorem stepAbandon_pwr (b : Block) : (stepAbandon b).pwr = b.pwr := by
  unfold stepAbandon
  split <;> simp
@[simp] theorem stepLength_pwr (b : Block) : (stepLength b).pwr = b.pwr := by simp [stepLength]
@[simp] theorem swapCopies_pwr (b : Block) : (swapCopies b).pwr = b.pwr := by simp [swapCopies]
@[simp] theorem imageSwap_pwr (b : Block) : (imageSwap b).pwr = b.pwr := by simp [imageSwap, applyDefaults, putHalf]
@[simp] theorem stepBegin_pwr (b : Block) : (stepBegin b).pwr = b.pwr := by simp [stepBegin]
@[simp] theorem stepBoundary_pwr (b : Block) : (stepBoundary b).pwr = b.pwr := by simp [stepBoundary, adaptSwap]
@[simp] theorem setImgState_pwr (n : Nat) (b : Block) : (setImgState n b).pwr = b.pwr := by simp [setImgState]
@[simp] theorem noImage_pwr (b : Block) : (noImage b).pwr = b.pwr := by simp [noImage, estimatesInvalid]
@[simp] theorem cancelSwap_pwr (result : Nat) (b : Block) : (cancelSwap result b).pwr = b.pwr := by simp [cancelSwap]
@[simp] theorem fenResetStart_pwr (crcBad : Bool) (b : Block) : (fenResetStart crcBad b).pwr = b.pwr := by simp [fenResetStart, resetBut]
@[simp] theorem fenResetEnd_pwr (b : Block) : (fenResetEnd b).pwr = b.pwr := by simp [fenResetEnd]
@[simp] theorem flushStart_pwr (b : Block) : (flushStart b).pwr = b.pwr := by simp [flushStart]
@[simp] theorem flushDone_pwr (img : LedImage) (b : Block) : (flushDone img b).pwr = b.pwr := by simp [flushDone]
@[simp] theorem eraseNow_pwr (b : Block) : (eraseNow b).pwr = b.pwr := by simp [eraseNow]
@[simp] theorem commitTurn_pwr (b : Block) : (commitTurn b).pwr = b.pwr := by simp [commitTurn]
@[simp] theorem journalTick_pwr (b : Block) : (journalTick b).pwr = b.pwr := by simp [journalTick, journalWrite]
@[simp] theorem flushPeriodic_pwr (b : Block) : (flushPeriodic b).pwr = b.pwr := by simp [flushPeriodic]
@[simp] theorem activeRegs_pwr (b : Block) : (activeRegs b).pwr = b.pwr := by simp [activeRegs]
@[simp] theorem cellEnChange_pwr (old : List (Nat × Word)) (b : Block) : (cellEnChange old b).pwr = b.pwr := by simp [cellEnChange, imageInvalid]
@[simp] theorem applySet2_pwr (s : List (Nat × Word)) (b : Block) : (applySet2 s b).pwr = b.pwr := by simp [applySet2, spoilAll]
@[simp] theorem commitApply_pwr (b : Block) : (commitApply b).pwr = b.pwr := by simp [commitApply, cfgWriteDone]
@[simp] theorem notchPlace_pwr (b : Block) : (notchPlace b).pwr = b.pwr := by
  unfold notchPlace
  dsimp only
  split
  · rfl
  · simp only [when_pwr, setlNow_pwr, activeRegs_pwr]
    refine each_pwr _ _ _ fun x c => ?_
    obtain ⟨k, p⟩ := x
    cases p <;> simp
@[simp] theorem quietEnd_pwr (b : Block) : (quietEnd b).pwr = b.pwr := by
  unfold quietEnd
  split <;> simp
@[simp] theorem quietStart_pwr (b : Block) : (quietStart b).pwr = b.pwr := by simp [quietStart]
@[simp] theorem putHop_pwr (h : Nat) (x : Hop) (b : Block) : (putHop h x b).pwr = b.pwr := by simp [putHop]
@[simp] theorem headSwitch_pwr (b : Block) : (headSwitch b).pwr = b.pwr := by simp [headSwitch]
@[simp] theorem ringLevels_pwr (b : Block) : (ringLevels b).pwr = b.pwr := by simp [ringLevels]
@[simp] theorem hopBreak_pwr (h : Nat) (up : Bool) (errs : Nat) (b : Block) : (hopBreak h up errs b).pwr = b.pwr := by simp [hopBreak]
@[simp] theorem enumerate_pwr (e : EnumResult) (b : Block) : (enumerate e b).pwr = b.pwr := by simp [enumerate, markersBack]
@[simp] theorem enumEnd_pwr (e : EnumResult) (b : Block) : (enumEnd e b).pwr = b.pwr := by simp [enumEnd, repairLoad]
@[simp] theorem enumTick_pwr (b : Block) : (enumTick b).pwr = b.pwr := by
  unfold enumTick
  split <;> simp
@[simp] theorem markerLoss_pwr (t : Nat) (b : Block) : (markerLoss t b).pwr = b.pwr := by
  unfold markerLoss
  split <;> simp
@[simp] theorem ringRetrain_pwr (b : Block) : (ringRetrain b).pwr = b.pwr := by simp [ringRetrain]
@[simp] theorem marchStart_pwr (b : Block) : (marchStart b).pwr = b.pwr := by simp [marchStart]
@[simp] theorem marchEnd_pwr (b : Block) : (marchEnd b).pwr = b.pwr := by simp [marchEnd]
@[simp] theorem isolate_pwr (target engine : Nat) (b : Block) : (isolate target engine b).pwr = b.pwr := by simp [isolate]
@[simp] theorem resume_pwr (target : Nat) (b : Block) : (resume target b).pwr = b.pwr := by simp [resume]
@[simp] theorem bistStart_pwr (b : Block) : (bistStart b).pwr = b.pwr := by
  unfold bistStart
  split <;> simp
@[simp] theorem hostEnd_pwr (state result : Nat) (r : BistRun) (b : Block) : (hostEnd state result r b).pwr = b.pwr := by simp [hostEnd]
@[simp] theorem hostAbort_pwr (r : BistRun) (b : Block) : (hostAbort r b).pwr = b.pwr := by simp [hostAbort, failRegs]
@[simp] theorem rollNext_pwr (r : BistRun) (b : Block) : (rollNext r b).pwr = b.pwr := by simp [rollNext]
@[simp] theorem bistCut_pwr (all : Bool) (b : Block) : (bistCut all b).pwr = b.pwr := by
  unfold bistCut
  dsimp only
  (repeat' split) <;> simp
@[simp] theorem rollStart_pwr (b : Block) : (rollStart b).pwr = b.pwr := by simp [rollStart]
@[simp] theorem forgetRings_pwr (b : Block) : (forgetRings b).pwr = b.pwr := by simp [forgetRings]
@[simp] theorem hstReset_pwr (b0 : Block) : (hstReset b0).pwr = b0.pwr := by simp [hstReset]
@[simp] theorem resendVec0_pwr (b : Block) : (resendVec0 b).pwr = b.pwr := by simp [resendVec0, lateWrites]
@[simp] theorem sqTick_pwr (q : Nat) (b : Block) : (sqTick q b).pwr = b.pwr := by simp [sqTick]
@[simp] theorem cqTick_pwr (c : Nat) (b : Block) : (cqTick c b).pwr = b.pwr := by simp [cqTick]
@[simp] theorem srTick_pwr (s : Nat) (b : Block) : (srTick s b).pwr = b.pwr := by simp [srTick]
@[simp] theorem ringTick_pwr (b : Block) : (ringTick b).pwr = b.pwr := by simp [ringTick]
@[simp] theorem fetchTick_pwr (b : Block) : (fetchTick b).pwr = b.pwr := by simp [fetchTick]
@[simp] theorem sendVectors_pwr (b : Block) : (sendVectors b).pwr = b.pwr := by simp [sendVectors]
@[simp] theorem statusPage_pwr (b : Block) : (statusPage b).pwr = b.pwr := by simp [statusPage, traffic]
@[simp] theorem ptmPair_pwr (b : Block) : (ptmPair b).pwr = b.pwr := by simp [ptmPair]
@[simp] theorem timeSyncTick_pwr (b : Block) : (timeSyncTick b).pwr = b.pwr := by simp [timeSyncTick]
@[simp] theorem ptmTick_pwr (b : Block) : (ptmTick b).pwr = b.pwr := by simp [ptmTick]
@[simp] theorem capStop_pwr (r : Nat) (b : Block) : (capStop r b).pwr = b.pwr := by simp [capStop]
@[simp] theorem capTick_pwr (r : Nat) (b : Block) : (capTick r b).pwr = b.pwr := by simp [capTick]
@[simp] theorem capTicks_pwr (b : Block) : (capTicks b).pwr = b.pwr := by simp [capTicks]
@[simp] theorem pullOn_pwr (q ring start len addr copied pace : Nat) (fail : Bool) (b : Block) : (pullOn q ring start len addr copied pace fail b).pwr = b.pwr := by simp [pullOn]
@[simp] theorem pullTick_pwr (b : Block) : (pullTick b).pwr = b.pwr := by
  refine each_pwr _ _ _ fun q c => ?_
  split <;> simp
@[simp] theorem cntModes_pwr (b : Block) : (cntModes b).pwr = b.pwr := by simp [cntModes]
@[simp] theorem cntSnap_pwr (b : Block) : (cntSnap b).pwr = b.pwr := by simp [cntSnap]
@[simp] theorem reachRun_pwr (b : Block) : (reachRun b).pwr = b.pwr := by simp [reachRun]
@[simp] theorem lcTick_pwr (b : Block) : (lcTick b).pwr = b.pwr := by simp [lcTick]
@[simp] theorem cfgCapture_pwr (b : Block) : (cfgCapture b).pwr = b.pwr := by simp [cfgCapture]
@[simp] theorem fwEnd_pwr (j : FwJob) (status detail r1 : Nat) (b : Block) : (fwEnd j status detail r1 b).pwr = b.pwr := by
  unfold fwEnd
  split <;> simp
@[simp] theorem fwAbort_pwr (b : Block) : (fwAbort b).pwr = b.pwr := by simp [fwAbort]
@[simp] theorem radioReset_pwr (b : Block) : (radioReset b).pwr = b.pwr := by simp [radioReset]
@[simp] theorem topoLevels_pwr (b : Block) : (topoLevels b).pwr = b.pwr := by simp [topoLevels]
@[simp] theorem cwOff_pwr (b : Block) : (cwOff b).pwr = b.pwr := by simp [cwOff]
@[simp] theorem sendToken_pwr (sender next unas : Nat) (b : Block) : (sendToken sender next unas b).pwr = b.pwr := by simp [sendToken]
@[simp] theorem putCwHop_pwr (h : Nat) (x : CwHop) (b : Block) : (putCwHop h x b).pwr = b.pwr := by simp [putCwHop]
@[simp] theorem breakLevel_pwr (b : Block) : (breakLevel b).pwr = b.pwr := by simp [breakLevel]
@[simp] theorem renegTick_pwr (b : Block) : (renegTick b).pwr = b.pwr := by simp [renegTick]
@[simp] theorem routeRestore_pwr (b : Block) : (routeRestore b).pwr = b.pwr := by simp [routeRestore]
@[simp] theorem cwReset_pwr (b : Block) : (cwReset b).pwr = b.pwr := by simp [cwReset]
@[simp] theorem profileChange_pwr (told : Nat) (b : Block) : (profileChange told b).pwr = b.pwr := by simp [profileChange]
@[simp] theorem cwEnumEnd_pwr (e : CwEnum) (b : Block) : (cwEnumEnd e b).pwr = b.pwr := by simp [cwEnumEnd]
@[simp] theorem cwEnumTick_pwr (b : Block) : (cwEnumTick b).pwr = b.pwr := by
  unfold cwEnumTick
  split <;> simp
@[simp] theorem hbMiss_pwr (a n limit : Nat) (b : Block) : (hbMiss a n limit b).pwr = b.pwr := by simp [hbMiss]
@[simp] theorem hbTick_pwr (b : Block) : (hbTick b).pwr = b.pwr := by simp [hbTick]
@[simp] theorem jumpNow_pwr (new : Nat) (b : Block) : (jumpNow new b).pwr = b.pwr := by simp [jumpNow, jumpRing]
@[simp] theorem radioCycle_pwr (b : Block) : (radioCycle b).pwr = b.pwr := by simp [radioCycle]
@[simp] theorem radioSlot_pwr (b : Block) : (radioSlot b).pwr = b.pwr := by
  unfold radioSlot
  split <;> simp
@[simp] theorem superframeBegin_pwr (b : Block) : (superframeBegin b).pwr = b.pwr := by simp [superframeBegin, radioAccount, radioLoss, radioMissed]
@[simp] theorem forwardLate_pwr (q : Nat) (b : Block) : (forwardLate q b).pwr = b.pwr := by
  unfold forwardLate
  split <;> simp
@[simp] theorem cwTick_pwr (b : Block) : (cwTick b).pwr = b.pwr := by simp [cwTick, inboxTick, lockTick, breakShow, rootSync, sendChar, sendTag, forwardTimeout, fwdEnd, superframe, syncLoss]
@[simp] theorem reachMarks_pwr (b : Block) : (reachMarks b).pwr = b.pwr := by simp [reachMarks]
@[simp] theorem tickCounters_pwr (b : Block) : (tickCounters b).pwr = b.pwr := by simp [tickCounters, cntTick, cntClear, cntUnfreeze]
@[simp] theorem parkCommands_pwr (b : Block) : (parkCommands b).pwr = b.pwr := by simp [parkCommands]
@[simp] theorem parkFrame_pwr (b : Block) : (parkFrame b).pwr = b.pwr := by simp [parkFrame]
@[simp] theorem parkStrings_pwr (b : Block) : (parkStrings b).pwr = b.pwr := by simp [parkStrings]
@[simp] theorem resetStart_pwr (d : Domain) (crcBad : Bool) (b : Block) : (resetStart d crcBad b).pwr = b.pwr := by
  unfold resetStart
  split <;> simp
@[simp] theorem rawNow_pwr (b : Block) : (rawNow b).pwr = b.pwr := by simp [rawNow]
@[simp] theorem samplesTick_pwr (b : Block) : (samplesTick b).pwr = b.pwr := by simp [samplesTick]
@[simp] theorem tickBefore_pwr (b : Block) : (tickBefore b).pwr = b.pwr := by simp [tickBefore, breakTick, evalOvertaken, evalPassed, judgeLast, chkEval, emitPassed, collectPassed, missTick, formJobs]
@[simp] theorem owedAt_pwr (b : Block) : (owedAt b).pwr = b.pwr := by simp [owedAt]
@[simp] theorem tickClock_pwr (ptm : Nat) (b : Block) : (tickClock ptm b).pwr = b.pwr := by simp [tickClock]
@[simp] theorem tickNumber_pwr (root : Option Nat) (b : Block) : (tickNumber root b).pwr = b.pwr := by
  unfold tickNumber
  split <;> simp
@[simp] theorem jobsTick_pwr (b : Block) : (jobsTick b).pwr = b.pwr := by simp [jobsTick]
@[simp] theorem coefTick_pwr (b : Block) : (coefTick b).pwr = b.pwr := by simp [coefTick]
@[simp] theorem outputTick_pwr (b : Block) : (outputTick b).pwr = b.pwr := by simp [outputTick]
@[simp] theorem tickModel_pwr (b : Block) : (tickModel b).pwr = b.pwr := by simp [tickModel, testTick, buildStart]
@[simp] theorem tickFront_pwr (b : Block) : (tickFront b).pwr = b.pwr := by simp [tickFront, auxLate, impTick, passRelease, markerTick, hopTrain, auxTick]

end Sys2Proof.Machine
namespace Sys2Proof.Machine

/-! Frames that run at a tick run through it (R85, R90): its steps leave the power state, enter SAFE, or take up a request. -/

theorem framesRun_congr {b c : Block} (h : c.pwr = b.pwr) : framesRun c = framesRun b := by
  unfold framesRun
  rw [h]

theorem SafeEntered.after {p p' p'' : Power} (h : p' = p) (k : SafeEntered p' p'') : SafeEntered p p'' := h ▸ k

theorem SafeEntered.runs {b c : Block} (h : SafeEntered b.pwr c.pwr) (runs : framesRun b = true) : framesRun c = true := by
  rcases h with same | ⟨-, safe, -⟩
  · rw [framesRun_congr same, runs]
  · simp [framesRun, safe]

theorem SafeEntered.each {α : Type} (f : α → Block → Block) (h : ∀ x c, SafeEntered c.pwr (f x c).pwr) (l : List α) (b : Block) :
    SafeEntered b.pwr (each l f b).pwr := by
  induction l generalizing b with
  | nil => exact .inl rfl
  | cons x xs ih => exact (h x b).trans (ih (f x b))

theorem bits_pwr (a : Nat) (on : Bool) (is : List Nat) (b : Block) : (each is (fun i b => putArrBit a i on b) b).pwr = b.pwr := by simp

theorem injTick_pwr (b : Block) : SafeEntered b.pwr (injTick b).pwr := by
  unfold injTick
  extract_lets set clr sl b1 cleared b2 act b3 b4 hw
  have taken : b2.pwr = b.pwr := by
    unfold b2
    split
    · exact (bits_pwr _ _ _ _).trans (each_pwr _ _ _ injEnd_pwr)
    · exact each_pwr _ _ _ injEnd_pwr
  have seen : b3.pwr = b2.pwr := bits_pwr _ _ _ _
  have live : (each hw (fun i b => putArrBit (R.SL_LIVE 0) i true b) b4).pwr = b.pwr := (bits_pwr _ _ _ _).trans (seen.trans taken)
  exact .after live (detect_pwr _ _)

theorem sluiceTick_pwr (b : Block) : SafeEntered b.pwr (sluiceTick b).pwr := by
  unfold sluiceTick
  extract_lets b1 refused sl b2
  have cleared : b2.pwr = b.pwr := (bits_pwr _ _ _ _).trans (slCfgTake_pwr b)
  rw [hbtStart_pwr, hbtFollow_pwr]
  exact .after cleared (injTick_pwr b2)

theorem liveResume_pwr (t : Nat) (b : Block) : SafeEntered b.pwr (liveResume t b).pwr := by
  unfold liveResume
  extract_lets i on b1
  split
  · exact detect_pwr _ b1
  · exact .inl rfl

theorem resetEnd_pwr (d : Domain) (b : Block) : SafeEntered b.pwr (resetEnd d b).pwr := by
  unfold resetEnd
  extract_lets sl b1
  split
  · next t =>
    have back : (tierReturn t b1).pwr = b.pwr := tierReturn_pwr t b1
    exact .after back (liveResume_pwr t _)
  · exact .inl (fenResetEnd_pwr b1)
  · exact .inl rfl

theorem resetTick_pwr (b : Block) : SafeEntered b.pwr (resetTick b).pwr := by
  unfold resetTick
  extract_lets ended
  have ends : SafeEntered b.pwr ended.pwr := .each (fun x : Domain × Nat => resetEnd x.1) (fun x c => resetEnd_pwr x.1 c) _ b
  exact ends.trans (.inl (by simp))

theorem parkAccept_state (b : Block) : (parkAccept b).pwr.state = .park ∧ (parkAccept b).pwr.parking = true := by
  unfold parkAccept
  extract_lets cut b1 p b2
  have parking : b2.pwr.rest.1 = true := by
    simp only [b2, setPower_keeps]
    rfl
  have state : b2.pwr.state = .park := (setPower_state .park _).1
  have same : (sweepAbort 4 (cancelSwap 4 (ovrPark b2))).pwr = b2.pwr := by simp
  rw [same]
  exact ⟨state, parking⟩

theorem powerTick_runs {b : Block} (runs : framesRun b = true) : framesRun (powerTick b) = true := by
  have reached : ∀ (c : Block) (p : PowerState), c.pwr.state = p → p = .run ∨ p = .standby → framesRun c = true := by
    rintro c p state (rfl | rfl) <;> simp [framesRun, state]
  unfold powerTick
  split
  · exact runs
  · dsimp only
    split
    · exact runs
    · split
      · exact reached _ .run (by simpa using (setPower_state .run _).1) (.inl rfl)
      · exact reached _ .run (by simpa using (setPower_state .run _).1) (.inl rfl)
      · split
        · exact runs
        · exact reached _ .standby (setPower_state .standby _).1 (.inr rfl)
      iterate 3
        · obtain ⟨state, parking⟩ := parkAccept_state { b with pwr := { b.pwr with request := none } }
          simp [framesRun, state, parking]
      · exact runs

end Sys2Proof.Machine

namespace Sys2Proof.Machine

/-! The frame tick and the firmware's store. -/

/-- A frame tick up to the firmware's share of it. -/
def beforeFw (root : Option Nat) (ptm : Nat) (b : Block) : Block :=
  let c := powerTick (sluiceTick (lcTick (beforeLife root ptm b)))
  let c := tickFront (tickModel (levelsTick (chkCycle (resetTick (notchPlace (commitApply c))))))
  pullTick (ptmTick (timeSyncTick (capTicks (each (List.range 4) fifoFlush (fetchTick (ringTick (resendVec0 c)))))))

/-- The frame tick from there on. -/
def afterFw (b : Block) : Block := cwTick (tickWatchdog (flushPeriodic (cfgCapture b)))

theorem tickAs_fwTick (root : Option Nat) (ptm : Nat) (b : Block) : tickAs root ptm b = afterFw (fwTick (beforeFw root ptm b)) := rfl

theorem afterFw_fw (b : Block) : (afterFw b).fw = b.fw := by simp [afterFw]

theorem beforeLife_pwr (root : Option Nat) (ptm : Nat) (b : Block) : (beforeLife root ptm b).pwr = b.pwr := by simp [beforeLife]

theorem beforeFw_runs (root : Option Nat) (ptm : Nat) {b : Block} (runs : framesRun b = true) : framesRun (beforeFw root ptm b) = true := by
  unfold beforeFw
  extract_lets c d
  have before : framesRun (lcTick (beforeLife root ptm b)) = true := by rw [framesRun_congr (b := b) (by simp [beforeLife_pwr])]; exact runs
  have asked : framesRun c = true := powerTick_runs ((sluiceTick_pwr _).runs before)
  have placed : framesRun (notchPlace (commitApply c)) = true := by rw [framesRun_congr (b := c) (by simp)]; exact asked
  have reset : framesRun (resetTick (notchPlace (commitApply c))) = true := (resetTick_pwr _).runs placed
  rw [framesRun_congr (b := resetTick (notchPlace (commitApply c))) (by simp [d])]
  exact reset

/-- Of the firmware's store a step up to its share of the tick changes the floor alone, which does not fall, and whether RUN was reached. -/
structure FwWaits (b c : Block) : Prop where
  job : c.fw.job = b.fw.job
  words : c.fw.words = b.fw.words
  copies : c.fw.copies = b.fw.copies
  running : c.fw.running = b.fw.running
  floor : b.fw.floor ≤ c.fw.floor

theorem fwWaits_of_eq {b c : Block} (h : c.fw = b.fw) : FwWaits b c := ⟨by rw [h], by rw [h], by rw [h], by rw [h], by rw [h]⟩

theorem FwWaits.trans {b c d : Block} (h : FwWaits b c) (k : FwWaits c d) : FwWaits b d :=
  ⟨k.job.trans h.job, k.words.trans h.words, k.copies.trans h.copies, k.running.trans h.running, h.floor.trans k.floor⟩

theorem fwWaits_reachRun (b : Block) : FwWaits b (reachRun b) := by
  unfold reachRun
  split
  · exact fwWaits_of_eq rfl
  · exact ⟨rfl, rfl, rfl, rfl, le_max_left _ _⟩

theorem fwWaits_powerTick (b : Block) : FwWaits b (powerTick b) := by
  have reached : ∀ c : Block, c.fw = b.fw → FwWaits b (reachRun c) := fun c h => (fwWaits_of_eq h).trans (fwWaits_reachRun c)
  unfold powerTick
  split
  · exact fwWaits_of_eq rfl
  · dsimp only
    split
    · exact fwWaits_of_eq rfl
    · split
      · exact reached _ (by simp)
      · exact reached _ (by simp)
      · split <;> exact fwWaits_of_eq (by simp)
      all_goals exact fwWaits_of_eq (by simp)

theorem fwWaits_beforeFw (root : Option Nat) (ptm : Nat) (b : Block) : FwWaits b (beforeFw root ptm b) := by
  unfold beforeFw
  extract_lets c d
  have before : FwWaits b (sluiceTick (lcTick (beforeLife root ptm b))) := fwWaits_of_eq (by simp [beforeLife, lcTick])
  have after : FwWaits c (pullTick (ptmTick (timeSyncTick (capTicks (each (List.range 4) fifoFlush (fetchTick (ringTick (resendVec0 d)))))))) :=
    fwWaits_of_eq (by simp [d])
  exact (before.trans (fwWaits_powerTick _)).trans after

/-- O18's frame tick: the firmware's share of it is `fwTick`, run where frames run. -/
theorem frameTick_fwTick (n : BitVec 64) (b : Block) (q : List Instr) (runs : framesRun b = true) :
    ∃ c m, exec (.frameTick n) ⟨b, q⟩ = .next ⟨c, q⟩ ∧ c.fw = (fwTick m).fw ∧ framesRun m = true ∧
      m.fw.job = b.fw.job ∧ m.fw.words = b.fw.words ∧ m.fw.copies = b.fw.copies ∧ m.fw.running = b.fw.running ∧ b.fw.floor ≤ m.fw.floor := by
  obtain ⟨job, words, copies, running, floor⟩ := fwWaits_beforeFw none n.toNat b
  have share : (frameTick n.toNat b).fw = (fwTick (beforeFw none n.toNat b)).fw := by
    rw [frameTick, tickAs_fwTick, afterFw_fw]
  exact ⟨_, beforeFw none n.toNat b, by rw [exec_frameTick, inFrame_of_framesRun runs], share, beforeFw_runs none n.toNat runs, job, words, copies, running, floor⟩

end Sys2Proof.Machine

namespace Sys2Proof
open Machine

/-- Settles O18: a request leaves its job or completes with BUSY; the tick reaches `fwTick` with frames running and the store untouched but for the floor; and of
`fwTick` each frame's share is a piece, after the last of which the verdict stands. -/
theorem firmwareUpdate : Obligations.FirmwareUpdate := by
  unfold Obligations.FirmwareUpdate
  refine ⟨fun r d ws ok b q can resvd p0 aligned p3 p4 at_ len fits allowed whole => ?_, frameTick_fwTick, fun j b job runs commit flush small copies words => ?_⟩
  · rw [exec_fwUpdate ok q can resvd p0 aligned p3 p4 at_ len fits allowed whole]
    refine ⟨fun free => ⟨_, rfl, ?_⟩, fun busy => ⟨_, rfl, ?_⟩⟩
    · rw [fwUpdate_taken p0 (b := startedCmd r.val 0x0B d b) free]
      refine ⟨cmdWaits_waitOn rfl rfl, fun a out => ?_, ?_⟩
      · rw [waitOn_hst]
        exact getR_startedCmd_ne r.val 0x0B d b fun e => out (by simp [e])
      · rw [waitOn_hst]
        rfl
    · rw [fwUpdate_busy (b := startedCmd r.val 0x0B d b) busy]
      refine ⟨cmdCompletes_finish can rfl rfl (cqNo_startedCmd r.val 0x0B d b r.val), ?_⟩
      rw [finish_hst]
      rfl
  · dsimp only
    by_cases many : 100 < j.words.length
    · rw [fwTick_more job commit flush runs many]
      obtain ⟨content, runningWords, running, floor, runningCopy⟩ := pieceWritten_shown (b := b) j (some { j with at_ := j.at_ + 100, words := j.words.drop 100 }) small words
      exact ⟨content, runningWords, running, floor, runningCopy, fun _ => ⟨pieceWritten_copy j _ copies, rfl, rfl⟩, fun few => absurd few (Nat.not_le.mpr many)⟩
    · have few : j.words.length ≤ 100 := Nat.not_lt.mp many
      rw [fwTick_last job commit flush runs few]
      obtain ⟨⟨content, runningWords, running, floor, runningCopy⟩, done, lc, clock⟩ := lastPiece_shown (j := j) small words
      refine ⟨content, runningWords, running, floor, runningCopy, fun h => absurd h many, fun _ => ⟨done, lc, clock, piece_unread copies, piece_part copies,
        fun good final sig len ver sec found => ⟨piece_valid copies good final found, piece_refused copies good final found⟩⟩⟩

end Sys2Proof

namespace Sys2Proof.Machine

/-! The entry to PARK (R90): its flush, its last frame and its stop leave the nonvolatile store, and stay in PARK. -/

/-- The life cycle, the configuration store and the firmware's are as they were, and the device stays in PARK. -/
structure ParkKept (b c : Block) : Prop where
  lc : c.lc = b.lc
  cfg : c.cfg = b.cfg
  fw : c.fw = b.fw
  pwr : c.pwr = b.pwr
  ticks : c.clock.ticks = b.clock.ticks

theorem ParkKept.rfl {b : Block} : ParkKept b b := ⟨Eq.refl _, Eq.refl _, Eq.refl _, Eq.refl _, Eq.refl _⟩

theorem ParkKept.trans {b c d : Block} (h : ParkKept b c) (k : ParkKept c d) : ParkKept b d :=
  ⟨k.lc.trans h.lc, k.cfg.trans h.cfg, k.fw.trans h.fw, k.pwr.trans h.pwr, k.ticks.trans h.ticks⟩

/-- No reaction leads out of PARK. -/
theorem SafeEntered.parked {p p' : Power} (h : SafeEntered p p') (park : p.state = .park) : p' = p := by
  rcases h with same | ⟨served, -, -⟩
  · exact same
  · simp [park] at served

theorem fwStore_no_job {f : FwStore} (h : f.job = none) : { f with job := none } = f := by rw [← h]

section
variable {b : Block}

theorem parkKept_flushFail (img : LedImage) (addr : Nat) (park : b.pwr.state = .park) : ParkKept b (flushFail img addr b) := by
  unfold flushFail
  extract_lets got v c at_ old hist slot jour led d
  have before : ParkKept b (journal 0x0A 0 0 addr (setF F.LED_STATUS_FLUSH_FAIL 1 d)) := ⟨by simp [d, c, got], by simp [d, c, got], by simp [d, c, got], by simp [d, c, got], by simp [d, c, got]⟩
  refine before.trans ⟨by simp, by simp, by simp, (detect_pwr _ _).parked ?_, by simp⟩
  rw [before.pwr]
  exact park

/-- The end of a flush while no commit is captured and no update runs. -/
theorem parkKept_flushEnd (fail : Option Nat) (park : b.pwr.state = .park) (idle : b.cfg.captured = none) (job : b.fw.job = none) :
    ParkKept b (flushEnd fail b) := by
  unfold flushEnd
  split
  · exact .rfl
  · next img flushing =>
    extract_lets fw led c
    have taken : ParkKept b c := ⟨Eq.refl _, Eq.refl _, by simp [c, fw, job, fwStore_no_job], Eq.refl _, Eq.refl _⟩
    cases fail with
    | none =>
      rw [commitTurn_idle (by simp [c, idle])]
      exact taken.trans ⟨by simp, by simp, by simp, by simp, by simp⟩
    | some addr =>
      have failed := taken.trans (parkKept_flushFail img addr (b := c) park)
      rw [commitTurn_idle (by rw [failed.cfg]; exact idle)]
      exact failed

theorem parkKept_parkFlush (fail : Option Nat) (park : b.pwr.state = .park) (idle : b.cfg.captured = none) : ParkKept (fwAbort b) (parkFlush fail b) := by
  unfold parkFlush
  extract_lets given ended led counted
  have ends : ParkKept given ended := by
    unfold ended
    split
    · exact parkKept_flushEnd none park idle rfl
    · exact .rfl
  have flushed : ParkKept ended (flushStart (journalTick (journal 0x02 0 0 (frame counted) counted))) := ⟨by simp [counted], by simp [counted], by simp [counted], by simp [counted], by simp [counted]⟩
  have before := ends.trans flushed
  refine before.trans (parkKept_flushEnd fail ?_ ?_ ?_)
  · rw [before.pwr]
    exact park
  · rw [before.cfg]
    exact idle
  · rw [before.fw]
    rfl

/-- The work of the stop, up to its last act, where no update runs. -/
theorem parkCommands_fw (job : b.fw.job = none) : (parkCommands b).fw = b.fw := by
  have forgot : ∀ c : Block, c.fw.job = none → (forgetRings c).fw = c.fw := fun c h => by simp [forgetRings, h, fwStore_no_job]
  unfold parkCommands
  simp [forgot, job]

theorem hstReset_fw (job : b.fw.job = none) : (hstReset b).fw = b.fw := by simp [hstReset, forgetRings, job, fwStore_no_job]

/-- The device just before its links go down and its clocks stop. -/
def parkLinks (b : Block) : Block :=
  let c := parkCommands (parkStrings (balPark b))
  setF F.CW_RF_STATUS_ACTIVE 0 (when (!bitOf c.pwr.retain 0) hstReset c)

theorem parkDown_eq (b : Block) : parkDown b = parkStop (parkLinks b) := rfl

theorem parkKept_parkLinks (job : b.fw.job = none) : ParkKept b (parkLinks b) := by
  unfold parkLinks
  extract_lets c
  have ended : ParkKept b c := ⟨by simp [c], by simp [c], (parkCommands_fw (by simpa using job)).trans (by simp), by simp [c], by simp [c]⟩
  have reset : (when (!bitOf c.pwr.retain 0) hstReset c).fw = c.fw := when_proj Block.fw _ _ _ (hstReset_fw (by rw [ended.fw]; exact job))
  exact ended.trans ⟨by simp, by simp, by simpa using reset, by simp, by simp⟩

end

theorem parkEntry_waits (fail : Option Nat) (x : WakeInput) {b : Block} (h : b.cfg.requested = true ∨ b.cfg.captured.isSome = true) : parkEntry fail x b = b := by
  unfold parkEntry
  rw [if_pos]
  rcases h with asked | captured
  · simp [asked]
  · simp [captured]

/-- The device as the entry to PARK leaves it, before its links go down: one more frame has run, and the store is as it was but for an update given up. -/
theorem parkEntry_links (fail : Option Nat) {b : Block} (park : b.pwr.state = .park) (idle : b.cfg.captured = none) :
    ∃ c, parkDown (parkFrame (parkFlush fail b)) = parkStop c ∧ c.lc = b.lc ∧ c.cfg = b.cfg ∧ c.fw = { b.fw with job := none } ∧ c.pwr = b.pwr ∧
      c.clock.ticks = b.clock.ticks + 512 := by
  obtain ⟨lc, cfg, fw, pwr, ticks⟩ := parkKept_parkFlush (b := b) fail park idle
  have job : (parkFrame (parkFlush fail b)).fw.job = none := by rw [(parkFrame_store _).2.2, fw]; rfl
  obtain ⟨lc', cfg', fw', pwr', ticks'⟩ := parkKept_parkLinks job
  refine ⟨parkLinks (parkFrame (parkFlush fail b)), parkDown_eq _, ?_, ?_, ?_, ?_, ?_⟩
  · rw [lc', (parkFrame_store _).1, lc]
    rfl
  · rw [cfg', (parkFrame_store _).2.1, cfg]
    rfl
  · rw [fw', (parkFrame_store _).2.2, fw]
    rfl
  · rw [pwr', parkFrame_pwr, pwr]
    rfl
  · rw [ticks', parkFrame_ticks, ticks]
    rfl

/-- PARK with no wake latched. -/
theorem parkEntry_stops (fail : Option Nat) (x : WakeInput) {b : Block} (park : b.pwr.state = .park) (parking : b.pwr.parking = true) (asked : b.cfg.requested = false)
    (idle : b.cfg.captured = none) (wakes : b.pwr.wakes = []) : parkEntry fail x b = parkDown (parkFrame (parkFlush fail b)) := by
  obtain ⟨c, stopped, -, -, -, pwr, -⟩ := parkEntry_links fail park idle
  have latched : (parkStop c).pwr.wakes = [] := (congrArg Power.wakes pwr).trans wakes
  unfold parkEntry
  rw [if_neg (by simp [park, parking, asked, idle]), stopped]
  dsimp only
  rw [latched]

end Sys2Proof.Machine

namespace Sys2Proof
open Machine

theorem exec_parkEntry (fail : Option (BitVec 21)) (w : WakeInput) (b : Block) (q : List Instr) :
    exec (.parkEntry fail w) ⟨b, q⟩ = .next ⟨parkEntry (fail.map (·.toNat)) w b, q⟩ := rfl

/-- Settles O12: the flush, the last frame and the stop leave the store; no wake is latched, so the stopped device is what PARK_ENTRY leaves. -/
theorem parkEntered : Obligations.ParkEntered := by
  unfold Obligations.ParkEntered
  intro fail w b q park parking
  constructor
  · intro asked idle wakes
    obtain ⟨c, stopped, lc, cfg, fw, pwr, ticks⟩ := parkEntry_links (fail.map (·.toNat)) park idle
    refine ⟨parkStop c, ?_, ?_, rfl, rfl, ticks, rfl, rfl, rfl, rfl, rfl, lc, fw, cfg⟩
    · rw [exec_parkEntry, parkEntry_stops _ w park parking asked idle wakes, stopped]
    · exact (congrArg Power.state pwr).trans park
  · intro busy
    rw [exec_parkEntry, parkEntry_waits _ w busy]

end Sys2Proof

namespace Sys2Proof.Machine

/-! RUN or SAFE is reached (R82, R94): the state that a start leads to outlasts the tick of the first measurement frame. -/

section
variable {b : Block}

theorem fwVerify_pwr (j : FwJob) (b : Block) : SafeEntered b.pwr (fwVerify j b).pwr := by
  unfold fwVerify
  extract_lets other x
  split
  · exact .after (fwEnd_pwr _ _ _ _ b) (detect_pwr _ _)
  · split
    · exact .inl (fwEnd_pwr _ _ _ _ b)
    · (repeat' split) <;> exact .inl (by simp [x])

theorem fwTick_pwr (b : Block) : SafeEntered b.pwr (fwTick b).pwr := by
  unfold fwTick
  split
  · exact .inl rfl
  · split
    · exact .inl rfl
    · dsimp only
      split
      · exact .inl rfl
      · rw [commitTurn_pwr]
        exact .after rfl (fwVerify_pwr _ _)

theorem fwTick_cfg (idle : b.cfg.captured = none) : (fwTick b).cfg = b.cfg := by
  unfold fwTick
  split
  · rfl
  · split
    · rfl
    · dsimp only
      split
      · rfl
      · rw [commitTurn_idle (by simpa using idle)]
        simp

theorem cfgCapture_idle (asked : b.cfg.requested = false) : cfgCapture b = b := by simp [cfgCapture, asked]

/-- The host's side of a frame before the firmware's share of it. -/
def hostBefore (b : Block) : Block := pullTick (ptmTick (timeSyncTick (capTicks (each (List.range 4) fifoFlush (fetchTick (ringTick (resendVec0 b)))))))

theorem tickHost_eq (b : Block) : tickHost b = flushPeriodic (cfgCapture (fwTick (hostBefore b))) := rfl

@[simp] theorem hostBefore_keeps (b : Block) : (hostBefore b).pwr = b.pwr ∧ (hostBefore b).cfg = b.cfg := by simp [hostBefore]

theorem tickHost_pwr (b : Block) : SafeEntered b.pwr (tickHost b).pwr := by
  have same : (tickHost b).pwr = (fwTick (hostBefore b)).pwr := by simp [tickHost_eq]
  rw [same]
  exact .after (hostBefore_keeps b).1 (fwTick_pwr _)

theorem tickHost_cfg (asked : b.cfg.requested = false) (idle : b.cfg.captured = none) : (tickHost b).cfg = b.cfg := by
  obtain ⟨-, cfg⟩ := hostBefore_keeps b
  have kept : (fwTick (hostBefore b)).cfg = b.cfg := (fwTick_cfg (by rw [cfg]; exact idle)).trans cfg
  rw [tickHost_eq, cfgCapture_idle (by rw [kept]; exact asked)]
  simpa using kept

/-- The state a start leads to, and what else it leaves. -/
theorem reachWhich_state (b : Block) :
    ((reachWhich b).pwr.state = .run ∨ (reachWhich b).pwr.state = .safe) ∧ (b.pins.safeIn = true → (reachWhich b).pwr.state = .safe) := by
  have safe : ∀ (sub index : Nat) (c : Block), (reachSafe sub index c).pwr.state = .safe := by
    intro sub index c
    have same : (reachSafe sub index c).pwr = (setPower .safe c).pwr := by simp [reachSafe]
    rw [same]
    exact (setPower_state .safe c).1
  unfold reachWhich
  extract_lets nmt
  split
  · exact ⟨.inr (safe _ _ _), fun _ => safe _ _ _⟩
  · next low =>
    split
    · exact ⟨.inr (safe _ _ _), fun _ => safe _ _ _⟩
    · exact ⟨.inl (by rw [reachRun_pwr]; exact (setPower_state .run b).1), fun high => absurd high low⟩

/-- Before the first measurement frame's tick runs: the counters, injections and held conditions have been taken in, and the state is reached. -/
def reachBegun (b : Block) : Block := reachMarks (reachWhich (detectHeld (injTick (tickCounters b))))

theorem reachTick_pwr (b : Block) : SafeEntered b.pwr (reachTick b).pwr := by
  unfold reachTick
  rw [cwTick_pwr]
  exact .after (by simp) (tickHost_pwr _)

theorem reachTick_cfg (asked : b.cfg.requested = false) (idle : b.cfg.captured = none) : (reachTick b).cfg = b.cfg := by
  have before : (balGates (balGovern (balActs (hbtStart (when b.clock.stepOwed stepBoundary b))))).cfg = b.cfg := by simp
  unfold reachTick
  have host := tickHost_cfg (b := balGates (balGovern (balActs (hbtStart (when b.clock.stepOwed stepBoundary b))))) (by rw [before]; exact asked) (by rw [before]; exact idle)
  simpa using host.trans before

/-- The status page's summary is made, which is all that follows the tick (R431). -/
def summaryShown (b : Block) : Block := { b with hst := { b.hst with summary := slSummary b } }

theorem reachState_eq (b : Block) : reachState b = summaryShown (reachTick (reachBegun b)) := by
  unfold reachState summaryShown reachBegun
  with_reducible rfl

theorem summaryShown_keeps (b : Block) : (summaryShown b).pwr = b.pwr ∧ (summaryShown b).cfg = b.cfg := ⟨rfl, rfl⟩

theorem reachBegun_pwr (b : Block) : (reachBegun b).pwr = (reachWhich (detectHeld (injTick (tickCounters b)))).pwr := reachMarks_pwr _

/-- RUN or SAFE is reached, SAFE where SAFE_IN is high. -/
theorem reachState_state (b : Block) :
    ((reachState b).pwr.state = .run ∨ (reachState b).pwr.state = .safe) ∧ (b.pins.safeIn = true → (reachState b).pwr.state = .safe) := by
  have pins : (detectHeld (injTick (tickCounters b))).pins = b.pins := by simp
  obtain ⟨reached, safe⟩ := reachWhich_state (detectHeld (injTick (tickCounters b)))
  rw [reachState_eq, (summaryShown_keeps _).1]
  rw [pins] at safe
  rcases reachTick_pwr (reachBegun b) with kept | ⟨-, entered, -⟩
  · rw [kept, reachBegun_pwr]
    exact ⟨reached, safe⟩
  · exact ⟨.inr entered, fun _ => entered⟩

theorem reachState_cfg (asked : b.cfg.requested = false) (idle : b.cfg.captured = none) : (reachState b).cfg = b.cfg := by
  have begun : (reachBegun b).cfg = b.cfg := by simp [reachBegun]
  rw [reachState_eq, (summaryShown_keeps _).2]
  exact (reachTick_cfg (b := reachBegun b) (by rw [begun]; exact asked) (by rw [begun]; exact idle)).trans begun

end

end Sys2Proof.Machine

namespace Sys2Proof.Machine

/-! A wake (R92 to R95). -/

section
variable {b : Block}

/-- What the wake by `src` hands to the first measurement frame. -/
def wakeReady (src : Nat) (x : WakeInput) (b : Block) : Block :=
  let secs := publishedIn 62 32 ((x.parked : Rat) / 20000)
  let c := wakeState b.pwr.retain secs (wakeCharge (frame b) (x.parked + x.frames) secs (wakeBegin src secs x b))
  let c := each (List.range 16) walkNext (startTiers x.enum x.delays x.cw (repairLoad (takers x.enum) c))
  setlNow 0 193 false (wakeForward { c with clock := { c.clock with periodOwed := false } })

theorem wake_eq (src : Nat) (x : WakeInput) (b : Block) : wake src x b = reachState (wakeReady src x b) := by
  unfold wake wakeReady
  with_reducible rfl

theorem wakeBegin_power (src secs : Nat) (x : WakeInput) (b : Block) : (wakeBegin src secs x b).pwr = { b.pwr with parked := false, wakes := [] } ∧
    (wakeBegin src secs x b).pins = { b.pins with wakeNLow := src != 3 } := by simp [wakeBegin]

theorem wakeReady_keeps (src : Nat) (x : WakeInput) (b : Block) : (wakeReady src x b).pwr.rest = Power.rest { b.pwr with parked := false, wakes := [] } ∧
    (wakeReady src x b).pins = { b.pins with wakeNLow := src != 3 } ∧ (wakeReady src x b).cfg = b.cfg := by
  have begun := fun secs => wakeBegin_power src secs x b
  exact ⟨by simp [wakeReady, begun], by simp [wakeReady, begun], by simp [wakeReady]⟩

theorem wake_pins (src : Nat) (x : WakeInput) (b : Block) : (wake src x b).pins = { b.pins with wakeNLow := src != 3 } := by
  rw [wake_eq, ← (wakeReady_keeps src x b).2.1]
  simp

theorem power_of_rest {p p' : Power} (h : p.rest = p'.rest) : p.parked = p'.parked ∧ p.wakes = p'.wakes := by
  simp only [Power.rest, Prod.mk.injEq] at h
  obtain ⟨-, parked, wakes, -, -, -, -⟩ := h
  exact ⟨parked, wakes⟩

theorem woken_wake (src : Nat) (x : WakeInput) (b : Block) : Woken x b (wake src x b) := by
  obtain ⟨pwr, pins, cfg⟩ := wakeReady_keeps src x b
  obtain ⟨reached, safe⟩ := reachState_state (wakeReady src x b)
  have rest : (wake src x b).pwr.rest = (wakeReady src x b).pwr.rest := by rw [wake_eq]; simp
  obtain ⟨parked, wakes⟩ := power_of_rest (rest.trans pwr)
  rw [pins] at safe
  refine ⟨by rwa [wake_eq], fun high => by rw [wake_eq]; exact safe high, parked, wakes, wake_ticks src x b, by simp, fun asked idle => ?_⟩
  rw [wake_eq, ← cfg]
  exact reachState_cfg (by rw [cfg]; exact asked) (by rw [cfg]; exact idle)

/-- Whether source `src` is enabled and, for the timer, its seconds have passed. -/
def wakeOn (src : Nat) (x : WakeInput) (b : Block) : Bool :=
  bitOf (getR b R.PWR_WAKE_CTL).toNat src && (src != 1 || ((getR b R.PWR_WAKE_TIMER).toNat != 0 && b.pwr.parked && decide ((getR b R.PWR_WAKE_TIMER).toNat * 20000 ≤ x.parked)))

section
variable {src : Nat} {x : WakeInput}

theorem wakeEvent_eq (src : Nat) (x : WakeInput) (b : Block) : wakeEvent src x b = if !wakeOn src x b then b else if b.pwr.parked then wake src x b
    else if b.pwr.parking then { b with pwr := { b.pwr with wakes := addOnce src b.pwr.wakes } } else b := by
  unfold wakeEvent wakeOn
  with_reducible rfl

theorem wakeEvent_off (off : wakeOn src x b = false) : wakeEvent src x b = b := by
  simp only [wakeEvent_eq, off, Bool.not_false, if_true]

theorem wakeEvent_wakes (on : wakeOn src x b = true) (parked : b.pwr.parked = true) : wakeEvent src x b = wake src x b := by
  simp only [wakeEvent_eq, on, parked, Bool.not_true, Bool.false_eq_true, if_false, if_true]

theorem wakeEvent_latches (on : wakeOn src x b = true) (parked : b.pwr.parked = false) (parking : b.pwr.parking = true) :
    wakeEvent src x b = { b with pwr := { b.pwr with wakes := addOnce src b.pwr.wakes } } := by
  rw [wakeEvent_eq, if_neg (by simp [on]), if_neg (by simp [parked]), if_pos parking]

theorem wakeOn_of_bit {f : Fld} (at_ : f = ⟨R.PWR_WAKE_CTL, src, 1⟩) (other : src ≠ 1) : wakeOn src x b = true ↔ getF b f = 1 := by
  subst at_
  have plain : wakeOn src x b = bitOf (getR b R.PWR_WAKE_CTL).toNat src := by simp [wakeOn, other]
  rw [plain]
  exact beq_iff_eq

theorem wakeOn_eq_false {f : Fld} (at_ : f = ⟨R.PWR_WAKE_CTL, src, 1⟩) (off : getF b f = 0) : wakeOn src x b = false := by
  subst at_
  have bit : bitOf (getR b R.PWR_WAKE_CTL).toNat src = false := by
    refine beq_eq_false_iff_ne.mpr fun one => ?_
    exact absurd (off.symm.trans one) (by decide)
  rw [wakeOn, bit, Bool.false_and]

theorem wakeOn_timer (x : WakeInput) (b : Block) : wakeOn 1 x b = true ↔
    getF b F.PWR_WAKE_CTL_EN_TIMER = 1 ∧ getR b R.PWR_WAKE_TIMER ≠ 0 ∧ b.pwr.parked = true ∧ (getR b R.PWR_WAKE_TIMER).toNat * 20000 ≤ x.parked := by
  have bit : bitOf (getR b R.PWR_WAKE_CTL).toNat 1 = true ↔ getF b F.PWR_WAKE_CTL_EN_TIMER = 1 := beq_iff_eq
  have zero : (getR b R.PWR_WAKE_TIMER).toNat ≠ 0 ↔ getR b R.PWR_WAKE_TIMER ≠ 0 := not_congr (BitVec.toNat_eq (y := 0)).symm
  simp only [wakeOn, Bool.and_eq_true, bit, bne_self_eq_false, Bool.false_or, bne_iff_ne, zero, decide_eq_true_eq, and_assoc]

end

/-- The edge of a host's wake: of PERST_N, which also releases the endpoint, or SPI's selection. -/
def hostEdge (perst : Bool) (b : Block) : Block :=
  when perst (fun b => { b with pins := { b.pins with perstN := true }, hst := { b.hst with inReset := !pcieActive b, perstAt := devF b } }) b

/-- The time since the edge of PERST_N counts on from the wake. -/
def edgeTimed (w : WakeInput) (b : Block) : Block := { b with hst := { b.hst with perstAt := devF b - w.frames } }

/-- What `Woken` says of the two blocks it compares. -/
def wokenPart (b : Block) : Power × Clock × LifeCycle × CfgStore := (b.pwr, b.clock, b.lc, b.cfg)

theorem hostEdge_keeps (perst : Bool) (b : Block) : wokenPart (hostEdge perst b) = wokenPart b ∧ (hostEdge perst b).pins.safeIn = b.pins.safeIn :=
  ⟨when_proj wokenPart _ _ _ rfl, when_proj (fun c : Block => c.pins.safeIn) _ _ _ rfl⟩

theorem when_edgeTimed_keeps (w : WakeInput) (p : Bool) (b : Block) : wokenPart (when p (edgeTimed w) b) = wokenPart b ∧ (when p (edgeTimed w) b).pins = b.pins :=
  ⟨when_proj wokenPart _ _ _ rfl, when_proj Block.pins _ _ _ rfl⟩

theorem Woken.congr {w : WakeInput} {b b' c c' : Block} (h : Woken w b c) (same : wokenPart b = wokenPart b') (safe : b.pins.safeIn = b'.pins.safeIn)
    (same' : wokenPart c' = wokenPart c) : Woken w b' c' := by
  simp only [wokenPart, Prod.mk.injEq] at same same'
  obtain ⟨-, clock, lc, cfg⟩ := same
  obtain ⟨pwr', clock', lc', cfg'⟩ := same'
  rw [Woken, safe, clock, lc, cfg] at h
  rwa [Woken, pwr', clock', lc', cfg']

end

end Sys2Proof.Machine

namespace Sys2Proof
open Machine

section
variable (w : WakeInput) (b : Block) (q : List Instr)

theorem exec_wakeInWake : exec (.wakeInWake w) ⟨b, q⟩ = .next ⟨wakeEvent 0 w b, q⟩ := rfl
theorem exec_wakeTimerExpiry : exec (.wakeTimerExpiry w) ⟨b, q⟩ = .next ⟨wakeEvent 1 w b, q⟩ := rfl
theorem exec_causewayWakeTone : exec (.causewayWakeTone w) ⟨b, q⟩ = .next ⟨wakeEvent 2 w b, q⟩ := rfl

theorem exec_hostWake (perst : Bool) : exec (.hostWake perst w) ⟨b, q⟩ = .next ⟨
    if !(if perst then !b.pins.perstN else spiActive b) || b.pwr.state != .park then b
    else when (perst && (hostEdge perst b).pwr.parked && !(wakeEvent 3 w (hostEdge perst b)).pwr.parked) (edgeTimed w) (wakeEvent 3 w (hostEdge perst b)), q⟩ := rfl

end

/-- The host's wake from a complete PARK. -/
theorem hostWake_wakes {perst : Bool} (w : WakeInput) {b : Block} (q : List Instr) (on : getF b F.PWR_WAKE_CTL_EN_HOST = 1) (park : b.pwr.state = .park)
    (parked : b.pwr.parked = true) (edge : if perst then b.pins.perstN = false else spiActive b = true) :
    exec (.hostWake perst w) ⟨b, q⟩ = .next ⟨when perst (edgeTimed w) (wake 3 w (hostEdge perst b)), q⟩ := by
  have found : (if perst then !b.pins.perstN else spiActive b) = true := by
    cases perst <;> simpa using edge
  have regs : (hostEdge perst b).regs = b.regs := when_proj Block.regs _ _ _ rfl
  have pwr : (hostEdge perst b).pwr = b.pwr := when_proj Block.pwr _ _ _ rfl
  have wakes : wakeEvent 3 w (hostEdge perst b) = wake 3 w (hostEdge perst b) :=
    wakeEvent_wakes ((wakeOn_of_bit (f := F.PWR_WAKE_CTL_EN_HOST) rfl (by decide)).mpr ((getF_congr regs _).trans on)) (by rw [pwr]; exact parked)
  have awake : (wake 3 w (hostEdge perst b)).pwr.parked = false := (woken_wake 3 w (hostEdge perst b)).2.2.1
  rw [exec_hostWake, if_neg (by simp [found, park]), wakes, pwr, parked, awake]
  simp

/-- Settles O13: an enabled source wakes a parked device, or is latched in the entry to PARK; one that is not enabled does nothing. -/
theorem wakesReachRun : Obligations.WakesReachRun := by
  unfold Obligations.WakesReachRun
  intro w b q
  refine ⟨fun on parked => ?_, fun on parked set passed => ?_, fun on parked => ?_, fun perst on park parked edge => ?_, fun parked parking => ⟨fun on => ?_, fun on => ?_⟩,
    fun off => ?_, fun off => ?_, fun off => ?_, fun off => ?_⟩
  · rw [exec_wakeInWake, wakeEvent_wakes ((wakeOn_of_bit (f := F.PWR_WAKE_CTL_EN_WAKE_IN) rfl (by decide)).mpr on) parked]
    exact ⟨_, rfl, woken_wake 0 w b, by rw [wake_pins]; rfl⟩
  · rw [exec_wakeTimerExpiry, wakeEvent_wakes ((wakeOn_timer w b).mpr ⟨on, set, parked, passed⟩) parked]
    exact ⟨_, rfl, woken_wake 1 w b, by rw [wake_pins]; rfl⟩
  · rw [exec_causewayWakeTone, wakeEvent_wakes ((wakeOn_of_bit (f := F.PWR_WAKE_CTL_EN_CW) rfl (by decide)).mpr on) parked]
    exact ⟨_, rfl, woken_wake 2 w b, by rw [wake_pins]; rfl⟩
  · rw [hostWake_wakes w q on park parked edge]
    have edged := hostEdge_keeps perst b
    have timed := when_edgeTimed_keeps w perst (wake 3 w (hostEdge perst b))
    refine ⟨_, rfl, (woken_wake 3 w (hostEdge perst b)).congr edged.1 edged.2 timed.1, ?_, fun rises => ?_⟩
    · rw [timed.2, wake_pins]
      rfl
    · rw [timed.2, wake_pins, rises]
      rfl
  · rw [exec_wakeInWake, wakeEvent_latches ((wakeOn_of_bit (f := F.PWR_WAKE_CTL_EN_WAKE_IN) rfl (by decide)).mpr on) parked parking]
  · rw [exec_causewayWakeTone, wakeEvent_latches ((wakeOn_of_bit (f := F.PWR_WAKE_CTL_EN_CW) rfl (by decide)).mpr on) parked parking]
  · rw [exec_wakeInWake, wakeEvent_off (wakeOn_eq_false (f := F.PWR_WAKE_CTL_EN_WAKE_IN) rfl off)]
  · have still : wakeOn 1 w b = false := by
      refine Bool.eq_false_iff.mpr fun on => ?_
      obtain ⟨enabled, set, -, passed⟩ := (wakeOn_timer w b).mp on
      rcases off with disabled | zero | early
      · omega
      · exact set zero
      · omega
    rw [exec_wakeTimerExpiry, wakeEvent_off still]
  · rw [exec_causewayWakeTone, wakeEvent_off (wakeOn_eq_false (f := F.PWR_WAKE_CTL_EN_CW) rfl off)]
  · have same : hostEdge false b = b := rfl
    have still : wakeEvent 3 w b = b := wakeEvent_off (wakeOn_eq_false (f := F.PWR_WAKE_CTL_EN_HOST) rfl off)
    rw [exec_hostWake, same, still, Bool.false_and, Bool.false_and]
    simp [when]

end Sys2Proof

namespace Sys2Proof.Machine

/-- A boot to the first measurement frame, of firmware alone. -/
def plainBoot : BootInput :=
  { frames := 4000, rom := false, tests := [], enum := ⟨16, 0, (List.range 16).map w32⟩, delays := [], cw := { north := 0, whole := true, unas := 0, south := 0, ids := [] }, safeIn := false, bootsel := 2 }

/-- An estimator image with one policy default (R250): READY's bit, written to SPI_INT_STATUS. -/
def readyImage : List (Nat × Word) := [(0, 1), (2, 0x3008), (3, 0x80)]

/-- The end of a reset with that image staged, its swap pending and its defaults to be applied, and no cell in the set in force. -/
def readySwap : Block :=
  setF F.FEN_STATUS_SWAP_PEND 1 (setF F.FEN_STATUS_SWAP_SRC 1 (setF F.FEN_IMG_CTL_POL_APPLY 1
    { State.reset.block with
      act := (List.range 16).map fun t => (R.FE_TIER_CTL t, 0)
      fen := { State.reset.block.fen with staged := readyImage } }))

/-- The model-step boundary of the first measurement frame takes the image up, after READY was set: the write of its default clears READY, which is W1C. -/
theorem readySwap_boots : getF (boot plainBoot readySwap) F.SPI_INT_STATUS_READY = 0 := by decide +kernel

end Sys2Proof.Machine

namespace Sys2Proof
open Machine

theorem exec_boot (x : BootInput) (b : Block) (q : List Instr) : exec (.boot x) ⟨b, q⟩ = .next ⟨boot x b, q⟩ := rfl

theorem boot_of_exec {x : BootInput} {b c : Block} {q : List Instr} (h : exec (.boot x) ⟨b, q⟩ = .next ⟨c, q⟩) : boot x b = c := by
  rw [exec_boot] at h
  injection h with same
  injection same

/-- Refutes O11: from a block in BOOT, at the end of its reset, that has the swap of an image pending whose policy default names SPI_INT_STATUS, the boot starts firmware
copy 0 and reaches RUN, but READY is 0 after the tick of the first measurement frame. -/
theorem not_bootOutcome : ¬ Obligations.BootOutcome := by
  unfold Obligations.BootOutcome
  intro h
  obtain ⟨-, boots⟩ := h
  obtain ⟨runs, -⟩ := boots plainBoot readySwap [] (.inl (by decide)) (by decide) (by decide) (by decide) rfl
  obtain ⟨c, next, -, -, -, -, -, -, ready, -, -⟩ := runs 0 rfl (by decide +kernel) (by decide +kernel)
  rw [← boot_of_exec next, readySwap_boots] at ready
  exact absurd ready (by decide)

end Sys2Proof

namespace Sys2Proof.Machine

/-! Folds: a fact that every turn keeps, and what one element's turn leaves where the elements differ. -/

section
variable {α : Type} {l : List α} {f : α → Block → Block} {b : Block}

/-- What holds before a fold and is kept by the turn of each element holds after it. -/
theorem each_keeps {P : Block → Prop} (start : P b) (turn : ∀ x ∈ l, ∀ c, P c → P (f x c)) : P (each l f b) := by
  unfold each
  induction l generalizing b with
  | nil => exact start
  | cons x l ih => exact ih (turn x List.mem_cons_self b start) fun y my => turn y (List.mem_cons_of_mem x my)

/-- What the turn of `x` makes of a fact that the turns before it keep, and the turns after it keep in their turn, holds after the fold. -/
theorem each_turn {R : α → α → Prop} {P Q : Block → Prop} {x : α} (mem : x ∈ l) (apart : l.Pairwise R) (start : P b)
    (before : ∀ y ∈ l, R y x → ∀ c, P c → P (f y c)) (own : ∀ c, P c → Q (f x c)) (after : ∀ y ∈ l, R x y → ∀ c, Q c → Q (f y c)) : Q (each l f b) := by
  induction l generalizing b with
  | nil => cases mem
  | cons y l ih =>
    obtain ⟨first, rest⟩ := List.pairwise_cons.mp apart
    rcases List.mem_cons.mp mem with rfl | later
    · exact each_keeps (l := l) (own b start) fun z mz => after z (List.mem_cons_of_mem x mz) (first z mz)
    · exact ih later rest (before y List.mem_cons_self (first x later) b start) (fun z mz => before z (List.mem_cons_of_mem y mz))
        fun z mz => after z (List.mem_cons_of_mem y mz)

end

section
variable {b c d : Block}

/-! The front end alone: registers, conditions of the Sluice and `fe` may change. -/

/-- From `b` to `c` nothing but registers, conditions of the Sluice and the front end changes. -/
def FrontOnly (b c : Block) : Prop := c = { b with regs := c.regs, fe := c.fe, sl := { b.sl with cond := c.sl.cond } }

theorem FrontOnly.rfl : FrontOnly b b := Eq.refl b
theorem FrontOnly.trans (h : FrontOnly b c) (k : FrontOnly c d) : FrontOnly b d := Eq.trans k (by rw [show c = _ from h])
theorem FrontOnly.setF {f : Fld} {v : Nat} (h : FrontOnly b c) : FrontOnly b (setF f v c) := h.trans (Eq.refl _)
theorem FrontOnly.fe {x : FrontEnd} (h : FrontOnly b c) : FrontOnly b { c with fe := x } := h.trans (Eq.refl _)
theorem FrontOnly.setLevel {i det : Nat} {on : Bool} (h : FrontOnly b c) : FrontOnly b (setLevel i on det c) := h.trans (Eq.refl _)
theorem FrontOnly.ite {p : Prop} [Decidable p] {x y : Block} (hx : FrontOnly b x) (hy : FrontOnly b y) : FrontOnly b (if p then x else y) := by
  split
  exacts [hx, hy]
theorem FrontOnly.when {p : Bool} {f : Block → Block} (h : FrontOnly b c) (hf : ∀ c, FrontOnly b c → FrontOnly b (f c)) : FrontOnly b (when p f c) := .ite (hf _ h) h
theorem FrontOnly.addSetl {x : Setl} (h : FrontOnly b c) : FrontOnly b (addSetl x c) := h.fe
theorem FrontOnly.setlNow {lo hi : Nat} {filter : Bool} (h : FrontOnly b c) : FrontOnly b (setlNow lo hi filter c) := .addSetl (.when h fun _ h => h.fe)
theorem FrontOnly.tierReturn {t : Nat} (h : FrontOnly b c) : FrontOnly b (tierReturn t c) := .ite h.setlNow.setlNow h.setlNow
theorem FrontOnly.fineDone (h : FrontOnly b c) : FrontOnly b (fineDone c) := .setLevel (.setF h.fe)
theorem FrontOnly.putDelays {ds : List PathDelay} (h : FrontOnly b c) : FrontOnly b (putDelays ds c) := each_keeps h fun _ _ _ h => .fe (.setF (.setF h))

theorem FrontOnly.clock (h : FrontOnly b c) : c.clock = b.clock := by rw [show c = _ from h]
theorem FrontOnly.act (h : FrontOnly b c) : c.act = b.act := by rw [show c = _ from h]

end

/-! SETL intervals (R161). -/

/-- A SETL interval of channels `lo` to `hi` holds from `from_` ns on, up to `upto` ns at least. -/
def Settles (lo hi : Nat) (filter : Bool) (from_ upto : Nat) (b : Block) : Prop :=
  ∃ s ∈ b.fe.setl, s.lo = lo ∧ s.hi = hi ∧ s.filter = filter ∧ s.after ≤ from_ ∧ upto ≤ s.until_

/-- The interval `s` is one that `x` joins. -/
def setlJoins (x s : Setl) : Bool := s.lo == x.lo && s.hi == x.hi && s.filter == x.filter && decide (s.after ≤ x.after ∧ x.after < s.until_)

theorem addSetl_setl (x : Setl) (b : Block) : (addSetl x b).fe.setl = if b.fe.setl.any (setlJoins x)
    then b.fe.setl.map fun s => if setlJoins x s then { s with until_ := max s.until_ x.until_ } else s else b.fe.setl ++ [x] := rfl

/-- An interval asked for is there, by itself or joined to another. -/
theorem settles_addSetl (x : Setl) (b : Block) : Settles x.lo x.hi x.filter x.after x.until_ (addSetl x b) := by
  unfold Settles
  rw [addSetl_setl]
  split
  next joined =>
    obtain ⟨s, mem, same⟩ := List.any_eq_true.mp joined
    refine ⟨{ s with until_ := max s.until_ x.until_ }, List.mem_map.mpr ⟨s, mem, if_pos same⟩, ?_⟩
    simp only [setlJoins, Bool.and_eq_true, beq_iff_eq, decide_eq_true_eq] at same
    obtain ⟨⟨⟨lo, hi⟩, filter⟩, after, -⟩ := same
    exact ⟨lo, hi, filter, after, le_max_right _ _⟩
  next => exact ⟨x, List.mem_append_right _ List.mem_cons_self, rfl, rfl, rfl, le_rfl, le_rfl⟩

section
variable {b : Block} {lo hi from_ upto : Nat} {filter : Bool}

/-- A further interval takes none away. -/
theorem Settles.addSetl (h : Settles lo hi filter from_ upto b) (x : Setl) : Settles lo hi filter from_ upto (addSetl x b) := by
  obtain ⟨s, mem, atLo, atHi, path, after, until_⟩ := h
  unfold Settles
  rw [addSetl_setl]
  split
  next =>
    refine ⟨_, List.mem_map.mpr ⟨s, mem, rfl⟩, ?_⟩
    split
    exacts [⟨atLo, atHi, path, after, until_.trans (le_max_left _ _)⟩, ⟨atLo, atHi, path, after, until_⟩]
  next => exact ⟨s, List.mem_append_left _ mem, atLo, atHi, path, after, until_⟩

/-- The return of a tier, which leaves the samples' path. -/
theorem Settles.tierReturn (h : Settles lo hi filter from_ upto b) (t : Nat) : Settles lo hi filter from_ upto (tierReturn t b) := by
  have first := h.addSetl ⟨12 * t, 12 * t + 11, nowNs b, nowNs b + settleUp b b.act, false⟩
  unfold Machine.tierReturn
  split
  exacts [first.addSetl _, first]

end

theorem settles_tierReturn (t : Nat) (b : Block) : Settles (12 * t) (12 * t + 11) false (nowNs b) (nowNs b + settleUp b b.act) (tierReturn t b) := by
  have first := settles_addSetl ⟨12 * t, 12 * t + 11, nowNs b, nowNs b + settleUp b b.act, false⟩ b
  unfold tierReturn
  split
  exacts [first.addSetl _, first]

@[simp] theorem tierReturn_regs (t : Nat) (b : Block) : (tierReturn t b).regs = b.regs := by
  unfold tierReturn; split <;> rfl
@[simp] theorem tierReturn_align (t : Nat) (b : Block) : (tierReturn t b).fe.align = b.fe.align := by
  unfold tierReturn; split <;> rfl

theorem nowNs_congr {b c : Block} (h : c.clock = b.clock) : nowNs c = nowNs b := by unfold nowNs devF; rw [h]

/-- The settling time of a set depends on the block by the policy's notches alone. -/
theorem settleUp_congr {b c : Block} (set : List (Nat × Word)) (h : ∀ k, getR c (R.FLT_NOTCH_POL k) = getR b (R.FLT_NOTCH_POL k)) :
    settleUp c set = settleUp b set := by
  have same : ∀ k, notchOf c set k = notchOf b set k := fun k => by
    have active : getF c (F.FLT_NOTCH_POL_ACTIVE k) = getF b (F.FLT_NOTCH_POL_ACTIVE k) := getF_of_getR (h k)
    have f0 : getF c (F.FLT_NOTCH_POL_F0 k) = getF b (F.FLT_NOTCH_POL_F0 k) := getF_of_getR (h k)
    have q : getF c (F.FLT_NOTCH_POL_Q k) = getF b (F.FLT_NOTCH_POL_Q k) := getF_of_getR (h k)
    unfold notchOf isF
    rw [active, f0, q]
  unfold settleUp settleNs
  rw [same, same]

/-! Path delays (R114, R117). -/

/-- What one tier's delays change. -/
def putDelay (d : PathDelay) (b : Block) : Block :=
  let c := setF (F.FE_TIER_DLY_FOOT d.tier.val) d.foot.toNat (setF (F.FE_TIER_DLY_HEAD d.tier.val) d.head.toNat b)
  { c with fe := { c.fe with refTemp := (c.fe.refTemp.filter (·.1 != d.tier.val)) ++ [(d.tier.val, d.die)] } }

theorem putDelays_eq (ds : List PathDelay) (b : Block) : putDelays ds b = each ds putDelay b := rfl

theorem putDelay_regs (d : PathDelay) (b : Block) :
    (putDelay d b).regs = (setF (F.FE_TIER_DLY_FOOT d.tier.val) d.foot.toNat (setF (F.FE_TIER_DLY_HEAD d.tier.val) d.head.toNat b)).regs := rfl

theorem getR_putDelay_ne {a : Nat} (d : PathDelay) (b : Block) (h : a ≠ R.FE_TIER_DLY d.tier.val) : getR (putDelay d b) a = getR b a := by
  rw [getR_congr (putDelay_regs d b), getR_setF_ne _ _ _ h, getR_setF_ne _ _ _ h]

/-- The delays of tier `d.tier` are those of `d`. -/
def Delayed (d : PathDelay) (b : Block) : Prop :=
  getF b (F.FE_TIER_DLY_HEAD d.tier.val) = d.head.toNat ∧ getF b (F.FE_TIER_DLY_FOOT d.tier.val) = d.foot.toNat

theorem Delayed.congr {d : PathDelay} {b c : Block} (h : Delayed d b) (same : getR c (R.FE_TIER_DLY d.tier.val) = getR b (R.FE_TIER_DLY d.tier.val)) : Delayed d c := by
  obtain ⟨head, foot⟩ := h
  exact ⟨(getF_of_getR same).trans head, (getF_of_getR same).trans foot⟩

theorem delayed_putDelay (d : PathDelay) (b : Block) : Delayed d (putDelay d b) := by
  unfold Delayed
  rw [getF_congr (putDelay_regs d b), getF_congr (putDelay_regs d b)]
  constructor
  · rw [getF_setF_beside (F.FE_TIER_DLY_FOOT d.tier.val) (F.FE_TIER_DLY_HEAD d.tier.val) _ _ (Nat.le_of_ble_eq_true rfl) rfl (.inr le_rfl), getF_setF _ _ _ le_rfl]
    exact Nat.mod_eq_of_lt d.head.isLt
  · rw [getF_setF _ _ _ (Nat.le_of_ble_eq_true rfl)]
    exact Nat.mod_eq_of_lt d.foot.isLt

theorem getR_putDelays_ne {a : Nat} {ds : List PathDelay} (b : Block) (h : ∀ d ∈ ds, a ≠ R.FE_TIER_DLY d.tier.val) : getR (putDelays ds b) a = getR b a := by
  rw [putDelays_eq]
  exact each_keeps (P := fun c => getR c a = getR b a) rfl fun d mem c same => (getR_putDelay_ne d c (h d mem)).trans same

/-- A register beside the delays of the sixteen tiers. -/
theorem getR_putDelays_beside {a : Nat} (ds : List PathDelay) (b : Block) (h : a < 0x8110 ∨ 0x9100 ≤ a) : getR (putDelays ds b) a = getR b a :=
  getR_putDelays_ne b fun d _ => by
    have := d.tier.isLt
    unfold R.FE_TIER_DLY
    omega

theorem delayed_putDelays {ds : List PathDelay} (apart : ds.Pairwise fun x y => x.tier ≠ y.tier) {d : PathDelay} (mem : d ∈ ds) (b : Block) : Delayed d (putDelays ds b) :=
  each_turn (P := fun _ => True) mem apart trivial (fun _ _ _ _ _ => trivial) (fun c _ => delayed_putDelay d c) fun e _ other c shown =>
    shown.congr (getR_putDelay_ne e c (by
      have : d.tier.val ≠ e.tier.val := fun same => other (Fin.ext same)
      unfold R.FE_TIER_DLY
      omega))

@[simp] theorem putDelays_align (ds : List PathDelay) (b : Block) : (putDelays ds b).fe.align = b.fe.align := each_proj (·.fe.align) ds putDelay b fun _ _ => rfl
@[simp] theorem putDelays_fineFrom (ds : List PathDelay) (b : Block) : (putDelays ds b).fe.fineFrom = b.fe.fineFrom := each_proj (·.fe.fineFrom) ds putDelay b fun _ _ => rfl

/-! The end of a fine alignment (R117, R120, R523). -/

theorem getR_fineDone_ne {a : Nat} (b : Block) (h : a ≠ R.FE_STATUS) : getR (fineDone b) a = getR b a := getR_setF_ne F.FE_STATUS_DRIFT 0 _ h

/-- A block of which a fine alignment has ended: delays valid, no drift, no skew. -/
def Aligned (b : Block) : Prop := getF b F.FE_STATUS_ALIGN_VALID = 1 ∧ getF b F.FE_STATUS_DRIFT = 0 ∧ (condOf b Slot.feSkew).level = false

theorem aligned_fineDone (b : Block) : Aligned (setF F.FE_STATUS_ALIGN_VALID 1 (fineDone b)) := by
  refine ⟨getF_setF _ _ _ (by decide), ?_, level_setLevel Slot.feSkew 0 false _⟩
  calc getF (setF F.FE_STATUS_ALIGN_VALID 1 (fineDone b)) F.FE_STATUS_DRIFT = getF (fineDone b) F.FE_STATUS_DRIFT := getF_setF_at _ _ _ _
    _ = 0 := getF_setF F.FE_STATUS_DRIFT 0 _ (by decide)

theorem getR_fineDone_valid {a : Nat} (b : Block) (h : a ≠ R.FE_STATUS) : getR (setF F.FE_STATUS_ALIGN_VALID 1 (fineDone b)) a = getR b a :=
  (getR_setF_ne F.FE_STATUS_ALIGN_VALID 1 _ h).trans (getR_fineDone_ne b h)

theorem dly_ne_status (t : Nat) : R.FE_TIER_DLY t ≠ R.FE_STATUS := by unfold R.FE_TIER_DLY R.FE_STATUS; omega

/-! Fine alignment (R120). -/

section
variable {b : Block}

/-- The delays of a fine alignment in force, and its end. -/
def fineEnded (ds : List PathDelay) (b : Block) : Block :=
  setF F.FE_STATUS_ALIGN_VALID 1 (fineDone (putDelays ds { b with fe := { b.fe with fineFrom := none, settingAt := some (devF b) } }))

theorem fineEnded_frontOnly (ds : List PathDelay) (b : Block) : FrontOnly b (fineEnded ds b) := .setF (.fineDone (.putDelays (.fe .rfl)))

theorem fineApply_eq {ds : List PathDelay} {d0 : Nat} (running : b.fe.fineFrom = some d0) (due : d0 + 20 ≤ devF b) :
    fineApply ds b = addSetl ⟨0, 193, nowNs b, nowNs b + settleUp b b.act, true⟩ (fineEnded ds b) := by
  unfold fineApply
  rw [running]
  exact if_neg (by omega)

theorem fineApply_early {ds : List PathDelay} (early : ∀ d0, b.fe.fineFrom = some d0 → devF b < d0 + 20) : fineApply ds b = b := by
  unfold fineApply
  split
  next d0 running => exact if_pos (early d0 running)
  next => rfl

theorem fineStart_takes (tick : frame b % 20 = 0) (runs : framesRun b = true) (idle : alignBusy b = false) (asked : b.fe.fineReq = true) :
    fineStart b = { b with fe := { b.fe with fineReq := false, fineAgain := false, fineFrom := some (devF b) } } := by
  simp [fineStart, tick, runs, idle, asked]

theorem fineStart_idle (h : frame b % 20 ≠ 0 ∨ alignBusy b = true ∨ (b.fe.fineReq = false ∧ b.fe.fineAgain = false)) : fineStart b = b := by
  unfold fineStart
  split
  · rfl
  next guard =>
    rcases h with tick | busy | ⟨asked, again⟩
    · simp [tick] at guard
    · simp [busy] at guard
    · simp [asked, again]

/-! Tier alignment (R523). -/

/-- The delays of the tiers `ts` in force and their tiers returned, with no sequence left. -/
def tiersAligned (ts : List Nat) (ds : List PathDelay) (b : Block) : Block :=
  each ts tierReturn (putDelays (ds.filter fun d => ts.contains d.tier.val) { b with fe := { b.fe with align := [], settingAt := some (devF b) } })

/-- Forty frames have passed since a sequence's chain tick. -/
def seqOver (b : Block) (a : AlignSeq) : Bool :=
  match a.start with
  | some c => decide (c + 40 ≤ devF b)
  | none => false

/-- The sequences `now` end, those of `later` go on. -/
def seqsEnd (ds : List PathDelay) (now later : List AlignSeq) (b : Block) : Block :=
  let ts := now.flatMap (·.tiers)
  if ts.isEmpty then b else
  let b := putDelays (ds.filter fun d => ts.contains d.tier.val) { b with fe := { b.fe with align := later, settingAt := some (devF b) } }
  when later.isEmpty (setF F.FE_STATUS_ALIGN_VALID 1) (fineDone (each ts tierReturn b))

theorem alignDone_partition (ds : List PathDelay) (b : Block) :
    alignDone ds b = seqsEnd ds (b.fe.align.partition (seqOver b)).1 (b.fe.align.partition (seqOver b)).2 b := rfl

theorem alignDone_seqs (ds : List PathDelay) (b : Block) :
    alignDone ds b = seqsEnd ds (b.fe.align.filter (seqOver b)) (b.fe.align.filter (not ∘ seqOver b)) b := by
  rw [alignDone_partition, List.partition_eq_filter_filter]

theorem alignDone_eq {ts : List Nat} {d0 : Nat} {br : Bool} (ds : List PathDelay) (one : b.fe.align = [⟨ts, some d0, br⟩]) (nonempty : ts ≠ []) (due : d0 + 40 ≤ devF b) :
    alignDone ds b = setF F.FE_STATUS_ALIGN_VALID 1 (fineDone (tiersAligned ts ds b)) := by
  have ended : seqOver b ⟨ts, some d0, br⟩ = true := decide_eq_true due
  simp [alignDone_seqs, one, ended, seqsEnd, nonempty, tiersAligned, when]

theorem alignDone_early {ds : List PathDelay} (early : ∀ a ∈ b.fe.align, ∀ d0, a.start = some d0 → devF b < d0 + 40) : alignDone ds b = b := by
  have noneOver : b.fe.align.filter (seqOver b) = [] := List.filter_eq_nil_iff.mpr fun a mem => by
    unfold seqOver
    split
    next d0 started => simpa using early a mem d0 started
    next => simp
  rw [alignDone_seqs, noneOver]
  rfl

theorem tiersAligned_frontOnly (ts : List Nat) (ds : List PathDelay) (b : Block) : FrontOnly b (tiersAligned ts ds b) :=
  each_keeps (FrontOnly.putDelays (.fe .rfl)) fun _ _ _ h => h.tierReturn

theorem getR_tiersAligned (a : Nat) (ts : List Nat) (ds : List PathDelay) (b : Block) :
    getR (tiersAligned ts ds b) a = getR (putDelays (ds.filter fun d => ts.contains d.tier.val) { b with fe := { b.fe with align := [], settingAt := some (devF b) } }) a :=
  getR_congr (each_regs _ _ _ tierReturn_regs) a

theorem tiersAligned_align (ts : List Nat) (ds : List PathDelay) (b : Block) : (tiersAligned ts ds b).fe.align = [] :=
  (each_proj (·.fe.align) ts tierReturn _ tierReturn_align).trans (putDelays_align _ _)

/-- Each tier settles from the tick of its return. -/
theorem settles_tiersAligned {ts : List Nat} {t : Nat} (mem : t ∈ ts) (ds : List PathDelay) (b : Block) :
    Settles (12 * t) (12 * t + 11) false (nowNs b) (nowNs b + settleUp b b.act) (tiersAligned ts ds b) := by
  let P := fun c => FrontOnly b c ∧ ∀ k, getR c (R.FLT_NOTCH_POL k) = getR b (R.FLT_NOTCH_POL k)
  refine each_turn (R := fun _ _ => True) (P := P) mem (List.pairwise_of_forall fun _ _ => trivial) ⟨.putDelays (.fe .rfl), fun k => ?_⟩
    (fun u _ _ c ⟨front, notches⟩ => ⟨front.tierReturn, fun k => (getR_congr (tierReturn_regs u c) _).trans (notches k)⟩)
    (fun c ⟨front, notches⟩ => ?_) fun u _ _ c shown => shown.tierReturn u
  · exact getR_putDelays_beside _ _ (.inr (by unfold R.FLT_NOTCH_POL; omega))
  · have shown := settles_tierReturn t c
    rwa [nowNs_congr front.clock, settleUp_congr c.act notches, front.act] at shown

theorem exec_feAlignRun (q : List Instr) (on : ready b = true) : exec .feAlignRun ⟨b, q⟩ = .next ⟨alignRun b, q⟩ := by
  simp only [exec, execFeAlignRun, run_eq, on, if_true]
theorem exec_fineAlignmentStart (b : Block) (q : List Instr) : exec .fineAlignmentStart ⟨b, q⟩ = .next ⟨fineStart b, q⟩ := rfl
theorem exec_fineAlignmentApply (ds : List PathDelay) (q : List Instr) (runs : framesRun b = true) :
    exec (.fineAlignmentApply ds) ⟨b, q⟩ = .next ⟨fineApply ds b, q⟩ := by
  simp only [exec, execFineAlignmentApply, run_eq, inFrame_of_framesRun runs]
theorem exec_tierAlignment (ds : List PathDelay) (q : List Instr) (runs : framesRun b = true) :
    exec (.tierAlignment ds) ⟨b, q⟩ = .next ⟨alignDone ds b, q⟩ := by
  simp only [exec, execTierAlignment, run_eq, inFrame_of_framesRun runs]

end
end Sys2Proof.Machine

namespace Sys2Proof
open Machine

/-- Settles O51: a fine alignment from its request to its end, and the one sequence of a tier alignment, which ends as a fine alignment does. -/
theorem alignment : Obligations.Alignment := by
  refine fun b q => ⟨exec_feAlignRun q, fun runs => ⟨fun tick idle asked => ?_, fun idle => ?_, fun ds d0 running due apart => ?_, fun ds early => ?_,
    fun ds ts d0 br one nonempty due apart => ?_, fun ds early => ?_⟩⟩
  · rw [exec_fineAlignmentStart, fineStart_takes tick runs idle asked]
  · rw [exec_fineAlignmentStart, fineStart_idle idle]
  · obtain ⟨valid, drift, skew⟩ := aligned_fineDone (putDelays ds { b with fe := { b.fe with fineFrom := none, settingAt := some (devF b) } })
    refine ⟨_, exec_fineAlignmentApply ds q runs, ?_⟩
    rw [fineApply_eq running due]
    refine ⟨(fineEnded_frontOnly ds b).addSetl, putDelays_fineFrom _ _, valid, drift, skew, fun d mem => ?_, fun a out => ?_,
      settles_addSetl ⟨0, 193, nowNs b, nowNs b + settleUp b b.act, true⟩ _⟩
    · exact (delayed_putDelays apart mem _).congr (getR_fineDone_valid _ (dly_ne_status _))
    · obtain ⟨status, dlys⟩ := not_or.mp (mt List.mem_cons.mpr out)
      refine (getR_fineDone_valid _ status).trans (getR_putDelays_ne _ fun d mem same => dlys ?_)
      exact List.mem_map.mpr ⟨d, mem, same.symm⟩
  · rw [exec_fineAlignmentApply ds q runs, fineApply_early early]
  · obtain ⟨valid, drift, skew⟩ := aligned_fineDone (tiersAligned ts ds b)
    refine ⟨_, exec_tierAlignment ds q runs, ?_⟩
    rw [alignDone_eq ds one nonempty due]
    refine ⟨(tiersAligned_frontOnly ts ds b).fineDone.setF, tiersAligned_align ts ds b, valid, drift, skew, rfl, fun d mem ours => ?_, fun t mem => ?_⟩
    · refine (delayed_putDelays (apart.filter _) ?_ _).congr ((getR_fineDone_valid _ (dly_ne_status _)).trans (getR_tiersAligned _ ts ds b))
      exact List.mem_filter.mpr ⟨mem, by simpa using ours⟩
    · obtain ⟨s, there, lo, hi, -, after, until_⟩ := settles_tiersAligned mem ds b
      exact ⟨s, there, lo, hi, after, until_⟩
  · rw [exec_tierAlignment ds q runs, alignDone_early early]

end Sys2Proof

namespace Sys2Proof.Machine

theorem actF_congr {b c : Block} (h : c.act = b.act) (f : Fld) : actF c f = actF b f := by unfold actF getA; rw [h]

theorem unsigned_lt (len : Nat) (i : Int) : unsigned len i < 2 ^ len := by
  have pos : (0 : Int) < (2 ^ len : Nat) := by exact_mod_cast Nat.two_pow_pos len
  have low := Int.emod_nonneg i pos.ne'
  have high := Int.emod_lt_of_pos i pos
  unfold unsigned
  omega

/-! Open-wire tests (R135 to R138). -/

section
variable {b c d : Block}

/-- From `b` to `c` nothing but registers, conditions of the Sluice and what a test leaves in the front end changes. -/
def OwOnly (b c : Block) : Prop :=
  c = { b with regs := c.regs, sl := { b.sl with cond := c.sl.cond },
               fe := { b.fe with owTest := c.fe.owTest, owPost := c.fe.owPost, steps := c.fe.steps, setl := c.fe.setl } }

theorem OwOnly.rfl : OwOnly b b := Eq.refl b
theorem OwOnly.trans (h : OwOnly b c) (k : OwOnly c d) : OwOnly b d := Eq.trans k (by rw [show c = _ from h])
theorem OwOnly.regsCond (h : RegsCond b c) : OwOnly b c := Eq.trans h (by rw [show c = _ from h])

/-- A postponed test is noted for its tap. -/
def owNoted (t j : Nat) (b : Block) : Block :=
  { b with fe := { b.fe with owPost := mapPut (fun _ => 0) b.fe.owPost (12 * t + j) (min 64 (mapGet (fun _ => 0) b.fe.owPost (12 * t + j) + 1)) } }

/-- A postponed test is counted, and starves its tap where `starved`. -/
def owCounted (t j : Nat) (starved : Bool) (b : Block) : Block := when starved (levelBit (Slot.feOwStarved t) j true) (count 0x19 1 { tier := some t } b)

theorem owPostpone_eq (t j : Nat) (b : Block) : owPostpone t j b =
    owCounted t j (decide (64 ≤ mapGet (fun _ => 0) b.fe.owPost (12 * t + j) + 1)) (addF (F.FE_OW_STATUS_POSTPONE_CNT t) 1 (owNoted t j b)) := rfl

theorem owCounted_regsCond (t j : Nat) (starved : Bool) (b : Block) : RegsCond b (owCounted t j starved b) :=
  .when (.count .rfl) fun _ h => h.putCond

/-- Beside the counters no register changes. -/
theorem owCounted_spared {lo hi : Nat} (t j : Nat) (starved : Bool) (b : Block) (above : 0x7500 ≤ lo) : Spared lo hi true b (owCounted t j starved b) :=
  .when (.count .rfl (.inl above)) fun _ h => h.levelBit

theorem OwOnly.owNoted (t j : Nat) (b : Block) : OwOnly b (owNoted t j b) := Eq.refl _
theorem OwOnly.owPostpone (t j : Nat) (b : Block) : OwOnly b (owPostpone t j b) :=
  (OwOnly.owNoted t j b).trans (.regsCond ((RegsCond.rfl.addF).trans (owCounted_regsCond t j _ _)))

theorem getR_owPostpone_ne {a t : Nat} (j : Nat) (b : Block) (above : 0x7500 ≤ a) (other : a ≠ R.FE_OW_STATUS t) : getR (owPostpone t j b) a = getR b a := by
  rw [owPostpone_eq, (owCounted_spared t j _ _ above).getR le_rfl (Nat.lt_succ_self a)]
  exact getR_setF_ne (F.FE_OW_STATUS_POSTPONE_CNT t) _ _ other

theorem next_owPostpone (t j : Nat) (b : Block) : getF (owPostpone t j b) (F.FE_OW_STATUS_NEXT t) = getF b (F.FE_OW_STATUS_NEXT t) := by
  have above : 0x7500 ≤ R.FE_OW_STATUS t := by unfold R.FE_OW_STATUS; omega
  rw [owPostpone_eq, (owCounted_spared t j _ _ above).getF le_rfl (Nat.lt_succ_self _)]
  exact getF_setF_beside (F.FE_OW_STATUS_POSTPONE_CNT t) _ _ (owNoted t j b) (Nat.le_of_ble_eq_true rfl) rfl (.inl (Nat.le_of_ble_eq_true rfl))

theorem owPostpone_owTest (t j : Nat) (b : Block) : (owPostpone t j b).fe.owTest = b.fe.owTest := by
  rw [owPostpone_eq, show owCounted t j _ _ = _ from owCounted_regsCond t j _ _]
  rfl

/-- The test of tier `t` in this frame. -/
def owDue (t : Nat) (b : Block) : OwTest :=
  ⟨t, owNext b t, (owCells b t (owNext b t)).1, (owCells b t (owNext b t)).2, decide (owNext b t = 0 ∨ owNext b t = populated b t)⟩

/-- What postpones a test (R138, R172, R359). -/
def owBarred (t : Nat) (b : Block) : Bool :=
  quietNow b || jumped b || (owList (owCells b t (owNext b t))).any fun n => owBusy b n (devF b)

theorem owBarred_eq_false (t : Nat) (b : Block) : owBarred t b = false ↔
    quietNow b = false ∧ b.cw.jumpAt ≠ some (devF b) ∧ ∀ n ∈ owList (owCells b t (owNext b t)), owBusy b n (devF b) = false := by
  simp [owBarred, jumped, and_assoc]

/-- The supply step of an end tap's test, and the SETL it brings (R136, R161). -/
def owSupplyStep (t j : Nat) (b : Block) : Block :=
  if j = 0 ∨ j = populated b t then
    let b := { b with fe := { b.fe with steps := b.fe.steps ++ [(t, devF b, devF b + 20 - frame b % 20)] } }
    if actF b F.FLT_BAL_CTL_CMP_EN = 1 then b else
    let pop := popIn b.act
    let lo := lowerTap pop (12 * t + 1)
    let cells := (if lo = 0 then [] else [lo]) ++ [12 * t + 1, topCell pop t] ++ (cellAbove pop (topCell pop t)).toList
    each cells (fun n => addSetl ⟨n - 1, n - 1, nowNs b, nowNs b + 50000 + settleUp b b.act, false⟩) b
  else b

/-- Tier `t` shows the tap whose turn it is. -/
def owTurn (t : Nat) (b : Block) : Block := setF (F.FE_OW_STATUS_NEXT t) (owNext b t) b

/-- The test of tier `t` is under way. -/
def owAdded (t : Nat) (b : Block) : Block :=
  let c := owTurn t b
  { c with fe := { c.fe with owTest := c.fe.owTest ++ [owDue t b] } }

/-- A test that begins. -/
def owBegun (t : Nat) (b : Block) : Block := owSupplyStep t (owNext b t) (owAdded t b)

/-- What tier `t` does in a diagnostic frame. -/
def owTier (t : Nat) (b : Block) : Block :=
  if fieldIn (tierSet b t) (F.FE_TIER_CTL_OW_EN t) = 0 then b
  else if owBarred t b then owPostpone t (owNext b t) (owTurn t b) else owBegun t b

/-- A diagnostic frame's tests begin. -/
def owOpen (b : Block) : Block :=
  { b with fe := { b.fe with owFrame := some (devF b), owTest := [],
                             steps := b.fe.steps.filter fun s => decide (nowNs b < s.2.2 * 50000 + settleUp b b.act) } }

theorem openWireTest_eq (runs : framesRun b = true) (started : b.fe.started = true) (on : actF b F.FE_OW_CTL_PERIOD ≠ 0)
    (diag : frame b % actF b F.FE_OW_CTL_PERIOD = 0) (once : b.fe.owFrame ≠ some (devF b)) : openWireTest b = each (List.range 16) owTier (owOpen b) := by
  have guard : ¬ (!framesRun b || !b.fe.started || actF b F.FE_OW_CTL_PERIOD = 0 || frame b % actF b F.FE_OW_CTL_PERIOD ≠ 0 || b.fe.owFrame = some (devF b)) = true := by
    simp [runs, started, on, diag, once]
  exact if_neg guard

theorem openWireTest_idle (h : actF b F.FE_OW_CTL_PERIOD = 0 ∨ frame b % actF b F.FE_OW_CTL_PERIOD ≠ 0 ∨ b.fe.owFrame = some (devF b)) : openWireTest b = b := by
  refine if_pos ?_
  rcases h with off | other | done
  · simp [off]
  · simp [other]
  · simp [done]

theorem owSupplyStep_regs (t j : Nat) (b : Block) : (owSupplyStep t j b).regs = b.regs := by
  unfold owSupplyStep
  split
  · dsimp only
    split
    · rfl
    · exact each_proj Block.regs _ _ _ fun _ _ => rfl
  · rfl

theorem owSupplyStep_owTest (t j : Nat) (b : Block) : (owSupplyStep t j b).fe.owTest = b.fe.owTest := by
  unfold owSupplyStep
  split
  · dsimp only
    split
    · rfl
    · exact each_proj (·.fe.owTest) _ _ _ fun _ _ => rfl
  · rfl

theorem OwOnly.owSupplyStep (t j : Nat) (b : Block) : OwOnly b (owSupplyStep t j b) := by
  unfold Machine.owSupplyStep
  split
  · dsimp only
    split
    · exact Eq.refl _
    · exact each_keeps (Eq.refl _) fun _ _ _ h => h.trans (Eq.refl _)
  · exact .rfl

theorem OwOnly.owTurn (t : Nat) (b : Block) : OwOnly b (owTurn t b) := Eq.refl _
theorem OwOnly.owAdded (t : Nat) (b : Block) : OwOnly b (owAdded t b) := Eq.refl _
theorem OwOnly.owTier (t : Nat) (b : Block) : OwOnly b (owTier t b) := by
  unfold Machine.owTier
  split
  · exact .rfl
  · split
    · exact (OwOnly.owTurn t b).trans (.owPostpone t _ _)
    · exact (OwOnly.owAdded t b).trans (.owSupplyStep t _ _)

theorem getR_owTurn_ne {a t : Nat} (b : Block) (other : a ≠ R.FE_OW_STATUS t) : getR (owTurn t b) a = getR b a :=
  getR_setF_ne (F.FE_OW_STATUS_NEXT t) _ b other

theorem owBegun_regs (t : Nat) (b : Block) : (owBegun t b).regs = (owTurn t b).regs := owSupplyStep_regs _ _ _

theorem owBegun_owTest (t : Nat) (b : Block) : (owBegun t b).fe.owTest = b.fe.owTest ++ [owDue t b] := owSupplyStep_owTest _ _ _

/-- A register beside the counters and the tier's own status. -/
theorem getR_owTier_ne {a t : Nat} (b : Block) (above : 0x7500 ≤ a) (other : a ≠ R.FE_OW_STATUS t) : getR (owTier t b) a = getR b a := by
  unfold owTier
  split
  · rfl
  · split
    · rw [getR_owPostpone_ne _ _ above other, getR_owTurn_ne b other]
    · rw [getR_congr (owBegun_regs t b), getR_owTurn_ne b other]

/-- A tap's number fits its field. -/
theorem owNext_lt (b : Block) (t : Nat) : owNext b t < 16 := by
  have few : populated b t ≤ 12 := (List.length_filter_le _ _).trans (by simp)
  have inside : ∀ j ∈ owRotation b t, j < 16 := fun j mem => by
    obtain ⟨i, low, rfl⟩ := List.mem_map.mp mem
    have := List.mem_range.mp low
    omega
  have head : (owRotation b t).headD 0 < 16 := by
    cases taps : owRotation b t with
    | nil => exact Nat.zero_lt_succ _
    | cons j l => exact inside j (by simp [taps])
  unfold owNext
  dsimp only
  cases found : (owRotation b t).find? fun j => decide (getF b (F.FE_OW_STATUS_NEXT t) ≤ j) with
  | none => exact head
  | some j => exact inside j (List.mem_of_find?_eq_some found)

theorem next_owTurn (t : Nat) (b : Block) : getF (owTurn t b) (F.FE_OW_STATUS_NEXT t) = owNext b t :=
  (getF_setF _ _ _ (Nat.le_of_ble_eq_true rfl)).trans (Nat.mod_eq_of_lt (owNext_lt b t))

/-! What a tier's turn shows. -/

theorem next_owTier (t : Nat) (b : Block) (on : fieldIn (tierSet b t) (F.FE_TIER_CTL_OW_EN t) ≠ 0) : getF (owTier t b) (F.FE_OW_STATUS_NEXT t) = owNext b t := by
  unfold owTier
  rw [if_neg on]
  split
  · rw [next_owPostpone, next_owTurn]
  · rw [getF_congr (owBegun_regs t b), next_owTurn]

/-- The tests under way after a tier's turn: its own is new, where it is enabled and nothing bars it. -/
theorem mem_owTier {x : OwTest} (t : Nat) (b : Block) : x ∈ (owTier t b).fe.owTest ↔
    x ∈ b.fe.owTest ∨ (x = owDue t b ∧ fieldIn (tierSet b t) (F.FE_TIER_CTL_OW_EN t) ≠ 0 ∧ owBarred t b = false) := by
  unfold owTier
  split
  next off => simp [off]
  next on =>
    split
    next barred =>
      rw [owPostpone_owTest]
      simp [barred, owTurn]
    next free => simp [owBegun_owTest, on, free]

/-- In `c` the test of tier `t` has its turn still before it. -/
def OwAwaits (t : Nat) (b c : Block) : Prop := OwOnly b c ∧ getR c (R.FE_OW_STATUS t) = getR b (R.FE_OW_STATUS t) ∧ ∀ x ∈ c.fe.owTest, x.tier ≠ t

/-- What the turn of tier `t` shows in `c`, by the block `b` before it. -/
def OwShown (t : Nat) (b c : Block) : Prop :=
  (fieldIn (tierSet b t) (F.FE_TIER_CTL_OW_EN t) ≠ 0 → getF c (F.FE_OW_STATUS_NEXT t) = owNext b t) ∧
    ∀ x : OwTest, x.tier = t → (x ∈ c.fe.owTest ↔ x = owDue t b ∧ fieldIn (tierSet b t) (F.FE_TIER_CTL_OW_EN t) ≠ 0 ∧ owBarred t b = false)

theorem owStatus_ne {t u : Nat} (h : t ≠ u) : R.FE_OW_STATUS t ≠ R.FE_OW_STATUS u := by unfold R.FE_OW_STATUS; omega
theorem owStatus_above (t : Nat) : 0x7500 ≤ R.FE_OW_STATUS t := by unfold R.FE_OW_STATUS; omega

/-- The turn of another tier brings no test of tier `t`. -/
theorem mem_owTier_other {x : OwTest} {t u : Nat} (b : Block) (tier : x.tier = t) (h : t ≠ u) : x ∈ (owTier u b).fe.owTest ↔ x ∈ b.fe.owTest := by
  have foreign : x ≠ owDue u b := fun same => h (tier.symm.trans (congrArg OwTest.tier same))
  simp [mem_owTier, foreign]

theorem OwAwaits.owTier {t u : Nat} (h : OwAwaits t b c) (other : t ≠ u) : OwAwaits t b (owTier u c) := by
  obtain ⟨only, status, tests⟩ := h
  exact ⟨only.trans (.owTier u c), (getR_owTier_ne c (owStatus_above t) (owStatus_ne other)).trans status,
    fun x mem tier => tests x ((mem_owTier_other c tier other).mp mem) tier⟩

theorem OwShown.owTier {t u : Nat} (h : OwShown t b c) (other : t ≠ u) : OwShown t b (owTier u c) := by
  obtain ⟨next, tests⟩ := h
  exact ⟨fun on => (getF_of_getR (getR_owTier_ne c (owStatus_above t) (owStatus_ne other))).trans (next on),
    fun x tier => (mem_owTier_other c tier other).trans (tests x tier)⟩

/-- What a tier's turn reads of the tests is its own tap alone. -/
theorem OwOnly.reads {t : Nat} (h : OwOnly b c) (status : getR c (R.FE_OW_STATUS t) = getR b (R.FE_OW_STATUS t)) :
    tierSet c t = tierSet b t ∧ owNext c t = owNext b t ∧ owDue t c = owDue t b ∧ owBarred t c = owBarred t b := by
  have act : c.act = b.act := by rw [show c = _ from h]
  have field : getF c (F.FE_OW_STATUS_NEXT t) = getF b (F.FE_OW_STATUS_NEXT t) := getF_of_getR status
  have pop : populated c t = populated b t := by unfold populated; simp only [actF_congr act]
  have next : owNext c t = owNext b t := by unfold owNext owRotation; rw [field, pop]
  have cells : ∀ j, owCells c t j = owCells b t j := fun j => by unfold owCells; rw [act]
  have due : owDue t c = owDue t b := by unfold owDue; rw [next, cells, pop]
  have outer : tierSet c t = tierSet b t ∧ quietNow c = quietNow b ∧ jumped c = jumped b ∧ ∀ n d, owBusy c n d = owBusy b n d := by
    rw [show c = _ from h]
    exact ⟨Eq.refl _, Eq.refl _, Eq.refl _, fun _ _ => Eq.refl _⟩
  obtain ⟨set, quiet, jump, busy⟩ := outer
  have frame : devF c = devF b := by rw [show c = _ from h]; exact Eq.refl _
  refine ⟨set, next, due, ?_⟩
  unfold owBarred
  rw [quiet, jump, next, cells, frame]
  simp only [busy]

theorem OwAwaits.shown {t : Nat} (h : OwAwaits t b c) : OwShown t b (Machine.owTier t c) := by
  obtain ⟨only, status, tests⟩ := h
  obtain ⟨set, next, due, barred⟩ := only.reads status
  refine ⟨fun on => ?_, fun x tier => ?_⟩
  · rw [next_owTier t c (by rwa [set]), next]
  · have fresh : x ∉ c.fe.owTest := fun mem => tests x mem tier
    rw [mem_owTier, set, due, barred]
    simp [fresh]

/-- The tests of a diagnostic frame. -/
theorem owShown_openWireTest {t : Nat} (small : t < 16) (b : Block) : OwShown t (owOpen b) (each (List.range 16) owTier (owOpen b)) :=
  each_turn (R := (· ≠ ·)) (P := OwAwaits t (owOpen b)) (List.mem_range.mpr small) List.nodup_range
    ⟨.rfl, Eq.refl _, fun _ mem => nomatch mem⟩ (fun _ _ other _ h => h.owTier other.symm) (fun _ h => h.shown) fun _ _ other _ h => h.owTier other

theorem owOnly_openWireTest (b : Block) : OwOnly (owOpen b) (each (List.range 16) owTier (owOpen b)) :=
  each_keeps .rfl fun t _ c h => h.trans (.owTier t c)

end
end Sys2Proof.Machine

namespace Sys2Proof.Machine

section
variable {b c d : Block}

/-! Check conversions (R140). -/

/-- From `b` to `c` nothing but the comparisons that wait changes. -/
def ChkOnly (b c : Block) : Prop := c = { b with fe := { b.fe with chkPend := c.fe.chkPend } }

theorem ChkOnly.rfl : ChkOnly b b := Eq.refl b
theorem ChkOnly.trans (h : ChkOnly b c) (k : ChkOnly c d) : ChkOnly b d := Eq.trans k (by rw [show c = _ from h])

/-- The cell of tier `t` that this chain tick compares. -/
def chkCell (b : Block) (t : Nat) : Nat := 12 * t + chkTick b + 1

/-- The cycle's schedule covers the cell of tier `t`. -/
def chkCovered (b : Block) (t : Nat) : Bool := b.fe.chkSet.any fun x => x.1 == t && bitOf x.2 (chkTick b)

/-- The comparison that a conversion brings. -/
def chkFound (b : Block) (k : CheckInput) : ChkPend := ⟨chkCell b k.tier.val, devF b - frame b % 20, k.sar.sum, k.sd.sum⟩

/-- One tier's conversion. -/
def chkTake (k : CheckInput) (b : Block) : Block :=
  if fieldIn (tierSet b k.tier.val) (F.FE_TIER_CTL_CHK_EN k.tier.val) = 0 ∨ !present b (chkCell b k.tier.val) ∨ !chkCovered b k.tier.val then b
  else { b with fe := { b.fe with chkPend := (b.fe.chkPend.filter (·.cell != chkCell b k.tier.val)) ++ [chkFound b k] } }

theorem checkConversion_eq (ks : List CheckInput) (runs : framesRun b = true) (tick : chkTick b < 12) (first : frame b % 20 ≤ 1) (whole : chkCut b = false) :
    checkConversion ks b = each ks chkTake b := by
  have guard : ¬ (!framesRun b || 12 ≤ chkTick b || 1 < frame b % 20 || chkCut b) = true := by simp [runs, tick, first, whole]
  exact if_neg guard

theorem checkConversion_idle (ks : List CheckInput) (h : 12 ≤ chkTick b ∨ 1 < frame b % 20 ∨ chkCut b = true) : checkConversion ks b = b := by
  refine if_pos ?_
  rcases h with tick | later | cut
  · simp [tick]
  · simp [later]
  · simp [cut]

theorem ChkOnly.chkTake (k : CheckInput) (b : Block) : ChkOnly b (chkTake k b) := by
  unfold Machine.chkTake
  split <;> exact Eq.refl _

theorem ChkOnly.each (ks : List CheckInput) (b : Block) : ChkOnly b (each ks Machine.chkTake b) :=
  each_keeps .rfl fun k _ c h => h.trans (.chkTake k c)

/-- What a conversion reads does not depend on the comparisons that wait. -/
theorem ChkOnly.reads (h : ChkOnly b c) (k : CheckInput) : tierSet c k.tier.val = tierSet b k.tier.val ∧ present c = present b ∧ chkCell c = chkCell b ∧
    chkCovered c = chkCovered b ∧ chkFound c k = chkFound b k := by
  rw [show c = _ from h]
  exact ⟨Eq.refl _, Eq.refl _, Eq.refl _, Eq.refl _, Eq.refl _⟩

/-- A conversion replaces the comparison of its own cell alone. -/
theorem mem_chkTake_other {p : ChkPend} (k : CheckInput) (b : Block) (other : p.cell ≠ chkCell b k.tier.val) : p ∈ (chkTake k b).fe.chkPend ↔ p ∈ b.fe.chkPend := by
  have foreign : p ≠ chkFound b k := fun same => other (congrArg ChkPend.cell same)
  unfold chkTake
  split
  · rfl
  · simp [foreign, other]

/-- The one comparison of a cell that a conversion covers. -/
theorem mem_chkTake_own {p : ChkPend} (k : CheckInput) (b : Block) (on : fieldIn (tierSet b k.tier.val) (F.FE_TIER_CTL_CHK_EN k.tier.val) ≠ 0)
    (there : present b (chkCell b k.tier.val) = true) (covered : chkCovered b k.tier.val = true) :
    p ∈ (chkTake k b).fe.chkPend ∧ p.cell = chkCell b k.tier.val ↔ p = chkFound b k := by
  have cell : (chkFound b k).cell = chkCell b k.tier.val := rfl
  unfold chkTake
  rw [if_neg (by simp [on, there, covered])]
  constructor
  · rintro ⟨mem, own⟩
    simpa [own] using mem
  · rintro rfl
    exact ⟨List.mem_append_right _ List.mem_cons_self, cell⟩

/-- Comparisons of cells that no conversion names still wait. -/
theorem mem_checks_other {ks : List CheckInput} {p : ChkPend} (mem : p ∈ b.fe.chkPend) (other : ∀ k ∈ ks, p.cell ≠ chkCell b k.tier.val) :
    p ∈ (each ks chkTake b).fe.chkPend := by
  refine (each_keeps (P := fun c => ChkOnly b c ∧ p ∈ c.fe.chkPend) ⟨.rfl, mem⟩ fun k mk c ⟨only, waits⟩ => ⟨only.trans (.chkTake k c), ?_⟩).2
  obtain ⟨-, -, cell, -, -⟩ := only.reads k
  exact (mem_chkTake_other k c (by rw [cell]; exact other k mk)).mpr waits

/-- One comparison waits for each cell converted. -/
theorem mem_checks_own {ks : List CheckInput} {k : CheckInput} (mem : k ∈ ks) (apart : ks.Pairwise fun x y => x.tier ≠ y.tier)
    (on : fieldIn (tierSet b k.tier.val) (F.FE_TIER_CTL_CHK_EN k.tier.val) ≠ 0)
    (there : present b (chkCell b k.tier.val) = true) (covered : chkCovered b k.tier.val = true) (p : ChkPend) :
    p ∈ (each ks chkTake b).fe.chkPend ∧ p.cell = chkCell b k.tier.val ↔ p = chkFound b k := by
  let Q := fun c => ChkOnly b c ∧ (p ∈ c.fe.chkPend ∧ p.cell = chkCell b k.tier.val ↔ p = chkFound b k)
  refine (each_turn (P := ChkOnly b) (Q := Q) mem apart .rfl (fun y _ _ c only => only.trans (.chkTake y c)) (fun c only => ⟨only.trans (.chkTake k c), ?_⟩)
    fun y _ other c ⟨only, one⟩ => ⟨only.trans (.chkTake y c), ?_⟩).2
  · obtain ⟨set, cells, cell, cover, found⟩ := only.reads k
    rw [← cell, ← found]
    exact mem_chkTake_own k c (by rwa [set]) (by rwa [cells, cell]) (by rwa [cover])
  · obtain ⟨-, -, cell, -, -⟩ := only.reads y
    rw [← one]
    refine and_congr_left fun own => mem_chkTake_other y c ?_
    have tiers : k.tier.val ≠ y.tier.val := fun same => other (Fin.ext same)
    rw [own, cell]
    unfold chkCell
    omega

/-! The reference cross-check (R143). -/

/-- From `b` to `c` nothing but registers and the conditions due at the next tick changes. -/
def RefOnly (b c : Block) : Prop := c = { b with regs := c.regs, fe := { b.fe with levelsDue := c.fe.levelsDue } }

theorem RefOnly.rfl : RefOnly b b := Eq.refl b
theorem RefOnly.trans (h : RefOnly b c) (k : RefOnly c d) : RefOnly b d := Eq.trans k (by rw [show c = _ from h])

/-- The disagreement of a tier is published. -/
def refShown (k : RefCross) (b : Block) : Block :=
  setF (F.FE_CHK_REF_LAST_VALID k.tier.val) 1 (setF (F.FE_CHK_REF_LAST_DIFF k.tier.val) (unsigned 16 (clampInt (-32768) 32767 k.diff)) b)

/-- The condition that a disagreement leaves for the next tick. -/
def refFound (k : RefCross) (b : Block) : Nat × Bool × Nat := (Slot.feChkRef k.tier.val, decide (actF b F.FE_CHK_CTL_REF_THR < k.diff.natAbs), 0)

/-- One tier's cross-check. -/
def refTake (k : RefCross) (b : Block) : Block :=
  if fieldIn (tierSet b k.tier.val) (F.FE_TIER_CTL_CHK_EN k.tier.val) = 0 then b
  else { refShown k b with fe := { b.fe with levelsDue := b.fe.levelsDue ++ [refFound k b] } }

theorem checkRefCross_eq (ks : List RefCross) (runs : framesRun b = true) (tick : chkTick b = 12) (whole : chkCut b = false) :
    checkRefCross ks b = each ks refTake b := by
  have guard : ¬ (!framesRun b || chkTick b ≠ 12 || chkCut b) = true := by simp [runs, tick, whole]
  exact if_neg guard

theorem checkRefCross_idle (ks : List RefCross) (h : chkTick b ≠ 12 ∨ chkCut b = true) : checkRefCross ks b = b := by
  refine if_pos ?_
  rcases h with tick | cut
  · simp [tick]
  · simp [cut]

theorem RefOnly.refTake (k : RefCross) (b : Block) : RefOnly b (refTake k b) := by
  unfold Machine.refTake
  split <;> exact Eq.refl _

theorem RefOnly.each (ks : List RefCross) (b : Block) : RefOnly b (each ks Machine.refTake b) :=
  each_keeps .rfl fun k _ c h => h.trans (.refTake k c)

theorem RefOnly.reads (h : RefOnly b c) (k : RefCross) : tierSet c k.tier.val = tierSet b k.tier.val ∧ refFound k c = refFound k b := by
  rw [show c = _ from h]
  exact ⟨Eq.refl _, Eq.refl _⟩

theorem refTake_regs (k : RefCross) (b : Block) (on : fieldIn (tierSet b k.tier.val) (F.FE_TIER_CTL_CHK_EN k.tier.val) ≠ 0) : (refTake k b).regs = (refShown k b).regs := by
  rw [refTake, if_neg on]

theorem getR_refTake_ne {a : Nat} (k : RefCross) (b : Block) (other : a ≠ R.FE_CHK_REF_LAST k.tier.val) : getR (refTake k b) a = getR b a := by
  by_cases off : fieldIn (tierSet b k.tier.val) (F.FE_TIER_CTL_CHK_EN k.tier.val) = 0
  · rw [refTake, if_pos off]
  · rw [getR_congr (refTake_regs k b off), refShown, getR_setF_ne _ _ _ other, getR_setF_ne _ _ _ other]

theorem levelsDue_refTake {x : Nat × Bool × Nat} (k : RefCross) (mem : x ∈ b.fe.levelsDue) : x ∈ (refTake k b).fe.levelsDue := by
  unfold refTake
  split
  exacts [mem, List.mem_append_left _ mem]

/-- What the cross-check of a tier shows in `c`, by the block `b` before it. -/
def RefResult (k : RefCross) (b c : Block) : Prop :=
  (fieldIn (tierSet b k.tier.val) (F.FE_TIER_CTL_CHK_EN k.tier.val) = 0 → getR c (R.FE_CHK_REF_LAST k.tier.val) = getR b (R.FE_CHK_REF_LAST k.tier.val)) ∧
  (fieldIn (tierSet b k.tier.val) (F.FE_TIER_CTL_CHK_EN k.tier.val) ≠ 0 → getF c (F.FE_CHK_REF_LAST_VALID k.tier.val) = 1 ∧
    getF c (F.FE_CHK_REF_LAST_DIFF k.tier.val) = unsigned 16 (clampInt (-32768) 32767 k.diff) ∧ refFound k b ∈ c.fe.levelsDue)

theorem refShown_fields (k : RefCross) (b : Block) : getF (refShown k b) (F.FE_CHK_REF_LAST_VALID k.tier.val) = 1 ∧
    getF (refShown k b) (F.FE_CHK_REF_LAST_DIFF k.tier.val) = unsigned 16 (clampInt (-32768) 32767 k.diff) := by
  unfold refShown
  refine ⟨getF_setF _ _ _ (Nat.le_of_ble_eq_true rfl), ?_⟩
  rw [getF_setF_beside (F.FE_CHK_REF_LAST_VALID k.tier.val) (F.FE_CHK_REF_LAST_DIFF k.tier.val) _ _ (Nat.le_of_ble_eq_true rfl) rfl (.inr (Nat.le_of_ble_eq_true rfl)),
    getF_setF _ _ _ le_rfl]
  exact Nat.mod_eq_of_lt (unsigned_lt 16 _)

theorem refResult_refTake (k : RefCross) (b : Block) : RefResult k b (refTake k b) := by
  obtain ⟨valid, diff⟩ := refShown_fields k b
  constructor
  · intro off
    rw [refTake, if_pos off]
  · intro on
    rw [getF_congr (refTake_regs k b on), getF_congr (refTake_regs k b on), refTake, if_neg on]
    exact ⟨valid, diff, List.mem_append_right _ List.mem_cons_self⟩

theorem RefResult.refTake {k y : RefCross} (h : RefResult k b c) (other : k.tier ≠ y.tier) : RefResult k b (refTake y c) := by
  obtain ⟨off, on⟩ := h
  have tiers : k.tier.val ≠ y.tier.val := fun same => other (Fin.ext same)
  have same : getR (Machine.refTake y c) (R.FE_CHK_REF_LAST k.tier.val) = getR c (R.FE_CHK_REF_LAST k.tier.val) :=
    getR_refTake_ne y c (by unfold R.FE_CHK_REF_LAST; omega)
  refine ⟨fun h => same.trans (off h), fun h => ?_⟩
  obtain ⟨valid, diff, due⟩ := on h
  exact ⟨(getF_of_getR same).trans valid, (getF_of_getR same).trans diff, levelsDue_refTake y due⟩

/-- Each tier's cross-check shows after all of them. -/
theorem refResult_each {ks : List RefCross} {k : RefCross} (mem : k ∈ ks) (apart : ks.Pairwise fun x y => x.tier ≠ y.tier) (b : Block) :
    RefResult k b (each ks refTake b) := by
  let P := fun c => RefOnly b c ∧ getR c (R.FE_CHK_REF_LAST k.tier.val) = getR b (R.FE_CHK_REF_LAST k.tier.val)
  refine each_turn (P := P) mem apart ⟨.rfl, Eq.refl _⟩ (fun y _ other c ⟨only, last⟩ => ⟨only.trans (.refTake y c), ?_⟩) (fun c ⟨only, last⟩ => ?_)
    fun y _ other c h => h.refTake other
  · have tiers : y.tier.val ≠ k.tier.val := fun same => other (Fin.ext same)
    exact (getR_refTake_ne y c (by unfold R.FE_CHK_REF_LAST; omega)).trans last
  · obtain ⟨set, found⟩ := only.reads k
    obtain ⟨off, on⟩ := refResult_refTake k c
    rw [set, found] at *
    exact ⟨fun h => (off h).trans last, on⟩

theorem levelsDue_each {ks : List RefCross} {x : Nat × Bool × Nat} (mem : x ∈ b.fe.levelsDue) : x ∈ (each ks refTake b).fe.levelsDue :=
  each_keeps (P := fun c => x ∈ c.fe.levelsDue) mem fun k _ _ h => levelsDue_refTake k h

theorem regsBut_each_refTake (ks : List RefCross) (b : Block) : RegsBut (ks.map fun k => R.FE_CHK_REF_LAST k.tier.val) b (each ks refTake b) := fun a out =>
  each_keeps (P := fun c => getR c a = getR b a) rfl fun k mem c same =>
    (getR_refTake_ne k c fun here => out (List.mem_map.mpr ⟨k, mem, here.symm⟩)).trans same

/-- One condition that was due is there to be evaluated. -/
theorem levelsTick_one {i det : Nat} {on : Bool} (one : b.fe.levelsDue = [(i, on, det)]) :
    (levelsTick b).fe.levelsDue = [] ∧ (condOf (levelsTick b) i).level = on := by
  have taken : levelsTick b = setLevel i on det { b with fe := { b.fe with levelsDue := [] } } := by
    unfold levelsTick
    rw [one]
    rfl
  rw [taken]
  exact ⟨rfl, level_setLevel i det on _⟩

end
end Sys2Proof.Machine

namespace Sys2Proof.Machine

section
variable {b c d : Block}

/-! Auxiliary conversions (R127 to R134, R316). -/

/-- From `b` to `c` nothing but registers and what auxiliary conversions leave in the front end changes, and no register below the front end's. -/
def AuxOnly (b c : Block) : Prop :=
  c = { b with regs := c.regs, fe := { b.fe with levelsDue := c.fe.levelsDue, dieTemp := c.fe.dieTemp, auxTiers := c.fe.auxTiers, auxKept := c.fe.auxKept } } ∧
    ∀ a, a < 0x8000 → getR c a = getR b a

theorem AuxOnly.rfl : AuxOnly b b := ⟨Eq.refl b, fun _ _ => Eq.refl _⟩
theorem AuxOnly.trans (h : AuxOnly b c) (k : AuxOnly c d) : AuxOnly b d := by
  obtain ⟨eq, low⟩ := h
  obtain ⟨eq', low'⟩ := k
  exact ⟨eq'.trans (by rw [show c = _ from eq]), fun a small => (low' a small).trans (low a small)⟩

theorem AuxOnly.act (h : AuxOnly b c) : c.act = b.act := by rw [show c = _ from h.1]
theorem AuxOnly.clock (h : AuxOnly b c) : c.clock = b.clock := by rw [show c = _ from h.1]

/-- Auxiliary conversions bear on no tier's availability. -/
theorem AuxOnly.reads (h : AuxOnly b c) (t : Nat) : tierAvail c t = tierAvail b t ∧ tierPowered c t = tierPowered b t := by
  obtain ⟨eq, low⟩ := h
  have failed : getF c F.BIST_FAILED_TIERS = getF b F.BIST_FAILED_TIERS := getF_of_getR (low _ (by decide))
  unfold tierAvail tierServes tierPowered
  rw [failed, show c = _ from eq]
  exact ⟨Eq.refl _, Eq.refl _⟩

theorem ntcInput_lt (place : Nat) (en : Bool) (r beta : Nat) : (ntcInput place en r beta).1 < 2 ^ 16 := by
  unfold ntcInput
  split
  · decide
  · split
    · decide
    · exact unsigned_lt 16 _

/-- The temperature words of one tier's NTC inputs under the set in force (R132, R133). -/
def auxTa (x : AuxInput) (b : Block) : Nat :=
  (ntcInput 14 (actF b (F.FE_TIER_CTL_NTCA_EN x.tier.val) = 1) x.ratioA (actF b (F.FE_NTC_BETA_BETA_A x.tier.val))).1
def auxTb (x : AuxInput) (b : Block) : Nat :=
  (ntcInput 15 (actF b (F.FE_TIER_CTL_NTCB_EN x.tier.val) = 1) x.ratioB (actF b (F.FE_NTC_BETA_BETA_B x.tier.val))).1

/-- The four readings of a tier in its registers. -/
def auxWritten (x : AuxInput) (b : Block) : Block :=
  setF (F.FE_AUX_T_DIE x.tier.val) (unsigned 16 (clampInt (-32767) 32767 x.die)) (setF (F.FE_AUX_T_VT x.tier.val) (min 65535 x.vt)
    (setF (F.FE_AUX_NTC_TA x.tier.val) (auxTa x b) (setF (F.FE_AUX_NTC_TB x.tier.val) (auxTb x b) b)))

/-- `c` shows the four readings `x`, by the set in force in `b`. -/
def AuxShown (x : AuxInput) (b c : Block) : Prop :=
  getF c (F.FE_AUX_T_DIE x.tier.val) = unsigned 16 (clampInt (-32767) 32767 x.die) ∧ getF c (F.FE_AUX_T_VT x.tier.val) = min 65535 x.vt ∧
    getF c (F.FE_AUX_NTC_TA x.tier.val) = auxTa x b ∧ getF c (F.FE_AUX_NTC_TB x.tier.val) = auxTb x b

theorem AuxShown.congr {x : AuxInput} (h : AuxShown x b c) (temp : getR d (R.FE_AUX_T x.tier.val) = getR c (R.FE_AUX_T x.tier.val))
    (ntc : getR d (R.FE_AUX_NTC x.tier.val) = getR c (R.FE_AUX_NTC x.tier.val)) : AuxShown x b d := by
  obtain ⟨die, vt, ta, tb⟩ := h
  exact ⟨(getF_of_getR temp).trans die, (getF_of_getR temp).trans vt, (getF_of_getR ntc).trans ta, (getF_of_getR ntc).trans tb⟩

theorem auxShown_auxWritten (x : AuxInput) (b : Block) : AuxShown x b (auxWritten x b) := by
  have apart : R.FE_AUX_T x.tier.val ≠ R.FE_AUX_NTC x.tier.val := by unfold R.FE_AUX_T R.FE_AUX_NTC; omega
  unfold auxWritten
  refine ⟨?_, ?_, ?_, ?_⟩
  · rw [getF_setF _ _ _ le_rfl]
    exact Nat.mod_eq_of_lt (unsigned_lt 16 _)
  · rw [getF_setF_beside (F.FE_AUX_T_DIE x.tier.val) (F.FE_AUX_T_VT x.tier.val) _ _ le_rfl rfl (.inl le_rfl), getF_setF _ _ _ (Nat.le_of_ble_eq_true rfl)]
    exact Nat.mod_eq_of_lt (by show min 65535 x.vt < 2 ^ 16; omega)
  · rw [getF_setF_ne _ _ _ _ apart.symm, getF_setF_ne _ _ _ _ apart.symm, getF_setF _ _ _ (Nat.le_of_ble_eq_true rfl)]
    exact Nat.mod_eq_of_lt (ntcInput_lt _ _ _ _)
  · rw [getF_setF_ne _ _ _ _ apart.symm, getF_setF_ne _ _ _ _ apart.symm,
      getF_setF_beside (F.FE_AUX_NTC_TA x.tier.val) (F.FE_AUX_NTC_TB x.tier.val) _ _ (Nat.le_of_ble_eq_true rfl) rfl (.inr le_rfl), getF_setF _ _ _ le_rfl]
    exact Nat.mod_eq_of_lt (ntcInput_lt _ _ _ _)

theorem getR_auxWritten_ne {a : Nat} (x : AuxInput) (b : Block) (temp : a ≠ R.FE_AUX_T x.tier.val) (ntc : a ≠ R.FE_AUX_NTC x.tier.val) :
    getR (auxWritten x b) a = getR b a := by
  rw [auxWritten, getR_setF_ne _ _ _ temp, getR_setF_ne _ _ _ temp, getR_setF_ne _ _ _ ntc, getR_setF_ne _ _ _ ntc]

/-- From `b` to `c` nothing but the conditions due at the next tick changes. -/
def DueOnly (b c : Block) : Prop := c = { b with fe := { b.fe with levelsDue := c.fe.levelsDue } }

theorem DueOnly.rfl : DueOnly b b := Eq.refl b
theorem DueOnly.trans (h : DueOnly b c) (k : DueOnly c d) : DueOnly b d := Eq.trans k (by rw [show c = _ from h])
theorem DueOnly.levelLater (i det : Nat) (on : Bool) (b : Block) : DueOnly b (levelLater i on det b) := Eq.refl _
theorem DueOnly.ite {p : Prop} [Decidable p] {x y : Block} (hx : DueOnly b x) (hy : DueOnly b y) : DueOnly b (if p then x else y) := by
  split
  exacts [hx, hy]
theorem DueOnly.regs (h : DueOnly b c) : c.regs = b.regs := by rw [show c = _ from h]
theorem DueOnly.auxKept (h : DueOnly b c) : c.fe.auxKept = b.fe.auxKept := by rw [show c = _ from h]
theorem DueOnly.auxTiers (h : DueOnly b c) : c.fe.auxTiers = b.fe.auxTiers := by rw [show c = _ from h]
theorem DueOnly.auxOnly (h : DueOnly b c) : AuxOnly b c := ⟨Eq.trans h (by rw [show c = _ from h]), fun a _ => getR_congr h.regs a⟩

/-- FE_NTC follows an input found open or shorted (R133). -/
def auxNtcLevel (x : AuxInput) (badA badB : Bool) (b : Block) : Block :=
  if badA || badB || condOf b (Slot.feNtc x.tier.val) ≠ {} then levelLater (Slot.feNtc x.tier.val) (badA || badB) (nat01 badA + nat01 badB * 2) b else b

/-- FE_DIE_OT follows the die's temperature (R131). -/
def auxDieLevel (x : AuxInput) (b : Block) : Block :=
  let ot := signed 16 (actF b F.FE_LIMIT_CTL_DIE_OT)
  let was := (condOf b (Slot.feDieOt x.tier.val)).level
  let hot := decide (ot < clampInt (-32767) 32767 x.die) || (was && decide (ot - 256 < clampInt (-32767) 32767 x.die))
  if hot || was then levelLater (Slot.feDieOt x.tier.val) hot 0 b else b

/-- What a tier's conversions leave due. -/
def auxLevels (x : AuxInput) (b : Block) : Block :=
  auxDieLevel x (auxNtcLevel x
    (ntcInput 14 (actF b (F.FE_TIER_CTL_NTCA_EN x.tier.val) = 1) x.ratioA (actF b (F.FE_NTC_BETA_BETA_A x.tier.val))).2
    (ntcInput 15 (actF b (F.FE_TIER_CTL_NTCB_EN x.tier.val) = 1) x.ratioB (actF b (F.FE_NTC_BETA_BETA_B x.tier.val))).2 (auxWritten x b))

theorem auxTake_eq (x : AuxInput) (b : Block) : auxTake x b =
    { auxLevels x b with fe := { (auxLevels x b).fe with dieTemp := mapPut (fun _ => 0) (auxLevels x b).fe.dieTemp x.tier.val (clampInt (-32767) 32767 x.die) } } := rfl

theorem dueOnly_auxLevels (x : AuxInput) (b : Block) : DueOnly (auxWritten x b) (auxLevels x b) :=
  .trans (c := auxNtcLevel x _ _ (auxWritten x b)) (.ite (.levelLater _ _ _ _) .rfl) (.ite (.levelLater _ _ _ _) .rfl)

theorem auxTake_regs (x : AuxInput) (b : Block) : (auxTake x b).regs = (auxWritten x b).regs := by rw [auxTake_eq]; exact (dueOnly_auxLevels x b).regs
theorem auxTake_auxKept (x : AuxInput) (b : Block) : (auxTake x b).fe.auxKept = b.fe.auxKept := by rw [auxTake_eq]; exact (dueOnly_auxLevels x b).auxKept
theorem auxTake_auxTiers (x : AuxInput) (b : Block) : (auxTake x b).fe.auxTiers = b.fe.auxTiers := by rw [auxTake_eq]; exact (dueOnly_auxLevels x b).auxTiers

theorem AuxOnly.auxWritten (x : AuxInput) (b : Block) : AuxOnly b (auxWritten x b) :=
  ⟨Eq.refl _, fun a low => getR_auxWritten_ne x b (by unfold R.FE_AUX_T; omega) (by unfold R.FE_AUX_NTC; omega)⟩

theorem AuxOnly.aux {m : List (Nat × Int)} {ts : List Nat} {kept : List AuxInput} (h : AuxOnly b c) :
    AuxOnly b { c with fe := { c.fe with dieTemp := m, auxTiers := ts, auxKept := kept } } := h.trans ⟨Eq.refl _, fun _ _ => Eq.refl _⟩

theorem AuxOnly.auxTake (x : AuxInput) (b : Block) : AuxOnly b (auxTake x b) := by
  rw [auxTake_eq]
  exact ((AuxOnly.auxWritten x b).trans (dueOnly_auxLevels x b).auxOnly).aux

/-! One tier's turn. -/

/-- The conversions of a tier that the supervisor hears. -/
def auxHeard (x : AuxInput) (b : Block) : Block :=
  let c := auxTake x b
  { c with fe := { c.fe with auxTiers := addOnce x.tier.val c.fe.auxTiers } }

/-- A tier keeps its conversions, the newest in place of older ones. -/
def auxStays (x : AuxInput) (b : Block) : Block := { b with fe := { b.fe with auxKept := b.fe.auxKept.filter (fun y => y.tier.val != x.tier.val) ++ [x] } }

theorem auxTier_eq (x : AuxInput) (b : Block) :
    auxTier x b = if tierAvail b x.tier.val then auxHeard x b else if tierPowered b x.tier.val then auxStays x b else b := rfl

theorem AuxOnly.auxTier (x : AuxInput) (b : Block) : AuxOnly b (auxTier x b) := by
  rw [auxTier_eq]
  split
  · exact (AuxOnly.auxTake x b).aux
  · split
    exacts [AuxOnly.rfl.aux, .rfl]

theorem AuxOnly.each (xs : List AuxInput) (b : Block) : AuxOnly b (each xs Machine.auxTier b) :=
  each_keeps .rfl fun x _ c h => h.trans (.auxTier x c)

theorem getR_auxTier_ne {a : Nat} (x : AuxInput) (b : Block) (temp : a ≠ R.FE_AUX_T x.tier.val) (ntc : a ≠ R.FE_AUX_NTC x.tier.val) :
    getR (auxTier x b) a = getR b a := by
  rw [auxTier_eq]
  split
  · exact (getR_congr (auxTake_regs x b) a).trans (getR_auxWritten_ne x b temp ntc)
  · split <;> rfl

theorem auxTier_auxTiers {t : Nat} (x : AuxInput) (mem : t ∈ b.fe.auxTiers) : t ∈ (auxTier x b).fe.auxTiers := by
  rw [auxTier_eq]
  split
  · exact mem_addOnce.mpr (.inr (by rwa [auxTake_auxTiers]))
  · split <;> exact mem

/-- What another tier keeps stays. -/
theorem auxTier_auxKept {x y : AuxInput} (other : x.tier ≠ y.tier) (mem : x ∈ b.fe.auxKept) : x ∈ (auxTier y b).fe.auxKept := by
  have tiers : x.tier.val ≠ y.tier.val := fun same => other (Fin.ext same)
  rw [auxTier_eq]
  split
  · show x ∈ (auxTake y b).fe.auxKept
    rwa [auxTake_auxKept]
  · split
    · exact List.mem_append_left _ (List.mem_filter.mpr ⟨mem, by simpa using tiers⟩)
    · exact mem

theorem AuxShown.auxTier {x y : AuxInput} (h : AuxShown x b c) (other : x.tier ≠ y.tier) : AuxShown x b (auxTier y c) := by
  have tiers : x.tier.val ≠ y.tier.val := fun same => other (Fin.ext same)
  have temp : R.FE_AUX_T x.tier.val ≠ R.FE_AUX_T y.tier.val ∧ R.FE_AUX_T x.tier.val ≠ R.FE_AUX_NTC y.tier.val := by unfold R.FE_AUX_T R.FE_AUX_NTC; omega
  have ntc : R.FE_AUX_NTC x.tier.val ≠ R.FE_AUX_T y.tier.val ∧ R.FE_AUX_NTC x.tier.val ≠ R.FE_AUX_NTC y.tier.val := by unfold R.FE_AUX_T R.FE_AUX_NTC; omega
  exact h.congr (getR_auxTier_ne y c temp.1 temp.2) (getR_auxTier_ne y c ntc.1 ntc.2)

theorem auxShown_auxHeard (x : AuxInput) (b : Block) : AuxShown x b (auxHeard x b) := by
  have shown := auxShown_auxWritten x b
  exact shown.congr (getR_congr (auxTake_regs x b) _) (getR_congr (auxTake_regs x b) _)

/-- The readings of each tier that is heard. -/
theorem auxShown_each {xs : List AuxInput} {x : AuxInput} (mem : x ∈ xs) (apart : xs.Pairwise fun x y => x.tier ≠ y.tier) (heard : tierAvail b x.tier.val = true) :
    AuxShown x b (each xs auxTier b) ∧ x.tier.val ∈ (each xs auxTier b).fe.auxTiers := by
  refine each_turn (P := AuxOnly b) (Q := fun c => AuxShown x b c ∧ x.tier.val ∈ c.fe.auxTiers) mem apart .rfl (fun y _ _ c only => only.trans (.auxTier y c))
    (fun c only => ?_) fun y _ other c ⟨shown, there⟩ => ⟨shown.auxTier other, auxTier_auxTiers y there⟩
  obtain ⟨avail, -⟩ := only.reads x.tier.val
  have shown := auxShown_auxHeard x c
  unfold AuxShown auxTa auxTb at shown ⊢
  simp only [actF_congr only.act] at shown
  rw [auxTier_eq, if_pos (avail.trans heard)]
  exact ⟨shown, mem_addOnce.mpr (.inl rfl)⟩

/-- What a tier that is not heard keeps. -/
theorem auxKept_each {xs : List AuxInput} {x : AuxInput} (mem : x ∈ xs) (apart : xs.Pairwise fun x y => x.tier ≠ y.tier) (unheard : tierAvail b x.tier.val = false)
    (runs : tierPowered b x.tier.val = true) : x ∈ (each xs auxTier b).fe.auxKept := by
  refine each_turn (P := AuxOnly b) (Q := fun c => x ∈ c.fe.auxKept) mem apart .rfl (fun y _ _ c only => only.trans (.auxTier y c))
    (fun c only => ?_) fun y _ other c there => auxTier_auxKept other there
  obtain ⟨avail, powered⟩ := only.reads x.tier.val
  rw [auxTier_eq, if_neg (by simp [avail, unheard]), if_pos (powered.trans runs)]
  exact List.mem_append_right _ List.mem_cons_self

/-! The checks that follow the conversions (R117, R127 to R130). -/

/-- From `b` to `c` time, life cycle, the registers of the tiers and what was delivered or kept stay. -/
def AuxSettled (b c : Block) : Prop := Spared 0x8100 0x9100 true b c ∧ c.fe.auxTiers = b.fe.auxTiers ∧ c.fe.auxKept = b.fe.auxKept

theorem AuxSettled.rfl : AuxSettled b b := ⟨.rfl, Eq.refl _, Eq.refl _⟩
theorem AuxSettled.trans (h : AuxSettled b c) (k : AuxSettled c d) : AuxSettled b d := by
  obtain ⟨spared, tiers, kept⟩ := h
  obtain ⟨spared', tiers', kept'⟩ := k
  exact ⟨spared.trans spared', tiers'.trans tiers, kept'.trans kept⟩
theorem AuxSettled.dueOnly (h : DueOnly b c) : AuxSettled b c := by
  rw [show c = _ from h]
  exact ⟨.other .rfl, Eq.refl _, Eq.refl _⟩
theorem AuxSettled.setR {a : Nat} (w : Word) (b : Block) (out : a < 0x8100 := by decide) : AuxSettled b (setR a w b) := ⟨.setR .rfl (.inl out), Eq.refl _, Eq.refl _⟩
theorem AuxSettled.ite {p : Prop} [Decidable p] {x y : Block} (hx : AuxSettled b x) (hy : AuxSettled b y) : AuxSettled b (if p then x else y) := by
  split
  exacts [hx, hy]

theorem AuxShown.settled {x : AuxInput} (h : AuxShown x b c) (rest : AuxSettled c d) : AuxShown x b d := by
  have := x.tier.isLt
  exact h.congr (rest.1.getR (by unfold R.FE_AUX_T; omega) (by unfold R.FE_AUX_T; omega)) (rest.1.getR (by unfold R.FE_AUX_NTC; omega) (by unfold R.FE_AUX_NTC; omega))

theorem dueOnly_tierSumCheck (x : AuxInput) (b : Block) : DueOnly b (tierSumCheck x b) := .ite .rfl (.ite (.levelLater _ _ _ _) .rfl)

/-- The pack-side voltages of the two dividers (R127). -/
def dividersShown (v1 v2 : Nat) (b : Block) : Block := setR (R.FE_VDIV 2) (w32 (vdivMv b 2 v2)) (setR (R.FE_VDIV 1) (w32 (vdivMv b 1 v1)) b)

/-- The contactor's state, with its event where it changed (R128). -/
def contactorShown (closed change : Bool) (b : Block) : Block :=
  when change (event 0x13 (nat01 closed) 0 0 0) (putF F.FE_STATUS_CONTACTOR closed { b with fe := { b.fe with contOwed := false } })

/-- The stack's sum, and its condition against the divider's `m1` (R129). -/
def stackSumShown (m1 : Int) (b : Block) : Block :=
  if !(List.range 16).all (sumsOk b) then b else
  let sum := ((List.range 16).map (tierSum b)).sum
  let b := setR R.FE_STACK_SUM (w32 (unsigned 32 (published 16 ((sum : Rat) / 1000)))) b
  levelLater Slot.feStackSum (decide (10 * actF b F.FE_THR_CTL_STACK_THR < (m1 - signed 32 (getR b R.FE_STACK_SUM).toNat).natAbs)) 0 b

theorem auxSettled_contactorShown (closed change : Bool) (b : Block) : AuxSettled b (contactorShown closed change b) :=
  ⟨.when (.putF (.other .rfl)) fun _ h => h.event, when_proj (·.fe.auxTiers) _ _ _ rfl, when_proj (·.fe.auxKept) _ _ _ rfl⟩

theorem auxSettled_stackSumShown (m1 : Int) (b : Block) : AuxSettled b (stackSumShown m1 b) := .ite .rfl (.trans (.setR _ b) (.dueOnly (.levelLater _ _ _ _)))

theorem auxSettled_stackCheck (v1 v2 : Nat) (b : Block) : AuxSettled b (stackCheck v1 v2 b) := by
  have shape : ∃ m1 closed change, stackCheck v1 v2 b = stackSumShown m1 (contactorShown closed change (dividersShown v1 v2 b)) := ⟨_, _, _, rfl⟩
  obtain ⟨m1, closed, change, shape⟩ := shape
  have dividers : AuxSettled b (dividersShown v1 v2 b) := (AuxSettled.setR _ b).trans (.setR _ _)
  rw [shape]
  exact (dividers.trans (auxSettled_contactorShown _ _ _)).trans (auxSettled_stackSumShown _ _)

/-- DRIFT, and the fine alignment that AUTO asks for (R117, R120). -/
def driftShown (bad ask : Bool) (b : Block) : Block :=
  when ask (fun b => { b with fe := { b.fe with fineReq := true } }) (when bad (setF F.FE_STATUS_DRIFT 1) b)

theorem auxSettled_driftShown (bad ask : Bool) (b : Block) : AuxSettled b (driftShown bad ask b) :=
  ⟨.when (.when .rfl fun _ h => h.setF) fun _ h => h.other,
    (when_proj (·.fe.auxTiers) _ _ _ rfl).trans (when_proj (·.fe.auxTiers) _ _ _ rfl), (when_proj (·.fe.auxKept) _ _ _ rfl).trans (when_proj (·.fe.auxKept) _ _ _ rfl)⟩

theorem auxSettled_driftCheck (b : Block) : AuxSettled b (driftCheck b) := by
  have shape : ∃ bad ask skew, driftCheck b = levelLater Slot.feSkew skew 0 (driftShown bad ask b) := ⟨_, _, _, rfl⟩
  obtain ⟨bad, ask, skew, shape⟩ := shape
  rw [shape]
  exact (auxSettled_driftShown bad ask b).trans (.dueOnly (.levelLater _ _ _ _))

/-- The stack's checks, where tier 0 delivered. -/
def auxStack (xs : List AuxInput) (b : Block) : Block :=
  match xs.find? (fun x => x.tier.val == 0 && tierAvail b 0) with
  | some x => stackCheck x.vdiv1 x.vdiv2 b
  | none => b

/-- What follows the conversions of a chain tick. -/
def auxChecks (xs : List AuxInput) (b : Block) : Block := driftCheck (auxStack xs (each xs tierSumCheck b))

theorem auxSettled_auxChecks (xs : List AuxInput) (b : Block) : AuxSettled b (auxChecks xs b) := by
  have sums : AuxSettled b (each xs tierSumCheck b) := each_keeps .rfl fun x _ c h => h.trans (.dueOnly (dueOnly_tierSumCheck x c))
  have stack : AuxSettled (each xs tierSumCheck b) (auxStack xs (each xs tierSumCheck b)) := by
    unfold auxStack
    split
    exacts [auxSettled_stackCheck _ _ _, .rfl]
  exact (sums.trans stack).trans (auxSettled_driftCheck _)

theorem auxDone_eq (xs : List AuxInput) (runs : framesRun b = true) (first : frame b % 20 ≤ 1) : auxDone xs b = auxChecks xs (each xs auxTier b) := by
  have guard : ¬ (!framesRun b || 1 < frame b % 20) = true := by simp [runs, first]
  exact if_neg guard

theorem auxDone_idle (xs : List AuxInput) (later : 1 < frame b % 20) : auxDone xs b = b := if_pos (by simp [later])

/-! The commands. -/

theorem exec_openWireTest (b : Block) (q : List Instr) : exec .openWireTest ⟨b, q⟩ = .next ⟨openWireTest b, q⟩ := rfl
theorem exec_checkConversion (ks : List CheckInput) (b : Block) (q : List Instr) : exec (.checkConversion ks) ⟨b, q⟩ = .next ⟨checkConversion ks b, q⟩ := rfl
theorem exec_checkRefCross (ks : List RefCross) (b : Block) (q : List Instr) : exec (.checkRefCross ks) ⟨b, q⟩ = .next ⟨checkRefCross ks b, q⟩ := rfl
theorem exec_auxConversionDone (xs : List AuxInput) (b : Block) (q : List Instr) : exec (.auxConversionDone xs) ⟨b, q⟩ = .next ⟨auxDone xs b, q⟩ := rfl

end
end Sys2Proof.Machine

namespace Sys2Proof
open Machine

/-- Settles O49: each command of the family is a fold over tiers, of which a tier's turn reads and writes what is its own. -/
theorem tierChecks : Obligations.TierChecks := by
  refine fun b q runs => ⟨fun started on diag once => ?_, fun idle => ?_, fun ks tick first whole => ?_, fun ks idle => ?_, fun ks tick whole apart => ?_,
    fun ks idle => ?_, fun i on det one => levelsTick_one one, fun xs first apart => ?_, fun xs later => ?_⟩
  · have only := owOnly_openWireTest b
    refine ⟨_, exec_openWireTest b q, ?_⟩
    rw [openWireTest_eq runs started on diag once]
    have frame : ∀ c, OwOnly (owOpen b) c → c.fe.owFrame = some (devF b) ∧ c.lc = b.lc ∧ c.bal = b.bal ∧ c.clock = b.clock := fun c h => by
      rw [show c = _ from h]
      exact ⟨rfl, rfl, rfl, rfl⟩
    obtain ⟨owFrame, lc, bal, clock⟩ := frame _ only
    refine ⟨owFrame, lc, bal, clock, fun t small => ?_⟩
    obtain ⟨next, tests⟩ := owShown_openWireTest small b
    refine ⟨fun off x mem tier => ?_, fun on => ⟨next on, fun x tier => ?_⟩⟩
    · exact ((tests x tier).mp mem).2.1 off
    · refine (tests x tier).trans (and_congr_right fun _ => ?_)
      rw [owBarred_eq_false]
      exact and_iff_right on
  · rw [exec_openWireTest, openWireTest_idle idle]
  · refine ⟨(each ks chkTake b).fe.chkPend, ?_, fun p mem other => mem_checks_other mem other, fun k mem apart on there covered p => ?_⟩
    · rw [exec_checkConversion, checkConversion_eq ks runs tick first whole]
      exact congrArg (fun c => Host.Outcome.next (State.mk c q)) (ChkOnly.each ks b)
    · exact mem_checks_own mem apart on there covered p
  · rw [exec_checkConversion, checkConversion_idle ks idle]
  · refine ⟨_, exec_checkRefCross ks b q, ?_⟩
    rw [checkRefCross_eq ks runs tick whole]
    refine ⟨RefOnly.each ks b, fun k mem => ?_, fun k mem => ?_, fun x mem => levelsDue_each mem, regsBut_each_refTake ks b⟩
    · exact (refResult_each mem apart b).1
    · exact (refResult_each mem apart b).2
  · rw [exec_checkRefCross, checkRefCross_idle ks idle]
  · have settled := auxSettled_auxChecks xs (each xs auxTier b)
    have ⟨spared, tiers, kept⟩ := settled
    have only := AuxOnly.each xs b
    have eq := auxDone_eq xs runs first
    refine ⟨_, exec_auxConversionDone xs b q, (auxDone_keeps xs b).1, ?_, by simp, by simp, ?_⟩
    · rw [eq, spared.clock, only.clock]
    · rw [eq]
      refine ⟨fun x mem unheard powered => ?_, fun x mem heard => ?_⟩
      · rw [kept]
        exact auxKept_each mem apart unheard powered
      · obtain ⟨shown, there⟩ := auxShown_each mem apart heard
        obtain ⟨die, vt, ta, tb⟩ := shown.settled settled
        exact ⟨die, vt, ta, tb, by rwa [tiers]⟩
  · rw [exec_auxConversionDone, auxDone_idle xs later]

end Sys2Proof

namespace Sys2Proof.Machine

/-! The words of a FRAME record (R155 to R157). -/

/-- The rules of R157 on the flags of a word. -/
def FlagRules (w : Nat) : Prop :=
  (bitOf w 0 = true → w = 1) ∧ (bitOf w 3 = true → bitOf w 5 = false ∧ bitOf w 4 = false) ∧ (bitOf w 7 = true → bitOf w 2 = true)

/-- The flags of a word with data: OVR, OW, BAL, CMP, QUIET, SETL and CHK from bit 7 down to bit 1. -/
def flagByte (ovr ow bal cmp quiet setl chk : Bool) : Nat :=
  nat01 ovr * 128 + nat01 ow * 64 + nat01 (bal && !quiet) * 32 + nat01 (cmp && !quiet) * 16 + nat01 quiet * 8 + nat01 (setl || ovr) * 4 + nat01 chk * 2

theorem mkWord_nodata (code : Nat) (ovr ow bal cmp quiet setl chk : Bool) : mkWord code ovr ow bal cmp quiet setl chk true = 1 := rfl
theorem mkWord_data (code : Nat) (ovr ow bal cmp quiet setl chk : Bool) :
    mkWord code ovr ow bal cmp quiet setl chk false = 2 ^ 8 * (code % 2 ^ 24) + flagByte ovr ow bal cmp quiet setl chk := by
  rw [Nat.mul_comm]
  simp only [mkWord, flagByte, Bool.false_eq_true, if_false, Nat.add_assoc, Nat.reducePow]

/-- The bits that the rules look at. -/
theorem flagByte_bits : ∀ ovr ow bal cmp quiet setl chk, let f := flagByte ovr ow bal cmp quiet setl chk
    f < 2 ^ 8 ∧ bitOf f 0 = false ∧ bitOf f 2 = (setl || ovr) ∧ bitOf f 3 = quiet ∧ bitOf f 4 = (cmp && !quiet) ∧ bitOf f 5 = (bal && !quiet) ∧ bitOf f 7 = ovr := by
  decide

/-- The flags lie below the code. -/
theorem bitOf_low {f i : Nat} (code : Nat) (byte : f < 2 ^ 8) (low : i < 8) : bitOf (2 ^ 8 * code + f) i = bitOf f i := by
  rw [bitOf_eq_testBit, bitOf_eq_testBit, Nat.testBit_two_pow_mul_add _ byte, if_pos low]

theorem flagRules_mkWord (code : Nat) (ovr ow bal cmp quiet setl chk nodata : Bool) : FlagRules (mkWord code ovr ow bal cmp quiet setl chk nodata) := by
  cases nodata with
  | true =>
    rw [mkWord_nodata]
    exact ⟨fun _ => rfl, fun quiet => absurd quiet (by decide), fun ovr => absurd ovr (by decide)⟩
  | false =>
    obtain ⟨byte, b0, b2, b3, b4, b5, b7⟩ := flagByte_bits ovr ow bal cmp quiet setl chk
    rw [mkWord_data]
    unfold FlagRules
    rw [bitOf_low _ byte (by decide), bitOf_low _ byte (by decide), bitOf_low _ byte (by decide), bitOf_low _ byte (by decide), bitOf_low _ byte (by decide),
      bitOf_low _ byte (by decide), b0, b2, b3, b4, b5, b7]
    simp +contextual

theorem nat01_bitOf (n i : Nat) : nat01 (bitOf n i) = n / 2 ^ i % 2 := by
  have bit := Nat.mod_two_eq_zero_or_one (n / 2 ^ i)
  unfold nat01 bitOf
  rcases bit with off | on
  · rw [off]; rfl
  · rw [on]; rfl

/-- A word that keeps the rules is its code with its flags. -/
theorem mkWord_of_flagRules {w : Nat} (small : w < 2 ^ 32) (rules : FlagRules w) :
    mkWord (w / 2 ^ 8) (bitOf w 7) (bitOf w 6) (bitOf w 5) (bitOf w 4) (bitOf w 3) (bitOf w 2) (bitOf w 1) (bitOf w 0) = w := by
  obtain ⟨nodata, quiet, ovr⟩ := rules
  cases data : bitOf w 0 with
  | true => exact (nodata data).symm
  | false =>
    have bal : (bitOf w 5 && !bitOf w 3) = bitOf w 5 := by
      cases q : bitOf w 3 with
      | false => simp
      | true => simp [(quiet q).1]
    have cmp : (bitOf w 4 && !bitOf w 3) = bitOf w 4 := by
      cases q : bitOf w 3 with
      | false => simp
      | true => simp [(quiet q).2]
    have setl : (bitOf w 2 || bitOf w 7) = bitOf w 2 := by
      cases q : bitOf w 7 with
      | false => simp
      | true => simp [ovr q]
    have even : w / 2 ^ 0 % 2 = 0 := by rw [← nat01_bitOf, data]; rfl
    have high : w / 2 ^ 8 % 2 ^ 24 = w / 2 ^ 8 := Nat.mod_eq_of_lt (by omega)
    rw [mkWord_data, flagByte, bal, cmp, setl, high]
    simp only [nat01_bitOf, Nat.reducePow, Nat.div_one] at even ⊢
    omega

/-- A word of a FRAME record: that of some code and flags. -/
def IsWord (w : Nat) : Prop := ∃ code ovr ow bal cmp quiet setl chk nodata, mkWord code ovr ow bal cmp quiet setl chk nodata = w

theorem mkWord_lt (code : Nat) (ovr ow bal cmp quiet setl chk nodata : Bool) : mkWord code ovr ow bal cmp quiet setl chk nodata < 2 ^ 32 := by
  cases nodata with
  | true => rw [mkWord_nodata]; decide
  | false =>
    obtain ⟨byte, -⟩ := flagByte_bits ovr ow bal cmp quiet setl chk
    rw [mkWord_data]
    omega

theorem isWord_iff (w : Nat) : IsWord w ↔ w < 2 ^ 32 ∧ FlagRules w := by
  constructor
  · rintro ⟨code, ovr, ow, bal, cmp, quiet, setl, chk, nodata, rfl⟩
    exact ⟨mkWord_lt .., flagRules_mkWord ..⟩
  · exact fun ⟨small, rules⟩ => ⟨_, _, _, _, _, _, _, _, _, mkWord_of_flagRules small rules⟩

/-- The word `w` with CHK where `chk` and it has data. -/
def withChk (chk : Bool) (w : Nat) : Nat := w + nat01 (chk && w % 2 = 0) * 2

theorem IsWord.withChk {code : Nat} {ovr ow bal cmp quiet setl nodata : Bool} (chk : Bool) :
    IsWord (withChk chk (mkWord code ovr ow bal cmp quiet setl false nodata)) := by
  refine ⟨code, ovr, ow, bal, cmp, quiet, setl, chk, nodata, ?_⟩
  cases nodata with
  | true => simp [mkWord_nodata, Machine.withChk, nat01]
  | false =>
    have even : (2 ^ 8 * (code % 2 ^ 24) + flagByte ovr ow bal cmp quiet setl false) % 2 = 0 := by
      unfold flagByte nat01
      omega
    rw [mkWord_data, mkWord_data, Machine.withChk, even]
    simp [flagByte, nat01, Nat.add_assoc]

/-! FILTER_OUTPUT (R151, R174, R175): the record it places. -/

section
variable {b c : Block} {codes : List Int} {o : OutDue}

/-- The value of channel `ch` in an output, before the correction of R169. -/
def outValue (codes : List Int) (o : OutDue) (b : Block) (ch : Nat) : Rat := (sincOut b o ch).getD (codes.getD ch 0 : Int)

/-- The words of the cells. -/
def cellWords (codes : List Int) (o : OutDue) (b : Block) : List Nat := (span 1 192).map fun n => cellWord b o n (outValue codes o b (n - 1))

/-- The word of current channel `k` before the channels are compared. -/
def currentOut (codes : List Int) (o : OutDue) (b : Block) (k : Nat) : Nat := currentWord b o k (outValue codes o b (192 + k)) false

/-- The comparison of the current channels is made (R126). -/
def currentsCompared (codes : List Int) (o : OutDue) (b : Block) : Block := plausibility o (currentOut codes o b 0) (currentOut codes o b 1) b

/-- The channels disagree, and the word of the first has data. -/
def currentsApart (codes : List Int) (o : OutDue) (b : Block) : Bool := (currentsCompared codes o b).fe.plBad && currentOut codes o b 0 % 2 = 0

/-- The 194 words of the channels. -/
def frameWords (codes : List Int) (o : OutDue) (b : Block) : List Nat :=
  cellWords codes o b ++ [withChk (currentsApart codes o b) (currentOut codes o b 0), withChk (currentsApart codes o b) (currentOut codes o b 1)]

/-- The block whose output is being formed. -/
def outTaken (b : Block) : Block := { b with fe := { b.fe with outDue := none } }

theorem Spared.countWord {w : Nat} {q : Qual} (h : Spared 0xE000 0xF000 true b c) : Spared 0xE000 0xF000 true b (countWord w q c) :=
  .ite h (.each h fun _ _ _ h => .when h fun _ h => h.count)

theorem Spared.plausibility {w1 w2 : Nat} (h : Spared 0xE000 0xF000 true b c) : Spared 0xE000 0xF000 true b (plausibility o w1 w2 c) :=
  .ite h.other (.ite h.other (.setLevel h.other))

theorem queueRec_recs {r : Rec} (h : c.recs = b.recs) : (queueRec r c).recs = b.recs ++ [r] := congrArg (· ++ [r]) h

theorem ownNode_congr (h : getR c R.CW_STATUS = getR b R.CW_STATUS) : ownNode c = ownNode b := by
  have role : getF c F.CW_STATUS_ROLE_ACT = getF b F.CW_STATUS_ROLE_ACT := getF_of_getR h
  have addr : getF c F.CW_STATUS_ADDR = getF b F.CW_STATUS_ADDR := getF_of_getR h
  unfold ownNode
  rw [role, addr]

theorem ownNode_spared (h : Spared 0xE000 0xF000 true b c) : ownNode c = ownNode b := ownNode_congr h.getR

theorem ownNode_mk (c : Block) {x1 x2 x3 x4 x5 x6 x7 x8 x9 x10 x11 x12 x13 x14 x15 x16 x17 x18 x19 x20 x21 x22 x23 x24 x25 x26 x27 x28} :
    ownNode ⟨c.regs, x1, x2, x3, x4, x5, x6, x7, x8, x9, x10, x11, x12, x13, x14, x15, x16, x17, x18, x19, x20, x21, x22, x23, x24, x25, x26, x27, x28⟩ = ownNode c := rfl

/-- An output that is due brings one record, of its words and two more. -/
theorem filterOutput_places (codes : List Int) (due : b.fe.outDue = some o) :
    ∃ (r : Rec) (x y : Nat), (filterOutput codes b).recs = b.recs ++ [r] ∧ r.typ = 0x01 ∧ r.node = ownNode b ∧ r.payload = (frameWords codes o (outTaken b) ++ [x, y]).map w32 := by
  unfold filterOutput
  rw [due]
  refine ⟨_, ?tiers, ?settings, queueRec_recs ?recs, ?typ, ?node, ?words⟩
  case words => rfl
  case typ => rfl
  case recs => simp
  case node => exact (ownNode_mk _).trans (ownNode_spared (.countWord (.countWord (.each (.plausibility (.other .rfl)) fun _ _ _ h => h.countWord))))

theorem isWord_of_mem {w : Nat} (mem : w ∈ frameWords codes o b) : IsWord w := by
  rcases List.mem_append.mp mem with cell | current
  · obtain ⟨n, -, rfl⟩ := List.mem_map.mp cell
    exact ⟨_, _, _, _, _, _, _, _, _, rfl⟩
  · rcases List.mem_pair.mp current with rfl | rfl
    exacts [.withChk _, .withChk _]

theorem frameWords_length (codes : List Int) (o : OutDue) (b : Block) : (frameWords codes o b).length = 194 := by
  simp [frameWords, cellWords, span]

/-- A channel's word in the payload of a FRAME record. -/
theorem isWord_payload {i : Nat} {x y : Nat} (channel : i < 194) : IsWord (((frameWords codes o b ++ [x, y]).map w32).getD i 0).toNat := by
  have inside : i < (frameWords codes o b).length := by rwa [frameWords_length]
  have word := isWord_of_mem (List.getElem_mem inside)
  rwa [List.map_append, List.getD_append _ _ _ _ (by simpa using inside), List.getD_eq_getElem _ _ (by simpa using inside), List.getElem_map, w32_toNat,
    Nat.mod_eq_of_lt ((isWord_iff _).mp word).1]

/-! The judgement of the last frame (R137, R141) leaves the output that is due. -/

theorem owPostpone_outDue (t j : Nat) (b : Block) : (owPostpone t j b).fe.outDue = b.fe.outDue := by simp [owPostpone]
theorem owHarness_outDue (x : OwTest) (shift8 : Int) (b : Block) : (owHarness x shift8 b).fe.outDue = b.fe.outDue := by
  unfold owHarness
  dsimp only
  split
  · rfl
  · split <;> rfl
theorem spoil_outDue (cs : List Nat) (d : Nat) (b : Block) : (spoil cs d b).fe.outDue = b.fe.outDue := rfl
theorem owJudge_outDue (x : OwTest) (b : Block) : (owJudge x b).fe.outDue = b.fe.outDue := by
  unfold owJudge
  dsimp only
  split
  · exact owPostpone_outDue _ _ _
  · split
    · simp [spoil_outDue]
    · simp [apply_ite Block.fe, apply_ite FrontEnd.outDue, owHarness_outDue]
theorem chkJudge_outDue (p : ChkPend) (b : Block) : (chkJudge p b).fe.outDue = b.fe.outDue := by
  simp [chkJudge, apply_ite FrontEnd.outDue]
theorem owEval_outDue (b : Block) : (owEval b).fe.outDue = b.fe.outDue := by
  unfold owEval
  split
  · split
    · exact each_proj (·.fe.outDue) _ _ _ owJudge_outDue
    · rfl
  · rfl
theorem judgeLast_outDue (b : Block) : (judgeLast b).fe.outDue = b.fe.outDue :=
  (each_proj (·.fe.outDue) _ _ _ chkJudge_outDue).trans (owEval_outDue b)

theorem outputFormed_due (codes : List Int) (due : b.fe.outDue = some o) : outputFormed codes b = filterOutput codes (judgeLast b) := by
  simp [outputFormed, due]

/-- FILTER_OUTPUT where an output is due. -/
theorem outputFormed_places (codes : List Int) (due : b.fe.outDue = some o) : ∃ (r : Rec) (x y : Nat), (outputFormed codes b).recs = b.recs ++ [r] ∧ r.typ = 0x01 ∧
    r.node = ownNode (judgeLast b) ∧ r.payload = (frameWords codes o (outTaken (judgeLast b)) ++ [x, y]).map w32 := by
  obtain ⟨r, x, y, placed, rest⟩ := filterOutput_places codes ((judgeLast_outDue b).trans due)
  refine ⟨r, x, y, ?_, rest⟩
  rw [outputFormed_due codes due, placed]
  simp

theorem exec_filterOutput (codes : List Int) (q : List Instr) (runs : framesRun b = true) :
    exec (.filterOutput codes) ⟨b, q⟩ = .next ⟨outputFormed codes b, q⟩ := by
  simp only [exec, execFilterOutput, run_eq, inFrame_of_framesRun runs]

end

end Sys2Proof.Machine

namespace Sys2Proof
open Machine

/-- Settles O52: the words of a FRAME record are those of `mkWord`, which are exactly the words that keep the rules of R157. -/
theorem wordFlags : Obligations.WordFlags := by
  refine ⟨fun b q codes o runs due => ?_, fun w small nodata quiet ovr => ?_⟩
  · obtain ⟨r, x, y, placed, typ, -, payload⟩ := outputFormed_places codes due
    refine ⟨_, r, exec_filterOutput codes q runs, placed, typ, fun i channel => ?_⟩
    rw [payload]
    obtain ⟨-, nodata, quiet, ovr⟩ := (isWord_iff _).mp (isWord_payload channel)
    exact ⟨fun off => BitVec.eq_of_toNat_eq (nodata off), quiet, ovr⟩
  · exact (isWord_iff w).mpr ⟨small, nodata, quiet, ovr⟩

end Sys2Proof

namespace Sys2Proof.Machine

/-- An output over the reset set. -/
def plainOutput : OutDue :=
  { frame := 4, endDev := 5, set := [], count := 0, n1 := false, n2 := false, pol := false, f0 := 0, settle := 0, quiet := false, quietFrom := 5, notch := [] }

/-- A block in RUN at device frame 5, a follower with Causeway address 1, with an output due. An open-wire test of the frame before waits to be judged for "tap 1265":
there is no such tap, but FE_HRES_MEAS of that number has the offset of CW_STATUS. -/
def strayTest : Block :=
  { pwr := { state := .run, resetHold := false, fwReady := true }
    clock := { ticks := 512 * 5, running := true }
    regs := [(R.CW_STATUS, 0x80100)]
    fe := { outDue := some plainOutput, blocks := [0], owFrame := some 4, owTest := [⟨0, 1265, none, some 1, false⟩], owSum := [(1265, (65535, 0))] } }

theorem ownNode_strayTest : ownNode strayTest = 1 := by decide +kernel

/-- The test passes, its average of 0 lands in CW_STATUS, and the address with it. -/
theorem ownNode_judged_strayTest : ownNode (judgeLast strayTest) = 0 := by decide +kernel

end Sys2Proof.Machine

namespace Sys2Proof
open Machine

/-- Refutes O48: of every block it says too much. FILTER_OUTPUT judges the open-wire tests of the last frame before it forms the record; in `strayTest` that writes a harness
average over the module's Causeway address, so that the record's NODE is 0 and not the 1 the module had. -/
theorem not_tierData : ¬ Obligations.TierData := by
  unfold Obligations.TierData
  intro h
  have runs : framesRun strayTest = true := rfl
  obtain ⟨-, -, -, -, -, output, -⟩ := h strayTest [] runs
  obtain ⟨c, r, next, -, recs, -, -, -, -, -, node, -⟩ := output [] plainOutput rfl
  obtain ⟨r', x, y, placed, -, judged, -⟩ := outputFormed_places (b := strayTest) [] rfl
  rw [exec_filterOutput [] [] runs] at next
  injection next with next
  injection next with formed
  rw [← formed, placed] at recs
  obtain rfl : r' = r := by simpa using recs
  rw [judged, ownNode_strayTest, ownNode_judged_strayTest] at node
  exact absurd node (by decide)

end Sys2Proof

namespace Sys2Proof.Machine

section
variable {b c d : Block}

/-! FE_COMMIT (R162). -/

theorem exec_feCommit (v : Word) (q : List Instr) (on : ready b = true) : exec (.feCommit v) ⟨b, q⟩ = .next ⟨writeFeCommit (v ||| 1) b, q⟩ := by
  simp only [exec, execFeCommit, run_eq, on, if_true]

theorem bitOf_or_one (v : Word) : bitOf (v ||| 1).toNat 0 = true := by
  rw [bitOf_eq_testBit, BitVec.toNat_or, Nat.testBit_or]
  exact Bool.or_true _

theorem writeFeCommit_eq (v : Word) (b : Block) : writeFeCommit (v ||| 1) b = commitAsk (writeBits R.FE_COMMIT (v ||| 1) b) := by
  simp only [writeFeCommit, bitOf_or_one, when_true]

theorem writeFeCommit_regs (v : Word) (b : Block) : writeFeCommit (v ||| 1) b = { b with regs := (writeFeCommit (v ||| 1) b).regs } := by
  rw [writeFeCommit_eq, onlyRegs_writeBits]
  rfl

theorem regsBut_writeFeCommit (v : Word) (b : Block) : RegsBut [R.FE_COMMIT] b (writeFeCommit (v ||| 1) b) := by
  rw [writeFeCommit_eq]
  exact RegsBut.setF (f := F.FE_COMMIT_PENDING) fun a out => getR_writeBits_ne _ b fun same => out (by rw [same]; exact List.mem_cons_self)

/-! The set in force (R162, R163). -/

/-- The registers that show the active set. -/
theorem getR_activeRegs_ne {a : Nat} (b : Block) (out : a ∉ [R.FLT_ACTIVE, R.FLT_SETTLE, R.FLT_QUIET_LEN]) : getR (activeRegs b) a = getR b a := by
  simp only [List.mem_cons, List.not_mem_nil, or_false, not_or] at out
  obtain ⟨active, settle, quiet⟩ := out
  unfold activeRegs putF
  dsimp only
  rw [getR_setR_ne _ _ quiet, getR_setR_ne _ _ settle]
  iterate 6 rw [getR_setF_ne _ _ _ active]

/-- The rate and order of the active set in FLT_ACTIVE. -/
def rateShown (b : Block) : Block := setF F.FLT_ACTIVE_RATE (actF b F.FLT_CTL_RATE) (setF F.FLT_ACTIVE_ORDER (actF b F.FLT_CTL_ORDER) b)

theorem activeRegs_fe (b : Block) : (activeRegs b).fe = b.fe := rfl
theorem activeRegs_act (b : Block) : (activeRegs b).act = b.act := rfl
theorem activeRegs_clock (b : Block) : (activeRegs b).clock = b.clock := rfl

/-- Beside the notches' bits 16 to 19, FLT_ACTIVE shows rate and order alone. -/
theorem getF_activeRegs {f : Fld} (b : Block) (reg : f.reg = R.FLT_ACTIVE) (beside : f.lo + f.len ≤ 16 ∨ 20 ≤ f.lo) : getF (activeRegs b) f = getF (rateShown b) f := by
  have flag : ∀ (i v : Nat) (c : Block), 16 ≤ i → i < 20 → getF (setF ⟨R.FLT_ACTIVE, i, 1⟩ v c) f = getF c f := fun i v c low high =>
    getF_setF_beside ⟨R.FLT_ACTIVE, i, 1⟩ f v c (by dsimp only; omega) reg (by dsimp only; omega)
  unfold activeRegs putF
  dsimp only [F.FLT_ACTIVE_N1_ON, F.FLT_ACTIVE_N2_ON, F.FLT_ACTIVE_N1_POL, F.FLT_ACTIVE_N2_POL]
  rw [getF_setR_ne _ _ _ _ (by rw [reg]; decide), getF_setR_ne _ _ _ _ (by rw [reg]; decide), flag 18 _ _ (by decide) (by decide), flag 19 _ _ (by decide) (by decide),
    flag 16 _ _ (by decide) (by decide), flag 17 _ _ (by decide) (by decide)]
  rfl

theorem rate_activeRegs (b : Block) : getF (activeRegs b) F.FLT_ACTIVE_RATE = actF b F.FLT_CTL_RATE :=
  calc getF (activeRegs b) F.FLT_ACTIVE_RATE = getF (rateShown b) F.FLT_ACTIVE_RATE := getF_activeRegs b rfl (by decide)
    _ = actF b F.FLT_CTL_RATE % 2 ^ 4 := getF_setF F.FLT_ACTIVE_RATE _ _ (by decide)
    _ = actF b F.FLT_CTL_RATE := Nat.mod_eq_of_lt (bitsOf_lt _ _ _)

theorem order_activeRegs (b : Block) : getF (activeRegs b) F.FLT_ACTIVE_ORDER = actF b F.FLT_CTL_ORDER :=
  calc getF (activeRegs b) F.FLT_ACTIVE_ORDER = getF (rateShown b) F.FLT_ACTIVE_ORDER := getF_activeRegs b rfl (by decide)
    _ = getF (setF F.FLT_ACTIVE_ORDER (actF b F.FLT_CTL_ORDER) b) F.FLT_ACTIVE_ORDER := getF_setF_at F.FLT_ACTIVE_RATE F.FLT_ACTIVE_ORDER _ _
    _ = actF b F.FLT_CTL_ORDER % 2 ^ 3 := getF_setF F.FLT_ACTIVE_ORDER _ _ (by decide)
    _ = actF b F.FLT_CTL_ORDER := Nat.mod_eq_of_lt (bitsOf_lt _ _ _)

theorem count_activeRegs (b : Block) : getF (activeRegs b) F.FLT_ACTIVE_COMMIT_CNT = getF b F.FLT_ACTIVE_COMMIT_CNT :=
  calc getF (activeRegs b) F.FLT_ACTIVE_COMMIT_CNT = getF (rateShown b) F.FLT_ACTIVE_COMMIT_CNT := getF_activeRegs b rfl (by decide)
    _ = getF (setF F.FLT_ACTIVE_ORDER (actF b F.FLT_CTL_ORDER) b) F.FLT_ACTIVE_COMMIT_CNT := getF_setF_at F.FLT_ACTIVE_RATE F.FLT_ACTIVE_COMMIT_CNT _ _
    _ = getF b F.FLT_ACTIVE_COMMIT_CNT := getF_setF_at F.FLT_ACTIVE_ORDER F.FLT_ACTIVE_COMMIT_CNT _ _

/-! A consistent set takes effect (R124, R161, R163). -/

/-- From `b` to `c` the registers of FE and FLT, the active set and the tick of the last setting stay. -/
def SetKept (b c : Block) : Prop := Spared 0x8000 0xB000 true b c ∧ c.act = b.act ∧ c.fe.settingAt = b.fe.settingAt

theorem SetKept.rfl : SetKept b b := ⟨.rfl, Eq.refl _, Eq.refl _⟩
theorem SetKept.trans (h : SetKept b c) (k : SetKept c d) : SetKept b d := by
  obtain ⟨regs, act, tick⟩ := h
  obtain ⟨regs', act', tick'⟩ := k
  exact ⟨regs.trans regs', act'.trans act, tick'.trans tick⟩
theorem SetKept.ite {p : Prop} [Decidable p] {x y : Block} (hx : SetKept b x) (hy : SetKept b y) : SetKept b (if p then x else y) := by
  split
  exacts [hx, hy]
theorem SetKept.when {p : Bool} {f : Block → Block} (h : SetKept b c) (hf : ∀ c, SetKept b c → SetKept b (f c)) : SetKept b (when p f c) := .ite (hf c h) h
theorem SetKept.each {α : Type} {l : List α} {f : α → Block → Block} (h : SetKept b c) (hf : ∀ x c, SetKept b c → SetKept b (f x c)) : SetKept b (each l f c) :=
  each_keeps h fun x _ c k => hf x c k

/-- A change of the front end that leaves the tick of the last setting. -/
theorem SetKept.fe {x : FrontEnd} (h : SetKept b c) (same : x.settingAt = c.fe.settingAt) : SetKept b { c with fe := x } :=
  h.trans ⟨.other .rfl, Eq.refl _, same⟩
theorem SetKept.imp {x : Impedance} (h : SetKept b c) : SetKept b { c with imp := x } := h.trans ⟨.other .rfl, Eq.refl _, Eq.refl _⟩
theorem SetKept.fen {x : Fen} (h : SetKept b c) : SetKept b { c with fen := x } := h.trans ⟨.other .rfl, Eq.refl _, Eq.refl _⟩
theorem SetKept.pol {x : Policy} (h : SetKept b c) : SetKept b { c with pol := x } := h.trans ⟨.other .rfl, Eq.refl _, Eq.refl _⟩
theorem SetKept.setF {f : Fld} {v : Nat} (h : SetKept b c) (out : f.reg < 0x8000 ∨ 0xB000 ≤ f.reg := by decide) : SetKept b (setF f v c) :=
  h.trans ⟨.setF .rfl out, Eq.refl _, Eq.refl _⟩
theorem SetKept.addF {f : Fld} {n : Nat} (h : SetKept b c) (out : f.reg < 0x8000 ∨ 0xB000 ≤ f.reg := by decide) : SetKept b (addF f n c) := h.setF out
theorem SetKept.putCond {i : Nat} {x : SrcCond} (h : SetKept b c) : SetKept b (putCond i x c) := h.trans ⟨.putCond .rfl, Eq.refl _, Eq.refl _⟩
theorem SetKept.levelBit {i k : Nat} {on : Bool} (h : SetKept b c) : SetKept b (levelBit i k on c) := h.putCond
theorem SetKept.setLevel {i det : Nat} {on : Bool} (h : SetKept b c) : SetKept b (setLevel i on det c) := h.putCond
theorem SetKept.pulse {i det : Nat} (h : SetKept b c) : SetKept b (pulse i det c) := h.putCond
theorem SetKept.finish {q status detail r0 r1 : Nat} (h : SetKept b c) : SetKept b (finish q status detail r0 r1 c) := h.trans ⟨.finish .rfl, by simp, by simp⟩
theorem SetKept.finishAll {p : CmdWait → Bool} {f : Nat → Block → Block} (h : SetKept b c) (hf : ∀ q c, SetKept b c → SetKept b (f q c)) : SetKept b (finishAll p f c) := by
  refine h.each fun q c h => ?_
  split
  · exact .ite (hf q c h) h
  · exact h
theorem SetKept.addSetl {x : Setl} (h : SetKept b c) : SetKept b (addSetl x c) := h.fe (Eq.refl _)
theorem SetKept.setlNow {lo hi : Nat} {filter : Bool} (h : SetKept b c) : SetKept b (setlNow lo hi filter c) := .addSetl (h.when fun _ h => h.fe (Eq.refl _))
theorem SetKept.sweepEnd {w : Sweep} {result : Nat} (h : SetKept b c) : SetKept b (sweepEnd w result c) := by
  unfold Machine.sweepEnd
  exact .finishAll (.when h.imp fun _ h => h.pulse) fun _ _ h => h.finish
theorem SetKept.sweepAbort {result : Nat} (h : SetKept b c) : SetKept b (sweepAbort result c) := by
  unfold Machine.sweepAbort
  split
  exacts [h, h.imp.sweepEnd]
theorem SetKept.abandonRebuild (h : SetKept b c) : SetKept b (abandonRebuild c) := .when (.when h fun _ h => h.setF) fun _ h => h.addF.setF
theorem SetKept.noImage (h : SetKept b c) : SetKept b (noImage c) := .setF (.fen (.when h fun _ h => .setLevel (.pol h.abandonRebuild)))
theorem SetKept.cancelSwap {result : Nat} (h : SetKept b c) : SetKept b (cancelSwap result c) :=
  .ite h.fen (.setF (.setF (.setF (f := F.FEN_IMG_STATUS_STATE) (.when h.fen fun _ h => h.noImage.setF))))
theorem SetKept.imageInvalid (h : SetKept b c) : SetKept b (imageInvalid c) := h.cancelSwap.when fun _ h => h.noImage
theorem SetKept.cellEnChange {old : List (Nat × Word)} (h : SetKept b c) : SetKept b (cellEnChange old c) :=
  .ite h (.imageInvalid (.sweepAbort (.each (h.fe (Eq.refl _)) fun _ _ h => h.setlNow.levelBit)))
theorem SetKept.spoilAll {used : Sweep → Bool} (h : SetKept b c) : SetKept b (spoilAll used c) := h.imp

/-- The set `s` in force and counted, before what follows from its differences to the set before. -/
def setInForce (s : List (Nat × Word)) (b : Block) : Block :=
  activeRegs (incF F.FLT_ACTIVE_COMMIT_CNT { b with act := s, fe := { b.fe with settingAt := some (devF b) } })

theorem setKept_applySet2 (s : List (Nat × Word)) (b : Block) : SetKept (setInForce s b) (applySet2 s b) :=
  .when (.when (.spoilAll (.when (.when (.cellEnChange (.when (.when .rfl fun _ h => h.setlNow) fun _ h => h.fe (Eq.refl _))) fun _ h => h.setlNow) fun _ h => h.setlNow))
    fun _ h => h.setLevel) fun _ h => h.fe (Eq.refl _)

theorem SetKept.regs (h : SetKept b c) {a : Nat} (low : 0x8000 ≤ a := by decide) (high : a < 0xB000 := by decide) : getR c a = getR b a := by
  obtain ⟨spared, -⟩ := h
  exact spared.getR low high

/-! MEASUREMENT_COMMIT_APPLY (R163 to R165). -/

/-- From `b` to `c` the host's rings alone change. -/
def HstOnly (b c : Block) : Prop := c = { b with hst := c.hst }

theorem HstOnly.finish {q status detail r0 r1 : Nat} (h : HstOnly b c) : HstOnly b (finish q status detail r0 r1 c) :=
  Eq.trans (finish_hst q status detail r0 r1 c) (by rw [show c = _ from h])
theorem HstOnly.finishAll {p : CmdWait → Bool} {f : Nat → Block → Block} (h : HstOnly b c) (hf : ∀ q c, HstOnly b c → HstOnly b (f q c)) :
    HstOnly b (finishAll p f c) := by
  refine each_keeps h fun q _ c h => ?_
  split
  · split
    exacts [hf q c h, h]
  · exact h

theorem HstOnly.regs (h : HstOnly b c) : c.regs = b.regs := by rw [show c = _ from h]
theorem HstOnly.act (h : HstOnly b c) : c.act = b.act := by rw [show c = _ from h]
theorem HstOnly.fe (h : HstOnly b c) : c.fe = b.fe := by rw [show c = _ from h]
theorem HstOnly.sl (h : HstOnly b c) : c.sl = b.sl := by rw [show c = _ from h]

/-- Commands that wait for the tick complete: the rings alone change. -/
theorem hstOnly_cfgWriteDone (rejected : Bool) (b : Block) : HstOnly b (cfgWriteDone rejected b) := by
  unfold cfgWriteDone
  refine .finishAll (.finishAll (Eq.refl b) fun q c h => ?_) fun _ _ h => h.finish
  split
  exacts [h.finish, h.finish]

/-- The block with the request for a commit taken. -/
def commitTaken (b : Block) : Block := setF F.FE_COMMIT_PENDING 0 b

/-- The causes `rej` published with CFG_REJ set. -/
def causesShown (rej : Nat) (b : Block) : Block := setF F.FE_COMMIT_CFG_REJ 1 (setR R.FLT_REJ (w32 rej) b)

/-- The shadow set refused for the causes `rej`. -/
def commitRefused (rej : Nat) (b : Block) : Block := event 0x11 0 0 rej 0 (causesShown rej b)

theorem commitApply_idle (idle : isF b F.FE_COMMIT_PENDING = false) : commitApply b = cfgWriteDone false b := by
  simp [commitApply, idle]

theorem commitApply_applied (asked : isF b F.FE_COMMIT_PENDING = true) (fine : rejCauses (commitTaken b) (shadowSet (commitTaken b)) = 0) :
    commitApply b = cfgWriteDone false (applySet2 (shadowSet (commitTaken b)) (commitTaken b)) := by
  rw [commitTaken] at fine ⊢
  simp [commitApply, asked, fine]

theorem commitApply_refused (asked : isF b F.FE_COMMIT_PENDING = true) (bad : rejCauses (commitTaken b) (shadowSet (commitTaken b)) ≠ 0) :
    commitApply b = cfgWriteDone true (commitRefused (rejCauses (commitTaken b) (shadowSet (commitTaken b))) (commitTaken b)) := by
  rw [commitTaken] at bad ⊢
  simp [commitApply, asked, bad, commitRefused, causesShown]

theorem getR_setInForce_ne {a : Nat} (s : List (Nat × Word)) (b : Block) (out : a ∉ [R.FLT_ACTIVE, R.FLT_SETTLE, R.FLT_QUIET_LEN]) :
    getR (setInForce s b) a = getR b a :=
  (getR_activeRegs_ne _ out).trans (getR_setF_ne F.FLT_ACTIVE_COMMIT_CNT _ _ fun same => out (by rw [same]; exact List.mem_cons_self))

theorem count_setInForce (s : List (Nat × Word)) (b : Block) :
    getF (setInForce s b) F.FLT_ACTIVE_COMMIT_CNT = (getF b F.FLT_ACTIVE_COMMIT_CNT + 1) % 256 :=
  (count_activeRegs _).trans (getF_setF F.FLT_ACTIVE_COMMIT_CNT _ _ (by decide))

theorem exec_measurementCommitApply (q : List Instr) (runs : framesRun b = true) : exec .measurementCommitApply ⟨b, q⟩ = .next ⟨commitApply b, q⟩ := by
  simp only [exec, execMeasurementCommitApply, run_eq, runs, if_true]

/-! POLICY_NOTCH_PLACEMENT (R168). -/

theorem exec_policyNotchPlacement (q : List Instr) (runs : framesRun b = true) : exec .policyNotchPlacement ⟨b, q⟩ = .next ⟨notchPlace b, q⟩ := by
  simp only [exec, execPolicyNotchPlacement, run_eq, runs, if_true]

/-- The block with no placement due. -/
def notchTaken (b : Block) : Block := { b with fe := { b.fe with notchDue := [] } }

/-- The policy's notch `k` placed or withdrawn. -/
def notchPlaced (k : Nat) (p : Option (Nat × Nat)) (b : Block) : Block :=
  match p with
  | some (f0, q) => setF (F.FLT_NOTCH_POL_ACTIVE k) 1 (setF (F.FLT_NOTCH_POL_F0 k) f0 (setF (F.FLT_NOTCH_POL_Q k) q b))
  | none => setR (R.FLT_NOTCH_POL k) 0 b

/-- The path of every channel changes at this tick. -/
def pathSet (b : Block) : Block := setlNow 0 193 true { b with fe := { b.fe with settingAt := some (devF b) } }

section
variable {k : Nat} {p : Option (Nat × Nat)}

theorem notchPlace_source (due : b.fe.notchDue = [(k, p)]) (source : actF b (F.FLT_NOTCH_SRC k) = 1) :
    notchPlace b = pathSet (activeRegs (notchPlaced k p (notchTaken b))) := by
  simp only [notchPlace, due, source, List.any_cons, List.filter_cons, beq_self_eq_true, Bool.or_true, Bool.true_or, if_true, List.isEmpty_cons]
  rfl

theorem notchPlace_withdrawn (due : b.fe.notchDue = [(k, none)]) (other : actF b (F.FLT_NOTCH_SRC k) ≠ 1) :
    notchPlace b = activeRegs (notchPlaced k none (notchTaken b)) := by
  have off : (actF b (F.FLT_NOTCH_SRC k) == 1) = false := beq_eq_false_iff_ne.mpr other
  simp only [notchPlace, due, off, List.any_cons, List.any_nil, List.filter_cons, List.filter_nil, Option.isNone_none, Bool.or_false, if_true, List.isEmpty_cons]
  rfl

theorem notchPlace_dropped (due : b.fe.notchDue = [(k, p)]) (other : actF b (F.FLT_NOTCH_SRC k) ≠ 1) (placed : p ≠ none) : notchPlace b = notchTaken b := by
  simp [notchPlace, due, other, placed, notchTaken]

/-- What FLT_NOTCH_POL[k] shows of a placement or a withdrawal. -/
theorem notchPlaced_shows (k : Nat) (p : Option (Nat × Nat)) (b : Block) : getF (notchPlaced k p b) (F.FLT_NOTCH_POL_ACTIVE k) = nat01 p.isSome ∧
    getF (notchPlaced k p b) (F.FLT_NOTCH_POL_F0 k) = p.elim 0 (·.1) % 2 ^ 16 ∧ getF (notchPlaced k p b) (F.FLT_NOTCH_POL_Q k) = p.elim 0 (·.2) % 2 ^ 8 := by
  have le {m n : Nat} (h : Nat.ble m n = true) : m ≤ n := Nat.le_of_ble_eq_true h
  cases p with
  | none =>
    have zero : ∀ lo len, bitsOf (0 : Word).toNat lo len = 0 := fun lo len => by simp [bitsOf]
    exact ⟨(getF_setR (F.FLT_NOTCH_POL_ACTIVE k) 0 b).trans (zero _ _), (getF_setR (F.FLT_NOTCH_POL_F0 k) 0 b).trans (zero _ _),
      (getF_setR (F.FLT_NOTCH_POL_Q k) 0 b).trans (zero _ _)⟩
  | some x =>
    obtain ⟨f0, q⟩ := x
    have active := fun g d e => getF_setF_beside (F.FLT_NOTCH_POL_ACTIVE k) g 1 (setF (F.FLT_NOTCH_POL_F0 k) f0 (setF (F.FLT_NOTCH_POL_Q k) q b)) (le rfl) d e
    refine ⟨getF_setF _ _ _ (le rfl), ?_, ?_⟩
    · exact (active (F.FLT_NOTCH_POL_F0 k) rfl (.inl (le rfl))).trans (getF_setF _ _ _ (le rfl))
    · refine (active (F.FLT_NOTCH_POL_Q k) rfl (.inl (le rfl))).trans ?_
      rw [getF_setF_beside (F.FLT_NOTCH_POL_F0 k) (F.FLT_NOTCH_POL_Q k) _ _ (le rfl) rfl (.inr (le rfl))]
      exact getF_setF _ _ _ (le rfl)

theorem getR_notchPlaced_ne {a : Nat} (p : Option (Nat × Nat)) (b : Block) (other : a ≠ R.FLT_NOTCH_POL k) : getR (notchPlaced k p b) a = getR b a := by
  cases p with
  | none => exact getR_setR_ne _ _ other
  | some x =>
    refine (getR_setF_ne (F.FLT_NOTCH_POL_ACTIVE k) _ _ other).trans ?_
    exact (getR_setF_ne (F.FLT_NOTCH_POL_F0 k) _ _ other).trans (getR_setF_ne (F.FLT_NOTCH_POL_Q k) _ _ other)

/-- The placements' registers lie beside those that show the active set. -/
theorem getR_activeRegs_pol {j : Nat} (b : Block) (notch : j = 1 ∨ j = 2) : getR (activeRegs b) (R.FLT_NOTCH_POL j) = getR b (R.FLT_NOTCH_POL j) := by
  refine getR_activeRegs_ne b ?_
  rcases notch with rfl | rfl <;> decide

theorem notchPlaced_fe (k : Nat) (p : Option (Nat × Nat)) (b : Block) : (notchPlaced k p b).fe = b.fe := by
  cases p <;> rfl
theorem notchPlaced_clock (k : Nat) (p : Option (Nat × Nat)) (b : Block) : (notchPlaced k p b).clock = b.clock := by
  cases p <;> rfl
theorem notchPlaced_act (k : Nat) (p : Option (Nat × Nat)) (b : Block) : (notchPlaced k p b).act = b.act := by
  cases p <;> rfl
end

/-- A settling time is never 0: the first stage alone takes 31.25 µs (R149, R152). -/
theorem settleUp_pos (b : Block) (set : List (Nat × Word)) : 0 < settleUp b set := by
  have notch : ∀ n, 0 ≤ notchNs n := fun n => by
    unfold notchNs
    split
    · positivity
    · exact le_rfl
  have first : (0 : Rat) < ((fieldIn set F.FLT_CTL_ORDER * periodNs set + 31250 : Nat) : Rat) := by exact_mod_cast Nat.succ_pos _
  have settle : 0 < settleNs b set := by
    unfold settleNs
    have n1 := notch (notchOf b set 1)
    have n2 := notch (notchOf b set 2)
    linarith
  have up : 0 < (settleNs b set).ceil := Rat.lt_ceil_iff.mpr settle
  unfold settleUp
  omega

/-! The gates (R304). -/

/-- From `b` to `c` counters and the gates' records of the cells change at most. -/
def GateOnly (b c : Block) : Prop :=
  c = { b with regs := c.regs, bal := { b.bal with cells := c.bal.cells, prior := c.bal.prior } } ∧ ∀ a, a < 0x7000 ∨ 0x8000 ≤ a → getR c a = getR b a

/-- What a gate's wish depends on, beside the cell's own record, are the frame and the causes that hold the FETs off. -/
theorem gateWanted_congr {n : Nat} (h : GateOnly b c) (same : balOf c n = balOf b n) : gateWanted c n = gateWanted b n := by
  obtain ⟨eq, regs⟩ := h
  have number : frame c = frame b := by
    have lo := regs R.CW_FRAME_OFS_LO (by decide)
    have hi : getF c F.CW_FRAME_OFS_HI_OFS_HI = getF b F.CW_FRAME_OFS_HI_OFS_HI := getF_of_getR (regs R.CW_FRAME_OFS_HI (by decide))
    unfold frame frameOfs
    rw [lo, hi, show c.clock = b.clock by rw [eq]]
  have failed : getF c F.BIST_FAILED_TIERS = getF b F.BIST_FAILED_TIERS := getF_of_getR (regs R.BIST_FAILED (by decide))
  have shut : fetsShut c (tierOf n) = fetsShut b (tierOf n) := by
    unfold fetsShut tierBist
    rw [failed, eq]
  have slot : slotNo c = slotNo b := by
    unfold slotNo
    rw [number]
  have there : present c n = present b n := by
    rw [eq]
    rfl
  have wave : waveNow c = waveNow b := by
    rw [eq]
    rfl
  have quiet : quietNow c = quietNow b := by
    rw [eq]
    rfl
  have mode : c.bal.mode = b.bal.mode := by rw [eq]
  have forced : c.bal.forced = b.bal.forced := by rw [eq]
  have stuck : c.bal.local_ = b.bal.local_ := by rw [eq]
  have lost : c.bal.lost = b.bal.lost := by rw [eq]
  unfold gateWanted
  simp only [same, shut, slot, there, wave, quiet, mode, forced, stuck, lost]

theorem GateOnly.rfl : GateOnly b b := ⟨Eq.refl b, fun _ _ => Eq.refl _⟩
theorem GateOnly.trans (h : GateOnly b c) (k : GateOnly c d) : GateOnly b d := by
  obtain ⟨eq, regs⟩ := h
  obtain ⟨eq', regs'⟩ := k
  exact ⟨Eq.trans eq' (by rw [eq]), fun a out => (regs' a out).trans (regs a out)⟩
/-- Counting changes the counters' registers alone. -/
theorem count_onlyRegs (code n : Nat) (q : Qual) (b : Block) : count code n q b = { b with regs := (count code n q b).regs } := by
  have only : RegsCond b (count code n q b) := .count .rfl
  have sl : (count code n q b).sl = b.sl := by simp
  unfold RegsCond at only
  rw [sl] at only
  exact only
theorem GateOnly.count {code n : Nat} {q : Qual} (h : GateOnly b c) : GateOnly b (count code n q c) := by
  refine h.trans ⟨?_, fun a out => ?_⟩
  · have bal : (Machine.count code n q c).bal = c.bal := by simp
    rw [bal]
    exact count_onlyRegs code n q c
  · rcases out with low | high
    · exact (Spared.count (lo := 0) (hi := 0x7000) (still := true) .rfl).getR (Nat.zero_le a) low
    · exact (Spared.count (lo := 0x8000) (hi := a + 1) (still := true) .rfl (.inl (by decide))).getR high (Nat.lt_succ_self a)
theorem GateOnly.putBal {n : Nat} {x : BalCell} (h : GateOnly b c) : GateOnly b (putBal n x c) := h.trans ⟨Eq.refl _, fun _ _ => Eq.refl _⟩
theorem GateOnly.prior {l : List (Nat × BalCell)} (h : GateOnly b c) : GateOnly b { c with bal := { c.bal with prior := l } } := h.trans ⟨Eq.refl _, fun _ _ => Eq.refl _⟩
theorem GateOnly.putGate {n : Nat} {x : BalCell} (h : GateOnly b c) : GateOnly b (putGate n x c) := by
  refine GateOnly.putBal ?_
  unfold when
  split
  exacts [h.count, h]

theorem balOf_putBal (n m : Nat) (x : BalCell) (b : Block) : balOf (putBal n x b) m = if m = n then x else balOf b m := mapGet_mapPut _ _ _ _ _

/-- The record of a gate that is set: its command and the cell's timer, duty, target and charge are those given. -/
theorem balOf_putGate (n : Nat) (x : BalCell) (b : Block) : (balOf (putGate n x b) n).cmdOn = x.cmdOn ∧
    bleedOf (putGate n x b) n = (x.timer, x.duty, x.target, x.charge) := by
  unfold putGate bleedOf
  dsimp only
  rw [balOf_putBal, if_pos rfl]
  split
  · exact ⟨rfl, rfl⟩
  · split <;> exact ⟨rfl, rfl⟩

theorem balOf_putGate_ne {n m : Nat} (x : BalCell) (b : Block) (other : m ≠ n) : balOf (putGate n x b) m = balOf b m := by
  unfold putGate
  dsimp only
  rw [balOf_putBal, if_neg other]
  unfold balOf
  simp

/-- The gate of cell `n` is set (action 8 of R304). -/
def gateTurn (n : Nat) (b : Block) : Block :=
  let g := gateWanted b n
  if (balOf b n).cmdOn = g ∧ !(balOf b n).fresh then b else
  putGate n { balOf b n with cmdOn := g, fresh := false }
    (if (balOf b n).cmdOn = g || b.bal.prior.any (·.1 == n) then b else { b with bal := { b.bal with prior := b.bal.prior ++ [(n, balOf b n)] } })

/-- The block with no slot owed. -/
def slotDone (b : Block) : Block := { b with clock := { b.clock with slotOwed := false } }

theorem balGates_eq (b : Block) : balGates b = each (balCells b) gateTurn (slotDone b) := rfl

theorem gateOnly_gateTurn (n : Nat) (b : Block) : GateOnly b (gateTurn n b) := by
  unfold gateTurn
  dsimp only
  split
  · exact .rfl
  · refine .putGate ?_
    split
    exacts [.rfl, .prior .rfl]

theorem balOf_gateTurn_ne {n m : Nat} (b : Block) (other : m ≠ n) : balOf (gateTurn n b) m = balOf b m := by
  unfold gateTurn
  dsimp only
  split
  · rfl
  · rw [balOf_putGate_ne _ _ other]
    split <;> rfl

/-- A gate follows its wish, and the cell's balancing stays. -/
theorem gate_gateTurn (n : Nat) (b : Block) : (balOf (gateTurn n b) n).cmdOn = gateWanted b n ∧ bleedOf (gateTurn n b) n = bleedOf b n := by
  unfold gateTurn
  dsimp only
  split
  next done =>
    obtain ⟨on, -⟩ := done
    exact ⟨on, rfl⟩
  next => exact balOf_putGate n _ _

theorem mem_span {lo hi n : Nat} : n ∈ span lo hi ↔ lo ≤ n ∧ n ≤ hi := by
  unfold span
  simp only [List.mem_map, List.mem_range]
  constructor
  · rintro ⟨i, inside, rfl⟩
    omega
  · exact fun ⟨low, high⟩ => ⟨n - lo, by omega, by omega⟩

theorem nodup_balCells (b : Block) : (balCells b).Nodup :=
  .filter _ (List.Nodup.map (fun _ _ same => Nat.add_left_cancel same) List.nodup_range)

/-- A cell without a record has never been ordered to bleed. -/
theorem balOf_of_not_mem {n : Nat} (low : 1 ≤ n) (high : n ≤ 192) (none : n ∉ balCells b) : balOf b n = {} := by
  by_contra ordered
  obtain ⟨x, mem, same⟩ := exists_key_of_mapGet_ne (d := fun _ => ({} : BalCell)) (m := b.bal.cells) (k := n) ordered
  exact none (List.mem_filter.mpr ⟨mem_span.mpr ⟨low, high⟩, List.any_eq_true.mpr ⟨x, mem, beq_iff_eq.mpr same⟩⟩)

theorem gateWanted_of_plain {n : Nat} (plain : balOf b n = {}) : gateWanted b n = false := by
  simp [gateWanted, plain]

/-- Each gate follows its wish, and no cell's balancing changes. -/
theorem balGates_gate (b : Block) {n : Nat} (low : 1 ≤ n) (high : n ≤ 192) :
    (balOf (balGates b) n).cmdOn = gateWanted b n ∧ bleedOf (balGates b) n = bleedOf b n := by
  have kept : GateOnly (slotDone b) (slotDone b) ∧ balOf (slotDone b) n = balOf b n := ⟨.rfl, rfl⟩
  rw [balGates_eq]
  by_cases mem : n ∈ balCells b
  · refine each_turn (R := (· ≠ ·)) (f := gateTurn) (P := fun c => GateOnly (slotDone b) c ∧ balOf c n = balOf b n)
      (Q := fun c => (balOf c n).cmdOn = gateWanted b n ∧ bleedOf c n = bleedOf b n) mem (nodup_balCells b) kept (fun m _ other c ⟨only, same⟩ => ?_)
      (fun c ⟨only, same⟩ => ?_) fun m _ other c ⟨on, bleed⟩ => ?_
    · exact ⟨only.trans (gateOnly_gateTurn m c), (balOf_gateTurn_ne c other.symm).trans same⟩
    · obtain ⟨on, bleed⟩ := gate_gateTurn n c
      exact ⟨on.trans (gateWanted_congr (b := slotDone b) only same), bleed.trans (by unfold bleedOf; rw [same])⟩
    · have same := balOf_gateTurn_ne c other
      exact ⟨(congrArg BalCell.cmdOn same).trans on, (by unfold bleedOf; rw [same] : bleedOf (gateTurn m c) n = bleedOf c n).trans bleed⟩
  · have same : balOf (each (balCells b) gateTurn (slotDone b)) n = balOf b n :=
      each_keeps (P := fun c => balOf c n = balOf b n) rfl fun m there c same => (balOf_gateTurn_ne c fun eq => mem (by rw [eq]; exact there)).trans same
    have plain := balOf_of_not_mem low high mem
    unfold bleedOf
    rw [same, gateWanted_of_plain plain, plain]
    exact ⟨rfl, rfl⟩

theorem balGates_fe (b : Block) : (balGates b).fe = b.fe :=
  each_proj Block.fe _ gateTurn _ fun n c => by
    obtain ⟨only, -⟩ := gateOnly_gateTurn n c
    rw [only]

/-! What a commit and a placement show. -/

theorem getR_pathSet (a : Nat) (b : Block) : getR (pathSet b) a = getR b a := rfl
theorem pathSet_notchDue (b : Block) : (pathSet b).fe.notchDue = b.fe.notchDue := rfl
theorem pathSet_clock (b : Block) : (pathSet b).clock = b.clock := rfl

/-- The tick of a change of path, before the channels settle. -/
def pathFrom (b : Block) : Block := { b with fe := { b.fe with settingAt := some (devF b), filtFrom := devF b } }

theorem pathSet_eq (b : Block) : pathSet b = addSetl ⟨0, 193, nowNs b, nowNs b + settleUp (pathFrom b) b.act, true⟩ (pathFrom b) := rfl

/-- The change of path holds from this tick, and every channel settles. -/
theorem pathSet_settles (b : Block) : (pathSet b).fe.filtFrom = devF b ∧
    ∃ s ∈ (pathSet b).fe.setl, s.lo = 0 ∧ s.hi = 193 ∧ s.filter = true ∧ s.after ≤ nowNs b ∧ nowNs b < s.until_ := by
  refine ⟨rfl, ?_⟩
  obtain ⟨s, mem, lo, hi, filter, after, upto⟩ := settles_addSetl ⟨0, 193, nowNs b, nowNs b + settleUp (pathFrom b) b.act, true⟩ (pathFrom b)
  have long := settleUp_pos (pathFrom b) b.act
  rw [pathSet_eq]
  exact ⟨s, mem, lo, hi, filter, after, Nat.lt_of_lt_of_le (Nat.lt_add_of_pos_right long) upto⟩

section
variable {k : Nat} {p : Option (Nat × Nat)}

/-- A placement or withdrawal of a notch whose source is the policy takes effect. -/
theorem notchPlace_places (notch : k = 1 ∨ k = 2) (due : b.fe.notchDue = [(k, p)]) (source : actF b (F.FLT_NOTCH_SRC k) = 1) :
    getF (notchPlace b) (F.FLT_NOTCH_POL_ACTIVE k) = nat01 p.isSome ∧ getF (notchPlace b) (F.FLT_NOTCH_POL_F0 k) = p.elim 0 (·.1) % 2 ^ 16 ∧
      getF (notchPlace b) (F.FLT_NOTCH_POL_Q k) = p.elim 0 (·.2) % 2 ^ 8 ∧ (notchPlace b).fe.filtFrom = devF b ∧
      getR (notchPlace b) (R.FLT_NOTCH_POL (3 - k)) = getR b (R.FLT_NOTCH_POL (3 - k)) ∧
      ∃ s ∈ (notchPlace b).fe.setl, s.lo = 0 ∧ s.hi = 193 ∧ s.filter = true ∧ s.after ≤ nowNs b ∧ nowNs b < s.until_ := by
  have clock : (activeRegs (notchPlaced k p (notchTaken b))).clock = b.clock := (activeRegs_clock _).trans (notchPlaced_clock k p _)
  have settles := pathSet_settles (activeRegs (notchPlaced k p (notchTaken b)))
  have tick : devF (activeRegs (notchPlaced k p (notchTaken b))) = devF b := by unfold devF; rw [clock]
  rw [nowNs_congr clock, tick] at settles
  obtain ⟨from_, settle⟩ := settles
  obtain ⟨active, f0, sharp⟩ := notchPlaced_shows k p (notchTaken b)
  have own : getR (pathSet (activeRegs (notchPlaced k p (notchTaken b)))) (R.FLT_NOTCH_POL k) = getR (notchPlaced k p (notchTaken b)) (R.FLT_NOTCH_POL k) :=
    (getR_pathSet _ _).trans (getR_activeRegs_pol _ notch)
  have other : getR (activeRegs (notchPlaced k p (notchTaken b))) (R.FLT_NOTCH_POL (3 - k)) = getR b (R.FLT_NOTCH_POL (3 - k)) := by
    have beside : 3 - k = 1 ∨ 3 - k = 2 := by omega
    refine (getR_activeRegs_pol _ beside).trans (getR_notchPlaced_ne p _ ?_)
    rcases notch with rfl | rfl <;> decide
  rw [notchPlace_source due source, getR_pathSet]
  exact ⟨(getF_of_getR (f := F.FLT_NOTCH_POL_ACTIVE k) own).trans active, (getF_of_getR (f := F.FLT_NOTCH_POL_F0 k) own).trans f0,
    (getF_of_getR (f := F.FLT_NOTCH_POL_Q k) own).trans sharp, from_, other, settle⟩

/-- A withdrawal clears the placement, whatever the notch's source. -/
theorem notchPlace_clears (notch : k = 1 ∨ k = 2) (due : b.fe.notchDue = [(k, none)]) : getR (notchPlace b) (R.FLT_NOTCH_POL k) = 0 := by
  have cleared : getR (activeRegs (notchPlaced k none (notchTaken b))) (R.FLT_NOTCH_POL k) = 0 :=
    (getR_activeRegs_pol _ notch).trans (getR_setR (R.FLT_NOTCH_POL k) 0 _)
  by_cases source : actF b (F.FLT_NOTCH_SRC k) = 1
  · rw [notchPlace_source due source, getR_pathSet]
    exact cleared
  · rw [notchPlace_withdrawn due source]
    exact cleared

/-- A placement due is taken up, and the clock stays. -/
theorem notchPlace_taken (due : b.fe.notchDue = [(k, p)]) : (notchPlace b).fe.notchDue = [] ∧ (notchPlace b).clock = b.clock := by
  have placed : (activeRegs (notchPlaced k p (notchTaken b))).fe.notchDue = [] ∧ (activeRegs (notchPlaced k p (notchTaken b))).clock = b.clock := by
    rw [activeRegs_fe, activeRegs_clock, notchPlaced_fe, notchPlaced_clock]
    exact ⟨rfl, rfl⟩
  by_cases source : actF b (F.FLT_NOTCH_SRC k) = 1
  · rw [notchPlace_source due source, pathSet_notchDue, pathSet_clock]
    exact placed
  · cases p with
    | none =>
      rw [notchPlace_withdrawn due source]
      exact placed
    | some x =>
      rw [notchPlace_dropped due source (by simp)]
      exact ⟨rfl, rfl⟩

end

/-- A set without a cause of R164 is in force. -/
theorem commitApply_inForce (asked : isF b F.FE_COMMIT_PENDING = true) (fine : rejCauses (commitTaken b) (shadowSet (commitTaken b)) = 0) :
    getF (commitApply b) F.FE_COMMIT_PENDING = 0 ∧ (commitApply b).act = shadowSet (commitTaken b) ∧
      getF (commitApply b) F.FLT_ACTIVE_COMMIT_CNT = (getF b F.FLT_ACTIVE_COMMIT_CNT + 1) % 256 ∧
      getF (commitApply b) F.FLT_ACTIVE_RATE = fieldIn (shadowSet (commitTaken b)) F.FLT_CTL_RATE ∧
      getF (commitApply b) F.FLT_ACTIVE_ORDER = fieldIn (shadowSet (commitTaken b)) F.FLT_CTL_ORDER ∧
      getR (commitApply b) R.FLT_REJ = getR b R.FLT_REJ ∧ (commitApply b).fe.settingAt = some (devF b) := by
  let s := shadowSet (commitTaken b)
  let x := setInForce s (commitTaken b)
  have kept : SetKept x (applySet2 s (commitTaken b)) := setKept_applySet2 s (commitTaken b)
  have rings : HstOnly (applySet2 s (commitTaken b)) (commitApply b) := by
    rw [commitApply_applied asked fine]
    exact hstOnly_cfgWriteDone false _
  have regs : ∀ {a : Nat}, 0x8000 ≤ a → a < 0xB000 → getR (commitApply b) a = getR x a := fun low high => by
    have ring := rings.regs
    unfold getR at *
    rw [ring]
    exact kept.regs low high
  obtain ⟨-, act, tick⟩ := kept
  have shown : getR (commitApply b) R.FLT_ACTIVE = getR x R.FLT_ACTIVE := regs (by decide) (by decide)
  have request : getR x R.FE_COMMIT = getR (commitTaken b) R.FE_COMMIT := getR_setInForce_ne s _ (by decide)
  have rejected : getR x R.FLT_REJ = getR b R.FLT_REJ :=
    (getR_setInForce_ne s _ (by decide)).trans (getR_setF_ne F.FE_COMMIT_PENDING _ _ (by decide))
  have counted : getF (commitTaken b) F.FLT_ACTIVE_COMMIT_CNT = getF b F.FLT_ACTIVE_COMMIT_CNT :=
    getF_of_getR (getR_setF_ne F.FE_COMMIT_PENDING _ _ (by decide))
  refine ⟨?_, rings.act.trans (act.trans ?_), ?_, ?_, ?_, (regs (by decide) (by decide)).trans rejected, ?_⟩
  · exact (getF_of_getR (f := F.FE_COMMIT_PENDING) ((regs (by decide) (by decide)).trans request)).trans (getF_setF F.FE_COMMIT_PENDING 0 b (by decide))
  · exact activeRegs_act _
  · exact (getF_of_getR (f := F.FLT_ACTIVE_COMMIT_CNT) shown).trans ((count_setInForce s _).trans (by rw [counted]))
  · exact (getF_of_getR (f := F.FLT_ACTIVE_RATE) shown).trans (rate_activeRegs _)
  · exact (getF_of_getR (f := F.FLT_ACTIVE_ORDER) shown).trans (order_activeRegs _)
  · rw [rings.fe, tick]
    exact congrArg FrontEnd.settingAt (activeRegs_fe _)

/-- A set with a cause of R164 changes no active value; the causes show. -/
theorem commitApply_rejects (asked : isF b F.FE_COMMIT_PENDING = true) (bad : rejCauses (commitTaken b) (shadowSet (commitTaken b)) ≠ 0) :
    getF (commitApply b) F.FE_COMMIT_PENDING = 0 ∧ (commitApply b).act = b.act ∧
      getR (commitApply b) R.FLT_REJ = w32 (rejCauses (commitTaken b) (shadowSet (commitTaken b))) ∧ getF (commitApply b) F.FE_COMMIT_CFG_REJ = 1 ∧
      getR (commitApply b) R.FLT_ACTIVE = getR b R.FLT_ACTIVE ∧ (commitApply b).fe = b.fe ∧
      ∃ e ∈ (commitApply b).sl.events, e.code = 0x11 ∧ e.v0 = rejCauses (commitTaken b) (shadowSet (commitTaken b)) ∧ e.frame = frame b := by
  let rej := rejCauses (commitTaken b) (shadowSet (commitTaken b))
  let x := causesShown rej (commitTaken b)
  have rings : HstOnly (commitRefused rej (commitTaken b)) (commitApply b) := by
    rw [commitApply_refused asked bad]
    exact hstOnly_cfgWriteDone true _
  have regs : ∀ a, getR (commitApply b) a = getR x a := fun a => by
    have ring := rings.regs
    unfold getR at *
    rw [ring]
    rfl
  have besides : ∀ {a}, a ∉ [R.FE_COMMIT, R.FLT_REJ] → getR x a = getR b a := fun {a} out => by
    obtain ⟨commit, refused⟩ : a ≠ R.FE_COMMIT ∧ a ≠ R.FLT_REJ := by simpa using out
    exact (getR_setF_ne F.FE_COMMIT_CFG_REJ _ _ commit).trans ((getR_setR_ne _ _ refused).trans (getR_setF_ne F.FE_COMMIT_PENDING _ _ commit))
  have number : frame x = frame b := by
    have lo := besides (a := R.CW_FRAME_OFS_LO) (by decide)
    have hi : getF x F.CW_FRAME_OFS_HI_OFS_HI = getF b F.CW_FRAME_OFS_HI_OFS_HI := getF_of_getR (besides (a := R.CW_FRAME_OFS_HI) (by decide))
    unfold frame frameOfs
    rw [lo, hi]
    rfl
  refine ⟨?_, rings.act, ?_, ?_, (regs _).trans (besides (by decide)), rings.fe, ?_⟩
  · refine (getF_of_getR (f := F.FE_COMMIT_PENDING) (regs _)).trans ?_
    refine (getF_setF_beside F.FE_COMMIT_CFG_REJ F.FE_COMMIT_PENDING _ _ (by decide) rfl (by decide)).trans ?_
    exact (getF_setR_ne F.FE_COMMIT_PENDING _ _ _ (by decide)).trans (getF_setF F.FE_COMMIT_PENDING 0 b (by decide))
  · refine (regs _).trans ((getR_setF_ne F.FE_COMMIT_CFG_REJ _ _ (by decide)).trans ?_)
    exact getR_setR _ _ _
  · exact (getF_of_getR (f := F.FE_COMMIT_CFG_REJ) (regs _)).trans (getF_setF F.FE_COMMIT_CFG_REJ 1 _ (by decide))
  · rw [rings.sl]
    exact ⟨⟨0x11, 0, 0, rej, 0, frame x, devF x⟩, List.mem_append_right _ List.mem_cons_self, rfl, rfl, number⟩

/-! QUIET intervals (R172). -/

theorem exec_quietIntervalStart (q : List Instr) (runs : framesRun b = true) (none : b.fe.quiet = none) :
    exec .quietIntervalStart ⟨b, q⟩ = .next ⟨balGates (quietStart b), q⟩ := by
  simp only [exec, execQuietIntervalStart, run_eq, runs, none, Option.isNone_none, Bool.and_true, if_true]

theorem exec_quietIntervalStart_within (q : List Instr) (within : b.fe.quiet.isSome = true) : exec .quietIntervalStart ⟨b, q⟩ = .next ⟨b, q⟩ := by
  have some : b.fe.quiet.isNone = false := by rw [← Option.not_isSome, within]; rfl
  simp only [exec, execQuietIntervalStart, run_eq, some, Bool.and_false, Bool.false_eq_true, if_false]

theorem exec_quietIntervalEnd (q : List Instr) (runs : framesRun b = true) : exec .quietIntervalEnd ⟨b, q⟩ = .next ⟨balGates (quietEnd b), q⟩ := by
  simp only [exec, execQuietIntervalEnd, run_eq, runs, if_true]

/-- The block within a QUIET interval that begins at this tick. -/
def quietBegun (b : Block) : Block := { b with fe := { b.fe with quiet := some (devF b, devF b + quietLen b b.act) } }

theorem quietStart_begins (none : b.fe.quiet = none) (on : actF b F.FLT_BAL_CTL_QUIET_EN ≠ 0) (every : actF b F.FLT_BAL_CTL_QUIET_N * activeK b ≠ 0)
    (due : (frame b + quietLen b b.act) % (actF b F.FLT_BAL_CTL_QUIET_N * activeK b) = 0) : quietStart b = count 0x2A 1 {} (quietBegun b) := by
  unfold quietStart
  dsimp only
  rw [if_neg (by simp [none, on, every, due])]
  rfl

/-- Within a QUIET interval no gate is wanted on. -/
theorem gateWanted_of_quiet {n : Nat} (quiet : quietNow b = true) : gateWanted b n = false := by
  simp [gateWanted, quiet]

theorem quietNow_congr (fe : c.fe = b.fe) (clock : c.clock = b.clock) : quietNow c = quietNow b := by
  unfold quietNow devF
  rw [fe, clock]

/-- An interval of a positive length holds its first tick. -/
theorem quietNow_quietBegun (long : quietLen b b.act ≠ 0) : quietNow (quietBegun b) = true :=
  decide_eq_true ⟨le_rfl, Nat.lt_add_of_pos_right (Nat.pos_of_ne_zero long)⟩

theorem quietEnd_ends {lo hi : Nat} (quiet : b.fe.quiet = some (lo, hi)) (ended : hi ≤ devF b) : quietEnd b = { b with fe := { b.fe with quiet := none } } := by
  simp only [quietEnd, quiet, ended, if_true]

end
end Sys2Proof.Machine

namespace Sys2Proof
open Machine

section
variable {b : Block}

/-- A QUIET interval begins with every gate off (R172). -/
theorem quietStart_gates (none : b.fe.quiet = none) (on : actF b F.FLT_BAL_CTL_QUIET_EN ≠ 0) (every : actF b F.FLT_BAL_CTL_QUIET_N * activeK b ≠ 0)
    (due : (frame b + quietLen b b.act) % (actF b F.FLT_BAL_CTL_QUIET_N * activeK b) = 0) (long : quietLen b b.act ≠ 0) :
    (balGates (quietStart b)).fe = { b.fe with quiet := some (devF b, devF b + quietLen b b.act) } ∧ (balGates (quietStart b)).act = b.act ∧
      (balGates (quietStart b)).lc = b.lc ∧ ∀ n, 1 ≤ n → n ≤ 192 →
        (balOf (balGates (quietStart b)) n).cmdOn = false ∧ bleedOf (balGates (quietStart b)) n = bleedOf b n := by
  have begun := quietStart_begins none on every due
  have fe : (quietStart b).fe = (quietBegun b).fe := by simp [begun]
  have clock : (quietStart b).clock = (quietBegun b).clock := by simp [begun]
  have bal : (quietStart b).bal = b.bal := by simp
  refine ⟨(balGates_fe _).trans fe, by simp, by simp, fun n low high => ?_⟩
  obtain ⟨gate, bleed⟩ := balGates_gate (quietStart b) low high
  have quiet : quietNow (quietStart b) = true := (quietNow_congr fe clock).trans (quietNow_quietBegun long)
  exact ⟨gate.trans (gateWanted_of_quiet quiet), bleed.trans (by unfold bleedOf balOf; rw [bal])⟩

/-- At the end of a QUIET interval the gates follow their wishes again (R172). -/
theorem quietEnd_gates {lo hi : Nat} (quiet : b.fe.quiet = some (lo, hi)) (ended : hi ≤ devF b) :
    (balGates (quietEnd b)).fe = { b.fe with quiet := none } ∧ (balGates (quietEnd b)).act = b.act ∧ (balGates (quietEnd b)).lc = b.lc ∧
      ∀ n, 1 ≤ n → n ≤ 192 → (balOf (balGates (quietEnd b)) n).cmdOn = gateWanted { b with fe := { b.fe with quiet := none } } n ∧
        bleedOf (balGates (quietEnd b)) n = bleedOf b n := by
  rw [quietEnd_ends quiet ended]
  exact ⟨balGates_fe _, by simp, by simp, fun n low high => balGates_gate _ low high⟩

end

/-- Settles O50: a commit, a placement and a QUIET interval each by the lemma that says what its tick does. -/
theorem measurementCommits : Obligations.MeasurementCommits := by
  unfold Obligations.MeasurementCommits
  intro b q
  refine ⟨fun v on => ?_, fun runs => ⟨fun asked => ?_, fun idle => ?_, fun k p notch due => ?_, fun none on every due long => ?_, fun within => ?_,
    fun lo hi quiet ended => ?_⟩⟩
  · have pending : getF (writeFeCommit (v ||| 1) b) F.FE_COMMIT_PENDING = 1 := by
      rw [writeFeCommit_eq]
      exact getF_setF F.FE_COMMIT_PENDING 1 _ (by decide)
    exact ⟨_, exec_feCommit v q on, writeFeCommit_regs v b, pending, regsBut_writeFeCommit v b⟩
  · have done : getF (commitApply b) F.FE_COMMIT_PENDING = 0 := by
      by_cases fine : rejCauses (commitTaken b) (shadowSet (commitTaken b)) = 0
      · exact (commitApply_inForce asked fine).1
      · exact (commitApply_rejects asked fine).1
    exact ⟨_, exec_measurementCommitApply q runs, done, by simp, by simp, fun fine => (commitApply_inForce asked fine).2, fun bad => (commitApply_rejects asked bad).2⟩
  · have rings := hstOnly_cfgWriteDone false b
    rw [← commitApply_idle idle] at rings
    exact ⟨_, exec_measurementCommitApply q runs, rings⟩
  · obtain ⟨taken, clock⟩ := notchPlace_taken due
    refine ⟨_, exec_policyNotchPlacement q runs, taken, by simp, clock, by simp, notchPlace_places notch due, ?_, notchPlace_dropped due⟩
    rintro rfl
    exact notchPlace_clears notch due
  · exact ⟨_, exec_quietIntervalStart q runs none, quietStart_gates none on every due long⟩
  · exact exec_quietIntervalStart_within q within
  · exact ⟨_, exec_quietIntervalEnd q runs, quietEnd_gates quiet ended⟩

end Sys2Proof

namespace Sys2Proof.Machine

/-! IMP_CTL (R181, R194, R196). -/

theorem regRow_IMP_CTL : regRow R.IMP_CTL = some ⟨0xB000, 1, 4, 1, 4, 0xAE60080, 0, 0xFFFF0183, 0, 0, 0x1C, 0⟩ := by decide

/-- Bit `j` of a word with the bits of `m` set beside its own. -/
theorem bitOf_or (v m : Word) (j : Nat) : bitOf (v ||| m).toNat j = (bitOf v.toNat j || bitOf m.toNat j) := by
  rw [bitOf_eq_testBit, bitOf_eq_testBit, bitOf_eq_testBit, BitVec.toNat_or, Nat.testBit_or]

/-- An action's bit beside a word leaves the slot that the word names. -/
theorem slot_or (v m : Word) (above : m.toNat % 4 = 0) : (v ||| m).toNat % 4 = v.toNat % 4 := by
  rw [BitVec.toNat_or, show 4 = 2 ^ 2 from rfl, Nat.or_mod_two_pow, above, Nat.or_zero]

theorem slot_writeBits (v : Word) (b : Block) : getF (writeBits R.IMP_CTL v b) F.IMP_CTL_SLOT = v.toNat % 4 := by
  rw [getF_writeBits_rw (a := R.IMP_CTL) F.IMP_CTL_SLOT v b _ rfl regRow_IMP_CTL (by decide) (by decide) (by decide)]
  exact congrArg (· % 4) (Nat.div_one _)

/-- What the word `v` in IMP_CTL asks for: a sweep of its slot, an abort, and HOST_GO where a sweep waits for it. -/
def impAsked (v : Word) (x : Impedance) : Impedance := { x with
  host := x.host ++ (if bitOf v.toNat 2 then [(v.toNat % 4, none)] else [])
  abort := x.abort || bitOf v.toNat 3
  go := x.go || (bitOf v.toNat 4 && x.sweep.any (·.waitGo)) }

/-- START of the word `v`: a request for the slot that IMP_CTL holds. -/
def startAsked (v : Word) (b : Block) : Block :=
  if bitOf v.toNat 2 then { b with imp := { b.imp with host := b.imp.host ++ [(getF b F.IMP_CTL_SLOT, none)] } } else b

/-- ABORT of the word `v`. -/
def abortAsked (v : Word) (b : Block) : Block := if bitOf v.toNat 3 then { b with imp := { b.imp with abort := true } } else b

/-- HOST_GO of the word `v`. -/
def goAsked (v : Word) (b : Block) : Block := if bitOf v.toNat 4 && b.imp.sweep.any (·.waitGo) then { b with imp := { b.imp with go := true } } else b

theorem writeImpCtl_stages (v : Word) (b : Block) : writeImpCtl v b = goAsked v (abortAsked v (startAsked v (writeBits R.IMP_CTL v b))) := rfl

theorem startAsked_eq (v : Word) (b : Block) : startAsked v b =
    { b with imp := { b.imp with host := b.imp.host ++ (if bitOf v.toNat 2 then [(getF b F.IMP_CTL_SLOT, none)] else []) } } := by
  unfold startAsked
  split
  · rfl
  · rw [List.append_nil]

theorem abortAsked_eq (v : Word) (b : Block) : abortAsked v b = { b with imp := { b.imp with abort := b.imp.abort || bitOf v.toNat 3 } } := by
  unfold abortAsked
  split
  next on => rw [on, Bool.or_true]
  next off => rw [eq_false_of_ne_true off, Bool.or_false]

theorem goAsked_eq (v : Word) (b : Block) : goAsked v b = { b with imp := { b.imp with go := b.imp.go || (bitOf v.toNat 4 && b.imp.sweep.any (·.waitGo)) } } := by
  unfold goAsked
  split
  next on => rw [on, Bool.or_true]
  next off => rw [eq_false_of_ne_true off, Bool.or_false]

/-- A write of IMP_CTL stores its fields and asks for its actions. -/
theorem writeImpCtl_eq (v : Word) (b : Block) : writeImpCtl v b = { writeBits R.IMP_CTL v b with imp := impAsked v (writeBits R.IMP_CTL v b).imp } := by
  rw [writeImpCtl_stages, startAsked_eq, abortAsked_eq, goAsked_eq, slot_writeBits]
  rfl

theorem writeImpCtl_asks (v : Word) (b : Block) : writeImpCtl v b = { b with regs := (writeImpCtl v b).regs, imp := impAsked v b.imp } := by
  rw [writeImpCtl_eq, onlyRegs_writeBits]

theorem regsBut_writeImpCtl (v : Word) (b : Block) : RegsBut [R.IMP_CTL] b (writeImpCtl v b) := fun a out => by
  rw [writeImpCtl_eq]
  exact getR_writeBits_ne v b fun same => out (List.mem_singleton.mpr same)

theorem slot_writeImpCtl (v : Word) (b : Block) : getF (writeImpCtl v b) F.IMP_CTL_SLOT = v.toNat % 4 := by
  rw [writeImpCtl_eq]
  exact slot_writeBits v b

theorem impAsked_start (v : Word) (x : Impedance) : impAsked (v ||| 4) x = { x with
    host := x.host ++ [(v.toNat % 4, none)], abort := x.abort || bitOf v.toNat 3, go := x.go || (bitOf v.toNat 4 && x.sweep.any (·.waitGo)) } := by
  unfold impAsked
  simp only [bitOf_or, slot_or v 4 (by decide), show bitOf (4 : Word).toNat 2 = true from by decide, show bitOf (4 : Word).toNat 3 = false from by decide,
    show bitOf (4 : Word).toNat 4 = false from by decide, Bool.or_true, Bool.or_false, if_true]

theorem impAsked_abort (v : Word) (x : Impedance) : impAsked (v ||| 8) x = { x with
    host := x.host ++ (if bitOf v.toNat 2 then [(v.toNat % 4, none)] else []), abort := true, go := x.go || (bitOf v.toNat 4 && x.sweep.any (·.waitGo)) } := by
  unfold impAsked
  simp only [bitOf_or, slot_or v 8 (by decide), show bitOf (8 : Word).toNat 2 = false from by decide, show bitOf (8 : Word).toNat 3 = true from by decide,
    show bitOf (8 : Word).toNat 4 = false from by decide, Bool.or_true, Bool.or_false]

theorem impAsked_go (v : Word) (x : Impedance) : impAsked (v ||| 16) x = { x with
    host := x.host ++ (if bitOf v.toNat 2 then [(v.toNat % 4, none)] else []), abort := x.abort || bitOf v.toNat 3, go := x.go || x.sweep.any (·.waitGo) } := by
  unfold impAsked
  simp only [bitOf_or, slot_or v 16 (by decide), show bitOf (16 : Word).toNat 2 = false from by decide, show bitOf (16 : Word).toNat 3 = false from by decide,
    show bitOf (16 : Word).toNat 4 = true from by decide, Bool.or_true, Bool.or_false, Bool.true_and]

/-! IMP_SWEEP (R194, R402, R403). -/

/-- The block with the request of an IMP_SWEEP of ring `q` for slot `s`. -/
def sweepAsked (q s : Nat) (b : Block) : Block := { b with imp := { b.imp with host := b.imp.host ++ [(s, some q)] } }

theorem exec_impSweep {b : Block} {r : Fin 16} {d : Desc} (q : List Instr) (can : canStart b r.val = true) (resvd : d.resvd = 0) (small : d.p0.toNat < 512)
    (gap : bitsOf d.p0.toNat 2 6 = 0) (addr : d.addr = 0) (tail : tail0 d = true) : exec (.impSweep r d) ⟨b, q⟩ =
      .next ⟨waitOn r.val (.impSweep (bitOf d.p0.toNat 8) (d.p0.toNat % 4) none) (sweepAsked r.val (d.p0.toNat % 4) (startedCmd r.val 0x04 d b)), q⟩ := by
  have valid : (decide (d.p0.toNat / 512 ≠ 0 ∨ bitsOf d.p0.toNat 2 6 ≠ 0) || d.addr != 0 || !tail0 d) = false := by
    simp [Nat.div_eq_of_lt small, gap, addr, tail]
  simp only [exec, execImpSweep, run_eq, startCmd_go _ can resvd valid rfl]
  rfl

/-! Balancing and excitation leave the impedance state (R187, R188, R296, R304). -/

@[simp] theorem putBalDirty_imp (n : Nat) (x : BalCell) (b : Block) : (putBalDirty n x b).imp = b.imp := by simp [putBalDirty]
@[simp] theorem govern_imp (t : Nat) (b : Block) : (govern t b).imp = b.imp := by simp [govern]
@[simp] theorem balGovern_imp (b : Block) : (balGovern b).imp = b.imp := by simp [balGovern]
@[simp] theorem balGates_imp (b : Block) : (balGates b).imp = b.imp :=
  each_proj Block.imp _ gateTurn _ fun n c => by
    obtain ⟨only, -⟩ := gateOnly_gateTurn n c
    rw [only]
@[simp] theorem endExcite_imp (n : Nat) (b : Block) : (endExcite n b).imp = b.imp := by simp [endExcite]
@[simp] theorem endHolds_imp (b : Block) : (endHolds b).imp = b.imp := by simp [endHolds]
@[simp] theorem startExcite_imp (w : Sweep) (b : Block) : (startExcite w b).2.imp = b.imp := by simp [startExcite]
@[simp] theorem passRelease_pwr (b : Block) : (passRelease b).pwr = b.pwr := by
  unfold passRelease
  split <;> simp
@[simp] theorem passRelease_imp (b : Block) : (passRelease b).imp = b.imp := by
  unfold passRelease
  split <;> simp

section
variable {b : Block} {w : Sweep}

/-! The start of a pass (R181, R183). -/

/-- `w'` is the sweep `w` as it was ordered, at the same point and pass. -/
structure SameOrder (w w' : Sweep) : Prop where
  seq : w'.seq = w.seq
  policy : w'.policy = w.policy
  src : w'.src = w.src
  nCyc : w'.nCyc = w.nCyc
  freqs : w'.freqs = w.freqs
  cells : w'.cells = w.cells
  point : w'.point = w.point
  pass : w'.pass = w.pass

theorem SameOrder.rfl : SameOrder w w := ⟨Eq.refl _, Eq.refl _, Eq.refl _, Eq.refl _, Eq.refl _, Eq.refl _, Eq.refl _, Eq.refl _⟩

/-- `w'` is the sweep `w` with its pass begun at device frame `f`. -/
def PassBegun (f : Nat) (w w' : Sweep) : Prop := w'.start = some f ∧ SameOrder w w'

/-- The sweep `w` with its pass begun at this tick; the first pass of a point begins the point's record anew. -/
def passOpen (b : Block) (w : Sweep) : Sweep :=
  let w := { w with start := some (devF b), waitGo := false, starts := (if w.pass = 0 then [] else w.starts) ++ [devF b] }
  if w.pass = 0 then { w with pointStart := frame b, spoiled := [], noallow := [], paused := [], cmp := [], rerouted := false } else w

/-- The demodulation of the pass that `w` begins at this tick; HOST_GO is used up. -/
def demodOpen (w : Sweep) (b : Block) : Block := { b with imp := { b.imp with
  go := false
  demod := b.imp.demod ++ [{ start := devF b, h := sweepH w, settle := if w.src = 0 then 0 else 1, nCyc := w.nCyc, cells := passCells b w w.pass }] } }

theorem passBegun_passOpen (b : Block) (w : Sweep) : PassBegun (devF b) w (passOpen b w) := by
  unfold passOpen
  dsimp only
  split <;> exact ⟨rfl, rfl, rfl, rfl, rfl, rfl, rfl, rfl, rfl⟩

/-- Excitation marks cells of the sweep alone. -/
theorem passBegun_startExcite {f : Nat} {w' : Sweep} (c : Block) (h : PassBegun f w w') : PassBegun f w (startExcite w' c).1 := by
  obtain ⟨start, same⟩ := h
  exact ⟨start, same.seq, same.policy, same.src, same.nCyc, same.freqs, same.cells, same.point, same.pass⟩

theorem passStart_none (none : b.imp.sweep = none) : passStart b = b := by
  unfold passStart
  simp only [none]

/-- A sweep whose host has not let it go on waits. -/
theorem passStart_waits (sweep : b.imp.sweep = some w) (waits : w.waitGo = true) (held : b.imp.go = false) : passStart b = b := by
  unfold passStart
  simp only [sweep, waits, held, Bool.not_false, Bool.and_self, Bool.or_true, if_true]

theorem passStart_open (sweep : b.imp.sweep = some w) (idle : w.start = none) (free : w.waitGo = true → b.imp.go = true) :
    passStart b = if (passOpen b w).src = 1 then
      let got := startExcite (passOpen b w) (demodOpen (passOpen b w) b)
      putSweep (some got.1) got.2
    else putSweep (some (passOpen b w)) (demodOpen (passOpen b w) b) := by
  have begins : ¬ (w.start.isSome || (w.waitGo && !b.imp.go)) = true := by
    cases wait : w.waitGo with
    | false => simp [idle]
    | true => simp [idle, free wait]
  unfold passStart
  split
  next none => exact absurd (sweep.symm.trans none) (by simp)
  next other same =>
    obtain rfl : w = other := Option.some.inj (sweep.symm.trans same)
    exact if_neg begins

/-- A pass that waits and is free to go begins at this tick; nothing else of the impedance state changes but HOST_GO, used up, and the new demodulation. -/
theorem passStart_begins (sweep : b.imp.sweep = some w) (idle : w.start = none) (free : w.waitGo = true → b.imp.go = true) :
    ∃ w' demod, PassBegun (devF b) w w' ∧ (passStart b).imp = { b.imp with sweep := some w', go := false, demod := demod } := by
  rw [passStart_open sweep idle free]
  have begun := passBegun_passOpen b w
  split
  · refine ⟨_, (demodOpen (passOpen b w) b).imp.demod, passBegun_startExcite (demodOpen (passOpen b w) b) begun, ?_⟩
    simp only [putSweep, startExcite_imp]
    rfl
  · exact ⟨_, _, begun, rfl⟩

/-! SWEEP_ACCEPT of a host's request (R194 to R196). -/

theorem exec_sweepAccept (q : List Instr) (runs : framesRun b = true) :
    exec .sweepAccept ⟨b, q⟩ = .next ⟨balGates (balGovern (passStart (sweepAccept (nextStart b)))), q⟩ := by
  simp only [exec, execSweepAccept, run_eq, runs, if_true]

theorem nextStart_none (none : b.imp.next = none) : nextStart b = b := by
  unfold nextStart
  split
  next pending => exact absurd (none.symm.trans pending) (by simp)
  · rfl

/-- While a host sweep runs, a request's code is 5. -/
theorem sweepCode_running (sweep : b.imp.sweep = some w) (host : w.policy = false) (s : Nat) : sweepCode b s = 5 := by
  simp [sweepCode, sweep, host]

/-- The sweep of slot `s` with the next number, before its first pass. -/
def slotSweep (b : Block) (s : Nat) : Sweep := {
  seq := (b.imp.seq + 1) % 256, policy := false, src := getF b (F.IMP_DEF_SRC s), nCyc := getF b (F.IMP_DEF_N_CYC s)
  freqs := (List.range (getF b (F.IMP_DEF_NPTS s))).map fun i => (getR b (R.IMP_FREQ s i)).toNat
  cells := (presentCells b).filter fun c => bitOf (getR b (R.IMP_CELLS s ((c - 1) / 32))).toNat ((c - 1) % 32)
  waitGo := getF b (F.IMP_DEF_SRC s) == 2 }

/-- The requests are taken up. -/
def hostTaken (b : Block) : Block := { b with imp := { b.imp with host := [] } }

/-- One request, with no sweep of the policy waiting, is all that is checked. -/
theorem sweepAccept_one {s : Nat} (asked : b.imp.host = [(s, none)]) (policy : b.imp.policy = none) : sweepAccept b = sweepRequest s none (hostTaken b) := by
  have kept : (sweepRequest s none (hostTaken b)).imp.policy = none := by
    unfold sweepRequest
    dsimp only
    split
    · exact policy
    · split <;> exact policy
  unfold sweepAccept
  rw [asked]
  dsimp only
  split
  · rfl
  next other => exact absurd (other.symm.trans kept) (by simp)

/-- The one request is taken up and refused with `code`. -/
def hostRefused (code : Nat) (b : Block) : Block := { b with imp := { b.imp with host := [], result := code } }

/-- The one request, for slot `s`, is taken up and its sweep runs. -/
def hostAccepted (s : Nat) (b : Block) : Block :=
  { b with imp := { b.imp with host := [], seq := (b.imp.seq + 1) % 256, result := 2, sweep := some (slotSweep b s) } }

theorem sweepAccept_refuses {s : Nat} (asked : b.imp.host = [(s, none)]) (policy : b.imp.policy = none) (code : sweepCode b s ≠ 0) :
    sweepAccept b = hostRefused (sweepCode b s) b := by
  rw [sweepAccept_one asked policy, sweepRequest]
  exact if_pos code

theorem sweepAccept_starts {s : Nat} (asked : b.imp.host = [(s, none)]) (idle : b.imp.sweep = none) (policy : b.imp.policy = none) (code : sweepCode b s = 0) :
    sweepAccept b = hostAccepted s b := by
  have same : sweepCode (hostTaken b) s = 0 := code
  have none : (hostTaken b).imp.sweep = none := idle
  rw [sweepAccept_one asked policy, sweepRequest]
  simp only [same, none]
  rfl

/-! The passes of a point (R180, R181). -/

theorem exec_impPassStart (q : List Instr) (runs : framesRun b = true) :
    exec .impPassStart ⟨b, q⟩ = .next ⟨balGates (balGovern (passStart (passRelease (passEnd b)))), q⟩ := by
  simp only [exec, execImpPassStart, run_eq, runs, if_true]

theorem passEnd_none (none : b.imp.sweep = none) : passEnd b = b := by
  unfold passEnd
  simp only [none]

theorem passEnd_waiting (sweep : b.imp.sweep = some w) (idle : w.start = none) : passEnd b = b := by
  unfold passEnd
  simp only [sweep, idle]

/-- The first pass of a point that has two, its samples taken, gives way to the second. -/
theorem passEnd_second {f : Nat} (sweep : b.imp.sweep = some w) (start : w.start = some f) (taken : f + passFrames w ≤ devF b) (more : w.pass + 1 < passCount w) :
    passEnd b = putSweep (some { w with pass := w.pass + 1, start := none, excited := [] }) b := by
  unfold passEnd
  simp only [sweep, start]
  rw [if_neg (Nat.not_lt.mpr taken), if_pos more]

/-- Once the pass that was over has ended, the pass that then waits begins at this tick. -/
theorem pass_begins_after_end (sweep : (passEnd b).imp.sweep = some w) (idle : w.start = none) (free : w.waitGo = true → (passEnd b).imp.go = true) :
    ∃ w' demod, PassBegun (devF b) w w' ∧
      (balGates (balGovern (passStart (passRelease (passEnd b))))).imp = { (passEnd b).imp with sweep := some w', go := false, demod := demod } := by
  have tick : devF (passRelease (passEnd b)) = devF b := by simp [devF]
  have kept : (passRelease (passEnd b)).imp = (passEnd b).imp := passRelease_imp _
  obtain ⟨w', demod, begun, imp⟩ := passStart_begins (b := passRelease (passEnd b)) (by rw [kept]; exact sweep) idle (by rw [kept]; exact free)
  rw [tick] at begun
  rw [kept] at imp
  exact ⟨w', demod, begun, by rw [balGates_imp, balGovern_imp, imp]⟩

/-! The record of a point (R184, R192). -/

theorem exec_impPointEnd (refs : List (List (Int × Int))) (cells : List PointCell) (q : List Instr) (runs : framesRun b = true) (idle : b.imp.sweep = none) :
    exec (.impPointEnd refs cells) ⟨b, q⟩ = .next ⟨pointEnd refs cells b, q⟩ := by
  simp only [exec, execImpPointEnd, run_eq, inFrame, runs, if_true, passEnd_none idle]

/-- The entry of a cell has three words. -/
theorem pointEntry_length (b : Block) (d : PointDue) (refs : List (List (Int × Int))) (cells : List PointCell) (n : Nat) :
    (pointEntry b d refs cells n).length = 3 := by
  unfold pointEntry
  dsimp only
  split <;> rfl

theorem pointEntries_length (b : Block) (d : PointDue) (refs : List (List (Int × Int))) (cells : List PointCell) (ns : List Nat) :
    (ns.map (pointEntry b d refs cells)).flatten.length = 3 * ns.length := by
  induction ns with
  | nil => rfl
  | cons n ns ih =>
    rw [List.map_cons, List.flatten_cons, List.length_append, pointEntry_length, ih, List.length_cons]
    omega

/-- From `b` to `c` nothing but the results kept for adaptation and conditions of the Sluice changes. -/
def ResultsOnly (b c : Block) : Prop := c = { b with imp := { b.imp with results := c.imp.results }, sl := { b.sl with cond := c.sl.cond } }

theorem ResultsOnly.rfl : ResultsOnly b b := Eq.refl b
theorem ResultsOnly.trans {c d : Block} (h : ResultsOnly b c) (k : ResultsOnly c d) : ResultsOnly b d := Eq.trans k (by rw [show c = _ from h])
theorem resultsOnly_pulse (i det : Nat) (b : Block) : ResultsOnly b (pulse i det b) := Eq.refl _
theorem resultsOnly_keepResult (d : PointDue) (ws : List Word) (b : Block) : ResultsOnly b (keepResult d ws b) := by
  unfold keepResult
  dsimp only
  split <;> rfl

theorem ownNode_resultsOnly {c : Block} (h : ResultsOnly b c) : ownNode c = ownNode b := by
  rw [show c = _ from h]
  rfl

/-- The saturations that come with a point's results. -/
def satShown (w : Sweep) (cells : List PointCell) (b : Block) : Block :=
  each (cells.filter fun c => c.saturated && w.cells.contains (c.cell.val + 1))
    (fun c => pulse (Slot.impSat (tierOf (c.cell.val + 1))) (2 ^ localOf (c.cell.val + 1))) b

/-- The first point due is taken up, and the sums of its passes are dropped. -/
def pointTaken (d : PointDue) (rest : List PointDue) (b : Block) : Block :=
  { b with imp := { b.imp with due := rest, demod := b.imp.demod.filter fun m => !d.sweep.starts.contains m.start } }

/-- The block once the results of the first point due are kept. -/
def pointKept (refs : List (List (Int × Int))) (cells : List PointCell) (d : PointDue) (rest : List PointDue) (b : Block) : Block :=
  each (d.sweep.cells.map (pointEntry b d refs cells)) (keepResult d) (pointTaken d rest (satShown d.sweep cells b))

/-- The record of the first point due, with an entry for each of its cells, follows the block's own; its results are kept. -/
theorem pointEnd_records {d : PointDue} {rest : List PointDue} (refs : List (List (Int × Int))) (cells : List PointCell) (due : b.imp.due = d :: rest) :
    ∃ r, pointEnd refs cells b = queueRec r (pointKept refs cells d rest b) ∧ r.typ = 0x04 ∧ r.frame = d.frame ∧
      r.node = ownNode (pointKept refs cells d rest b) ∧ r.payload.length = 4 + 3 * d.sweep.cells.length := by
  unfold pointEnd
  simp only [due]
  refine ⟨_, rfl, rfl, rfl, rfl, ?_⟩
  rw [List.length_append, pointEntries_length]
  rfl

/-- Beside the results and conditions, only the points due and the sums change. -/
theorem resultsOnly_pointKept (refs : List (List (Int × Int))) (cells : List PointCell) (d : PointDue) (rest : List PointDue) (b : Block) :
    ResultsOnly (pointTaken d rest b) (pointKept refs cells d rest b) := by
  have shown : ResultsOnly b (satShown d.sweep cells b) := each_keeps .rfl fun _ _ _ h => h.trans (resultsOnly_pulse _ _ _)
  have taken : ResultsOnly (pointTaken d rest b) (pointTaken d rest (satShown d.sweep cells b)) := by
    rw [show satShown d.sweep cells b = _ from shown]
    rfl
  exact taken.trans (each_keeps .rfl fun _ _ _ h => h.trans (resultsOnly_keepResult _ _ _))

/-- The sums that stay are those of no pass of the point. -/
theorem mem_demod_pointTaken (d : PointDue) (rest : List PointDue) (b : Block) (x : Demod) :
    x ∈ (pointTaken d rest b).imp.demod ↔ x ∈ b.imp.demod ∧ d.sweep.starts.contains x.start = false := by
  simp [pointTaken, List.mem_filter]

end

end Sys2Proof.Machine

namespace Sys2Proof
open Machine

section
variable {b : Block}

/-- The three actions of IMP_CTL (R181, R194, R196), each by what its word asks for. -/
theorem impCtl_actions (v : Word) (q : List Instr) (on : ready b = true) :
    exec (.impStart v) ⟨b, q⟩ = .next ⟨writeImpCtl (v ||| 4) b, q⟩ ∧ exec (.impAbort v) ⟨b, q⟩ = .next ⟨writeImpCtl (v ||| 8) b, q⟩ ∧
      exec (.impHostGo v) ⟨b, q⟩ = .next ⟨writeImpCtl (v ||| 16) b, q⟩ := by
  simp only [exec, execImpStart, execImpAbort, execImpHostGo, run_eq, on, if_true, and_self]

/-- A well-formed IMP_SWEEP leaves its request and waits (R194, R403). -/
theorem impSweep_waits {r : Fin 16} {d : Desc} (q : List Instr) (can : canStart b r.val = true) (resvd : d.resvd = 0) (small : d.p0.toNat < 512)
    (gap : bitsOf d.p0.toNat 2 6 = 0) (addr : d.addr = 0) (tail : tail0 d = true) :
    ∃ c, exec (.impSweep r d) ⟨b, q⟩ = .next ⟨c, q⟩ ∧ CmdWaits r.val 0x04 d (.impSweep (bitOf d.p0.toNat 8) (d.p0.toNat % 4) none) b c ∧
      c = { b with regs := c.regs, hst := c.hst, imp := { b.imp with host := b.imp.host ++ [(d.p0.toNat % 4, some r.val)] } } ∧
      RegsBut [R.HST_SQ_STATUS r.val] b c := by
  refine ⟨_, exec_impSweep q can resvd small gap addr tail, cmdWaits_waitOn rfl rfl, ?_, fun a out => ?_⟩
  · rw [waitOn_hst]
    rfl
  · rw [waitOn_hst]
    exact getR_startedCmd_ne r.val 0x04 d b fun same => out (List.mem_singleton.mpr same)

/-- A request that is refused is taken up and shows its code; no sweep begins and no number is used (R195). -/
theorem sweepAccept_imp_refused {s : Nat} (asked : b.imp.host = [(s, none)]) (idle : b.imp.sweep = none) (policy : b.imp.policy = none) (code : sweepCode b s ≠ 0) :
    (balGates (balGovern (passStart (sweepAccept b)))).imp = { b.imp with host := [], result := sweepCode b s } := by
  rw [balGates_imp, balGovern_imp, sweepAccept_refuses asked policy code, passStart_none (b := hostRefused (sweepCode b s) b) idle]
  rfl

/-- An accepted sweep takes the next number; its first pass begins at this tick, unless its source is the host, who has not let it go on (R181, R195). -/
theorem sweepAccept_imp_accepted {s : Nat} (asked : b.imp.host = [(s, none)]) (idle : b.imp.sweep = none) (policy : b.imp.policy = none) (code : sweepCode b s = 0) :
    ∃ w go demod, (balGates (balGovern (passStart (sweepAccept b)))).imp =
        { b.imp with host := [], seq := (b.imp.seq + 1) % 256, result := 2, sweep := some w, go := go, demod := demod } ∧
      SameOrder (slotSweep b s) w ∧ w.start = if w.src = 2 ∧ b.imp.go = false then none else some (devF b) := by
  rw [balGates_imp, balGovern_imp, sweepAccept_starts asked idle policy code]
  by_cases held : getF b (F.IMP_DEF_SRC s) = 2 ∧ b.imp.go = false
  · obtain ⟨host, go⟩ := held
    rw [passStart_waits (b := hostAccepted s b) (w := slotSweep b s) rfl (by simp [slotSweep, host]) go]
    exact ⟨slotSweep b s, b.imp.go, b.imp.demod, rfl, .rfl, (if_pos ⟨host, go⟩).symm⟩
  · obtain ⟨w, demod, ⟨start, same⟩, imp⟩ := passStart_begins (b := hostAccepted s b) (w := slotSweep b s) rfl rfl
      fun waits => Bool.of_not_eq_false fun go => held ⟨beq_iff_eq.mp waits, go⟩
    refine ⟨w, false, demod, imp, same, ?_⟩
    rw [start, same.src]
    exact (if_neg held).symm

end

/-- Settles O37: each action of IMP_CTL by what its word asks for, a request by the sweep it is refused or becomes, a pass by `passStart_begins`, which holds of the
first pass as of the second, and a point by the record that `pointEnd` queues. -/
theorem impedanceSweeps : Obligations.ImpedanceSweeps := by
  unfold Obligations.ImpedanceSweeps
  intro b q
  refine ⟨fun v on => ?_, fun r d can resvd small gap addr tail => impSweep_waits q can resvd small gap addr tail, fun s runs asked idle next policy => ?_,
    fun s w sweep host => sweepCode_running sweep host s, fun w runs sweep => ⟨fun idle free => ?_, fun f start taken more free => ?_⟩,
    fun d rest refs cells runs idle due => ?_⟩
  · obtain ⟨start, abort, go⟩ := impCtl_actions v q on
    refine ⟨⟨_, start, ?_, regsBut_writeImpCtl _ b, (slot_writeImpCtl _ b).trans (slot_or v 4 (by decide))⟩, ⟨_, abort, ?_, regsBut_writeImpCtl _ b⟩,
      ⟨_, go, ?_, regsBut_writeImpCtl _ b⟩⟩
    · rw [← impAsked_start]
      exact writeImpCtl_asks _ b
    · rw [← impAsked_abort]
      exact writeImpCtl_asks _ b
    · rw [← impAsked_go]
      exact writeImpCtl_asks _ b
  · refine ⟨_, exec_sweepAccept q runs, ?_, by simp, by simp, fun code => ?_, fun code => ?_⟩
    all_goals rw [nextStart_none next]
    · by_cases code : sweepCode b s = 0
      · obtain ⟨w, go, demod, imp, -⟩ := sweepAccept_imp_accepted asked idle policy code
        rw [imp]
      · rw [sweepAccept_imp_refused asked idle policy code]
    · rw [sweepAccept_imp_refused asked idle policy code]
      exact ⟨idle, rfl, rfl⟩
    · obtain ⟨w, go, demod, imp, same, start⟩ := sweepAccept_imp_accepted asked idle policy code
      rw [imp]
      exact ⟨rfl, rfl, w, rfl, same.seq, same.policy, same.src, same.nCyc, same.point, same.pass, same.freqs, same.cells, start⟩
  · have same := passEnd_waiting sweep idle
    obtain ⟨w', demod, ⟨start, order⟩, imp⟩ := pass_begins_after_end (by rw [same]; exact sweep) idle (by rw [same]; exact free)
    refine ⟨_, w', exec_impPassStart q runs, ?_, start, order.pass, order.point, ?_, by simp, by simp⟩ <;> rw [imp]
  · have second := passEnd_second sweep start taken more
    obtain ⟨w', demod, ⟨start, order⟩, imp⟩ :=
      pass_begins_after_end (b := b) (w := { w with pass := w.pass + 1, start := none, excited := [] }) (by rw [second]; rfl) rfl (by rw [second]; exact free)
    rw [second] at imp
    refine ⟨_, w', exec_impPassStart q runs, ?_, start, order.pass, order.point, ?_⟩ <;> rw [second, imp]
    rfl
  · obtain ⟨r, record, typ, number, node, length⟩ := pointEnd_records refs cells due
    have kept := resultsOnly_pointKept refs cells d rest b
    have recs : (pointKept refs cells d rest b).recs = b.recs := by rw [show pointKept refs cells d rest b = _ from kept]; rfl
    have own : ownNode (pointKept refs cells d rest b) = ownNode b := (ownNode_resultsOnly kept).trans rfl
    refine ⟨_, r, (exec_impPointEnd refs cells q runs idle).trans (by rw [record]), queueRec_recs recs, typ, number, node.trans own, length, fun x => ?_, ?_⟩
    · rw [← mem_demod_pointTaken d rest b x, show pointKept refs cells d rest b = _ from kept]
      rfl
    · rw [show pointKept refs cells d rest b = _ from kept]
      rfl

end Sys2Proof

namespace Sys2Proof.Machine

section
variable {b c : Block} {as : List Nat} {f : Fld}

/-! A rebuild abandoned (R226): beside FEN_REBUILD it writes the bits of FEN_STATUS that speak of it. -/

theorem RegsBut.setR {a : Nat} {w : Word} (h : RegsBut as b c) (mem : a ∈ as := by decide) : RegsBut as b (setR a w c) :=
  fun a' out => (getR_setR_ne w c fun e => out (by rw [e]; exact mem)).trans (h a' out)
theorem RegsBut.addF {f : Fld} {n : Nat} (h : RegsBut as b c) (mem : f.reg ∈ as := by decide) : RegsBut as b (addF f n c) := h.setR mem
theorem RegsBut.writeBits {a : Nat} {v : Word} (h : RegsBut as b c) (mem : a ∈ as := by decide) : RegsBut as b (writeBits a v c) :=
  fun a' out => (getR_writeBits_ne v c fun e => out (by rw [e]; exact mem)).trans (h a' out)
theorem RegsBut.when {p : Bool} {g : Block → Block} (h : RegsBut as b c) (hg : ∀ c, RegsBut as b c → RegsBut as b (g c)) : RegsBut as b (when p g c) :=
  .ite (hg _ h) h
theorem RegsBut.abandonRebuild (h : RegsBut as b c) (status : R.FEN_STATUS ∈ as := by decide) (rebuild : R.FEN_REBUILD ∈ as := by decide) :
    RegsBut as b (abandonRebuild c) :=
  .when (.when h fun _ h => h.setF status) fun _ h => .setF (.addF h rebuild) status

theorem onlyRegs_abandonRebuild (b : Block) : abandonRebuild b = { b with regs := (abandonRebuild b).regs } := by
  unfold abandonRebuild
  dsimp only
  exact onlyRegs_trans (onlyRegs_when (fun _ => rfl) b) (onlyRegs_when (fun _ => rfl) _)

/-- Beside REBUILD_BUSY, SWAP_SRC and SWAP_PEND, FEN_STATUS stays. -/
theorem status_abandonRebuild (b : Block) (reg : f.reg = R.FEN_STATUS) (beside : f.lo + f.len ≤ 10 ∨ 13 ≤ f.lo) :
    getF (abandonRebuild b) f = getF b f := by
  have pend : ∀ x : Block, getF (setF F.FEN_STATUS_SWAP_PEND 0 x) f = getF x f := fun x =>
    getF_setF_beside F.FEN_STATUS_SWAP_PEND f 0 x (by decide) reg (by change _ ≤ 12 ∨ 13 ≤ _; omega)
  have busy : ∀ x : Block, getF (setF F.FEN_STATUS_REBUILD_BUSY 0 (addF F.FEN_REBUILD_ABANDON 1 x)) f = getF x f := fun x =>
    (getF_setF_beside F.FEN_STATUS_REBUILD_BUSY f 0 _ (by decide) reg (by change _ ≤ 10 ∨ 11 ≤ _; omega)).trans
      (getF_setF_ne F.FEN_REBUILD_ABANDON f _ x (by rw [reg]; decide))
  exact (when_proj (getF · f) _ _ _ (busy _)).trans (when_proj (getF · f) _ _ _ (pend _))

theorem busy_abandonRebuild (b : Block) : getF (abandonRebuild b) F.FEN_STATUS_REBUILD_BUSY = 0 := by
  unfold abandonRebuild
  generalize when (isF b F.FEN_STATUS_SWAP_PEND && !isF b F.FEN_STATUS_SWAP_SRC) (setF F.FEN_STATUS_SWAP_PEND 0) b = x
  dsimp only
  cases busy : isF x F.FEN_STATUS_REBUILD_BUSY with
  | true => exact getF_setF F.FEN_STATUS_REBUILD_BUSY 0 _ (by decide)
  | false => exact (isF_eq_false _ _).mp busy

/-! FEN_CTL (R216, R221, R226). -/

theorem regRow_FEN_CTL : regRow R.FEN_CTL = some ⟨0x10000, 1, 4, 1, 4, 0x321431, 0, 0xFF1F33, 0, 0, 0x40, 0⟩ := by decide

/-- The written word stored, its step length taken to be pending. -/
def stepAsked (v : Word) (b : Block) : Block :=
  putF F.FEN_STATUS_STEP_PEND (bitsOf v.toNat 0 2 != getF b F.FEN_STATUS_STEP_ACT) (writeBits R.FEN_CTL v b)

/-- The written word stored, its step length refused. -/
def stepDenied (v : Word) (b : Block) : Block :=
  setF F.FEN_STATUS_STEP_REFUSED 1 (setF F.FEN_CTL_STEP (getF b F.FEN_CTL_STEP) (writeBits R.FEN_CTL v b))

/-- The step length of the written word is taken (R221, R262). -/
def stepTaken (v : Word) (b : Block) : Prop := stepFits b (bitsOf v.toNat 0 2) = true ∧ imgState b ≠ 6

/-- RESUME kept for the boundary. -/
def resumeKept (v : Word) (b : Block) : Block := { b with fen := { b.fen with resume := b.fen.resume || bitOf v.toNat 6 } }

theorem stepFits_writeBits (v : Word) (b : Block) : stepFits (writeBits R.FEN_CTL v b) = stepFits b := by
  have valid : isF (writeBits R.FEN_CTL v b) F.FEN_STATUS_IMG_VALID = isF b F.FEN_STATUS_IMG_VALID :=
    congrArg (· != 0) (getF_writeBits_ne F.FEN_STATUS_IMG_VALID v b (by decide))
  have fen : (writeBits R.FEN_CTL v b).fen = b.fen := by simp
  funext code
  unfold stepFits
  rw [valid, fen]

theorem resumeKept_eq (v : Word) (b : Block) : resumeKept v b = if bitOf v.toNat 6 then { b with fen := { b.fen with resume := true } } else b := by
  unfold resumeKept
  cases bitOf v.toNat 6 <;> simp

/-- A write of FEN_CTL: its step length is taken or refused, and where it ends ADAPT_EN it ends a rebuild. -/
theorem writeFenCtl_cases (v : Word) (b : Block) : ∃ x p, writeFenCtl v b = when p abandonRebuild (resumeKept v x) ∧
    (stepTaken v b → x = stepAsked v b) ∧ (¬ stepTaken v b → x = stepDenied v b) := by
  have act : getF (writeBits R.FEN_CTL v b) F.FEN_STATUS_STEP_ACT = getF b F.FEN_STATUS_STEP_ACT := getF_writeBits_ne _ v b (by decide)
  have state : imgState (writeBits R.FEN_CTL v b) = imgState b := getF_writeBits_ne _ v b (by decide)
  unfold writeFenCtl
  dsimp only
  rw [stepFits_writeBits, state, act, ← resumeKept_eq]
  refine ⟨_, _, rfl, fun taken => if_neg ?_, fun denied => if_pos ?_⟩
  · simpa [stepTaken] using taken
  · unfold stepTaken at denied
    rw [not_and, not_not] at denied
    cases fits : stepFits b (bitsOf v.toNat 0 2) with
    | true => simp [denied fits]
    | false => simp

theorem stepAsked_shows (v : Word) (b : Block) : getF (stepAsked v b) F.FEN_STATUS_STEP_ACT = getF b F.FEN_STATUS_STEP_ACT ∧
    getF (stepAsked v b) F.FEN_CTL_FULL_EN = bitsOf v.toNat 4 1 ∧ getF (stepAsked v b) F.FEN_CTL_STEP = bitsOf v.toNat 0 2 ∧
    getF (stepAsked v b) F.FEN_STATUS_STEP_PEND = nat01 (bitsOf v.toNat 0 2 != getF b F.FEN_STATUS_STEP_ACT) := by
  have stored : ∀ g : Fld, g.reg = R.FEN_CTL → getF (stepAsked v b) g = getF (writeBits R.FEN_CTL v b) g := fun g reg =>
    getF_setF_ne F.FEN_STATUS_STEP_PEND g _ _ (by rw [reg]; decide)
  refine ⟨?_, (stored _ rfl).trans ?_, (stored _ rfl).trans ?_, ?_⟩
  · exact (getF_setF_at F.FEN_STATUS_STEP_PEND F.FEN_STATUS_STEP_ACT _ _).trans (getF_writeBits_ne F.FEN_STATUS_STEP_ACT v b (by decide))
  · exact getF_writeBits_rw F.FEN_CTL_FULL_EN v b _ rfl regRow_FEN_CTL (by decide) (by decide) (by decide)
  · exact getF_writeBits_rw F.FEN_CTL_STEP v b _ rfl regRow_FEN_CTL (by decide) (by decide) (by decide)
  · exact getF_putF F.FEN_STATUS_STEP_PEND _ _ (by decide) (by decide)

theorem stepDenied_shows (v : Word) (b : Block) : getF (stepDenied v b) F.FEN_STATUS_STEP_ACT = getF b F.FEN_STATUS_STEP_ACT ∧
    getF (stepDenied v b) F.FEN_CTL_FULL_EN = bitsOf v.toNat 4 1 ∧ getF (stepDenied v b) F.FEN_CTL_STEP = getF b F.FEN_CTL_STEP ∧
    getF (stepDenied v b) F.FEN_STATUS_STEP_REFUSED = 1 ∧ getF (stepDenied v b) F.FEN_STATUS_STEP_PEND = getF b F.FEN_STATUS_STEP_PEND := by
  have status : ∀ g : Fld, g.reg = R.FEN_STATUS → 29 ≤ g.lo → getF (stepDenied v b) g = getF b g := fun g reg above =>
    (getF_setF_beside F.FEN_STATUS_STEP_REFUSED g 1 _ (by decide) reg (.inr above)).trans
      ((getF_setF_ne F.FEN_CTL_STEP g _ _ (by rw [reg]; decide)).trans (getF_writeBits_ne g v b (by rw [reg]; decide)))
  refine ⟨status _ rfl (by decide), ?_, ?_, getF_setF F.FEN_STATUS_STEP_REFUSED 1 _ (by decide), status _ rfl (by decide)⟩
  · refine (getF_setF_ne F.FEN_STATUS_STEP_REFUSED F.FEN_CTL_FULL_EN _ _ (by decide)).trans ((getF_setF_at F.FEN_CTL_STEP F.FEN_CTL_FULL_EN _ _).trans ?_)
    exact getF_writeBits_rw F.FEN_CTL_FULL_EN v b _ rfl regRow_FEN_CTL (by decide) (by decide) (by decide)
  · refine (getF_setF_ne F.FEN_STATUS_STEP_REFUSED F.FEN_CTL_STEP _ _ (by decide)).trans ((getF_setF F.FEN_CTL_STEP _ _ (by decide)).trans ?_)
    exact Nat.mod_eq_of_lt (bitsOf_lt _ _ _)

theorem onlyRegs_stepAsked (v : Word) (b : Block) : stepAsked v b = { b with regs := (stepAsked v b).regs } := onlyRegs_trans (onlyRegs_writeBits R.FEN_CTL v b) rfl
theorem onlyRegs_stepDenied (v : Word) (b : Block) : stepDenied v b = { b with regs := (stepDenied v b).regs } := onlyRegs_trans (onlyRegs_writeBits R.FEN_CTL v b) rfl

/-- What a write of FEN_CTL may end of a rebuild leaves alone: all but registers, and among these FEN_CTL and the step length's bits of FEN_STATUS. -/
theorem abandoned_keeps (p : Bool) (x : Block) : when p abandonRebuild x = { x with regs := (when p abandonRebuild x).regs } ∧
    RegsBut [R.FEN_STATUS, R.FEN_REBUILD] x (when p abandonRebuild x) ∧
    (∀ g : Fld, g.reg = R.FEN_STATUS → 13 ≤ g.lo → getF (when p abandonRebuild x) g = getF x g) :=
  ⟨onlyRegs_when onlyRegs_abandonRebuild x, .when .rfl fun _ h => h.abandonRebuild,
    fun g reg above => when_proj (getF · g) _ _ _ (status_abandonRebuild x reg (.inr above))⟩

theorem fenCtlWritten_writeFenCtl (v : Word) (b : Block) : FenCtlWritten v b (writeFenCtl v b) := by
  obtain ⟨x, p, eq, asked, denied⟩ := writeFenCtl_cases v b
  have stored : x = { b with regs := x.regs } ∧ RegsBut [R.FEN_CTL, R.FEN_STATUS] b x ∧ getF x F.FEN_STATUS_STEP_ACT = getF b F.FEN_STATUS_STEP_ACT ∧
      getF x F.FEN_CTL_FULL_EN = bitsOf v.toNat 4 1 := by
    by_cases taken : stepTaken v b
    · obtain ⟨act, full, -⟩ := stepAsked_shows v b
      rw [asked taken]
      exact ⟨onlyRegs_stepAsked v b, .setF (f := F.FEN_STATUS_STEP_PEND) (.writeBits .rfl), act, full⟩
    · obtain ⟨act, full, -⟩ := stepDenied_shows v b
      rw [denied taken]
      exact ⟨onlyRegs_stepDenied v b, .setF (f := F.FEN_STATUS_STEP_REFUSED) (.setF (f := F.FEN_CTL_STEP) (.writeBits .rfl)), act, full⟩
  obtain ⟨only, regs, act, full⟩ := stored
  obtain ⟨only', regs', status⟩ := abandoned_keeps p (resumeKept v x)
  have ctl : ∀ g : Fld, g.reg = R.FEN_CTL → getF (when p abandonRebuild (resumeKept v x)) g = getF x g := fun g reg =>
    getF_of_getR (regs' g.reg (by rw [reg]; decide))
  rw [eq]
  refine ⟨?_, fun a out => ?_, (status _ rfl (by decide)).trans act, (ctl _ rfl).trans full, fun fits state => ?_, fun refused => ?_⟩
  · rw [only', only]
    rfl
  · obtain ⟨a1, a2, a3⟩ : a ≠ R.FEN_CTL ∧ a ≠ R.FEN_STATUS ∧ a ≠ R.FEN_REBUILD := by simpa using out
    exact (regs' a (by simp [a2, a3])).trans (regs a (by simp [a1, a2]))
  · obtain ⟨-, -, step, pend⟩ := stepAsked_shows v b
    rw [← asked ⟨fits, state⟩] at step pend
    exact ⟨(ctl _ rfl).trans step, (status _ rfl (by decide)).trans pend⟩
  · obtain ⟨-, -, step, told, pend⟩ := stepDenied_shows v b
    have refuses : ¬ stepTaken v b := fun ⟨fits, state⟩ => refused.elim (fun none => by simp [fits] at none) state
    rw [← denied refuses] at step told pend
    exact ⟨(ctl _ rfl).trans step, (status _ rfl (by decide)).trans told, (status _ rfl (by decide)).trans pend⟩

end
end Sys2Proof.Machine

namespace Sys2Proof.Machine

section
variable {b c : Block}

/-! FEN_NODE_SEL (R232). -/

theorem regRow_FEN_NODE_SEL : regRow R.FEN_NODE_SEL = some ⟨0x10040, 1, 4, 1, 4, 0, 0xF0000000, 0x7FFFFF, 0, 0, 0, 0⟩ := by decide

/-- A node's values come from the engine's state and from FEN_STATUS. -/
theorem nodeAt_congr (fen : c.fen = b.fen) (status : getR c R.FEN_STATUS = getR b R.FEN_STATUS) (i : Nat) : nodeAt c i = nodeAt b i := by
  have flag : ∀ f : Fld, f.reg = R.FEN_STATUS → isF c f = isF b f := fun f reg => congrArg (· != 0) (getF_of_getR (by rw [reg]; exact status))
  unfold nodeAt curHalf
  rw [fen, flag F.FEN_STATUS_IMG_VALID rfl, flag F.FEN_STATUS_HALF rfl]

/-- The registers that show a node of kind `k` with its two values. -/
def nodeShown (k v0 v1 : Nat) (b : Block) : Block :=
  setF F.FEN_NODE_SEL_VALID 1 (setF F.FEN_NODE_SEL_KIND k (setR R.FEN_NODE_V0 (w32 v0) (setR R.FEN_NODE_V1 (w32 v1) b)))

theorem nodeShown_shows (k v0 v1 : Nat) (b : Block) : getF (nodeShown k v0 v1 b) F.FEN_NODE_SEL_INDEX = getF b F.FEN_NODE_SEL_INDEX ∧
    getF (nodeShown k v0 v1 b) F.FEN_NODE_SEL_VALID = 1 ∧ getF (nodeShown k v0 v1 b) F.FEN_NODE_SEL_KIND = k % 8 ∧
    getR (nodeShown k v0 v1 b) R.FEN_NODE_V0 = w32 v0 ∧ getR (nodeShown k v0 v1 b) R.FEN_NODE_V1 = w32 v1 := by
  let x := setR R.FEN_NODE_V0 (w32 v0) (setR R.FEN_NODE_V1 (w32 v1) b)
  have values : ∀ a, a ≠ R.FEN_NODE_SEL → getR (nodeShown k v0 v1 b) a = getR x a := fun a other =>
    (getR_setF_ne F.FEN_NODE_SEL_VALID 1 _ other).trans (getR_setF_ne F.FEN_NODE_SEL_KIND k x other)
  refine ⟨?_, getF_setF F.FEN_NODE_SEL_VALID 1 _ (by decide), ?_, (values _ (by decide)).trans (getR_setR _ _ _), (values _ (by decide)).trans ?_⟩
  · refine (getF_setF_at F.FEN_NODE_SEL_VALID F.FEN_NODE_SEL_INDEX _ _).trans ((getF_setF_at F.FEN_NODE_SEL_KIND F.FEN_NODE_SEL_INDEX _ x).trans ?_)
    exact (getF_setR_ne F.FEN_NODE_SEL_INDEX _ _ _ (by decide)).trans (getF_setR_ne F.FEN_NODE_SEL_INDEX _ _ _ (by decide))
  · exact (getF_setF_at F.FEN_NODE_SEL_VALID F.FEN_NODE_SEL_KIND _ _).trans (getF_setF F.FEN_NODE_SEL_KIND k x (by decide))
  · exact (getR_setR_ne _ _ (by decide)).trans (getR_setR _ _ _)

theorem index_writeBits (v : Word) (b : Block) : getF (writeBits R.FEN_NODE_SEL v b) F.FEN_NODE_SEL_INDEX = bitsOf v.toNat 0 23 :=
  getF_writeBits_rw F.FEN_NODE_SEL_INDEX v b _ rfl regRow_FEN_NODE_SEL (by decide) (by decide) (by decide)

theorem writeNodeSel_eq (v : Word) (b : Block) : writeNodeSel v b =
    (let n := nodeAt b (bitsOf v.toNat 0 23); nodeShown n.1 n.2.1 n.2.2 (writeBits R.FEN_NODE_SEL v b)) := by
  have node := nodeAt_congr (c := writeBits R.FEN_NODE_SEL v b) (b := b) (by simp) (getR_writeBits_ne v b (by decide))
  rw [← node, ← index_writeBits v b]
  rfl

theorem writeNodeSel_shows (v : Word) (b : Block) : writeNodeSel v b = { b with regs := (writeNodeSel v b).regs } ∧
    RegsBut [R.FEN_NODE_SEL, R.FEN_NODE_V0, R.FEN_NODE_V1] b (writeNodeSel v b) ∧
    getF (writeNodeSel v b) F.FEN_NODE_SEL_INDEX = bitsOf v.toNat 0 23 ∧ getF (writeNodeSel v b) F.FEN_NODE_SEL_VALID = 1 ∧
    getF (writeNodeSel v b) F.FEN_NODE_SEL_KIND = (nodeAt b (bitsOf v.toNat 0 23)).1 % 8 ∧
    getR (writeNodeSel v b) R.FEN_NODE_V0 = w32 (nodeAt b (bitsOf v.toNat 0 23)).2.1 ∧
    getR (writeNodeSel v b) R.FEN_NODE_V1 = w32 (nodeAt b (bitsOf v.toNat 0 23)).2.2 := by
  rw [writeNodeSel_eq]
  generalize nodeAt b (bitsOf v.toNat 0 23) = n
  obtain ⟨index, shown⟩ := nodeShown_shows n.1 n.2.1 n.2.2 (writeBits R.FEN_NODE_SEL v b)
  refine ⟨onlyRegs_trans (onlyRegs_writeBits _ v b) rfl, ?_, index.trans (index_writeBits v b), shown⟩
  exact .setF (f := F.FEN_NODE_SEL_VALID) (.setF (f := F.FEN_NODE_SEL_KIND) (.setR (.setR (.writeBits .rfl))))

/-! FEN_THROTTLE_CHANGE (R218). -/

/-- The throttle turned on or off, which FEN_THROTTLE reports. -/
def throttleTurned (on : Bool) (b : Block) : Block := pulse Slot.fenThrottle 0 (putF F.FEN_STATUS_THROTTLE on b)

/-- The throttle that the temperature asks for (R218). -/
def throttleAsked (temp : Int) (b : Block) : Bool :=
  if 118 * 128 ≤ temp then true else if temp < 112 * 128 then false else isF b F.FEN_STATUS_THROTTLE

theorem throttle_held {temp : Int} (held : throttleAsked temp b = isF b F.FEN_STATUS_THROTTLE) : throttle temp b = b := if_pos held
theorem throttle_turned {temp : Int} (moved : throttleAsked temp b ≠ isF b F.FEN_STATUS_THROTTLE) : throttle temp b = throttleTurned (throttleAsked temp b) b :=
  if_neg moved

/-- A flag of one bit reads as its truth. -/
theorem getF_eq_nat01 {f : Fld} (len : f.len = 1) : getF b f = nat01 (isF b f) := by
  cases on : isF b f with
  | true => exact getF_eq_one len on
  | false => exact (isF_eq_false b f).mp on

theorem throttle_shows (temp : Int) (b : Block) : getF (throttle temp b) F.FEN_STATUS_THROTTLE = nat01 (throttleAsked temp b) ∧
    (getF (throttle temp b) F.FEN_STATUS_THROTTLE ≠ getF b F.FEN_STATUS_THROTTLE → (condOf (throttle temp b) Slot.fenThrottle).pulse = true) ∧
    RegsBut [R.FEN_STATUS] b (throttle temp b) ∧ RegsCond b (throttle temp b) := by
  by_cases held : throttleAsked temp b = isF b F.FEN_STATUS_THROTTLE
  · rw [throttle_held held, held]
    exact ⟨getF_eq_nat01 rfl, fun moved => absurd rfl moved, .rfl, .rfl⟩
  · rw [throttle_turned held]
    exact ⟨getF_putF F.FEN_STATUS_THROTTLE _ b (by decide) (by decide), fun _ => pulse_pulse _ _ _, .setF (f := F.FEN_STATUS_THROTTLE) .rfl, .pulse (.setF .rfl)⟩

theorem throttleAsked_hot {temp : Int} (hot : 118 * 128 ≤ temp) : throttleAsked temp b = true := if_pos hot
theorem throttleAsked_cool {temp : Int} (cool : temp < 112 * 128) : throttleAsked temp b = false := by
  unfold throttleAsked
  rw [if_neg (by omega), if_pos cool]
theorem throttleAsked_between {temp : Int} (above : 112 * 128 ≤ temp) (below : temp < 118 * 128) : throttleAsked temp b = isF b F.FEN_STATUS_THROTTLE := by
  unfold throttleAsked
  rw [if_neg (by omega), if_neg (by omega)]

/-! CURRENT_HOLD_LIMIT (R201). -/

/-- NOCUR set for the engine and reported. -/
def nocurShown (b : Block) : Block := setLevel Slot.fenNocur true 0 (setF F.FEN_STATUS_NOCUR 1 b)

theorem holdLimit_reached (held : 1000 ≤ b.fen.holds) (clear : isF b F.FEN_STATUS_NOCUR = false) :
    holdLimit b = each (span 1 192) (fun n => setF (F.FEN_CELL_STATUS_NOCUR n) 1) (nocurShown b) := if_pos ⟨held, by rw [clear]; rfl⟩
theorem holdLimit_idle (h : b.fen.holds < 1000 ∨ isF b F.FEN_STATUS_NOCUR = true) : holdLimit b = b := by
  refine if_neg fun ⟨held, clear⟩ => ?_
  rcases h with few | set
  · omega
  · simp [set] at clear

/-- The registers of two cells' states differ. -/
theorem cellStatus_ne {n m : Nat} (low : 1 ≤ n) (low' : 1 ≤ m) (other : n ≠ m) : R.FEN_CELL_STATUS n ≠ R.FEN_CELL_STATUS m := by
  unfold R.FEN_CELL_STATUS
  omega

theorem nocur_cells (b : Block) {n : Nat} (low : 1 ≤ n) (high : n ≤ 192) :
    getF (each (span 1 192) (fun n => setF (F.FEN_CELL_STATUS_NOCUR n) 1) b) (F.FEN_CELL_STATUS_NOCUR n) = 1 := by
  have own : ∀ m c, getF (setF (F.FEN_CELL_STATUS_NOCUR m) 1 c) (F.FEN_CELL_STATUS_NOCUR m) = 1 := fun m c => getF_setF _ 1 c (by decide : 18 + 1 ≤ 32)
  refine each_turn (P := fun _ => True) (R := fun _ _ => True) (Q := fun c => getF c (F.FEN_CELL_STATUS_NOCUR n) = 1) (mem_span.mpr ⟨low, high⟩)
    (List.pairwise_of_forall fun _ _ => trivial) trivial (fun _ _ _ _ _ => trivial) (fun c _ => own n c) fun m mem _ c set => ?_
  by_cases same : n = m
  · rw [same]
    exact own m c
  · exact (getF_setF_ne (F.FEN_CELL_STATUS_NOCUR m) (F.FEN_CELL_STATUS_NOCUR n) 1 c (cellStatus_ne low (mem_span.mp mem).1 same)).trans set

theorem holdLimit_shows (held : 1000 ≤ b.fen.holds) (clear : isF b F.FEN_STATUS_NOCUR = false) : getF (holdLimit b) F.FEN_STATUS_NOCUR = 1 ∧
    (condOf (holdLimit b) Slot.fenNocur).level = true ∧ (∀ n, 1 ≤ n → n ≤ 192 → getF (holdLimit b) (F.FEN_CELL_STATUS_NOCUR n) = 1) ∧
    RegsCond b (holdLimit b) := by
  rw [holdLimit_reached held clear]
  have engine : Spared 0x10004 0x10008 true (nocurShown b) (each (span 1 192) (fun n => setF (F.FEN_CELL_STATUS_NOCUR n) 1) (nocurShown b)) :=
    .each .rfl fun _ _ _ h => h.setF (out_of_base (by decide))
  have sl : (each (span 1 192) (fun n => setF (F.FEN_CELL_STATUS_NOCUR n) 1) (nocurShown b)).sl = (nocurShown b).sl := each_sl _ _ _ fun _ _ => rfl
  refine ⟨engine.getF.trans (getF_setF F.FEN_STATUS_NOCUR 1 b (by decide)), ?_, fun n => nocur_cells _, .each (.setLevel (.setF .rfl)) fun _ _ h => h.setF⟩
  unfold condOf
  rw [sl]
  exact level_setLevel Slot.fenNocur 0 true _

end
end Sys2Proof.Machine

namespace Sys2Proof.Machine

section
variable {b c : Block} {as : List Nat} {result : Nat}

/-! A swap cancelled (R262). -/

theorem RegsBut.noImage (h : RegsBut as b c) (status : R.FEN_STATUS ∈ as := by decide) (rebuild : R.FEN_REBUILD ∈ as := by decide) :
    RegsBut as b (noImage c) :=
  .setF (f := F.FEN_STATUS_IMG_VALID) (.when h fun _ h => h.abandonRebuild status rebuild) status
theorem RegsBut.cancelSwap (h : RegsBut as b c) (status : R.FEN_STATUS ∈ as := by decide) (rebuild : R.FEN_REBUILD ∈ as := by decide)
    (image : R.FEN_IMG_STATUS ∈ as := by decide) : RegsBut as b (cancelSwap result c) :=
  .ite h (.setF (f := F.FEN_STATUS_SWAP_PEND) (.setF (f := F.FEN_IMG_STATUS_SWAP_RESULT) (.setF (f := F.FEN_IMG_STATUS_STATE)
    (.when h fun _ h => .setF (f := F.FEN_STATUS_LAYOUT) (h.noImage status rebuild) status) image) image) status)

/-- No swap is asked for. -/
def askDropped (b : Block) : Block := { b with fen := { b.fen with swapAsk := false } }

theorem cancelSwap_idle (idle : imgState b ≠ 5 ∧ imgState b ≠ 6) : cancelSwap result b = askDropped b := if_pos idle

theorem imgState_cancelSwap (busy : imgState b = 5 ∨ imgState b = 6) : imgState (cancelSwap result b) = 3 := by
  have cancels : ¬ (imgState b ≠ 5 ∧ imgState b ≠ 6) := by omega
  refine (congrArg imgState (if_neg cancels)).trans ((getF_setF_ne F.FEN_STATUS_SWAP_PEND F.FEN_IMG_STATUS_STATE 0 _ (by decide)).trans ?_)
  exact (getF_setF_at F.FEN_IMG_STATUS_SWAP_RESULT F.FEN_IMG_STATUS_STATE result _).trans (getF_setF F.FEN_IMG_STATUS_STATE 3 _ (by decide))

/-- The integrator's count of held chain ticks and the image in staging. -/
def heldStaged (b : Block) : Nat × List (Nat × Word) := (b.fen.holds, b.fen.staged)

theorem heldStaged_abandonRebuild (b : Block) : heldStaged (abandonRebuild b) = heldStaged b := by
  rw [onlyRegs_abandonRebuild]
  rfl
theorem heldStaged_noImage (b : Block) : heldStaged (noImage b) = heldStaged b := when_proj heldStaged _ _ b (heldStaged_abandonRebuild b)
theorem heldStaged_cancelSwap (b : Block) : heldStaged (cancelSwap result b) = heldStaged b := by
  by_cases idle : imgState b ≠ 5 ∧ imgState b ≠ 6
  · exact (congrArg heldStaged (cancelSwap_idle idle)).trans rfl
  · exact (congrArg heldStaged (if_neg idle)).trans (when_proj heldStaged _ _ (askDropped b) (heldStaged_noImage (askDropped b)))

/-! Registers returned to their reset values (R230). -/

theorem getR_each_reset_of_mem {l : List Nat} {a : Nat} (b : Block) (mem : a ∈ l) : getR (each l (fun a => setR a (resetWord a)) b) a = resetWord a := by
  refine each_turn (P := fun _ => True) (R := fun _ _ => True) (Q := fun c => getR c a = resetWord a) mem (List.pairwise_of_forall fun _ _ => trivial) trivial
    (fun _ _ _ _ _ => trivial) (fun c _ => getR_setR a _ c) fun x _ _ c set => ?_
  rw [getR_setR_ite]
  split
  next same => rw [same]
  next => exact set

theorem getR_each_reset_of_not_mem {l : List Nat} {a : Nat} (b : Block) (out : a ∉ l) : getR (each l (fun a => setR a (resetWord a)) b) a = getR b a :=
  each_keeps (P := fun c => getR c a = getR b a) rfl fun _ mem c kept => (getR_setR_ne _ c fun same => out (by rw [same]; exact mem)).trans kept

theorem getR_resetBut_ne {kept a a' : Nat} (b : Block) (other : a' ≠ a) : getR (resetBut kept a b) a' = getR b a' := getR_setR_ne _ b other

/-- A field of a register reset in part reads from both words through the mask. -/
theorem getF_resetBut (kept : Nat) (f : Fld) (b : Block) (small : kept < 2 ^ 32) : getF (resetBut kept f.reg b) f =
    getF b f &&& bitsOf kept f.lo f.len ||| bitsOf (resetWord f.reg).toNat f.lo f.len &&& bitsOf (0xFFFFFFFF - kept) f.lo f.len := by
  have fits : (getR b f.reg).toNat &&& kept ||| (resetWord f.reg).toNat &&& (0xFFFFFFFF - kept) < 2 ^ 32 :=
    Nat.or_lt_two_pow (Nat.and_le_right.trans_lt small) (Nat.and_le_left.trans_lt (resetWord f.reg).isLt)
  rw [resetBut, getF_setR, w32_toNat, Nat.mod_eq_of_lt fits, bitsOf_or, bitsOf_and, bitsOf_and]
  rfl

/-- A field within the bits kept. -/
theorem getF_resetBut_kept {kept : Nat} (f : Fld) (b : Block) (small : kept < 2 ^ 32 := by decide) (within : bitsOf kept f.lo f.len = 2 ^ f.len - 1 := by decide)
    (spared : bitsOf (0xFFFFFFFF - kept) f.lo f.len = 0 := by decide) : getF (resetBut kept f.reg b) f = getF b f := by
  rw [getF_resetBut kept f b small, within, spared, Nat.and_zero, Nat.or_zero]
  exact and_full _ _ (bitsOf_lt _ _ _)

/-- A field outside the bits kept. -/
theorem getF_resetBut_reset {kept : Nat} (f : Fld) (b : Block) (small : kept < 2 ^ 32 := by decide) (outside : bitsOf kept f.lo f.len = 0 := by decide)
    (reset : bitsOf (0xFFFFFFFF - kept) f.lo f.len = 2 ^ f.len - 1 := by decide) : getF (resetBut kept f.reg b) f = bitsOf (resetWord f.reg).toNat f.lo f.len := by
  rw [getF_resetBut kept f b small, outside, reset, Nat.and_zero, Nat.zero_or]
  exact and_full _ _ (bitsOf_lt _ _ _)

/-- The registers reset whole are those of the cells, from 0x11000 on, and single ones below. -/
theorem not_mem_fenRegs {a : Nat} (low : a < 0x11000) (single : a ∉ fenRegs.take 23 := by decide) : a ∉ fenRegs := fun mem => by
  rcases List.mem_append.mp mem with named | ofCell
  · exact single named
  · obtain ⟨n, -, own⟩ := List.mem_flatMap.mp ofCell
    simp only [R.FEN_CELL_STATUS, R.FEN_CELL_BASE, R.FEN_FAST_SOC, R.FEN_FAST_RSER, List.mem_cons, List.not_mem_nil, or_false] at own
    omega

/-! The reset of the engine begins (R230). -/

/-- The engine without a step, a rebuild or a swap under way, its last check failed or not. -/
def engineStopped (bad : Bool) (b : Block) : Block :=
  { cancelSwap 5 (abandonRebuild b) with fen := { (cancelSwap 5 (abandonRebuild b)).fen with
      step := none, resume := false, crcBad := bad, reinitOn := [], wPast := false } }

/-- The registers of the engine at their reset values, but for what shows staging, the state region and the copies. -/
def engineRegsReset (b : Block) : Block :=
  resetBut (2 ^ 8) R.FEN_IMG_CTL (resetBut imgStatusKept R.FEN_IMG_STATUS (resetBut fenStatusKept R.FEN_STATUS (each fenRegs (fun a => setR a (resetWord a)) b)))

/-- The fast layer of every cell at its start. -/
def fastReset (b : Block) : Block :=
  each b.fen.cells (fun n b => putFast n { fastOf b n with z := 0, u := (fastOf b n).u.map fun _ => 0, owed := 0, openLoop := false } b) b

theorem fenResetStart_eq (bad : Bool) (b : Block) : fenResetStart bad b = setLevel Slot.fenNocur false 0 (setLevel Slot.fenHalt false 0
    (fastReset (when (imgState b == 5 || imgState b == 6) (setF F.FEN_IMG_STATUS_SWAP_RESULT 5) (engineRegsReset (engineStopped bad b))))) := rfl

/-- The step under way, the check's outcome, the integrator's count and the image in staging: what the reset's writes of registers and of the fast layer leave. -/
def enginePart (b : Block) : Option FenStep × Bool × Nat × List (Nat × Word) := (b.fen.step, b.fen.crcBad, heldStaged b)

theorem enginePart_fastReset (b : Block) : enginePart (fastReset b) = enginePart b := each_proj enginePart _ _ b fun _ _ => rfl
theorem enginePart_resetBut (kept a : Nat) (b : Block) : enginePart (resetBut kept a b) = enginePart b := rfl
theorem enginePart_setF (f : Fld) (v : Nat) (b : Block) : enginePart (setF f v b) = enginePart b := rfl
theorem enginePart_setLevel (i det : Nat) (on : Bool) (b : Block) : enginePart (setLevel i on det b) = enginePart b := rfl
theorem enginePart_engineRegsReset (b : Block) : enginePart (engineRegsReset b) = enginePart b := by
  rw [engineRegsReset, enginePart_resetBut, enginePart_resetBut, enginePart_resetBut]
  exact each_proj enginePart _ _ _ fun _ _ => rfl

theorem enginePart_engineStopped (bad : Bool) (b : Block) : enginePart (engineStopped bad b) = (none, bad, heldStaged b) := by
  rw [← heldStaged_abandonRebuild b, ← heldStaged_cancelSwap (result := 5)]
  rfl

/-- What the reset leaves of the engine's step, its check, the integrator's count and staging. -/
theorem fen_fenResetStart (bad : Bool) (b : Block) : let c := fenResetStart bad b
    c.fen.step = none ∧ c.fen.crcBad = bad ∧ c.fen.holds = b.fen.holds ∧ c.fen.staged = b.fen.staged := by
  have parts : enginePart (fenResetStart bad b) = (none, bad, heldStaged b) := by
    rw [fenResetStart_eq, enginePart_setLevel, enginePart_setLevel, enginePart_fastReset, when_proj enginePart _ _ _ (enginePart_setF _ _ _),
      enginePart_engineRegsReset, enginePart_engineStopped]
  simpa [enginePart, heldStaged] using parts

theorem getR_engineStopped (bad : Bool) (b : Block) {a : Nat} (out : a ∉ [R.FEN_STATUS, R.FEN_REBUILD, R.FEN_IMG_STATUS]) : getR (engineStopped bad b) a = getR b a :=
  (RegsBut.cancelSwap (.abandonRebuild .rfl) : RegsBut _ b (cancelSwap 5 (abandonRebuild b))) a out

theorem imgState_abandonRebuild (b : Block) : imgState (abandonRebuild b) = imgState b :=
  getF_of_getR ((RegsBut.rfl.abandonRebuild : RegsBut [R.FEN_STATUS, R.FEN_REBUILD] b _) R.FEN_IMG_STATUS (by decide))

theorem imgState_engineStopped (bad : Bool) (b : Block) :
    (imgState b = 5 ∨ imgState b = 6 → imgState (engineStopped bad b) = 3) ∧ (imgState b < 5 → imgState (engineStopped bad b) = imgState b) := by
  have state := imgState_abandonRebuild b
  refine ⟨fun busy => imgState_cancelSwap (b := abandonRebuild b) (by rwa [state]), fun idle => ?_⟩
  refine (congrArg imgState (cancelSwap_idle (b := abandonRebuild b) (result := 5) ?_)).trans state
  rw [state]
  omega

/-- What the registers show of a block whose engine's registers are reset. -/
theorem engineRegsReset_shows (b : Block) : getR (engineRegsReset b) R.FEN_STEP_NUM = resetWord R.FEN_STEP_NUM ∧
    getF (engineRegsReset b) F.FEN_STATUS_HALTED = 0 ∧ getF (engineRegsReset b) F.FEN_IMG_CTL_SIG_REQ = getF b F.FEN_IMG_CTL_SIG_REQ ∧
    imgState (engineRegsReset b) = imgState b := by
  refine ⟨?_, ?_, (getF_resetBut_kept F.FEN_IMG_CTL_SIG_REQ _).trans (getF_of_getR ?_), ?_⟩
  · rw [engineRegsReset, getR_resetBut_ne _ (by decide), getR_resetBut_ne _ (by decide), getR_resetBut_ne _ (by decide)]
    exact getR_each_reset_of_mem b (List.mem_append_left _ List.mem_cons_self)
  · have reset : bitsOf (resetWord R.FEN_STATUS).toNat 15 1 = 0 := by decide
    refine (getF_of_getR (b := resetBut fenStatusKept R.FEN_STATUS (each fenRegs (fun a => setR a (resetWord a)) b)) ?_).trans
      ((getF_resetBut_reset F.FEN_STATUS_HALTED _).trans reset)
    exact (getR_resetBut_ne _ (by decide)).trans (getR_resetBut_ne _ (by decide))
  · refine (getR_resetBut_ne _ (by decide)).trans ((getR_resetBut_ne _ (by decide)).trans ?_)
    exact getR_each_reset_of_not_mem b (not_mem_fenRegs (by decide))
  · refine (getF_of_getR (f := F.FEN_IMG_STATUS_STATE) (getR_resetBut_ne _ (by decide))).trans ((getF_resetBut_kept F.FEN_IMG_STATUS_STATE _).trans (getF_of_getR ?_))
    exact (getR_resetBut_ne _ (by decide)).trans (getR_each_reset_of_not_mem b (not_mem_fenRegs (by decide)))

/-- The registers of a block whose engine's reset has begun. -/
theorem regs_fenResetStart (bad : Bool) (b : Block) : (fenResetStart bad b).regs =
    (when (imgState b == 5 || imgState b == 6) (setF F.FEN_IMG_STATUS_SWAP_RESULT 5) (engineRegsReset (engineStopped bad b))).regs :=
  each_regs _ _ _ fun _ _ => rfl

/-- A reset of the engine: its registers, and what it cancels (R230, R262). -/
theorem regs_fenResetStart_show (bad : Bool) (b : Block) : let c := fenResetStart bad b
    getR c R.FEN_STEP_NUM = resetWord R.FEN_STEP_NUM ∧ getF c F.FEN_STATUS_HALTED = 0 ∧ getF c F.FEN_IMG_CTL_SIG_REQ = getF b F.FEN_IMG_CTL_SIG_REQ ∧
      (imgState b = 5 ∨ imgState b = 6 → imgState c = 3 ∧ getF c F.FEN_IMG_STATUS_SWAP_RESULT = 5) ∧ (imgState b < 5 → imgState c = imgState b) := by
  intro c
  obtain ⟨num, halted, sig, state⟩ := engineRegsReset_shows (engineStopped bad b)
  obtain ⟨cancelled, kept⟩ := imgState_engineStopped bad b
  have told : RegsBut [R.FEN_IMG_STATUS] (engineRegsReset (engineStopped bad b)) c := fun a out => by
    rw [getR_congr (regs_fenResetStart bad b)]
    exact (RegsBut.rfl.when fun _ h => h.setF (f := F.FEN_IMG_STATUS_SWAP_RESULT) (v := 5)) a out
  refine ⟨(told _ (by decide)).trans num, (getF_of_getR (told _ (by decide))).trans halted, ?_, fun busy => ?_, fun idle => ?_⟩
  · exact (getF_of_getR (told _ (by decide))).trans (sig.trans (getF_of_getR (getR_engineStopped bad b (by decide))))
  · have set : c.regs = (setF F.FEN_IMG_STATUS_SWAP_RESULT 5 (engineRegsReset (engineStopped bad b))).regs := by
      rw [regs_fenResetStart, show (imgState b == 5 || imgState b == 6) = true by simpa using busy, when_true]
    refine ⟨(getF_congr set _).trans ((getF_setF_at F.FEN_IMG_STATUS_SWAP_RESULT F.FEN_IMG_STATUS_STATE 5 _).trans (state.trans (cancelled busy))), ?_⟩
    exact (getF_congr set _).trans (getF_setF F.FEN_IMG_STATUS_SWAP_RESULT 5 _ (by decide))
  · have set : c.regs = (engineRegsReset (engineStopped bad b)).regs := by
      rw [regs_fenResetStart, show (imgState b == 5 || imgState b == 6) = false by simp; omega, when_false]
    exact (getF_congr set _).trans (state.trans (kept idle))

/-! BLOCK_RESET (R465). -/

/-- The reset of a domain owed no longer but under way. -/
def resetMarked (d : Domain) (b : Block) : Block :=
  { b with sl := { b.sl with blkOwed := b.sl.blkOwed.filter (· ≠ d), blkRun := b.sl.blkRun ++ [(d, devF b + resetFrames d)] } }

theorem resetStart_marked (d : Domain) (bad : Bool) (b : Block) : ∃ x, resetStart d bad b = resetMarked d x := by
  cases d <;> exact ⟨_, rfl⟩

theorem blockReset_owed {d : Domain} {bad : Bool} (owed : d ∈ b.sl.blkOwed) : blockReset d bad b = resetStart d bad b := if_pos (List.contains_iff_mem.mpr owed)
theorem blockReset_idle {d : Domain} {bad : Bool} (none : d ∉ b.sl.blkOwed) (free : d ≠ .fen ∨ fenReset b = false) : blockReset d bad b = b := by
  unfold blockReset
  rw [if_neg (fun owed => none (List.contains_iff_mem.mp owed)), if_neg]
  rintro ⟨rfl, running⟩
  rcases free with other | free
  · exact other rfl
  · simp [free] at running

theorem resetStart_begins (d : Domain) (bad : Bool) (b : Block) :
    d ∉ (resetStart d bad b).sl.blkOwed ∧ (d, devF b + resetFrames d) ∈ (resetStart d bad b).sl.blkRun := by
  obtain ⟨x, eq⟩ := resetStart_marked d bad b
  have frame : devF b = devF x := by
    have ticks : (resetStart d bad b).clock.ticks = b.clock.ticks := by simp
    rw [eq] at ticks
    exact congrArg (· / 512) ticks.symm
  rw [eq, frame]
  exact ⟨by simp [resetMarked], List.mem_append_right _ List.mem_cons_self⟩

end
end Sys2Proof.Machine

namespace Sys2Proof
open Machine

/-- Settles O54: a write of FEN_CTL, of FEN_NODE_SEL, the throttle, the hold limit and a block reset each by the lemma that says what it leaves; the reset of the engine
cancels through `engineStopped` and returns the registers through `engineRegsReset`. -/
theorem fenControl : Obligations.FenControl := by
  intro b q
  refine ⟨fun v on => ⟨⟨_, ?_, fenCtlWritten_writeFenCtl v b⟩, ⟨_, ?_, fenCtlWritten_writeFenCtl (v ||| 64) b⟩⟩,
    fun v on => ⟨_, ?_, writeNodeSel_shows v b⟩,
    fun runs => ⟨fun temp => ?_, fun held clear => ?_, fun idle => ?_, fun d bad owed => ?_, fun d bad none free => ?_⟩⟩
  · simp only [exec, execFenStepWrite, run_eq, on, if_true]
  · simp only [exec, execFenResume, run_eq, on, if_true]
  · simp only [exec, execFenNodeSel, run_eq, on, if_true]
  · obtain ⟨shown, source, regs, all⟩ := throttle_shows temp b
    refine ⟨throttle temp b, ?_, fun hot => ?_, fun cool => ?_, fun above below => throttle_held (throttleAsked_between above below), source, regs, all⟩
    · simp only [exec, execFenThrottleChange, run_eq, inFrame_of_framesRun runs]
    · rw [shown, throttleAsked_hot hot]
      rfl
    · rw [shown, throttleAsked_cool cool]
      rfl
  · exact ⟨holdLimit b, by simp only [exec, execCurrentHoldLimit, run_eq, inFrame_of_framesRun runs], holdLimit_shows held clear⟩
  · simp only [exec, execCurrentHoldLimit, run_eq, inFrame_of_framesRun runs, holdLimit_idle idle]
  · obtain ⟨settled, begun⟩ := resetStart_begins d bad b
    refine ⟨resetStart d bad b, ?_, settled, begun, by simp, by simp, by simp, ?_, ?_, ?_⟩
    · simp only [exec, execBlockReset, run_eq, inFrame_of_framesRun runs, blockReset_owed owed]
    · rintro rfl
      obtain ⟨step, crc, holds, staged⟩ := fen_fenResetStart bad b
      obtain ⟨num, halted, sig, cancelled, kept⟩ := regs_fenResetStart_show bad b
      exact ⟨step, crc, num, halted, holds, staged, sig, cancelled, kept⟩
    · rintro rfl
      exact getF_setF F.CW_RF_STATUS_ACTIVE 0 _ (by decide)
    · rintro rfl
      rfl
  · simp only [exec, execBlockReset, run_eq, inFrame_of_framesRun runs, blockReset_idle none free]

end Sys2Proof

namespace Sys2Proof.Machine

section
variable {b c : Block}

/-! ADAPT_REBUILD_START (R224, R226). -/

theorem rebuildStart_begins (adapt : isF b F.FEN_CTL_ADAPT_EN = true) (image : isF b F.FEN_STATUS_IMG_VALID = true) (power : b.pwr.state = .run)
    (idle : isF b F.FEN_STATUS_REBUILD_BUSY = false) (builds : imgState b ≠ 5) (swaps : imgState b ≠ 6) (asked : b.fen.swapAsk = false)
    (pend : isF b F.FEN_STATUS_SWAP_PEND = false) (app : isF b F.BIST_FAILED_APP = false) (reset : fenReset b = false) :
    rebuildStart b = setF F.FEN_STATUS_REBUILD_BUSY 1 { b with fen := { b.fen with other := b.fen.own } } := by
  unfold imgState at builds swaps
  simp [rebuildStart, adapt, image, power, idle, builds, swaps, asked, pend, app, reset]

theorem rebuildStart_barred (h : isF b F.FEN_CTL_ADAPT_EN = false ∨ isF b F.FEN_STATUS_IMG_VALID = false ∨ b.pwr.state ≠ .run ∨
    isF b F.FEN_STATUS_REBUILD_BUSY = true ∨ imgState b = 5 ∨ imgState b = 6 ∨ b.fen.swapAsk = true ∨ isF b F.FEN_STATUS_SWAP_PEND = true ∨
    isF b F.BIST_FAILED_APP = true ∨ fenReset b = true) : rebuildStart b = b := by
  unfold imgState at h
  refine if_neg fun free => ?_
  simp only [Bool.and_eq_true, beq_iff_eq, bne_iff_ne, Bool.not_eq_true'] at free
  obtain ⟨⟨⟨⟨⟨⟨⟨⟨⟨adapt, image⟩, power⟩, idle⟩, builds⟩, swaps⟩, asked⟩, pend⟩, app⟩, reset⟩ := free
  simp [adapt, image, power, idle, builds, swaps, asked, pend, app, reset] at h

/-! ADAPT_REBUILD_DONE (R224, R225). -/

/-- The words of a cell after its refit: those of the adaptable tables take the refit's. -/
def refitWords (b : Block) (c : RefitCell) : List (Nat × Word) :=
  (c.words.filter fun w => (adaptValues b.fen.image (classOf b (c.cell.val + 1))).contains (4 * w.1)).foldl
    (fun x w => mapPut (fun i => mapGet (fun _ => (0 : Word)) b.fen.image i) x w.1 w.2) (mapGet (fun _ => []) b.fen.other (c.cell.val + 1))

/-- The inactive copy with the words of the cells that there is something to refit from. -/
def refitCopy (cells : List RefitCell) (b : Block) : List (Nat × List (Nat × Word)) :=
  (cells.filter fun c => b.fen.cells.contains (c.cell.val + 1) && refitInput b (c.cell.val + 1)).foldl
    (fun l c => mapPut (fun _ => []) l (c.cell.val + 1) (refitWords b c)) b.fen.other

/-- The rebuild ended, its copy kept. -/
def refitted (cells : List RefitCell) (b : Block) : Block :=
  setF F.FEN_STATUS_REBUILD_BUSY 0 { b with fen := { b.fen with other := refitCopy cells b } }

/-- The copy may be swapped in (R225). -/
def copyGood (cells : List RefitCell) (ok : Bool) (b : Block) : Prop :=
  ok = true ∧ ∀ n ∈ b.fen.cells, withinLimits b.fen.image (mapGet (fun _ => []) (refitCopy cells b) n) (classOf b n) = true

theorem rebuildDone_idle {cells : List RefitCell} {ok : Bool} (idle : isF b F.FEN_STATUS_REBUILD_BUSY = false) : rebuildDone cells ok b = b :=
  if_pos (by rw [idle]; rfl)

theorem rebuildDone_cases {cells : List RefitCell} {ok : Bool} (busy : isF b F.FEN_STATUS_REBUILD_BUSY = true) :
    (copyGood cells ok b → rebuildDone cells ok b = setF F.FEN_STATUS_SWAP_SRC 0 (setF F.FEN_STATUS_SWAP_PEND 1 (refitted cells b))) ∧
    (¬ copyGood cells ok b → rebuildDone cells ok b = pulse Slot.fenRebuild 0 (addF F.FEN_REBUILD_FAIL 1 (refitted cells b))) := by
  have judged : copyGood cells ok b ↔
      (ok && b.fen.cells.all fun n => withinLimits b.fen.image (mapGet (fun _ => []) (refitCopy cells b) n) (classOf b n)) = true := by
    simp [copyGood]
  have begun : ¬ (!isF b F.FEN_STATUS_REBUILD_BUSY) = true := by simp [busy]
  exact ⟨fun good => (if_neg begun).trans (if_pos (judged.mp good)), fun bad => (if_neg begun).trans (if_neg fun good => bad (judged.mpr good))⟩

/-- A cell without anything to refit from keeps its words (R224). -/
theorem refitCopy_kept (cells : List RefitCell) {n : Nat} (none : refitInput b n = false) :
    mapGet (fun _ => []) (refitCopy cells b) n = mapGet (fun _ => []) b.fen.other n := by
  unfold refitCopy
  refine List.foldlRecOn (motive := fun l => mapGet (fun _ => []) l n = mapGet (fun _ => []) b.fen.other n) _ _ rfl fun l kept c mem => ?_
  have refits : refitInput b (c.cell.val + 1) = true := (Bool.and_eq_true_iff.mp (List.mem_filter.mp mem).2).2
  exact (mapGet_mapPut_ne _ _ _ fun same => by rw [same, refits] at none; cases none).trans kept

/-- The end of a rebuild: a swap that waits, or a failure counted (R225). -/
theorem rebuildDone_shows (cells : List RefitCell) (ok : Bool) (busy : isF b F.FEN_STATUS_REBUILD_BUSY = true) : let c := rebuildDone cells ok b
    getF c F.FEN_STATUS_REBUILD_BUSY = 0 ∧ c.fen = { b.fen with other := refitCopy cells b } ∧
      c = { b with regs := c.regs, fen := c.fen, sl := { b.sl with cond := c.sl.cond } } ∧
      (copyGood cells ok b → getF c F.FEN_STATUS_SWAP_PEND = 1 ∧ getF c F.FEN_STATUS_SWAP_SRC = 0 ∧ getR c R.FEN_REBUILD = getR b R.FEN_REBUILD) ∧
      (¬ copyGood cells ok b → getF c F.FEN_REBUILD_FAIL = min (getF b F.FEN_REBUILD_FAIL + 1) 255 ∧ (condOf c Slot.fenRebuild).pulse = true ∧
        getF c F.FEN_STATUS_SWAP_PEND = getF b F.FEN_STATUS_SWAP_PEND) := by
  intro c
  obtain ⟨swaps, fails⟩ := rebuildDone_cases (cells := cells) (ok := ok) busy
  have ended : getF (refitted cells b) F.FEN_STATUS_REBUILD_BUSY = 0 := getF_setF F.FEN_STATUS_REBUILD_BUSY 0 _ (by decide)
  by_cases good : copyGood cells ok b
  · rw [show c = _ from swaps good]
    refine ⟨?_, rfl, rfl, fun _ => ⟨?_, getF_setF F.FEN_STATUS_SWAP_SRC 0 _ (by decide), ?_⟩, fun bad => absurd good bad⟩
    · exact (getF_setF_at F.FEN_STATUS_SWAP_SRC F.FEN_STATUS_REBUILD_BUSY 0 _).trans ((getF_setF_at F.FEN_STATUS_SWAP_PEND F.FEN_STATUS_REBUILD_BUSY 1 _).trans ended)
    · exact (getF_setF_at F.FEN_STATUS_SWAP_SRC F.FEN_STATUS_SWAP_PEND 0 _).trans (getF_setF F.FEN_STATUS_SWAP_PEND 1 _ (by decide))
    · exact (getR_setF_ne F.FEN_STATUS_SWAP_SRC 0 _ (by decide)).trans ((getR_setF_ne F.FEN_STATUS_SWAP_PEND 1 _ (by decide)).trans
        (getR_setF_ne F.FEN_STATUS_REBUILD_BUSY 0 _ (by decide)))
  · rw [show c = _ from fails good]
    have status : ∀ f : Fld, f.reg = R.FEN_STATUS → getF (pulse Slot.fenRebuild 0 (addF F.FEN_REBUILD_FAIL 1 (refitted cells b))) f = getF (refitted cells b) f :=
      fun f reg => getF_setF_ne F.FEN_REBUILD_FAIL f _ _ (by rw [reg]; decide)
    refine ⟨(status _ rfl).trans ended, rfl, rfl, fun fine => absurd fine good, fun _ => ⟨?_, pulse_pulse _ _ _, (status _ rfl).trans ?_⟩⟩
    · refine (getF_addF F.FEN_REBUILD_FAIL 1 (refitted cells b) (by decide)).trans ?_
      rw [show getF (refitted cells b) F.FEN_REBUILD_FAIL = getF b F.FEN_REBUILD_FAIL from getF_setF_ne F.FEN_STATUS_REBUILD_BUSY F.FEN_REBUILD_FAIL 0 _ (by decide)]
      rfl
    · exact getF_setF_at F.FEN_STATUS_REBUILD_BUSY F.FEN_STATUS_SWAP_PEND 0 _

/-! IMAGE_BUILD_START (R226, R257). -/

theorem buildStart_none (none : b.fen.swapAsk = false) : buildStart b = b := if_pos (by rw [none]; rfl)
theorem buildStart_drops (asked : b.fen.swapAsk = true) (state : imgState b ≠ 3) : buildStart b = askDropped b :=
  (if_neg (by simp [asked])).trans (if_pos state)
theorem buildStart_builds (asked : b.fen.swapAsk = true) (state : imgState b = 3) : buildStart b = setImgState 5 (abandonRebuild (askDropped b)) :=
  (if_neg (by simp [asked])).trans (if_neg (not_not.mpr state))

/-- A build that begins ends a rebuild. -/
theorem buildStart_shows (asked : b.fen.swapAsk = true) : buildStart b = { b with regs := (buildStart b).regs, fen := { b.fen with swapAsk := false } } ∧
    (imgState b = 3 → imgState (buildStart b) = 5 ∧ getF (buildStart b) F.FEN_STATUS_REBUILD_BUSY = 0) ∧ (imgState b ≠ 3 → (buildStart b).regs = b.regs) := by
  by_cases state : imgState b = 3
  · rw [buildStart_builds asked state]
    refine ⟨?_, fun _ => ⟨getF_setF F.FEN_IMG_STATUS_STATE 5 _ (by decide), ?_⟩, fun other => absurd state other⟩
    · exact (onlyRegs_trans (onlyRegs_abandonRebuild (askDropped b)) rfl).trans rfl
    · exact (getF_setF_ne F.FEN_IMG_STATUS_STATE F.FEN_STATUS_REBUILD_BUSY 5 _ (by decide)).trans (busy_abandonRebuild _)
  · rw [buildStart_drops asked state]
    exact ⟨rfl, fun valid => absurd valid state, fun _ => rfl⟩

/-! IMAGE_BUILD_DONE (R252, R253, R258). -/

/-- The copy built for the staged image. -/
def copyBuilt (b : Block) : Block :=
  { b with fen := { b.fen with other := (presentCells b).foldl (fun l n => mapPut (fun _ => []) l n (keptWords b n)) [] } }

/-- Where the staged image does not fit (R252, R258). -/
def stagedFit (b : Block) : Option Nat := chkFit b.fen.staged (presentCells b) (stepMs (getF b F.FEN_CTL_STEP))

/-- The build fails: the image stays VALID, with the result. -/
def buildFailed (result : Nat) (b : Block) : Block := setF F.FEN_IMG_STATUS_SWAP_RESULT result (setImgState 3 (copyBuilt b))

/-- The copy built waits to be swapped in. -/
def swapPending (b : Block) : Block := setImgState 6 (setF F.FEN_STATUS_SWAP_SRC 1 (setF F.FEN_STATUS_SWAP_PEND 1 (copyBuilt b)))

theorem buildDone_idle {ok : Bool} (idle : imgState b ≠ 5 ∨ memOut b = true) : buildDone ok b = b := if_pos (by simpa using idle)

theorem buildDone_builds (ok : Bool) (builds : imgState b = 5) (near : memOut b = false) :
    buildDone ok b = if !ok then buildFailed 7 b else if (stagedFit b).isSome then buildFailed 6 b else swapPending b := by
  have begun : ¬ (decide (imgState b ≠ 5) || memOut b) = true := by simp [builds, near]
  exact if_neg begun

theorem buildFailed_shows (result : Nat) (b : Block) :
    buildFailed result b = { b with regs := (buildFailed result b).regs, fen := { b.fen with other := (buildFailed result b).fen.other } } ∧
    RegsBut [R.FEN_IMG_STATUS, R.FEN_STATUS] b (buildFailed result b) ∧ imgState (buildFailed result b) = 3 ∧
    getF (buildFailed result b) F.FEN_IMG_STATUS_SWAP_RESULT = result % 16 ∧ getR (buildFailed result b) R.FEN_STATUS = getR b R.FEN_STATUS := by
  have regs : RegsBut [R.FEN_IMG_STATUS] b (buildFailed result b) := .setF (f := F.FEN_IMG_STATUS_SWAP_RESULT) (.setF (f := F.FEN_IMG_STATUS_STATE) .rfl)
  refine ⟨rfl, fun a out => regs a fun mem => out (List.mem_append_left [_] mem), ?_,
    getF_setF F.FEN_IMG_STATUS_SWAP_RESULT result _ (by decide), regs _ (by decide)⟩
  exact (getF_setF_at F.FEN_IMG_STATUS_SWAP_RESULT F.FEN_IMG_STATUS_STATE result _).trans (getF_setF F.FEN_IMG_STATUS_STATE 3 _ (by decide))

theorem swapPending_shows (b : Block) : swapPending b = { b with regs := (swapPending b).regs, fen := { b.fen with other := (swapPending b).fen.other } } ∧
    RegsBut [R.FEN_IMG_STATUS, R.FEN_STATUS] b (swapPending b) ∧ imgState (swapPending b) = 6 ∧
    getF (swapPending b) F.FEN_STATUS_SWAP_PEND = 1 ∧ getF (swapPending b) F.FEN_STATUS_SWAP_SRC = 1 := by
  refine ⟨rfl, .setF (f := F.FEN_IMG_STATUS_STATE) (.setF (f := F.FEN_STATUS_SWAP_SRC) (.setF (f := F.FEN_STATUS_SWAP_PEND) .rfl)),
    getF_setF F.FEN_IMG_STATUS_STATE 6 _ (by decide), ?_, ?_⟩
  · exact (getF_setF_ne F.FEN_IMG_STATUS_STATE F.FEN_STATUS_SWAP_PEND 6 _ (by decide)).trans
      ((getF_setF_at F.FEN_STATUS_SWAP_SRC F.FEN_STATUS_SWAP_PEND 1 _).trans (getF_setF F.FEN_STATUS_SWAP_PEND 1 _ (by decide)))
  · exact (getF_setF_ne F.FEN_IMG_STATUS_STATE F.FEN_STATUS_SWAP_SRC 6 _ (by decide)).trans (getF_setF F.FEN_STATUS_SWAP_SRC 1 _ (by decide))

/-- The outcome of a build. -/
theorem buildDone_shows (ok : Bool) (builds : imgState b = 5) (near : memOut b = false) : let c := buildDone ok b
    c = { b with regs := c.regs, fen := { b.fen with other := c.fen.other } } ∧ RegsBut [R.FEN_IMG_STATUS, R.FEN_STATUS] b c ∧
      (ok = false → imgState c = 3 ∧ getF c F.FEN_IMG_STATUS_SWAP_RESULT = 7 ∧ getR c R.FEN_STATUS = getR b R.FEN_STATUS) ∧
      (ok = true → stagedFit b ≠ none → imgState c = 3 ∧ getF c F.FEN_IMG_STATUS_SWAP_RESULT = 6 ∧ getR c R.FEN_STATUS = getR b R.FEN_STATUS) ∧
      (ok = true → stagedFit b = none → imgState c = 6 ∧ getF c F.FEN_STATUS_SWAP_PEND = 1 ∧ getF c F.FEN_STATUS_SWAP_SRC = 1) := by
  intro c
  have built : c = _ := buildDone_builds ok builds near
  cases ok with
  | false =>
    obtain ⟨frame, regs, state, told, status⟩ := buildFailed_shows 7 b
    rw [show c = buildFailed 7 b from built]
    exact ⟨frame, regs, fun _ => ⟨state, told, status⟩, nofun, nofun⟩
  | true =>
    cases fit : stagedFit b with
    | some misfit =>
      obtain ⟨frame, regs, state, told, status⟩ := buildFailed_shows 6 b
      rw [show c = buildFailed 6 b by rw [built, fit]; rfl]
      exact ⟨frame, regs, nofun, fun _ _ => ⟨state, told, status⟩, nofun⟩
    | none =>
      obtain ⟨frame, regs, waits⟩ := swapPending_shows b
      rw [show c = swapPending b by rw [built, fit]; rfl]
      exact ⟨frame, regs, nofun, fun _ some => absurd rfl some, fun _ _ => waits⟩

/-! LAYOUT_STEP_DONE (R227, R259, R263). -/

/-- The layout step counted as a step that is done. -/
def layoutCounted (b : Block) : Block := stepDone { b with fen := { b.fen with step := none } }

/-- FEN_STATUS with an image in force and no layout under way. -/
def layoutOver (b : Block) : Block := setF F.FEN_STATUS_IMG_VALID 1 (setF F.FEN_STATUS_LAYOUT 0 (layoutCounted b))

/-- The registers of the image that the step `s` laid out. -/
def imageInForce (s : FenStep) (b : Block) : Block :=
  setF F.FEN_IMG_STATUS_SWAP_RESULT 1 (setF F.FEN_IMG_STATUS_STATE 3
    (setR R.FEN_IMG_ID (w32 (imgW b.fen.image 0x10)) (setR R.FEN_IMG_SWAP_FRAME (w32 s.frameNo) (layoutOver b))))

/-- The image in force journalled, and FEN_IMG ended. -/
def imageReported (s : FenStep) (b : Block) : Block :=
  setLevel Slot.fenImg false 0 (journal 0x06 0 0 (imgW b.fen.image 0x10) (imageInForce s b))

theorem layoutDone_idle (h : ∀ s, b.fen.step = some s → s.layout = false) : layoutDone b = b := by
  unfold layoutDone
  cases step : b.fen.step with
  | none => rfl
  | some s => simp [h s step]

theorem layoutDone_ends {s : FenStep} (step : b.fen.step = some s) (layout : s.layout = true) :
    layoutDone b = describeImage (imageReported s b) := by
  unfold layoutDone
  simp only [step, layout, Bool.not_true, Bool.false_eq_true, if_false]
  rfl

/-- The registers that describe the image as a whole (R220, R232). -/
def imageShown (b : Block) : Block :=
  let m := b.fen.image
  let total := imgNodes m b.fen.cells
  setR R.FEN_PACK_BASE (w32 (total - nPack m)) (setR R.FEN_PACK_CNT (w32 (nPack m)) (setR R.FEN_NODES (w32 total)
    (setR R.FEN_COST (w32 ((imgCost m b.fen.cells + 1023) / 1024)) (setR R.FEN_PARAM (w32 (copySize m b.fen.cells)) b))))

/-- The registers of cell `n`, in the image or absent. -/
def cellShown (m : List (Nat × Word)) (cs : List Nat) (n : Nat) (b : Block) : Block :=
  if cs.contains n then
    setR (R.FEN_CELL_BASE n) (w32 (cellBase b n)) (setF (F.FEN_CELL_STATUS_ABSENT n) 0 (setF (F.FEN_CELL_STATUS_CLASS n) (classOf b n)
      (setF (F.FEN_CELL_STATUS_NODES n) (tmplNodes m (tmplAt m (classOf b n))) b)))
  else setR (R.FEN_CELL_BASE n) 0 (setR (R.FEN_FAST_SOC n) 0 (setR (R.FEN_FAST_RSER n) 0 (setR (R.FEN_CELL_STATUS n) (w32 (2 ^ 19)) b)))

theorem describeImage_eq (b : Block) : describeImage b = describePred (each (span 1 192) (cellShown b.fen.image b.fen.cells) (imageShown b)) := rfl

theorem onlyRegs_cellShown (m : List (Nat × Word)) (cs : List Nat) (n : Nat) (b : Block) : cellShown m cs n b = { b with regs := (cellShown m cs n b).regs } := by
  unfold cellShown
  split <;> rfl
theorem onlyRegs_describePred (b : Block) : describePred b = { b with regs := (describePred b).regs } := by
  unfold describePred
  split <;> rfl
theorem onlyRegs_describeImage (b : Block) : describeImage b = { b with regs := (describeImage b).regs } := by
  rw [describeImage_eq]
  exact onlyRegs_trans (each_keeps (P := fun c => c = { b with regs := c.regs }) rfl fun n _ c kept => onlyRegs_trans kept (onlyRegs_cellShown _ _ n c))
    (onlyRegs_describePred _)

section
variable {lo hi : Nat} {still : Bool}

theorem Spared.cellShown {m : List (Nat × Word)} {cs : List Nat} {n : Nat} (below : hi ≤ 0x11000) (h : Spared lo hi still b c) :
    Spared lo hi still b (cellShown m cs n c) := by
  have status : R.FEN_CELL_STATUS n < lo ∨ hi ≤ R.FEN_CELL_STATUS n := .inr (Nat.le_add_right_of_le below)
  have base : R.FEN_CELL_BASE n < lo ∨ hi ≤ R.FEN_CELL_BASE n := by unfold R.FEN_CELL_BASE; omega
  have soc : R.FEN_FAST_SOC n < lo ∨ hi ≤ R.FEN_FAST_SOC n := by unfold R.FEN_FAST_SOC; omega
  have rser : R.FEN_FAST_RSER n < lo ∨ hi ≤ R.FEN_FAST_RSER n := by unfold R.FEN_FAST_RSER; omega
  exact .ite (.setR (.setF (.setF (.setF h status) status) status) base) (.setR (.setR (.setR (.setR h status) rser) soc) base)

/-- The description of the image lies in 0x10010 to 0x10037 and in the registers of the cells. -/
theorem Spared.describeImage (out : hi ≤ 0x10010 ∨ 0x10038 ≤ lo) (below : hi ≤ 0x11000) (h : Spared lo hi still b c) :
    Spared lo hi still b (describeImage c) := by
  have single : ∀ a, 0x10010 ≤ a → a < 0x10038 → a < lo ∨ hi ≤ a := by omega
  have whole : Spared lo hi still b (imageShown c) :=
    .setR (.setR (.setR (.setR (.setR h (single _ (by decide) (by decide))) (single _ (by decide) (by decide))) (single _ (by decide) (by decide)))
      (single _ (by decide) (by decide))) (single _ (by decide) (by decide))
  have cells := Spared.each (l := span 1 192) (f := Machine.cellShown c.fen.image c.fen.cells) whole fun _ _ _ h => h.cellShown below
  exact .ite cells (.setF cells (single _ (by decide) (by decide)))

end

theorem stepNum_stepDone (b : Block) : getR (stepDone b) R.FEN_STEP_NUM = getR b R.FEN_STEP_NUM + 1 := by
  rw [stepDone, getR_setR, incF, getR_setF_ne _ _ _ (by decide)]
theorem half_stepDone (b : Block) : getF (stepDone b) F.FEN_STATUS_HALF = 1 - getF b F.FEN_STATUS_HALF := by
  rw [stepDone, getF_of_getR (getR_setR_ne _ _ (by decide))]
  exact getF_incF_bit F.FEN_STATUS_HALF b (by decide) rfl

/-- What shows once the image is in force. -/
theorem imageInForce_shows (s : FenStep) (b : Block) : getF (imageInForce s b) F.FEN_STATUS_LAYOUT = 0 ∧ getF (imageInForce s b) F.FEN_STATUS_IMG_VALID = 1 ∧
    imgState (imageInForce s b) = 3 ∧ getF (imageInForce s b) F.FEN_IMG_STATUS_SWAP_RESULT = 1 ∧
    getR (imageInForce s b) R.FEN_IMG_ID = w32 (imgW b.fen.image 0x10) ∧ getR (imageInForce s b) R.FEN_IMG_SWAP_FRAME = w32 s.frameNo ∧
    getR (imageInForce s b) R.FEN_STEP_NUM = getR b R.FEN_STEP_NUM + 1 ∧ getF (imageInForce s b) F.FEN_STATUS_HALF = 1 - getF b F.FEN_STATUS_HALF := by
  have image : ∀ a, a ≠ R.FEN_IMG_STATUS → getR (imageInForce s b) a =
      getR (setR R.FEN_IMG_ID (w32 (imgW b.fen.image 0x10)) (setR R.FEN_IMG_SWAP_FRAME (w32 s.frameNo) (layoutOver b))) a := fun a other =>
    (getR_setF_ne F.FEN_IMG_STATUS_SWAP_RESULT 1 _ other).trans (getR_setF_ne F.FEN_IMG_STATUS_STATE 3 _ other)
  have low : ∀ a, a < 0x10100 → getR (imageInForce s b) a = getR (layoutOver b) a := fun a small => by
    have below : ∀ {r}, 0x10100 ≤ r → a ≠ r := fun above => Nat.ne_of_lt (small.trans_le above)
    exact (image a (below (by decide))).trans ((getR_setR_ne _ _ (below (by decide))).trans (getR_setR_ne _ _ (below (by decide))))
  refine ⟨?_, ?_, ?_, getF_setF F.FEN_IMG_STATUS_SWAP_RESULT 1 _ (by decide), ?_, ?_, ?_, ?_⟩
  · refine (getF_of_getR (low _ (by decide))).trans ((getF_setF_at F.FEN_STATUS_IMG_VALID F.FEN_STATUS_LAYOUT 1 _).trans ?_)
    exact getF_setF F.FEN_STATUS_LAYOUT 0 _ (by decide)
  · exact (getF_of_getR (low _ (by decide))).trans (getF_setF F.FEN_STATUS_IMG_VALID 1 _ (by decide))
  · exact (getF_setF_at F.FEN_IMG_STATUS_SWAP_RESULT F.FEN_IMG_STATUS_STATE 1 _).trans (getF_setF F.FEN_IMG_STATUS_STATE 3 _ (by decide))
  · exact (image _ (by decide)).trans (getR_setR _ _ _)
  · exact (image _ (by decide)).trans ((getR_setR_ne _ _ (by decide)).trans (getR_setR _ _ _))
  · refine (low _ (by decide)).trans ((getR_setF_ne F.FEN_STATUS_IMG_VALID 1 _ (by decide)).trans ((getR_setF_ne F.FEN_STATUS_LAYOUT 0 _ (by decide)).trans ?_))
    exact stepNum_stepDone _
  · refine (getF_of_getR (low _ (by decide))).trans ((getF_setF_at F.FEN_STATUS_IMG_VALID F.FEN_STATUS_HALF 1 _).trans
      ((getF_setF_at F.FEN_STATUS_LAYOUT F.FEN_STATUS_HALF 0 _).trans ?_))
    exact half_stepDone _

/-- The layout step's end: the registers show the image in force, and the journal keeps its identity. -/
theorem layoutDone_shows {s : FenStep} (step : b.fen.step = some s) (layout : s.layout = true) : let c := layoutDone b
    c.fen = { b.fen with step := none } ∧ getF c F.FEN_STATUS_LAYOUT = 0 ∧ getF c F.FEN_STATUS_IMG_VALID = 1 ∧ imgState c = 3 ∧
      getF c F.FEN_IMG_STATUS_SWAP_RESULT = 1 ∧ getR c R.FEN_IMG_ID = w32 (imgW b.fen.image 0x10) ∧ getR c R.FEN_IMG_SWAP_FRAME = w32 s.frameNo ∧
      getR c R.FEN_STEP_NUM = getR b R.FEN_STEP_NUM + 1 ∧ getF c F.FEN_STATUS_HALF = 1 - getF b F.FEN_STATUS_HALF ∧ (condOf c Slot.fenImg).level = false ∧
      c.lc = b.lc ∧ c.clock = b.clock ∧ c.led.queue = b.led.queue ++ [⟨0x06, 0, 0, imgW b.fen.image 0x10 % 2 ^ 32, devF b⟩] := by
  intro c
  have ends : c = describeImage (imageReported s b) := layoutDone_ends step layout
  have frame : c = { imageReported s b with regs := c.regs } := by
    rw [ends]
    exact onlyRegs_describeImage _
  have engine : Spared 0x10004 0x10010 true (imageReported s b) c := by
    rw [ends]
    exact .describeImage (.inl le_rfl) (by decide) .rfl
  have image : Spared 0x10100 0x10200 true (imageReported s b) c := by
    rw [ends]
    exact .describeImage (.inr (by decide)) (by decide) .rfl
  obtain ⟨ended, valid, state, result, id, number, num, half⟩ := imageInForce_shows s b
  refine ⟨?_, engine.getF.trans ended, engine.getF.trans valid, image.getF.trans state, image.getF.trans result, image.getR.trans id, image.getR.trans number,
    engine.getR.trans num, engine.getF.trans half, ?_, engine.lc, engine.clock, ?_⟩
  · rw [frame]
    rfl
  · rw [frame]
    exact level_setLevel Slot.fenImg 0 false _
  · rw [frame]
    rfl

end
end Sys2Proof.Machine

namespace Sys2Proof
open Machine

/-- Settles O55: each event of a rebuild, a build and a layout step by the lemma that says what it leaves; what a refit does to the copy is a fold over the cells that
there is something to refit from, and the image's description leaves what the layout step's end shows. -/
theorem copiesAndSwaps : Obligations.CopiesAndSwaps := by
  intro b q
  refine ⟨fun adapt image power idle builds swaps asked pend app reset => ?_, fun barred => ?_, fun runs => ⟨fun cells ok busy => ?_, fun cells ok idle => ?_,
    fun asked => ⟨buildStart b, ?_, buildStart_shows asked⟩, fun none => ?_, fun ok builds near => ⟨buildDone ok b, ?_, buildDone_shows ok builds near⟩,
    fun ok idle => ?_, fun s step layout => ⟨layoutDone b, ?_, layoutDone_shows step layout⟩, fun none => ?_⟩⟩
  · simp only [exec, execAdaptRebuildStart, run_eq, rebuildStart_begins adapt image power idle builds swaps asked pend app reset]
  · simp only [exec, execAdaptRebuildStart, run_eq, rebuildStart_barred barred]
  · obtain ⟨ended, fen, frame, good, bad⟩ := rebuildDone_shows cells ok busy
    have copy : (rebuildDone cells ok b).fen.other = refitCopy cells b := by rw [fen]
    refine ⟨rebuildDone cells ok b, ?_, ended, ?_, frame, fun n none => ?_, ?_⟩
    · simp only [exec, execAdaptRebuildDone, run_eq, inFrame_of_framesRun runs]
    · rw [copy, fen]
    · rw [copy]
      exact refitCopy_kept cells none
    · rw [copy]
      split
      next fine => exact good fine
      next fails => exact bad fails
  · simp only [exec, execAdaptRebuildDone, run_eq, inFrame_of_framesRun runs, rebuildDone_idle idle]
  · simp only [exec, execImageBuildStart, run_eq, runs, if_true]
  · simp only [exec, execImageBuildStart, run_eq, runs, if_true, buildStart_none none]
  · simp only [exec, execImageBuildDone, run_eq, inFrame_of_framesRun runs]
  · simp only [exec, execImageBuildDone, run_eq, inFrame_of_framesRun runs, buildDone_idle idle]
  · simp only [exec, execLayoutStepDone, run_eq, runs, if_true]
  · simp only [exec, execLayoutStepDone, run_eq, runs, if_true, layoutDone_idle none]

end Sys2Proof

namespace Sys2Proof.Machine

section
variable {b x : Block} {q : Nat}

/-! What staging reads (R234, R257). -/

/-- Block `x` has all that staging, its requests and their checks read as block `b` has it. -/
structure StagesAs (b x : Block) : Prop where
  fen : x.fen = b.fen
  act : x.act = b.act
  lc : x.lc = b.lc
  bist : x.bist = b.bist
  regs : ∀ a, a ∈ [R.FEN_STATUS, R.FEN_IMG_STATUS, R.BIST_FAILED] → getR x a = getR b a

/-- The checks that a swap request repeats (R257). -/
def swapRecheck (b : Block) : Option (Nat × Nat) := imgRecheck b.fen.staged (presentCells b) (stepMsNow b)

theorem presentCells_congr (act : x.act = b.act) : presentCells x = presentCells b := by
  have each : present x = present b := funext fun n => by rw [present, present, actF, actF, getA, getA, act]
  rw [presentCells, presentCells, each]

theorem StagesAs.status (h : StagesAs b x) : getR x R.FEN_IMG_STATUS = getR b R.FEN_IMG_STATUS := h.regs _ (by decide)
theorem StagesAs.state (h : StagesAs b x) : imgState x = imgState b := getF_of_getR h.status
theorem StagesAs.memOut (h : StagesAs b x) : memOut x = memOut b := memOut_congr (h.regs _ (by decide)) h.bist
theorem StagesAs.recheck (h : StagesAs b x) : swapRecheck x = swapRecheck b := by
  have step : stepMsNow x = stepMsNow b := congrArg stepMs (getF_of_getR (h.regs R.FEN_STATUS (by decide)))
  rw [swapRecheck, swapRecheck, h.fen, presentCells_congr h.act, step]
theorem StagesAs.shut (h : StagesAs b x) : stageShut x = stageShut b := by
  rw [stageShut, stageShut, h.state, h.memOut, lifeIs, lifeIs, h.lc]

/-- A started descriptor changes rings alone. -/
theorem StagesAs.startedCmd (op : Nat) (d : Desc) (b : Block) (small : q < 16) : StagesAs b (startedCmd q op d b) where
  fen := rfl
  act := rfl
  lc := rfl
  bist := rfl
  regs a mem := getR_startedCmd_ne q op d b fun same => by
    rw [same] at mem
    simp only [R.FEN_STATUS, R.FEN_IMG_STATUS, R.BIST_FAILED, R.HST_SQ_STATUS, List.mem_cons, List.not_mem_nil, or_false] at mem
    omega

/-! Staged words (R256). -/

theorem regRow_FEN_IMG_WADDR : regRow R.FEN_IMG_WADDR = some ⟨0x1010C, 1, 4, 1, 4, 0, 0, 0xFFFFFC, 0, 0, 0, 0⟩ := by decide

theorem stageShut_of_retired (life : b.lc.acting = .retired) : stageShut b = true := by simp [stageShut, lifeIs, life]

/-- A change of what is staged moves STATE and ends a swap request that waits. -/
theorem stageMoved_shows (n : Nat) (b : Block) : stageMoved n b = { b with regs := (stageMoved n b).regs, fen := { b.fen with swapAsk := false } } ∧
    imgState (stageMoved n b) = n % 16 ∧ RegsBut [R.FEN_IMG_STATUS] b (stageMoved n b) :=
  ⟨rfl, getF_setF F.FEN_IMG_STATUS_STATE n _ (by decide), .setF (f := F.FEN_IMG_STATUS_STATE) (.setF (f := F.FEN_IMG_STATUS_SIGNED) fun _ _ => rfl)⟩

/-- The staging address not past the end of the area. -/
def addrWithin (b : Block) : Block := { b with fen := { b.fen with wPast := false } }

theorem writeWaddr_shut {v : Word} (shut : stageShut b = true) : writeWaddr v b = setF F.FEN_IMG_STATUS_WR_IGN 1 b := if_pos shut
theorem writeWaddr_open {v : Word} (opened : stageShut b = false) : writeWaddr v b = stageMoved 1 (writeBits R.FEN_IMG_WADDR v (addrWithin b)) :=
  if_neg (by simp [opened])

theorem writeWaddr_shows (v : Word) (opened : stageShut b = false) : let c := writeWaddr v b
    c = { b with regs := c.regs, fen := { b.fen with wPast := false, swapAsk := false } } ∧ imgState c = 1 ∧
      getF c F.FEN_IMG_WADDR_ADDR = bitsOf v.toNat 2 22 ∧ RegsBut [R.FEN_IMG_WADDR, R.FEN_IMG_STATUS] b c := by
  intro c
  have written : c = stageMoved 1 (writeBits R.FEN_IMG_WADDR v (addrWithin b)) := writeWaddr_open opened
  obtain ⟨frame, state, regs⟩ := stageMoved_shows 1 (writeBits R.FEN_IMG_WADDR v (addrWithin b))
  rw [← written] at frame state regs
  refine ⟨?_, state, (getF_of_getR (regs _ (by decide))).trans ?_, fun a out => ?_⟩
  · rw [frame, onlyRegs_writeBits]
    rfl
  · exact getF_writeBits_rw F.FEN_IMG_WADDR_ADDR v (addrWithin b) _ rfl regRow_FEN_IMG_WADDR (by decide) (by decide) (by decide)
  · obtain ⟨other, other'⟩ : a ≠ R.FEN_IMG_WADDR ∧ a ≠ R.FEN_IMG_STATUS := by simpa using out
    exact (regs a (by simpa using other')).trans (getR_writeBits_ne v (addrWithin b) other)

/-- The word `v` stored at the staging address. -/
def wordStored (v : Word) (b : Block) : Block := { b with fen := { b.fen with
  staged := mapPut (fun _ => 0) b.fen.staged (getF b F.FEN_IMG_WADDR_ADDR) v, wPast := decide (getF b F.FEN_IMG_WADDR_ADDR = 0x3FFFFF) } }

theorem writeWdata_shut {v : Word} (shut : stageShut b = true ∨ b.fen.wPast = true) : writeWdata v b = setF F.FEN_IMG_STATUS_WR_IGN 1 b :=
  if_pos (by simpa using shut)
theorem writeWdata_open {v : Word} (opened : stageShut b = false) (within : b.fen.wPast = false) :
    writeWdata v b = setF F.FEN_IMG_WADDR_ADDR (getF b F.FEN_IMG_WADDR_ADDR + 1) (stageMoved 1 (wordStored v b)) :=
  if_neg (by simp [opened, within])

theorem writeWdata_shows (v : Word) (opened : stageShut b = false) (within : b.fen.wPast = false) : let c := writeWdata v b
    imgState c = 1 ∧
      c = { b with regs := c.regs, fen := { b.fen with staged := c.fen.staged, wPast := decide (getF b F.FEN_IMG_WADDR_ADDR = 0x3FFFFF), swapAsk := false } } ∧
      (∀ i, mapGet (fun _ => 0) c.fen.staged i = if i = getF b F.FEN_IMG_WADDR_ADDR then v else mapGet (fun _ => 0) b.fen.staged i) ∧
      getF c F.FEN_IMG_WADDR_ADDR = (getF b F.FEN_IMG_WADDR_ADDR + 1) % 2 ^ 22 ∧ RegsBut [R.FEN_IMG_WADDR, R.FEN_IMG_STATUS] b c := by
  intro c
  have written : c = setF F.FEN_IMG_WADDR_ADDR (getF b F.FEN_IMG_WADDR_ADDR + 1) (stageMoved 1 (wordStored v b)) := writeWdata_open opened within
  obtain ⟨-, state, regs⟩ := stageMoved_shows 1 (wordStored v b)
  rw [written]
  refine ⟨?_, rfl, fun i => mapGet_mapPut _ _ _ _ _, getF_setF F.FEN_IMG_WADDR_ADDR _ _ (by decide), .setF (f := F.FEN_IMG_WADDR_ADDR) fun a out => ?_⟩
  · exact (getF_setF_ne F.FEN_IMG_WADDR_ADDR F.FEN_IMG_STATUS_STATE _ _ (by decide)).trans state
  · exact regs a fun mem => out (List.mem_cons_of_mem _ mem)

/-- `n` words of `ws` put into a staging area from word offset `at_` on (R255). -/
def wordsPut (at_ n : Nat) (ws : List Word) (m : List (Nat × Word)) : List (Nat × Word) :=
  (List.range n).foldl (fun m i => mapPut (fun _ => 0) m (at_ + i) (ws.getD i 0)) m

theorem mapGet_wordsPut (at_ n : Nat) (ws : List Word) (m : List (Nat × Word)) (i : Nat) :
    mapGet (fun _ => 0) (wordsPut at_ n ws m) i = if at_ ≤ i ∧ i < at_ + n then ws.getD (i - at_) 0 else mapGet (fun _ => 0) m i := by
  induction n with
  | zero => exact (if_neg (by omega)).symm
  | succ n ih =>
    have last : wordsPut at_ (n + 1) ws m = mapPut (fun _ => 0) (wordsPut at_ n ws m) (at_ + n) (ws.getD n 0) := by
      rw [wordsPut, List.range_succ, List.foldl_append]
      rfl
    rw [last, mapGet_mapPut]
    by_cases here : i = at_ + n
    · rw [if_pos here, if_pos (by omega), here, Nat.add_sub_cancel_left]
    · rw [if_neg here, ih]
      exact if_congr (by omega) rfl rfl

/-! A staged image rejected (R254, R257). -/

/-- The image in staging rejected with a code, at an offset. -/
def stageRejected (v : Nat × Nat) (b : Block) : Block := setR R.FEN_IMG_DETAIL (w32 v.2) (setF F.FEN_IMG_STATUS_REJECT v.1 (setImgState 4 b))

theorem stageRejected_shows (v : Nat × Nat) (b : Block) : imgState (stageRejected v b) = 4 ∧
    getF (stageRejected v b) F.FEN_IMG_STATUS_REJECT = v.1 % 256 ∧ getR (stageRejected v b) R.FEN_IMG_DETAIL = w32 v.2 := by
  refine ⟨(getF_setR_ne _ _ _ _ (by decide)).trans ?_, (getF_setR_ne _ _ _ _ (by decide)).trans ?_, getR_setR _ _ _⟩
  · exact (getF_setF_at F.FEN_IMG_STATUS_REJECT F.FEN_IMG_STATUS_STATE _ _).trans (getF_setF F.FEN_IMG_STATUS_STATE 4 _ (by decide))
  · exact getF_setF F.FEN_IMG_STATUS_REJECT _ _ (by decide)

/-! VALIDATE (R234, R254). -/

theorem imgValidate_retired (life : b.lc.acting = .retired) : imgValidate b = b := if_pos (by simpa [lifeIs] using life)
theorem imgValidate_empty (life : b.lc.acting ≠ .retired) (state : imgState b = 0) : imgValidate b = stageRejected (1, 0) b := by
  simp only [imgValidate, lifeIs, life, state, decide_false, Bool.false_eq_true, if_false]
  rfl
theorem imgValidate_staged (life : b.lc.acting ≠ .retired) (state : imgState b = 1 ∨ imgState b = 4) : imgValidate b = setImgState 2 b := by
  rcases state with state | state <;> simp only [imgValidate, lifeIs, life, state, decide_false, Bool.false_eq_true, if_false]
theorem imgValidate_busy (life : b.lc.acting ≠ .retired) (state : imgState b = 2 ∨ imgState b = 3 ∨ imgState b = 5 ∨ imgState b = 6) : imgValidate b = b := by
  rcases state with state | state | state | state <;> simp only [imgValidate, lifeIs, life, state, decide_false, Bool.false_eq_true, if_false]

theorem onlyRegs_imgValidate (b : Block) : imgValidate b = { b with regs := (imgValidate b).regs } := by
  unfold imgValidate
  split
  · rfl
  · split <;> rfl

/-! A swap request (R234, R257). -/

/-- A swap request refused. -/
def swapRefused (b : Block) : Block := setF F.FEN_IMG_STATUS_SWAP_RESULT 2 b

/-- A swap request that waits for the next tick. -/
def swapAwaited (b : Block) : Block := { b with fen := { b.fen with swapAsk := true } }

theorem imgSwapAsk_retired (life : b.lc.acting = .retired) : imgSwapAsk b = b := if_pos (by simpa [lifeIs] using life)
theorem imgSwapAsk_refused (life : b.lc.acting ≠ .retired) (state : imgState b ≠ 3) : imgSwapAsk b = swapRefused b :=
  (if_neg (by simpa [lifeIs] using life)).trans (if_pos state)
theorem imgSwapAsk_checks (life : b.lc.acting ≠ .retired) (state : imgState b = 3) :
    imgSwapAsk b = (swapRecheck b).elim (swapAwaited b) fun v => swapRefused (stageRejected v b) := by
  simp only [imgSwapAsk, swapRecheck, lifeIs, life, state, decide_false, Bool.false_eq_true, if_false, ne_eq, not_true_eq_false]
  cases imgRecheck b.fen.staged (presentCells b) (stepMsNow b) <;> rfl
theorem imgSwapAsk_accepted (life : b.lc.acting ≠ .retired) (state : imgState b = 3) (good : swapRecheck b = none) : imgSwapAsk b = swapAwaited b := by
  rw [imgSwapAsk_checks life state, good]
  rfl
theorem imgSwapAsk_rejected {v : Nat × Nat} (life : b.lc.acting ≠ .retired) (state : imgState b = 3) (bad : swapRecheck b = some v) :
    imgSwapAsk b = swapRefused (stageRejected v b) := by
  rw [imgSwapAsk_checks life state, bad]
  rfl

/-- A refusal speaks of the result alone. -/
theorem swapRefused_shows (b : Block) : getF (swapRefused b) F.FEN_IMG_STATUS_SWAP_RESULT = 2 ∧ imgState (swapRefused b) = imgState b ∧
    getF (swapRefused b) F.FEN_IMG_STATUS_REJECT = getF b F.FEN_IMG_STATUS_REJECT ∧ RegsBut [R.FEN_IMG_STATUS] b (swapRefused b) :=
  ⟨getF_setF F.FEN_IMG_STATUS_SWAP_RESULT 2 b (by decide), getF_setF_at F.FEN_IMG_STATUS_SWAP_RESULT F.FEN_IMG_STATUS_STATE 2 b,
    getF_setF_at F.FEN_IMG_STATUS_SWAP_RESULT F.FEN_IMG_STATUS_REJECT 2 b, .setF (f := F.FEN_IMG_STATUS_SWAP_RESULT) .rfl⟩

/-- A swap request changes the registers of staging, and of the engine that a swap waits. -/
theorem imgSwapAsk_frame (b : Block) : imgSwapAsk b = { b with regs := (imgSwapAsk b).regs, fen := { b.fen with swapAsk := (imgSwapAsk b).fen.swapAsk } } ∧
    RegsBut [R.FEN_IMG_STATUS, R.FEN_IMG_DETAIL] b (imgSwapAsk b) := by
  by_cases life : b.lc.acting = .retired
  · rw [imgSwapAsk_retired life]
    exact ⟨rfl, .rfl⟩
  by_cases state : imgState b = 3
  · cases checks : swapRecheck b with
    | none =>
      rw [imgSwapAsk_accepted life state checks]
      exact ⟨rfl, fun _ _ => rfl⟩
    | some v =>
      rw [imgSwapAsk_rejected life state checks]
      exact ⟨rfl, .setF (f := F.FEN_IMG_STATUS_SWAP_RESULT) (.setR (.setF (f := F.FEN_IMG_STATUS_REJECT) (.setF (f := F.FEN_IMG_STATUS_STATE) .rfl)))⟩
  · rw [imgSwapAsk_refused life state]
    exact ⟨rfl, .setF (f := F.FEN_IMG_STATUS_SWAP_RESULT) .rfl⟩

/-! IMG_CLEAR (R234, R264). -/

/-- Nothing staged. -/
def stageEmptied (b : Block) : Block := stageMoved 0 { b with fen := { b.fen with staged := [] } }

/-- A write that staging ignores. -/
def stageIgnored (b : Block) : Block := setF F.FEN_IMG_STATUS_WR_IGN 1 b

theorem imgClear_empties (life : b.lc.acting ≠ .retired) (state : imgState b = 3 ∨ imgState b = 4) : imgClear b = stageEmptied b :=
  if_pos (by simpa [lifeIs, life] using state)
theorem imgClear_ignored (out : b.lc.acting = .retired ∨ imgState b ≠ 3 ∧ imgState b ≠ 4) : imgClear b = stageIgnored b := by
  refine if_neg ?_
  rcases out with life | ⟨valid, rejected⟩
  · simp [lifeIs, life]
  · simp [valid, rejected]

theorem stageIgnored_shows (b : Block) : (stageIgnored b).fen = b.fen ∧ getF (stageIgnored b) F.FEN_IMG_STATUS_WR_IGN = 1 ∧ imgState (stageIgnored b) = imgState b :=
  ⟨rfl, getF_setF F.FEN_IMG_STATUS_WR_IGN 1 b (by decide), getF_setF_at F.FEN_IMG_STATUS_WR_IGN F.FEN_IMG_STATUS_STATE 1 b⟩

theorem imgClear_frame (b : Block) : imgClear b =
    { b with regs := (imgClear b).regs, fen := { b.fen with staged := (imgClear b).fen.staged, swapAsk := (imgClear b).fen.swapAsk } } := by
  unfold imgClear
  split <;> rfl

end
end Sys2Proof.Machine

namespace Sys2Proof.Machine

section
variable {b : Block}

/-! The requests of FEN_IMG_CTL (R234, R254, R257, R264). -/

/-- The word `v` stored in FEN_IMG_CTL, SIG_REQ locked where it is set (R264). -/
def imgCtlStored (v : Word) (b : Block) : Block :=
  if bitOf v.toNat 8 then setF F.FEN_IMG_CTL_SIG_REQ 1 (writeBits R.FEN_IMG_CTL v b) else writeBits R.FEN_IMG_CTL v b

theorem writeImgCtl_stages (v : Word) (b : Block) : writeImgCtl v b =
    when (bitOf v.toNat 2) imgSwapAsk (when (bitOf v.toNat 1) imgValidate (when (bitOf v.toNat 0) imgClear (imgCtlStored v b))) := rfl

theorem imgCtlStored_frame (v : Word) (b : Block) : imgCtlStored v b = { b with regs := (imgCtlStored v b).regs } ∧
    RegsBut [R.FEN_IMG_CTL] b (imgCtlStored v b) := by
  unfold imgCtlStored
  refine ⟨?_, .ite (.setF (f := F.FEN_IMG_CTL_SIG_REQ) (.writeBits .rfl)) (.writeBits .rfl)⟩
  split
  · exact onlyRegs_trans (onlyRegs_writeBits R.FEN_IMG_CTL v b) rfl
  · exact onlyRegs_writeBits R.FEN_IMG_CTL v b

theorem StagesAs.imgCtlStored (v : Word) (b : Block) : StagesAs b (imgCtlStored v b) := by
  obtain ⟨frame, regs⟩ := imgCtlStored_frame v b
  refine ⟨by rw [frame], by rw [frame], by rw [frame], by rw [frame], fun a mem => regs a fun stored => ?_⟩
  rw [List.mem_singleton.mp stored] at mem
  exact absurd mem (by decide)

theorem bitOf_of_no_action {v : Word} (inert : bitsOf v.toNat 0 3 = 0) : bitOf v.toNat 0 = false ∧ bitOf v.toNat 1 = false ∧ bitOf v.toNat 2 = false := by
  simp only [bitsOf, bitOf, beq_eq_false_iff_ne] at inert ⊢
  omega

theorem writeImgCtl_clear {v : Word} (inert : bitsOf v.toNat 0 3 = 0) : writeImgCtl (v ||| 1) b = imgClear (imgCtlStored (v ||| 1) b) := by
  obtain ⟨-, validate, swap⟩ := bitOf_of_no_action inert
  rw [writeImgCtl_stages, bitOf_or v 1 0, bitOf_or v 1 1, bitOf_or v 1 2, validate, swap, Bool.or_comm (bitOf v.toNat 0)]
  rfl
theorem writeImgCtl_validate {v : Word} (inert : bitsOf v.toNat 0 3 = 0) : writeImgCtl (v ||| 2) b = imgValidate (imgCtlStored (v ||| 2) b) := by
  obtain ⟨clear, -, swap⟩ := bitOf_of_no_action inert
  rw [writeImgCtl_stages, bitOf_or v 2 0, bitOf_or v 2 1, bitOf_or v 2 2, clear, swap, Bool.or_comm (bitOf v.toNat 1)]
  rfl
theorem writeImgCtl_swap {v : Word} (inert : bitsOf v.toNat 0 3 = 0) : writeImgCtl (v ||| 4) b = imgSwapAsk (imgCtlStored (v ||| 4) b) := by
  obtain ⟨clear, validate, -⟩ := bitOf_of_no_action inert
  rw [writeImgCtl_stages, bitOf_or v 4 0, bitOf_or v 4 1, bitOf_or v 4 2, clear, validate, Bool.or_comm (bitOf v.toNat 2)]
  rfl

theorem validateAsked_shows {v : Word} (inert : bitsOf v.toNat 0 3 = 0) (b : Block) : let c := writeImgCtl (v ||| 2) b
    c = { b with regs := c.regs } ∧ (b.lc.acting = .retired → imgState c = imgState b) ∧ (b.lc.acting ≠ .retired →
      (imgState b = 0 → imgState c = 4 ∧ getF c F.FEN_IMG_STATUS_REJECT = 1 ∧ getR c R.FEN_IMG_DETAIL = 0) ∧
      (imgState b = 1 ∨ imgState b = 4 → imgState c = 2) ∧
      (imgState b = 2 ∨ imgState b = 3 ∨ imgState b = 5 ∨ imgState b = 6 → getR c R.FEN_IMG_STATUS = getR b R.FEN_IMG_STATUS)) := by
  intro c
  have asked : c = imgValidate (imgCtlStored (v ||| 2) b) := writeImgCtl_validate inert
  have same : StagesAs b (imgCtlStored (v ||| 2) b) := .imgCtlStored _ b
  have frame := onlyRegs_trans (imgCtlStored_frame (v ||| 2) b).1 (onlyRegs_imgValidate _)
  rw [asked]
  refine ⟨frame, ?_⟩
  rw [← same.lc, ← same.state]
  refine ⟨fun life => ?_, fun life => ⟨fun state => ?_, fun state => ?_, fun state => ?_⟩⟩
  · rw [imgValidate_retired life]
  · rw [imgValidate_empty life state]
    exact stageRejected_shows (1, 0) _
  · rw [imgValidate_staged life state]
    exact getF_setF F.FEN_IMG_STATUS_STATE 2 _ (by decide)
  · rw [imgValidate_busy life state, same.status]

theorem swapAsked_shows {v : Word} (inert : bitsOf v.toNat 0 3 = 0) (b : Block) : let d := writeImgCtl (v ||| 4) b
    d = { b with regs := d.regs, fen := { b.fen with swapAsk := d.fen.swapAsk } } ∧ (b.lc.acting = .retired → imgState d = imgState b ∧ d.fen = b.fen) ∧
    (b.lc.acting ≠ .retired →
      (imgState b ≠ 3 → d.fen = b.fen ∧ getF d F.FEN_IMG_STATUS_SWAP_RESULT = 2 ∧ imgState d = imgState b) ∧
      (imgState b = 3 → (swapRecheck b = none → d.fen.swapAsk = true ∧ getR d R.FEN_IMG_STATUS = getR b R.FEN_IMG_STATUS) ∧
        ∀ x, swapRecheck b = some x → d.fen = b.fen ∧ imgState d = 4 ∧ getF d F.FEN_IMG_STATUS_REJECT = x.1 % 256 ∧ getR d R.FEN_IMG_DETAIL = w32 x.2 ∧
          getF d F.FEN_IMG_STATUS_SWAP_RESULT = 2)) := by
  intro d
  have asked : d = imgSwapAsk (imgCtlStored (v ||| 4) b) := writeImgCtl_swap inert
  have same : StagesAs b (imgCtlStored (v ||| 4) b) := .imgCtlStored _ b
  obtain ⟨stored, -⟩ := imgCtlStored_frame (v ||| 4) b
  obtain ⟨frame, -⟩ := imgSwapAsk_frame (imgCtlStored (v ||| 4) b)
  rw [asked]
  refine ⟨?_, ?_⟩
  · rw [frame, stored]
  rw [← same.lc, ← same.state, ← same.recheck, ← same.fen]
  refine ⟨fun life => ?_, fun life => ⟨fun state => ?_, fun state => ⟨fun good => ?_, fun x bad => ?_⟩⟩⟩
  · rw [imgSwapAsk_retired life]
    exact ⟨rfl, rfl⟩
  · rw [imgSwapAsk_refused life state]
    obtain ⟨told, kept, -⟩ := swapRefused_shows (imgCtlStored (v ||| 4) b)
    exact ⟨rfl, told, kept⟩
  · rw [imgSwapAsk_accepted life state good]
    exact ⟨rfl, same.status⟩
  · rw [imgSwapAsk_rejected life state bad]
    obtain ⟨rejected, code, offset⟩ := stageRejected_shows x (imgCtlStored (v ||| 4) b)
    obtain ⟨told, kept, reject, regs⟩ := swapRefused_shows (stageRejected x (imgCtlStored (v ||| 4) b))
    exact ⟨rfl, kept.trans rejected, reject.trans code, (regs _ (by decide)).trans offset, told⟩

theorem clearAsked_shows {v : Word} (inert : bitsOf v.toNat 0 3 = 0) (b : Block) : let e := writeImgCtl (v ||| 1) b
    e = { b with regs := e.regs, fen := { b.fen with staged := e.fen.staged, swapAsk := e.fen.swapAsk } } ∧
    (b.lc.acting ≠ .retired → imgState b = 3 ∨ imgState b = 4 → imgState e = 0 ∧ e.fen.staged = [] ∧ e.fen.swapAsk = false) ∧
    (b.lc.acting = .retired ∨ imgState b ≠ 3 ∧ imgState b ≠ 4 → e.fen = b.fen ∧ getF e F.FEN_IMG_STATUS_WR_IGN = 1 ∧ imgState e = imgState b) := by
  intro e
  have asked : e = imgClear (imgCtlStored (v ||| 1) b) := writeImgCtl_clear inert
  have same : StagesAs b (imgCtlStored (v ||| 1) b) := .imgCtlStored _ b
  obtain ⟨stored, -⟩ := imgCtlStored_frame (v ||| 1) b
  rw [asked]
  refine ⟨?_, ?_⟩
  · rw [imgClear_frame, stored]
  rw [← same.lc, ← same.state, ← same.fen]
  refine ⟨fun life state => ?_, fun out => ?_⟩
  · rw [imgClear_empties life state]
    exact ⟨getF_setF F.FEN_IMG_STATUS_STATE 0 _ (by decide), rfl, rfl⟩
  · rw [imgClear_ignored out]
    exact stageIgnored_shows _

/-! IMG_VALIDATION_DONE (R254, R255). -/

/-- The outcome of the checks of R254. -/
def stagedVerdict (b : Block) : Option (Nat × Nat) :=
  imgVerdict b.fen.staged (presentCells b) (stepMs (getF b F.FEN_CTL_STEP)) (if isF b F.LC_STATE_KEY_SVC then b.lc.keySvc else none) (isF b F.FEN_IMG_CTL_SIG_REQ)

/-- The registers that describe an image that passed. -/
def stagedDescribed (b : Block) : Block :=
  setR R.FEN_IMG_NCALC (w32 (imgNodes b.fen.staged (presentCells b))) (setR R.FEN_IMG_PCALC (w32 (copySize b.fen.staged (presentCells b)))
    (setR R.FEN_IMG_STAGED_ID (w32 (imgW b.fen.staged 0x10)) (setR R.FEN_IMG_LEN (w32 (imgLen b.fen.staged)) b)))

/-- The image in staging has passed. -/
def stagePassed (b : Block) : Block :=
  putF F.FEN_IMG_STATUS_SIGNED (imgSignedFlag b.fen.staged) (setF F.FEN_IMG_STATUS_REJECT 0 (setImgState 3 (stagedDescribed b)))

/-- The image in staging has failed, and no signature stands. -/
def stageFailed (v : Nat × Nat) (b : Block) : Block := setF F.FEN_IMG_STATUS_SIGNED 0 (stageRejected v b)

theorem validationDone_idle (state : imgState b ≠ 2) : validationDone b = b := if_pos state
theorem validationDone_checks (state : imgState b = 2) (load : b.fen.load = none) :
    validationDone b = (stagedVerdict b).elim (stagePassed b) fun v => stageFailed v b := by
  rw [validationDone, if_neg (not_not.mpr state), stagedVerdict]
  dsimp only
  cases imgVerdict b.fen.staged (presentCells b) (stepMs (getF b F.FEN_CTL_STEP)) (if isF b F.LC_STATE_KEY_SVC then b.lc.keySvc else none)
    (isF b F.FEN_IMG_CTL_SIG_REQ)
  all_goals
    dsimp only
    split
    next => rfl
    next asked => exact absurd (asked.symm.trans load) nofun

theorem stagePassed_shows (b : Block) : imgState (stagePassed b) = 3 ∧ getF (stagePassed b) F.FEN_IMG_STATUS_REJECT = 0 ∧
    getR (stagePassed b) R.FEN_IMG_STAGED_ID = w32 (imgW b.fen.staged 0x10) ∧
    getR (stagePassed b) R.FEN_IMG_NCALC = w32 (imgNodes b.fen.staged (presentCells b)) := by
  have described : RegsBut [R.FEN_IMG_STATUS] (stagedDescribed b) (stagePassed b) :=
    .setF (f := F.FEN_IMG_STATUS_SIGNED) (.setF (f := F.FEN_IMG_STATUS_REJECT) (.setF (f := F.FEN_IMG_STATUS_STATE) .rfl))
  refine ⟨?_, ?_, (described _ (by decide)).trans ?_, (described _ (by decide)).trans (getR_setR _ _ _)⟩
  · exact (getF_setF_at F.FEN_IMG_STATUS_SIGNED F.FEN_IMG_STATUS_STATE _ _).trans
      ((getF_setF_at F.FEN_IMG_STATUS_REJECT F.FEN_IMG_STATUS_STATE _ _).trans (getF_setF F.FEN_IMG_STATUS_STATE 3 _ (by decide)))
  · exact (getF_setF_at F.FEN_IMG_STATUS_SIGNED F.FEN_IMG_STATUS_REJECT _ _).trans (getF_setF F.FEN_IMG_STATUS_REJECT 0 _ (by decide))
  · exact (getR_setR_ne _ _ (by decide)).trans ((getR_setR_ne _ _ (by decide)).trans (getR_setR _ _ _))

theorem stageFailed_shows (v : Nat × Nat) (b : Block) : imgState (stageFailed v b) = 4 ∧ getF (stageFailed v b) F.FEN_IMG_STATUS_REJECT = v.1 % 256 ∧
    getR (stageFailed v b) R.FEN_IMG_DETAIL = w32 v.2 := by
  obtain ⟨rejected, code, offset⟩ := stageRejected_shows v b
  exact ⟨(getF_setF_at F.FEN_IMG_STATUS_SIGNED F.FEN_IMG_STATUS_STATE _ _).trans rejected,
    (getF_setF_at F.FEN_IMG_STATUS_SIGNED F.FEN_IMG_STATUS_REJECT _ _).trans code, (getR_setF_ne F.FEN_IMG_STATUS_SIGNED 0 _ (by decide)).trans offset⟩

theorem validationDone_shows (state : imgState b = 2) (load : b.fen.load = none) : let c := validationDone b
    c = { b with regs := c.regs } ∧
      (stagedVerdict b = none → imgState c = 3 ∧ getF c F.FEN_IMG_STATUS_REJECT = 0 ∧ getR c R.FEN_IMG_STAGED_ID = w32 (imgW b.fen.staged 0x10) ∧
        getR c R.FEN_IMG_NCALC = w32 (imgNodes b.fen.staged (presentCells b))) ∧
      ∀ x, stagedVerdict b = some x → imgState c = 4 ∧ getF c F.FEN_IMG_STATUS_REJECT = x.1 % 256 ∧ getR c R.FEN_IMG_DETAIL = w32 x.2 := by
  intro c
  have checked : c = _ := validationDone_checks state load
  cases verdict : stagedVerdict b with
  | none =>
    rw [show c = stagePassed b by rw [checked, verdict]; rfl]
    exact ⟨rfl, fun _ => stagePassed_shows b, nofun⟩
  | some v =>
    rw [show c = stageFailed v b by rw [checked, verdict]; rfl]
    refine ⟨rfl, nofun, fun x found => ?_⟩
    cases found
    exact stageFailed_shows v b

end
end Sys2Proof.Machine

namespace Sys2Proof.Machine

section
variable {b : Block} {r : Fin 16} {d : Desc}

/-! IMG_SWAP and IMG_LOAD (R255, R257, R402, R403). -/

/-- A well-formed descriptor of a command that the life cycle bars completes with NOT_PERMITTED (R397). -/
theorem startCmd_forbidden {q op : Nat} {invalid : Bool} (go : Block → Block) (can : canStart b q = true) (resvd : d.resvd = 0)
    (valid : invalid = false) : startCmd q op d invalid true go b = finish q St.notPermitted 0 0 0 (startedCmd q op d b) := by
  simp only [startCmd, can, resvd, valid, Bool.not_true, Bool.false_eq_true, if_false, ne_eq, not_true_eq_false, or_self, if_true]
  rfl

/-- A command whose work is on staging alone completes. -/
theorem cmdCompletes_staging {op status detail r0 r1 : Nat} {x : Block} (can : canStart b r.val = true) (hst : x.hst = (startedCmd r.val op d b).hst)
    (regs : RegsBut [R.FEN_IMG_STATUS, R.FEN_IMG_DETAIL] (startedCmd r.val op d b) x) :
    CmdCompletes r.val op d detail status r0 r1 b (finish r.val status detail r0 r1 x) := by
  have below : ∀ a, a < 0x10000 → getR x a = getR (startedCmd r.val op d b) a := fun a low => regs a fun mem => by
    simp only [R.FEN_IMG_STATUS, R.FEN_IMG_DETAIL, List.mem_cons, List.not_mem_nil, or_false] at mem
    omega
  refine cmdCompletes_finish can hst (below _ ?_) ((getF_of_getR (f := F.HST_SQ_CTL_CQ r.val) (below _ ?_)).trans (cqNo_startedCmd _ _ _ _ _))
  · simp only [R.HST_SQ_STATUS]
    omega
  · simp only [F.HST_SQ_CTL_CQ, R.HST_SQ_CTL]
    omega

theorem getR_finish (q status detail r0 r1 : Nat) (b : Block) (a : Nat) : getR (finish q status detail r0 r1 b) a = getR b a :=
  getR_congr (by rw [finish_hst]) a
theorem fen_finish (q status detail r0 r1 : Nat) (b : Block) : (finish q status detail r0 r1 b).fen = b.fen := by rw [finish_hst]
theorem lc_finish (q status detail r0 r1 : Nat) (b : Block) : (finish q status detail r0 r1 b).lc = b.lc := by rw [finish_hst]

/-- The answer of IMG_SWAP to its ring: the request is made, and FEN_IMG_STATUS after it comes with the completion. -/
def swapAnswered (q : Nat) (b : Block) : Block :=
  let st := (getR (imgSwapAsk b) R.FEN_IMG_STATUS).toNat
  if swapAccepts b then finish q St.done 0 st 0 (imgSwapAsk b)
  else finish q St.refused (getF (imgSwapAsk b) F.FEN_IMG_STATUS_SWAP_RESULT) st 0 (imgSwapAsk b)

theorem swapAccepts_iff : swapAccepts b = true ↔ b.lc.acting ≠ .retired ∧ imgState b = 3 ∧ swapRecheck b = none := by
  simp [swapAccepts, swapRecheck, lifeIs, and_assoc]

/-- A swap request that is not accepted, out of RETIRED: the engine stays, the result says so, and an image that fails the checks is rejected. -/
theorem imgSwapAsk_denied (life : b.lc.acting ≠ .retired) (refuses : ¬ (imgState b = 3 ∧ swapRecheck b = none)) : (imgSwapAsk b).fen = b.fen ∧
    getF (imgSwapAsk b) F.FEN_IMG_STATUS_SWAP_RESULT = 2 ∧ ∀ x, imgState b = 3 → swapRecheck b = some x → imgState (imgSwapAsk b) = 4 := by
  by_cases state : imgState b = 3
  · cases checks : swapRecheck b with
    | none => exact absurd ⟨state, checks⟩ refuses
    | some v =>
      obtain ⟨rejected, -⟩ := stageRejected_shows v b
      obtain ⟨told, kept, -⟩ := swapRefused_shows (stageRejected v b)
      rw [imgSwapAsk_rejected life state checks]
      exact ⟨rfl, told, fun _ _ _ => kept.trans rejected⟩
  · rw [imgSwapAsk_refused life state]
    exact ⟨rfl, (swapRefused_shows b).1, fun _ valid => absurd valid state⟩

theorem swapAnswered_accepts (can : canStart b r.val = true) (life : b.lc.acting ≠ .retired) (state : imgState b = 3) (good : swapRecheck b = none) :
    let c := swapAnswered r.val (startedCmd r.val 0x07 d b)
    CmdCompletes r.val 0x07 d 0 St.done (getR b R.FEN_IMG_STATUS).toNat 0 b c ∧ c.fen.swapAsk = true ∧ c.lc = b.lc := by
  intro c
  have same : StagesAs b (startedCmd r.val 0x07 d b) := .startedCmd 0x07 d b r.isLt
  have awaited := imgSwapAsk_accepted (b := startedCmd r.val 0x07 d b) life (same.state.trans state) (same.recheck.trans good)
  have accepts := (swapAccepts_iff (b := startedCmd r.val 0x07 d b)).mpr ⟨life, same.state.trans state, same.recheck.trans good⟩
  have answer : c = finish r.val St.done 0 (getR b R.FEN_IMG_STATUS).toNat 0 (swapAwaited (startedCmd r.val 0x07 d b)) := by
    refine (if_pos accepts).trans ?_
    rw [awaited, ← same.status]
    rfl
  rw [answer, fen_finish, lc_finish]
  exact ⟨cmdCompletes_staging can rfl fun _ _ => rfl, rfl, rfl⟩

theorem swapAnswered_refuses (can : canStart b r.val = true) (life : b.lc.acting ≠ .retired) (refuses : ¬ (imgState b = 3 ∧ swapRecheck b = none)) :
    let c := swapAnswered r.val (startedCmd r.val 0x07 d b)
    CmdCompletes r.val 0x07 d 2 St.refused (getR c R.FEN_IMG_STATUS).toNat 0 b c ∧ getF c F.FEN_IMG_STATUS_SWAP_RESULT = 2 ∧ c.fen = b.fen ∧ c.lc = b.lc ∧
      ∀ x, imgState b = 3 → swapRecheck b = some x → imgState c = 4 := by
  intro c
  have same : StagesAs b (startedCmd r.val 0x07 d b) := .startedCmd 0x07 d b r.isLt
  have refuses' : ¬ (imgState (startedCmd r.val 0x07 d b) = 3 ∧ swapRecheck (startedCmd r.val 0x07 d b) = none) := by rwa [same.state, same.recheck]
  obtain ⟨fen, told, rejected⟩ := imgSwapAsk_denied (b := startedCmd r.val 0x07 d b) life refuses'
  obtain ⟨frame, regs⟩ := imgSwapAsk_frame (startedCmd r.val 0x07 d b)
  have answer : c = finish r.val St.refused 2 (getR (imgSwapAsk (startedCmd r.val 0x07 d b)) R.FEN_IMG_STATUS).toNat 0 (imgSwapAsk (startedCmd r.val 0x07 d b)) := by
    refine (if_neg fun accepts => refuses' (swapAccepts_iff.mp accepts).2).trans ?_
    rw [told]
  have shown : ∀ a, getR c a = getR (imgSwapAsk (startedCmd r.val 0x07 d b)) a := fun a => by rw [answer, getR_finish]
  refine ⟨?_, (getF_of_getR (shown _)).trans told, ?_, ?_, fun x state bad => ?_⟩
  · rw [shown, answer]
    exact cmdCompletes_staging can (by rw [frame]) regs
  · rw [answer, fen_finish, fen]
    rfl
  · rw [answer, lc_finish, frame]
    rfl
  · exact (getF_of_getR (shown _)).trans (rejected x (same.state.trans state) (same.recheck.trans bad))

theorem exec_imgSwap (q : List Instr) (can : canStart b r.val = true) (resvd : d.resvd = 0) (tail : tail0 d = true) (p0 : d.p0 = 0) (addr : d.addr = 0) :
    exec (.imgSwap r d) ⟨b, q⟩ = .next ⟨if b.lc.acting = .retired then finish r.val St.notPermitted 0 0 0 (startedCmd r.val 0x07 d b)
      else swapAnswered r.val (startedCmd r.val 0x07 d b), q⟩ := by
  have valid : (d.p0 != 0 || d.addr != 0 || !tail0 d) = false := by simp [p0, addr, tail]
  simp only [exec, execImgSwap, run_eq]
  split
  next life => rw [show lifeIs b .retired = true by simpa [lifeIs] using life, startCmd_forbidden _ can resvd valid]
  next life =>
    rw [startCmd_go _ can resvd valid (by simpa [lifeIs] using life)]
    rfl

/-- The words that an IMG_LOAD brings, in staging. -/
def stageLoaded (d : Desc) (ws : List Word) (b : Block) : Block :=
  stageMoved 1 { b with fen := { b.fen with staged := wordsPut (d.p1.toNat / 4) (d.p2.toNat / 4) ws b.fen.staged } }

theorem exec_imgLoad (q : List Instr) (ws : List Word) (can : canStart b r.val = true) (resvd : d.resvd = 0) (p0 : d.p0 = 0) (addr : badAddr d.addr = false)
    (p3 : d.p3 = 0) (p4 : d.p4 = 0) (life : b.lc.acting ≠ .retired) (near : memOut b = false) (opened : stageShut b = false) (ofs : d.p1.toNat % 4 = 0)
    (len : d.p2.toNat % 4 = 0) (fits : d.p1.toNat + d.p2.toNat ≤ 16777216) : let y := stageLoaded d ws (startedCmd r.val 0x06 d b)
    exec (.imgLoad r d (some ws)) ⟨b, q⟩ = .next ⟨finish r.val St.done 0 (getR y R.FEN_IMG_STATUS).toNat 0 y, q⟩ := by
  have valid : (decide (d.p0.toNat / 4 ≠ 0) || badAddr d.addr || d.p3 != 0 || d.p4 != 0) = false := by simp [p0, addr, p3, p4]
  have same : StagesAs b (startedCmd r.val 0x06 d b) := .startedCmd 0x06 d b r.isLt
  have plain : bitOf d.p0.toNat 0 = false := by rw [p0]; rfl
  have good : ¬ (d.p1.toNat % 4 ≠ 0 ∨ d.p2.toNat % 4 ≠ 0 ∨ 16777216 < d.p1.toNat + d.p2.toNat ∨ stageShut (startedCmd r.val 0x06 d b) = true) := by
    simp [same.shut, opened, ofs, len, fits]
  simp only [exec, execImgLoad, run_eq]
  rw [startCmd_go _ can resvd valid (by simpa [lifeIs] using life), if_neg (by rw [same.memOut, near]; decide), if_neg good, withData, if_neg (by rw [plain]; decide)]
  rfl

theorem stageLoaded_shows (ws : List Word) (b : Block) : imgState (stageLoaded d ws b) = 1 ∧ RegsBut [R.FEN_IMG_STATUS] b (stageLoaded d ws b) ∧
    (stageLoaded d ws b).hst = b.hst ∧ ∀ i, mapGet (fun _ => 0) (stageLoaded d ws b).fen.staged i =
      if d.p1.toNat / 4 ≤ i ∧ i < d.p1.toNat / 4 + d.p2.toNat / 4 then ws.getD (i - d.p1.toNat / 4) 0 else mapGet (fun _ => 0) b.fen.staged i := by
  obtain ⟨-, state, regs⟩ := stageMoved_shows 1 { b with fen := { b.fen with staged := wordsPut (d.p1.toNat / 4) (d.p2.toNat / 4) ws b.fen.staged } }
  exact ⟨state, regs, rfl, mapGet_wordsPut _ _ ws b.fen.staged⟩

/-- IMG_SWAP by the state that it finds. -/
theorem imgSwap_shows (q : List Instr) (can : canStart b r.val = true) (resvd : d.resvd = 0) (tail : tail0 d = true) (p0 : d.p0 = 0) (addr : d.addr = 0) :
    ∃ c, exec (.imgSwap r d) ⟨b, q⟩ = .next ⟨c, q⟩ ∧ c.lc = b.lc ∧
      (b.lc.acting = .retired → CmdCompletes r.val 0x07 d 0 St.notPermitted 0 0 b c) ∧
      (b.lc.acting ≠ .retired → imgState b ≠ 3 →
        CmdCompletes r.val 0x07 d 2 St.refused (getR c R.FEN_IMG_STATUS).toNat 0 b c ∧ getF c F.FEN_IMG_STATUS_SWAP_RESULT = 2) ∧
      (b.lc.acting ≠ .retired → imgState b = 3 → swapRecheck b = none →
        CmdCompletes r.val 0x07 d 0 St.done (getR b R.FEN_IMG_STATUS).toNat 0 b c ∧ c.fen.swapAsk = true) ∧
      ∀ x, b.lc.acting ≠ .retired → imgState b = 3 → swapRecheck b = some x →
        CmdCompletes r.val 0x07 d 2 St.refused (getR c R.FEN_IMG_STATUS).toNat 0 b c ∧ imgState c = 4 ∧ c.fen.swapAsk = b.fen.swapAsk := by
  rw [exec_imgSwap q can resvd tail p0 addr]
  by_cases life : b.lc.acting = .retired
  · rw [if_pos life]
    exact ⟨_, rfl, lc_finish _ _ _ _ _ _, fun _ => cmdCompletes_staging can rfl .rfl, fun h => absurd life h, fun h => absurd life h, fun _ h => absurd life h⟩
  rw [if_neg life]
  by_cases accepts : imgState b = 3 ∧ swapRecheck b = none
  · obtain ⟨state, good⟩ := accepts
    obtain ⟨completes, waits, lc⟩ := swapAnswered_accepts (d := d) can life state good
    exact ⟨_, rfl, lc, fun h => absurd h life, fun _ h => absurd state h, fun _ _ _ => ⟨completes, waits⟩, fun x _ _ bad => by simp [good] at bad⟩
  · obtain ⟨completes, told, fen, lc, rejected⟩ := swapAnswered_refuses (d := d) can life accepts
    exact ⟨_, rfl, lc, fun h => absurd h life, fun _ _ => ⟨completes, told⟩, fun _ state good => absurd ⟨state, good⟩ accepts,
      fun x _ state bad => ⟨completes, rejected x state bad, by rw [fen]⟩⟩

theorem imgLoad_shows (q : List Instr) (ws : List Word) (can : canStart b r.val = true) (resvd : d.resvd = 0) (p0 : d.p0 = 0) (addr : badAddr d.addr = false)
    (p3 : d.p3 = 0) (p4 : d.p4 = 0) (life : b.lc.acting ≠ .retired) (near : memOut b = false) (opened : stageShut b = false) (ofs : d.p1.toNat % 4 = 0)
    (len : d.p2.toNat % 4 = 0) (fits : d.p1.toNat + d.p2.toNat ≤ 16777216) :
    ∃ c, exec (.imgLoad r d (some ws)) ⟨b, q⟩ = .next ⟨c, q⟩ ∧ CmdCompletes r.val 0x06 d 0 St.done (getR c R.FEN_IMG_STATUS).toNat 0 b c ∧ imgState c = 1 ∧
      (∀ i, mapGet (fun _ => 0) c.fen.staged i =
        if d.p1.toNat / 4 ≤ i ∧ i < d.p1.toNat / 4 + d.p2.toNat / 4 then ws.getD (i - d.p1.toNat / 4) 0 else mapGet (fun _ => 0) b.fen.staged i) ∧
      RegsBut [R.HST_SQ_STATUS r.val, R.FEN_IMG_STATUS] b c := by
  obtain ⟨state, regs, hst, words⟩ := stageLoaded_shows (d := d) ws (startedCmd r.val 0x06 d b)
  refine ⟨_, exec_imgLoad q ws can resvd p0 addr p3 p4 life near opened ofs len fits, ?_, (getF_of_getR (getR_finish ..)).trans state, fun i => ?_, fun a out => ?_⟩
  · rw [getR_finish]
    exact cmdCompletes_staging can hst fun a out => regs a fun mem => out (List.mem_append_left [_] mem)
  · rw [fen_finish]
    exact words i
  · obtain ⟨ring, status⟩ : a ≠ R.HST_SQ_STATUS r.val ∧ a ≠ R.FEN_IMG_STATUS := by simpa using out
    exact (getR_finish ..).trans ((regs a (by simpa using status)).trans (getR_startedCmd_ne _ _ _ _ ring))

end
end Sys2Proof.Machine

namespace Sys2Proof
open Machine

/-- Settles O56: staging by the lemmas of a write of the address and of a word, each request of FEN_IMG_CTL as it acts on the block with the word stored, which staging
does not tell from the block before, the outcome of the checks, and the ring commands as requests of a block whose descriptor has started. That an address past the last
word reads 0, and that data are ignored then, is a choice of the model (log entry 12). -/
theorem imageStaging : Obligations.ImageStaging := by
  intro b q
  refine ⟨fun v on => ⟨stageShut_of_retired, fun shut => ⟨?_, ?_⟩, fun opened => ⟨⟨writeWaddr v b, ?_, writeWaddr_shows v opened⟩, fun past => ?_,
    fun within => ⟨writeWdata v b, ?_, writeWdata_shows v opened within⟩⟩, fun inert => ?_⟩,
    fun runs state load => ⟨validationDone b, ?_, validationDone_shows state load⟩,
    fun runs state => ?_, fun r d can resvd tail p0 addr => imgSwap_shows q can resvd tail p0 addr,
    fun r d ws can resvd p0 addr p3 p4 life near opened ofs len fits => imgLoad_shows q ws can resvd p0 addr p3 p4 life near opened ofs len fits⟩
  · simp only [exec, execFenImgWaddr, run_eq, on, if_true, writeWaddr_shut shut]
  · simp only [exec, execFenImgWdata, run_eq, on, if_true, writeWdata_shut (.inl shut)]
  · simp only [exec, execFenImgWaddr, run_eq, on, if_true]
  · simp only [exec, execFenImgWdata, run_eq, on, if_true, writeWdata_shut (.inr past)]
  · simp only [exec, execFenImgWdata, run_eq, on, if_true]
  · obtain ⟨regs, retired, validates⟩ := validateAsked_shows inert b
    obtain ⟨frame, retired', swaps⟩ := swapAsked_shows inert b
    obtain ⟨frame', clears, ignored⟩ := clearAsked_shows inert b
    refine ⟨writeImgCtl (v ||| 2) b, writeImgCtl (v ||| 4) b, writeImgCtl (v ||| 1) b, ?_, ?_, ?_, regs, frame, frame', fun life => ?_, fun life => ?_⟩
    · simp only [exec, execImgValidate, run_eq, on, if_true]
    · simp only [exec, execImgSwapRequest, run_eq, on, if_true]
    · simp only [exec, execImgClear, run_eq, on, if_true]
    · obtain ⟨kept, fen⟩ := retired' life
      obtain ⟨fen', told, kept'⟩ := ignored (.inl life)
      exact ⟨retired life, kept, fen, kept', fen', told⟩
    · obtain ⟨empty, staged, busy⟩ := validates life
      obtain ⟨refused, judged⟩ := swaps life
      exact ⟨empty, staged, busy, refused, judged, clears life, fun valid rejected => ignored (.inr ⟨valid, rejected⟩)⟩
  · simp only [exec, execImgValidationDone, run_eq, inFrame_of_framesRun runs]
  · simp only [exec, execImgValidationDone, run_eq, inFrame_of_framesRun runs, validationDone_idle state]

end Sys2Proof
